-- ==== Sys2Proof/Word.lean ====
section
/-!
DEFINITION. The words of the KV7192 and their plainest arithmetic: 8-, 16-, 32-, 48-, 64- and 72-bit values, bit
slices, saturation (R66) and two's-complement readings.
-/
namespace Sys2Proof

/-- A register or memory word (R470, R44). -/
abbrev W := BitVec 32
/-- A byte. -/
abbrev Byte := BitVec 8
/-- An accumulator of 72 bits (Table 3.2). -/
abbrev Acc := BitVec 72
/-- A timestamp, a count of PCLK cycles (R23). -/
abbrev TS := BitVec 64

/-- Bits `hi:lo` of a word, as a number. -/
def W.bits (w : W) (hi lo : Nat) : Nat := (w.toNat >>> lo) % 2 ^ (hi + 1 - lo)
/-- Bit `i` of a word. -/
def W.bit (w : W) (i : Nat) : Bool := w.getLsbD i
/-- A field value placed at bit `lo`. -/
def fld (v lo : Nat) : W := BitVec.ofNat 32 (v <<< lo)
/-- A flag placed at bit `lo`. -/
def flag (b : Bool) (lo : Nat) : W := if b then fld 1 lo else 0
/-- A Bool as a number. -/
def b2n (b : Bool) : Nat := if b then 1 else 0
/-- The largest signed 32-bit value. -/
def max32 : Int := 2147483647
/-- The smallest signed 32-bit value. -/
def min32 : Int := -2147483648
/-- sat32 of R66: clips to −2^31 .. 2^31 − 1. -/
def sat32 (x : Int) : Int := if x < min32 then min32 else if x > max32 then max32 else x
/-- asr of R66: an arithmetic right shift, rounding towards minus infinity. -/
def asr (x : Int) (k : Nat) : Int := x / (2 ^ k : Int)
/-- An integer as a 32-bit word (wrapping). -/
def iw (x : Int) : W := BitVec.ofInt 32 x
/-- A word from a number (wrapping). -/
def nw (x : Nat) : W := BitVec.ofNat 32 x
/-- Floor division of an integer by a positive count (R236, R254). -/
def floorDiv (x : Int) (n : Nat) : Int := x / (n : Int)
/-- ceil(a / b). -/
def ceilDiv (a b : Nat) : Nat := (a + b - 1) / b
/-- Saturating decrement used by down counters. -/
def dec (n : Nat) : Nat := n - 1
/-- The low and high words of a timestamp. -/
def lo32 (t : BitVec 64) : W := t.truncate 32
/-- The high word of a timestamp. -/
def hi32 (t : BitVec 64) : W := (t >>> 32).truncate 32

end Sys2Proof
end

