-- ==== Sys2Proof/Syntax.lean ====
section
/-!
DEFINITION. The commands of the KV7192: the operand types and the ONE inductive `Sys2Proof.Instr`, one constructor per
row of spec/opcode_table.json (the table gives no operands and no bits; each row's operands are those its rule names:
log entry 1).
-/
namespace Sys2Proof

/-- A channel, ch0..ch191 (R2). -/
abbrev Ch := Fin 192
/-- A stage link, L0..L63 (R2). -/
abbrev LinkNo := Fin 64
/-- A task context, T0..T511 (R2, R35). -/
abbrev Ctx := Fin 512
/-- A join address, J0..J1023 (R2). -/
abbrev JAddr := BitVec 10

/-- The fields of an A-form instruction word (Table 3.5): d, a, b and the subfields SH and MOD of f. -/
structure AForm where
  d : BitVec 5
  a : BitVec 5
  b : BitVec 5
  sh : BitVec 5
  md : BitVec 4
deriving DecidableEq, Repr

/-- The fields of a B-form instruction word (Table 3.5). -/
structure BForm where
  d : BitVec 5
  a : BitVec 5
  imm : BitVec 14
deriving DecidableEq, Repr

/-- The fields of a C-form instruction word (Table 3.5). -/
structure CForm where
  cond : BitVec 4
  cnt : BitVec 6
  off : BitVec 14
deriving DecidableEq, Repr

/-- The fields of a D-form instruction word (Table 3.5). -/
structure DForm where
  d : BitVec 5
  space : BitVec 3
  addr : BitVec 16
deriving DecidableEq, Repr

/-- The fields of an E-form instruction: the first word's d, a, x and the extension word (Table 3.5). -/
structure EForm where
  d : BitVec 5
  a : BitVec 5
  x : BitVec 14
  ext : W
deriving DecidableEq, Repr

/-- An engine, by kind and number (R2, R34). -/
inductive Eng where
  | le (k : Fin 48)
  | se (k : Fin 4)
  | ue (k : Fin 4)
deriving DecidableEq, Repr

/-- Event classes in rising severity (R227, R377). -/
inductive EvClass where
  | ce | uc | fe
deriving DecidableEq, Repr

/-- The service streams of a stage link (R197). -/
inductive Stream where
  | dev | host | capture
deriving DecidableEq, Repr

/-- Recorder tiers (Table 10.1). -/
inductive Tier where
  | espresso | lungo | carafe
deriving DecidableEq, Repr

/-- PLL reference sources, in the order of REFSEL (Table 2.5). -/
inductive RefSel where
  | xtal | ja | jb | pair
deriving DecidableEq, Repr

/-- Wake sources of CTU_WAKE (Table 2.9). -/
inductive WakeSrc where
  | tw (p : Fin 4)
  | pcie
  | shaft
deriving DecidableEq, Repr

/-- Join ports (R339). -/
inductive JPort where
  | ja | jb
deriving DecidableEq, Repr

/-- Pair roles (R353). -/
inductive PairRole where
  | solo | lead | standby
deriving DecidableEq, Repr

/-- Fenceable units, and the partner device of READMIT kind 5 (R384). -/
inductive HwUnit where
  | le (k : Fin 48)
  | se (k : Fin 4)
  | ue (k : Fin 4)
  | slc (l : Fin 64)
  | bank (b : Fin 8)
  | partner
deriving DecidableEq, Repr

/-- Events of the host link: those of E961 (R144), an AER error, a downtrain to a speed (0: 2.5, 1: 5, 2: 8 GT/s) and a width (1, 2
or 4 lanes) and link down, and the host's resets and configuration of the endpoint. -/
inductive HostLinkEv where
  | aer
  | downtrain (speed : Fin 3) (width : BitVec 3)
  | down
  /-- A hot reset of the endpoint (R210). -/
  | hotReset
  /-- The host takes the endpoint into D3hot (R208, R210). -/
  | d3hot
  /-- The host returns the endpoint from D3hot to D0 (R208). -/
  | d0
  /-- The host writes MSI-X enable with bus mastering, and the mask bits with the function mask (R230). -/
  | msix (on : Bool) (mask : BitVec 64)
deriving DecidableEq, Repr

/-- The two numbers of an RDATA message (R199): ARG, the SEQ of the READ it answers, and its own SEQ. -/
structure RdataSeq where
  arg : BitVec 8
  own : BitVec 8
deriving DecidableEq, Repr

/-- The states of a sequence (Table 7.3). -/
inductive SeqSt where
  | off | up | on | down | paused | unwind | fault | retryWait | locked
deriving DecidableEq, Repr

/-- The ITYPE of an inbound frame (Table 8.5); `reserved` is 0b11. -/
inductive IType where
  | train | neg | run | reserved
deriving DecidableEq, Repr

/-- One slot's channel block of an inbound frame (Table 8.3). -/
structure ChBlock where
  a : BitVec 16
  b : BitVec 16
  c : BitVec 16
  d : BitVec 16
  mstat : BitVec 16
deriving DecidableEq, Repr

/-- An inbound frame as the receiver has it (Tables 8.3 and 8.5): its header fields, TICK echo, LASTOWN bits 7:0, the
three channel blocks, and the receiver's findings on the frame CRC and on the arrival of its last symbol (R202). -/
structure InFrame where
  itype : IType
  owner : BitVec 2
  port : Bool
  tick : BitVec 16
  lastown : BitVec 8
  blk : Vector ChBlock 3
  crcOk : Bool
  onTime : Bool
  /-- SOMD, SOMH and SOMC of MHDR, bits 2 to 0. -/
  som : BitVec 3
  /-- The service words: 20, or the CFG word of the short layout. -/
  svc : List W
deriving DecidableEq, Repr

/-- What the device has measured and received by the end of a training step (R192): the mean comma round trip in ns
before TA is taken off, the module's VMAX, TA, S_OFF, S_READY of TCTL, and DIGEST. -/
structure TrainMeas where
  tripNs : Nat
  vmax : Nat
  ta : Nat
  sOff : Nat
  sReady : Nat
  digest : W
deriving DecidableEq, Repr

/-- One acyclic cell of a join train (Table 16.5), without its CRC. -/
structure Cell where
  full : Bool
  carried : Bool
  kind : BitVec 6
  seq : BitVec 4
  src : BitVec 10
  dst : BitVec 10
  pay : List W
deriving DecidableEq, Repr

/-- One cyclic slot of a join train with its FRESH and CARRIED bits (Table 16.4). -/
structure JSlot where
  fresh : Bool
  carried : Bool
  w0 : W
  w1 : W
  w2 : W
deriving DecidableEq, Repr

/-- A join train as it passes a device (Tables 16.2 to 16.4): the SYNC fields, the cells, and the slots by join address;
`syncOk` and the `bad…` lists say which parts arrived with a correct CRC (R343). -/
structure Train where
  cycleTc : BitVec 48
  ring : Bool
  enumF : Bool
  lineJa : Bool
  g : Nat
  ndev : Nat
  delayAcc : Nat
  mserial : W
  syncOk : Bool
  cells : List Cell
  badCells : List Nat
  slots : List JSlot
  badGroups : List Nat
deriving DecidableEq, Repr

/-- CHECK of a tick cell (Table 17.5). -/
inductive CheckRes where
  | none | running | pass | fail
deriving DecidableEq, Repr

/-- Pair states (Table 17.12). -/
inductive PState where
  | none | seek | mismatch | clash | alone | resync | inSync | dispute | isolated | fenced | degraded
deriving DecidableEq, Repr

/-- A tick cell of the pair link (Table 17.5) that arrived with a correct CRC. -/
structure TickCell where
  role : PairRole
  side : Bool
  yield : Bool
  takeover : Bool
  check : CheckRes
  pstate : PState
  tc : BitVec 16
  mask : BitVec 64
  odig : BitVec 64
  sdig : W
deriving DecidableEq, Repr

/-- Channel states (Table 5.3). -/
inductive ChanSt where
  | off | arming | control | hold | safe | fenced
deriving DecidableEq, Repr

/-- Trigger states (Table 10.9). -/
inductive TrigSt where
  | idle | armed | fired | frozen
deriving DecidableEq, Repr

/-- One item of the RESYNC copy set (R371). -/
inductive CopyItem where
  | shared (addr : Nat) (ws : List W)
  | nv (off : Nat) (bs : List Byte)
  | loc (c : Ctx) (a : Nat) (ws : List W)
  | table (c : Ctx) (t1 : Bool) (a : Nat) (ws : List W)
  | bank (c : Ctx) (b1 : Bool) (a : Nat) (ws : List W)
  | regs (c : Ctx) (ws : List W)
  | chan (n : Ch) (st : ChanSt) (armLeft : Nat) (restart : Bool)
  | check (c : Ctx) (i : Fin 4) (cnt : Nat)
  | armed (c : Ctx) (on : Bool)
  | ledger (k : Fin 64) (q : BitVec 64) (qIn qOut : Nat) (last : W) (ticks : Nat)
  | tmu (n : Ch) (tj tc th ta : W)
  | tmuStores (n : Ch) (rows : List (W × W × W × W))
  | spu (i : Fin 4) (locked : Bool) (k : Nat) (tsLast : BitVec 64) (interval : Nat)
  | trig (i : Fin 32) (st : TrigSt)
deriving DecidableEq, Repr

/-- The head of a pilot message (Table 14.2) that passed the checks of R313. -/
structure PilotHead where
  gen : BitVec 2
  feed : Bool
  tag : BitVec 5
deriving DecidableEq, Repr

/-- One offer of TERMS (Table 14.3): V_HI and V_LO in 0.1 V, I_MAX in 0.1 A. -/
structure Offer where
  vHi : BitVec 16
  vLo : BitVec 16
  iMax : BitVec 16
deriving DecidableEq, Repr

/-- How a controller attempt ended on the wire (R329). -/
inductive TwRes where
  | done (rd : List (BitVec 8))
  | nackAddr
  | nackData (i : Nat)
  | pecErr (rd : List (BitVec 8))
deriving DecidableEq, Repr

/-- The commands: one constructor per row of spec/opcode_table.json, in the table's order. -/
inductive Instr where
  /-- NOP (R69): The engine issues NOP, which does nothing but take one issue cycle. -/
  | nop (c : Ctx) (f : AForm)
  /-- MOV (R69): The engine copies v[a] into v[d]. -/
  | mov (c : Ctx) (f : AForm)
  /-- LDI (R69): The engine loads the sign-extended imm14 into v[d]. -/
  | ldi (c : Ctx) (f : BForm)
  /-- LDK (R69): The engine loads the 32-bit extension word into v[d]. -/
  | ldk (c : Ctx) (f : EForm)
  /-- SEL (R69): The engine selects v[a] or v[b] into v[d] by a condition code. -/
  | sel (c : Ctx) (f : AForm)
  /-- CMP (R69): The engine compares two registers and sets Z, N and C; in S it writes -1, 0 or +1 to s[d] (R168). -/
  | cmp (c : Ctx) (f : AForm)
  /-- CMPI (R69): The engine compares a register with a sign-extended immediate. -/
  | cmpi (c : Ctx) (f : BForm)
  /-- FCMP (R69): The engine compares two binary32 values and sets Z, N and C, with unordered results. -/
  | fcmp (c : Ctx) (f : AForm)
  /-- ADD (R70): The engine adds two registers, wrapping or saturating. -/
  | add (c : Ctx) (f : AForm)
  /-- SUB (R70): The engine subtracts two registers, wrapping or saturating. -/
  | sub (c : Ctx) (f : AForm)
  /-- ADDI (R70): The engine adds a sign-extended immediate to a register, wrapping. -/
  | addi (c : Ctx) (f : BForm)
  /-- MUL (R70): The engine multiplies, shifts right with optional rounding and saturates into v[d]. -/
  | mul (c : Ctx) (f : AForm)
  /-- NEG (R70): The engine negates a fixed value with saturation, or inverts the sign bit in F form. -/
  | neg (c : Ctx) (f : AForm)
  /-- ABS (R70): The engine takes the saturated absolute value, or clears the sign bit in F form. -/
  | abs (c : Ctx) (f : AForm)
  /-- MIN (R70): The engine writes the signed or binary32 minimum of two operands. -/
  | min (c : Ctx) (f : AForm)
  /-- MAX (R70): The engine writes the signed or binary32 maximum of two operands. -/
  | max (c : Ctx) (f : AForm)
  /-- AND (R70): The engine writes the bitwise AND of two registers. -/
  | andW (c : Ctx) (f : AForm)
  /-- OR (R70): The engine writes the bitwise OR of two registers. -/
  | orW (c : Ctx) (f : AForm)
  /-- XOR (R70): The engine writes the bitwise XOR of two registers. -/
  | xorW (c : Ctx) (f : AForm)
  /-- SHL (R70): The engine shifts left, wrapping or saturating. -/
  | shl (c : Ctx) (f : AForm)
  /-- ASR (R70): The engine shifts right arithmetically. -/
  | asr (c : Ctx) (f : AForm)
  /-- LSR (R70): The engine shifts right logically, zero-filled. -/
  | lsr (c : Ctx) (f : AForm)
  /-- MAC (R71): The engine adds a full product into a 72-bit accumulator. -/
  | mac (c : Ctx) (f : AForm)
  /-- MSU (R71): The engine subtracts a full product from a 72-bit accumulator. -/
  | msu (c : Ctx) (f : AForm)
  /-- MCLR (R71): The engine clears an accumulator. -/
  | mclr (c : Ctx) (f : AForm)
  /-- MLD (R71): The engine loads a shifted, sign-extended register into an accumulator. -/
  | mld (c : Ctx) (f : AForm)
  /-- MRD (R71): The engine reads an accumulator, shifted, rounded and saturated, into v[d]. -/
  | mrd (c : Ctx) (f : AForm)
  /-- FADD (R72): The engine adds two binary32 values. -/
  | fadd (c : Ctx) (f : AForm)
  /-- FSUB (R72): The engine subtracts two binary32 values. -/
  | fsub (c : Ctx) (f : AForm)
  /-- FMUL (R72): The engine multiplies two binary32 values. -/
  | fmul (c : Ctx) (f : AForm)
  /-- FMA (R72): The engine performs a fused binary32 multiply-add into v[d]. -/
  | fma (c : Ctx) (f : AForm)
  /-- FDIV (R72): The engine divides two binary32 values. -/
  | fdiv (c : Ctx) (f : AForm)
  /-- FSQRT (R72): The engine takes a binary32 square root. -/
  | fsqrt (c : Ctx) (f : AForm)
  /-- CVTF (R72): The engine converts a scaled fixed value to binary32. -/
  | cvtf (c : Ctx) (f : AForm)
  /-- CVTI (R72): The engine converts binary32 to a saturated, scaled fixed value. -/
  | cvti (c : Ctx) (f : AForm)
  /-- SAT (R74): The engine saturates to w bits and sets S when it clips. -/
  | sat (c : Ctx) (f : AForm)
  /-- CLAMP (R74): The engine clamps between v[b] and v[b+1] and sets S when it clips. -/
  | clamp (c : Ctx) (f : AForm)
  /-- INTG (R75): The engine integrates into v[d] unless S is 1. -/
  | intg (c : Ctx) (f : AForm)
  /-- DIFF (R76): The engine writes the difference from history and updates the history register. -/
  | diff (c : Ctx) (f : AForm)
  /-- FILT1 (R76): The engine applies a first-order filter step to v[d]. -/
  | filt1 (c : Ctx) (f : AForm)
  /-- LIM (R76): The engine slew-limits v[d] towards v[a]. -/
  | lim (c : Ctx) (f : AForm)
  /-- RPT (R77): The engine reads a repetitive table at the sample phase and updates it unless S is 1. -/
  | rpt (c : Ctx) (f : AForm)
  /-- PLAUS (R78): The engine runs a plausibility check, counts violations and at the limit sets P, raises E(4c) and may request SAFE. -/
  | plaus (c : Ctx) (f : AForm)
  /-- LD (R79): The engine loads a word from a space at a D-form address. -/
  | ld (c : Ctx) (f : DForm)
  /-- ST (R79): The engine posts a store of v[d] to a space. -/
  | st (c : Ctx) (f : DForm)
  /-- LDX (R49): The engine loads from an indexed address, returning 0 and raising 0x1003 when out of range. -/
  | ldx (c : Ctx) (f : AForm)
  /-- STX (R49): The engine stores to an indexed address, suppressing the store and raising 0x1003 when out of range. -/
  | stx (c : Ctx) (f : AForm)
  /-- IN (R95): The engine reads a port word and sets C from its STALE state. -/
  | inp (c : Ctx) (f : DForm)
  /-- OUT (R91): The engine stages a CMD or MODE value for the send tick. -/
  | out (c : Ctx) (f : DForm)
  /-- EVT (R81): The program raises E(4n) of a granted channel, or the engine task-fault source, with class, code and payload. -/
  | evt (c : Ctx) (f : BForm)
  /-- REC (R81): The program pushes n registers as one user record note. -/
  | recI (c : Ctx) (f : AForm)
  /-- BF (R82): The engine branches forward when the condition holds. -/
  | bf (c : Ctx) (f : CForm)
  /-- LOOPN (R82): The engine runs the following body n times. -/
  | loopn (c : Ctx) (f : CForm)
  /-- CALLF (R84): The engine calls forward when the condition holds, raising the call depth. -/
  | callf (c : Ctx) (f : CForm)
  /-- END (R87): The engine returns, or at depth 0 waits for all results, ends the release and starts the mirror copy. -/
  | endRel (c : Ctx) (f : CForm)
  /-- ILLEGAL_INSTRUCTION (R56): An engine decodes a refused instruction or an uncorrectable instruction word, ends the release and raises its control-fault source. -/
  | illegalInstruction (c : Ctx) (ecc : Bool)
  /-- RELEASE_OVERRUN (R89): A release reaches 6 + W cycles without ending; the engine ends it and raises its control-fault source. -/
  | releaseOverrun (c : Ctx)
  /-- LIB (R58): A supervisory engine runs a library service in fixed time. -/
  | lib (c : Ctx) (f : EForm)
  /-- LEDG (R59): A supervisory engine reads a charge ledger field. -/
  | ledg (c : Ctx) (f : BForm)
  /-- TMUR (R60): A supervisory engine reads a thermal model item of any channel. -/
  | tmur (c : Ctx) (f : BForm)
  /-- JRD (R61): A supervisory engine reads a join slot word or its age. -/
  | jrd (c : Ctx) (f : BForm)
  /-- JWR (R61): A supervisory engine writes a word of the device's own join slot image. -/
  | jwr (c : Ctx) (f : BForm)
  /-- PERIOD (R62): A supervisory engine sets a period generator's phase increment. -/
  | period (c : Ctx) (f : AForm)
  /-- EN (R170): A sequence starts or restarts a rail and appends it to ENABLE_ORDER. -/
  | en (c : Ctx) (f : BForm)
  /-- DIS (R170): A sequence stops a rail, removes it from ENABLE_ORDER, cancels its ramp and zeroes its reference. -/
  | dis (c : Ctx) (f : BForm)
  /-- SETREF (R170): A sequence starts a reference ramp towards a target. -/
  | setref (c : Ctx) (f : EForm)
  /-- WAIT (R171): A sequence tests a condition, yielding until it passes or times out. -/
  | wait (c : Ctx) (f : EForm)
  /-- CHK (R170): A sequence reads a rail's class and starts a fault reaction on FAULT. -/
  | chk (c : Ctx) (f : EForm)
  /-- JMP (R170): A sequence jumps by a signed offset. -/
  | jmp (c : Ctx) (f : CForm)
  /-- JC (R170): A sequence jumps by a signed offset when a sequencer condition holds. -/
  | jc (c : Ctx) (f : CForm)
  /-- RETRY (R167): In the FAULT entry, a sequence counts a retry and enters RETRY_WAIT, or falls through. -/
  | retry (c : Ctx) (f : EForm)
  /-- MARK (R161): A sequence marks an abort point and enters PAUSED while RESUME is 1. -/
  | mark (c : Ctx) (f : BForm)
  /-- SEND (R175): A master sequence queues an ON or OFF request for a slave in the next acyclic window. -/
  | send (c : Ctx) (f : EForm)
  /-- AWAIT (R175): A master sequence yields until a slave reaches the wanted state. -/
  | await (c : Ctx) (f : EForm)
  /-- LOG (R170): A sequence writes a two-word user record. -/
  | log (c : Ctx) (f : BForm)
  /-- CALL (R170): A sequence calls with a signed offset when the condition holds. -/
  | call (c : Ctx) (f : CForm)
  /-- RELEASE_DISPATCH (R135): The FSD dispatches a loop or supervisory release: descriptor CRC, ph latch, STAT and port words fixed, armed swap applied. -/
  | releaseDispatch (c : Ctx)
  /-- SEQ_SERVICE (R160): A sequencer engine serves a sequence each 20-tick step: device work, transitions, then the program. -/
  | seqService (c : Ctx)
  /-- RAIL_CLASS_CHANGE (R162): A rail's reported class changes once a new class has held for FILT steps. -/
  | railClassChange (c : Ctx) (rail : Fin 8)
  /-- WAIT_TIMEOUT (R171): A WAIT's step timer reaches COUNT; with TFAULT a fault reaction starts, otherwise s[d] := 1. -/
  | waitTimeout (c : Ctx)
  /-- AWAIT_TIMEOUT (R175): An AWAIT's timer runs out; with TFAULT a fault reaction with CAUSE 4 starts. -/
  | awaitTimeout (c : Ctx)
  /-- RETRY_DELAY_END (R161): The RETRY delay runs out and, with target ON, the sequence re-enters UP. -/
  | retryDelayEnd (c : Ctx)
  /-- UNWIND_DELAY_END (R166): A rail's REV_DELAY runs out during unwinding; the next rail is disabled or unwinding completes. -/
  | unwindDelayEnd (c : Ctx)
  /-- SUPPLY_LOSS (R159): The supply stays below SUP_LOSS for LOSS_STEPS and SUP_OK becomes 0. -/
  | supplyLoss (c : Ctx)
  /-- SUPPLY_QUALIFIED (R159): The supply stays at or above SUP_RETURN for the holdoff and SUP_OK becomes 1. -/
  | supplyQualified (c : Ctx)
  /-- RETRIES_CLEAR (R161): After 100,000 consecutive steps in ON, RETRIES is cleared. -/
  | retriesClear (c : Ctx)
  /-- INBOUND_FRAME (R202): At tick t + 1 the SLC judges the inbound frame of tick t valid, corrupt or missing and updates port words, miss count and channels. -/
  | inboundFrame (l : LinkNo) (fr : Option InFrame)
  /-- OUTBOUND_FRAME (R91): At each tick start the SLC moves staged values into the outbound frame and sends it. -/
  | outboundFrame (l : LinkNo)
  /-- HOLD_LIMIT_EXPIRY (R100): A channel's hold limit runs out in HOLD and it enters SAFE. -/
  | holdLimitExpiry (n : Ch)
  /-- ARMING_COMPLETE (R101): The ARMING count reaches 0 and the channel enters CONTROL at the next tick. -/
  | armingComplete (n : Ch)
  /-- RESTART_COUNT_DONE (R99): 4,000 consecutive valid frames after a pending restart request move a SAFE channel to ARMING. -/
  | restartCountDone (n : Ch)
  /-- FALLBACK_TABLE_IN_FORCE (R116): Four ticks after a loop-engine fence, the fallback table comes into force and moved tasks run on their fallback places. -/
  | fallbackTableInForce
  /-- SHAFT_EDGE (R108): The SPU stamps an accepted shaft edge and updates lock and edge count. -/
  | shaftEdge (i : Fin 4) (rising : Bool) (ts : BitVec 64)
  /-- SHAFT_LOCK_TIMEOUT (R110): No counted edge arrives within twice the last interval; the source loses lock and E954 is raised. -/
  | shaftLockTimeout (i : Fin 4)
  /-- LINK_COMMA_ALIGN (R191): A DOWN link with ENABLE sees 4 aligned inbound commas and starts full training. -/
  | linkCommaAlign (l : LinkNo)
  /-- TRAIN_STEP_END (R192): A training step completes its frame or round-trip count and the link moves on. -/
  | trainStepEnd (l : LinkNo) (m : TrainMeas)
  /-- TRAIN_TIMEOUT (R191): Full training or a fast retrain is not complete in time and the link goes DOWN. -/
  | trainTimeout (l : LinkNo)
  /-- MODULE_HELLO (R193): The device receives a module HELLO, checks it and sends AGREE or goes DOWN. -/
  | moduleHello (l : LinkNo) (ws : List W)
  /-- READY (R194): The device receives READY for its AGREE. -/
  | ready (l : LinkNo) (ver : BitVec 8) (crc : W)
  /-- NEGOTIATE_TIMEOUT (R191): READY does not arrive within 400 ticks and the link goes DOWN. -/
  | negotiateTimeout (l : LinkNo)
  /-- LINK_SWITCH_TICK (R194): The agreed switch tick arrives; RUN frames start, the link is UP and R128 is applied. -/
  | linkSwitchTick (l : LinkNo)
  /-- LINK_DOWN_HOLDOFF_END (R191): The 1 s stay in DOWN after a failed training or negotiation ends. -/
  | linkDownHoldoffEnd (l : LinkNo)
  /-- RECEIVER_SIGNAL_LOSS (R191): A link receiver loses signal for 1 µs and the link goes DOWN. -/
  | receiverSignalLoss (l : LinkNo)
  /-- SVC_ACK (R199): The device receives ACK for a reliable service message. -/
  | svcAck (l : LinkNo) (st : Stream) (seq : BitVec 8)
  /-- SVC_NAK (R199): The device receives NAK with a reason for a reliable service message. -/
  | svcNak (l : LinkNo) (st : Stream) (seq : BitVec 8) (reason : W)
  /-- RDATA (R199): The device receives the RDATA answer to a READ. -/
  | rdata (l : LinkNo) (st : Stream) (n : RdataSeq) (ws : List W)
  /-- CAPTURE (R237): The device receives a tick's CAPTURE message for the recorder. -/
  | capture (l : LinkNo) (ws : List W)
  /-- SVC_RESEND_TIMEOUT (R199): A reliable message is unacknowledged for 64 ticks; it is resent, or after four resends the link retrains. -/
  | svcResendTimeout (l : LinkNo) (st : Stream) (seq : BitVec 8)
  /-- FRAME_END_ADJUST (R202): At each epoch the SLC corrects X_END with ADJ when frame ends drift more than 4 ns. -/
  | frameEndAdjust (l : LinkNo) (avgPs : Int)
  /-- THERMAL_BLOCK_READ (R298): The thermal block read from a module completes and is judged usable or not. -/
  | thermalBlockRead (l : LinkNo) (slot : Fin 3) (blk : Option (List W))
  /-- TMU_EVALUATION (R299): Every 100 ticks the TMU steps each model, applies the observer, judges limits and bands. -/
  | tmuEvaluation
  /-- LEDGER_GAP (R277): 64 ticks without a valid frame make the ledger add 0 and set GAP. -/
  | ledgerGap (k : Fin 64)
  /-- RECORDER_ROW (R235): At a tick start the BBR writes the espresso row and any lungo or carafe row whose window ended. -/
  | recorderRow
  /-- BLOCK_CLOSE (R232): A recorder block closes after r rows and the next free block opens. -/
  | blockClose (tier : Tier)
  /-- TRIGGER_FROZEN (R241): The last post-window row is written in every frozen tier and the trigger becomes FROZEN. -/
  | triggerFrozen (i : Fin 32)
  /-- EXPORT_SLOT_WRITE (R248): An export stream with a credit writes the next item into a host slot and its status area. -/
  | exportSlotWrite (st : Fin 4)
  /-- HARDWARE_FAULT_DETECTED (R377): A hardware check detects a fault and the FCR reacts by class and configuration. -/
  | hardwareFaultDetected (src : Fin 1024) (cls : EvClass) (code : BitVec 16) (payload : W)
  /-- EVENT_WINDOW_END (R228): A 100 µs coalescing window ends and a counted record is written or the source becomes quiet. -/
  | eventWindowEnd (src : Fin 1024) (cls : EvClass)
  /-- HELD_RECORD_WRITE (R229): EQ space returns and a held record is written with HELD = 1. -/
  | heldRecordWrite
  /-- BRST_RESUME (R378): A block-reset unit resumes and raises code 0x00F0. -/
  | brstResume (src : Fin 1024)
  /-- CHIP_RESET_TIMER (R379): 100 µs after detection a CRST reaction resets the chip. -/
  | chipResetTimer
  /-- FCR_ROUTING_SELFTEST (R390): Every 10 ms the FCR injects a test occurrence through every reaction line. -/
  | fcrRoutingSelftest (pass : Bool)
  /-- SCRUB_OVERDUE (R390): A scrub pass is more than 8 ms overdue and E985 is raised. -/
  | scrubOverdue
  /-- PIN_READBACK_MISMATCH (R388): ALIVE or ERR_N reads back wrong for 10 µs and E990 is raised. -/
  | pinReadbackMismatch (errN : Bool)
  /-- DIE_TEMPERATURE (R467): The die sensor crosses 115 °C or 125 °C and E991 is raised. -/
  | dieTemperature (hot : Bool)
  /-- READMIT_SELFTEST_END (R385): A readmitted unit's self-test ends; it rejoins as a spare or stays fenced. -/
  | readmitSelftestEnd (u : HwUnit) (pass : Bool)
  /-- REBALANCE_SHADOW_START (R386): At E1 shadows of displaced tasks start on their nominal contexts. -/
  | rebalanceShadowStart
  /-- REBALANCE_SWITCH (R386): At E2 the nominal plan comes into force and REBALANCE completes. -/
  | rebalanceSwitch
  /-- SYNC_MEASURE (R24): A sync word arrives and the CTU measures the offset to the reference. -/
  | syncMeasure (offsetPs : Int) (refTick : BitVec 64)
  /-- ALIGN_NUDGE (R25): At an epoch boundary the CTU nudges ROOT by one cycle towards the reference. -/
  | alignNudge
  /-- ALIGN_FAIL (R28): The offset stays outside ±40 ns for 10 epochs, or a step is refused, and ALIGN_FAIL is raised. -/
  | alignFail
  /-- REF_LOST (R29): The reference stops; the PLL falls back to the crystal and HOLDOVER is set. -/
  | refLost
  /-- REF_RETURN (R29): A reference returns or another port becomes upstream and the CTU switches to it. -/
  | refReturn (src : RefSel)
  /-- LOCK_LOSS (R32): The ROOT PLL loses lock, an FE condition. -/
  | lockLoss
  /-- RATIO_ERR (R32): A ratio window is more than 5 counts from 4,800, an FE condition. -/
  | ratioErr
  /-- XTAL_STOP (R32): The backup-oscillator counter finds the crystal stopped, an FE condition. -/
  | xtalStop
  /-- WAKE_EVENT (R31): An enabled wake source in DORMANT starts the PLL on the crystal. -/
  | wakeEvent (src : WakeSrc)
  /-- WAKE_DIVIDERS_RESTART (R31): After lock, the dividers restart on a crystal edge and TC is rebuilt from TS. -/
  | wakeDividersRestart
  /-- WAKE_MGP_RESUME (R474): MGP resumes, the kiosk accepts commands and kept doorbells are acted on. -/
  | wakeMgpResume
  /-- SUPPLY_OUT_OF_WINDOW (R463): A supply leaves its monitor window and its FE source is raised. -/
  | supplyOutOfWindow (i : Fin 7)
  /-- PFAIL_ASSERT (R401): PFAIL falls below 1.20 V for 200 ns and the power-fail sequence starts. -/
  | pfailAssert
  /-- PFAIL_RELEASE (R401): PFAIL rises above 1.25 V; the sequence is not changed. -/
  | pfailRelease
  /-- VNV_LOW (R402): VNV falls below 1.62 V and the store stops at the next word. -/
  | vnvLow
  /-- STORE_EXIT_RESET (R403): PFAIL has stayed released for 10 ms after a power-fail store and the SMU resets the chip. -/
  | storeExitReset
  /-- RESET_RELEASE (R433): Supplies, crystal and RST_N satisfy the SMU, which releases the device; the dividers start. -/
  | resetRelease
  /-- RST_N_ASSERT (R433): RST_N goes low and the device enters RESET. -/
  | rstNAssert
  /-- STRAP_LATCH (R451): 100 µs after SMU release the straps are latched from the last A and B steps. -/
  | strapLatch (levels : BitVec 24)
  /-- PERST_ASSERT (R210): PERST#, a hot reset, link-down or D3hot resets the endpoint and closes the session. -/
  | perstAssert
  /-- PERST_RELEASE (R210): PERST# is released and PCIe training starts within 5 ms. -/
  | perstRelease
  /-- HOST_LINK_EVENT (R144): An AER error or a downtrain of the host link raises E961. -/
  | hostLinkEvent (ev : HostLinkEv)
  /-- NV_RECALL_END (R397): Recall of all 4,096 pages ends and the window becomes accessible. -/
  | nvRecallEnd (bad : List Nat)
  /-- NV_STORE_RUN (R400): A waiting store starts, applies pending counters and stores its pages in order. -/
  | nvStoreRun
  /-- NV_STORE_END (R400): A store writes its page count and END to the journal. -/
  | nvStoreEnd
  /-- COUNTER_INCREMENT (R410): A queued counter increment writes the spare slot and flips SEL. -/
  | counterIncrement
  /-- FIRMWARE_START (R435): The boot ROM has verified the firmware; it starts on MGP, sets FW_READY and enters RUN once recall has ended. -/
  | firmwareStart (patch : BitVec 16)
  /-- ALIVE_START (R387): The first routing self-test passes; ALIVE starts toggling and BOOT clears in FCR_ERRN. -/
  | aliveStart
  /-- BOOT_FAIL (R436): A QSPI boot step fails and the ROM stops, or continues as the host path. -/
  | bootFail (code : BitVec 8)
  /-- PAIR_SEEK_TIMEOUT (R439): The pair link is not UP after 100 ms (A) or 1 s (B) and the device takes LEAD. -/
  | pairSeekTimeout
  /-- BOOT_IMAGE_ADMIT (R440): After its waits, the device admits the boot image from flash without a host. -/
  | bootImageAdmit
  /-- ADMISSION_END (R130): Admission finishes checking and planning, writes the report and refuses or awaits activation. -/
  | admissionEnd
  /-- PLAN_ACTIVATION (R131): At the chosen epoch the accepted plan, or its fallback, comes into force. -/
  | planActivation
  /-- TABLE_SAVE_END (R113): A repetitive table copy into its NV record ends. -/
  | tableSaveEnd (tag : BitVec 16)
  /-- MODULE_NO_ANSWER (R226): A module command gets no answer within its bound and completes MODULE_NO_ANSWER. -/
  | moduleNoAnswer (tag : BitVec 16)
  /-- KIO_SESSION_OPEN (R211): A write of OP = OPEN opens a session or reports VERSION, RINGS or NOT_READY. -/
  | kioSessionOpen (major : BitVec 8) (minor : BitVec 8)
  /-- KIO_SESSION_CLOSE (R211): A write of OP = CLOSE ends the session. -/
  | kioSessionClose
  /-- KIO_SQ_TAIL (R216): A doorbell write to an SQ tail makes new entries available for fetch. -/
  | kioSqTail (q : Fin 4) (v : W) (entries : List (List W))
  /-- KIO_CQ_HEAD (R230): A CQ head write frees entries and may rearm its vector. -/
  | kioCqHead (q : Fin 4) (v : W)
  /-- KIO_EQ_HEAD (R230): An EQ head write frees event entries and may rearm event vectors. -/
  | kioEqHead (v : W)
  /-- CTU_SNAP (R33): A write of SNAP copies TC and TS from one PCLK edge into the snapshot registers. -/
  | ctuSnap
  /-- CTU_ALIGN_EN_WRITE (R24): A write of ALIGN_EN selects reference following, ignored in RUN. -/
  | ctuAlignEnWrite (en : Bool)
  /-- SLC_ENABLE (R207): A write of SLC_CTRL.ENABLE puts a link in or out of use, guarded while channels are active. -/
  | slcEnable (l : LinkNo) (en : Bool)
  /-- SLC_RETRAIN (R207): A write of SLC_CTRL.RETRAIN applies row 4 of Table 8.9 unless channels are active. -/
  | slcRetrain (l : LinkNo)
  /-- SLC_RESET (R207): A write of SLC_CTRL.RESET applies row 1 then full training unless channels are active. -/
  | slcReset (l : LinkNo)
  /-- PRL_YIELD (R366): A write of PRL_CTRL.YIELD makes a LEAD with an IN_SYNC STANDBY yield. -/
  | prlYield
  /-- BOOT_GO (R436): A write of ID_BOOTCTL.GO in WAIT_HOST checks the host-written manifest and firmware. -/
  | bootGo
  /-- TMU_TAMB_WRITE (R305): A finite write sets the boundary temperature; a non-finite one is ignored. -/
  | tmuTambWrite (v : W)
  /-- CH_BANKW_WRITE (R106): A write to the inactive bank window, discarded with WDROP while a swap is armed. -/
  | chBankwWrite (n : Ch) (w : Fin 128) (v : W)
  /-- NV_WINDOW_WRITE (R395): A host write to the NV window marks host-area pages dirty, else is discarded. -/
  | nvWindowWrite (off : Nat) (bs : List Byte)
  /-- SHARED_WINDOW_WRITE (R209): A host write to the shared task memory window, accepted only in BOOT. -/
  | sharedWindowWrite (off : Nat) (ws : List W)
  /-- BAR2_WRITE (R209): A host write to BAR2 is discarded and sets BAR2_WR. -/
  | bar2Write (off : Nat) (bs : List Byte)
  /-- CLG_QLO_READ (R294): A read of CLG_QLOk latches CLG_QHIk from the same tick. -/
  | clgQloRead (k : Fin 64)
  /-- TWP_CFG_WRITE (R327): A write to TWP_CFGn takes effect at the next bus idle, or is refused with CFG_ERR. -/
  | twpCfgWrite (p : Fin 4) (v : W)
  /-- TWP_ADDR_WRITE (R328): A write to TWP_ADDRn sets target addresses, or is refused with CFG_ERR. -/
  | twpAddrWrite (p : Fin 4) (v : W)
  /-- TRL_LAMP_WRITE (R456): A host write of lamp codes, discarded for owned points and codes above 4. -/
  | trlLampWrite (i : Fin 18) (v : W)
  /-- TRL_CFG_WRITE (R460): A write to TRL_CFG takes effect at the start of the next scan. -/
  | trlCfgWrite (v : W)
  /-- REGISTER_WRITE (R470): A host write to any other register: RW store, W1C clear, or discard with RO_WR. -/
  | registerWrite (addr : Nat) (size : Nat) (v : W)
  /-- NOP_CMD (R225): Kiosk NOP completes OK. -/
  | nopCmd (tag : BitVec 16)
  /-- TIME (R225): Kiosk TIME returns TC and TS. -/
  | time (tag : BitVec 16)
  /-- IDENT (R225): Kiosk IDENT returns firmware, image and ABI identity. -/
  | ident (tag : BitVec 16)
  /-- CANCEL (R221): Kiosk CANCEL ends a drip operation before its point of no return. -/
  | cancel (tag : BitVec 16)
  /-- ADMIT (R129): Kiosk ADMIT checks the image framing and starts admission. -/
  | admitImage (tag : BitVec 16) (img : Option (List W))
  /-- CH_START (R99): Kiosk CH_START moves an OFF channel to ARMING. -/
  | chStart (tag : BitVec 16)
  /-- CH_STOP (R99): Kiosk CH_STOP moves a channel to OFF. -/
  | chStop (tag : BitVec 16)
  /-- CH_RESTART (R480): Kiosk CH_RESTART makes a restart request for a SAFE channel. -/
  | chRestart (tag : BitVec 16)
  /-- PLAUS_RESET (R39): Kiosk PLAUS_RESET clears P and the counters of checks bound to the channel. -/
  | plausReset (tag : BitVec 16)
  /-- BANK_SWAP (R104): Kiosk BANK_SWAP checks both bank CRCs and arms a swap. -/
  | bankSwap (tag : BitVec 16)
  /-- PARAM_WRITE (R224): Kiosk PARAM_WRITE writes 1 to 10 PARAM words between two releases. -/
  | paramWrite (tag : BitVec 16)
  /-- SHARED_WRITE (R225): Kiosk SHARED_WRITE writes 1 to 10 shared words atomically each. -/
  | sharedWrite (tag : BitVec 16)
  /-- TABLE_SAVE (R113): Kiosk TABLE_SAVE starts copying a repetitive table to its NV record. -/
  | tableSave (tag : BitVec 16)
  /-- SEQ_REQUEST (R159): Kiosk SEQ_REQUEST sets a sequence's REQ. -/
  | seqRequest (tag : BitVec 16)
  /-- MOD_READ (R199): Kiosk MOD_READ sends a host-stream READ to a module. -/
  | modRead (tag : BitVec 16)
  /-- MOD_WRITE (R200): Kiosk MOD_WRITE sends a host-stream WRITE to a module. -/
  | modWrite (tag : BitVec 16) (buf : Option (List W))
  /-- MOD_THRESH (R200): Kiosk MOD_THRESH sets thresholds and hold limit through the device stream. -/
  | modThresh (tag : BitVec 16)
  /-- MOD_TABLE (R201): Kiosk MOD_TABLE downloads a waveform table to a version 3 module. -/
  | modTable (tag : BitVec 16) (buf : Option (List W))
  /-- TRIG_ARM (R250): Kiosk TRIG_ARM arms an IDLE trigger. -/
  | trigArm (tag : BitVec 16)
  /-- TRIG_FIRE (R250): Kiosk TRIG_FIRE fires an ARMED trigger. -/
  | trigFire (tag : BitVec 16)
  /-- TRIG_RELEASE (R250): Kiosk TRIG_RELEASE returns a frozen window's blocks and rearms or idles the trigger. -/
  | trigRelease (tag : BitVec 16)
  /-- EXPORT_OPEN (R250): Kiosk EXPORT_OPEN opens an export stream onto a host slot ring. -/
  | exportOpen (tag : BitVec 16)
  /-- EXPORT_CREDIT (R250): Kiosk EXPORT_CREDIT returns consumed slots as credits. -/
  | exportCredit (tag : BitVec 16)
  /-- EXPORT_CLOSE (R250): Kiosk EXPORT_CLOSE closes a stream after the slot in progress. -/
  | exportClose (tag : BitVec 16)
  /-- READMIT (R384): Kiosk READMIT starts the self-test of a fenced unit. -/
  | readmit (tag : BitVec 16)
  /-- REBALANCE (R386): Kiosk REBALANCE preloads spares and returns tasks to the nominal plan. -/
  | rebalance (tag : BitVec 16)
  /-- EVENT_CFG (R380): Kiosk EVENT_CFG sets the configuration word of a range of sources. -/
  | eventCfg (tag : BitVec 16)
  /-- NV_STORE (R399): Kiosk NV_STORE requests a store of dirty or listed pages. -/
  | nvStore (tag : BitVec 16) (pages : Option (List (BitVec 16)))
  /-- REC_READ (R409): Kiosk REC_READ returns a record's chosen copy. -/
  | recRead (tag : BitVec 16)
  /-- REC_WRITE (R409): Kiosk REC_WRITE updates or allocates a host record. -/
  | recWrite (tag : BitVec 16) (buf : Option (List W))
  /-- UPD_STAGE (R420): Kiosk UPD_STAGE writes CRC-checked blocks of a part into an inactive slot. -/
  | updStage (tag : BitVec 16) (buf : Option (List Byte))
  /-- UPD_VERIFY (R421): Kiosk UPD_VERIFY checks the manifest signature, keys, MSEQ and part hashes. -/
  | updVerify (tag : BitVec 16)
  /-- UPD_PREPARE (R422): Kiosk UPD_PREPARE makes the device coordinator and opens the vote. -/
  | updPrepare (tag : BitVec 16)
  /-- UPD_COMMIT (R425): Kiosk UPD_COMMIT fixes tick C and sends COMMIT. -/
  | updCommit (tag : BitVec 16)
  /-- UPD_CONFIRM (R429): Kiosk UPD_CONFIRM confirms an update in TRIAL. -/
  | updConfirm (tag : BitVec 16)
  /-- UPD_FALLBACK (R428): Kiosk UPD_FALLBACK causes fallback from TRIAL. -/
  | updFallback (tag : BitVec 16)
  /-- FEED_TOGGLE (R260): Kiosk FEED_TOGGLE writes REQ and OFF_SEEN for OFF, ON or CYCLE. -/
  | feedToggle (tag : BitVec 16)
  /-- LEDGER_RESET (R279): Kiosk LEDGER_RESET clears Q and/or charge in and out at the next tick. -/
  | ledgerReset (tag : BitVec 16)
  /-- TW_XFER (R329): Kiosk TW_XFER runs a two-wire controller transfer with retries. -/
  | twXfer (tag : BitVec 16) (buf : Option (List Byte))
  /-- DORMANT_ENTER (R31): Kiosk DORMANT_ENTER stops ROOT and enters DORMANT when every channel is OFF. -/
  | dormantEnter (tag : BitVec 16)
  /-- FEED_FAULT_TIMER_EXPIRY (R258): A feed's fault timer reaches T_FAULT and the feed enters LATCHED. -/
  | feedFaultTimerExpiry (c : Ctx)
  /-- FEED_RAMP_TIMEOUT (R257): A feed still below PG_LO after RAMP_MAX enters LATCHED with REASON 3. -/
  | feedRampTimeout (c : Ctx)
  /-- FEED_COOL_DOWN_END (R260): T_COOL has passed with the band at or below COOL_BAND and COOL_DONE becomes 1. -/
  | feedCoolDownEnd (c : Ctx)
  /-- FEED_PRESENCE_ACCEPTED (R261): A presence change holds for T_INSERT and is accepted as removal or reinsertion. -/
  | feedPresenceAccepted (c : Ctx)
  /-- STRING_REINS_TIMER (R265): An absent string stays inside its window for T_REINS and passes to REST. -/
  | stringReinsTimer (c : Ctx)
  /-- HOLDUP_HAND_TIMER (R269): HAND_MS passes in HANDOVER and Hold-up enters BRIDGING. -/
  | holdupHandTimer (c : Ctx)
  /-- HOLDUP_QUAL_END (R269): QUAL_LEFT reaches 0 and Hold-up enters RETURN. -/
  | holdupQualEnd (c : Ctx)
  /-- CAP_SEARCH_STEP (R271): Every STEP_EP epochs, Cap raises the input current limit while rectifiers limit. -/
  | capSearchStep (c : Ctx)
  /-- CAP_RESEARCH_TIMER (R271): RESEARCH after settling, Cap starts a new search. -/
  | capResearchTimer (c : Ctx)
  /-- FEED_RESTORE (R272): A shed feed's condition has held for 10 releases and it is restored. -/
  | feedRestore (c : Ctx)
  /-- ESTIMATE_TAPER_FULL (R285): The taper window holds for T_TAPER and FULL is set. -/
  | estimateTaperFull (c : Ctx)
  /-- ESTIMATE_REST_HELD (R288): Rest holds for T_REST or T_REST_INS and the estimator blends or becomes PROVISIONAL. -/
  | estimateRestHeld (c : Ctx)
  /-- ESTIMATE_BLEND_END (R288): T_BLEND is covered and the blend ends, making the state VALID. -/
  | estimateBlendEnd (c : Ctx)
  /-- TRAIN_START (R342): J0 starts the join train of a cycle at TC a multiple of 200. -/
  | trainStart
  /-- TRAIN_PASSAGE (R344): A train passes a device, which updates delay, writes its slot and cells and forwards it. -/
  | trainPassage (p : JPort) (t : Train)
  /-- HOP_HELLO (R340): A hop exchanges HELLO and agrees its version. -/
  | hopHello (p : JPort) (vmax : Nat) (vmin : Nat) (serial : W) (role : PairRole)
  /-- HOP_USABLE (R340): A hop has been UP for 10 cycles and is used. -/
  | hopUsable (p : JPort)
  /-- HOP_DOWN (R352): No valid SYNC crosses a hop for 2 cycles; it goes DOWN and the train turns around. -/
  | hopDown (p : JPort)
  /-- ENUM (R350): A device without address receives ENUM and takes NEXT. -/
  | enum (next : Nat)
  /-- RESERVE (R348): J0 receives a RESERVE and grants or refuses cells. -/
  | reserve (src : JAddr) (cells : Nat)
  /-- JOIN_GRANT (R348): A device receives J0's GRANT or refusal. -/
  | joinGrant (first : Nat) (count : Nat) (refused : Bool)
  /-- GRANT_EXPIRY (R348): J0 has no FRESH slot from a holder for 10,000 cycles and revokes its grant. -/
  | grantExpiry (holder : JAddr)
  /-- SEQ_REQ (R175): A slave receives a SEQ_REQ and latches REQ, or discards it from a non-master. -/
  | seqReq (src : JAddr) (task : BitVec 16) (off : Bool)
  /-- SEQ_STATE (R175): A master receives a slave's state change. -/
  | seqState (src : JAddr) (task : BitVec 16) (st : SeqSt)
  /-- JOIN_TRIGGER (R240): A system trigger arrives and fires matching JOIN triggers. -/
  | joinTrigger (src : JAddr) (sysnum : BitVec 8) (f : BitVec 48)
  /-- VOTE_OPEN (R422): A holding device receives OPEN and starts local preparation. -/
  | voteOpen (mid : W) (mseq : W)
  /-- VOTE (R425): The coordinator receives a YES or NO vote. -/
  | vote (mid : W) (mseq : W) (no : Bool) (code : BitVec 8) (voter : JAddr)
  /-- VOTE_COMMIT (R425): A READY device receives COMMIT naming tick C and becomes ARMED. -/
  | voteCommit (mid : W) (mseq : W) (tickC : BitVec 48)
  /-- VOTE_ABORT (R419): A device receives ABORT and undoes its preparation. -/
  | voteAbort (mid : W) (mseq : W) (code : BitVec 8) (orig : JAddr)
  /-- VOTE_FALLBACK (R428): A device receives FALLBACK naming tick F. -/
  | voteFallback (mid : W) (mseq : W) (tickF : BitVec 48) (code : BitVec 8) (orig : JAddr)
  /-- VOTE_CONFIRM (R429): A device receives CONFIRM and runs CONFIRMING. -/
  | voteConfirm (mid : W) (mseq : W)
  /-- UPD_VERIFY_END (R421): Verification ends and the phase becomes VERIFIED or STAGING. -/
  | updVerifyEnd
  /-- PREPARE_DONE (R423): Local preparation completes and the device votes. -/
  | prepareDone (badPart : Option (BitVec 8))
  /-- VOTE_TIMEOUT (R425): A vote is missing 10 s after OPEN and the coordinator sends ABORT. -/
  | voteTimeout
  /-- COMMIT_TICK (R426): At tick C every holding device switches code, tasks, plans and firmware. -/
  | commitTick
  /-- HANDOVER_END (R426): The new firmware resumes from the handover area and the kiosk accepts commands. -/
  | handoverEnd
  /-- SETTINGS_MIGRATION (R427): The new firmware migrates settings records into staging pages or rejects them. -/
  | settingsMigration (staged : Option (List (BitVec 16 × List W)))
  /-- FALLBACK_TICK (R428): At tick F every device reverses the commit. -/
  | fallbackTick
  /-- TRIAL_END (R429): TRIAL_S passes and with AUTO_CONFIRM the coordinator confirms. -/
  | trialEnd
  /-- PAIR_HELLO (R357): A device receives its partner's HELLO and forms the pair by Table 17.3. -/
  | pairHello (ws : List W) (delayNs : Nat)
  /-- TICK_CELL (R364): A device judges its partner's tick cell, comparing MASK and digests. -/
  | tickCell (cell : Option TickCell)
  /-- PAIR_LINK_DOWN (R354): A pair lane loses lock or three tick cells are corrupt; the link retrains. -/
  | pairLinkDown
  /-- PAIR_CMD (R359): The STANDBY receives a mirrored command. -/
  | pairCmd (mseq : Nat) (entry : List W)
  /-- REGW (R358): The STANDBY receives a mirrored register write. -/
  | regw (addr : Nat) (ws : List W)
  /-- MIRROR_APPLY (R359): At tick F + 2 a mirrored command or write takes effect on both devices. -/
  | mirrorApply
  /-- PAIR_STATUS (R361): The LEAD receives the STANDBY's STATUS and completes or disputes. -/
  | pairStatus (mseq : Nat) (status : BitVec 16) (r0 : W)
  /-- HANDOFF (R371): The STANDBY loads a task's HANDOFF before its next dispatch, or NAKs it. -/
  | handoff (task : BitVec 16) (rel : BitVec 48) (ws : List W) (counters : List Nat) (ramps : List Nat)
  /-- PLAN (R131): A device receives its partner's activation epoch. -/
  | plan (epoch : Nat)
  /-- PAIR_NAK (R356): A sender receives a NAK and resends the named message. -/
  | pairNak (kind : BitVec 8) (seq : BitVec 8)
  /-- NVVAL (R362): The STANDBY receives NV values for a cold start. -/
  | nvval (id : BitVec 16) (ws : List W)
  /-- IMAGE (R371): The STANDBY receives program image words during COPY. -/
  | image (ws : List W)
  /-- COPY (R371): The STANDBY receives copy-set words. -/
  | copy (it : CopyItem)
  /-- PAIR_LOG (R371): The STANDBY receives later writes to the copy set. -/
  | pairLog (it : CopyItem)
  /-- SELF_CHECK_END (R365): A dispute self-check ends and CHECK is set in the tick cell. -/
  | selfCheckEnd (pass : Bool)
  /-- DISPUTE_TIMEOUT (R365): No partner result within 12 ticks; the partner counts as failed. -/
  | disputeTimeout
  /-- TAKEOVER_WINDOW_END (R367): No link reports the new owner by z + 8; the device releases and returns to STANDBY. -/
  | takeoverWindowEnd
  /-- IN_SYNC_ENTRY (R371): After 4,000 equal compared ticks the STANDBY enters IN_SYNC at an epoch boundary. -/
  | inSyncEntry
  /-- RESYNC_TIMEOUT (R371): IN_SYNC is not reached within 1 s of COPY and SYNC_FAIL is set. -/
  | resyncTimeout
  /-- RESYNC_RESTART (R371): 1 s after a failed RESYNC, RESYNC restarts. -/
  | resyncRestart
  /-- ATTACH_LEVEL_READ (R310): A pilot port reads the attach level and enters CONFIRM. -/
  | attachLevelRead (p : Fin 8) (mv : BitVec 12)
  /-- ATTACH_CONFIRM (R310): The attach level holds 15 ms and the port is attached. -/
  | attachConfirm (p : Fin 8)
  /-- DETACH (R311): The level leaves the window for 3 ms of judged time; the path is forced open. -/
  | detach (p : Fin 8) (mv : BitVec 12)
  /-- BEACON_START (R309): The beacon gap ends and the port presents feeder for 25 ms. -/
  | beaconStart (p : Fin 8)
  /-- BEACON_END (R309): A beacon ends and the port presents taker and draws a new gap. -/
  | beaconEnd (p : Fin 8)
  /-- HAIL (R315): A port receives HAIL and agrees the highest shared generation. -/
  | hail (p : Fin 8) (h : PilotHead) (gmax : BitVec 8) (gmin : BitVec 8)
  /-- TERMS (R316): A taker receives offers and claims one that fits. -/
  | terms (p : Fin 8) (h : PilotHead) (offers : List Offer)
  /-- CLAIM (R316): A feeder receives a CLAIM and answers GRANT, DEFER or DECLINE. -/
  | claim (p : Fin 8) (h : PilotHead) (idx : BitVec 8) (cur : BitVec 16)
  /-- PILOT_GRANT (R316): A taker receives a GRANT and awaits LIVE. -/
  | pilotGrant (p : Fin 8) (h : PilotHead) (cur : BitVec 16)
  /-- DECLINE (R315): A port receives DECLINE with a reason. -/
  | decline (p : Fin 8) (h : PilotHead) (reason : BitVec 8)
  /-- DEFER (R316): A taker receives DEFER and claims again after the delay. -/
  | defer (p : Fin 8) (h : PilotHead) (ms : BitVec 16)
  /-- LIVE (R316): A LIVE ends; a lease begins or the role turn exchanges presentations. -/
  | live (p : Fin 8) (h : Option PilotHead) (kind : BitVec 8)
  /-- TURN (R318): A port receives TURN and answers or compares draws. -/
  | turn (p : Fin 8) (h : PilotHead) (draw : BitVec 16)
  /-- TURN_OK (R318): A port receives TURN_OK and the role turn starts. -/
  | turnOk (p : Fin 8) (h : PilotHead)
  /-- PILOT_RESTART (R319): A port receives RESTART; it forces the path open and enters REST. -/
  | pilotRestart (p : Fin 8) (h : PilotHead)
  /-- ANSWER_TIMEOUT (R314): No answer within 10 ms; the message is resent or RESTART is sent. -/
  | answerTimeout (p : Fin 8)
  /-- LIVE_TIMEOUT (R316): LIVE is not complete within 100 ms of GRANT and the taker sends RESTART. -/
  | liveTimeout (p : Fin 8)
  /-- DEFER_EXPIRY (R316): The DEFER delay runs out and the taker sends CLAIM again. -/
  | deferExpiry (p : Fin 8)
  /-- TURN_TIE_WAIT_END (R318): The random wait after equal draws ends and a new TURN is sent. -/
  | turnTieWaitEnd (p : Fin 8)
  /-- COLLIDE (R313): A transmitter reads back a different level and stops. -/
  | collide (p : Fin 8)
  /-- TX_RETRY (R313): The random quiet time after a collision ends and the message is retried. -/
  | txRetry (p : Fin 8)
  /-- REST_END (R319): 600 ms in REST pass and the port returns to SEARCH. -/
  | restEnd (p : Fin 8)
  /-- TIE_OC_TIMER (R320): The tie overcurrent timer reaches T_OC and the path is forced open. -/
  | tieOcTimer (p : Fin 8)
  /-- PAGE (R336): PMBus PAGE reads or selects the port's channel. -/
  | page (p : Fin 4) (wr : Option Byte) (pec : Option Byte)
  /-- CLEAR_FAULTS (R337): PMBus CLEAR_FAULTS clears the latched bits of the page or all pages. -/
  | clearFaults (p : Fin 4) (pec : Option Byte)
  /-- CAPABILITY (R336): PMBus CAPABILITY returns 0xD0. -/
  | capability (p : Fin 4)
  /-- VOUT_MODE (R336): PMBus VOUT_MODE returns 0x1A. -/
  | voutMode (p : Fin 4)
  /-- STATUS_BYTE (R337): PMBus STATUS_BYTE returns the status bits of the page. -/
  | statusByte (p : Fin 4)
  /-- STATUS_WORD (R336): PMBus STATUS_WORD returns the status word of the page. -/
  | statusWord (p : Fin 4)
  /-- STATUS_VOUT (R336): PMBus STATUS_VOUT returns the OV fault bit. -/
  | statusVout (p : Fin 4)
  /-- STATUS_IOUT (R336): PMBus STATUS_IOUT returns the OC fault bit. -/
  | statusIout (p : Fin 4)
  /-- STATUS_TEMPERATURE (R336): PMBus STATUS_TEMPERATURE returns over-temperature bits. -/
  | statusTemperature (p : Fin 4)
  /-- READ_VIN (R336): PMBus READ_VIN returns C scaled in LINEAR11. -/
  | readVin (p : Fin 4)
  /-- READ_VOUT (R336): PMBus READ_VOUT returns A scaled in LINEAR16. -/
  | readVout (p : Fin 4)
  /-- READ_IOUT (R336): PMBus READ_IOUT returns B scaled in LINEAR11. -/
  | readIout (p : Fin 4)
  /-- READ_TEMPERATURE_1 (R336): PMBus READ_TEMPERATURE_1 returns the junction node. -/
  | readTemperature1 (p : Fin 4)
  /-- READ_TEMPERATURE_2 (R336): PMBus READ_TEMPERATURE_2 returns the heatsink node. -/
  | readTemperature2 (p : Fin 4)
  /-- PMBUS_REVISION (R336): PMBus PMBUS_REVISION returns 0x33. -/
  | pmbusRevision (p : Fin 4)
  /-- MFR_ID (R336): PMBus MFR_ID returns KROVWYN. -/
  | mfrId (p : Fin 4)
  /-- MFR_MODEL (R336): PMBus MFR_MODEL returns KV7192. -/
  | mfrModel (p : Fin 4)
  /-- MFR_REVISION (R336): PMBus MFR_REVISION returns B1. -/
  | mfrRevision (p : Fin 4)
  /-- PMBUS_UNSUPPORTED (R336): An unknown PMBus command or a write to a read-only one is not acknowledged and sets CML. -/
  | pmbusUnsupported (p : Fin 4) (code : Byte)
  /-- ALERT_RESPONSE (R335): A read of address 0x0C is answered with the port's address and ALERT is released. -/
  | alertResponse (p : Fin 4)
  /-- HOST_NOTIFY (R334): A pending Host Notify is sent to address 0x08 once the 1 ms spacing allows. -/
  | hostNotify (p : Fin 4) (acked : Bool)
  /-- ARB_LOST (R330): A controller port loses arbitration and stops driving, possibly serving the winner as target. -/
  | arbLost (p : Fin 4) (winner : Option (BitVec 7))
  /-- TW_BUS_CLEAR (R331): SDA stays low 50 µs and the port clocks SCL to clear the bus, or reports STUCK. -/
  | twBusClear (p : Fin 4) (pulses : Option (Fin 10))
  /-- TW_CONTROLLER_TIMEOUT (R331): SCL held low, or the bus not idle, for 35 ms ends the attempt with TIMEOUT. -/
  | twControllerTimeout (p : Fin 4)
  /-- TW_TARGET_TIMEOUT (R332): As target, 35 ms of SCL or own SDA low makes the port release both lines. -/
  | twTargetTimeout (p : Fin 4) (sdaCase : Bool)
  /-- TW_BUS_IDLE (R327): The bus becomes idle; pending configuration applies and retries start. -/
  | twBusIdle (p : Fin 4)
  /-- TRL_SCAN (R455): Each epoch the TRL drives lamps, senses points and checks the guard. -/
  | trlScan (sense : List (BitVec 12)) (guard : BitVec 12) (rowLow : BitVec 12)
  /-- SENSE_CHANGE (R457): A point's reading holds for DEB scans and its SENSE bit changes. -/
  | senseChange (pt : Fin 144)
  /-- COLUMN_STUCK (R458): A column reads closed in the guard for 2 scans and E989 code 0x0001 is raised. -/
  | columnStuck (i : Fin 12)
  /-- ROW_SHORT (R458): A row reads back low for 2 scans and E989 code 0x0002 is raised. -/
  | rowShort (i : Fin 12)
  /-- ROLE_TURN_TIMEOUT (R318): In a role turn, no LIVE within 20 ms of TURN_OK, or no TERMS within 10 ms of that LIVE, makes the waiting end send RESTART. -/
  | roleTurnTimeout (p : Fin 8)
  /-- TW_TRANSFER_END (R329): A two-wire controller attempt ends on the bus with DONE, NACK_ADDR, NACK_DATA or PEC_ERR, and TW_XFER completes or retries. -/
  | twTransferEnd (p : Fin 4) (res : TwRes)
  /-- ATTACH_LEVEL_LOST (R310): In CONFIRM, the pilot level leaves the attach window before 15 ms and the port returns to SEARCH with a new gap. -/
  | attachLevelLost (p : Fin 8) (mv : BitVec 12)
  /-- PRELOAD_END (R131): Preloading of an accepted plan, or of REBALANCE, ends; the activation epoch is fixed and, in a pair, PLAN is sent. -/
  | preloadEnd
  /-- CONTROL_LOGIC_SELFTEST (R389): An engine runs its control-logic self-test slices in idle cycles, or every 10 ms on sequencer and supervisory engines, and counts a pass in STPASS. -/
  | controlLogicSelftest (e : Eng) (pass : Bool)
deriving DecidableEq, Repr

end Sys2Proof
end

