-- ==== Sys2Proof/Decode.lean ====
section
/-!
DEFINITION. The encoding of the shelf instruction set (chapter 03): the fields of an instruction word, which words R51,
R52, R54 and R67 allow, what an instruction reads and writes and costs (chapters 03, 04, 07), the words of each engine
command and the command of each word. `decodeTableWord` answers none: the opcode table gives no row any bits.
-/
namespace Sys2Proof

/-- The decoder of the table's own bits (R54 gives words to engine instructions, but the table gives no bits to any row,
so no word spells a command there; log entry 1). -/
def decodeTableWord (_nbits _w : Nat) : Option Instr := none

/-- Profiles as the engines run them (Table 3.1). -/
inductive Prof where
  | l | u | s
deriving DecidableEq, Repr

/-- The profile of a context (R35): T0..T383 L, T384..T447 S, T448..T511 U. -/
def profOf (c : Ctx) : Prof := if c.val < 384 then .l else if c.val < 448 then .s else .u

/-- The fields of an instruction word and its extension word (Table 3.5). -/
structure Insn where
  op : Nat
  d : Nat
  a : Nat
  b : Nat
  sh : Nat
  md : Nat
  imm : Nat
  cond : Nat
  cnt : Nat
  off : Nat
  space : Nat
  addr : Nat
  ext : W
deriving DecidableEq, Repr

/-- Every field of Table 3.5, read from the words. -/
def insnOf (w ext : W) : Insn where
  op := w.bits 31 24
  d := w.bits 23 19
  a := w.bits 18 14
  b := w.bits 13 9
  sh := w.bits 8 4
  md := w.bits 3 0
  imm := w.bits 13 0
  cond := w.bits 23 20
  cnt := w.bits 19 14
  off := w.bits 13 0
  space := w.bits 18 16
  addr := w.bits 15 0
  ext := ext

/-- imm14 and x as two's complement (R51). -/
def Insn.simm (i : Insn) : Int := if i.imm < 8192 then i.imm else (i.imm : Int) - 16384
/-- off as two's complement, for S (R51). -/
def Insn.soff (i : Insn) : Int := if i.off < 8192 then i.off else (i.off : Int) - 16384

/-- The word of an A-form instruction (Table 3.5). -/
def wordA (op : BitVec 8) (f : AForm) : W := op ++ f.d ++ f.a ++ f.b ++ f.sh ++ f.md
/-- The word of a B-form instruction (Table 3.5). -/
def wordB (op : BitVec 8) (f : BForm) : W := op ++ f.d ++ f.a ++ f.imm
/-- The word of a C-form instruction (Table 3.5). -/
def wordC (op : BitVec 8) (f : CForm) : W := op ++ f.cond ++ f.cnt ++ f.off
/-- The word of a D-form instruction (Table 3.5). -/
def wordD (op : BitVec 8) (f : DForm) : W := op ++ f.d ++ f.space ++ f.addr
/-- The first word of an E-form instruction (Table 3.5). -/
def wordE (op : BitVec 8) (f : EForm) : W := op ++ f.d ++ f.a ++ f.x

/-- The A-form fields of a word. -/
def formA (w : W) : AForm :=
  ⟨w.extractLsb' 19 5, w.extractLsb' 14 5, w.extractLsb' 9 5, w.extractLsb' 4 5, w.extractLsb' 0 4⟩
/-- The B-form fields of a word. -/
def formB (w : W) : BForm := ⟨w.extractLsb' 19 5, w.extractLsb' 14 5, w.extractLsb' 0 14⟩
/-- The C-form fields of a word. -/
def formC (w : W) : CForm := ⟨w.extractLsb' 20 4, w.extractLsb' 14 6, w.extractLsb' 0 14⟩
/-- The D-form fields of a word. -/
def formD (w : W) : DForm := ⟨w.extractLsb' 19 5, w.extractLsb' 16 3, w.extractLsb' 0 16⟩
/-- The E-form fields of the two words. -/
def formE (w ext : W) : EForm := ⟨w.extractLsb' 19 5, w.extractLsb' 14 5, w.extractLsb' 0 14, ext⟩

/-- The words of an engine command (Table 3.8): the instruction word and, in E form, its extension word. -/
def encodeInsn : Instr → Option (W × W)
  | .nop _ f => some (wordA 0x01 f, 0)
  | .mov _ f => some (wordA 0x02 f, 0)
  | .ldi _ f => some (wordB 0x03 f, 0)
  | .ldk _ f => some (wordE 0x04 f, f.ext)
  | .sel _ f => some (wordA 0x05 f, 0)
  | .cmp _ f => some (wordA 0x06 f, 0)
  | .cmpi _ f => some (wordB 0x07 f, 0)
  | .fcmp _ f => some (wordA 0x08 f, 0)
  | .add _ f => some (wordA 0x10 f, 0)
  | .sub _ f => some (wordA 0x11 f, 0)
  | .addi _ f => some (wordB 0x12 f, 0)
  | .mul _ f => some (wordA 0x13 f, 0)
  | .neg _ f => some (wordA 0x14 f, 0)
  | .abs _ f => some (wordA 0x15 f, 0)
  | .min _ f => some (wordA 0x16 f, 0)
  | .max _ f => some (wordA 0x17 f, 0)
  | .andW _ f => some (wordA 0x18 f, 0)
  | .orW _ f => some (wordA 0x19 f, 0)
  | .xorW _ f => some (wordA 0x1A f, 0)
  | .shl _ f => some (wordA 0x1B f, 0)
  | .asr _ f => some (wordA 0x1C f, 0)
  | .lsr _ f => some (wordA 0x1D f, 0)
  | .mac _ f => some (wordA 0x20 f, 0)
  | .msu _ f => some (wordA 0x21 f, 0)
  | .mclr _ f => some (wordA 0x22 f, 0)
  | .mrd _ f => some (wordA 0x23 f, 0)
  | .mld _ f => some (wordA 0x24 f, 0)
  | .fadd _ f => some (wordA 0x28 f, 0)
  | .fsub _ f => some (wordA 0x29 f, 0)
  | .fmul _ f => some (wordA 0x2A f, 0)
  | .fma _ f => some (wordA 0x2B f, 0)
  | .fdiv _ f => some (wordA 0x2C f, 0)
  | .fsqrt _ f => some (wordA 0x2D f, 0)
  | .cvtf _ f => some (wordA 0x2E f, 0)
  | .cvti _ f => some (wordA 0x2F f, 0)
  | .sat _ f => some (wordA 0x30 f, 0)
  | .clamp _ f => some (wordA 0x31 f, 0)
  | .intg _ f => some (wordA 0x32 f, 0)
  | .diff _ f => some (wordA 0x33 f, 0)
  | .filt1 _ f => some (wordA 0x34 f, 0)
  | .lim _ f => some (wordA 0x35 f, 0)
  | .rpt _ f => some (wordA 0x36 f, 0)
  | .plaus _ f => some (wordA 0x37 f, 0)
  | .ld _ f => some (wordD 0x40 f, 0)
  | .st _ f => some (wordD 0x41 f, 0)
  | .ldx _ f => some (wordA 0x42 f, 0)
  | .stx _ f => some (wordA 0x43 f, 0)
  | .inp _ f => some (wordD 0x44 f, 0)
  | .out _ f => some (wordD 0x45 f, 0)
  | .evt _ f => some (wordB 0x50 f, 0)
  | .recI _ f => some (wordA 0x51 f, 0)
  | .bf _ f => some (wordC 0x60 f, 0)
  | .loopn _ f => some (wordC 0x61 f, 0)
  | .callf _ f => some (wordC 0x62 f, 0)
  | .endRel _ f => some (wordC 0x63 f, 0)
  | .en _ f => some (wordB 0x70 f, 0)
  | .dis _ f => some (wordB 0x71 f, 0)
  | .setref _ f => some (wordE 0x72 f, f.ext)
  | .wait _ f => some (wordE 0x73 f, f.ext)
  | .chk _ f => some (wordE 0x74 f, f.ext)
  | .jmp _ f => some (wordC 0x75 f, 0)
  | .jc _ f => some (wordC 0x76 f, 0)
  | .retry _ f => some (wordE 0x77 f, f.ext)
  | .mark _ f => some (wordB 0x78 f, 0)
  | .send _ f => some (wordE 0x79 f, f.ext)
  | .await _ f => some (wordE 0x7A f, f.ext)
  | .log _ f => some (wordB 0x7B f, 0)
  | .call _ f => some (wordC 0x7C f, 0)
  | .lib _ f => some (wordE 0x80 f, f.ext)
  | .ledg _ f => some (wordB 0x81 f, 0)
  | .tmur _ f => some (wordB 0x82 f, 0)
  | .jrd _ f => some (wordB 0x83 f, 0)
  | .jwr _ f => some (wordB 0x84 f, 0)
  | .period _ f => some (wordA 0x85 f, 0)
  | _ => none

/-- The engine command a context decodes from its words; none for an illegal opcode (Table 3.8). -/
def decodeInsn (c : Ctx) (w ext : W) : Option Instr :=
  match (w.extractLsb' 24 8).toNat with
  | 0x01 => some (.nop c (formA w))
  | 0x02 => some (.mov c (formA w))
  | 0x03 => some (.ldi c (formB w))
  | 0x04 => some (.ldk c (formE w ext))
  | 0x05 => some (.sel c (formA w))
  | 0x06 => some (.cmp c (formA w))
  | 0x07 => some (.cmpi c (formB w))
  | 0x08 => some (.fcmp c (formA w))
  | 0x10 => some (.add c (formA w))
  | 0x11 => some (.sub c (formA w))
  | 0x12 => some (.addi c (formB w))
  | 0x13 => some (.mul c (formA w))
  | 0x14 => some (.neg c (formA w))
  | 0x15 => some (.abs c (formA w))
  | 0x16 => some (.min c (formA w))
  | 0x17 => some (.max c (formA w))
  | 0x18 => some (.andW c (formA w))
  | 0x19 => some (.orW c (formA w))
  | 0x1A => some (.xorW c (formA w))
  | 0x1B => some (.shl c (formA w))
  | 0x1C => some (.asr c (formA w))
  | 0x1D => some (.lsr c (formA w))
  | 0x20 => some (.mac c (formA w))
  | 0x21 => some (.msu c (formA w))
  | 0x22 => some (.mclr c (formA w))
  | 0x23 => some (.mrd c (formA w))
  | 0x24 => some (.mld c (formA w))
  | 0x28 => some (.fadd c (formA w))
  | 0x29 => some (.fsub c (formA w))
  | 0x2A => some (.fmul c (formA w))
  | 0x2B => some (.fma c (formA w))
  | 0x2C => some (.fdiv c (formA w))
  | 0x2D => some (.fsqrt c (formA w))
  | 0x2E => some (.cvtf c (formA w))
  | 0x2F => some (.cvti c (formA w))
  | 0x30 => some (.sat c (formA w))
  | 0x31 => some (.clamp c (formA w))
  | 0x32 => some (.intg c (formA w))
  | 0x33 => some (.diff c (formA w))
  | 0x34 => some (.filt1 c (formA w))
  | 0x35 => some (.lim c (formA w))
  | 0x36 => some (.rpt c (formA w))
  | 0x37 => some (.plaus c (formA w))
  | 0x40 => some (.ld c (formD w))
  | 0x41 => some (.st c (formD w))
  | 0x42 => some (.ldx c (formA w))
  | 0x43 => some (.stx c (formA w))
  | 0x44 => some (.inp c (formD w))
  | 0x45 => some (.out c (formD w))
  | 0x50 => some (.evt c (formB w))
  | 0x51 => some (.recI c (formA w))
  | 0x60 => some (.bf c (formC w))
  | 0x61 => some (.loopn c (formC w))
  | 0x62 => some (.callf c (formC w))
  | 0x63 => some (.endRel c (formC w))
  | 0x70 => some (.en c (formB w))
  | 0x71 => some (.dis c (formB w))
  | 0x72 => some (.setref c (formE w ext))
  | 0x73 => some (.wait c (formE w ext))
  | 0x74 => some (.chk c (formE w ext))
  | 0x75 => some (.jmp c (formC w))
  | 0x76 => some (.jc c (formC w))
  | 0x77 => some (.retry c (formE w ext))
  | 0x78 => some (.mark c (formB w))
  | 0x79 => some (.send c (formE w ext))
  | 0x7A => some (.await c (formE w ext))
  | 0x7B => some (.log c (formB w))
  | 0x7C => some (.call c (formC w))
  | 0x80 => some (.lib c (formE w ext))
  | 0x81 => some (.ledg c (formB w))
  | 0x82 => some (.tmur c (formB w))
  | 0x83 => some (.jrd c (formB w))
  | 0x84 => some (.jwr c (formB w))
  | 0x85 => some (.period c (formA w))
  | _ => none

/-- The context an engine command names. -/
def engineCtx : Instr → Option Ctx
  | .nop c _ => some c
  | .mov c _ => some c
  | .ldi c _ => some c
  | .ldk c _ => some c
  | .sel c _ => some c
  | .cmp c _ => some c
  | .cmpi c _ => some c
  | .fcmp c _ => some c
  | .add c _ => some c
  | .sub c _ => some c
  | .addi c _ => some c
  | .mul c _ => some c
  | .neg c _ => some c
  | .abs c _ => some c
  | .min c _ => some c
  | .max c _ => some c
  | .andW c _ => some c
  | .orW c _ => some c
  | .xorW c _ => some c
  | .shl c _ => some c
  | .asr c _ => some c
  | .lsr c _ => some c
  | .mac c _ => some c
  | .msu c _ => some c
  | .mclr c _ => some c
  | .mrd c _ => some c
  | .mld c _ => some c
  | .fadd c _ => some c
  | .fsub c _ => some c
  | .fmul c _ => some c
  | .fma c _ => some c
  | .fdiv c _ => some c
  | .fsqrt c _ => some c
  | .cvtf c _ => some c
  | .cvti c _ => some c
  | .sat c _ => some c
  | .clamp c _ => some c
  | .intg c _ => some c
  | .diff c _ => some c
  | .filt1 c _ => some c
  | .lim c _ => some c
  | .rpt c _ => some c
  | .plaus c _ => some c
  | .ld c _ => some c
  | .st c _ => some c
  | .ldx c _ => some c
  | .stx c _ => some c
  | .inp c _ => some c
  | .out c _ => some c
  | .evt c _ => some c
  | .recI c _ => some c
  | .bf c _ => some c
  | .loopn c _ => some c
  | .callf c _ => some c
  | .endRel c _ => some c
  | .en c _ => some c
  | .dis c _ => some c
  | .setref c _ => some c
  | .wait c _ => some c
  | .chk c _ => some c
  | .jmp c _ => some c
  | .jc c _ => some c
  | .retry c _ => some c
  | .mark c _ => some c
  | .send c _ => some c
  | .await c _ => some c
  | .log c _ => some c
  | .call c _ => some c
  | .lib c _ => some c
  | .ledg c _ => some c
  | .tmur c _ => some c
  | .jrd c _ => some c
  | .jwr c _ => some c
  | .period c _ => some c
  | _ => none

/-- The opcode is in Table 3.8 and legal in the profile. -/
def opLegal (p : Prof) (op : Nat) : Bool :=
  match p with
  | .l => [0x01, 0x02, 0x03, 0x04, 0x05, 0x06, 0x07, 0x08, 0x10, 0x11, 0x12, 0x13, 0x14, 0x15, 0x16, 0x17, 0x18, 0x19, 0x1A, 0x1B, 0x1C, 0x1D, 0x20, 0x21, 0x22, 0x23, 0x24, 0x28, 0x29, 0x2A, 0x2B, 0x2C, 0x2D, 0x2E, 0x2F, 0x30, 0x31, 0x32, 0x33, 0x34, 0x35, 0x36, 0x37, 0x40, 0x41, 0x42, 0x43, 0x44, 0x45, 0x50, 0x51, 0x60, 0x61, 0x62, 0x63].contains op
  | .u => [0x01, 0x02, 0x03, 0x04, 0x05, 0x06, 0x07, 0x08, 0x10, 0x11, 0x12, 0x13, 0x14, 0x15, 0x16, 0x17, 0x18, 0x19, 0x1A, 0x1B, 0x1C, 0x1D, 0x20, 0x21, 0x22, 0x23, 0x24, 0x28, 0x29, 0x2A, 0x2B, 0x2C, 0x2D, 0x2E, 0x2F, 0x30, 0x31, 0x32, 0x33, 0x34, 0x35, 0x36, 0x37, 0x40, 0x41, 0x42, 0x43, 0x50, 0x51, 0x60, 0x61, 0x62, 0x63, 0x80, 0x81, 0x82, 0x83, 0x84, 0x85].contains op
  | .s => [0x01, 0x02, 0x03, 0x04, 0x06, 0x07, 0x10, 0x11, 0x12, 0x18, 0x19, 0x40, 0x41, 0x50, 0x63, 0x70, 0x71, 0x72, 0x73, 0x74, 0x75, 0x76, 0x77, 0x78, 0x79, 0x7A, 0x7B, 0x7C].contains op
/-- The opcode is E-form: an extension word follows (R53). -/
def opIsE (op : Nat) : Bool := [0x04, 0x72, 0x73, 0x74, 0x77, 0x79, 0x7A, 0x80].contains op

/-- Arguments and results of a library service, and its latency in SCLK (Table 3.10). -/
def libService (svc : Nat) : Option (Nat × Nat × Nat) :=
  match svc with
  | 0x0001 => some (1, 1, 64)
  | 0x0002 => some (1, 1, 64)
  | 0x0003 => some (1, 2, 48)
  | 0x0010 => some (3, 1, 220)
  | 0x0011 => some (3, 1, 220)
  | 0x0020 => some (2, 1, 552)
  | 0x0030 => some (5, 1, 30)
  | _ => none

/-- The condition field of END, JC and CALL in S (R169, Table 7.5): `cnt` is bits 19:14, of which 19:16 name s[n]. -/
def condSOk (i : Insn) : Bool :=
  i.cond ≤ 0xA && i.cnt % 4 == 0 && ((1 ≤ i.cond && i.cond ≤ 6) || i.cnt == 0)

/-- COUNT of a time field (R170). -/
def Insn.count (i : Insn) : Nat := i.ext.bits 30 16
/-- The steps of a time field (R170). -/
def Insn.timeSteps (i : Insn) : Nat := if i.ext.bit 31 then i.count * 1000 else i.count

/-- R51, R52, R67 and the field uses of each reference: every field is used as the instruction allows, and every unused
field is 0. -/
def fieldsOk (p : Prof) (i : Insn) : Bool :=
  let f0 := i.sh == 0 && i.md == 0
  let s := p == .s
  let r (n : Nat) := !s || n < 16
  match i.op with
  | 0x01 => i.d == 0 && i.a == 0 && i.b == 0 && f0
  | 0x02 => r i.d && r i.a && i.b == 0 && f0
  | 0x03 => r i.d && i.a == 0
  | 0x04 => r i.d && i.a == 0 && i.imm == 0
  | 0x05 => i.sh == 0 && i.md ≤ 0xC
  | 0x06 => r i.a && r i.b && (if s then r i.d else i.d == 0) && f0
  | 0x07 => r i.a && (if s then r i.d else i.d == 0)
  | 0x08 => i.d == 0 && f0
  | 0x10 | 0x11 => r i.d && r i.a && r i.b && i.sh == 0 && i.md ≤ 1
  | 0x12 => r i.d && r i.a
  | 0x13 => i.md ≤ 1
  | 0x14 | 0x15 => i.b == 0 && i.sh == 0 && i.md ≤ 1
  | 0x16 | 0x17 => i.sh == 0 && i.md ≤ 1
  | 0x18 | 0x19 => r i.d && r i.a && r i.b && f0
  | 0x1A => f0
  | 0x1B => i.md ≤ 3 && (if i.md % 2 == 1 then i.sh == 0 else i.b == 0)
  | 0x1C | 0x1D => i.md ≤ 1 && (if i.md % 2 == 1 then i.sh == 0 else i.b == 0)
  | 0x20 | 0x21 => i.d ≤ 3 && f0
  | 0x22 => i.d ≤ 3 && i.a == 0 && i.b == 0 && f0
  | 0x23 => i.a ≤ 3 && i.b == 0 && i.md ≤ 1
  | 0x24 => i.d ≤ 3 && i.b == 0 && i.md == 0
  | 0x28 | 0x29 | 0x2A | 0x2B | 0x2C => f0
  | 0x2D => i.b == 0 && f0
  | 0x2E | 0x2F => i.b == 0 && i.md == 0
  | 0x30 => i.b == 0 && i.md == 0
  | 0x31 => i.sh == 0 && i.md ≤ 1 && i.b + 1 ≤ 31
  | 0x32 => i.md ≤ 1 && (i.md == 0 || i.sh == 0)
  | 0x33 => i.sh == 0 && i.md ≤ 1 && i.d != i.b
  | 0x34 | 0x35 => i.sh == 0 && i.md ≤ 1
  | 0x36 => i.sh == 0 && i.md ≤ 1 && i.b + 2 ≤ 31
  | 0x37 => i.sh == 0 && i.md ≤ 7
  | 0x40 | 0x41 => r i.d
  | 0x42 => i.sh == 0 && (i.md == 0 || i.md == 2 || i.md == 3 || i.md == 5)
  | 0x43 => i.sh == 0 && (i.md == 0 || i.md == 2 || i.md == 3)
  | 0x44 | 0x45 => i.space == 4
  | 0x50 => r i.d && i.imm / 0x1000 ≤ 1
  | 0x51 => i.d == 0 && i.b == 0 && i.md ≤ 7 && i.a + i.md ≤ 31
  | 0x60 | 0x62 => i.cond ≤ 0xC && i.cnt == 0
  | 0x61 => i.cond == 0
  | 0x63 => i.off == 0 && (if s then condSOk i else i.cond ≤ 0xC && i.cnt == 0)
  | 0x70 | 0x71 => i.d == 0 && i.a == 0 && i.imm ≤ 7
  | 0x72 => i.d == 0 && r i.a && i.imm ≤ 7
  | 0x73 => r i.d && i.a == 0 && i.imm / 1024 ≤ 5 && i.imm / 8 % 64 == 0 && 1 ≤ i.count &&
      (i.imm / 1024 ≥ 4 || i.ext.bits 15 0 == 0) && (i.imm / 1024 != 0 || i.imm % 8 == 0)
  | 0x74 => r i.d && i.a == 0 && i.imm / 8 % 1024 == 0 && (i.imm / 8192 == 1 || i.ext == 0)
  | 0x75 => i.cond == 0 && i.cnt == 0 && i.off != 0
  | 0x76 | 0x7C => condSOk i
  | 0x77 => i.d == 0 && i.a == 0 && i.imm ≤ 15 && i.ext.bits 15 0 == 0 && 1 ≤ i.count
  | 0x78 => i.d == 0 && i.a == 0 && i.imm ≤ 0xFF
  | 0x79 => r i.d && i.a == 0 && i.imm / 1024 ≤ 1 && i.ext.bits 31 16 == 0
  | 0x7A => r i.d && i.a == 0 && i.imm / 8192 == 0 && i.imm / 1024 % 4 ≤ 1 && 1 ≤ i.count
  | 0x7B => i.d == 0 && r i.a && i.imm ≤ 0xFFF
  | 0x80 => i.imm == 0 && i.ext.bits 31 16 == 0 &&
      (match libService (i.ext.bits 15 0) with
       | some (k, n, _) => i.a + k ≤ 32 && i.d + n ≤ 32
       | none => false)
  | 0x81 => i.imm / 8 % 32 == 0 && (i.a == 0 || i.imm / 256 == 0)
  | 0x82 => i.imm % 8 == 0 && i.imm / 64 < 192 && (i.a == 0 || i.imm / 64 == 0)
  | 0x83 => i.imm % 4 ≤ 1 && i.imm / 4 % 4 ≤ 2 && (i.a == 0 || i.imm / 16 == 0)
  | 0x84 => i.a == 0 && i.imm / 16 == 0 && i.imm % 4 == 0 && i.imm / 4 ≤ 2
  | 0x85 => i.d == 0 && i.b == 0 && i.sh == 0 && i.md ≤ 7
  | _ => false

/-- R44, Table 3.3: the space of an LD or ST is offered to the profile and to the instruction. -/
def spaceOk (p : Prof) (st : Bool) (sp : Nat) : Bool :=
  match sp with
  | 0 => true
  | 1 => p == .l && !st
  | 2 => p != .s
  | 3 => true
  | 5 => true
  | 6 => !st
  | _ => false

/-- The part of R55 that the word and the profile decide: opcode, fields and spaces. -/
def insnOk (p : Prof) (i : Insn) : Bool :=
  opLegal p i.op && fieldsOk p i &&
  (match i.op with
   | 0x40 => spaceOk p false i.space
   | 0x41 => spaceOk p true i.space
   | _ => true)

/-- Numbers of the resources of R86 beside the registers: m0..m3 are 32 to 35, Z N C S P are 36 to 40. -/
def rM (k : Nat) : Nat := 32 + k
/-- Resource Z. -/
def rZ : Nat := 36
/-- Resource N. -/
def rN : Nat := 37
/-- Resource C. -/
def rC : Nat := 38
/-- Resource S. -/
def rS : Nat := 39
/-- Resource P. -/
def rP : Nat := 40

/-- The flags a condition of Table 3.6 reads. -/
def condRes (cond : Nat) : List Nat :=
  match cond with
  | 1 | 2 => [rZ]
  | 3 | 4 => [rN]
  | 5 | 6 => [rC]
  | 7 | 8 => [rS]
  | 9 | 10 => [rP]
  | 11 | 12 => [rZ, rN]
  | _ => []

/-- The condition's register in S (R169). -/
def condSRes (i : Insn) : List Nat := if 1 ≤ i.cond && i.cond ≤ 6 then [i.cnt / 4] else []

/-- The resources an instruction reads (R86); an accumulator read by MAC or MSU is given by `macReads`. v0 is listed
and dropped by the users of this list. -/
def Insn.reads (p : Prof) (i : Insn) : List Nat :=
  match i.op with
  | 0x02 => [i.a]
  | 0x05 => [i.a, i.b] ++ condRes i.md
  | 0x06 | 0x08 => [i.a, i.b]
  | 0x07 => [i.a]
  | 0x10 | 0x11 | 0x13 | 0x16 | 0x17 | 0x18 | 0x19 | 0x1A => [i.a, i.b]
  | 0x12 | 0x14 | 0x15 => [i.a]
  | 0x1B | 0x1C | 0x1D => if i.md % 2 == 1 then [i.a, i.b] else [i.a]
  | 0x20 | 0x21 => [i.a, i.b]
  | 0x23 => [rM i.a]
  | 0x24 => [i.a]
  | 0x28 | 0x29 | 0x2A | 0x2C => [i.a, i.b]
  | 0x2B => [i.d, i.a, i.b]
  | 0x2D | 0x2E | 0x2F | 0x30 => [i.a]
  | 0x31 => [i.a, i.b, i.b + 1]
  | 0x32 => [i.d, i.a, i.b, rS]
  | 0x33 => [i.a, i.b]
  | 0x34 | 0x35 => [i.d, i.a, i.b]
  | 0x36 => [i.a, i.b, i.b + 1, i.b + 2, rS]
  | 0x37 => [i.d, i.a, i.b]
  | 0x41 | 0x45 | 0x50 => [i.d]
  | 0x42 => [i.a, i.b]
  | 0x43 => [i.d, i.a, i.b]
  | 0x51 => (List.range (i.md + 1)).map (i.a + ·)
  | 0x60 | 0x62 => condRes i.cond
  | 0x63 => if p == .s then condSRes i else condRes i.cond
  | 0x72 | 0x7B => [i.a]
  | 0x76 | 0x7C => condSRes i
  | 0x80 => (match libService (i.ext.bits 15 0) with
             | some (k, _, _) => (List.range k).map (i.a + ·)
             | none => [])
  | 0x81 | 0x82 | 0x83 => [i.a]
  | 0x84 => [i.d]
  | 0x85 => [i.a]
  | _ => []

/-- The accumulators an instruction reads as MAC and MSU do, with latency 1 behind a MAC or MSU (R71). -/
def Insn.macReads (i : Insn) : List Nat := if i.op == 0x20 || i.op == 0x21 then [i.d] else []

/-- The flags an instruction writes, in L and U (Tables 4.2 to 4.7). -/
def Insn.flagWrites (i : Insn) : List Nat :=
  let f := i.md % 2 == 1
  match i.op with
  | 0x06 | 0x07 | 0x08 | 0x10 | 0x11 | 0x12 | 0x13 | 0x1B | 0x1C | 0x1D | 0x23 => [rZ, rN, rC]
  | 0x14 | 0x15 | 0x32 | 0x33 => if f then [] else [rZ, rN, rC]
  | 0x16 | 0x17 | 0x34 => if f then [] else [rZ, rN]
  | 0x18 | 0x19 | 0x1A => [rZ, rN]
  | 0x2F => [rC]
  | 0x30 => [rS, rZ, rN]
  | 0x31 => if f then [rS] else [rS, rZ, rN]
  | 0x35 => [rC]
  | 0x37 => [rZ, rN, rP]
  | 0x44 => [rC]
  | _ => []

/-- The registers an instruction writes (R86). -/
def Insn.regWrites (p : Prof) (i : Insn) : List Nat :=
  match i.op with
  | 0x06 | 0x07 => if p == .s then [i.d] else []
  | 0x02 | 0x03 | 0x04 | 0x05 | 0x10 | 0x11 | 0x12 | 0x13 | 0x14 | 0x15 | 0x16 | 0x17 | 0x18 | 0x19 | 0x1A | 0x1B
  | 0x1C | 0x1D | 0x23 | 0x28 | 0x29 | 0x2A | 0x2B | 0x2C | 0x2D | 0x2E | 0x2F | 0x30 | 0x31 | 0x32 | 0x34 | 0x35
  | 0x36 | 0x40 | 0x42 | 0x44 | 0x73 | 0x74 | 0x79 | 0x7A | 0x81 | 0x82 | 0x83 => [i.d]
  | 0x33 => [i.d, i.b]
  | 0x80 => (match libService (i.ext.bits 15 0) with
             | some (_, n, _) => (List.range n).map (i.d + ·)
             | none => [])
  | _ => []

/-- The accumulators an instruction writes. -/
def Insn.accWrites (i : Insn) : List Nat :=
  match i.op with
  | 0x20 | 0x21 | 0x22 | 0x24 => [rM i.d]
  | _ => []

/-- An instruction whose d field names v0 as its destination writes no flag (R38, R86). -/
def Insn.dest0 (p : Prof) (i : Insn) : Bool :=
  p != .s && (i.regWrites p).contains i.d && i.d == 0 && i.op != 0x80

/-- The resources an instruction writes (R86); v0 is no resource in L and U. -/
def Insn.writes (p : Prof) (i : Insn) : List Nat :=
  if p == .s then i.regWrites p
  else (i.regWrites p).filter (· != 0) ++ i.accWrites ++ (if i.dest0 p then [] else i.flagWrites)

/-- The resources an instruction reads without v0 (R86). -/
def Insn.readsRes (p : Prof) (i : Insn) : List Nat :=
  if p == .s then i.reads p else (i.reads p).filter (· != 0)

/-- Issue cost of an instruction that is not a taken branch or a returning END (Tables 4.2 to 4.8, 3.9, 7.6). -/
def Insn.issue (i : Insn) : Nat :=
  match i.op with
  | 0x04 | 0x61 | 0x80 | 0x70 | 0x71 | 0x72 | 0x73 | 0x74 | 0x77 | 0x79 | 0x7A | 0x7B => 2
  | 0x2C | 0x2D => 10
  | 0x36 | 0x75 => 3
  | 0x51 => i.md + 1
  | _ => 1

/-- Latency of an access to a space: 24 LCLK for SHARED and PARAM, 12 SCLK on the slower engines (R57, R79, R168). -/
def memLatency (p : Prof) (sp : Nat) : Nat := if sp == 3 || sp == 5 then (if p == .l then 24 else 12) else 3

/-- Result latency (Tables 4.2 to 4.7, 3.9, 3.10, 7.6). -/
def Insn.latency (p : Prof) (i : Insn) : Nat :=
  match i.op with
  | 0x08 | 0x23 | 0x30 | 0x31 | 0x33 | 0x35 => 2
  | 0x13 | 0x20 | 0x21 | 0x2E | 0x2F | 0x32 | 0x37 => 3
  | 0x28 | 0x29 | 0x2A | 0x34 | 0x44 => 4
  | 0x2B => 5
  | 0x2C | 0x2D => 14
  | 0x36 => 6
  | 0x40 => memLatency p i.space
  | 0x42 => memLatency p i.md
  | 0x73 | 0x74 | 0x79 | 0x7A => 2
  | 0x80 => (match libService (i.ext.bits 15 0) with
             | some (_, _, l) => l
             | none => 0)
  | 0x81 | 0x82 | 0x83 => 12
  | _ => 1

end Sys2Proof
end

