-- ==== Sys2Proof/Config.lean ====
section
/-!
DEFINITION. What the spec leaves free (log entry 7) and the figures an implementation fixes.
-/
namespace Sys2Proof

/-- The n-th value that the spec leaves to chance or to the implementation (random draws of R309, R313 and R318, values
the spec does not state): nothing is known of it. -/
opaque Config.free : Nat → Nat

/-- A free value from `lo` to `hi` (R309, R313, R318 give such ranges). -/
def Config.draw (n lo hi : Nat) : Nat := lo + Config.free n % (hi + 1 - lo)

/-- Instruction words of the firmware's code for a library task (R63): the manual gives its worst case but no length, so
nothing is known of it (log entry 26). -/
opaque Config.libWords : Nat → Nat

/-- The instruction words of that code (R63): the manual prints none, so nothing is known of them (log entry 26). -/
opaque Config.libCode : Nat → Nat → BitVec 32

/-- The bytes of the 256 KB boot ROM (R3), by offset: the manual states what the ROM does (R435 to R441) and not its bytes, so
nothing is known of them (log entry 65). -/
opaque Config.bootRom : Nat → BitVec 8

/-- Whether the block of a library task of a minor version below 3 lacks a word that version 1.3 has (R63, R254): the manual does not
say which, so nothing is known of it (log entry 26). -/
opaque Config.libLacks : Nat → Nat → Nat → Bool

/-- Ticks of an epoch (00 Time scales). -/
def ticksPerEpoch : Nat := 2000
/-- Ticks of a join cycle (R4). -/
def ticksPerCycle : Nat := 200
/-- Ticks of one ms. -/
def ticksPerMs : Nat := 2000
/-- Ticks of one s. -/
def ticksPerS : Nat := 2000000

end Sys2Proof
end

