-- ==== Sys2Proof/Machine/State.lean ====
section
/-!
DEFINITION. The state of the KV7192 as plain data: every register, counter, buffer, mode and pin the spec gives the
device, the queue of waiting commands, and `State.reset`. Each field's docstring names its width, the file and rule of
spec/ that names it, and its reset value; a reset value the spec does not give names its log entry.
-/
namespace Sys2Proof.Machine

/-- Chip states (00: Conventions; Table 21.1, Table 19.6). -/
inductive ChipSt where
  | reset | boot | run | dormant | store
deriving DecidableEq, Repr

/-- The clock and time unit (chapter 02). -/
structure Clk where
  /-- Chip state (00 Conventions, 21 R427-R431); reset RESET. -/
  chip : ChipSt
  /-- TC, the tick count, 48 bits (02 R22); reset 0. -/
  tc : BitVec 48
  /-- TS, the timestamp, 64 bits (02 R23); reset 0. -/
  ts : TS
  /-- ROOT_LOCK of CTU_STATUS, 1 bit (02 Table 2.5); reset 0. -/
  rootLock : Bool
  /-- TICK_RUN of CTU_STATUS: the dividers run, 1 bit (02 Table 2.5); reset 0. -/
  tickRun : Bool
  /-- REFSEL of CTU_STATUS, the PLL reference, 2 bits (02 R21, Table 2.5); reset 0b00 crystal. -/
  refsel : RefSel
  /-- HOLDOVER of CTU_STATUS, 1 bit (02 R29); reset 0. -/
  holdover : Bool
  /-- NOT_ALIGNED of CTU_STATUS, 1 bit (02 R28); reset 0. -/
  notAligned : Bool
  /-- ALIGNED of CTU_STATUS, 1 bit (02 R26); reset 0. -/
  aligned : Bool
  /-- ALIGN_EN of CTU_CTRL, 1 bit (02 Table 2.6); reset 1. -/
  alignEn : Bool
  /-- The TC snapshot, 48 bits, CTU_TC_LO/HI (02 R33); reset 0. -/
  snapTc : BitVec 48
  /-- The TS snapshot, 64 bits, CTU_TS_LO/HI (02 R33); reset 0. -/
  snapTs : TS
  /-- VALID of CTU_ALIGN, 1 bit (02 Table 2.7); reset 0. -/
  alignValid : Bool
  /-- OFFSET of CTU_ALIGN, 20 bits signed in ps (02 Table 2.7); reset 0. -/
  alignOffset : Int
  /-- CTU_NUDGES, 32 bits wrapping (02 Table 2.4); reset 0. -/
  nudges : W
  /-- CTU_MON sticky flags, bits 6:1 (02 Table 2.8); reset 0. -/
  mon : W
  /-- CTU_WAKE, bits 5:0 (02 Table 2.9); reset 0. -/
  wake : BitVec 6
  /-- The offsets of this epoch's sync words, in ps, newest first (02 R25); reset empty. -/
  offs : List Int
  /-- Epochs in a row with the averaged offset outside 40 ns (02 R28); reset 0. -/
  outEpochs : Nat
  /-- The nudge being spread over the epoch: its direction (+1, -1) or 0 (02 R25); reset 0. -/
  nudgeDir : Int
  /-- ROOT's phase moved so far, in 1/32 ROOT cycles (02 R25); reset 0. -/
  rootPhase : Int
  /-- A wake has begun: the PLL locks and the dividers have not restarted (02 R31, Table 2.2); reset 0. -/
  waking : Bool
  /-- A task has been released since the last reset, or since all channels last entered OFF (02 R27); reset 0. -/
  released : Bool
deriving DecidableEq, Repr

/-- The working values of a library instance that are no parameter words (chapters 11, 12, 14). -/
structure LibSt where
  /-- Samples of the last 200 ticks: sample tick, B and C (11 R254 means); reset empty. -/
  win : List (Nat × Int × Int)
  /-- Fault timer: the sample tick that started it (11 R258, 14 R319); reset none. -/
  timer : Option Nat
  /-- Presence change in progress: the new value and the sample tick of its first sample (11 R261); reset none. -/
  pres : Option (Bool × Nat)
  /-- Presence has been taken from a first fresh sample (11 R262); reset 0. -/
  presKnown : Bool
  /-- Ramp reference (11 R257); reset 0. -/
  ramp : Int
  /-- Sample tick of the release that entered RAMP, or the state in force (11 Table 11.2); reset 0. -/
  since : Nat
  /-- The tick whose low word is LATCH_TICK (11 R260); reset 0. -/
  latch : Nat
  /-- Integrator of the first PI term (11 R263, R264, 14 R319); reset 0. -/
  i1 : Int
  /-- Integrator of the second PI term (11 R264); reset 0. -/
  i2 : Int
  /-- The last CLAMP clipped (S) (11 R263); reset 0. -/
  sat : Bool
  /-- The last CLAMP of the second PI term clipped (11 R264); reset 0. -/
  sat2 : Bool
  /-- Trims of Share by member channel, binary32 (11 R266); reset empty. -/
  trims : List (Nat × W)
  /-- I_LIM_RET of Hold-up in A, binary32 (11 R269); reset 0. -/
  limRet : W
  /-- Feeds that Cap has shed, last first: power before shedding, and releases in a row that the restore condition has held (11 R272); reset empty. -/
  shed : List (Nat × W × Nat)
  /-- CLASS at the last release of Cap (11 R271); reset 0. -/
  capCls : Nat
  /-- Class L search: 0 measuring V_NOLOAD, 1 searching, 2 settled (11 R271); reset 0. -/
  phase : Nat
  /-- Consecutive sagging releases (11 R271); reset 0. -/
  sag : Nat
  /-- Last limit that did not sag, binary32 (11 R271); reset 0. -/
  lastOk : W
  /-- V_IN samples of the V_NOLOAD measurement (11 R271); reset empty. -/
  vSamples : List W
  /-- Tick of the last search step or settling (11 R271); reset 0. -/
  mark : Nat
  /-- Ledger Q at the last step (12 R281); reset 0. -/
  qLast : BitVec 64
  /-- Ledger field 6 at the last step (12 R281); reset 0. -/
  ticksLast : W
  /-- Tick of the last step (12 R281); reset 0. -/
  stepTick : Nat
  /-- Releases since the last step (12 R281); reset 0. -/
  releases : Nat
  /-- Steps taken, for the table check at every 100th (12 R282); reset 0. -/
  steps : Nat
  /-- Releases since the cold start, for SOC_REC at every 100th (12 R288); reset 0. -/
  count : Nat
  /-- Times GAP had been set at the last step (12 Table 12.2 row 4); reset 0. -/
  gapStep : Nat
  /-- Ticks the taper window has held across consecutive steps, while it holds (12 R285); reset none. -/
  taper : Option Nat
  /-- Ticks rest has held across consecutive steps, while it holds (12 R287, R288); reset none. -/
  rest : Option Nat
  /-- STALE was set at the step before (12 Table 12.2 row 4); reset 0. -/
  staleStep : Bool
  /-- Blend: target, start and ticks covered (12 R288); reset none. -/
  blend : Option (W × W × Nat)
  /-- Warning levels raised and not yet left by 0.02 (12 R286), bits 2:0; reset 0. -/
  warned : BitVec 3
  /-- Charge in of the ledger when the main path armed, in counts (12 R290); reset 0. -/
  learnIn : Nat
  /-- A first rest point is held (12 R291); reset 0. -/
  restPoint : Bool
  /-- T_CELL left the learning band since the first rest point (12 R292); reset 0. -/
  outBand : Bool
  /-- Rest has served its point already in this rest (12 R291); reset 0. -/
  restUsed : Bool
deriving DecidableEq, Repr

/-- A LOOPN body that is active in a release (R82, R84): its first word, the word after it and the iterations left. -/
structure LoopFrame where
  start : Nat
  stop : Nat
  left : Nat
deriving DecidableEq, Repr

/-- A return point on the call stack (R84): the word and the number of bodies open at the call. -/
structure CallFrame where
  ret : Nat
  newIter : Bool
  bodies : List LoopFrame
deriving DecidableEq, Repr

/-- Profile of a task (Table 6.4). -/
inductive Profile where
  | l | s | u
deriving DecidableEq, Repr

/-- A plausibility check declared by a CHECK grant (R78, Table 6.5). -/
structure CheckDecl where
  num : Nat
  ch : Nat
  lim : Nat
  safe : Bool
  widen : Nat
deriving DecidableEq, Repr

/-- A task descriptor with its code and data (Tables 6.4 and 6.5, R124, R125). -/
structure Task where
  num : Nat
  profile : Profile
  lib : Option (Nat × Nat × Nat)
  pin : Bool
  deadline : Nat
  period : Nat
  codeRef : Nat
  code : List W
  paramLen : Nat
  localLen : Nat
  localInit : List W
  paramInit : List W
  banks : List W
  shBase : Nat
  shLen : Nat
  t0Log2 : Nat
  t1Log2 : Nat
  t0Ramp : Nat
  t1Ramp : Nat
  phaseSrc : Nat
  wcetMax : Nat
  pinPhase : Nat
  pinEngine : Nat
  /-- Channel grants in list order: OWNED and the channel (grant index = position). -/
  chans : List (Bool × Nat)
  checks : List CheckDecl
  mirror : List Nat
  ledgers : List Nat
  jwr : List Nat
  pgens : List Nat
  recw : Option Nat
  /-- The most user words that a path pushes (04 R81), fixed at admission. -/
  recMax : Nat
  /-- IMAGE_CRC of the image that brought the code section (06 R124, R154). -/
  codeImg : W
  tblrec : List (Bool × Nat)
  /-- Word address of the PARAM block in shared task memory (03 R46), fixed at admission. -/
  paramAt : Nat
  /-- Word address of the copies of both banks (05 R103), fixed at admission. -/
  bankAt : Nat
  /-- The R88 figure W, or the step bound of R177, or the firmware's worst case (Table 3.14). -/
  w : Nat
deriving DecidableEq, Repr

/-- A running release of an L or U context, or a running service of an S context (R36, R86, R90, R160). -/
structure Rel where
  /-- The task whose release runs, as the plan it was dispatched under has it (R155). -/
  prog : Task
  /-- Release tick, as a full tick count (05 R90, Table 3.4 word 0). -/
  tick : Nat
  /-- The cycle of the engine's clock, counted from tick 0, at which its dispatch began (04 R85, 06 R135). -/
  start : Nat
  /-- Cycle at which the instruction before has issued and been paid for: t(p) + issue(p) (04 R86). -/
  cyc : Nat
  /-- The next instruction begins a later iteration of a body (04 R86). -/
  newIter : Bool
  /-- Word offset of the next instruction in the code section (03 R53). -/
  pc : Nat
  /-- Return points, innermost first; its length is the call depth (04 R82). -/
  calls : List CallFrame
  /-- Active LOOPN bodies, innermost first (04 R84). -/
  loops : List LoopFrame
  /-- r(x) for v0..v31 (04 R86). -/
  rv : Vector Nat 32
  /-- r(x) for m0..m3 (04 R86). -/
  rm : Vector Nat 4
  /-- r(x) of m0..m3 as a MAC or MSU sees it (04 R71). -/
  rmac : Vector Nat 4
  /-- r(x) for Z, N, C, S, P in this order (04 R86). -/
  rf : Vector Nat 5
  /-- The port words fixed at dispatch, address order (05 R90, Table 5.2). -/
  ports : List W
  /-- The frame of the sample tick was missing or failed, per grant index (05 R95). -/
  stale : List Bool
  /-- The grant indices whose fresh words the release has read (05 R101). -/
  fresh : List Nat
  /-- The channels in ARMING at dispatch (04 R78, 05 R101). -/
  arming : List Ch
  /-- The coefficient bank active at dispatch (04 R80). -/
  bank : Bool
  /-- Values staged by OUT: port address and word, newest first (05 R91). -/
  staged : List (Nat × W)
  /-- User words pushed by REC so far (04 R81). -/
  recWords : Nat
  /-- The join words and ages of the last cycle completed before dispatch (03 R61). -/
  jrx : List (Nat × W × W × W × Nat)
  /-- The release is a shadow's, whose staged values are discarded (18 R386). -/
  shadow : Bool
deriving DecidableEq, Repr

/-- A repetitive table of a context (R111, R112). -/
structure RptTable where
  /-- Table entries, little-endian words (03 R44, 05 R111); reset all 0. -/
  mem : List Host.Cell
  /-- T_STATE, 2 bits (05 Table 5.13); reset 0. -/
  st : BitVec 2
  /-- T_RFAIL, 1 bit (05 R112); reset 0. -/
  rfail : Bool
  /-- Updates made since zeroing (05 R111); reset 0. -/
  n : Nat
deriving DecidableEq, Repr

/-- A wait that an S program yields in (R171, R175). -/
inductive SWait where
  | none
  | wait (kind : Nat) (rail : Nat) (level : Int) (d : Nat) (tfault : Bool) (steps : Nat)
  | await (st : SeqSt) (dev : JAddr) (task : Nat) (d : Nat) (tfault : Bool) (steps : Nat)
deriving DecidableEq, Repr

/-- Reported and candidate classes of a rail (R162). -/
inductive RailClass where
  | ok | warning | fault
deriving DecidableEq, Repr

/-- Device-side state of one rail of a sequence (R162, R163, R166, R170). -/
structure Rail where
  /-- Reported class (07 R162); reset OK (DESIGN CHOICE, log entry 3). -/
  cls : RailClass
  /-- Class being counted (07 R162); reset OK (DESIGN CHOICE, log entry 3). -/
  cand : RailClass
  /-- Consecutive steps the candidate has held (07 R162); reset 0. -/
  count : Nat
  /-- A warning of this excursion has been raised (07 R163); reset 0. -/
  warned : Bool
  /-- Ramp target and step, while a ramp is active (07 R170); reset none. -/
  ramp : Option (W × W)
deriving DecidableEq, Repr

/-- The sequencer state of an S context beside its PARAM block (R156-R178). -/
structure SeqRec where
  /-- State of the sequence (07 Table 7.3); reset OFF. -/
  st : SeqSt
  /-- Cause FAULT of an unwinding, else REQUEST (07 Table 7.4); reset 0. -/
  unwFault : Bool
  /-- Word at which the program resumes at its next service (07 R160, R172); reset 0. -/
  resume : Nat
  /-- The program has a resume point (07 Table 7.3, R160); reset 0. -/
  runs : Bool
  /-- Return points held over a yield (07 R170); reset empty. -/
  calls : List CallFrame
  /-- The wait the program yields in (07 R171, R175); reset none. -/
  wait : SWait
  /-- Step timer, in steps (03 R37, 07 R171); reset 0. -/
  timer : Nat
  /-- Retry counter RETRIES (03 R37, 07 Table 7.1); reset 0. -/
  retries : Nat
  /-- Steps of the RETRY delay left (07 R167); reset 0. -/
  retryLeft : Nat
  /-- The whole RETRY delay in steps, which restarts in full after a move (07 R178); reset 0. -/
  retryFull : Nat
  /-- Steps of the REV_DELAY left (07 R166); reset 0. -/
  unwLeft : Nat
  /-- Consecutive steps below SUP_LOSS (07 R159); reset 0. -/
  lossSteps : Nat
  /-- Consecutive steps at or above SUP_RETURN (07 R159); reset 0. -/
  returnSteps : Nat
  /-- Consecutive steps in ON (07 R161); reset 0. -/
  onSteps : Nat
  /-- The rails (07 Table 7.2); reset as their lines say. -/
  rails : Vector Rail 8
  /-- Last state received from each slave: join address, task, state (07 R175); reset empty. -/
  slaves : List (JAddr × BitVec 16 × SeqSt)
  /-- First tick of the last 20-tick step in which the sequence was served (06 R141, 07 R160); reset none. -/
  served : Option Nat
deriving DecidableEq, Repr

/-- One task context, T0..T511 (Table 3.2, R35). -/
structure Context where
  /-- Task number the context holds, none when free (03 R35, 05 Table 5.10 CH_BIND); reset none. -/
  task : Option (BitVec 16)
  /-- v0..v31 (L, U), s0..s15 (S), 32 bits each; word 0 of an L or U context is kept 0 (03 Table 3.2, R38); reset 0 (R40 for a cold task; DESIGN CHOICE 0 before any, log entry 3). -/
  regs : Vector W 32
  /-- m0..m3, 72 bits each (03 Table 3.2); reset 0 (log entry 3). -/
  acc : Vector Acc 4
  /-- S, saturation flag (03 Table 3.2, R39); reset 0 (log entry 3). -/
  fS : Bool
  /-- Z, zero flag (03 Table 3.2); reset 0 (log entry 3). -/
  fZ : Bool
  /-- N, negative flag (03 Table 3.2); reset 0 (log entry 3). -/
  fN : Bool
  /-- C, carry flag (03 Table 3.2); reset 0 (log entry 3). -/
  fC : Bool
  /-- P, sticky plausibility flag (03 Table 3.2, R39); reset 0 (log entry 3). -/
  fP : Bool
  /-- ph, the phase latched at dispatch, 32 bits (03 Table 3.2, R41); reset 0 (log entry 3). -/
  ph : W
  /-- LOCAL space, up to 16,384 words (03 Table 3.3); reset 0 (log entry 2). -/
  loc : List Host.Cell
  /-- TABLE space, table 0 (03 Table 3.3, 05 R111); reset as its lines say. -/
  t0 : RptTable
  /-- TABLE space, table 1 (03 Table 3.3, 05 R111); reset as its lines say. -/
  t1 : RptTable
  /-- Coefficient bank 0, 128 words (05 R103); reset 0 (log entry 2). -/
  bank0 : List Host.Cell
  /-- Coefficient bank 1, 128 words (05 R103); reset 0 (log entry 2). -/
  bank1 : List Host.Cell
  /-- ACTIVE bank of CH_BANK, 1 bit (05 Table 5.12); reset 0. -/
  bankAct : Bool
  /-- SWAPS of CH_BANK, 16 bits wrapping (05 Table 5.12); reset 0. -/
  swaps : BitVec 16
  /-- WDROP of CH_BANK, 1 bit (05 R106); reset 0. -/
  wdrop : Bool
  /-- ARMED of CH_BANK: the apply tick of the armed swap (05 R104, R105); reset none. -/
  armed : Option Nat
  /-- CH_APPLY, 32 bits (05 Table 5.10); reset 0. -/
  applyTick : W
  /-- CH_CRC0, 32 bits (05 Table 5.10); reset 0. -/
  crc0 : W
  /-- CH_CRC1, 32 bits (05 Table 5.10); reset 0. -/
  crc1 : W
  /-- STAT words 0..15 fixed at dispatch (03 Table 3.4, 04 R80); reset 0 (log entry 3). -/
  stat : Vector W 16
  /-- Start reason of the next release, STAT word 3 (03 Table 3.4); reset 0 (log entry 3). -/
  reason : Nat
  /-- The task restarts cold at its next dispatch (05 R102); reset 0. -/
  cold : Bool
  /-- Plausibility violation counters, 0..15 (04 R78); reset 0. -/
  chk : Vector Nat 4
  /-- The mirror set of a U context, 64 words (03 R42); reset 0 (log entry 2). -/
  mirror : List W
  /-- Value latched for LEDG field 1 (03 R59); reset 0 (log entry 3). -/
  ledgHi : W
  /-- The last release tick whose release was dispatched or began to wait; of an S context the first tick of the last step served (06 R134, R140, R141); reset none. -/
  lastTick : Option Nat
  /-- A release of an earlier tick that waits for its engine, its port and STAT words fixed at its release tick (05 R90, R98, 06 R135); reset none. -/
  wait : Option Rel
  /-- The running release, if any (03 R36); reset none. -/
  rel : Option Rel
  /-- Sequencer state of an S context (chapter 07); reset as its lines say. -/
  seq : SeqRec
  /-- Working values of a library instance (chapters 11, 12, 14); reset as its lines say. -/
  lib : LibSt
deriving DecidableEq, Repr

/-- Kinds of a sequencer or loop engine trouble an engine can be in: running, or fenced (R116, R152, R384). -/
structure Engine where
  /-- The engine is fenced (05 R116, 18 R378); reset 0. -/
  fenced : Bool
  /-- Mirror-receive area: the sending engine, the context slot and the 64 words of the set (03 R42, R45, 05 R115, 06 R139); reset empty. -/
  mirrorRx : List (Nat × Nat × List W)
  /-- The cycle of the engine's clock, counted from tick 0, at which its last release ended: the next dispatch begins there or later (06 R135, R136); reset 0. -/
  busy : Nat
  /-- The instruction bank that is active, of two; the other is the shadow bank (00 R3, 20 R426); reset 0 (DESIGN CHOICE, log entry 65). -/
  ibank : Bool
  /-- The two instruction banks of a loop engine, 4,096 words each: the code sections preloaded for a plan (00 R3, 06 R151, 20 R423); reset empty (log entry 2). -/
  imem : Vector (List W) 2
deriving DecidableEq, Repr

/-- Values staged for a channel and the tick at which the SLC moves them (R90, R91). -/
structure Staged where
  tick : Nat
  cmd : Option W
  mode : Option W
deriving DecidableEq, Repr

/-- One control channel, ch0..ch191 (chapter 05). -/
structure Chan where
  /-- STATE of CH_STATUS (05 Table 5.3); reset OFF. -/
  st : ChanSt
  /-- The state held before HOLD (05 Table 5.4 row 6); reset OFF (DESIGN CHOICE, log entry 3). -/
  before : ChanSt
  /-- Tick at which HOLD was entered (05 R100); reset 0. -/
  holdTick : Nat
  /-- Consecutive valid frames while in HOLD (05 Table 5.4 row 6); reset 0. -/
  validRun : Nat
  /-- ARM_LEFT, the ARMING count, 16 bits (05 R101); reset 0. -/
  armLeft : Nat
  /-- Tick at which ARMING was entered (05 R101); reset 0. -/
  armTick : Nat
  /-- RESTART_PEND, 1 bit (05 R99, R480); reset 0. -/
  restart : Bool
  /-- Consecutive valid frames since the restart request (05 R99 row 8); reset 0. -/
  restartRun : Nat
  /-- A cause of row 3 waits for the next tick start: a check, a reaction, a library task (05 R98, R99, R114); reset 0. -/
  safeReq : Bool
  /-- A stop waits for the next tick start, or for the one after a tick in which it lost to row 3 (05 R98, R99); reset 0. -/
  stopReq : Bool
  /-- A start waits for the next tick start (05 R98, row 7); reset 0. -/
  startReq : Bool
  /-- The fence of the channel's SLC takes the channel to FENCED at the next tick start (05 R98, row 1); reset 0. -/
  fenceReq : Bool
  /-- READMIT of the link takes the channel to SAFE at the next tick start (05 R98, row 2); reset 0. -/
  readmitReq : Bool
  /-- Tick in which the ARMING count reached 0, or in which ARMING was entered without an owning task (05 R101); reset 0. -/
  armZero : Nat
  /-- Rows 4, 7 and 9 wait for the frame that is judged in this tick (05 R98, R99); reset 0. -/
  due : Bool
  /-- Measurement A as last received, 16 bits (05 Table 5.2, R95); reset 0. -/
  mA : BitVec 16
  /-- Measurement B as last received, 16 bits (05 Table 5.2, R95); reset 0. -/
  mB : BitVec 16
  /-- Measurement C as last received, 16 bits (05 Table 5.2, R95); reset 0. -/
  mC : BitVec 16
  /-- Measurement D as last received, 16 bits (05 Table 5.2, R95); reset 0. -/
  mD : BitVec 16
  /-- Module status word as last received, 16 bits (05 Table 5.2, R95); reset 0. -/
  mstat : BitVec 16
  /-- CMD of CH_LASTOUT, 24 bits as last moved (05 Table 5.10); reset 0. -/
  cmd : BitVec 24
  /-- MODE of CH_LASTOUT, 8 bits as last moved (05 Table 5.10); reset 0. -/
  mode : BitVec 8
  /-- CMD as last staged by the owning task (05 R94); reset 0 (log entry 3). -/
  stCmd : W
  /-- MODE as last staged by the owning task (05 R94); reset 0 (log entry 3). -/
  stMode : W
  /-- Staged values waiting for their send tick (05 R91); reset empty. -/
  staged : List Staged
  /-- CH_MISSES, 32 bits wrapping (05 Table 5.10); reset 0. -/
  misses : W
deriving DecidableEq, Repr

/-- A shaft source as it stood from a stamp on (R109): lock, ts_last, the last interval, k and the held phase. -/
structure ShSnap where
  at_ : TS
  lock : Bool
  tsLast : TS
  interval : Nat
  k : Nat
  held : W
deriving DecidableEq, Repr

/-- One shaft source of the SPU (R108-R110). -/
structure Shaft where
  /-- SPU_CFGn (05 Table 5.16); reset 0. -/
  cfg : W
  /-- LOCK of SPU_STAT (05 Table 5.15); reset 0. -/
  lock : Bool
  /-- LOST of SPU_EVT (05 Table 5.15); reset 0. -/
  lost : Bool
  /-- Stamp of the last counted edge, ts_last (05 R109); reset none. -/
  tsLast : Option TS
  /-- Interval between the last two counted edges (05 R109, SPU_INTVLn); reset 0. -/
  interval : Nat
  /-- Intervals in a row that passed the test (05 R110); reset 0. -/
  good : Nat
  /-- Counted edges since edge 0, k (05 R109, SPU_COUNTn); reset 0. -/
  k : Nat
  /-- Counted edges since the last index edge, once one has come (05 R110); reset none. -/
  sinceIdx : Option Nat
  /-- Every interval since that index edge passed the test (05 R110); reset 0. -/
  idxGood : Bool
  /-- ph at the moment lock was lost (05 R109, Table 5.7); reset 0. -/
  held : W
  /-- The last edge and its direction, until its pulse has lasted 2 HCLK cycles and it is accepted (05 R108); reset none. -/
  pulse : Option (TS × Bool)
  /-- What the source showed after its last edges and lock changes, newest first (05 R109); reset empty. -/
  hist : List ShSnap
deriving DecidableEq, Repr

/-- One period generator, PG0..PG7 (R62). -/
structure PGen where
  /-- SPU_PGINCn, the increment per tick, 32 bits (03 R62, 05 Table 5.14); reset 0. -/
  inc : W
  /-- Accumulated phase, 32 bits (03 R62); reset 0. -/
  acc : W
  /-- The phase one tick before (03 R41, R62); reset 0. -/
  prev : W
deriving DecidableEq, Repr

/-- A channel record (Table 6.6). -/
structure ChanDecl where
  ch : Nat
  role : Nat
  hold : Nat
  bound : Nat
  maxLat : Nat
  armSamples : Nat
deriving DecidableEq, Repr

/-- A link record (Table 6.7). -/
structure LinkDecl where
  link : Nat
  mtype : Nat
  minVer : Nat
  slots : Nat
  svcIn : Nat
  svcOut : Nat
deriving DecidableEq, Repr

/-- A recorder subscription record (Table 10.2). -/
structure SubDecl where
  words : List W
deriving DecidableEq, Repr

/-- A program image as admission reads it (R121-R127); the recorder, export and join sections as raw words. -/
structure Image where
  id : W
  build : W
  crc : W
  fw : Nat
  sis : Nat
  fmt : Nat
  delta : Bool
  pair : Bool
  suReserve : Bool
  fenceK : Nat
  baseId : W
  tasks : List Task
  chans : List ChanDecl
  links : List LinkDecl
  shaft : List W
  recorder : List W
  exports : List W
  join : List W
  remove : List Nat
  words : List W
deriving DecidableEq, Repr

/-- Where a task stands: its engine (0..47 LE, 0x40 + n SE, 0x48 + n UE), context index and sample phase or window
(R134, R140, R141). -/
structure Place where
  task : Nat
  eng : Nat
  ctx : Nat
  phase : Nat
  relay : Bool
deriving DecidableEq, Repr

/-- The report of an admission (Table 6.12), before its words are laid out. -/
structure Report where
  result : Nat
  stepNo : Nat
  resource : Nat
  engine : Nat
  task : Nat
  plan : Nat
  detail : Nat
  required : Nat
  available : Nat
  shortfall : Nat
deriving DecidableEq, Repr

/-- An admission that runs (R129-R131). -/
structure AdmRun where
  /-- Kiosk tag of the ADMIT, or none at boot (21 R431). -/
  tag : Option (BitVec 16)
  /-- The image under admission and its placement, once accepted. -/
  img : Image
  place : List Place
  /-- The outcome of the checks. -/
  rep : Report
  /-- Tick at which the admission started (06 R130). -/
  start : Nat
  /-- Accepted, and the preload has ended (06 R131). -/
  preloaded : Bool
  /-- The activation epoch chosen, once known (06 R131). -/
  epoch : Option Nat
deriving DecidableEq, Repr

/-- The admission unit: the image and plan in force (chapter 06). -/
structure Adm where
  /-- STATE of ADM_STATUS, 2 bits (06 Table 6.14); reset 0. -/
  st : BitVec 2
  /-- LAST_RESULT of ADM_STATUS, 8 bits (06 Table 6.14); reset 0. -/
  lastResult : BitVec 8
  /-- LAST_STEP of ADM_STATUS, 8 bits (06 Table 6.14); reset 0. -/
  lastStep : BitVec 8
  /-- The image in force: ADM_IMAGE, ADM_BUILD, FENCE_K and SU_RES show its header (06 R131, Table 6.13); reset none. -/
  img : Option Image
  /-- The nominal placement of the image in force (06 R137); reset empty. -/
  nominal : List Place
  /-- The placement in force, after fallback moves (06 R146, R147); reset empty. -/
  place : List Place
  /-- FIRST of ADM_PLAN, 8 bits, 0xFF for none (06 Table 6.15); reset 0xFF. -/
  first : BitVec 8
  /-- SECOND of ADM_PLAN, 8 bits, 0xFF for none (06 Table 6.15); reset 0xFF. -/
  second : BitVec 8
  /-- ADM_ACT_EPOCH, 32 bits (06 Table 6.13); reset 0. -/
  actEpoch : W
  /-- ADM_LOAD, 32 bits (06 Table 6.13); reset 0. -/
  load : W
  /-- SLICES of ADM_PROGRESS, bits 15:0 (06 Table 6.13); reset 0. -/
  slices : Nat
  /-- The running admission (06 R129); reset none. -/
  run : Option AdmRun
  /-- Fallback moves in progress, oldest first: the tick of each table and the engines lost by then (05 Table 5.6); reset none. -/
  move : List (Nat × List Nat)
  /-- The places that the plans before the last activation give the tasks kept, for moves whose fences came before it, by the tick of the move (06 R155); reset none. -/
  moveOld : List (Nat × List Place)
  /-- A REBALANCE in progress: E1 once fixed, else 0; its kiosk tag; the nominal places (18 R386); reset none. -/
  shadow : Option (Nat × BitVec 16 × List Place)
deriving DecidableEq, Repr

/-- Link states (Table 8.9, Table 8.17). -/
inductive LinkSt where
  | down | train | negotiate | up | hold
deriving DecidableEq, Repr

/-- An unacknowledged message a sender keeps for resending (R199). -/
structure SvcMsg where
  kind : Nat
  seq : BitVec 8
  arg : BitVec 8
  words : List W
  sent : Nat
  resends : Nat
  /-- The message waits to be sent, or to be sent again. -/
  queued : Bool
  /-- Kiosk tag of the command the message belongs to, if any. -/
  tag : Option (BitVec 16)
  /-- A READ whose RDATA has come before its ACK. -/
  answered : Bool
deriving DecidableEq, Repr

/-- Parts of an outbound frame the SLC last sent (Table 8.2, Table 8.6). -/
structure OutFrame where
  tick : Nat
  hdr : BitVec 8
  chw : Vector W 3
  dev : W
  ccrc : W
  svc : List W
  crc : W
  idle : Bool
deriving DecidableEq, Repr

/-- One stage link, L0..L63 (chapter 08). -/
structure Link where
  /-- STATE of SLC_STATUS (08 Table 8.17); reset DOWN. -/
  st : LinkSt
  /-- FAST of SLC_STATUS: the training is a fast retrain (08 Table 8.17); reset 0. -/
  fast : Bool
  /-- VERSION of SLC_STATUS, 2 bits (08 Table 8.17); reset 0. -/
  version : Nat
  /-- OWNER of SLC_STATUS, 2 bits (08 Table 8.17); reset 0. -/
  owner : BitVec 2
  /-- ENABLE of SLC_CTRL (08 Table 8.18); reset 0. -/
  enable : Bool
  /-- The SLC is fenced (18 R378, 05 Table 5.4 row 1); reset 0. -/
  fenced : Bool
  /-- Training step, 1..3; 4 while a fast retrain that has completed waits for RESUME (08 R192); reset 1. -/
  tstep : Nat
  /-- Tick at which the training or negotiation began (08 R191); reset 0. -/
  since : Nat
  /-- Tick until which row 10 may not apply (08 R191); reset 0. -/
  holdoff : Nat
  /-- The switch tick of AGREE, once agreed (08 R194); reset none. -/
  switchTick : Option Nat
  /-- READY has been received (08 R194); reset 0. -/
  ready : Bool
  /-- The AGREE words sent, header first (08 R194); reset empty. -/
  agree : List W
  /-- S_OFF of TCTL, ns, as declared in training (08 R192, R193); reset 0. -/
  sOff : Nat
  /-- S_READY of TCTL, ns, as declared in training (08 R192, R193); reset 0. -/
  sReady : Nat
  /-- RESUME tick of a fast retrain (08 R192); reset 0. -/
  resume : Nat
  /-- DIGEST of the last full training (08 R192); reset 0. -/
  digest : W
  /-- HELLO words 0..17 of the module, SLC_MODULE, SERIAL, TIMING1, CAPS, SCALE (08 R206); reset 0. -/
  hello : List W
  /-- RTT in ns (08 R188); reset 0. -/
  rtt : Nat
  /-- TA in ns (08 R188); reset 0. -/
  ta : Nat
  /-- X_END in ns (08 R188); reset 0. -/
  xEnd : Nat
  /-- Miss count (05 R98); reset 0. -/
  miss : Nat
  /-- Consecutive valid frames (05 Table 5.4 row 6, 08 Table 8.9 row 6); reset 0. -/
  validRun : Nat
  /-- Consecutive corrupt frames (08 R202); reset 0. -/
  corruptRun : Nat
  /-- Frames missing or corrupt in a row since the link came to UP or HOLD (08 Table 8.9 row 4, R202); reset 0. -/
  missRun : Nat
  /-- Consecutive inbound TRAIN frames (08 Table 8.9 row 4); reset 0. -/
  trainRun : Nat
  /-- Consecutive valid frames whose OWNER is another port while OWN = 1 (08 R204); reset 0. -/
  lostRun : Nat
  /-- The last frame judged was valid (05 Table 5.4 row 7); reset 0. -/
  lastValid : Bool
  /-- The module port this device reads (08 Table 8.5 PORT); reset 0. -/
  port : Bool
  /-- The HELLO failed the terms of R128: the channels are kept OFF (06 R128); reset 0. -/
  refused : Bool
  /-- SLC_CRCERR, 32 bits wrapping (08 Table 8.16); reset 0. -/
  crcErr : W
  /-- SLC_MISSED, 32 bits wrapping (08 Table 8.16); reset 0. -/
  missed : W
  /-- Full trainings, 16 bits wrapping (08 Table 8.16); reset 0. -/
  fullTrains : BitVec 16
  /-- Fast retrains, 16 bits wrapping (08 Table 8.16); reset 0. -/
  fastTrains : BitVec 16
  /-- SLC_EVT, 8 bits (08 Table 8.19); reset 0. -/
  evt : BitVec 8
  /-- Unacknowledged messages of the device stream, oldest first (08 R199); reset empty. -/
  devQ : List SvcMsg
  /-- Unacknowledged messages of the host stream, oldest first (08 R199); reset empty. -/
  hostQ : List SvcMsg
  /-- Words of the device stream's message in sending that are still to go out (08 R198); reset empty. -/
  devTx : List W
  /-- Words of the host stream's message in sending that are still to go out (08 R198); reset empty. -/
  hostTx : List W
  /-- Next outbound SEQ of the device stream (08 R199); reset 0 (DESIGN CHOICE, log entry 3). -/
  devSeq : BitVec 8
  /-- Next outbound SEQ of the host stream (08 R199); reset 0 (DESIGN CHOICE, log entry 3). -/
  hostSeq : BitVec 8
  /-- READs that are acknowledged and wait for their RDATA, the host stream's with true (08 R199, Table 8.13); reset empty. -/
  reads : List (Bool × SvcMsg)
  /-- SEQs of the inbound reliable messages acknowledged last, the host stream's with true, at most 4 of each (08 R199); reset empty. -/
  acked : List (Bool × BitVec 8)
  /-- Words received of the device stream's message; none while the stream is ignored until its SOM bit (08 R198); reset none. -/
  rxDev : Option (List W)
  /-- Words received of the host stream's message (08 R198); reset none. -/
  rxHost : Option (List W)
  /-- Words received of the capture stream's message (08 R198); reset none. -/
  rxCap : Option (List W)
  /-- RDATA words received for the READ in progress (08 Table 8.13); reset empty. -/
  rdata : List W
  /-- Thresholds per slot, overvoltage in 31:16 and overcurrent in 15:0 (08 R194); reset 0xFFFF each. -/
  thresh : Vector W 3
  /-- The module's hold limit word of each slot as an acknowledged MOD_THRESH last set it, if any (08 R200); reset none. -/
  holdLim : Vector (Option Nat) 3
  /-- FINAL frames left to send after PFAIL (08 R205); reset 0. -/
  finals : Nat
  /-- The transmitter is in electrical idle (08 Table 8.6, R205); reset 1. -/
  txIdle : Bool
  /-- TAKE or REL is sent in the next frame: bit 0 TAKE, bit 1 REL (08 R204, 17 R366); reset 0. -/
  takeRel : BitVec 2
  /-- Frames left to send with REL = 1 after this device has left role LEAD (17 R368); reset 0. -/
  relLeft : Nat
  /-- This device sends OWN = 1 on the link (08 R204); reset 0. -/
  own : Bool
  /-- Tick of the last sent frame that carried each slot's first DIR = RUN since ARMING (08 R187); reset none. -/
  firstRun : Vector (Option Nat) 3
  /-- A value has been moved for the slot since its entry to ARMING (08 Table 8.6); reset 0. -/
  moved : Vector Bool 3
  /-- The outbound frame last sent (08 Table 8.2); reset none. -/
  sent : Option OutFrame
  /-- The capture words of the last CAPTURE message (08 Table 8.13); reset empty. -/
  capture : List W
deriving DecidableEq, Repr

/-- A submission ring (Table 9.8, R216). -/
structure SubRing where
  /-- KIO_SQq_BASE_LO and HI, 64 bits (09 Table 9.8); reset 0. -/
  base : BitVec 64
  /-- KIO_SQq_SIZE, 4 bits (09 Table 9.8); reset 4. -/
  size : BitVec 4
  /-- KIO_SQq_TAIL, 12 bits (09 Table 9.8); reset 0. -/
  tail : Nat
  /-- KIO_SQq_HEAD, 12 bits (09 Table 9.8); reset 0. -/
  head : Nat
  /-- Entries the host has placed between head and tail, 16 words each (09 R214, R216); reset empty. -/
  entries : List (List W)
deriving DecidableEq, Repr

/-- A completion ring or the event ring (Table 9.8, R215, R230). -/
structure CplRing where
  /-- BASE_LO and BASE_HI, 64 bits (09 Table 9.8); reset 0. -/
  base : BitVec 64
  /-- SIZE, 4 bits; EQ is fixed at 4,096 entries (09 Table 9.8); reset 4. -/
  size : BitVec 4
  /-- HEAD, 12 bits (09 Table 9.8); reset 0. -/
  head : Nat
  /-- TAIL, 12 bits (09 Table 9.8); reset 0. -/
  tail : Nat
  /-- Entries written that the host has not consumed (09 R213, R217); reset 0. -/
  used : Nat
  /-- PHASE of the current pass (09 R215); reset 1. -/
  phase : Bool
deriving DecidableEq, Repr

/-- An accepted command that has not completed (R218, R222). -/
structure KCmd where
  cmd : Nat
  tag : BitVec 16
  ring : Fin 4
  words : List W
  /-- TS of acceptance, from which the bound counts (09 R220). -/
  ts : TS
  /-- Declared bound in us (09 R220). -/
  bound : Nat
  /-- Drip handle (09 R215). -/
  handle : W
  /-- Past its point of no return (09 R226). -/
  fixed : Bool
  /-- Its meaning has begun and the command waits for something outside (an answer, a commit). -/
  begun : Bool
  /-- Working words of the operation (what an upload or download has reached). -/
  work : List W
  /-- MSEQ of a mirrored command (17 R359); its row waits for MIRROR_APPLY until it is applied. -/
  mseq : Option Nat
  /-- The mirrored command has been applied (17 R359). -/
  applied : Bool
  /-- Accepted by the partner: its STATUS goes to the partner and no completion is written here (17 R359, R368). -/
  foreign : Bool
  /-- The session that accepted it has ended: it takes effect, and no completion is written (09 R211). -/
  mute : Bool
  /-- The retry time in us that its completion carries; 0 for none (09 R215). -/
  retry : Nat
deriving DecidableEq, Repr

/-- The kiosk (chapter 09). -/
structure Kio where
  /-- OPEN of KIO_STATUS (09 Table 9.9); reset 0. -/
  isOpen : Bool
  /-- MAJOR of KIO_STATUS, 8 bits (09 Table 9.9); reset 0. -/
  major : BitVec 8
  /-- MINOR of KIO_STATUS, 8 bits (09 Table 9.9); reset 0. -/
  minor : BitVec 8
  /-- RESULT of KIO_SESSION, 2 bits (09 Table 9.10); reset 0. -/
  result : BitVec 2
  /-- REASON of KIO_SESSION, 2 bits (09 Table 9.10); reset 0. -/
  reason : BitVec 2
  /-- Requested MAJOR of KIO_SESSION, 8 bits (09 Table 9.10); reset 0. -/
  reqMajor : BitVec 8
  /-- Requested MINOR of KIO_SESSION, 8 bits (09 Table 9.10); reset 0. -/
  reqMinor : BitVec 8
  /-- FW_READY of KIO_STATUS (09 Table 9.9); reset 0. -/
  fwReady : Bool
  /-- HANDOVER of KIO_STATUS: tick at which a firmware handover ends (09 Table 9.9, 20); reset none. -/
  handover : Option Nat
  /-- KIO_ERR, 4 bits (09 Table 9.11); reset 0. -/
  err : BitVec 4
  /-- KIO_REFUSED0..3, 32 bits each (09 Table 9.8); reset 0. -/
  refused : Vector W 4
  /-- The submission rings SQ0..SQ3 (09 R213); reset as their lines say. -/
  sq : Vector SubRing 4
  /-- The completion rings CQ0..CQ3 (09 R213); reset as their lines say. -/
  cq : Vector CplRing 4
  /-- The event ring EQ (09 R213); reset as its lines say. -/
  eq : CplRing
  /-- Accepted commands that have not completed, in acceptance order (09 R218, R222); reset empty. -/
  accepted : List KCmd
  /-- Next drip handle (09 R215); reset 1 (DESIGN CHOICE, log entry 3). -/
  nextHandle : W
  /-- P0 credits (09 R219); reset 64. -/
  cred0 : Nat
  /-- P1 credits (09 R219); reset 16. -/
  cred1 : Nat
  /-- Event records written since reset, SEQ, 32 bits wrapping (09 Table 9.7); reset 0. -/
  evSeq : W
  /-- MSI-X messages sent since reset, one count per vector 0..63 (09 R230); reset 0. -/
  msix : Vector Nat 64
  /-- ARM of vectors 1..63: a message may be sent (09 R230); reset 0. -/
  armed : BitVec 64
  /-- MSI-X pending bits, vectors 1..63 (09 R230); reset 0. -/
  msixPend : BitVec 64
  /-- MSI-X mask bits, vectors 0..63, the function mask folded in (09 R230); reset 1 each (PRESUMED, log entry 20: the PCI Express reset value). -/
  msixMask : BitVec 64
  /-- MSI-X enable and bus mastering are both 1 (09 R230); reset 0 (PRESUMED, log entry 20: the PCI Express reset value). -/
  msixOn : Bool
  /-- The trained host link: speed 0..2 and lanes 1, 2 or 4; 0 lanes while down (09 R208, 06 R144); reset down. -/
  pcieSpeed : Nat
  /-- Lanes of the trained host link (09 R208); reset 0. -/
  pcieLanes : Nat
  /-- KIO_SQq_TAIL writes kept in DORMANT, with the entries the host has placed (24 R474); reset none. -/
  keptSq : Vector (Option (W × List (List W))) 4
  /-- KIO_CQq_HEAD writes kept in DORMANT (24 R474); reset none. -/
  keptCq : Vector (Option W) 4
  /-- A KIO_EQ_HEAD write kept in DORMANT (24 R474); reset none. -/
  keptEq : Option W
  /-- The endpoint is in D3hot, else in D0 (09 R208, R210); reset 0. -/
  d3 : Bool
  /-- PERST# is asserted at the pin (09 R210, 22); reset 1. -/
  perst : Bool
deriving DecidableEq, Repr

/-- One block of a recorder tier, beside its bytes in recorder memory (R232). -/
structure Blk where
  /-- SEQ at opening (10 Table 10.2 word 1); reset 0. -/
  seq : W
  /-- First and last row's tick (10 Table 10.2 word 4, R247); reset 0. -/
  first : Nat
  /-- Tick of the last row (10 R247 word 5); reset 0. -/
  last : Nat
  /-- Rows written (10 Table 10.2 word 5); reset 0. -/
  rows : Nat
  /-- ROW_BYTES of the section in force as the block opened (10 Table 10.2 word 5); reset 0. -/
  rowBytes : Nat
  /-- NOTE_BYTES (10 Table 10.2 word 6); reset 0. -/
  noteBytes : Nat
  /-- Bytes of the device notes in the note area (10 R238); reset 0. -/
  devBytes : Nat
  /-- NOTES_LOST (10 Table 10.2 word 6); reset 0. -/
  notesLost : Nat
  /-- HOLDERS (10 Table 10.2 word 9); reset 0. -/
  holders : W
  /-- Number of the first row, counted in the tier since reset (10 R242); reset 0. -/
  row0 : Nat
  /-- Windows of earlier images that hold the block, by trigger (10 R252); reset 0. -/
  orph : W
  /-- The block holds a closed block (10 R232); reset 0. -/
  closed : Bool
  /-- Bit s: stream s has still to export the block (10 R248); reset 0. -/
  todo : BitVec 4
deriving DecidableEq, Repr

/-- One recorder tier (Table 10.1). -/
structure TierSt where
  /-- The blocks of the tier (10 R231); reset as their lines say. -/
  blks : List Blk
  /-- The open block, BBR_OPEN (10 Table 10.7); reset 0. -/
  opn : Nat
  /-- A block is open (10 R232); reset 0. -/
  isOpen : Bool
  /-- Blocks opened since reset (10 Table 10.2 word 1); reset 0. -/
  seq : W
  /-- Rows written since reset (10 R242); reset 0. -/
  nrows : Nat
  /-- SEQ of the last closed block, BBR_SEQ_E/L/K (10 Table 10.7); reset 0. -/
  lastSeq : W
  /-- Statistics of the row being gathered, per subscribed channel: count, then minimum, maximum and sum of A, B, C, D (10 R236); reset empty. -/
  stats : List (Nat × List Int)
  /-- The tick of the next row: the sample tick, or the first tick of its window (10 R235, R236); reset 0. -/
  rowTick : Nat
deriving DecidableEq, Repr

/-- A change that a command makes to a trigger at the start of the next tick (R241). -/
inductive TrigPend where
  | arm (win : List (Nat × Nat))
  | fire (f : Nat)
  | release (again : Bool)
deriving DecidableEq, Repr

/-- A window of an earlier image: it collects what is left of it, and is then an orphan under its old id (R252). -/
structure OldWin where
  id : Nat
  f : Nat
  left : List Nat
  /-- The blocks that it holds: tier and number. -/
  blks : List (Nat × Nat)
  /-- FIRED still, else an orphan. -/
  fired : Bool
  damaged : Bool
  preShort : Bool
  exported : BitVec 4
  /-- A TRIG_RELEASE releases it at the start of the next tick (R241). -/
  gone : Bool
deriving DecidableEq, Repr

/-- A trigger's declaration (Table 10.5), its window in force and its state (R240-R243). -/
structure Trig where
  /-- STATE of BBR_TRIGi (10 Table 10.9); reset IDLE. -/
  st : TrigSt
  /-- DECL (10 Table 10.9); reset 0. -/
  decl : Bool
  /-- MISSED, 8 bits wrapping (10 Table 10.9); reset 0. -/
  missed : BitVec 8
  /-- DAMAGED (10 Table 10.9); reset 0. -/
  damaged : Bool
  /-- PRE_SHORT (10 Table 10.9); reset 0. -/
  preShort : Bool
  /-- BBR_FTICKi, f, as a full tick (10 Table 10.7); reset 0. -/
  f : Nat
  /-- The five declaration words (10 Table 10.5); reset empty. -/
  words : List W
  /-- PRE and POST per tier in rows for the window armed (10 R241, Table 10.6); reset empty. -/
  win : List (Nat × Nat)
  /-- Rows of POST still to come per tier (10 R242); reset empty. -/
  left : List Nat
  /-- Tick at whose start the arming takes effect (10 R241); reset 0. -/
  armTick : Nat
  /-- What a command does to it at the start of the next tick (10 R241); reset none. -/
  pend : Option TrigPend
  /-- Streams that have exported the whole window (10 R248); reset 0. -/
  exported : BitVec 4
  /-- A valid sample on the other side of the level has come since arming (10 R240); reset 0. -/
  otherSide : Bool
deriving DecidableEq, Repr

/-- A pending gap record of a stream: tier, first and last tick, blocks lost and cause (R247). -/
structure Gap where
  tier : Nat
  first : Nat
  last : Nat
  count : Nat
  cause : Nat
deriving DecidableEq, Repr

/-- One export stream (R247, Table 10.10). -/
structure Strm where
  /-- OPEN of EXP_STATUSs (10 Table 10.10); reset 0. -/
  isOpen : Bool
  /-- OVERRUN of EXP_STATUSs (10 Table 10.10); reset 0. -/
  overrun : Bool
  /-- TIERS of EXP_STATUSs, 4 bits as declared (10 Table 10.10); reset 0. -/
  tiers : BitVec 4
  /-- SIZE of EXP_STATUSs, 4 bits (10 Table 10.10); reset 0. -/
  size : Nat
  /-- Slots written, 64 bits, EXP_SENTs (10 R247); reset 0. -/
  sent : BitVec 64
  /-- EXP_DROPs, 32 bits wrapping (10 Table 10.7); reset 0. -/
  drops : W
  /-- EXP_CREDITs (10 Table 10.7); reset 0. -/
  credit : Nat
  /-- Slot ring base (10 Table 10.6); reset 0. -/
  base : BitVec 64
  /-- Status area (10 Table 10.6); reset 0. -/
  status : BitVec 64
  /-- Pending gap records, oldest first (10 R248); reset empty. -/
  gaps : List Gap
  /-- Blocks of frozen windows still to export: f and trigger of the window, tier, block (10 R248); reset empty. -/
  frozen : List (Nat × Nat × Nat × Nat)
deriving DecidableEq, Repr

/-- The black-box recorder and the export unit (chapter 10). -/
structure Bbr where
  /-- FENCED of BBR_STATUS, 8 bits (10 Table 10.8); reset 0. -/
  fenced : BitVec 8
  /-- RUN of BBR_STATUS (10 Table 10.8); reset 0. -/
  run : Bool
  /-- BBR_NLOST, 32 bits wrapping (10 Table 10.7); reset 0. -/
  nlost : W
  /-- BBR_MAPCRC, 32 bits (10 Table 10.7); reset 0. -/
  mapCrc : W
  /-- Recorder memory, 16 MB (10 R231); reset 0 (log entry 2). -/
  mem : List Host.Cell
  /-- Espresso tier (10 Table 10.1); reset as its lines say. -/
  esp : TierSt
  /-- Lungo tier (10 Table 10.1); reset as its lines say. -/
  lun : TierSt
  /-- Carafe tier (10 Table 10.1); reset as its lines say. -/
  car : TierSt
  /-- The RECORDER section in force (10 Table 10.5); reset empty. -/
  sect : List W
  /-- Triggers 0..31 (10 R240); reset as their lines say. -/
  trig : Vector Trig 32
  /-- Windows of earlier images, oldest first: ORPHAN of BBR_TRIGi (10 R252, Table 10.9); reset empty. -/
  olds : List OldWin
  /-- Export streams 0..3 (10 R247); reset as their lines say. -/
  strm : Vector Strm 4
  /-- Per channel: A, B, C, D last valid, for espresso rows (10 R235); reset empty. -/
  lastRow : List (Nat × List (BitVec 16))
  /-- Per channel: the tick of its last MSTAT note (10 Table 10.3); reset empty. -/
  mstatNote : List (Nat × Nat)
  /-- Channels that are stale, with the tick since when (10 Table 10.3); reset empty. -/
  staleSince : List (Nat × Nat)
deriving DecidableEq, Repr

/-- One charge ledger, CLG0..CLG63 (R276-R279, Tables 12.4 and 12.5). -/
structure Ledger where
  /-- Q, 64 bits signed (12 R276); reset 0. -/
  q : BitVec 64
  /-- CLG_QHIk latched (12 R294); reset 0. -/
  qHi : W
  /-- Charge in at full precision (12 R276); reset 0. -/
  qIn : Nat
  /-- Charge out at full precision (12 R276); reset 0. -/
  qOut : Nat
  /-- CLG_LASTk (12 Table 12.4); reset 0. -/
  last : W
  /-- CLG_TICKSk, ticks since the last reset (12 Table 12.4); reset 0. -/
  ticks : Nat
  /-- The bound channel, BOUND and CHANNEL of CLG_STATEk (12 Table 12.5); reset none. -/
  chan : Option Ch
  /-- RESETS, 8 bits wrapping (12 Table 12.5); reset 0. -/
  resets : BitVec 8
  /-- GAP (12 R277); reset 0. -/
  gap : Bool
  /-- Times GAP has been set (12 R277, Table 12.2 row 4); reset 0. -/
  gaps : Nat
  /-- STALE (12 R277); reset 0. -/
  stale : Bool
  /-- ABSENT (12 R278); reset 0. -/
  absent : Bool
  /-- Consecutive ticks without a valid frame (12 R277); reset 0. -/
  missing : Nat
  /-- A LEDGER_RESET waits for the next tick: CLR_Q and CLR_INOUT (12 R279); reset none. -/
  pend : Option (Bool × Bool)
  /-- CLG_CPCk, charge per count in C, binary32 (12 R276, Table 12.4); reset 0. -/
  cpc : W
deriving DecidableEq, Repr

/-- The thermal model of one channel (chapter 13). Node order: junction, case, heatsink, coolant. -/
structure Therm where
  /-- TMU_TJn, TMU_TCn, TMU_THn, TMU_TAn, binary32 (13 R295, Table 13.3); reset 0. -/
  t : Vector W 4
  /-- TMU_RISEn, binary32 (13 Table 13.3); reset 0. -/
  rise : W
  /-- TMU_LOSSn, binary32 (13 Table 13.3); reset 0. -/
  loss : W
  /-- BAND of TMU_CHSTATn (13 Table 13.5); reset 1 NOMINAL. -/
  band : Nat
  /-- RUN of TMU_CHSTATn (13 Table 13.5); reset 0. -/
  run : Bool
  /-- OBS of TMU_CHSTATn (13 Table 13.5); reset 0. -/
  obs : Bool
  /-- SENSOR of TMU_CHSTATn (13 Table 13.5); reset 0. -/
  sensor : Bool
  /-- NOBLOCK of TMU_CHSTATn (13 Table 13.5); reset 0. -/
  noblock : Bool
  /-- LOSS_BAD of TMU_CHSTATn (13 Table 13.5); reset 0. -/
  lossBad : Bool
  /-- AWARN, 4 bits (13 Table 13.5); reset 0. -/
  awarn : BitVec 4
  /-- AFAULT, 4 bits (13 Table 13.5); reset 0. -/
  afault : BitVec 4
  /-- RWARN, 4 bits (13 Table 13.5); reset 0. -/
  rwarn : BitVec 4
  /-- RFAULT, 4 bits (13 Table 13.5); reset 0. -/
  rfault : BitVec 4
  /-- Absolute warning, fault, rate warning and rate fault conditions raised and not yet left: 16 bits (13 R302, R303); reset 0. -/
  raised : BitVec 16
  /-- The usable thermal block, 32 words (13 R297, R298); reset none. -/
  blk : Option (List W)
  /-- SERIAL of the module that block came from (13 R301); reset 0. -/
  serial : W
  /-- The model starts at the next evaluation (13 R301); reset 1. -/
  fresh : Bool
  /-- Stores of the four node values, newest first, at most 101 (13 R303); reset empty. -/
  stores : List (List W)
  /-- LOSS reads since the last evaluation, newest first (13 R296); reset empty. -/
  reads : List W
  /-- A read since the last evaluation was bad (13 R296); reset 0. -/
  badRead : Bool
  /-- D of the valid frames since the last evaluation, newest first (13 R300); reset empty. -/
  ds : List (BitVec 16)
deriving DecidableEq, Repr

/-- The thermal model unit (chapter 13). -/
structure Tmu where
  /-- TMU_TAMB, binary32 (13 Table 13.3); reset 0x4220_0000. -/
  tamb : W
  /-- TMU_EVALS, 32 bits wrapping (13 Table 13.3); reset 0. -/
  evals : W
  /-- An evaluation of this tick, whose results stand from the next one, with the TMU_TAMB it uses (13 R299); reset none. -/
  due : Option W
  /-- RUN of TMU_STATUS (13 Table 13.4); reset 0. -/
  run : Bool
  /-- The models of ch0..ch191 (13 R295); reset as their lines say. -/
  ch : Vector Therm 192
deriving DecidableEq, Repr

/-- Tie port states (Table 14.7, Table 14.10). -/
inductive TpSt where
  | disabled | search | confirm | agree | lease | turn | rest
deriving DecidableEq, Repr

/-- A pilot message a port has sent (R312-R314): op, tag and payload. -/
structure PMsg where
  op : Nat
  tag : BitVec 5
  gen : BitVec 2
  feed : Bool
  pay : List (BitVec 8)
deriving DecidableEq, Repr

/-- One tie port's pilot controller (chapter 14). -/
structure Tpc where
  /-- STATE of TPC_STATp (14 Table 14.10); reset DISABLED. -/
  st : TpSt
  /-- ROLE of TPC_STATp: 0 none, 1 feeder, 2 taker (14 Table 14.10); reset 0. -/
  role : BitVec 2
  /-- GEN of TPC_STATp (14 Table 14.10); reset 0. -/
  gen : BitVec 2
  /-- FEED_PRES of TPC_STATp (14 Table 14.10); reset 0. -/
  feedPres : Bool
  /-- ATTACH_LVL of TPC_STATp (14 Table 14.10); reset 0. -/
  attachLvl : Bool
  /-- PROT of TPC_STATp: a protection row has forced the path open (14 R320, Table 14.10); reset 0. -/
  prot : Bool
  /-- The path is forced open (14 R311, R319); reset 0. -/
  forced : Bool
  /-- Tick of the entry to CONFIRM or REST (14 R310, R319); reset 0. -/
  stTick : Nat
  /-- TPC_GRANTp, 16 bits, 0.1 A (14 Table 14.9); reset 0. -/
  grant : BitVec 16
  /-- TPC_LEVELp, 12 bits, mV (14 Table 14.9); reset 0. -/
  level : BitVec 12
  /-- TPC_EVTp, 8 bits (14 Table 14.11); reset 0. -/
  evt : BitVec 8
  /-- Valid messages received, 16 bits (14 Table 14.9 TPC_MSGSp); reset 0. -/
  msgs : BitVec 16
  /-- Discarded messages, 16 bits (14 Table 14.9 TPC_MSGSp); reset 0. -/
  discarded : BitVec 16
  /-- TPC_RESTARTSp, 32 bits (14 Table 14.9); reset 0. -/
  restarts : W
  /-- TPC_WINDOWp, 32 bits (14 Table 14.9); reset 0. -/
  window : W
  /-- Next TAG of this sender, 5 bits (14 Table 14.2); reset 0 (DESIGN CHOICE, log entry 3). -/
  tag : BitVec 5
  /-- TAG of the last received message that was answered, with the answer (14 R314); reset none. -/
  lastRx : Option (BitVec 5 × Option PMsg)
  /-- The message that awaits an answer, its sendings so far and the tick of the last one (14 R314); reset none. -/
  waiting : Option (PMsg × Nat × Nat)
  /-- The last message sent on the line (14 R312); reset none. -/
  sent : Option PMsg
  /-- Offers last received or sent in TERMS (14 R316, R317); reset empty. -/
  offers : List Offer
  /-- Index of the offer claimed (14 R316); reset 0. -/
  idx : Nat
  /-- Current asked in the last CLAIM, 0.1 A (14 R316); reset 0. -/
  want : BitVec 16
  /-- GRANT has been sent or received, LIVE is due (14 R316); reset 0. -/
  granted : Bool
  /-- Tick of that GRANT (14 R316); reset 0. -/
  grantTick : Nat
  /-- Tick of TURN_OK, then of the LIVE of a role turn (14 R318); reset 0. -/
  turnTick : Nat
  /-- A lease is in force (14 R316); reset 0. -/
  lease : Bool
  /-- A withdrawal or a role turn ramps the current to 0 (14 R317, R318); reset 0. -/
  winding : Bool
  /-- Draw of this port's own TURN, while one is queued or unanswered (14 R318); reset none. -/
  draw : Option (BitVec 16)
  /-- Fault timer of row OC: the tick that started it (14 Table 14.5); reset none. -/
  oc : Option Nat
  /-- Consecutive fresh samples of reverse current (14 Table 14.5); reset 0. -/
  rev : Nat
  /-- Tick at which the drawn gap ends (14 R309); reset 0. -/
  gap : Nat
  /-- Tick at which the beacon on ends (14 R309); reset 0. -/
  beaconEnd : Nat
  /-- A beacon is on (14 R309); reset 0. -/
  beacon : Bool
  /-- A retry after a collision waits: the tick at which its quiet time ends (14 R313); reset none. -/
  retry : Option Nat
  /-- The tick at which the wait after equal draws ends (14 R318); reset none. -/
  tieWait : Option Nat
  /-- The tick at which the DEFER delay before a new CLAIM ends (14 Table 14.3); reset none. -/
  defer : Option Nat
  /-- Received messages of this generation exchange: HAIL seen (14 R315); reset 0. -/
  hailed : Bool
  /-- A role turn runs, from TURN_OK to the end of its TERMS (14 R318); reset 0. -/
  turning : Bool
deriving DecidableEq, Repr

/-- A transfer in progress as controller (R329-R331). -/
structure TwXfer where
  tag : BitVec 16
  addr : BitVec 7
  wlen : Nat
  rlen : Nat
  block : Bool
  pec : Bool
  buf : List (BitVec 8)
  attempts : Nat
  losses : Nat
deriving DecidableEq, Repr

/-- One two-wire port (chapter 15). -/
structure Twp where
  /-- TWP_CFGn, 32 bits (15 Table 15.5); reset 0x0000_4000. -/
  cfg : W
  /-- TWP_ADDRn, 32 bits (15 Table 15.6); reset 0. -/
  addr : W
  /-- A write to TWP_CFGn that waits for bus idle (15 R327); reset none. -/
  cfgNext : Option W
  /-- A write to TWP_ADDRn that waits for bus idle (15 R327); reset none. -/
  addrNext : Option W
  /-- STATE of TWP_STATn, 4 bits (15 Table 15.7); reset 0. -/
  st : BitVec 4
  /-- SCL_IN of TWP_STATn (15 Table 15.7); reset 0. -/
  sclIn : Bool
  /-- SDA_IN of TWP_STATn (15 Table 15.7); reset 0. -/
  sdaIn : Bool
  /-- ALERT_OUT of TWP_STATn (15 Table 15.7); reset 0. -/
  alertOut : Bool
  /-- ALERT_IN of TWP_STATn (15 Table 15.7); reset 0. -/
  alertIn : Bool
  /-- PAGE of TWP_STATn, 8 bits (15 Table 15.7); reset 0. -/
  page : BitVec 8
  /-- TWP_EVTn, 8 bits (15 Table 15.7); reset 0. -/
  evt : BitVec 8
  /-- Target transactions acknowledged, 16 bits (15 Table 15.4); reset 0. -/
  acks : BitVec 16
  /-- Arbitration losses, 16 bits (15 Table 15.4); reset 0. -/
  losses : BitVec 16
  /-- The transfer in progress (15 R329); reset none. -/
  xfer : Option TwXfer
  /-- Transfers that wait for the one in progress (15 R329, 09 R222); reset empty. -/
  queue : List TwXfer
  /-- Bytes the port drove last as target or controller (15 R336, R329); reset empty. -/
  out : List (BitVec 8)
  /-- The last target transaction was acknowledged at its command byte (15 R336); reset 0. -/
  acked : Bool
  /-- Pending Host Notify: the event word, resends so far and arbitration losses (15 R334); reset none. -/
  notify : Option (W × Nat × Nat)
  /-- Tick of the last Host Notify sent (15 R334); reset none. -/
  notifyTick : Option Nat
  /-- ALERT has answered its response and waits for a further latched bit (15 R335); reset 0. -/
  alertDone : Bool
  /-- Latched status bits per page: STATUS_BYTE bits 5, 4, 2, 1 and the temperature bits 7, 6 (15 Table 15.3); reset 0. -/
  status : Vector (BitVec 8) 192
  /-- Bit j of the temperature latches per page: bit 1 fault, bit 0 warning (15 Table 15.3); reset 0. -/
  temp : Vector (BitVec 2) 192
deriving DecidableEq, Repr

/-- Hop states (R340, Table 16.10). -/
inductive HopSt where
  | down | train | hello | up
deriving DecidableEq, Repr

/-- One join port and its hop (R339, R340, Table 16.10). -/
structure JPortSt where
  /-- ROLE of JNB_PORT, 2 bits (16 Table 16.10); reset 0. -/
  role : BitVec 2
  /-- VERSION of JNB_PORT, 2 bits (16 Table 16.10); reset 0. -/
  version : Nat
  /-- HOP of JNB_PORT (16 Table 16.10); reset DOWN. -/
  hop : HopSt
  /-- DELAY of JNB_PORT, 16 bits, ps (16 Table 16.10); reset 0. -/
  delay : Nat
  /-- The hop has been UP for 10 consecutive cycles and is used (16 R340); reset 0. -/
  usable : Bool
  /-- Tick at which the hop last became UP (16 R340); reset 0. -/
  upTick : Nat
  /-- Tick at which a valid SYNC last crossed the hop since it became UP (16 R340); reset none. -/
  syncTick : Option Nat
  /-- SERIAL of the facing device (16 R340); reset 0. -/
  serial : W
  /-- Pair role of the facing device in HELLO (16 R340); reset SOLO. -/
  peerRole : PairRole
deriving DecidableEq, Repr

/-- The join bus ports and the device's part in the join bus (chapter 16). -/
structure Jnb where
  /-- STATE of JNB_STATUS, 4 bits (16 Table 16.9); reset 0. -/
  st : BitVec 4
  /-- RING of JNB_STATUS (16 Table 16.9); reset 0. -/
  ring : Bool
  /-- LATE of JNB_STATUS (16 Table 16.9); reset 0. -/
  late : Bool
  /-- Own join address with VALID, JNB_ADDR (16 Table 16.8); reset none. -/
  addr : Option JAddr
  /-- Pair address of JNB_ADDR bits 25:16 (16 Table 16.8); reset 0. -/
  pairAddr : JAddr
  /-- G of JNB_GEOM (16 Table 16.8); reset 0. -/
  g : Nat
  /-- NDEV of JNB_GEOM (16 Table 16.8); reset 0. -/
  ndev : Nat
  /-- C of JNB_GEOM (16 Table 16.8); reset 0. -/
  c : Nat
  /-- FIRST of JNB_CELLS (16 Table 16.8); reset 0. -/
  first : Nat
  /-- COUNT of JNB_CELLS (16 Table 16.8); reset 0. -/
  count : Nat
  /-- JA (16 Table 16.10); reset as its lines say. -/
  ja : JPortSt
  /-- JB (16 Table 16.10); reset as its lines say. -/
  jb : JPortSt
  /-- JNB_DELAY, 32 bits, ps (16 Table 16.8); reset 0. -/
  delay : W
  /-- JNB_CRCERR, 32 bits wrapping (16 Table 16.8); reset 0. -/
  crcErr : W
  /-- JNB_EVT, 5 bits (16 Table 16.11); reset 0. -/
  evt : BitVec 5
  /-- Own slot image, words 0..2, written by JWR (16 R344, 03 R61); reset 0 (log entry 3). -/
  slot : Vector W 3
  /-- Own slot image as latched at the start of the cycle (16 R344); reset 0 (log entry 3). -/
  latched : Vector W 3
  /-- Words received, per join address: words 0..2 and the age of their receipt (16 R345); unlisted addresses read 0 with age 255; reset empty. -/
  rx : List (Nat × W × W × W × Nat)
  /-- Slots of the cycle that is completing (16 R345); reset empty. -/
  rxNext : List (Nat × W × W × W)
  /-- Messages waiting for a cell: kind, destination, six payload words (16 R346); reset empty. -/
  outQ : List (Nat × JAddr × List W)
  /-- Next SEQ of this source, 4 bits (16 Table 16.5); reset 0 (DESIGN CHOICE, log entry 3). -/
  seq : BitVec 4
  /-- Last SEQ acted on per source (16 R346); reset empty. -/
  seen : List (JAddr × BitVec 4)
  /-- TRIGGERs that have passed: SYSNUM and the cycle (16 R347); reset empty. -/
  trigSeen : List (BitVec 8 × Nat)
  /-- Grants J0 has given: holder, first, count and the tick of the last FRESH slot (16 R348); reset empty. -/
  grants : List (JAddr × Nat × Nat × Nat)
  /-- A RESERVE awaits its GRANT since this tick (16 R348, R349); reset none. -/
  reserve : Option Nat
  /-- GRANT messages J0 has to send in cell 0: destination and words 1, 2 (16 Table 16.6); reset empty. -/
  grantQ : List (JAddr × W × W)
  /-- Serial of the master this device follows (16 R351); reset none. -/
  master : Option W
  /-- Join cycles completed since reset (16 R345); reset 0. -/
  cycles : Nat
  /-- J0: the train as it last returned, for the next (16 R344, R346); reset none. -/
  back : Option Train
  /-- The train as this device last sent it on (16 R341-R346); reset none. -/
  sent : Option Train
  /-- This device has been passed for the first time in this cycle (16 R341); reset 0. -/
  passed : Bool
  /-- The cycle of the train last sent on has completed at this device (16 R345); reset 0. -/
  ended : Bool
deriving DecidableEq, Repr

/-- Pair link states (R354). -/
inductive PLinkSt where
  | down | train | hello | up
deriving DecidableEq, Repr

/-- A mirrored command or write that waits for its apply tick (R358, R359): MSEQ, the entry or the write, the tick. -/
structure Mirrored where
  mseq : Nat
  isReg : Bool
  words : List W
  apply : Nat
  /-- Kiosk tag on the LEAD, whose completion waits for STATUS (17 R359). -/
  tag : Option (BitVec 16)
  /-- The command has been sent and applied here. -/
  applied : Bool
  /-- The LEAD's own status and results, once executed (17 R361). -/
  own : Option (BitVec 16 × W × W × W)
  /-- The STANDBY's status and RESULT0, once received (17 R361). -/
  partner : Option (BitVec 16 × W)
deriving DecidableEq, Repr

/-- The pair link and the pair's state (chapter 17). -/
structure Prl where
  /-- ROLE of PRL_STATUS (17 Table 17.12); reset SOLO. -/
  role : PairRole
  /-- SIDE of PRL_STATUS, 1 B (17 Table 17.12); reset 0. -/
  side : Bool
  /-- STRAPPED of PRL_STATUS (17 Table 17.12); reset 0. -/
  strapped : Bool
  /-- PSTATE of PRL_STATUS (17 Table 17.12); reset NONE. -/
  pst : PState
  /-- LINK of PRL_STATUS (17 Table 17.12); reset DOWN. -/
  link : PLinkSt
  /-- VERSION of PRL_STATUS, 2 bits (17 Table 17.12); reset 0. -/
  version : Nat
  /-- CHECK of PRL_STATUS (17 Table 17.12); reset 0 none. -/
  check : CheckRes
  /-- LANES of PRL_STATUS, 4 bits (17 Table 17.12); reset 0. -/
  lanes : BitVec 4
  /-- PRUN of PRL_STATUS (17 Table 17.12); reset 0. -/
  prun : Bool
  /-- PRESENT of PRL_STATUS (17 Table 17.12); reset 0. -/
  present : Bool
  /-- PRL_PSER_LO and HI, 64 bits (17 Table 17.11); reset 0. -/
  pser : BitVec 64
  /-- PRL_PFW, 32 bits (17 Table 17.11); reset 0. -/
  pfw : W
  /-- IMAGE_ID and IMAGE_CRC of the partner's HELLO (17 Table 17.2); reset 0. -/
  pimage : W × W
  /-- The partner holds the image under admission (06 Table 6.8 step 2), where it is not the one that its HELLO names: the model's own field, a free value (log entry 64); reset 0 (DESIGN CHOICE). -/
  pheld : Bool
  /-- PRL_MISMATCH, 32 bits wrapping (17 Table 17.11); reset 0. -/
  mismatch : W
  /-- PRL_SPLITS, 32 bits wrapping (17 Table 17.11); reset 0. -/
  splits : W
  /-- Takeovers, PRL_SWITCH bits 31:16 (17 Table 17.11); reset 0. -/
  takeovers : BitVec 16
  /-- Yields, PRL_SWITCH bits 15:0 (17 Table 17.11); reset 0. -/
  yields : BitVec 16
  /-- PRL_SYNCTIME, 32 bits, ms (17 Table 17.11); reset 0. -/
  syncTime : W
  /-- PRL_EVT, 8 bits (17 Table 17.14); reset 0. -/
  evt : BitVec 8
  /-- Consecutive missing tick cells (17 R367); reset 0. -/
  missing : Nat
  /-- The last compared tick was a mismatch (17 R364); reset 0. -/
  lastBad : Bool
  /-- Consecutive compared ticks with equal digests (17 R371); reset 0. -/
  equalRun : Nat
  /-- Tick at which the dispute started (17 R365); reset none. -/
  dispute : Option Nat
  /-- CHECK of the partner, as last judged (17 Table 17.7); reset none. -/
  partner : CheckRes
  /-- Tick at which takeover was declared (17 R367); reset none. -/
  takeover : Option Nat
  /-- Links whose frames have reported this device's port since the takeover, bit n (17 R367); reset 0. -/
  takeMask : BitVec 64
  /-- YIELD is set in the tick cell of this tick (17 R366); reset 0. -/
  yieldNow : Bool
  /-- COPY has ended and CONVERGE runs (17 R371); reset 0. -/
  converge : Bool
  /-- Tick at which RESYNC began (17 R371 PRL_SYNCTIME); reset 0. -/
  resyncTick : Nat
  /-- Tick at which COPY ended (17 R371); reset 0. -/
  copyEnd : Nat
  /-- Consecutive failures to reach IN_SYNC (17 R371); reset 0. -/
  fails : Nat
  /-- The next task number to hand off (17 R371); reset 0. -/
  handNext : Nat
  /-- The mirror queue and the mirrored commands (17 R358-R360); reset empty. -/
  queue : List Mirrored
  /-- Next MSEQ (17 Table 17.6); reset 0 (DESIGN CHOICE, log entry 3). -/
  mseq : Nat
  /-- STATUS messages to send or judged: MSEQ, status, RESULT0 (17 Table 17.6); reset empty. -/
  statusQ : List (Nat × BitVec 16 × W)
  /-- Values received in NVVAL: record ID and words (17 R362); reset empty. -/
  nvval : List (BitVec 16 × List W)
  /-- Activation epoch the partner sent in PLAN (06 R131); reset none. -/
  planEpoch : Option Nat
  /-- MASK of the own tick cell of the last tick (17 Table 17.5); reset 0. -/
  mask : BitVec 64
  /-- ODIG of the own tick cell of the last tick (17 R363); reset 0. -/
  odig : BitVec 64
  /-- Words 0..40 of the mirror sets of the releases that ended in this tick, with engine and end cycle, for SDIG (17 R363); reset empty. -/
  sdigSets : List (Nat × Nat × List W)
  /-- SDIG of the own tick cell of the last tick (17 R363); reset 0. -/
  sdig : W
  /-- MASK of the own tick cell of this tick (17 Table 17.5); reset 0. -/
  cellMask : BitVec 64
  /-- ODIG of the own tick cell of this tick (17 R363); reset 0. -/
  cellOdig : BitVec 64
  /-- SDIG of the own tick cell of this tick (17 R363); reset 0. -/
  cellSdig : W
  /-- Messages named in NAKs, to be sent again: KIND and SEQ (17 R356); reset empty. -/
  resend : List (BitVec 8 × BitVec 8)
  /-- The one-way delay of the pair link measured in TRAIN, in ns (17 R354); reset 0. -/
  delay : Nat
  /-- The HELLO this device last sent, seven words (17 R357, Table 17.2); reset empty. -/
  hello : List W
  /-- The MSEQ that a STANDBY expects next, once it has received one since it began RESYNC (17 R356); reset none. -/
  rxMseq : Option Nat
  /-- A STANDBY that ran an image of its own has stopped dispatching until CONVERGE (17 R357); reset 0. -/
  halted : Bool
  /-- Tick at which RESYNC restarts after a failure (17 R371); reset none. -/
  restartAt : Option Nat
  /-- A yield waits for the next tick start, with the pair state that follows it (17 R366, R379, Table 17.13); reset none. -/
  yieldReq : Option PState
  /-- COMPAT declared by an update, HELLO word 4 (17 Table 17.2, 20); reset 0. -/
  compat : W
deriving DecidableEq, Repr

/-- One event source and one class of it under R228: quiet, or in a window with occurrences counted. -/
structure EvWin where
  /-- Tick at which the window ends (09 R228); 0 while quiet. -/
  ends : Nat
  /-- Occurrences counted in the window (09 R228). -/
  count : Nat
  /-- Code, TS, payload, context and task of the first of them (09 Table 9.7). -/
  code : BitVec 16
  ts : TS
  payload : W
  ctx : Nat
  task : Nat
deriving DecidableEq, Repr

/-- A record held for lack of EQ space or of a session (R210, R229). -/
structure HeldRec where
  src : Nat
  cls : EvClass
  count : Nat
  code : BitVec 16
  ts : TS
  payload : W
  ctx : Nat
  task : Nat
  held : Bool
deriving DecidableEq, Repr

/-- A reaction that waits to be applied at the end of the command that raised it (R377-R381). -/
structure React where
  src : Nat
  cls : EvClass
  cfg : W
  code : BitVec 16
  payload : W
deriving DecidableEq, Repr

/-- The fault collector (chapter 18). -/
structure Fcr where
  /-- FATAL of FCR_STATUS (18 Table 18.10); reset 0. -/
  fatal : Bool
  /-- ALIVE_RUN of FCR_STATUS (18 Table 18.10); reset 0. -/
  aliveRun : Bool
  /-- BEYOND of FCR_STATUS (18 Table 18.10); reset 0. -/
  beyond : Bool
  /-- FCR_ERRN, bits 2:0: BOOT, FE, UC (18 Table 18.11); reset 0b100. -/
  errn : BitVec 3
  /-- FCR_LAST_FE, 32 bits (18 Table 18.8); reset 0. -/
  lastFe : W
  /-- Spare loop engines, FCR_SPARE_LE, 48 bits (18 Table 18.8); reset 0. -/
  spareLe : BitVec 48
  /-- Spare sequencer (3:0) and supervisory (7:4) engines, FCR_SPARE_MISC (18 Table 18.8); reset 0. -/
  spareMisc : BitVec 8
  /-- Routing self-tests passed, 16 bits wrapping (18 Table 18.8 FCR_SELFTEST); reset 0. -/
  selftests : BitVec 16
  /-- Tick of the last pass (18 Table 18.8 FCR_SELFTEST); reset none. -/
  selftestTick : Option Nat
  /-- FCR_CFGs of sources whose configuration EVENT_CFG has changed; the others hold Table 18.1's (18 Table 18.9); reset empty. -/
  cfg : List (Nat × W)
  /-- Configurations that take effect at the next tick (18 R380); reset empty. -/
  cfgNext : List (Nat × Nat × W)
  /-- FCR_CNTs, 32 bits wrapping; unlisted 0 (18 Table 18.8); reset empty. -/
  cnt : List (Nat × W)
  /-- Coalescing windows by source and class; unlisted quiet (09 R228); reset empty. -/
  win : List (Nat × EvClass × EvWin)
  /-- Records held (09 R229, R210), in order of first occurrence; reset empty. -/
  held : List HeldRec
  /-- Records the MGP safe handler has been trapped for (18 Table 18.3 NMT); reset 0. -/
  nmt : Nat
  /-- Reactions that this command's occurrences have called for (18 R377, R381); empty between commands; reset empty. -/
  todo : List React
  /-- Chip reset due at this tick (18 Table 18.3 CRST); reset none. -/
  crst : Option Nat
  /-- Units under block reset, by source, with the tick at which they resume (18 Table 18.3 BRST); reset empty. -/
  brst : List (Nat × Nat)
  /-- The level of ALIVE (18 R387); reset 0. -/
  alive : Bool
  /-- ERR_N asserted (18 R388); reset 1. -/
  errnOut : Bool
  /-- Sources whose units are fenced once the LEAD has yielded (05 R116, 17 R366); reset empty. -/
  fenceAfter : List Nat
  /-- READMIT in its self-test: the unit and the kiosk tag (18 R384); reset none. -/
  readmit : Option (HwUnit × BitVec 16)
deriving DecidableEq, Repr

/-- A directory entry of the record manager (R406): ID, byte offset of each copy in the window, LEN and KIND. -/
structure RecDir where
  id : BitVec 16
  offA : Nat
  offB : Nat
  len : Nat
  counter : Bool
deriving DecidableEq, Repr

/-- The non-volatile store (chapter 19). -/
structure Nvs where
  /-- The NV window, 1 MB by byte offset (19 R394); reset 0 (recalled from the cells, R397; log entry 2). -/
  win : List Host.Cell
  /-- The NV cells behind the window, 1 MB; kept over every reset (00 R3, 19 R394); reset 0, blank cells (DESIGN CHOICE, log entry 4). -/
  cells : List Host.Cell
  /-- Pages that are dirty, rising (19 R395); reset empty. -/
  dirty : List Nat
  /-- STORING of NVS_STATUS (19 Table 19.6); reset 0. -/
  storing : Bool
  /-- RECALLING of NVS_STATUS and NV_RECALLING of KIO_STATUS (19 Table 19.6); reset 0. -/
  recalling : Bool
  /-- READY of NVS_STATUS (19 Table 19.6); reset 0. -/
  ready : Bool
  /-- PFAIL_IN of NVS_STATUS (19 Table 19.6); reset 0. -/
  pfailIn : Bool
  /-- The power-fail sequence of Table 19.2 has begun (19 R401); reset 0. -/
  pfSeq : Bool
  /-- The store that runs is the power-fail store (19 R401); reset 0. -/
  pfStore : Bool
  /-- Pages the running store has still to write, rising (19 R400); reset empty. -/
  todo : List Nat
  /-- Pages written by the running store (19 R400); reset 0. -/
  written : Nat
  /-- Tick at which the running store began (19 R400); reset 0. -/
  start : Nat
  /-- NV_STORE commands that wait for the running store: kiosk tag and pages (19 R400); reset empty. -/
  waiting : List (BitVec 16 × List Nat)
  /-- Kiosk tag of the running store (19 R399); reset none. -/
  tag : Option (BitVec 16)
  /-- NVS_STORES, 32 bits wrapping (19 Table 19.5); reset 0. -/
  stores : W
  /-- NVS_LASTSTORE, 32 bits (19 Table 19.5); reset 0. -/
  lastStore : W
  /-- NVS_RECALL, 32 bits (19 Table 19.5); reset 0. -/
  recallReg : W
  /-- NVS_EVT, 7 bits (19 Table 19.7); reset 0. -/
  evt : BitVec 7
  /-- Increments requested and not yet applied: counter record IDs (19 R410); reset empty. -/
  pendInc : List (BitVec 16)
  /-- VNV is below 1.62 V (19 R402); reset 0. -/
  vnvLow : Bool
  /-- Tick since which PFAIL has stayed released after a power-fail store (19 R403); reset none. -/
  released : Option Nat
deriving DecidableEq, Repr

/-- Update phases (Table 20.4, Table 20.10). -/
inductive UpdPhase where
  | idle | staging | verifying | verified | preparing | ready | armed | trial | confirming
deriving DecidableEq, Repr

/-- What is kept of the running parts until CONFIRM, for a fallback (R426, R428): the image, the placement and the LOCAL spaces at C. -/
structure OldParts where
  img : Option Image
  nominal : List Place
  place : List Place
  locals : List (Nat × List Host.Cell)
  fw : W
  /-- COMPAT that the old firmware advertised (20 R430). -/
  compat : W
deriving DecidableEq, Repr

/-- The update and authentication engine, the flash and the OTP (chapter 20). -/
structure Upe where
  /-- PHASE of UPE_STATUS (20 Table 20.10); reset IDLE. -/
  phase : UpdPhase
  /-- COORD of UPE_STATUS (20 Table 20.10); reset 0. -/
  coord : Bool
  /-- AUTO of UPE_STATUS (20 Table 20.10); reset 0. -/
  auto : Bool
  /-- KEY of UPE_STATUS, 2 bits (20 Table 20.10); reset 0. -/
  key : BitVec 2
  /-- LAST_CODE of UPE_STATUS, 8 bits (20 Table 20.10); reset 0. -/
  lastCode : BitVec 8
  /-- LAST_PART of UPE_STATUS, 8 bits (20 Table 20.10); reset 0. -/
  lastPart : BitVec 8
  /-- FW_SLOT of UPE_STATUS, 1 B (20 Table 20.10); reset 0. -/
  fwSlot : Bool
  /-- IMG_SLOT of UPE_STATUS, 1 B (20 Table 20.10); reset 0. -/
  imgSlot : Bool
  /-- Active manifest slot, 1 B (20 R415); reset 0 (from the directory). -/
  manSlot : Bool
  /-- UPE_MID, 32 bits (20 Table 20.9); reset 0. -/
  mid : W
  /-- UPE_MSEQ_NEW, 32 bits (20 Table 20.9); reset 0. -/
  mseqNew : W
  /-- UPE_MSEQ_CONF, 32 bits (20 Table 20.9); reset 0. -/
  mseqConf : W
  /-- Tick C, UPE_COMMIT_LO and HI, 48 bits (20 Table 20.9); reset 0. -/
  commitTick : BitVec 48
  /-- Tick F of a fallback that is due (20 R428); reset none. -/
  fallTick : Option (BitVec 48)
  /-- Code and originator that the update log will hold of a fallback that is due (20 R428, Table 20.8); reset 0, 0. -/
  fallLog : Nat × Nat
  /-- TRIAL_S of the update, s; UPE_TRIAL_LEFT shows what remains (20 Table 20.9); reset 0. -/
  trialS : Nat
  /-- Tick at which TRIAL began (20 Table 20.4); reset 0. -/
  trialStart : Nat
  /-- YES votes by join address (20 R422, UPE_VOTES); reset empty. -/
  yes : List JAddr
  /-- NO votes by join address (20 R422, UPE_VOTES); reset empty. -/
  no : List JAddr
  /-- Join addresses expected to vote (20 R422, UPE_VOTES); reset empty. -/
  expected : List JAddr
  /-- Tick of OPEN at the coordinator (20 R425); reset 0. -/
  openTick : Nat
  /-- Local preparation runs (20 R423); reset 0. -/
  preparing : Bool
  /-- REVOKED1, REVOKED0, VALID1, VALID0 of UPE_KEYS (20 Table 20.11); reset from OTP: 0b0001, key slot 0 programmed (DESIGN CHOICE, log entry 5). -/
  keys : BitVec 4
  /-- OTP public key slots 0 and 1: x and y of P-384 (20 R416, R421); reset 0 (DESIGN CHOICE, log entry 5). -/
  otpKeys : Vector (Nat × Nat) 2
  /-- Device serial number in OTP, 64 bits (09 Table 9.1, 24 ID_SERIAL); reset 0 (DESIGN CHOICE, log entry 5). -/
  serial : BitVec 64
  /-- UPE_FW_ACT, 32 bits; ID_FW shows it while FW_READY (20 Table 20.9, 24 R476); reset 0. -/
  fwAct : W
  /-- UPE_FW_ALT, 32 bits (20 Table 20.9); reset 0. -/
  fwAlt : W
  /-- UPE_EVT, 6 bits (20 Table 20.12); reset 0. -/
  evt : BitVec 6
  /-- The flash, by byte offset; kept over every reset (20 R414); reset 0 (log entry 2). -/
  flash : List Host.Cell
  /-- The inactive slots have been invalidated: manifest, firmware, image, modules (20 Table 20.4); reset 0. -/
  staged : BitVec 4
  /-- The old parts kept until CONFIRM (20 R426); reset none. -/
  old : Option OldParts
  /-- The new image admitted by the local preparation and its placement (20 R423); reset none. -/
  newPlan : Option (Image × List Place)
  /-- State-map entries of the manifest: task, new word, FROM_OLD, old word (20 R418); reset empty. -/
  smap : List (Nat × Nat × Bool × Nat)
  /-- COMPAT of the manifest (20 Table 20.2, R430); reset 0. -/
  compat : W
  /-- Version of the firmware part held by this device, once prepared (20 Table 20.3); reset none. -/
  newFw : Option W
  /-- REVOKE_OTHER of the manifest (20 Table 20.2); reset 0. -/
  revokeOther : Bool
  /-- The settings records staged by the new firmware: ID and payload (20 R427); reset empty. -/
  settings : List (BitVec 16 × List W)
  /-- Step of R429 that CONFIRMING has reached: 1 its store waits, 2 it runs, 3 settings to be migrated again (20 R429); reset 0. -/
  confStep : Nat
  /-- LOCAL words of the old code of tasks that go back to it at their next release after a fallback (20 R428); reset empty. -/
  back : List (Nat × List Host.Cell)
  /-- Tick at which the instruction banks exchange roles after C or F (20 R426); reset none. -/
  bankTick : Option Nat
  /-- Links whose module part was skipped because they were not UP (20 R424); reset empty. -/
  skipped : List Nat
deriving DecidableEq, Repr

/-- The 128 KB handover area of management memory (20 R426): what the old firmware leaves to the new one. -/
structure HandArea where
  /-- The open session: MAJOR and MINOR, or none. -/
  session : Option (BitVec 8 × BitVec 8)
  /-- Ring pointers: SQ head and tail, CQ head and tail of each ring, EQ head and tail. -/
  rings : List Nat
  /-- Tags of the drip operations outstanding. -/
  drips : List (BitVec 16)
  /-- Timers: the ticks at which the update was opened and its trial began. -/
  timers : List Nat
deriving DecidableEq, Repr

/-- Start-up, supplies and the identity block (chapters 21, 22, 24). -/
structure Boot where
  /-- STAGE of ID_BOOT, 4 bits (21 Table 21.5); reset 0. -/
  stage : BitVec 4
  /-- FROM_HOST of ID_BOOT (21 Table 21.5); reset 0. -/
  fromHost : Bool
  /-- CODE of ID_BOOT, 8 bits (21 Table 21.5); reset 0. -/
  code : BitVec 8
  /-- ID_SCRATCH, 32 bits (24 Table 24.3); reset 0. -/
  scratch : W
  /-- TRL_STRAPS TR, the latched straps, 16 bits (22 Table 22.11, 21 R434); reset from the straps: 0 before they are latched (DESIGN CHOICE, log entry 6). -/
  straps : BitVec 16
  /-- STRAP_BAD of TRL_STRAPS (22 Table 22.11); reset 0. -/
  strapBad : Bool
  /-- The straps have been latched since the SMU released the device (21 R434); reset 0. -/
  latched : Bool
  /-- RST_N is low at the pin (21 R433); reset 1 (DESIGN CHOICE, log entry 6). -/
  rstLow : Bool
  /-- A supply is outside its monitor window, VDD, VDDA, VDDT, VPLL, VIO18, VIO33, VNV (23 R463); reset 0. -/
  supplyOut : BitVec 7
  /-- Tick of the firmware's start (21 R439); reset 0. -/
  fwTick : Nat
  /-- The boot image has been read and is kept for admission (21 R440); reset 0. -/
  imageKept : Bool
  /-- The boot image has been admitted or refused (21 R440, R441); reset 0. -/
  imageDone : Bool
  /-- The reset reason left for the firmware: a CONFIRMING, TRIAL or earlier phase found in page 4,034 (21 R438); reset IDLE. -/
  leftPhase : UpdPhase
  /-- The half of management memory that the firmware runs from (00 R3, 20 R423); reset 0 (DESIGN CHOICE, log entry 65). -/
  half : Bool
  /-- The firmware version loaded in each half of management memory, 0 for none (00 R3, 20 R423); reset 0. -/
  halves : Vector W 2
  /-- The handover area (20 R426); reset none. -/
  hand : Option HandArea
deriving DecidableEq, Repr

/-- The Trellis pin controller (chapter 22). -/
structure Trl where
  /-- STUCK of TRL_STATUS, 12 bits (22 Table 22.10); reset 0. -/
  stuck : BitVec 12
  /-- TRL_CFG, 32 bits (22 Table 22.12); reset 0x0000_0004. -/
  cfg : W
  /-- A TRL_CFG write that waits for the next scan (22 R460); reset none. -/
  cfgNext : Option W
  /-- TRL_EVT, 3 bits (22 Table 22.13); reset 0. -/
  evt : BitVec 3
  /-- TRL_SCANS, 32 bits wrapping (22 Table 22.9); reset 0. -/
  scans : W
  /-- Lamp codes of points 0..143, 4 bits each, TRL_LAMPi (22 Table 22.9); reset 0. -/
  lamp : Vector (BitVec 4) 144
  /-- Lamps lit for the scan (22 R455, R456, R459); reset 0. -/
  lit : BitVec 144
  /-- Debounced SENSE (22 R457); reset 0. -/
  sense : BitVec 144
  /-- SVALID: the point is read and valid (22 Table 22.9); reset 0. -/
  svalid : BitVec 144
  /-- Last reading of each point and how many scans it has held (22 R457); reset 0. -/
  last : Vector (Bool × Nat) 144
  /-- Guard readings of closed in a row per column (22 R458); reset 0. -/
  guard : Vector Nat 12
  /-- Low read-backs in a row per row (22 R458); reset 0. -/
  rowLow : Vector Nat 12
deriving DecidableEq, Repr

/-- Engine status of one engine (24 R477) beside `Engine`. -/
structure EngStat where
  /-- ENG_xxBUSYk, cycles busy in the last completed epoch (24 Table 24.5); reset 0. -/
  busyLast : Nat
  /-- Cycles busy in this epoch (24 Table 24.5); reset 0. -/
  busyNow : Nat
  /-- ENG_xxPEAKk (24 Table 24.5); reset 0. -/
  peak : Nat
  /-- STPASS of ENG_xxSTATk, 16 bits wrapping (24 Table 24.6); reset 0. -/
  stpass : BitVec 16
deriving DecidableEq, Repr

/-- The reasons for which a step could stop with a fault: none. Every command of the table has an effect in every
state (log entry 8). -/
inductive Fault where
deriving DecidableEq, Repr

/-- The reasons for which a step could refuse a command. -/
inductive Refusal where
  /-- The command has no meaning in this model (raised by `exec` alone, for an arm that is not written yet); safe. -/
  | notModelled (mnemonic : String)
deriving DecidableEq, Repr

/-- The state of the KV7192: everything the spec gives the device, and the queue of commands that wait. -/
structure State where
  /-- Commands waiting, first in, first out: the model's own (the prompt's); reset empty. -/
  pending : List Instr
  /-- The model's counter that free values are drawn with: the model's own (log entry 7); reset 0 (DESIGN CHOICE, log entry 7). -/
  fresh : Nat
  /-- CTU (chapter 02); reset as its lines say. -/
  clk : Clk
  /-- Task contexts T0..T511 (03 R35); reset as their lines say. -/
  ctx : Vector Context 512
  /-- Loop engines LE0..LE47 (03 R34); reset as their lines say. -/
  le : Vector Engine 48
  /-- Sequencer engines SE0..SE3 (03 R34); reset as their lines say. -/
  se : Vector Engine 4
  /-- Supervisory engines UE0..UE3 (03 R34); reset as their lines say. -/
  ue : Vector Engine 4
  /-- Engine status of LE0..47, SE0..3, UE0..3 in this order (24 R477); reset as their lines say. -/
  eng : Vector EngStat 56
  /-- Shared task memory, 4 MB by byte offset (00 R3, 03 Table 3.3); reset 0 (log entry 2). -/
  shared : List Host.Cell
  /-- Channels ch0..ch191 (00 R2, 05); reset as their lines say. -/
  chan : Vector Chan 192
  /-- SPU sources SHAFT0..SHAFT3 (05 R108); reset as their lines say. -/
  shaft : Vector Shaft 4
  /-- Period generators PG0..PG7 (03 R62); reset as their lines say. -/
  pg : Vector PGen 8
  /-- Admission (chapter 06); reset as its lines say. -/
  adm : Adm
  /-- SNAP_SEQ, device-wide, 16 bits wrapping (07 R173); reset 0. -/
  snapSeq : BitVec 16
  /-- Stage links L0..L63 (chapter 08); reset as their lines say. -/
  link : Vector Link 64
  /-- Kiosk (chapter 09); reset as its lines say. -/
  kio : Kio
  /-- Host memory as the device has written it by DMA: rings, reports, slots; outside the device (09 R213, R216, 10 R247); reset empty (log entry 2). -/
  host : List Host.Cell
  /-- Recorder and export (chapter 10); reset as its lines say. -/
  bbr : Bbr
  /-- Charge ledgers CLG0..CLG63 (chapter 12); reset as their lines say. -/
  clg : Vector Ledger 64
  /-- Thermal model unit (chapter 13); reset as its lines say. -/
  tmu : Tmu
  /-- Tie ports TP0..TP7 (chapter 14); reset as their lines say. -/
  tpc : Vector Tpc 8
  /-- Two-wire ports TW0..TW3 (chapter 15); reset as their lines say. -/
  twp : Vector Twp 4
  /-- Join bus (chapter 16); reset as its lines say. -/
  jnb : Jnb
  /-- Pair link (chapter 17); reset as its lines say. -/
  prl : Prl
  /-- Fault collector (chapter 18); reset as its lines say. -/
  fcr : Fcr
  /-- Non-volatile store (chapter 19); reset as its lines say. -/
  nvs : Nvs
  /-- Update engine, flash and OTP (chapter 20); reset as its lines say. -/
  upe : Upe
  /-- Start-up, straps and supplies (chapters 21, 22, 23); reset as its lines say. -/
  boot : Boot
  /-- Trellis (chapter 22); reset as its lines say. -/
  trl : Trl
deriving DecidableEq, Repr

/-- `Clk` at reset. -/
def Clk.init : Clk where
  chip := .reset
  tc := 0
  ts := 0
  rootLock := false
  tickRun := false
  refsel := .xtal
  holdover := false
  notAligned := false
  aligned := false
  alignEn := true
  snapTc := 0
  snapTs := 0
  alignValid := false
  alignOffset := 0
  nudges := 0
  mon := 0
  wake := 0
  offs := []
  outEpochs := 0
  nudgeDir := 0
  rootPhase := 0
  waking := false
  released := false

/-- `LibSt` at reset. -/
def LibSt.init : LibSt where
  win := []
  timer := none
  pres := none
  presKnown := false
  ramp := 0
  since := 0
  latch := 0
  i1 := 0
  i2 := 0
  sat := false
  sat2 := false
  trims := []
  limRet := 0
  shed := []
  capCls := 0
  phase := 0
  sag := 0
  lastOk := 0
  vSamples := []
  mark := 0
  qLast := 0
  ticksLast := 0
  stepTick := 0
  releases := 0
  steps := 0
  count := 0
  gapStep := 0
  taper := none
  rest := none
  staleStep := false
  blend := none
  warned := 0
  learnIn := 0
  restPoint := false
  outBand := false
  restUsed := false

/-- `RptTable` at reset. -/
def RptTable.init : RptTable where
  mem := []
  st := 0
  rfail := false
  n := 0

/-- `Rail` at reset. -/
def Rail.init : Rail where
  cls := .ok
  cand := .ok
  count := 0
  warned := false
  ramp := none

/-- `SeqRec` at reset. -/
def SeqRec.init : SeqRec where
  st := .off
  unwFault := false
  resume := 0
  runs := false
  calls := []
  wait := .none
  timer := 0
  retries := 0
  retryLeft := 0
  retryFull := 0
  unwLeft := 0
  lossSteps := 0
  returnSteps := 0
  onSteps := 0
  rails := Vector.replicate 8 Rail.init
  slaves := []
  served := none

/-- `Context` at reset. -/
def Context.init : Context where
  task := none
  regs := Vector.replicate 32 0
  acc := Vector.replicate 4 0
  fS := false
  fZ := false
  fN := false
  fC := false
  fP := false
  ph := 0
  loc := []
  t0 := RptTable.init
  t1 := RptTable.init
  bank0 := []
  bank1 := []
  bankAct := false
  swaps := 0
  wdrop := false
  armed := none
  applyTick := 0
  crc0 := 0
  crc1 := 0
  stat := Vector.replicate 16 0
  reason := 0
  cold := false
  chk := Vector.replicate 4 0
  mirror := []
  ledgHi := 0
  lastTick := none
  wait := none
  rel := none
  seq := SeqRec.init
  lib := LibSt.init

/-- `Engine` at reset. -/
def Engine.init : Engine where
  fenced := false
  mirrorRx := []
  busy := 0
  ibank := false
  imem := Vector.replicate 2 []

/-- `Chan` at reset. -/
def Chan.init : Chan where
  st := .off
  before := .off
  holdTick := 0
  validRun := 0
  armLeft := 0
  armTick := 0
  restart := false
  restartRun := 0
  safeReq := false
  stopReq := false
  startReq := false
  fenceReq := false
  readmitReq := false
  armZero := 0
  due := false
  mA := 0
  mB := 0
  mC := 0
  mD := 0
  mstat := 0
  cmd := 0
  mode := 0
  stCmd := 0
  stMode := 0
  staged := []
  misses := 0

/-- `Shaft` at reset. -/
def Shaft.init : Shaft where
  cfg := 0
  lock := false
  lost := false
  tsLast := none
  interval := 0
  good := 0
  k := 0
  sinceIdx := none
  idxGood := false
  held := 0
  pulse := none
  hist := []

/-- `PGen` at reset. -/
def PGen.init : PGen where
  inc := 0
  acc := 0
  prev := 0

/-- `Adm` at reset. -/
def Adm.init : Adm where
  st := 0
  lastResult := 0
  lastStep := 0
  img := none
  nominal := []
  place := []
  first := 0xFF
  second := 0xFF
  actEpoch := 0
  load := 0
  slices := 0
  run := none
  move := []
  moveOld := []
  shadow := none

/-- `Link` at reset. -/
def Link.init : Link where
  st := .down
  fast := false
  version := 0
  owner := 0
  enable := false
  fenced := false
  tstep := 1
  since := 0
  holdoff := 0
  switchTick := none
  ready := false
  agree := []
  sOff := 0
  sReady := 0
  resume := 0
  digest := 0
  hello := List.replicate 18 0
  rtt := 0
  ta := 0
  xEnd := 0
  miss := 0
  validRun := 0
  corruptRun := 0
  missRun := 0
  trainRun := 0
  lostRun := 0
  lastValid := false
  port := false
  refused := false
  crcErr := 0
  missed := 0
  fullTrains := 0
  fastTrains := 0
  evt := 0
  devQ := []
  hostQ := []
  devTx := []
  hostTx := []
  devSeq := 0
  hostSeq := 0
  reads := []
  acked := []
  rxDev := none
  rxHost := none
  rxCap := none
  rdata := []
  thresh := Vector.replicate 3 0xFFFFFFFF
  holdLim := Vector.replicate 3 none
  finals := 0
  txIdle := true
  takeRel := 0
  relLeft := 0
  own := false
  firstRun := Vector.replicate 3 none
  moved := Vector.replicate 3 false
  sent := none
  capture := []

/-- `SubRing` at reset. -/
def SubRing.init : SubRing where
  base := 0
  size := 4
  tail := 0
  head := 0
  entries := []

/-- `CplRing` at reset. -/
def CplRing.init : CplRing where
  base := 0
  size := 4
  head := 0
  tail := 0
  used := 0
  phase := true

/-- `Kio` at reset. -/
def Kio.init : Kio where
  isOpen := false
  major := 0
  minor := 0
  result := 0
  reason := 0
  reqMajor := 0
  reqMinor := 0
  fwReady := false
  handover := none
  err := 0
  refused := Vector.replicate 4 0
  sq := Vector.replicate 4 SubRing.init
  cq := Vector.replicate 4 CplRing.init
  eq := CplRing.init
  accepted := []
  nextHandle := 1
  cred0 := 64
  cred1 := 16
  evSeq := 0
  msix := Vector.replicate 64 0
  armed := 0
  msixPend := 0
  msixMask := BitVec.allOnes 64
  msixOn := false
  pcieSpeed := 0
  pcieLanes := 0
  keptSq := Vector.replicate 4 none
  keptCq := Vector.replicate 4 none
  keptEq := none
  d3 := false
  perst := true

/-- `Blk` at reset. -/
def Blk.init : Blk where
  seq := 0
  first := 0
  last := 0
  rows := 0
  rowBytes := 0
  noteBytes := 0
  devBytes := 0
  notesLost := 0
  holders := 0
  row0 := 0
  orph := 0
  closed := false
  todo := 0

/-- `TierSt` at reset. -/
def TierSt.init (n : Nat) : TierSt where
  blks := List.replicate n Blk.init
  opn := 0
  isOpen := false
  seq := 0
  nrows := 0
  lastSeq := 0
  stats := []
  rowTick := 0

/-- `Trig` at reset. -/
def Trig.init : Trig where
  st := .idle
  decl := false
  missed := 0
  damaged := false
  preShort := false
  f := 0
  words := []
  win := []
  left := []
  armTick := 0
  pend := none
  exported := 0
  otherSide := false

/-- `Strm` at reset. -/
def Strm.init : Strm where
  isOpen := false
  overrun := false
  tiers := 0
  size := 0
  sent := 0
  drops := 0
  credit := 0
  base := 0
  status := 0
  gaps := []
  frozen := []

/-- `Bbr` at reset. -/
def Bbr.init : Bbr where
  fenced := 0
  run := false
  nlost := 0
  mapCrc := 0
  mem := []
  esp := TierSt.init 128
  lun := TierSt.init 64
  car := TierSt.init 64
  sect := []
  trig := Vector.replicate 32 Trig.init
  olds := []
  strm := Vector.replicate 4 Strm.init
  lastRow := []
  mstatNote := []
  staleSince := []

/-- `Ledger` at reset. -/
def Ledger.init : Ledger where
  q := 0
  qHi := 0
  qIn := 0
  qOut := 0
  last := 0
  ticks := 0
  chan := none
  resets := 0
  gap := false
  gaps := 0
  stale := false
  absent := false
  missing := 0
  pend := none
  cpc := 0

/-- `Therm` at reset. -/
def Therm.init : Therm where
  t := Vector.replicate 4 0
  rise := 0
  loss := 0
  band := 1
  run := false
  obs := false
  sensor := false
  noblock := false
  lossBad := false
  awarn := 0
  afault := 0
  rwarn := 0
  rfault := 0
  raised := 0
  blk := none
  serial := 0
  fresh := true
  stores := []
  reads := []
  badRead := false
  ds := []

/-- `Tmu` at reset. -/
def Tmu.init : Tmu where
  tamb := 0x42200000
  evals := 0
  due := none
  run := false
  ch := Vector.replicate 192 Therm.init

/-- `Tpc` at reset. -/
def Tpc.init : Tpc where
  st := .disabled
  role := 0
  gen := 0
  feedPres := false
  attachLvl := false
  prot := false
  forced := false
  stTick := 0
  grant := 0
  level := 0
  evt := 0
  msgs := 0
  discarded := 0
  restarts := 0
  window := 0
  tag := 0
  lastRx := none
  waiting := none
  sent := none
  offers := []
  idx := 0
  want := 0
  granted := false
  grantTick := 0
  turnTick := 0
  lease := false
  winding := false
  draw := none
  oc := none
  rev := 0
  gap := 0
  beaconEnd := 0
  beacon := false
  retry := none
  tieWait := none
  defer := none
  hailed := false
  turning := false

/-- `Twp` at reset. -/
def Twp.init : Twp where
  cfg := 0x4000
  addr := 0
  cfgNext := none
  addrNext := none
  st := 0
  sclIn := false
  sdaIn := false
  alertOut := false
  alertIn := false
  page := 0
  evt := 0
  acks := 0
  losses := 0
  xfer := none
  queue := []
  out := []
  acked := false
  notify := none
  notifyTick := none
  alertDone := false
  status := Vector.replicate 192 0
  temp := Vector.replicate 192 0

/-- `JPortSt` at reset. -/
def JPortSt.init : JPortSt where
  role := 0
  version := 0
  hop := .down
  delay := 0
  usable := false
  upTick := 0
  syncTick := none
  serial := 0
  peerRole := .solo

/-- `Jnb` at reset. -/
def Jnb.init : Jnb where
  st := 0
  ring := false
  late := false
  addr := none
  pairAddr := 0
  g := 0
  ndev := 0
  c := 0
  first := 0
  count := 0
  ja := JPortSt.init
  jb := JPortSt.init
  delay := 0
  crcErr := 0
  evt := 0
  slot := Vector.replicate 3 0
  latched := Vector.replicate 3 0
  rx := []
  rxNext := []
  outQ := []
  seq := 0
  seen := []
  trigSeen := []
  grants := []
  reserve := none
  grantQ := []
  master := none
  cycles := 0
  back := none
  sent := none
  passed := false
  ended := false

/-- `Prl` at reset. -/
def Prl.init : Prl where
  role := .solo
  side := false
  strapped := false
  pst := .none
  link := .down
  version := 0
  check := .none
  lanes := 0
  prun := false
  present := false
  pser := 0
  pfw := 0
  pimage := (0, 0)
  pheld := false
  mismatch := 0
  splits := 0
  takeovers := 0
  yields := 0
  syncTime := 0
  evt := 0
  missing := 0
  lastBad := false
  equalRun := 0
  dispute := none
  partner := .none
  takeover := none
  takeMask := 0
  yieldNow := false
  converge := false
  resyncTick := 0
  copyEnd := 0
  fails := 0
  handNext := 0
  queue := []
  mseq := 0
  statusQ := []
  nvval := []
  planEpoch := none
  mask := 0
  odig := 0
  sdigSets := []
  sdig := 0
  cellMask := 0
  cellOdig := 0
  cellSdig := 0
  resend := []
  delay := 0
  hello := []
  rxMseq := none
  halted := false
  restartAt := none
  yieldReq := none
  compat := 0

/-- `Fcr` at reset. -/
def Fcr.init : Fcr where
  fatal := false
  aliveRun := false
  beyond := false
  errn := 0b100
  lastFe := 0
  spareLe := 0
  spareMisc := 0
  selftests := 0
  selftestTick := none
  cfg := []
  cfgNext := []
  cnt := []
  win := []
  held := []
  nmt := 0
  todo := []
  crst := none
  brst := []
  alive := false
  errnOut := true
  fenceAfter := []
  readmit := none

/-- `Nvs` at reset. -/
def Nvs.init : Nvs where
  win := []
  cells := []
  dirty := []
  storing := false
  recalling := false
  ready := false
  pfailIn := false
  pfSeq := false
  pfStore := false
  todo := []
  written := 0
  start := 0
  waiting := []
  tag := none
  stores := 0
  lastStore := 0
  recallReg := 0
  evt := 0
  pendInc := []
  vnvLow := false
  released := none

/-- `Upe` at reset. -/
def Upe.init : Upe where
  phase := .idle
  coord := false
  auto := false
  key := 0
  lastCode := 0
  lastPart := 0
  fwSlot := false
  imgSlot := false
  manSlot := false
  mid := 0
  mseqNew := 0
  mseqConf := 0
  commitTick := 0
  fallTick := none
  fallLog := (0, 0)
  trialS := 0
  trialStart := 0
  yes := []
  no := []
  expected := []
  openTick := 0
  preparing := false
  keys := 0b0001
  otpKeys := Vector.replicate 2 (0, 0)
  serial := 0
  fwAct := 0
  fwAlt := 0
  evt := 0
  flash := []
  staged := 0
  old := none
  newPlan := none
  smap := []
  compat := 0
  newFw := none
  revokeOther := false
  settings := []
  confStep := 0
  back := []
  bankTick := none
  skipped := []

/-- `Boot` at reset. -/
def Boot.init : Boot where
  stage := 0
  fromHost := false
  code := 0
  scratch := 0
  straps := 0
  strapBad := false
  latched := false
  rstLow := true
  supplyOut := 0
  fwTick := 0
  imageKept := false
  imageDone := false
  leftPhase := .idle
  half := false
  halves := Vector.replicate 2 0
  hand := none

/-- `Trl` at reset. -/
def Trl.init : Trl where
  stuck := 0
  cfg := 4
  cfgNext := none
  evt := 0
  scans := 0
  lamp := Vector.replicate 144 0
  lit := 0
  sense := 0
  svalid := 0
  last := Vector.replicate 144 (false, 0)
  guard := Vector.replicate 12 0
  rowLow := Vector.replicate 12 0

/-- `EngStat` at reset. -/
def EngStat.init : EngStat where
  busyLast := 0
  busyNow := 0
  peak := 0
  stpass := 0

/-- The device in chip state RESET: every register at the value the spec states for reset; the others as log entries 2
to 6 name. Non-volatile cells, flash and OTP hold what those entries say. -/
def State.reset : State where
  pending := []
  fresh := 0
  clk := Clk.init
  ctx := Vector.replicate 512 Context.init
  le := Vector.replicate 48 Engine.init
  se := Vector.replicate 4 Engine.init
  ue := Vector.replicate 4 Engine.init
  eng := Vector.replicate 56 EngStat.init
  shared := []
  chan := Vector.replicate 192 Chan.init
  shaft := Vector.replicate 4 Shaft.init
  pg := Vector.replicate 8 PGen.init
  adm := Adm.init
  snapSeq := 0
  link := Vector.replicate 64 Link.init
  kio := Kio.init
  host := []
  bbr := Bbr.init
  clg := Vector.replicate 64 Ledger.init
  tmu := Tmu.init
  tpc := Vector.replicate 8 Tpc.init
  twp := Vector.replicate 4 Twp.init
  jnb := Jnb.init
  prl := Prl.init
  fcr := Fcr.init
  nvs := Nvs.init
  upe := Upe.init
  boot := Boot.init
  trl := Trl.init

end Sys2Proof.Machine
end

