-- ==== Sys2Proof/Machine/Ops.lean ====
section
/-!
DEFINITION. The named operations over memories, vectors, lists and State that every meaning shares.
-/
namespace Sys2Proof.Machine

/-! Vectors by number. -/

/-- Element `i`, or `d` when there is none. -/
def vat {α : Type} {n : Nat} (v : Vector α n) (i : Nat) (d : α) : α :=
  if h : i < n then v[i] else d

/-- `v` with element `i` replaced; unchanged when there is none. -/
def vput {α : Type} {n : Nat} (v : Vector α n) (i : Nat) (x : α) : Vector α n :=
  if h : i < n then v.set i x else v

/-- `v` with element `i` changed by `f`. -/
def vmod {α : Type} {n : Nat} (v : Vector α n) (i : Nat) (f : α → α) : Vector α n :=
  if h : i < n then v.set i (f v[i]) else v

/-- `f` over the elements with their numbers. -/
def vmapIdx {α : Type} {n : Nat} (v : Vector α n) (f : Nat → α → α) : Vector α n :=
  Vector.ofFn fun i => f i.val v[i]

/-- List element `i`, or `d`. -/
def lat {α : Type} (l : List α) (i : Nat) (d : α) : α := (l[i]?).getD d

/-! Memories: sorted lists of the bytes that differ from 0 (log entry 2). -/

/-- The byte at `a`; an unlisted address reads 0 (log entry 2). -/
def Memory.read : List Host.Cell → Nat → Byte
  | [], _ => 0
  | (k, v) :: r, a => if a = k then v else if a < k then 0 else Memory.read r a

/-- Write one byte, keeping the canonical form: rising addresses, no zero entry. -/
def Memory.write : List Host.Cell → Nat → Byte → List Host.Cell
  | [], a, b => if b = 0 then [] else [(a, b)]
  | (k, v) :: r, a, b =>
    if a < k then (if b = 0 then (k, v) :: r else (a, b) :: (k, v) :: r)
    else if a = k then (if b = 0 then r else (a, b) :: r)
    else (k, v) :: Memory.write r a b

/-- Every address is above `lo` and rising, and no entry is 0. -/
def Memory.above : Nat → List Host.Cell → Bool
  | _, [] => true
  | lo, (k, v) :: r => lo ≤ k && v != 0 && Memory.above (k + 1) r

/-- The canonical form of a memory. -/
def Memory.wf (m : List Host.Cell) : Bool := Memory.above 0 m

/-- `n` bytes from `a` up. -/
def Memory.readN (m : List Host.Cell) (a : Nat) : Nat → List Byte
  | 0 => []
  | n + 1 => Memory.read m a :: Memory.readN m (a + 1) n

/-- Bytes from `a` up. -/
def Memory.writeN (m : List Host.Cell) (a : Nat) : List Byte → List Host.Cell
  | [] => m
  | b :: r => Memory.writeN (Memory.write m a b) (a + 1) r

/-- A word from its four bytes, little-endian (R50). -/
def wordOf (b0 b1 b2 b3 : Byte) : W := b3 ++ b2 ++ b1 ++ b0

/-- The four bytes of a word, little-endian. -/
def bytesOf (w : W) : List Byte :=
  [w.extractLsb' 0 8, w.extractLsb' 8 8, w.extractLsb' 16 8, w.extractLsb' 24 8]

/-- The little-endian word at byte address `a`. -/
def Memory.readW (m : List Host.Cell) (a : Nat) : W :=
  wordOf (Memory.read m a) (Memory.read m (a + 1)) (Memory.read m (a + 2)) (Memory.read m (a + 3))

/-- Write a word at byte address `a`. -/
def Memory.writeW (m : List Host.Cell) (a : Nat) (w : W) : List Host.Cell := Memory.writeN m a (bytesOf w)

/-- `n` words from byte address `a`. -/
def Memory.readWs (m : List Host.Cell) (a : Nat) : Nat → List W
  | 0 => []
  | n + 1 => Memory.readW m a :: Memory.readWs m (a + 4) n

/-- Words from byte address `a` up. -/
def Memory.writeWs (m : List Host.Cell) (a : Nat) : List W → List Host.Cell
  | [] => m
  | w :: r => Memory.writeWs (Memory.writeW m a w) (a + 4) r

/-- The bytes of words, in order. -/
def bytesOfWords : List W → List Byte
  | [] => []
  | w :: r => bytesOf w ++ bytesOfWords r

/-- Bytes as words, the last padded with zeros. -/
def wordsOfBytes : List Byte → List W
  | a :: b :: c :: d :: r => wordOf a b c d :: wordsOfBytes r
  | [a, b, c] => [wordOf a b c 0]
  | [a, b] => [wordOf a b 0 0]
  | [a] => [wordOf a 0 0 0]
  | [] => []

/-! Lists keyed by number. -/

/-- The value filed under `k`. -/
def assocGet {α : Type} (l : List (Nat × α)) (k : Nat) : Option α :=
  (l.find? (·.1 == k)).map (·.2)

/-- File `v` under `k`. -/
def assocPut {α : Type} (l : List (Nat × α)) (k : Nat) (v : α) : List (Nat × α) :=
  match l with
  | [] => [(k, v)]
  | (j, x) :: r => if j = k then (k, v) :: r else if k < j then (k, v) :: (j, x) :: r else (j, x) :: assocPut r k v

/-- Remove what is filed under `k`. -/
def assocDel {α : Type} (l : List (Nat × α)) (k : Nat) : List (Nat × α) := l.filter (·.1 != k)

/-- A member put into a rising list of numbers. -/
def insertNat (l : List Nat) (k : Nat) : List Nat :=
  match l with
  | [] => [k]
  | j :: r => if j = k then j :: r else if k < j then k :: j :: r else j :: insertNat r k

/-- The `n` last elements of a list. -/
def lastN {α : Type} (l : List α) (n : Nat) : List α := l.drop (l.length - n)

/-- The sum of a list of numbers. -/
def sumNat (l : List Nat) : Nat := l.foldl (· + ·) 0

/-- `a` comes before `b` in the lexicographic order of lists of numbers. -/
def keyLt : List Nat → List Nat → Bool
  | [], [] => false
  | [], _ :: _ => true
  | _ :: _, [] => false
  | a :: r, b :: q => a < b || (a == b && keyLt r q)

/-- Bit `i` of a bit vector set to `b`. -/
def bitPut {n : Nat} (v : BitVec n) (i : Nat) (b : Bool) : BitVec n :=
  if b then v ||| (1#n <<< i) else v &&& ~~~(1#n <<< i)

/-- A field of `w` bits of a word replaced at `lo`. -/
def setField (x : W) (lo w v : Nat) : W :=
  (x &&& ~~~(nw ((2 ^ w - 1) <<< lo))) ||| nw ((v % 2 ^ w) <<< lo)

/-- A 16-bit measurement, sign-extended. -/
def sx16 (b : BitVec 16) : Int := b.toInt

/-! Time. -/

/-- The full tick count: TS / 50 (R23). -/
def State.now (s : State) : Nat := s.clk.ts.toNat / 50

/-- TC modulo `n` (R22): the phase of the tick in epochs (2,000) and join cycles (200). -/
def State.tcMod (s : State) (n : Nat) : Nat := s.clk.tc.toNat % n

/-- The first tick at least `d` ticks ahead at which TC modulo `n` is 0 (R22): TC wraps at 2^48. -/
def State.nextTc (s : State) (n d : Nat) : Nat :=
  let c := (s.clk.tc.toNat + d) % 2 ^ 48
  if c % n = 0 then s.now + d else s.now + d + min (n - c % n) (2 ^ 48 - c)

/-- The number of the running epoch (R22): its first tick divided by 2,000. -/
def State.epoch (s : State) : Nat := (s.now - s.tcMod 2000) / 2000

/-- The bits TC[31:0] of a full tick. -/
def tc32 (t : Nat) : W := nw t

/-- The full tick at or after `now` whose TC[31:0] equals `w`; used where a word names a tick. -/
def tickOf32 (now : Nat) (w : W) : Nat := now + (w - tc32 now).toNat

/-- The full tick nearest to `now` whose TC equals `c` (48 bits). -/
def tickOf48 (now : Nat) (c : BitVec 48) : Nat :=
  let d := c - BitVec.ofNat 48 now
  if d.msb then now - (-d).toNat else now + d.toNat

/-- A free value from the model's counter, and the state with the counter advanced (log entry 7). -/
def State.draw (s : State) (lo hi : Nat) : Nat × State :=
  (Config.draw s.fresh lo hi, { s with fresh := s.fresh + 1 })

/-! One element of a group of units changed. -/

/-- Channel `n`; `Chan.init` past the last. -/
def State.ch (s : State) (n : Nat) : Chan := vat s.chan n Chan.init
/-- Context `c`. -/
def State.cx (s : State) (c : Nat) : Context := vat s.ctx c Context.init
/-- Link `l`. -/
def State.lk (s : State) (l : Nat) : Link := vat s.link l Link.init
/-- Change channel `n`. -/
def State.modCh (s : State) (n : Nat) (f : Chan → Chan) : State := { s with chan := vmod s.chan n f }
/-- Change context `c`. -/
def State.modCx (s : State) (c : Nat) (f : Context → Context) : State := { s with ctx := vmod s.ctx c f }
/-- Change link `l`. -/
def State.modLk (s : State) (l : Nat) (f : Link → Link) : State := { s with link := vmod s.link l f }
/-- Change the running release of context `c`. -/
def State.modRel (s : State) (c : Nat) (f : Rel → Rel) : State :=
  s.modCx c fun x => { x with rel := x.rel.map f }
/-- Change tie port `p`. -/
def State.modTp (s : State) (p : Nat) (f : Tpc → Tpc) : State := { s with tpc := vmod s.tpc p f }
/-- Change two-wire port `p`. -/
def State.modTw (s : State) (p : Nat) (f : Twp → Twp) : State := { s with twp := vmod s.twp p f }
/-- Change ledger `k`. -/
def State.modLg (s : State) (k : Nat) (f : Ledger → Ledger) : State := { s with clg := vmod s.clg k f }
/-- Change the thermal model of channel `n`. -/
def State.modTh (s : State) (n : Nat) (f : Therm → Therm) : State :=
  { s with tmu := { s.tmu with ch := vmod s.tmu.ch n f } }

/-- Engine numbers of placements: 0..47 LE, 0x40 + n SE, 0x48 + n UE (R134, Table 6.12). -/
def engOf : Eng → Nat
  | .le k => k.val
  | .se k => 0x40 + k.val
  | .ue k => 0x48 + k.val

/-- The index of an engine in `State.eng` (R477). -/
def engIdx (e : Nat) : Nat := if e < 48 then e else if e < 0x48 then 48 + (e - 0x40) else 52 + (e - 0x48)

/-- The engine that owns a context (R35). -/
def engOfCtx (c : Nat) : Nat :=
  if c < 384 then c / 8 else if c < 448 then 0x40 + (c - 384) / 16 else 0x48 + (c - 448) / 16

/-- The first context of an engine and how many it has (R35). -/
def ctxBase (e : Nat) : Nat × Nat :=
  if e < 48 then (8 * e, 8) else if e < 0x48 then (384 + 16 * (e - 0x40), 16) else (448 + 16 * (e - 0x48), 16)

/-- The engine record of engine `e`. -/
def State.engine (s : State) (e : Nat) : Engine :=
  if e < 48 then vat s.le e Engine.init else if e < 0x48 then vat s.se (e - 0x40) Engine.init
  else vat s.ue (e - 0x48) Engine.init

/-- Change engine `e`. -/
def State.modEng (s : State) (e : Nat) (f : Engine → Engine) : State :=
  if e < 48 then { s with le := vmod s.le e f } else if e < 0x48 then { s with se := vmod s.se (e - 0x40) f }
  else { s with ue := vmod s.ue (e - 0x48) f }

/-- Change the engine status of engine `e`. -/
def State.modStat (s : State) (e : Nat) (f : EngStat → EngStat) : State :=
  { s with eng := vmod s.eng (engIdx e) f }

/-- The link of a channel (R2). -/
def linkOf (n : Nat) : Nat := n / 3
/-- The slot of a channel in its link (R2). -/
def slotOf (n : Nat) : Nat := n % 3

/-- Insertion into a list that `le` orders. -/
def insBy {α : Type} (le : α → α → Bool) (x : α) : List α → List α
  | [] => [x]
  | y :: r => if le x y then x :: y :: r else y :: insBy le x r

/-- Insertion sort. -/
def sortBy {α : Type} (le : α → α → Bool) (l : List α) : List α := l.foldr (insBy le) []

end Sys2Proof.Machine
end

