-- ==== Sys2Proof/Machine/Float.lean ====
section
/-!
DEFINITION. binary32 arithmetic of R43: exact values, one rounding to nearest with ties to even, subnormal inputs read as
zero, results below 2^-126 after rounding flushed to zero, every NaN the quiet NaN. The transcendental services of Table
3.10 are rounded from fixed-point values of 96 bits or more (log entry 12).
-/
namespace Sys2Proof.Machine

/-- The value of a binary32 word: a NaN, an infinity, or (-1)^neg × m × 2^e. -/
inductive FV where
  | nan
  | inf (neg : Bool)
  | fin (neg : Bool) (m : Nat) (e : Int)
deriving DecidableEq, Repr

/-- The quiet NaN (R43). -/
def qnan : W := 0x7FC00000

/-- Read a word; a subnormal is zero of its sign (R43). -/
def f32 (w : W) : FV :=
  let neg := w.bit 31
  let ex := w.bits 30 23
  let fr := w.bits 22 0
  if ex = 255 then (if fr = 0 then .inf neg else .nan)
  else if ex = 0 then .fin neg 0 0
  else .fin neg (2 ^ 23 + fr) ((ex : Int) - 150)

/-- The word of a zero or an infinity. -/
def fZero (neg : Bool) : W := if neg then 0x80000000 else 0
/-- The word of an infinity. -/
def fInf (neg : Bool) : W := if neg then 0xFF800000 else 0x7F800000

/-- Round (m + a part below 1 when `st`) × 2^e to a word (R43); with `st`, m has at least 26 bits. -/
def fRound (neg : Bool) (m : Nat) (e : Int) (st : Bool) : W :=
  if m = 0 then fZero neg
  else
    let l := m.log2
    let sh := l - 23
    let q := if l < 23 then m <<< (23 - l) else m >>> sh
    let r := m % 2 ^ sh
    let half := 2 ^ sh / 2
    let up := sh != 0 && (half < r || (r == half && (st || q % 2 == 1)))
    let q1 := if up then q + 1 else q
    let ex : Int := e + (l : Int) + (if q1 = 2 ^ 24 then 1 else 0)
    if ex > 127 then fInf neg
    else if ex < -126 then fZero neg
    else (if neg then 0x80000000 else 0) ||| nw ((ex + 127).toNat * 2 ^ 23 + (if q1 = 2 ^ 24 then 0 else q1 - 2 ^ 23))

/-- An exact integer × 2^e as a word; `z` is the sign of a zero. -/
def fOfInt (x : Int) (e : Int) (z : Bool) : W :=
  if x = 0 then fZero z else fRound (x < 0) x.natAbs e false

/-- The signed integer n with value n × 2^e0 of a finite value, for e0 not above its exponent. -/
def fAlign (neg : Bool) (m : Nat) (e e0 : Int) : Int :=
  let x : Int := ((m <<< (e - e0).toNat : Nat) : Int)
  if neg then -x else x

/-- The sum of two values, rounded once. -/
def fvAdd : FV → FV → W
  | .nan, _ | _, .nan => qnan
  | .inf a, .inf b => if a = b then fInf a else qnan
  | .inf a, _ => fInf a
  | _, .inf b => fInf b
  | .fin na ma ea, .fin nb mb eb =>
    if ma = 0 ∧ mb = 0 then fZero (na && nb)
    else if ma = 0 then fRound nb mb eb false
    else if mb = 0 then fRound na ma ea false
    else
      let e0 := min ea eb
      fOfInt (fAlign na ma ea e0 + fAlign nb mb eb e0) e0 false

/-- The exact product of two values. -/
def fvMul : FV → FV → FV
  | .nan, _ | _, .nan => .nan
  | .inf a, .inf b => .inf (a != b)
  | .inf a, .fin b m _ => if m = 0 then .nan else .inf (a != b)
  | .fin a m _, .inf b => if m = 0 then .nan else .inf (a != b)
  | .fin a m e, .fin b n k => .fin (a != b) (m * n) (e + k)

/-- The word of an exact value, rounded once. -/
def fvWord : FV → W
  | .nan => qnan
  | .inf a => fInf a
  | .fin a m e => fRound a m e false

/-- The value with its sign inverted. -/
def fvNeg : FV → FV
  | .nan => .nan
  | .inf a => .inf (!a)
  | .fin a m e => .fin (!a) m e

/-- FADD (R72). -/
def fadd (a b : W) : W := fvAdd (f32 a) (f32 b)
/-- FSUB (R72). -/
def fsub (a b : W) : W := fvAdd (f32 a) (fvNeg (f32 b))
/-- FMUL (R72). -/
def fmul (a b : W) : W := fvWord (fvMul (f32 a) (f32 b))
/-- FMA: c + a × b, rounded once (R72). -/
def ffma (c a b : W) : W := fvAdd (f32 c) (fvMul (f32 a) (f32 b))
/-- NEG in F form: bit 31 inverted (R43). -/
def fneg (a : W) : W := a ^^^ 0x80000000
/-- ABS in F form: bit 31 cleared (R43). -/
def fabs (a : W) : W := a &&& 0x7FFFFFFF

/-- FDIV (R72). -/
def fdiv (a b : W) : W :=
  match f32 a, f32 b with
  | .nan, _ | _, .nan => qnan
  | .inf _, .inf _ => qnan
  | .inf x, .fin y _ _ => fInf (x != y)
  | .fin x _ _, .inf y => fZero (x != y)
  | .fin x m e, .fin y n k =>
    if n = 0 then (if m = 0 then qnan else fInf (x != y))
    else if m = 0 then fZero (x != y)
    else
      let q := (m <<< 60) / n
      fRound (x != y) q (e - k - 60) ((m <<< 60) % n != 0)

/-- The integer square root of `n`, found bit by bit from bit `k` down. -/
def isqrtFrom : Nat → Nat → Nat → Nat
  | 0, n, acc => if (acc + 1) * (acc + 1) ≤ n then acc + 1 else acc
  | k + 1, n, acc =>
    let t := acc + 2 ^ (k + 1)
    isqrtFrom k n (if t * t ≤ n then t else acc)

/-- FSQRT (R72). -/
def fsqrt (a : W) : W :=
  match f32 a with
  | .nan => qnan
  | .inf neg => if neg then qnan else fInf false
  | .fin neg m e =>
    if m = 0 then fZero neg
    else if neg then qnan
    else
      let m1 := (if e % 2 = 0 then m else 2 * m) <<< 60
      let e1 := if e % 2 = 0 then e else e - 1
      let r := isqrtFrom 45 m1 0
      fRound false r (e1 / 2 - 30) (r * r != m1)

/-- The exact comparison of two values: none when unordered; +0 equals −0 (R69). -/
def fvCmp : FV → FV → Option Ordering
  | .nan, _ | _, .nan => none
  | .inf x, .inf y => some (if x = y then .eq else if x then .lt else .gt)
  | .inf x, .fin .. => some (if x then .lt else .gt)
  | .fin .., .inf y => some (if y then .gt else .lt)
  | .fin x m e, .fin y n k =>
    let e0 := if m = 0 then k else if n = 0 then e else min e k
    let u := if m = 0 then 0 else fAlign x m e e0
    let v := if n = 0 then 0 else fAlign y n k e0
    some (compare u v)

/-- The exact comparison of two words (R69). -/
def fcmp (a b : W) : Option Ordering := fvCmp (f32 a) (f32 b)

/-- a < b; false when unordered. -/
def flt (a b : W) : Bool := fcmp a b == some .lt
/-- a ≤ b. -/
def fle (a b : W) : Bool := fcmp a b == some .lt || fcmp a b == some .eq
/-- a > b. -/
def fgt (a b : W) : Bool := fcmp a b == some .gt
/-- a ≥ b. -/
def fge (a b : W) : Bool := fcmp a b == some .gt || fcmp a b == some .eq
/-- Equal in value. -/
def feq (a b : W) : Bool := fcmp a b == some .eq
/-- A word is a NaN. -/
def isNan (a : W) : Bool := f32 a == .nan
/-- A word is finite. -/
def isFin (a : W) : Bool := a.bits 30 23 != 255

/-- A subnormal operand passed through reads as zero of its sign (R43). -/
def fflush (a : W) : W := if a.bits 30 23 = 0 then a &&& 0x80000000 else a

/-- MIN in F form (R70): a NaN yields the other operand; of the two zeros, −0; equal words return that word. -/
def fmin (a b : W) : W :=
  match fcmp a b with
  | some .lt => fflush a
  | some .gt => fflush b
  | some .eq => if a = b then a else if fflush a = fflush b then fflush a else 0x80000000
  | none => if isNan a then (if isNan b then qnan else fflush b) else fflush a

/-- MAX in F form (R70): a NaN yields the other operand; of the two zeros, +0; equal words return that word. -/
def fmax (a b : W) : W :=
  match fcmp a b with
  | some .lt => fflush b
  | some .gt => fflush a
  | some .eq => if a = b then a else if fflush a = fflush b then fflush a else 0
  | none => if isNan a then (if isNan b then qnan else fflush b) else fflush a

/-- The exact sum of two values. -/
def fvSum : FV → FV → FV
  | .nan, _ | _, .nan => .nan
  | .inf a, .inf b => if a = b then .inf a else .nan
  | .inf a, _ => .inf a
  | _, .inf b => .inf b
  | .fin na ma ea, .fin nb mb eb =>
    if ma = 0 then (if mb = 0 then .fin (na && nb) 0 0 else .fin nb mb eb)
    else if mb = 0 then .fin na ma ea
    else
      let e0 := min ea eb
      let x := fAlign na ma ea e0 + fAlign nb mb eb e0
      .fin (x < 0) x.natAbs e0

/-- The magnitude of a value. -/
def fvAbs : FV → FV
  | .nan => .nan
  | .inf _ => .inf false
  | .fin _ m e => .fin false m e

/-- x clipped to lo .. hi by MIN and MAX. -/
def fclip (x lo hi : W) : W := fmin (fmax x lo) hi

/-- CVTF: x × 2^-k (R72). -/
def cvtf (x : Int) (k : Nat) : W := fOfInt x (-(k : Int)) false

/-- An integer as binary32. -/
def fnat (n : Nat) : W := cvtf n 0

/-- m × 2^e rounded to an integer, nearest with ties to even. -/
def rndInt (m : Nat) (e : Int) : Nat :=
  if 0 ≤ e then m <<< e.toNat
  else
    let k := (-e).toNat
    let q := m >>> k
    let r := m % 2 ^ k
    if 2 ^ k < 2 * r || (2 * r == 2 ^ k && q % 2 == 1) then q + 1 else q

/-- CVTI before the clip: x × 2^k to the nearest integer, none for a NaN; an infinity is beyond every clip. -/
def cvtiExact (a : W) (k : Nat) : Option Int :=
  match f32 a with
  | .nan => none
  | .inf neg => some (if neg then -(2 ^ 200) else 2 ^ 200)
  | .fin neg m e =>
    let n : Int := (rndInt m (e + k) : Nat)
    some (if neg then -n else n)

/-- CVTI: the value and C (R72). -/
def cvti (a : W) (k : Nat) : Int × Bool :=
  match cvtiExact a k with
  | none => (0, true)
  | some x => (sat32 x, sat32 x != x)

/-- floor of a finite word times 2^k, as an integer; 0 for others. -/
def ffloor (a : W) (k : Int) : Int :=
  match f32 a with
  | .fin neg m e =>
    let x : Int := if 0 ≤ e + k then ((m <<< (e + k).toNat : Nat) : Int) else 0
    if 0 ≤ e + k then (if neg then -x else x)
    else
      let d : Int := 2 ^ (-(e + k)).toNat
      (if neg then -(m : Int) else (m : Int)) / d
  | _ => 0

/-! Transcendental services (Table 3.10). -/

/-- ln 2 × 2^96. -/
def ln2Fix : Nat := 54916777467707473351141471128
/-- π × 2^128. -/
def piFix : Nat := 1069028584064966747859680373161870783300

/-- Horner form of Σ y^j / j! from term k up, with p fraction bits. -/
def expFix (p y : Nat) : Nat → Nat → Nat
  | 0, acc => acc
  | k + 1, acc => expFix p y k (2 ^ p + (y * acc / 2 ^ p) / (k + 1))

/-- EXP2 (R58). -/
def fexp2 (a : W) : W :=
  match f32 a with
  | .nan => qnan
  | .inf neg => if neg then 0 else fInf false
  | .fin neg m e =>
    if m = 0 then 0x3F800000
    else if e + 23 ≥ 8 then (if neg then 0 else fInf false)
    else
      let x : Int := if 0 ≤ e + 96 then ((m <<< (e + 96).toNat : Nat) : Int) else ((m >>> (-(e + 96)).toNat : Nat) : Int)
      let lost := e + 96 < 0 && m % 2 ^ (-(e + 96)).toNat != 0
      let xs : Int := if neg then (if lost then -x - 1 else -x) else x
      let n : Int := xs / (2 ^ 96 : Int)
      let f : Nat := (xs % (2 ^ 96 : Int)).toNat
      let y := f * ln2Fix / 2 ^ 96
      fRound false (expFix 96 y 40 (2 ^ 96)) (n - 96) (f != 0 || lost)

/-- `n` fraction bits of log2 of z / 2^p, for z from 2^p to below 2^(p+1). -/
def log2Bits (p : Nat) : Nat → Nat → Nat → Nat
  | 0, _, acc => acc
  | n + 1, z, acc =>
    let s := z * z / 2 ^ p
    if s ≥ 2 ^ (p + 1) then log2Bits p n (s / 2) (2 * acc + 1) else log2Bits p n s (2 * acc)

/-- LOG2 (R58): x at or below 0 gives the quiet NaN. -/
def flog2 (a : W) : W :=
  match f32 a with
  | .nan => qnan
  | .inf neg => if neg then qnan else fInf false
  | .fin neg m e =>
    if m = 0 || neg then qnan
    else
      let l := m.log2
      let ex : Int := e + l
      let z := m <<< (256 - l)
      if z = 2 ^ 256 then cvtf ex 0
      else
        let bits : Nat := log2Bits 256 96 z 0
      let t : Int := ex * (2 ^ 96 : Int) + (bits : Int)
        if t < 0 then fRound true (-(t + 1)).toNat (-96) true else fRound false t.toNat (-96) true

/-- Σ (-1)^j y^(2j) / (…): Horner form of the sine (odd = 1) or cosine (odd = 0) series in y², times 2^128. -/
def trigFix (y2 odd : Nat) : Nat → Int → Int
  | 0, acc => acc
  | k + 1, acc =>
    let j := k + 1
    let den : Nat := (2 * j - 1 + odd) * (2 * j + odd)
    trigFix y2 odd k ((2 ^ 128 : Int) - ((y2 : Int) * acc / (2 ^ 128 : Int)) / (den : Int))

/-- sin of a quarter's phase r of 2^30, as a word. -/
def sinQ (r : Nat) : W :=
  if r = 0 then 0
  else
    let y : Nat := r * piFix / 2 ^ 31
    let y2 : Nat := y * y / 2 ^ 128
    fRound false (((y : Int) * trigFix y2 1 24 (2 ^ 128) / (2 ^ 128 : Int)).toNat) (-128) true

/-- cos of a quarter's phase r of 2^30, as a word. -/
def cosQ (r : Nat) : W :=
  if r = 0 then 0x3F800000
  else
    let y : Nat := r * piFix / 2 ^ 31
    let y2 : Nat := y * y / 2 ^ 128
    fRound false ((trigFix y2 0 24 (2 ^ 128)).toNat) (-128) true

/-- SINCOS of a phase fraction (R58). -/
def fsincos (p : W) : W × W :=
  let r := p.bits 29 0
  let s := sinQ r
  let c := cosQ r
  match p.bits 31 30 with
  | 0 => (s, c)
  | 1 => (c, if s = 0 then 0 else fneg s)
  | 2 => (if s = 0 then 0 else fneg s, fneg c)
  | _ => (fneg c, s)

end Sys2Proof.Machine
end

