-- ==== Sys2Proof/Machine/Flags.lean ====
section
/-!
DEFINITION. What the instructions of the L and U profiles compute: results and the flags that follow them (R66 to R76,
Tables 4.2 to 4.6).
-/
namespace Sys2Proof.Machine

/-- A result with the flags it sets: Z and N from its 32 bits when `zn`, C and S when given (R68). -/
structure Res where
  v : W
  zn : Bool
  c : Option Bool
  s : Option Bool
deriving DecidableEq, Repr

/-- A result that sets no flag. -/
def resPlain (v : W) : Res := ⟨v, false, none, none⟩

/-- A result that sets Z and N. -/
def resZN (v : W) : Res := ⟨v, true, none, none⟩

/-- A result that sets Z, N and C. -/
def resC (v : W) (c : Bool) : Res := ⟨v, true, some c, none⟩

/-- An exact result clipped by sat32, C telling that it clipped. -/
def resSat (x : Int) : Res := resC (iw (sat32 x)) (sat32 x != x)

/-- ADD (R70). -/
def resAdd (sat : Bool) (a b : W) : Res :=
  if sat then resSat (a.toInt + b.toInt) else resC (a + b) (a.toNat + b.toNat ≥ 2 ^ 32)

/-- SUB (R70). -/
def resSub (sat : Bool) (a b : W) : Res :=
  if sat then resSat (a.toInt - b.toInt) else resC (a - b) (a.toNat ≥ b.toNat)

/-- The rounding term of MUL and MRD (R70). -/
def rndTerm (rnd : Bool) (k : Nat) : Int := if rnd && k > 0 then 2 ^ (k - 1) else 0

/-- MUL (R70). -/
def resMul (rnd : Bool) (k : Nat) (a b : W) : Res := resSat (Sys2Proof.asr (a.toInt * b.toInt + rndTerm rnd k) k)

/-- NEG (R70). -/
def resNeg (f : Bool) (a : W) : Res := if f then resPlain (fneg a) else resSat (-a.toInt)

/-- ABS (R70). -/
def resAbs (f : Bool) (a : W) : Res := if f then resPlain (fabs a) else resSat a.toInt.natAbs

/-- MIN (R70). -/
def resMin (f : Bool) (a b : W) : Res :=
  if f then resPlain (fmin a b) else resZN (if a.toInt ≤ b.toInt then a else b)

/-- MAX (R70). -/
def resMax (f : Bool) (a b : W) : Res :=
  if f then resPlain (fmax a b) else resZN (if a.toInt ≤ b.toInt then b else a)

/-- SHL (R70). -/
def resShl (sat : Bool) (a : W) (k : Nat) : Res :=
  if sat then resSat (a.toInt * (2 ^ k : Int)) else resC (a <<< k) (k != 0 && a.getLsbD (32 - k))

/-- ASR (R70). -/
def resAsr (a : W) (k : Nat) : Res := resC (iw (Sys2Proof.asr a.toInt k)) (k != 0 && a.getLsbD (k - 1))

/-- LSR (R70). -/
def resLsr (a : W) (k : Nat) : Res := resC (a >>> k) (k != 0 && a.getLsbD (k - 1))

/-- MRD of an accumulator (R71). -/
def resMrd (rnd : Bool) (k : Nat) (m : Acc) : Res := resSat (Sys2Proof.asr (m.toInt + rndTerm rnd k) k)

/-- MAC and MSU (R71): the accumulator after the product. -/
def accMac (sub : Bool) (m : Acc) (a b : W) : Acc :=
  let p := BitVec.ofInt 72 (a.toInt * b.toInt)
  if sub then m - p else m + p

/-- MLD (R71). -/
def accLoad (a : W) (k : Nat) : Acc := BitVec.ofInt 72 (a.toInt * (2 ^ k : Int))

/-- CVTI (R72): C alone is set. -/
def resCvti (a : W) (k : Nat) : Res := let r := cvti a k; ⟨iw r.1, false, some r.2, none⟩

/-- SAT to width `w` (R74). -/
def resSatW (a : W) (w : Nat) : Res :=
  let lo : Int := -(2 ^ (w - 1) : Int)
  let hi : Int := (2 ^ (w - 1) : Int) - 1
  let r := min (max a.toInt lo) hi
  ⟨iw r, true, none, some (r != a.toInt)⟩

/-- CLAMP (R74). -/
def resClamp (f : Bool) (a lo hi : W) : Res :=
  if f then
    (if isNan a then ⟨lo, false, none, some true⟩
     else let r := fmin (fmax a lo) hi; ⟨r, false, none, some (fcmp r a != some .eq)⟩)
  else
    let r := min (max a.toInt lo.toInt) hi.toInt
    ⟨iw r, true, none, some (r != a.toInt)⟩

/-- INTG (R75). -/
def resIntg (f s : Bool) (k : Nat) (d a b : W) : Res :=
  if f then resPlain (if s then d else ffma d a b)
  else if s then resC d false
  else resSat (d.toInt + Sys2Proof.asr (a.toInt * b.toInt) k)

/-- DIFF (R76). -/
def resDiff (f : Bool) (a b : W) : Res := if f then resPlain (fsub a b) else resSat (a.toInt - b.toInt)

/-- FILT1 (R76). -/
def resFilt1 (f : Bool) (d a b : W) : Res :=
  if f then resPlain (ffma d (fsub a d) b)
  else resZN (iw (sat32 (d.toInt + Sys2Proof.asr ((a.toInt - d.toInt) * b.toInt) 31)))

/-- LIM (R76). In F form a subnormal v[a] that is inside the limits comes back as its own word (log entry 63). -/
def resLim (f : Bool) (d a b : W) : Res :=
  if f then
    let r := fmax b 0
    let e := fvSum (f32 a) (fvNeg (f32 d))
    if isNan a || isNan d || e == .nan then ⟨d, false, some true, none⟩
    else if fvCmp e (f32 r) == some .gt then ⟨fadd d r, false, some true, none⟩
    else if fvCmp e (fvNeg (f32 r)) == some .lt then ⟨fsub d r, false, some true, none⟩
    else ⟨a, false, some false, none⟩
  else
    let r := max b.toInt 0
    let e := a.toInt - d.toInt
    if e > r then ⟨iw (d.toInt + r), false, some true, none⟩
    else if e < -r then ⟨iw (d.toInt - r), false, some true, none⟩
    else ⟨a, false, some false, none⟩

/-- RPT's update of an entry (R77). -/
def rptUpdate (entry a gain forget : W) : W :=
  iw (sat32 (Sys2Proof.asr (entry.toInt * forget.toInt) 31 + Sys2Proof.asr (a.toInt * gain.toInt) 31))

/-- The bound of PLAUS is exceeded (R78); `w` is the widening that applies. -/
def plausBad (f : Bool) (w : Nat) (a b bound : W) : Bool :=
  if f then
    let e := fvAbs (fvSum (f32 a) (fvNeg (f32 b)))
    e == .nan || fvCmp e (f32 (fmul bound (cvtf (2 ^ w : Nat) 0))) == some .gt
  else ((a.toInt - b.toInt).natAbs : Int) > sat32 (bound.toInt * (2 ^ w : Int))

/-- Z, N and C of CMP (R69). -/
def cmpFlags (a b : W) : Bool × Bool × Bool := (a == b, a.toInt < b.toInt, a.toNat ≥ b.toNat)

/-- −1, 0 or +1: CMP in S (R168). -/
def cmpSign (a b : W) : W := if a.toInt < b.toInt then -1 else if a = b then 0 else 1

/-- Z, N and C of FCMP (R69). -/
def fcmpFlags (a b : W) : Bool × Bool × Bool :=
  match fcmp a b with
  | none => (false, true, true)
  | some .lt => (false, true, false)
  | some .eq => (true, false, false)
  | some .gt => (false, false, false)

/-- The median of five signed values (R58). -/
def median5 (l : List W) : W :=
  let le := fun (a b : W) => a.toInt ≤ b.toInt
  let srt := l.foldr (fun x acc => (acc.takeWhile fun y => le y x) ++ x :: acc.dropWhile fun y => le y x) []
  lat srt 2 0

end Sys2Proof.Machine
end

