-- ==== Sys2Proof/Machine/Plan.lean ====
section
/-!
DEFINITION. Placement: the tick simulation (R136), the tests of a loop engine (R138), the nominal placement (R137, R140,
R141), fallback plans and relays (R146 to R152), and how a failed test is reported (R481, R482).
-/
namespace Sys2Proof.Machine

/-- What placement needs of a task. -/
structure PT where
  num : Nat
  prof : Profile
  /-- 6 + W, or 6 + step bound. -/
  cost : Nat
  p : Nat
  d : Nat
  /-- The code section: its kind, the image or library that brought it, its place and length. -/
  code : List Nat
  cw : Nat
  dw : Nat
  elig : Bool
  pin : Bool
  pinPhase : Nat
  pinEngine : Nat
  /-- The sample phase is even (R196). -/
  even : Bool
deriving DecidableEq, Repr

/-- Words of a declared table (Table 6.4). -/
def tableLen (lg : Nat) : Nat := if lg = 0 then 0 else 2 ^ lg

/-- Relay-eligible (R149). -/
def relayEligible (t : Task) : Bool :=
  t.profile == .l && (t.lib.isSome ||
    (t.t0Log2 == 0 && t.t1Log2 == 0 && t.localLen ≤ 23 && (List.range t.localLen).all fun a => t.mirror.contains a))

/-- A task as placement sees it. Two descriptors of one image with one CODE offset and length share a section (R124); the sections of
two images are distinct (R154). -/
def ptOf (t : Task) : PT where
  num := t.num
  prof := t.profile
  cost := 6 + t.w
  p := t.period
  d := t.deadline
  code := match t.lib with
    | some (i, _, _) => [1, i]
    | none => [0, t.codeImg.toNat, t.codeRef, t.code.length]
  cw := match t.lib with
    | some (i, _, _) => Config.libWords i
    | none => t.code.length
  dw := t.localLen + tableLen t.t0Log2 + tableLen t.t1Log2
  elig := relayEligible t
  pin := t.pin
  pinPhase := t.pinPhase
  pinEngine := t.pinEngine
  even := false

/-! The simulation of R136. -/

/-- A failed test (R138, R481, Table 6.12): its place in the order of R138, the resource code, need, available, shortfall and
task. -/
structure TestFail where
  idx : Nat
  res : Nat
  req : Nat
  av : Nat
  short : Nat
  task : Nat
deriving DecidableEq, Repr

/-- A simulation as it stands: busy, the first late release, the task whose end set busy, the carries into epochs 2 and 3. -/
structure Sim where
  busy : Nat
  late : Option TestFail
  last : Nat
  carry2 : Nat
  carry3 : Nat
deriving DecidableEq, Repr

/-- Releases of one tick in dispatch order (R135): ascending deadline, then ascending task number. -/
def dispatchOrder (rs : List (PT × Nat)) : List (PT × Nat) :=
  sortBy (fun a b => a.1.d < b.1.d || (a.1.d == b.1.d && a.1.num ≤ b.1.num)) rs

/-- A resident with sample phase `f` is released at tick `r` (R134). -/
def dueAt (x : PT) (f r : Nat) : Bool := r % x.p == (f + 1) % x.p

/-- One release (R136). -/
def simOne (r : Nat) (st : Sim) (x : PT × Nat) : Sim :=
  if dueAt x.1 x.2 r then
    let start := max (600 * r) st.busy
    let b := start + x.1.cost
    let lim := 600 * (r + x.1.d)
    { st with busy := b, last := x.1.num
              late := if st.late.isNone && 2000 ≤ r && r < 4000 && b > lim
                then some ⟨4, 0x02, b - 600 * r, 600 * x.1.d, b - lim, x.1.num⟩ else st.late }
  else st

/-- Ticks `r`, `r + 1`, … of the simulation. -/
def simTicks (rs : List (PT × Nat)) : Nat → Nat → Sim → Sim
  | 0, _, st => st
  | n + 1, r, st =>
    let st := if r = 2000 then { st with carry2 := st.busy - 1200000 } else st
    simTicks rs n (r + 1) (rs.foldl (simOne r) st)

/-- R136 over the residents of an engine. -/
def simulate (rs : List (PT × Nat)) : Sim :=
  let st := simTicks (dispatchOrder rs) 4000 0 ⟨0, none, 0, 0, 0⟩
  { st with carry3 := st.busy - 2400000 }

/-- The failure of R136, if any (R481). -/
def simFail (rs : List (PT × Nat)) : Option TestFail :=
  let st := simulate rs
  match st.late with
  | some f => some f
  | none => if st.carry3 > st.carry2 then some ⟨4, 0x02, st.carry3, st.carry2, st.carry3 - st.carry2, st.last⟩ else none

/-! The tests of R138. -/

/-- Words of the distinct code sections of tasks (R124, R138). -/
def codeWords (l : List PT) : Nat :=
  (l.foldl (fun (acc : List (List Nat) × Nat) x =>
    if acc.1.contains x.code then acc else (x.code :: acc.1, acc.2 + x.cw)) ([], 0)).2

/-- Cycles per epoch of a loop task (R137). -/
def epochCost (x : PT) : Nat := x.cost * 2000 / x.p

/-- A test of R138 or R141: a need above the capacity, of which `held` is taken already (R153, Table 6.12). -/
def needTest (i r need held av task : Nat) : List TestFail :=
  if need > av then [⟨i, r, need - held, av - held, need - av, task⟩] else []

/-- Cycles per epoch that an engine of fewer than 64 releases spends on its control-logic self-test (R389). -/
def selfTest (ts : List PT) : Nat := if sumNat (ts.map fun x => 2000 / x.p) < 64 then 384 else 0

/-- Every test of R138 that a loop engine with these residents fails, in order; the first of them is the task being placed, and
`extra` contexts are kept for a relay. -/
def engFails (rs : List (PT × Nat)) (extra task : Nat) : List TestFail :=
  let ts := rs.map (·.1)
  let old := ts.tail
  needTest 0 0x03 (rs.length + extra) (old.length + extra) 8 task ++ needTest 1 0x04 (codeWords ts) (codeWords old) 4096 task ++
  needTest 2 0x05 (sumNat (ts.map (·.dw))) (sumNat (old.map (·.dw))) 17920 task ++
  needTest 3 0x01 (sumNat (ts.map epochCost) + selfTest ts) (sumNat (old.map epochCost) + selfTest old) 1200000 task ++
  (simFail rs).toList

/-- The residents of an engine in a placement, relays left out. -/
def residents (pts : List PT) (pl : List Place) (e : Nat) : List (PT × Nat) :=
  (pl.filter fun p => p.eng == e && !p.relay).filterMap fun p => (pts.find? (·.num == p.task)).map fun x => (x, p.phase)

/-- The lowest free context index of an engine, among its first `n`. -/
def freeCtx (pl : List Place) (e : Nat) : Option Nat :=
  let (b, n) := ctxBase e
  ((List.range n).map (b + ·)).find? fun c => pl.all fun p => p.ctx != c

/-- The largest total cost in any release tick of a candidate phase (R137 step 4). -/
def phaseLoad (rs : List (PT × Nat)) (p f : Nat) : Nat :=
  (List.range (2000 / p)).foldl (fun m k =>
    let r := f + 1 + k * p
    max m (sumNat (rs.map fun x => if dueAt x.1 x.2 r then x.1.cost else 0))) 0

/-- Candidate phases in the order of R137 step 4. -/
def phaseOrder (rs : List (PT × Nat)) (p : Nat) : List Nat :=
  ((sortBy (fun (a b : Nat × Nat) => a.1 < b.1 || (a.1 == b.1 && a.2 ≤ b.2))
    ((List.range p).map fun f => (phaseLoad rs p f, f))).map (·.2))

/-- A refusal of placement: the code of Table 6.10, the failed test and the engine (R482). -/
structure PlaceFail where
  code : Nat
  fail : TestFail
  eng : Nat
  task : Nat
deriving DecidableEq, Repr

/-- The better of two candidates of R482: the later test in the order, then the smaller shortfall, then the lower engine. -/
def rank482 (a b : TestFail × Nat) : Bool :=
  a.1.idx > b.1.idx || (a.1.idx == b.1.idx && (a.1.short < b.1.short || (a.1.short == b.1.short && a.2 ≤ b.2)))

/-- The refusal of a task that no engine took (R137, R482), from the failing tests of every engine and phase tried. Under `mem` it is
ADM_MEM when some engine fails memory tests alone, and those engines are the candidates; else every engine tried is one. A failed
simulation names the task that it found (R481). -/
def placeRefuse (mem : Bool) (task : Nat) (tried : List (Nat × List TestFail)) : PlaceFail :=
  let failed := tried.filter fun x => !x.2.isEmpty
  let memOnly := if mem then failed.filter fun x => x.2.all fun f => f.idx == 1 || f.idx == 2 else []
  let cands := if memOnly.isEmpty then failed else memOnly
  let firsts := cands.filterMap fun x => x.2.head?.map fun f => (f, x.1)
  let best := (sortBy rank482 firsts).head?.getD (⟨0, 0, 0, 0, 0, task⟩, 0xFF)
  ⟨if memOnly.isEmpty then 0x04 else 0x0A, best.1, best.2, best.1.task⟩

/-- Contexts that each engine of a placement keeps for relays (R138, R148). -/
def relayKeep (pl : List Place) : Nat := if pl.any (·.relay) then 1 else 0

/-- The tests of R138 that loop task `x` fails on engine `e` at phase `f`, around a placement. -/
def failsOn (pts : List PT) (pl : List Place) (x : PT) (e f : Nat) : List TestFail :=
  engFails ((x, f) :: residents pts pl e) (relayKeep pl) x.num

/-- Place one loop task on the engines given, over the phases given for each (R137). -/
def placeL (mem : Bool) (pts : List PT) (pl : List Place) (x : PT) (engs : List Nat) (phases : Nat → List Nat) :
    Except PlaceFail (List Place) :=
  match engs.findSome? fun e => ((phases e).find? fun f => (failsOn pts pl x e f).isEmpty).map fun f => (e, f) with
  | some (e, f) => .ok (pl ++ [⟨x.num, e, (freeCtx pl e).getD 0, f, false⟩])
  | none => .error (placeRefuse mem x.num (engs.flatMap fun e => (phases e).map fun f => (e, failsOn pts pl x e f)))

/-! Supervisory and sequencer engines (R140, R141). -/

/-- The period of a U task of 200 ticks is kept as 0 (Table 6.4). Load of a window of a supervisory engine. -/
def winLoad (pts : List PT) (pl : List Place) (e w : Nat) : Nat :=
  sumNat ((residents pts pl e).map fun x => if x.1.p = 0 || x.2 == w then x.1.cost else 0)

/-- Words of code and data on a sequencer or supervisory engine (R141). -/
def suWords (l : List PT) : Nat := codeWords l + sumNat (l.map (·.dw))

/-- Tests of a supervisory engine for a task in window `w` (R140, R141). -/
def uFails (pts : List PT) (pl : List Place) (x : PT) (e w : Nat) : List TestFail :=
  let ts := (residents pts pl e).map (·.1)
  let load := if x.p = 0 then (List.range 10).foldl (fun m w => max m (winLoad pts pl e w)) 0 else winLoad pts pl e w
  needTest 0 0x03 (ts.length + 1) ts.length 16 x.num ++ needTest 2 0x05 (suWords (x :: ts)) (suWords ts) 32768 x.num ++
  needTest 3 0x07 (load + x.cost) load 60000 x.num

/-- Tests of a sequencer engine (R141). -/
def sFails (pts : List PT) (pl : List Place) (x : PT) (e : Nat) : List TestFail :=
  let ts := (residents pts pl e).map (·.1)
  let load := sumNat (ts.map (·.cost))
  needTest 0 0x03 (ts.length + 1) ts.length 16 x.num ++ needTest 2 0x05 (suWords (x :: ts)) (suWords ts) 32768 x.num ++
  needTest 3 0x07 (load + x.cost) load 6000 x.num

/-- Windows of an engine, least-loaded first, ties ascending (R140); a task released in every window has window 0. -/
def windowOrder (pts : List PT) (pl : List Place) (x : PT) (e : Nat) : List Nat :=
  if x.p = 0 then [0]
  else (sortBy (fun (a b : Nat × Nat) => a.1 < b.1 || (a.1 == b.1 && a.2 ≤ b.2))
    ((List.range 10).map fun w => (winLoad pts pl e w, w))).map (·.2)

/-- Place one S or U task on the engines given. -/
def placeSU (mem : Bool) (pts : List PT) (pl : List Place) (x : PT) (engs : List Nat) (phases : Nat → List Nat) :
    Except PlaceFail (List Place) :=
  let try1 := fun (e f : Nat) => if x.prof = .u then uFails pts pl x e f else sFails pts pl x e
  match engs.findSome? fun e => ((phases e).find? fun f => (try1 e f).isEmpty).map fun f => (e, f) with
  | some (e, f) => .ok (pl ++ [⟨x.num, e, (freeCtx pl e).getD 0, f, false⟩])
  | none => .error (placeRefuse mem x.num (engs.flatMap fun e => (phases e).map fun f => (e, try1 e f)))

/-- The engines of a profile (R35, Table 6.12). -/
def engsOf : Profile → List Nat
  | .l => List.range 48
  | .s => (List.range 4).map (0x40 + ·)
  | .u => (List.range 4).map (0x48 + ·)

/-- Phases a task may take on an engine: any of its period, a window, or 0 for S. -/
def phasesOf (pts : List PT) (pl : List Place) (x : PT) (e : Nat) : List Nat :=
  match x.prof with
  | .l => (phaseOrder (residents pts pl e) x.p).filter fun f => !x.even || f % 2 == 0
  | .u => windowOrder pts pl x e
  | .s => [0]

/-- The phases that a pin leaves (R137 step 1, R196). -/
def pinPhases (x : PT) : List Nat :=
  [x.pinPhase].filter fun f => if x.prof = .l then f < x.p && (!x.even || f % 2 == 0) else f < 10

/-- Place one task on the engines given, keeping its pin (R137 step 1). A pin that fails is ADM_ENGINE_FULL, whose candidates are all
engines of the kind (R482). -/
def placeOne (pts : List PT) (avail : Nat → Bool) (x : PT) (pl : List Place) : Except PlaceFail (List Place) :=
  let engs := (engsOf x.prof).filter avail
  let ph := fun e => if x.pin && x.prof != .s then pinPhases x else phasesOf pts pl x e
  let put := fun (mem : Bool) (engs : List Nat) => if x.prof = .l then placeL mem pts pl x engs ph else placeSU mem pts pl x engs ph
  if x.pin then
    match put false (engs.filter fun e => (if e < 48 then e else e % 8) == x.pinEngine) with
    | .ok l => .ok l
    | .error _ => match put false engs with
      | .error f => .error f
      | .ok _ => .error ⟨0x04, ⟨0, 0, 0, 0, 0, x.num⟩, 0xFF, x.num⟩
  else put true engs

/-- The order of placement (R137): pinned tasks ascending by number, then by descending epoch cost, ties ascending. U and S
tasks follow the loop tasks, by descending 6 + W (R140; for S log entry 27). -/
def placeOrder (pts : List PT) : List PT :=
  let key := fun (x : PT) => if x.prof = .l then epochCost x else x.cost
  let kind := fun (x : PT) => if x.prof = .l then 0 else if x.prof = .u then 1 else 2
  sortBy (fun a b =>
    if kind a != kind b then kind a < kind b
    else if a.pin != b.pin then a.pin
    else if a.pin then a.num ≤ b.num
    else key a > key b || (key a == key b && a.num ≤ b.num)) pts

/-- Place every task of `todo` in turn around those already placed (R137, R154). -/
def placeAll (pts : List PT) (avail : Nat → Bool) : List PT → List Place → Except PlaceFail (List Place)
  | [], pl => .ok pl
  | x :: r, pl =>
    match placeOne pts avail x pl with
    | .ok pl1 => placeAll pts avail r pl1
    | .error f => .error f

/-! Fallback plans (R146 to R152). -/

/-- A survivor's busy cycle at the start of tick `r` of an epoch, from its steady carry. -/
def steadyBusy (rs : List (PT × Nat)) (carry r : Nat) : Nat :=
  (simTicks (dispatchOrder rs) r 0 ⟨carry, none, 0, 0, 0⟩).busy

/-- The result of the releases of some ticks: the first that is late (R481), and the busy cycle after them. -/
abbrev RunOut : Type := Option TestFail × Nat

/-- A release that ends at cycle `e` against the limit `av` cycles after the start of its tick `r` (R136, R481). -/
def lateBy (e r av task : Nat) : Option TestFail :=
  if e > 600 * r + av then some ⟨4, 0x02, e - 600 * r, av, e - 600 * r - av, task⟩ else none

/-- Ticks τ to τ + g of an engine with one relay release put first at τ (R150): the first condition that a release breaks. -/
def relayRun (rs : List (PT × Nat)) (x : PT) (t0 : Nat) : Nat → Nat → Nat → RunOut
  | 0, _, busy => (none, busy)
  | n + 1, r, busy =>
    let b0 := if r = t0 then max (600 * r) busy + x.cost else busy
    let f0 := if r = t0 then lateBy (b0 + 64) r (600 * x.p) x.num <|> lateBy b0 r (600 * x.d) x.num else none
    let st := rs.foldl (fun (a : RunOut) y =>
      if dueAt y.1 y.2 r then
        let e := max (600 * r) a.2 + y.1.cost
        (a.1 <|> lateBy e r (600 * y.1.d) y.1.num, e)
      else a) (f0, b0)
    if st.1.isNone then relayRun rs x t0 n (r + 1) st.2 else st

/-- R150 on one survivor: for every tick at which a relay release can fall, the first condition broken. -/
def relayFail (rs : List (PT × Nat)) (x : PT) (phase g : Nat) : Option TestFail :=
  let os := dispatchOrder rs
  let carry := (simulate rs).carry3
  (List.range (2000 / x.p)).findSome? fun k =>
    let t := (phase + 1) % x.p + k * x.p
    let b := steadyBusy rs carry t
    let (f, b1) := relayRun os x t g t b
    let b0 := (relayRun os { x with cost := 0 } t g t b).2
    let a := max b1 (600 * (t + g)) - 600 * (t + g)
    let c := max b0 (600 * (t + g)) - 600 * (t + g)
    f <|> (if a > c then some ⟨4, 0x02, a, c, a - c, x.num⟩ else none)

/-- The engines that survive, in ring order from the lowest (R149). -/
def survivors (gone : Nat → Bool) : List Nat := (List.range 48).filter fun e => !gone e

/-- The survivor next above an engine, wrapping (R115, R148). -/
def nextUp (gone : Nat → Bool) (e : Nat) : Nat :=
  ((List.range 48).map fun k => (e + 1 + k) % 48).find? (fun x => !gone x) |>.getD e

/-- Move the tasks of `lost` in order to the lowest-numbered survivors that take them at their own phases (R147): the places and the
tasks that no engine takes, with their refusals. -/
def moveAll (pts : List PT) (engs : List Nat) :
    List (PT × Nat) → List Place → List (PT × Nat × PlaceFail) → List Place × List (PT × Nat × PlaceFail)
  | [], pl, left => (pl, left)
  | (x, f) :: r, pl, left =>
    match placeL false pts pl x engs (fun _ => [f]) with
    | .ok pl1 => moveAll pts engs r pl1 left
    | .error e => moveAll pts engs r pl (left ++ [(x, f, e)])

/-- No context: where a relay stands until its plan is complete. -/
def noCtx : Nat := 512

/-- Convert residents to relays, one for each task that found no engine (R149). `k` counts the relays made; the freed slot receives the
task. Without an eligible resident the task's own refusal stands. -/
def convert (pts : List PT) (sv : List Nat) (gone : Nat → Bool) (total : Nat) (shape : Option (Nat × Nat)) :
    List (PT × Nat × PlaceFail) → Nat → List Place → Except PlaceFail (List Place)
  | [], _, pl => .ok pl
  | (x, f, why) :: r, k, pl =>
    let e := lat sv (k * sv.length / total) 0
    let cand := sortBy (fun (a b : PT × Nat) => a.1.num ≤ b.1.num) ((residents pts pl e).filter fun y =>
      y.1.elig && (match shape with
        | some (p, ph) => y.1.p == p && y.2 == ph
        | none => true))
    match cand.head? with
    | none => .error why
    | some (c, ph) =>
      let pl1 := pl.map fun q => if q.task == c.num then { q with eng := nextUp gone e, ctx := noCtx, relay := true } else q
      match placeL false pts pl1 x [e] (fun _ => [f]) with
      | .ok pl2 => convert pts sv gone total (some (c.p, ph)) r (k + 1) pl2
      | .error z => .error z

/-- The relay context of an engine: its lowest context that no resident of the plan has (R148). -/
def relayCtx (pl : List Place) (e : Nat) : Nat := (freeCtx (pl.filter fun q => !q.relay) e).getD (8 * e + 7)

/-- The smallest number of survivors from one relay to the next, from the engines that the relays stand on (R150); 0 where two share
one. -/
def relayGap (sv engs : List Nat) : Nat :=
  let n := sv.length
  let at' := sortBy (· ≤ ·) (engs.map fun e => (sv.findIdx? (· == e)).getD 0)
  (List.range at'.length).foldl (fun m k =>
    let a := lat at' k 0
    let b := if k + 1 < at'.length then lat at' (k + 1) 0 else n + lat at' 0 0
    min m (b - a)) n

/-- Two relays would need one relay context (R148, R150). -/
def relayClash (x : PT) : TestFail := ⟨0, 0x03, 2, 1, 1, x.num⟩

/-- The conditions of R150 on a plan whose relays are `rl`: the first that a survivor breaks, as R482 ranks them. -/
def relaysFail (pts : List PT) (sv : List Nat) (pl : List Place) (rl : List (PT × Place)) : Option PlaceFail :=
  let n := relayGap sv (rl.map (·.2.eng))
  let fails := sv.flatMap fun e =>
    let rs := residents pts pl e
    rl.flatMap fun y =>
      (if n = 0 then [(e, [relayClash y.1])] else []) ++
      [(e, engFails rs 1 y.1.num), (e, (relayFail rs y.1 y.2.phase (y.1.p * n)).toList)]
  if fails.all (·.2.isEmpty) then none else some (placeRefuse false 0xFFFF fails)

/-- The plan that starts from `base` and loses loop engine `a` (R146 to R150), or what it lacks. -/
def planLose (pts : List PT) (gone : Nat → Bool) (base : List Place) (a : Nat) : Except PlaceFail (List Place) :=
  let gone1 := fun e => e == a || gone e
  let sv := survivors gone1
  let lost := residents pts base a
  let order := (placeOrder (lost.map (·.1))).filterMap fun x => lost.find? (·.1.num == x.num)
  let keep := (base.filter fun q => q.eng != a || q.relay).map fun q =>
    if q.relay then { q with eng := if gone1 q.eng then nextUp gone1 q.eng else q.eng, ctx := noCtx } else q
  let shape := (keep.find? (·.relay)).bind fun q => (pts.find? (·.num == q.task)).map fun x => (x.p, q.phase)
  let (pl, left) := moveAll pts sv order keep []
  match convert pts sv gone1 left.length shape left 0 pl with
  | .error f => .error f
  | .ok pl1 =>
    let rl := (pl1.filter (·.relay)).filterMap fun q => (pts.find? (·.num == q.task)).map fun x => (x, q)
    if rl.isEmpty then .ok pl1
    else match relaysFail pts sv pl1 rl with
      | some f => .error f
      | none => .ok (pl1.map fun q => if q.relay then { q with ctx := relayCtx pl1 q.eng } else q)

/-- The plan for loop engines fenced in this order (R146). -/
def planFor (pts : List PT) (nominal : List Place) : List Nat → Except PlaceFail (List Place)
  | [] => .ok nominal
  | [a] => planLose pts (fun _ => false) nominal a
  | a :: b :: _ => (planLose pts (fun _ => false) nominal a).bind fun pl => planLose pts (fun e => e == a) pl b

/-- The plan for the loss of a sequencer or supervisory engine (R152). -/
def planSU (pts : List PT) (base : List Place) (e : Nat) : Except PlaceFail (List Place) :=
  let lost := (base.filter (·.eng == e)).filterMap fun q => (pts.find? (·.num == q.task)).map fun x => { x with pin := false }
  placeAll pts (fun x => x != e) (placeOrder lost) (base.filter (·.eng != e))

end Sys2Proof.Machine
end

