-- ==== Sys2Proof/Machine/Crc.lean ====
section
/-!
DEFINITION. The checksums of the manual: CRC-32C over bytes and words (images, banks, frames, blocks, records), and the
CRC-8 of two-wire packet error codes.
-/
namespace Sys2Proof.Machine

/-- One bit of the reflected CRC-32C division (polynomial 0x1EDC6F41). -/
def crc32cBit (c : W) : W := if c.getLsbD 0 then (c >>> 1) ^^^ 0x82F63B78 else c >>> 1

/-- `n` bits of the division. -/
def crc32cBits : Nat → W → W
  | 0, c => c
  | n + 1, c => crc32cBits n (crc32cBit c)

/-- One byte into the CRC register. -/
def crc32cByte (c : W) (b : Byte) : W := crc32cBits 8 (c ^^^ b.setWidth 32)

/-- CRC-32C of bytes. -/
def crc32c (bs : List Byte) : W := ~~~(bs.foldl crc32cByte 0xFFFFFFFF)

/-- CRC-32C of words in little-endian order. -/
def crc32cW (ws : List W) : W := crc32c (bytesOfWords ws)

/-- One bit of CRC-8 (polynomial 0x07). -/
def crc8Bit (c : Byte) : Byte := if c.getLsbD 7 then (c <<< 1) ^^^ 0x07 else c <<< 1

/-- `n` bits of CRC-8. -/
def crc8Bits : Nat → Byte → Byte
  | 0, c => c
  | n + 1, c => crc8Bits n (crc8Bit c)

/-- CRC-8 of bytes from an initial value. -/
def crc8From (init : Byte) (bs : List Byte) : Byte := bs.foldl (fun c b => crc8Bits 8 (c ^^^ b)) init

end Sys2Proof.Machine
end

