-- ==== Sys2Proof/Machine/Events.lean ====
section
/-!
DEFINITION. Event sources, their configuration, occurrences, coalescing, event records and MSI-X messages (R227 to R230,
R374 to R377). The reactions that an occurrence calls for are left in `fcr.todo`; `settle` applies them.
-/
namespace Sys2Proof.Machine

/-- KIND of a source: 0 CE and UC, 1 FE-only, 2 never raised (Table 18.1, Table 18.9). -/
def srcKind (n : Nat) : Nat :=
  if n ≥ 992 then 2
  else if n = 963 ∨ n = 966 ∨ (968 ≤ n ∧ n ≤ 970) ∨ (973 ≤ n ∧ n ≤ 979) ∨ n = 984 then 1
  else 0

/-- The source offers FENCE (Table 18.3). -/
def offersFence (n : Nat) : Bool := (768 ≤ n && n ≤ 815) || (864 ≤ n && n ≤ 871) || (880 ≤ n && n ≤ 951)
/-- The source offers SAFE (Table 18.3). -/
def offersSafe (n : Nat) : Bool := n ≤ 767 || (880 ≤ n && n ≤ 943)
/-- The source offers BRST (Table 18.3). -/
def offersBrst (n : Nat) : Bool := 952 ≤ n && n ≤ 991 && srcKind n != 1

/-- FCR_CFGs by default: Table 18.1's reaction to UC, KIND and SOURCE (Table 18.9). -/
def cfgDefault (n : Nat) : W :=
  flag (n == 953 || (955 ≤ n && n ≤ 958) || (986 ≤ n && n ≤ 988)) 23 |||
  flag (n == 990 || n == 991) 21 ||| flag (offersFence n) 20 ||| fld (srcKind n) 16 ||| fld n 0

/-- FCR_CFGs in force. -/
def cfgOf (s : State) (n : Nat) : W := (assocGet s.fcr.cfg n).getD (cfgDefault n)

/-- CLASS of a record (Table 9.7). -/
def clsCode : EvClass → Nat
  | .ce => 0
  | .uc => 1
  | .fe => 2

/-- Entries of EQ that are free, of 4,096 (R213). -/
def eqFree (s : State) : Nat := 4096 - s.kio.eq.used

/-- One MSI-X message on vector `v`, if it is armed and may be sent (R230). -/
def msixSend (v : Nat) (s : State) : State :=
  if v = 0 then
    (if s.kio.msixOn then { s with kio := { s.kio with msix := vmod s.kio.msix 0 (· + 1) } } else s)
  else if s.kio.armed.getLsbD v then
    let k := { s.kio with armed := bitPut s.kio.armed v false }
    if k.msixOn && !k.msixMask.getLsbD v then { s with kio := { k with msix := vmod k.msix v (· + 1) } }
    else { s with kio := { k with msixPend := bitPut k.msixPend v true } }
  else s

/-- The vector of a record (R230, Table 18.9). -/
def vectorOf (s : State) (src : Nat) (cls : EvClass) : Nat :=
  if cls = .fe then 0 else
    let v := (cfgOf s src).bits 31 26
    if v = 0 then 5 else v

/-- R334: the pending Host Notify of one port on a written record. -/
def notifyTw (s : State) (src : Nat) (cls : EvClass) (t : Twp) : Twp :=
  if t.cfg.bit 12 && t.cfg.bit 0 && clsCode cls ≥ t.cfg.bits 11 10 && s.clk.chip != .dormant then
    match t.notify with
    | none => { t with notify := some (fld (clsCode cls) 14 ||| fld src 0, 0, 0) }
    | some _ => { t with evt := bitPut t.evt 6 true }
  else t

/-- The words of an event record (Table 9.7). -/
def recordWords (s : State) (h : HeldRec) : List W :=
  let cnt := min h.count 65535
  [flag s.kio.eq.phase 31 ||| fld (clsCode h.cls) 29 ||| flag h.held 28 ||| flag (h.count > 65535) 27 ||| fld h.src 0,
   fld cnt 16 ||| h.code.setWidth 32, lo32 h.ts, hi32 h.ts, h.payload, fld h.ctx 16 ||| fld h.task 0,
   s.kio.evSeq, 0]

/-- Write one record at EQ's tail and send its message (R215, R217, R227, R230, R334). -/
def recordWrite (h : HeldRec) (s : State) : State :=
  let q := s.kio.eq
  let s1 := { s with
    host := Memory.writeWs s.host (q.base.toNat + 32 * q.tail) (recordWords s h)
    kio := { s.kio with
      eq := { q with tail := (q.tail + 1) % 4096, used := q.used + 1, phase := if q.tail = 4095 then !q.phase else q.phase }
      evSeq := s.kio.evSeq + 1 }
    twp := s.twp.map (notifyTw s h.src h.cls) }
  let s2 := msixSend (vectorOf s h.src h.cls) s1
  if h.cls != .fe && (cfgOf s h.src).bit 24 && h.cls == .uc then msixSend 0 s2 else s2

/-- A record of this class may be written now (R210, R229). -/
def mayWrite (s : State) (cls : EvClass) : Bool :=
  s.kio.isOpen && (if cls = .fe then eqFree s ≥ 1 else eqFree s > 64)

/-- Held records in order of first occurrence (R229). -/
def heldPut (h : HeldRec) : List HeldRec → List HeldRec
  | [] => [h]
  | x :: r => if h.ts < x.ts then h :: x :: r else x :: heldPut h r

/-- A source has a record held (R229). -/
def isHeld (s : State) (src : Nat) : Bool := s.fcr.held.any (·.src == src)

/-- A record is written, or held (R210, R229). -/
def record (h : HeldRec) (s : State) : State :=
  if mayWrite s h.cls then recordWrite h s
  else { s with fcr := { s.fcr with held := heldPut { h with held := s.kio.isOpen } s.fcr.held } }

/-- Held records are written in order while there is room; those that must wait longer for room carry HELD (R229). -/
def flushHeld : List HeldRec → List HeldRec → State → State
  | [], kept, s => { s with fcr := { s.fcr with held := kept } }
  | h :: r, kept, s =>
    if mayWrite s h.cls then flushHeld r kept (recordWrite h s)
    else flushHeld r (kept ++ [if s.kio.isOpen then { h with held := true } else h]) s

/-- Write what is held (R229). -/
def writeHeld (s : State) : State := flushHeld s.fcr.held [] s

/-- Ticks of the 100 µs window of R228. -/
def evWindow : Nat := 200

/-- The window of a source and class. -/
def winOf (s : State) (src : Nat) (cls : EvClass) : Option EvWin :=
  (s.fcr.win.find? fun x => x.1 == src && x.2.1 == cls).map (·.2.2)

/-- The windows with that of a source and class replaced, or removed. -/
def winPut (l : List (Nat × EvClass × EvWin)) (src : Nat) (cls : EvClass) (w : Option EvWin) :
    List (Nat × EvClass × EvWin) :=
  let r := l.filter fun x => !(x.1 == src && x.2.1 == cls)
  match w with
  | some x => r ++ [(src, cls, x)]
  | none => r

/-- The class an occurrence counts as: PROMOTE turns CE into UC (R377). -/
def promoted (s : State) (src : Nat) (cls : EvClass) : EvClass :=
  if cls = .ce && (cfgOf s src).bit 25 then .uc else cls

/-- One occurrence of an event source (R228, R229, R374, R377): counted, coalesced or written, and its reactions called for. While the
source has a record held, it counts in its windows, each class in its own (log entry 21).
`ctx` and `task` are 0x1FF and 0xFFFF for none. -/
def State.raise (s : State) (src : Nat) (cls0 : EvClass) (code : Nat) (payload : W) (ctx : Nat := 0x1FF)
    (task : Nat := 0xFFFF) : State :=
  if srcKind src = 2 then s
  else
    let cls := promoted s src cls0
    let cfg := cfgOf s src
    let c16 := BitVec.ofNat 16 code
    let s1 := { s with fcr := { s.fcr with
      cnt := assocPut s.fcr.cnt src ((assocGet s.fcr.cnt src).getD 0 + 1)
      todo := s.fcr.todo ++ [⟨src, cls, cfg, c16, payload⟩] } }
    match winOf s1 src cls with
    | none => if isHeld s1 src then
        { s1 with fcr := { s1.fcr with win := winPut s1.fcr.win src cls (some ⟨s1.now + evWindow, 1, c16, s1.clk.ts, payload, ctx, task⟩) } }
      else
      record ⟨src, cls, 1, c16, s1.clk.ts, payload, ctx, task, false⟩
        { s1 with fcr := { s1.fcr with win := winPut s1.fcr.win src cls (some ⟨s1.now + evWindow, 0, 0, 0, 0, 0, 0⟩) } }
    | some w =>
      let w1 : EvWin := if w.count = 0 then ⟨w.ends, 1, c16, s1.clk.ts, payload, ctx, task⟩ else { w with count := w.count + 1 }
      { s1 with fcr := { s1.fcr with win := winPut s1.fcr.win src cls (some w1) } }

/-- An occurrence whose payload the manual does not state: a free value (log entry 7). -/
def State.raiseP (s : State) (src : Nat) (cls : EvClass) (code : Nat) (ctx : Nat := 0x1FF) (task : Nat := 0xFFFF) : State :=
  let (p, s1) := s.draw 0 0xFFFFFFFF
  s1.raise src cls code (nw p) ctx task

/-- An occurrence whose code and payload the manual does not state: free values (log entry 7). -/
def State.raiseC (s : State) (src : Nat) (cls : EvClass) (ctx : Nat := 0x1FF) (task : Nat := 0xFFFF) : State :=
  let (c, s1) := s.draw 0 0xFFFF
  s1.raiseP src cls c ctx task

/-- The end of a window (R228): a count above 0 is written and opens the next window, a count of 0 makes the source quiet. While the
source has a record held it keeps counting (R229). -/
def windowEnd (src : Nat) (cls : EvClass) (s : State) : State :=
  match winOf s src cls with
  | none => s
  | some w =>
    if w.count = 0 then { s with fcr := { s.fcr with win := winPut s.fcr.win src cls none } }
    else if isHeld s src then { s with fcr := { s.fcr with win := winPut s.fcr.win src cls (some { w with ends := s.now + evWindow }) } }
    else
      record ⟨src, cls, w.count, w.code, w.ts, w.payload, w.ctx, w.task, false⟩
        { s with fcr := { s.fcr with win := winPut s.fcr.win src cls (some ⟨s.now + evWindow, 0, 0, 0, 0, 0, 0⟩) } }

end Sys2Proof.Machine
end

