-- ==== Sys2Proof/Machine/Recorder.lean ====
section
/-!
DEFINITION. The recorder's shared operations: blocks and headers, notes, rows, statistics, triggers and windows (R231 to
R243, R249), and the queue of join messages that a trigger uses (R240, R346).
-/
namespace Sys2Proof.Machine

/-- A tier by number: 0 espresso, 1 lungo, 2 carafe (Table 10.2 TIER). -/
def tierNo : Tier → Nat
  | .espresso => 0
  | .lungo => 1
  | .carafe => 2

/-- The record of a tier. -/
def Bbr.tier (b : Bbr) (t : Nat) : TierSt := if t = 0 then b.esp else if t = 1 then b.lun else b.car

/-- The recorder with one tier changed. -/
def Bbr.modTier (b : Bbr) (t : Nat) (f : TierSt → TierSt) : Bbr :=
  if t = 0 then { b with esp := f b.esp } else if t = 1 then { b with lun := f b.lun } else { b with car := f b.car }

/-- Row period d in ticks (Table 10.1). -/
def tierD (t : Nat) : Nat := if t = 0 then 1 else if t = 1 then 16 else 256
/-- BAR2 offset of the tier (Table 10.1). -/
def tierBase (t : Nat) : Nat := if t = 0 then 0 else if t = 1 then 0x800000 else 0xC00000
/-- Bank of block `n` of a tier (Table 10.1). -/
def tierBank (t n : Nat) : Nat := (if t = 0 then 0 else if t = 1 then 4 else 6) + n / 32
/-- BAR2 offset of block `n`. -/
def blkBase (t n : Nat) : Nat := tierBase t + n * 0x10000

/-- Word `i` of the RECORDER section in force. -/
def Bbr.word (b : Bbr) (i : Nat) : W := lat b.sect i 0

/-- Channels subscribed to a tier, ascending (R234, Table 10.5). -/
def recChans (b : Bbr) (t : Nat) : List Nat :=
  (List.range 192).filter fun c => (b.word (6 * t + c / 32)).bit (c % 32)

/-- The capture entries: link, slot, measurement and W (R237, Table 10.5). -/
def recCaps (b : Bbr) : List (Nat × Nat × Nat × Nat) :=
  (List.range ((b.word 18).bits 23 16)).map fun i =>
    let w := b.word (19 + i)
    (w.bits 21 16, w.bits 9 8, w.bits 5 4, w.bits 3 0 + 1)

/-- Bytes of a row (R235, R236). -/
def rowBytes (b : Bbr) (t : Nat) : Nat :=
  if t = 0 then 8 * (recChans b 0).length + 4 * sumNat ((recCaps b).map (·.2.2.2)) else 24 * (recChans b t).length

/-- r, the rows of a block (R232). -/
def rowsPer (b : Bbr) (t : Nat) : Nat := let n := rowBytes b t; if n = 0 then 64 else min 64 (57280 / n)

/-- Block `n` of a tier. -/
def blkOf (b : Bbr) (t n : Nat) : Blk := lat (b.tier t).blks n Blk.init

/-- The recorder with block `n` of a tier changed. -/
def Bbr.modBlk (b : Bbr) (t n : Nat) (f : Blk → Blk) : Bbr :=
  b.modTier t fun x => { x with blks := x.blks.modify n f }

/-- Write the header words that follow the block's record (Table 10.2). -/
def hdrSync (t n : Nat) (isOpen : Bool) (b : Bbr) : Bbr :=
  let k := blkOf b t n
  let a := blkBase t n
  let ts : TS := BitVec.ofNat 64 (k.first * 50)
  let m := Memory.writeW b.mem a (fld t 28 ||| fld 1 24 ||| flag isOpen 23 ||| flag (k.holders != 0 || k.orph != 0) 22 ||| fld n 0)
  let m := Memory.writeWs m (a + 4) [k.seq, lo32 ts, hi32 ts, tc32 k.first,
    fld k.rows 16 ||| fld k.rowBytes 0, fld k.noteBytes 16 ||| fld k.notesLost 0]
  let m := Memory.writeW m (a + 36) (k.holders ||| k.orph)
  { b with mem := if isOpen then m else Memory.writeW m (a + 60) (crc32cW (Memory.readWs m a 15)) }

/-- A gap record joins the last pending one of the same tier and cause, or stands on its own (R247). -/
def gapAdd (l : List Gap) (tier first last cause : Nat) : List Gap :=
  match l.getLast? with
  | some g => if g.tier = tier ∧ g.cause = cause then l.dropLast ++ [{ g with last := last, count := g.count + 1 }]
              else l ++ [⟨tier, first, last, 1, cause⟩]
  | none => [⟨tier, first, last, 1, cause⟩]

/-- A stream loses a block that it has not exported (R247, R249). -/
def strmLose (t : Nat) (k : Blk) (cause i : Nat) (x : Strm) : Strm :=
  if x.isOpen && k.todo.getLsbD i then
    { x with drops := x.drops + 1, gaps := gapAdd x.gaps t k.first k.last cause, overrun := x.overrun || cause == 2 }
  else x

/-- The next block of a tier that no window holds and no fence took, ascending and wrapping (R232, R251). -/
def nextBlk (b : Bbr) (t : Nat) : Option Nat :=
  let x := b.tier t
  let n := x.blks.length
  ((List.range n).map fun i => ((if x.nrows = 0 && x.seq = 0 then 0 else x.opn + 1) + i) % n).find? fun k =>
    let y := lat x.blks k Blk.init
    y.holders == 0 && y.orph == 0 && !(b.fenced.getLsbD (tierBank t k))

/-- IMAGE_ID in force. -/
def imageId (s : State) : W := match s.adm.img with
  | some i => i.id
  | none => 0

/-- A window of an earlier image still has POST rows to come in tier `t`. -/
def OldWin.wants (w : OldWin) (t : Nat) : Bool := w.fired && lat w.left t 0 > 0

/-- Holders of a block that opens: triggers whose POST rows are still to come in the tier (R242). -/
def openHolders (b : Bbr) (t : Nat) : W :=
  (List.range 32).foldl (fun w i =>
    let g := vat b.trig i Trig.init
    if g.st = .fired && lat g.left t 0 > 0 then w ||| fld 1 i else w) 0

/-- The windows of earlier images take a block that opens, where POST rows are still to come (R242, R252). -/
def oldsTake (t n : Nat) (b : Bbr) : Bbr :=
  let b1 := { b with olds := b.olds.map fun (w : OldWin) => if w.wants t then { w with blks := w.blks ++ [(t, n)] } else w }
  b1.modBlk t n fun k => { k with orph := b.olds.foldl (fun x (w : OldWin) => if w.wants t then bitPut x w.id true else x) k.orph }

/-- Open the next block of a tier (R232, R249): what a stream has not exported of it is lost. -/
def openBlk (t : Nat) (s : State) : State :=
  match nextBlk s.bbr t with
  | none => { s with bbr := s.bbr.modTier t fun x => { x with isOpen := false } }
  | some n =>
    let b := s.bbr
    let k := blkOf b t n
    let lost := k.closed && k.todo != 0
    let cause := if t = 2 then 2 else 1
    let b1 := if lost then { b with strm := vmapIdx b.strm (strmLose t k cause) } else b
    let x := b1.tier t
    let hold := openHolders b1 t
    let k1 : Blk := { Blk.init with
      seq := x.seq + 1, row0 := x.nrows, rowBytes := rowBytes b1 t, holders := hold, first := s.now, last := s.now }
    let b2 := (b1.modTier t fun x => { x with opn := n, isOpen := true, seq := x.seq + 1 }).modBlk t n fun _ => k1
    let b3 := hdrSync t n true (oldsTake t n b2)
    let m := Memory.writeWs b3.mem (blkBase t n + 28) [imageId s, b3.mapCrc]
    let m := Memory.writeWs m (blkBase t n + 40) [0, 0, 0, 0, 0, 0]
    let s1 := { s with bbr := { b3 with mem := m } }
    if lost && t = 2 then s1.raiseC 952 .uc else s1

/-- Close the open block of a tier (R232): its header is finished, and it waits for export in each open stream of the tier. -/
def closeBlk (t : Nat) (s : State) : State :=
  let b := s.bbr
  let x := b.tier t
  if x.isOpen then
    let n := x.opn
    let todo := (List.range 4).foldl (fun (w : BitVec 4) i =>
      let m := vat b.strm i Strm.init
      if m.isOpen && m.tiers.getLsbD t then bitPut w i true else w) 0
    let b1 := (b.modBlk t n fun k => { k with closed := true, todo := todo }).modTier t
      fun x => { x with isOpen := false, lastSeq := (lat x.blks n Blk.init).seq }
    { s with bbr := hdrSync t n false b1 }
  else s

/-- Close every tier's open block; `again` opens the next ones (R232). -/
def closeAll (again : Bool) (s : State) : State :=
  let f := fun (s : State) t => let s1 := closeBlk t s; if again then openBlk t s1 else s1
  f (f (f s 0) 1) 2

/-! Notes (R238). -/

/-- The words of a note, padded to whole units. -/
def noteWords (kind low : Nat) (tick : Nat) (data : List W) : List W :=
  let units := (2 + data.length + 3) / 4
  [fld kind 24 ||| fld units 20 ||| fld low 0, tc32 tick] ++ data ++ List.replicate (4 * units - 2 - data.length) 0

/-- Put a note into the open block of one tier; a device note that finds its area full is dropped and counted (R238). -/
def noteTier (user : Bool) (ws : List W) (t : Nat) (b : Bbr) : Bbr :=
  let x := b.tier t
  if x.isOpen then
    let n := x.opn
    let k := blkOf b t n
    let len := 4 * ws.length
    let room := if user then k.noteBytes + len ≤ 8192
      else k.noteBytes + len ≤ 8192 && (t != 0 || k.devBytes + len ≤ 4096)
    if room then
      let b1 := { b with mem := Memory.writeWs b.mem (blkBase t n + 0xE000 + k.noteBytes) ws }
      hdrSync t n true (b1.modBlk t n fun k =>
        { k with noteBytes := k.noteBytes + len, devBytes := if user then k.devBytes else k.devBytes + len })
    else
      hdrSync t n true ({ b with nlost := b.nlost + 1 }.modBlk t n fun k => { k with notesLost := k.notesLost + 1 })
  else b

/-- A device note in the tiers listed (Table 10.3). -/
def note (kind low : Nat) (data : List W) (tiers : List Nat) (s : State) : State :=
  let ws := noteWords kind low s.now (if kind = 0x0A then data ++ List.replicate (10 - data.length) 0 else data)
  { s with bbr := tiers.foldl (fun b t => noteTier false ws t b) s.bbr }

/-- A USER note of REC or LOG (R81, R170, R239). -/
def noteUser (low : Nat) (data : List W) (s : State) : State :=
  { s with bbr := noteTier true (noteWords 0x01 low s.now data) 0 s.bbr }

/-! Rows (R235, R236). -/

/-- The 16-bit values of a row as bytes. -/
def halves : List (BitVec 16) → List Byte
  | [] => []
  | h :: r => h.extractLsb' 0 8 :: h.extractLsb' 8 8 :: halves r

/-- The bytes of an espresso row (R235). -/
def espRow (s : State) : List Byte :=
  let b := s.bbr
  let chans := (recChans b 0).map fun c => (assocGet b.lastRow c).getD [0, 0, 0, 0]
  let caps := (recCaps b).map fun (l, sl, me, w) =>
    let before := sumNat (((recCaps b).takeWhile fun e => !(e.1 == l && e.2.1 == sl && e.2.2.1 == me)).map
      fun e => if e.1 == l then e.2.2.2 else 0)
    (List.range w).map fun j => lat (s.lk l).capture (before + j) 0
  (chans.flatMap halves) ++ (caps.flatMap bytesOfWords)

/-- The rows of every tier begin anew at the tick that now counts, after a time step or a wake (R27, R232, R253): the statistics
gathered of a window that never ends are dropped (log entry 66). -/
def rowsRestart (s : State) : State :=
  let f := fun (t : Nat) (x : TierSt) => { x with stats := [], rowTick := tierD t * (s.now / tierD t) }
  { s with bbr := ((s.bbr.modTier 0 (f 0)).modTier 1 (f 1)).modTier 2 (f 2) }

/-- Every tier opens a block again, with its rows begun anew, while rows are written. -/
def rowsAgain (s : State) : State :=
  let s1 := rowsRestart s
  if s1.bbr.run then openBlk 2 (openBlk 1 (openBlk 0 s1)) else s1

/-- The statistics of one channel as 12 values: minima, maxima, means (R236). -/
def statRow (st : List Int) : List (BitVec 16) :=
  let n := lat st 0 0
  if n = 0 then List.replicate 4 0x7FFF ++ List.replicate 4 0x8000 ++ List.replicate 4 0
  else (List.range 8).map (fun i => BitVec.ofInt 16 (lat st (1 + i) 0)) ++
    (List.range 4).map fun i => BitVec.ofInt 16 (floorDiv (lat st (9 + i) 0) n.toNat)

/-- The bytes of a lungo or carafe row (R236). -/
def statBytes (b : Bbr) (t : Nat) : List Byte :=
  (recChans b t).flatMap fun c => halves (statRow ((assocGet (b.tier t).stats c).getD []))

/-- The statistics with one valid frame's samples (R236). -/
def statAdd (st : List Int) (v : List Int) : List Int :=
  let n := lat st 0 0
  if n = 0 then [1] ++ v ++ v ++ v
  else [n + 1] ++ (List.range 4).map (fun i => min (lat st (1 + i) 0) (lat v i 0)) ++
    (List.range 4).map (fun i => max (lat st (5 + i) 0) (lat v i 0)) ++
    (List.range 4).map (fun i => lat st (9 + i) 0 + lat v i 0)

/-- A valid frame's samples of channel `n` reach the recorder (R235, R236). -/
def recSample (n : Nat) (vs : List (BitVec 16)) (s : State) : State :=
  let v := vs.map sx16
  let f := fun (x : TierSt) => { x with stats := assocPut x.stats n (statAdd ((assocGet x.stats n).getD []) v) }
  { s with bbr := { s.bbr with lastRow := assocPut s.bbr.lastRow n vs, lun := f s.bbr.lun, car := f s.bbr.car } }

/-- One row more of tier `t`: the next row's tick, and the POST rows of every window that collects (R242). -/
def rowCount (t tick : Nat) (b : Bbr) : Bbr :=
  let b1 := b.modTier t fun x => { x with nrows := x.nrows + 1, rowTick := tick + tierD t }
  { b1 with
    trig := b1.trig.map fun g => if g.st = .fired then { g with left := g.left.modify t (· - 1) } else g
    olds := b1.olds.map fun w => if w.fired then { w with left := w.left.modify t (· - 1) } else w }

/-- Write one row of a tier; a full block closes first (R232). -/
def rowWrite (t tick : Nat) (bs : List Byte) (s : State) : State :=
  let x := s.bbr.tier t
  let s1 := if x.isOpen && (blkOf s.bbr t x.opn).rows ≥ rowsPer s.bbr t then openBlk t (closeBlk t s)
    else if x.isOpen then s else openBlk t s
  let x := s1.bbr.tier t
  if x.isOpen then
    let n := x.opn
    let k := blkOf s1.bbr t n
    let a := blkBase t n + 0x40 + k.rows * k.rowBytes
    let b1 := { s1.bbr with mem := Memory.writeN s1.bbr.mem a bs }
    let b2 := b1.modBlk t n fun k =>
      { k with first := if k.rows = 0 then tick else k.first, last := tick, rows := k.rows + 1,
               row0 := if k.rows = 0 then x.nrows else k.row0 }
    { s1 with bbr := hdrSync t n true (rowCount t tick b2) }
  else { s1 with bbr := rowCount t tick s1.bbr }

/-- The row of a lungo or carafe window that has ended (R236). -/
def rowStat (t : Nat) (s : State) : State :=
  let x := s.bbr.tier t
  let d := tierD t
  if s.now ≥ x.rowTick + d then
    let s1 := rowWrite t x.rowTick (statBytes s.bbr t) s
    { s1 with bbr := s1.bbr.modTier t fun x => { x with stats := [], rowTick := d * (s1.now / d) } }
  else s

/-! Join messages and triggers. -/

/-- A message waits for a cell of the join train: kind, destination and payload words 1 to 6 (R346). -/
def joinQueue (kind : Nat) (dst : JAddr) (pay : List W) (s : State) : State :=
  { s with jnb := { s.jnb with outQ := s.jnb.outQ ++ [(kind, dst, pay ++ List.replicate (6 - pay.length) 0)] } }

/-- This device's join address, 0 while it has none. -/
def ownAddr (s : State) : JAddr := s.jnb.addr.getD 0

/-- SOURCE of a trigger declaration: 0 HOST, 1 EVENT, 2 LEVEL, 3 JOIN (Table 10.5). -/
def trigSource (g : Trig) : Nat := (lat g.words 0 0).bits 31 28
/-- The trigger freezes tier `t` (Table 10.5). -/
def trigTier (g : Trig) (t : Nat) : Bool := (lat g.words 0 0).bit (25 + t)
/-- SYSNUM (Table 10.5). -/
def trigSys (g : Trig) : Nat := (lat g.words 0 0).bits 15 8

/-- The blocks of a tier that hold rows, newest first. -/
def heldRuns (x : TierSt) : List Blk := sortBy (fun p q => q.row0 ≤ p.row0) (x.blks.filter (·.rows > 0))

/-- The oldest of the newest blocks that lie wholly after tick `f`, and whether the tier holds still older rows. -/
def runAfter (f : Nat) : List Blk → Option (Blk × Bool)
  | [] => none
  | k :: l => if f < k.first then (match runAfter f l with
      | some r => some r
      | none => some (k, !l.isEmpty)) else none

/-- The number of the row of tick `f` in a tier, counted since reset (R242). Rows are counted, not ticks: the newest block that holds
the tick says it; a tick still to come counts on from the next row's tick; a tick before every row held counts back from the oldest;
a tick that no row has, in a step or a sleep, takes the row before (log entry 66). -/
def rowNoOf (b : Bbr) (t f : Nat) : Int :=
  let x := b.tier t
  let d := tierD t
  let wf := d * (f / d)
  let runs := heldRuns x
  match runs.find? fun k => k.first ≤ wf && wf ≤ k.last with
  | some k => (k.row0 : Int) + ((wf : Int) - k.first) / (d : Int)
  | none =>
    if x.rowTick ≤ wf then (x.nrows : Int) + ((wf : Int) - x.rowTick) / (d : Int)
    else match runAfter wf runs with
      | some (k, true) => (k.row0 : Int) - 1
      | some (k, false) => (k.row0 : Int) - ((k.first : Int) - wf) / (d : Int)
      | none => (x.nrows : Int) - 1

/-- Freeze in one tier the blocks that hold rows of a window (R242), and the oldest row still held. -/
def freezeTier (i t : Nat) (lo hi : Int) (b : Bbr) : Bbr :=
  let x := b.tier t
  let hit := fun (n : Nat) (k : Blk) =>
    (k.rows > 0 && (k.row0 : Int) ≤ hi && lo < (k.row0 : Int) + k.rows) ||
    (x.isOpen && n == x.opn && (k.row0 : Int) + k.rows ≤ hi)
  let ns := (List.range x.blks.length).filter fun n =>
    hit n (lat x.blks n Blk.init) && !(b.fenced.getLsbD (tierBank t n))
  ns.foldl (fun b n => hdrSync t n (x.isOpen && n == x.opn) (b.modBlk t n fun k => { k with holders := k.holders ||| fld 1 i })) b

/-- Rows back to row `lo` before row `hi` that were written and that the tier no longer holds (R243). -/
def rowsGone (b : Bbr) (t : Nat) (lo hi : Int) : Bool :=
  let x := b.tier t
  let lo := max lo 0
  let hi := min hi ((x.nrows : Int) - 1)
  let held := x.blks.foldl (fun (n : Int) k => n + max 0 (min hi ((k.row0 : Int) + k.rows - 1) - max lo k.row0 + 1)) 0
  lo ≤ hi && held < hi - lo + 1

/-- Trigger `i` fires at tick `f`, by word of `from_` (R240, R242, R243): its PRE blocks freeze, POST rows are counted from
here, the TRIGGER note is written and a system trigger goes out. -/
def fireTrig (i f : Nat) (src : JAddr) (s : State) : State :=
  let g := vat s.bbr.trig i Trig.init
  let src3 := trigSource g
  let win := fun (t : Nat) => lat g.win t (0, 0)
  let tiers := (List.range 3).filter (trigTier g)
  let rowf := fun (t : Nat) => rowNoOf s.bbr t f
  let short := src3 == 3 && tiers.any fun t => rowsGone s.bbr t (rowf t - (win t).1) (rowf t)
  let b1 := tiers.foldl (fun b t => freezeTier i t (rowf t - (win t).1) (rowf t + (win t).2) b) s.bbr
  let left := (List.range 3).map fun t =>
    if trigTier g t then (rowf t + (win t).2 + 1 - ((s.bbr.tier t).nrows : Int)).toNat else 0
  let b2 := { b1 with trig := vmod b1.trig i fun g =>
    { g with st := .fired, f := f, left := left, preShort := short, damaged := false, exported := 0 } }
  let s1 := note 0x09 (i ||| (if short then 256 else 0) ||| (src3 <<< 9)) [tc32 f, src.setWidth 32] [0, 1, 2] { s with bbr := b2 }
  if src3 != 3 && (lat g.words 0 0).bit 24 && s.prl.role != .standby then
    joinQueue 0x20 0x3FF [fld (trigSys g) 0, tc32 f, fld ((f >>> 32) % 65536) 0] s1
  else s1

/-- A trigger that a command arms at the start of the next tick. -/
def armComes : Option TrigPend → Bool
  | some (.arm _) => true
  | some (.release again) => again
  | _ => false

/-- A fire condition of trigger `i` (R241): it fires when ARMED since before this tick; one in the tick of an arming is not seen;
on any other trigger MISSED counts it. -/
def trigHit (i f : Nat) (src : JAddr) (s : State) : State :=
  let g := vat s.bbr.trig i Trig.init
  if g.st = .armed then (if s.now ≥ g.armTick then fireTrig i f src s else s)
  else if armComes g.pend then s
  else { s with bbr := { s.bbr with trig := vmod s.bbr.trig i fun g => { g with missed := g.missed + 1 } } }

/-- EVENT triggers on one occurrence (R240). -/
def trigEvents (src : Nat) (cls : EvClass) (s : State) : State :=
  (List.range 32).foldl (fun s i =>
    let g := vat s.bbr.trig i Trig.init
    let w := lat g.words 1 0
    if g.decl && trigSource g == 1 && w.bits 9 0 ≤ src && src ≤ w.bits 25 16 && clsCode cls ≥ w.bits 31 30
    then trigHit i s.now (ownAddr s) s else s) s

/-- LEVEL triggers on a valid sample of channel `n` at sample tick `t` (R240). -/
def trigLevels (n t : Nat) (vs : List (BitVec 16)) (s : State) : State :=
  (List.range 32).foldl (fun s i =>
    let g := vat s.bbr.trig i Trig.init
    let w := lat g.words 1 0
    if g.decl && trigSource g == 2 && w.bits 31 24 == n && g.st == .armed && s.now ≥ g.armTick then
      let v := sx16 (lat vs (w.bits 23 22) 0)
      let lev := sx16 (w.extractLsb' 0 16)
      let reached := if w.bit 21 then lev ≤ v else v ≤ lev
      if reached then (if g.otherSide then fireTrig i t (ownAddr s) s else s)
      else { s with bbr := { s.bbr with trig := vmod s.bbr.trig i fun g => { g with otherSide := true } } }
    else s) s

/-- Trigger `i` is ARMED with a window per tier (R241, Table 10.6). -/
def armTrig (i : Nat) (win : List (Nat × Nat)) (s : State) : State :=
  { s with bbr := { s.bbr with trig := vmod s.bbr.trig i fun g =>
    { g with st := .armed, win := win, armTick := s.now, otherSide := false } } }

/-- PRE and POST per tier as declared (Table 10.5). -/
def declWin (g : Trig) : List (Nat × Nat) :=
  (List.range 3).map fun t => let w := lat g.words (2 + t) 0; (w.bits 15 0, w.bits 31 16)

/-- The trigger declarations of a RECORDER section: id and five words (Table 10.5). -/
def sectTrigs (sect : List W) : List (Nat × List W) :=
  let w := lat sect 18 0
  (List.range (w.bits 31 24)).map fun k =>
    let ws := (sect.drop (19 + w.bits 23 16 + 5 * k)).take 5
    ((lat ws 0 0).bits 4 0, ws)

/-- Trigger `i` as the section in force declares it: IDLE, or ARMED with ARM_AT_START, which a
fire condition of this tick does not see (R241, R252, Table 10.4). -/
def declTrig (now : Nat) (sect : List W) (i : Nat) (old : Trig) : Trig :=
  match (sectTrigs sect).find? (·.1 == i) with
  | none => { Trig.init with missed := old.missed, f := old.f }
  | some (_, ws) =>
    let g : Trig := { Trig.init with decl := true, words := ws, missed := old.missed, f := old.f }
    if (lat ws 0 0).bit 23 then { g with st := .armed, win := declWin g, armTick := now + 1 } else g

/-- Blocks of tier `t` that trigger `i` holds, oldest row first. -/
def heldBlocks (b : Bbr) (i t : Nat) : List Nat :=
  let x := b.tier t
  sortBy (fun p q => (lat x.blks p Blk.init).row0 ≤ (lat x.blks q Blk.init).row0)
    ((List.range x.blks.length).filter fun n => (blkOf b t n).holders.bit i)

/-- Every block that trigger `i` holds. -/
def winBlks (b : Bbr) (i : Nat) : List (Nat × Nat) := [0, 1, 2].flatMap fun t => (heldBlocks b i t).map fun n => (t, n)

/-- The blocks of a window as items of an export stream (R248). -/
def winItems (f i : Nat) (bs : List (Nat × Nat)) : List (Nat × Nat × Nat × Nat) := bs.map fun x => (f, i, x.1, x.2)

/-- Each open stream that carries frozen windows takes a complete window (R248). -/
def strmWin (f i : Nat) (bs : List (Nat × Nat)) (b : Bbr) : Bbr :=
  { b with strm := b.strm.map fun x =>
    if x.isOpen && x.tiers.getLsbD 3 then { x with frozen := x.frozen ++ winItems f i bs } else x }

/-- The window of trigger `i` becomes one of an earlier image, FIRED or an orphan (R252): its blocks change hands. -/
def oldWindow (i : Nat) (b : Bbr) : Bbr :=
  let g := vat b.trig i Trig.init
  let bs := winBlks b i
  let f := fun (k : Blk) =>
    if k.holders.bit i then { k with holders := bitPut k.holders i false, orph := bitPut k.orph i true } else k
  let m := fun (x : TierSt) => { x with blks := x.blks.map f }
  { b with
    esp := m b.esp, lun := m b.lun, car := m b.car
    olds := b.olds ++ [{ id := i, f := g.f, left := g.left, blks := bs, fired := g.st == .fired, damaged := g.damaged,
                         preShort := g.preShort, exported := g.exported, gone := false }] }

/-- Windows of earlier images that have their last POST row become orphans (R252); `all` where no row can follow. -/
def oldsDone (all : Bool) (b : Bbr) : Bbr :=
  let done := fun (w : OldWin) => w.fired && (all || (List.range 3).all fun t => lat w.left t 0 == 0)
  let b1 := b.olds.foldl (fun b w => if done w then strmWin w.f w.id w.blks b else b) b
  { b1 with olds := b1.olds.map fun w => if done w then { w with fired := false } else w }

/-- One block leaves a window: an open stream that had it to export takes a gap record (R247, R249). -/
def dropItem (f i cause : Nat) (b : Bbr) (x : Nat × Nat) : Bbr :=
  let k := blkOf b x.1 x.2
  { b with strm := b.strm.map fun (m : Strm) =>
    if m.frozen.contains (f, i, x.1, x.2) then
      { m with drops := m.drops + 1, gaps := gapAdd m.gaps x.1 k.first k.last cause
               frozen := m.frozen.filter (· != (f, i, x.1, x.2)) }
    else m }

/-- The holders of a block, with its header (Table 10.2). -/
def holdPut (f : Blk → Blk) (b : Bbr) (x : Nat × Nat) : Bbr :=
  hdrSync x.1 x.2 ((b.tier x.1).isOpen && x.2 == (b.tier x.1).opn) (b.modBlk x.1 x.2 f)

/-- A block leaves a window of an earlier image; another one under the same id may hold it still. -/
def orphDrop (kept : List OldWin) (i : Nat) (b : Bbr) (x : Nat × Nat) : Bbr :=
  if kept.any fun w => w.id == i && w.blks.contains x then b else holdPut (fun k => { k with orph := bitPut k.orph i false }) b x

/-- The window of trigger `i` is released (R242, R249). -/
def releaseWin (i : Nat) (b : Bbr) : Bbr :=
  let bs := winBlks b i
  let b1 := bs.foldl (dropItem (vat b.trig i Trig.init).f i 4) b
  bs.foldl (holdPut fun k => { k with holders := bitPut k.holders i false }) b1

/-- The orphans that a TRIG_RELEASE names are released (R249, R252). -/
def releaseOlds (b : Bbr) : Bbr :=
  let (out, kept) := b.olds.partition (·.gone)
  let b1 := { out.foldl (fun b w => w.blks.foldl (dropItem w.f w.id 4) b) b with olds := kept }
  out.foldl (fun b w => w.blks.foldl (orphDrop kept w.id) b) b1

/-- What a command left for trigger `i`, at the start of the tick after it (R241). -/
def trigPend (i : Nat) (s : State) : State :=
  let g := vat s.bbr.trig i Trig.init
  let s1 := { s with bbr := { s.bbr with trig := vmod s.bbr.trig i fun g => { g with pend := none } } }
  match g.pend with
  | none => s
  | some (.arm win) => if g.st = .idle && g.decl then armTrig i win s1 else s1
  | some (.fire f) => trigHit i f (ownAddr s1) s1
  | some (.release again) =>
    if g.st = .frozen then
      let b := releaseWin i s1.bbr
      let s2 := { s1 with bbr := { b with trig := vmod b.trig i fun g => { g with st := .idle, exported := 0 } } }
      if again then armTrig i (declWin g) s2 else s2
    else s1

/-- The changes that commands made to triggers in the tick before (R241). -/
def trigTick (s : State) : State :=
  (List.range 32).foldl (fun s i => trigPend i s) { s with bbr := releaseOlds s.bbr }

end Sys2Proof.Machine
end

