-- ==== Sys2Proof/Machine/Sched.lean ====
section
/-!
DEFINITION. What the image in force says of tasks, channels and links: look-ups, owners, places and the event source of a
context (R35, R47, R49, R81, R94, R124 to R126).
-/
namespace Sys2Proof.Machine

/-- The task of an image with a number. -/
def Image.task? (g : Image) (n : Nat) : Option Task := g.tasks.find? (·.num == n)

/-- The task with a number in the image in force. -/
def taskNo (s : State) (n : Nat) : Option Task := s.adm.img.bind (·.task? n)

/-- The task that a context holds. -/
def taskAt (s : State) (c : Nat) : Option Task := (s.cx c).task.bind fun n => taskNo s n.toNat

/-- The channel record of a declared channel. -/
def chanDecl (s : State) (n : Nat) : Option ChanDecl := s.adm.img.bind fun g => g.chans.find? (·.ch == n)

/-- The link record of a used link. -/
def linkDecl (s : State) (l : Nat) : Option LinkDecl := s.adm.img.bind fun g => g.links.find? (·.link == l)

/-- The task that owns channel `n` (R94). -/
def ownerOf (s : State) (n : Nat) : Option Task :=
  s.adm.img.bind fun g => g.tasks.find? fun t => t.chans.any fun x => x.1 && x.2 == n

/-- The place of a task in the plan in force. -/
def placeOf (s : State) (task : Nat) : Option Place := s.adm.place.find? fun p => p.task == task

/-- The context that holds a task. -/
def ctxOf (s : State) (task : Nat) : Option Nat := (placeOf s task).map (·.ctx)

/-- The bound channel of a task: grant index 0 (R47). -/
def boundCh (t : Task) : Option Nat := t.chans.head?.map (·.2)

/-- The engine task-fault source of an engine (Table 18.1). -/
def taskSrc (e : Nat) : Nat := if e < 48 then 816 + e else if e < 0x48 then 872 + (e - 0x40) else 876 + (e - 0x48)

/-- The engine control-fault source of an engine (Table 18.1). -/
def ctrlSrc (e : Nat) : Nat := if e < 48 then 768 + e else if e < 0x48 then 864 + (e - 0x40) else 868 + (e - 0x48)

/-- The number of the task a context holds, 0xFFFF for none. -/
def taskNum (s : State) (c : Nat) : Nat := match (s.cx c).task with
  | some n => n.toNat
  | none => 0xFFFF

/-- The source of loop supervision of a context: E(4n) of its bound channel, else the engine task-fault source (R49, R81). -/
def supSrc (s : State) (c : Nat) : Nat :=
  match (taskAt s c).bind boundCh with
  | some n => 4 * n
  | none => taskSrc (engOfCtx c)

/-- An occurrence of context `c` on the source of its supervision (R49, R81, R375). -/
def raiseCtx (s : State) (c : Nat) (cls : EvClass) (code : Nat) (payload : W) : State :=
  s.raise (supSrc s c) cls code payload c (taskNum s c)

/-- An out-of-range access (R49, R59, R60): class UC, code 0x1003. -/
def outOfRange (s : State) (c : Nat) (what : W) : State := raiseCtx s c .uc 0x1003 what

/-- A word of shared task memory, by word address. -/
def shWord (s : State) (a : Nat) : W := Memory.readW s.shared (4 * a)

/-- Write a word of shared task memory (R46). -/
def shPut (a : Nat) (v : W) (s : State) : State := { s with shared := Memory.writeW s.shared (4 * a) v }

/-- PARAM word `a` of a task. -/
def parm (s : State) (t : Task) (a : Nat) : W := shWord s (t.paramAt + a)

/-- Write PARAM word `a` of a task. -/
def parmPut (t : Task) (a : Nat) (v : W) (s : State) : State := shPut (t.paramAt + a) v s

/-- Some OWNED channel of a task is in ARMING, CONTROL or HOLD; or it has READ channels only and their links are UP; or it
has no channel (R97). -/
def dispatchable (s : State) (t : Task) : Bool :=
  let live := fun (n : Nat) => let c := (s.ch n).st; c == .arming || c == .control || c == .hold
  if t.chans.any (·.1) then t.chans.any fun x => x.1 && live x.2
  else t.chans.all fun x => (s.lk (linkOf x.2)).st == .up

end Sys2Proof.Machine
end

