-- ==== Sys2Proof/Machine/TieOps.lean ====
section
/-!
DEFINITION. The pilot controller's shared operations (R306 to R324): which port a channel has, its parameter words, messages,
the entries to its states, RESTART, its protections, and its offers and role turns. A message of the port's own counts as sent
in the command that calls for it (log entry 11). On a STANDBY the same operations track the LEAD's protocol with the pin at
high impedance (R307).
-/
namespace Sys2Proof.Machine

/-- Tie port `p`. -/
def State.tp (s : State) (p : Nat) : Tpc := vat s.tpc p Tpc.init

/-- The tie port of a TIE channel (R306). -/
def portOf (s : State) (n : Nat) : Option Nat :=
  (chanDecl s n).bind fun d => if d.role = 4 && d.bound < 8 then some d.bound else none

/-- The TIE channel bound to a port (R306). -/
def tieChan (s : State) (p : Nat) : Option Nat :=
  s.adm.img.bind fun g => (g.chans.find? fun d => d.role == 4 && d.bound == p).map (·.ch)

/-- The Tie instance of a port (R306). -/
def tieTask (s : State) (p : Nat) : Option Task := (tieChan s p).bind (ownerOf s)

/-- Parameter word `a` of the Tie instance of a port (Table 14.6). -/
def tieParm (s : State) (p a : Nat) : W := (tieTask s p).elim 0 fun t => parm s t a

/-- PREF (Table 14.6): 0 dual-role, 1 feeder only, 2 taker only. -/
def tiePref (s : State) (p : Nat) : Nat := (tieParm s p 4).bits 1 0

/-- An occurrence on E(4n+3) of the bound channel (R320, R321). -/
def tieRaise (p : Nat) (cls : EvClass) (code : Nat) (s : State) : State :=
  match tieChan s p with
  | some n => s.raiseP (4 * n + 3) cls code
  | none => s

/-- Set a flag of TPC_EVTp (Table 14.11). -/
def tieEvt (p b : Nat) (s : State) : State := s.modTp p fun x => { x with evt := bitPut x.evt b true }

/-- Code of a port state (Table 14.10). -/
def tpCode : TpSt → Nat
  | .disabled => 0
  | .search => 1
  | .confirm => 2
  | .agree => 3
  | .lease => 4
  | .turn => 5
  | .rest => 6

/-- SCALE of measurement `k` of channel `n` (R193). -/
def tieScale (s : State) (n k : Nat) : W := lat (s.lk (linkOf n)).hello (6 + 4 * slotOf n + k) 0

/-- 10 × counts × SCALE as an exact value: below it and above it in whole units (R316). -/
def tenths (scale : W) (x : Int) : Int × Int :=
  match f32 scale with
  | .fin neg m e =>
    let v : Int := x * 10 * (if neg then -(m : Int) else m)
    if 0 ≤ e then (v * (2 ^ e.toNat : Int), v * (2 ^ e.toNat : Int))
    else (v / (2 ^ (-e).toNat : Int), -((-v) / (2 ^ (-e).toNat : Int)))
  | _ => (0, 0)

/-- A number of tenths as an unsigned 16-bit field. -/
def u16 (x : Int) : BitVec 16 := BitVec.ofNat 16 (min (max x 0) 65535).toNat

/-- The window and a current of the Tie instance in units of 0.1 V and 0.1 A (R316): rounded inside the window and down. -/
def tieOffer (s : State) (p cur : Nat) : Offer :=
  match tieChan s p with
  | some n =>
    let w := tieParm s p 6
    { vHi := u16 (tenths (tieScale s n 2) (w.extractLsb' 16 16).toInt).1
      vLo := u16 (tenths (tieScale s n 2) (w.extractLsb' 0 16).toInt).2
      iMax := u16 (tenths (tieScale s n 1) (tieParm s p cur).toInt).1 }
  | none => ⟨0, 0, 0⟩

/-- The offers of TERMS (R316): none while OFFER_EN = 0 or OFFER_I = 0. -/
def tieOffers (s : State) (p : Nat) : List Offer :=
  if (tieParm s p 16).bit 0 && tieParm s p 7 != 0 then [tieOffer s p 7] else []

/-- The granted current in B counts, rounded down (Table 14.6 word 18). -/
def grantCounts (s : State) (n : Nat) (g : BitVec 16) : W :=
  iw (ffloor (fdiv (fdiv (fnat g.toNat) (fnat 10)) (tieScale s n 1)) 0)

/-- The TPC writes ROLE_NOW, I_GRANT and PORT_STATE of its Tie instance (R323, Table 14.6). -/
def tpWords (p : Nat) (s : State) : State :=
  match tieChan s p, tieTask s p with
  | some n, some t =>
    let x := s.tp p
    parmPut t 19 (nw (tpCode x.st)) (parmPut t 18 (if x.lease then grantCounts s n x.grant else 0)
      (parmPut t 17 (x.role.setWidth 32 ||| (x.gen.setWidth 32 <<< 8)) s))
  | _, _ => s

/-- TURN_SEEN := TURN_REQ (R318). -/
def turnSeen (p : Nat) (s : State) : State :=
  match tieTask s p with
  | some t => parmPut t 20 (tieParm s p 14 &&& 0xFF) s
  | none => s

/-- The port changes, and the words it writes follow. -/
def tpSet (p : Nat) (f : Tpc → Tpc) (s : State) : State := tpWords p (s.modTp p f)

/-! Messages (R312 to R314, Table 14.3). -/

/-- The payload whose last two bytes are a 16-bit value. -/
def payHalf (v : BitVec 16) : List Byte := [0, 0, v.extractLsb' 8 8, v.extractLsb' 0 8]
/-- The payload whose last byte is a value. -/
def payByte (v : Byte) : List Byte := [0, 0, 0, v]
/-- The payload of TERMS. -/
def payOffers (l : List Offer) : List Byte :=
  l.flatMap fun o => [o.vHi.extractLsb' 8 8, o.vHi.extractLsb' 0 8, o.vLo.extractLsb' 8 8, o.vLo.extractLsb' 0 8,
    o.iMax.extractLsb' 8 8, o.iMax.extractLsb' 0 8, 0, 0]

/-- Send a new message with the next TAG (Table 14.2). -/
def tpSend (p op : Nat) (pay : List Byte) (s : State) : State :=
  s.modTp p fun x =>
    { x with sent := some ⟨op, x.tag, if op = 0x10 then 0 else x.gen, x.feedPres, pay⟩, tag := x.tag + 1 }

/-- Send a message that awaits an answer (R314). -/
def tpAsk (p op : Nat) (pay : List Byte) (s : State) : State :=
  (tpSend p op pay s).modTp p fun x => { x with waiting := x.sent.map fun m => (m, 1, s.now) }

/-- Send the answer to the message with TAG `tag` (R314). -/
def tpReply (p : Nat) (tag : BitVec 5) (op : Nat) (pay : List Byte) (s : State) : State :=
  (tpSend p op pay s).modTp p fun x => { x with lastRx := some (tag, x.sent) }

/-- A valid message is received by a port in use (R313, R314): counted; one whose TAG has been answered gets its last answer
again; any other is acted on. -/
def tpHeard (p : Nat) (h : PilotHead) (act : State → State) (s : State) : State :=
  if (s.tp p).st = .disabled then s
  else
    let s1 := s.modTp p fun x => { x with msgs := x.msgs + 1 }
    match (s.tp p).lastRx with
    | some (t, some m) => if t = h.tag then s1.modTp p fun x => { x with sent := some m } else act s1
    | _ => act s1

/-! States (R319, R322). -/

/-- The port is attached. -/
def Tpc.attached (x : Tpc) : Bool := x.st == .agree || x.st == .lease || x.st == .turn

/-- Ticks of so many ms. -/
def msTicks (n : Nat) : Nat := 2000 * n

/-- The pilot pin is at high impedance: the port not in use or in REST (R306, R319), or every port of a STANDBY (R307). -/
def tieHiZ (s : State) (p : Nat) : Bool := s.prl.role == .standby || (s.tp p).st == .disabled || (s.tp p).st == .rest

/-- A new beacon gap (R309): from 0.5 to 1.5 times MEAN in steps of 1 ms, as the tick at which it ends. -/
def tieGap (p : Nat) (s : State) : Nat × State :=
  let m := (tieParm s p 4).bits 15 8
  let (g, s1) := s.draw (5 * m) (15 * m)
  (s.now + msTicks g, s1)

/-- An unattached port follows PREF as it stands (R309). -/
def tiePrefStep (p : Nat) (s : State) : State :=
  if (s.tp p).st = .search then
    s.modTp p fun x => { x with feedPres := tiePref s p == 1 || (tiePref s p == 0 && x.beacon), beacon := x.beacon && tiePref s p == 0 }
  else s

/-- Entry to SEARCH (R309, R319): a new gap is drawn; the force ends with it, or, after a detach, with the next frame. -/
def tpSearch (p : Nat) (force : Bool) (s : State) : State :=
  let (g, s1) := tieGap p s
  tpSet p (fun x => { x with
    st := .search, role := 0, gen := 0, feedPres := tiePref s p == 1, prot := false, forced := force
    grant := 0, window := 0, lastRx := none, waiting := none, offers := [], granted := false
    lease := false, winding := false, draw := none, gap := g, beacon := false, retry := none, tieWait := none, defer := none
    hailed := false, turning := false }) s1

/-- What sending or receiving RESTART does (R319): the path is forced open, the lease cleared, the pin at high impedance, the
port in REST; a role turn that was asked for counts as served (R318). -/
def tpRest (p : Nat) (s : State) : State :=
  let s1 := if (s.tp p).turning then turnSeen p s else s
  tpSet p (fun x => { x with
    st := .rest, role := 0, gen := 0, feedPres := false, forced := true, stTick := s.now, grant := 0, window := 0, waiting := none
    granted := false, lease := false, winding := false, draw := none, beacon := false, retry := none, tieWait := none
    defer := none, turning := false, restarts := x.restarts + 1, evt := bitPut x.evt 1 true }) s1

/-- The port sends RESTART (R319), other than under R320 (R321). -/
def tpRestart (p : Nat) (s : State) : State := tieRaise p .ce 0x0405 (tpRest p (tpSend p 0x3F [] s))

/-- Row 1 of Table 14.7: RESTART is sent first when attached. -/
def tpDisable (p : Nat) (s : State) : State :=
  let s1 := if (s.tp p).attached then tpRestart p s else s
  tpSet p (fun x => { Tpc.init with
    evt := x.evt, msgs := x.msgs, discarded := x.discarded, restarts := x.restarts, tag := x.tag, level := x.level
    attachLvl := x.attachLvl, sent := x.sent }) s1

/-- Rows 1 and 6 of Table 14.7: the port follows the state of its channel (R306). -/
def tieFollow (n : Nat) (s : State) : State :=
  match portOf s n with
  | none => s
  | some p =>
    let c := (s.ch n).st
    let live := c == .arming || c == .control || c == .hold
    if live && (s.tp p).st = .disabled then tpSearch p false s
    else if !live && (s.tp p).st != .disabled then tpDisable p s
    else s

/-- The path of a channel is forced open (R319). -/
def tieForced (s : State) (n : Nat) : Bool := match portOf s n with
  | some p => (s.tp p).forced
  | none => false

/-- After the forced frame of a port that is in SEARCH again (R311, R319). -/
def tieFrameSent (n : Nat) (s : State) : State := match portOf s n with
  | some p => if (s.tp p).forced && (s.tp p).st = .search then s.modTp p fun x => { x with forced := false } else s
  | none => s

/-! Protection (R320). -/

/-- A row of Table 14.5 acts. -/
def tieProtect (p bit code : Nat) (s : State) : State :=
  if (s.tp p).st = .disabled || (s.tp p).prot then s
  else
    let s1 := tpRest p (tpSend p 0x3F [] s)
    tieRaise p .uc code (tieEvt p bit (s1.modTp p fun x => { x with prot := true, oc := none, rev := 0 }))

/-- The TPC judges a fresh sample of the bound channel (R320, Table 14.5): B, C and MSTAT, at tick `now`. -/
def tieJudge (n : Nat) (b c : Int) (mstat : BitVec 16) (s : State) : State :=
  match portOf s n with
  | none => s
  | some p =>
    if (s.tp p).st = .disabled then s
    else
      let x := s.tp p
      let irev := (tieParm s p 10).toInt
      let ioc := (tieParm s p 11).toInt
      let back := (x.role == 2 && b < -irev) || (x.role == 1 && b > irev)
      let hot := b > ioc || -b > ioc || mstat.getLsbD 13
      let rev := if back then x.rev + 1 else 0
      let oc := if hot then (match x.oc with
        | some t => some t
        | none => some s.now) else none
      let s1 := s.modTp p fun x => { x with rev := rev, oc := oc }
      if c > (tieParm s p 9).toInt || mstat.getLsbD 14 then tieProtect p 3 0x0406 s1
      else if mstat.getLsbD 10 || rev ≥ 4 then tieProtect p 4 0x0407 s1
      else match oc with
        | some t => if s.now ≥ t + (tieParm s p 12).toNat then tieProtect p 5 0x0408 s1 else s1
        | none => s1

/-! Offers, claims and role turns (R315 to R318). -/

/-- Send TERMS with the offers of this moment (R316, R317); the end of a role turn's TERMS ends the turn (R318). -/
def tieTerms (p : Nat) (s : State) : State :=
  let l := tieOffers s p
  let s1 := if l.isEmpty then tpSend p 0x20 [] s else tpAsk p 0x20 (payOffers l) s
  let s2 := s1.modTp p fun x => { x with offers := l, winding := false }
  if (s.tp p).turning then tieRaise p .ce 0x0409 (turnSeen p (s2.modTp p fun x => { x with turning := false })) else s2

/-- An offer still contains a window and allows a current (R317). -/
def offerKeeps (window : W) (grant : BitVec 16) (o : Offer) : Bool :=
  o.vLo.toNat ≤ window.bits 15 0 && window.bits 31 16 ≤ o.vHi.toNat && grant.toNat ≤ o.iMax.toNat

/-- The lease ends. -/
def tieEndLease (p : Nat) (s : State) : State :=
  tpSet p (fun x => { x with lease := false, granted := false, grant := 0, window := 0, winding := false }) s

/-- The feeder looks at its offer at a release (R317): a change sends a new TERMS; a withdrawal first ramps the current to 0,
which `rest` says it has reached. -/
def tieOfferStep (p : Nat) (rest : Bool) (s : State) : State :=
  let x := s.tp p
  let l := tieOffers s p
  if x.role = 1 && x.attached && x.hailed && !x.turning && x.st != .turn && x.waiting.isNone then
    if l = x.offers then (if x.winding then s.modTp p fun x => { x with winding := false } else s)
    else if l.isEmpty && x.lease && !rest then s.modTp p fun x => { x with winding := true }
    else
      let keep := x.lease && l.any (offerKeeps x.window x.grant)
      tieTerms p (if keep then s else tieEndLease p s)
  else s

/-- Send TURN with a fresh draw (R318). -/
def tieTurnSend (p : Nat) (s : State) : State :=
  let (d, s1) := s.draw 0 0xFFFF
  (tpAsk p 0x30 (payHalf (BitVec.ofNat 16 d)) s1).modTp p fun x => { x with draw := some (BitVec.ofNat 16 d) }

/-- The port is free to ask for a role turn (R318). -/
def tieMayTurn (x : Tpc) : Bool :=
  x.gen == 2 && (x.st == .lease || x.st == .agree) && x.hailed && !x.turning && !x.granted && x.waiting.isNone && x.draw.isNone

/-- A TURN_REQ that differs from TURN_SEEN asks for a role turn (R318). -/
def tieTurnStep (p : Nat) (s : State) : State :=
  let x := s.tp p
  if tieMayTurn x && x.tieWait.isNone && (tieParm s p 14).bits 7 0 != (tieParm s p 20).bits 7 0 then tieTurnSend p s else s

end Sys2Proof.Machine
end

