-- ==== Sys2Proof/Machine/Chan.lean ====
section
/-!
DEFINITION. The channel states and their transitions (R96 to R102, R480, Tables 5.3 and 5.4): one entry operation per
state, used by every command that moves a channel.
-/
namespace Sys2Proof.Machine

/-- Code of a channel state (Table 5.3). -/
def chanCode : ChanSt → Nat
  | .off => 0
  | .arming => 1
  | .control => 2
  | .hold => 3
  | .safe => 4
  | .fenced => 5

/-- The hold limit of a declared channel (R100). -/
def holdLimit8 (s : State) (n : Nat) : Nat := (chanDecl s n).elim 64 (·.hold)

/-- The channel is in a state in which its owner runs (R97). -/
def Chan.live (c : Chan) : Bool := c.st == .arming || c.st == .control || c.st == .hold

/-- A task that may no longer be dispatched restarts cold at its next dispatch (R97, R102). -/
def coldIfIdle (n : Nat) (s : State) : State :=
  match ownerOf s n with
  | some t => if dispatchable s t then s else
      (match ctxOf s t.num with
       | some c => s.modCx c fun x => { x with cold := true }
       | none => s)
  | none => s

/-- The state of channel `n` changes: the CHSTATE note is written (Table 10.3), the owner's dispatch is
judged (R97), and the channel's tie port follows (R306). -/
def setChan (n : Nat) (st : ChanSt) (f : Chan → Chan) (s : State) : State :=
  let old := (s.ch n).st
  let s1 := s.modCh n fun c => f { c with st := st }
  let s2 := note 0x05 n [nw (chanCode old), nw (chanCode st)] [0, 1, 2] s1
  tieFollow n (coldIfIdle n s2)

/-- The channel with every request of a transition withdrawn. -/
def Chan.stilled (c : Chan) : Chan :=
  { c with safeReq := false, stopReq := false, startReq := false, fenceReq := false, readmitReq := false, due := false }

/-- Entry to OFF (rows 4; R95, R480, R27): held values 0, requests lapse. -/
def enterOff (n : Nat) (s : State) : State :=
  let s1 := setChan n .off (fun c => { c.stilled with
    mA := 0, mB := 0, mC := 0, mD := 0, mstat := 0, restart := false, restartRun := 0, armLeft := 0, staged := [] }) s
  if s1.chan.all (·.st == .off) then { s1 with clk := { s1.clk with released := false } } else s1

/-- The checks bound to channel `n` start anew (R78), and P of the contexts whose task `sel` picks clears (R39). -/
def clearChecks (n : Nat) (sel : Task → Bool) (s : State) : State :=
  { s with ctx := vmapIdx s.ctx fun c x =>
    match taskAt s c with
    | some t =>
      let hit := fun (k : Nat) => t.checks.any fun d => d.num == k && d.ch == n
      { x with chk := vmapIdx x.chk fun k v => if hit k then 0 else v, fP := if sel t then false else x.fP }
    | none => x }

/-- Entry to ARMING (rows 7, 8 and 10; R101, R78, R39): the ARMING count starts. -/
def enterArming (n : Nat) (s : State) : State :=
  let arm := match chanDecl s n with
    | some d => d.armSamples
    | none => 0
  let s1 := setChan n .arming (fun c => { c with
    armLeft := arm, armTick := s.now, armZero := s.now, restart := false, restartRun := 0 }) s
  let s2 := clearChecks n (fun t => boundCh t == some n) s1
  s2.modLk (linkOf n) fun l => { l with firstRun := vput l.firstRun (slotOf n) none, moved := vput l.moved (slotOf n) false }

/-- Entry to HOLD (row 5; R100): E(4n+1) at class CE, code 0x0101; its payload is not stated (a free value). -/
def enterHold (n : Nat) (s : State) : State :=
  let old := (s.ch n).st
  let s1 := setChan n .hold (fun c => { c with before := old, holdTick := s.now, validRun := 0 }) s
  s1.raiseP (4 * n + 1) .ce 0x0101

/-- Entry to SAFE (row 3), from ARMING, CONTROL or HOLD. -/
def enterSafe (n : Nat) (s : State) : State :=
  if (s.ch n).live then setChan n .safe (fun c => { c with safeReq := false, restart := false, restartRun := 0 }) s else s

/-- Entry to SAFE by the hold limit or by MSTAT.SAFE: E(4n+1) at class UC, code 0x0102 (R100, R187, Table 18.1a). -/
def enterSafeLimit (n : Nat) (s : State) : State :=
  if (s.ch n).live then (enterSafe n s).raiseP (4 * n + 1) .uc 0x0102 else s

/-- Entry to FENCED (row 1): a pending restart request lapses (R480). -/
def enterFenced (n : Nat) (s : State) : State :=
  if (s.ch n).st = .fenced then s
  else setChan n .fenced (fun c => { c.stilled with restart := false, restartRun := 0 }) s

/-- Row 2: READMIT of the link takes a FENCED channel to SAFE with a restart request. -/
def readmitChan (n : Nat) (s : State) : State :=
  if (s.ch n).st = .fenced then setChan n .safe (fun c => { c with restart := true, restartRun := 0 }) s else s

/-- Row 9 (R101): ARMING ends in CONTROL. -/
def chanControl (n : Nat) (s : State) : State := if (s.ch n).st = .arming then setChan n .control id s else s

/-- The condition of row 9 at the start of this tick (R101): the ARMING count reached 0 in an earlier tick, or the channel has no
owning task and entered ARMING in an earlier one. -/
def armed9 (n : Nat) (s : State) : Bool :=
  let c := s.ch n
  c.st == .arming && (c.armLeft == 0 || (ownerOf s n).isNone) && c.armZero < s.now

/-- Row 6: HOLD ends in the state held before it (R99). -/
def leaveHold (n : Nat) (s : State) : State :=
  if (s.ch n).st = .hold then
    let b := (s.ch n).before
    let s1 := setChan n b (fun c => { c with validRun := 0 }) s
    match ownerOf s n with
    | some t => (match ctxOf s t.num with
        | some c => s1.modCx c fun x => { x with reason := if x.reason = 0 then 4 else x.reason }
        | none => s1)
    | none => s1
  else s

/-! The module's HELLO (R193). A version 1 module, whose HELLO has LEN 9, has one channel and no options. -/

/-- The HELLO is that of a version 1 module. -/
def helloV1 (h : List W) : Bool := (lat h 0 0).bits 15 8 == 9
/-- NCH. -/
def helloNch (h : List W) : Nat := if helloV1 h then 1 else (lat h 5 0).bits 31 30

/-- The slots that a link carries: slot a alone on version 1 (R11, R183), and no more than the module's NCH (R12). -/
def slotCarried (s : State) (n : Nat) : Bool :=
  let l := s.lk (linkOf n)
  (l.version != 1 || slotOf n == 0) && slotOf n < helloNch l.hello

/-- The link of channel `n` lets it start: UP, its last frame valid, its terms accepted, its slot carried (row 7, R11, R12,
R128). -/
def canStart (s : State) (n : Nat) : Bool :=
  let l := s.lk (linkOf n)
  l.st == .up && l.lastValid && !l.refused && slotCarried s n

/-- The start of row 7. -/
def startChan (n : Nat) (s : State) : State :=
  if (s.ch n).st = .off && canStart s n && (chanDecl s n).isSome then enterArming n s else s

/-- A start is asked for: it takes place at the next tick start (R98). -/
def askStart (n : Nat) (s : State) : State := s.modCh n fun c => { c with startReq := true }

/-- The restart request of row 8: made only in SAFE and only once (R480). -/
def restartChan (n : Nat) (s : State) : State :=
  let c := s.ch n
  if c.st = .safe && !c.restart then s.modCh n fun c => { c with restart := true, restartRun := 0 } else s

/-- The states that row 4 leaves. -/
def Chan.stoppable (c : Chan) : Bool := c.live || c.st == .safe

/-- The stop of row 4. -/
def stopChan (n : Nat) (s : State) : State := if (s.ch n).stoppable then enterOff n s else s

/-- A stop is asked for: it takes place at the next tick start (R98). -/
def askStop (n : Nat) (s : State) : State := s.modCh n fun c => { c with stopReq := c.stoppable, startReq := false }

/-- Rows 4, 7 and 9 at a tick start, highest first (R98, R99). -/
def chanLower (n : Nat) (s : State) : State :=
  let c := s.ch n
  let s1 := s.modCh n fun c => { c with due := false, startReq := false, stopReq := false }
  if c.stopReq then stopChan n s1
  else if c.startReq then startChan n s1
  else if armed9 n s1 then chanControl n s1
  else s1

/-- SAFE is asked for (row 3): it takes place at the next tick start (R98). -/
def askSafe (n : Nat) (s : State) : State := s.modCh n fun c => { c with safeReq := c.safeReq || c.live }

/-- Row 10: a channel of a task that resumes cold after a move enters ARMING from CONTROL or HOLD. -/
def rearmChan (n : Nat) (s : State) : State :=
  let c := s.ch n
  if c.st = .control || c.st = .hold then enterArming n s else s

/-- Every channel in ARMING, CONTROL or HOLD enters SAFE at the next tick start (SAFE_ALL, Table 18.3, R98). -/
def safeAll (s : State) : State :=
  { s with chan := s.chan.map fun c => { c with safeReq := c.safeReq || c.live } }

end Sys2Proof.Machine
end

