-- ==== Sys2Proof/Machine/LinkOps.lean ====
section
/-!
DEFINITION. The stage link's shared operations: its transitions (R191, Table 8.9), the service streams (R197 to R199) and
the outbound frame (R181 to R184).
-/
namespace Sys2Proof.Machine

/-- Code of a link state (Table 8.17). -/
def linkCode : LinkSt → Nat
  | .down => 0
  | .train => 1
  | .negotiate => 2
  | .up => 3
  | .hold => 4

/-- Tasks with READ channels alone, one of them on the link, restart cold at their next dispatch: the link leaves UP (R97, R102). -/
def coldReaders (l : Nat) (s : State) : State :=
  match s.adm.img with
  | none => s
  | some g =>
    (g.tasks.filter fun t => t.chans.any (linkOf ·.2 == l) && !t.chans.any (·.1)).foldl (fun s t =>
      match ctxOf s t.num with
      | some c => s.modCx c fun x => { x with cold := true }
      | none => s) s

/-- The link state changes; the LINKSTATE note is written (Table 10.3). -/
def setLink (l : Nat) (st : LinkSt) (f : Link → Link) (s : State) : State :=
  let old := (s.lk l).st
  let s1 := s.modLk l fun x => f { x with st := st }
  note 0x06 l [nw (linkCode old), nw (linkCode st)] [0, 1, 2] (if old = .up && st != .up then coldReaders l s1 else s1)

/-- Set a flag of SLC_EVT (Table 8.19). -/
def slcEvt (l bit : Nat) (s : State) : State := s.modLk l fun x => { x with evt := bitPut x.evt bit true }

/-- The declared channels of a link, in slot order. -/
def linkChans (s : State) (l : Nat) : List Nat := [3 * l, 3 * l + 1, 3 * l + 2].filter fun n => (chanDecl s n).isSome

/-- E(4n+1) at class CE, code 0x0103, for each declared channel of the link (R191). -/
def linkEvent (l : Nat) (s : State) : State := (linkChans s l).foldl (fun s n => s.raiseP (4 * n + 1) .ce 0x0103) s

/-- The link is in UP or HOLD. -/
def Link.inUse (x : Link) : Bool := x.st == .up || x.st == .hold

/-! Fields of the module's HELLO (R193). -/

/-- DUAL. -/
def helloDual (h : List W) : Bool := !helloV1 h && (lat h 5 0).bit 29
/-- CAP. -/
def helloCap (h : List W) : Bool := !helloV1 h && (lat h 5 0).bit 27
/-- WTBL. -/
def helloWtbl (h : List W) : Bool := !helloV1 h && (lat h 5 0).bit 28
/-- S_OFF in ns. -/
def helloSOff (h : List W) : Nat := (lat h 4 0).bits 31 24
/-- A_OFF in ns. -/
def helloAOff (h : List W) : Nat := (lat h 4 0).bits 8 0
/-- DKIND of a slot. -/
def helloDkind (h : List W) (slot : Nat) : Nat := (lat h 5 0).bits (17 + 2 * slot) (16 + 2 * slot)

/-- Row 1: any state to DOWN (R191). -/
def linkDown (l : Nat) (s : State) : State :=
  let used := (s.lk l).inUse
  let s1 := if (s.lk l).st = .down then s else setLink l .down (fun x => { x with
    fast := false, version := 0, switchTick := none, ready := false, trainRun := 0, corruptRun := 0, missRun := 0, lastValid := false }) s
  if used then linkEvent l s1 else s1

/-- Ticks of the wait in DOWN after rows 2 and 3 (R191). -/
def linkHoldoff : Nat := 2000000

/-- Rows 2 and 3: a failed training or negotiation; `bit` is the flag of SLC_EVT (R191). -/
def linkFail (l bit : Nat) (s : State) : State :=
  let s1 := setLink l .down (fun x => { x with
    fast := false, version := 0, switchTick := none, ready := false, holdoff := s.now + linkHoldoff, trainRun := 0,
    lastValid := false }) s
  slcEvt l bit (linkEvent l s1)

/-- Row 4: a fast retrain from UP or HOLD (R191, R192). -/
def linkRetrain (l : Nat) (s : State) : State :=
  if (s.lk l).inUse then
    let s1 := setLink l .train (fun x => { x with
      fast := true, since := s.now, tstep := 1, corruptRun := 0, trainRun := 0, missRun := 0, lastValid := false,
      resume := (s.now + 32) / 2 * 2,
      fastTrains := x.fastTrains + 1 }) s
    slcEvt l 1 (linkEvent l s1)
  else s

/-- Row 10: DOWN to a full training (R191). -/
def linkTrain (l : Nat) (s : State) : State :=
  setLink l .train (fun x => { x with
    fast := false, since := s.now, tstep := 1, trainRun := 0, corruptRun := 0, fullTrains := x.fullTrains + 1 }) s

/-! Service streams (R197 to R199). -/

/-- The header word of a message (R198). -/
def svcHeader (m : SvcMsg) : W := fld m.kind 24 ||| (m.seq.setWidth 32 <<< 16) ||| fld m.words.length 8 ||| m.arg.setWidth 32

/-- A message is reliable: acknowledged and kept for resending (R199). -/
def svcReliable (kind : Nat) : Bool := !(kind == 0x00 || kind == 0x04 || kind == 0x05 || kind == 0x20 || (0x40 ≤ kind && kind ≤ 0x43))

/-- Hand a message to a stream: host stream when `host`, else device stream. -/
def svcSend (l : Nat) (host : Bool) (kind : Nat) (arg : BitVec 8) (words : List W) (tag : Option (BitVec 16)) (s : State) :
    State :=
  s.modLk l fun x =>
    if host then
      { x with hostQ := x.hostQ ++ [⟨kind, x.hostSeq, arg, words, 0, 0, true, tag, false⟩],
               hostSeq := if svcReliable kind then x.hostSeq + 1 else x.hostSeq }
    else
      { x with devQ := x.devQ ++ [⟨kind, x.devSeq, arg, words, 0, 0, true, tag, false⟩],
               devSeq := if svcReliable kind then x.devSeq + 1 else x.devSeq }

/-- The next message a stream may send: the first that waits; a reliable one only among the first 4 unacknowledged (R199). -/
def svcNext (q : List SvcMsg) : Option Nat :=
  (List.range q.length).find? fun i => match q[i]? with
    | some m => m.queued && (!svcReliable m.kind || ((q.take i).filter fun x => svcReliable x.kind).length < 4)
    | none => false

/-- What one stream sends in a frame of `n` positions: its words, whether a message starts, the message words left and the
queue (R197 to R199). -/
def svcTake (now n : Nat) (tx : List W) (q : List SvcMsg) : List W × Bool × List W × List SvcMsg :=
  if n = 0 then ([], false, tx, q)
  else if tx != [] then (tx.take n ++ List.replicate (n - tx.length) 0, false, tx.drop n, q)
  else
    match svcNext q with
    | none => (List.replicate n 0, false, [], q)
    | some i =>
      match q[i]? with
      | none => (List.replicate n 0, false, [], q)
      | some m =>
        let ws := svcHeader m :: m.words
        let q1 := if svcReliable m.kind then q.modify i fun m => { m with queued := false, sent := now } else q.eraseIdx i
        (ws.take n ++ List.replicate (n - ws.length) 0, true, ws.drop n, q1)

/-! The outbound frame (R181 to R184). -/

/-- Channel word and DIR of one slot (Table 8.6); a path forced open by its tie port gets CMD 0 and MODE 0 (R319). -/
def slotWord (s : State) (l slot : Nat) : W × Nat :=
  let n := 3 * l + slot
  let c := s.ch n
  let moved := vat (s.lk l).moved slot false
  let val : W := if tieForced s n then 0 else (c.mode.setWidth 32 <<< 24) ||| c.cmd.setWidth 32
  match c.st with
  | .off => (0, 0)
  | .arming | .control => if moved then (val, 1) else (0, 0)
  | .hold => if moved then (val, 1) else (0, 0)
  | .safe => (0, 3)
  | .fenced => (0, 0)

/-- Band of a channel (R186, Table 13.5). -/
def bandOf (s : State) (n : Nat) : Nat := (vat s.tmu.ch n Therm.init).band

/-- The device word (R184): BAND and DIR of each slot; `final` turns RUN into HOLD (Table 8.6). -/
def devWord (s : State) (l slots : Nat) (final : Bool) : W :=
  (List.range slots).foldl (fun w k =>
    let d := (slotWord s l k).2
    let d := if final && d = 1 then 2 else d
    w ||| fld (bandOf s (3 * l + k) * 64 + d * 16) (8 * k)) 0

/-- OWN, TAKE and REL of the next frame (R204, R366): LEAD and SOLO send OWN = 1, STANDBY sends OWN = 0 with REL = 0 unless
it has just left role LEAD. Below version 3 the device sends OWN = 1 (Table 8.12). -/
def ownBits (s : State) (l : Nat) : Bool × Bool × Bool :=
  let x := s.lk l
  let own := s.prl.role != .standby
  if x.version < 3 then (true, false, false) else (own, own && x.takeRel.getLsbD 0, !own && x.takeRel.getLsbD 1)

/-- Build the frame of this tick (Tables 8.2 and 8.4): TYPE, the channel words, DEV, the service words and both CRCs. -/
def buildFrame (s : State) (l ty : Nat) (short : Bool) (svc : List W) (somd somh idle : Bool) : OutFrame :=
  let slots := if short then 1 else 3
  let (own, take, rel) := ownBits s l
  let hdr := fld ty 6 ||| flag own 5 ||| flag take 4 ||| flag rel 3 ||| flag s.prl.side 2 ||| flag somd 1 ||| flag somh 0
  let chw := (List.range slots).map fun k => (slotWord s l k).1
  let dev := devWord s l slots (ty == 3)
  let tick := s.now % 65536
  let head := [hdr.extractLsb' 0 8, BitVec.ofNat 8 tick, BitVec.ofNat 8 (tick / 256)]
  let b1 := head ++ bytesOfWords (chw ++ [dev])
  let ccrc := crc32c b1
  let b2 := b1 ++ bytesOfWords (ccrc :: svc)
  { tick := s.now, hdr := hdr.extractLsb' 0 8, chw := ⟨#[lat chw 0 0, lat chw 1 0, lat chw 2 0], rfl⟩, dev := dev,
    ccrc := ccrc, svc := svc, crc := crc32c b2, idle := idle }

end Sys2Proof.Machine
end

