-- ==== Sys2Proof/Machine/NvOps.lean ====
section
/-!
DEFINITION. The non-volatile window, its cells and the record manager (R394 to R411): window writes, write-through writes,
the record directory, record copies, counters and the steps of a store.
-/
namespace Sys2Proof.Machine

/-- Bytes of the window (R394). -/
def nvBytes : Nat := 1048576
/-- First byte of page `p` in the window (R394). -/
def nvPage (p : Nat) : Nat := 256 * p

/-- The pages that `n` bytes from `off` touch. -/
def pagesOf (off n : Nat) : List Nat :=
  if n = 0 then [] else (List.range ((off + n - 1) / 256 + 1 - off / 256)).map (off / 256 + ·)

/-- Write the window; every page touched becomes dirty (R395). -/
def nvPut (off : Nat) (bs : List Byte) (s : State) : State :=
  { s with nvs := { s.nvs with
    win := Memory.writeN s.nvs.win off bs
    dirty := (pagesOf off bs.length).foldl insertNat s.nvs.dirty } }

/-- Write a write-through area: the window and the cells at once; no page becomes dirty (R395). -/
def nvThrough (off : Nat) (bs : List Byte) (s : State) : State :=
  { s with nvs := { s.nvs with win := Memory.writeN s.nvs.win off bs, cells := Memory.writeN s.nvs.cells off bs } }

/-- Write words through. -/
def nvThroughW (off : Nat) (ws : List W) (s : State) : State := nvThrough off (bytesOfWords ws) s

/-- Words of the window. -/
def nvWords (s : State) (off n : Nat) : List W := Memory.readWs s.nvs.win off n

/-! The record directory (R406). The manual does not lay out an entry; log entry 22 fixes: entry e at byte 16 + 8e of each
copy, word 0 ID in 31:16 and the 16-byte unit of copy A in 15:0, word 1 the unit of copy B in 31:16, bit 15 a counter,
bits 13:0 LEN; an entry with word 1 = 0 is free. -/

/-- First byte of directory copy A (Table 19.1). -/
def dirA : Nat := nvPage 3968
/-- First byte of directory copy B (Table 19.1). -/
def dirB : Nat := nvPage 4000
/-- Most directory entries (R406). -/
def dirMax : Nat := 1022

/-- The entry of two directory words. -/
def dirEntry (w0 w1 : W) : RecDir :=
  { id := w0.extractLsb' 16 16, offA := 16 * w0.bits 15 0, offB := 16 * w1.bits 31 16, len := w1.bits 13 0,
    counter := w1.bit 15 }

/-- The entries in order, as directory copy A lists them. -/
def dirFrom (m : List Host.Cell) (e : Nat) : Nat → List RecDir
  | 0 => []
  | n + 1 =>
    let w1 := Memory.readW m (dirA + 16 + 8 * e + 4)
    if w1 = 0 then [] else dirEntry (Memory.readW m (dirA + 16 + 8 * e)) w1 :: dirFrom m (e + 1) n

/-- The record directory. -/
def recDir (s : State) : List RecDir := dirFrom s.nvs.win 0 dirMax

/-- The directory entry of a record. -/
def recFind (s : State) (id : BitVec 16) : Option RecDir := (recDir s).find? (·.id == id)

/-- 16-byte units of one copy of `len` payload words (Table 19.3), or of a counter block (R410). -/
def copyUnits (len : Nat) (counter : Bool) : Nat := if counter then 3 else ceilDiv (4 + len) 4

/-- The units that a record holds. -/
def RecDir.spans (d : RecDir) : List (Nat × Nat) :=
  let n := copyUnits d.len d.counter
  if d.counter then [(d.offA / 16, n)] else [(d.offA / 16, n), (d.offB / 16, n)]

/-- Units of the record area. -/
def recUnits : Nat := 49152

/-- A run of units is free. -/
def runFree (ds : List RecDir) (a n : Nat) : Bool :=
  a + n ≤ recUnits && ds.all fun d => d.spans.all fun x => a + n ≤ x.1 || x.1 + x.2 ≤ a

/-- Where copy B begins when copy A takes `n` units from `a`: the first unit after it in another page (R405). -/
def copyBAt (a n : Nat) : Nat := if (a + n) % 16 = 0 then a + n else (a + n) / 16 * 16 + 16

/-- The lowest free run that holds a record: the units of copy A and of copy B (R406). -/
def recPlace (ds : List RecDir) (len : Nat) (counter : Bool) : Option (Nat × Nat) :=
  let n := copyUnits len counter
  let starts := (ds.flatMap fun d => d.spans.map fun x => x.1 + x.2).foldl insertNat [0]
  if counter then (starts.find? fun a => runFree ds a n).map fun a => (a, a)
  else (starts.find? fun a => runFree ds a (copyBAt a n + n - a)).map fun a => (a, copyBAt a n)

/-- NO_ROOM (Table 19.7). -/
def nvFlag (b : Nat) (s : State) : State := { s with nvs := { s.nvs with evt := bitPut s.nvs.evt b true } }

/-- Allocate a record (R406): its entry goes to both directory copies, the ID word last. None when there is no room. -/
def recAlloc (id : BitVec 16) (len : Nat) (counter : Bool) (s : State) : Option RecDir × State :=
  match recFind s id with
  | some d => (some d, s)
  | none =>
    let ds := recDir s
    match (if ds.length < dirMax then recPlace ds len counter else none) with
    | none => (none, nvFlag 6 s)
    | some (a, b) =>
      let w0 := (id.setWidth 32 <<< 16) ||| fld a 0
      let w1 := fld b 16 ||| flag counter 15 ||| fld len 0
      let at' := 16 + 8 * ds.length
      (some (dirEntry w0 w1), nvThroughW (dirB + at') [w0, w1] (nvThroughW (dirA + at') [w0, w1] s))

/-! Record copies (R405, R407, R408). -/

/-- One copy as it stands: valid, SEQ, payload. -/
def copyRead (s : State) (d : RecDir) (off : Nat) : Bool × W × List W :=
  let ws := nvWords s off (4 + d.len)
  let ok := lat ws (3 + d.len) 0 == crc32cW (ws.take (3 + d.len)) &&
    lat ws 0 0 == (d.id.setWidth 32 <<< 16 ||| fld d.len 0)
  (ok, lat ws 1 0, (ws.drop 3).take d.len)

/-- One SEQ is newer than another (R408). -/
def seqNewer (a b : W) : Bool := let d := (a - b).toNat; 1 ≤ d && d ≤ 2147483647

/-- The chosen copy (Table 19.4): 0 BOTH, 1 TIE, 2 ONE, 3 NONE, with the payload and its SEQ, and the state with the events
and flags of the reading. -/
def recChoose (id : BitVec 16) (s : State) : Nat × List W × W × State :=
  match recFind s id with
  | none => (3, [], 0, s)
  | some d =>
    let (va, qa, pa) := copyRead s d d.offA
    let (vb, qb, pb) := copyRead s d d.offB
    if va && vb then
      if qa ≠ qb then (if seqNewer qa qb then (0, pa, qa, s) else (0, pb, qb, s))
      else if nvWords s d.offA (4 + d.len) = nvWords s d.offB (4 + d.len) then (0, pa, qa, s)
      else (1, pa, qa, nvFlag 4 (s.raiseP 981 .ce 0x0901))
    else if va then (2, pa, qa, nvFlag 3 (s.raiseP 981 .ce 0x0902))
    else if vb then (2, pb, qb, nvFlag 3 (s.raiseP 981 .ce 0x0902))
    else (3, [], 0, s)

/-- Update a data record (R406, R407): into the copy with the lower SEQ, B when equal; a copy that is not valid is taken
before the valid one (log entry 23). False when no room was found. -/
def recUpdate (id : BitVec 16) (schema : BitVec 16) (pay : List W) (s : State) : Bool × State :=
  match recAlloc id pay.length false s with
  | (none, s1) => (false, s1)
  | (some d, s1) =>
    let (va, qa, _) := copyRead s1 d d.offA
    let (vb, qb, _) := copyRead s1 d d.offB
    let toA := if va == vb then seqNewer qb qa else vb
    let hi := if va == vb then (if seqNewer qa qb then qa else qb) else if va then qa else qb
    let body := [(id.setWidth 32 <<< 16) ||| fld d.len 0, hi + 1, fld 1 24 ||| schema.setWidth 32] ++ pay
    (true, nvPut (if toA then d.offA else d.offB) (bytesOfWords (body ++ [crc32cW body])) s1)

/-- A record that the device writes for itself (R406): a write that finds no room raises E981. -/
def recDevice (id : BitVec 16) (pay : List W) (s : State) : State :=
  match recUpdate id 0 pay s with
  | (true, s1) => s1
  | (false, s1) => s1.raise 981 .uc 0x0905 (id.setWidth 32)

/-! Counters (R410, R411). -/

/-- A counter slot is valid (R410, R411). -/
def slotOk (id : BitVec 16) (ws : List W) (k : Nat) : Bool :=
  let x := (ws.drop (1 + 4 * k)).take 4
  lat x 3 0 == crc32cW (x.take 3) && lat x 0 0 == ((id.setWidth 32 <<< 16) ||| 2)

/-- The current slot of a counter block, as R411 reads it; none when neither is valid. -/
def slotCur (id : BitVec 16) (ws : List W) : Option Nat :=
  let sel := lat ws 0 0
  let named := if sel = 0xA5A50000 then some 0 else if sel = 0xA5A50001 then some 1 else none
  match named with
  | some k => if slotOk id ws k then some k else slotBest id ws
  | none => slotBest id ws
where
  /-- The valid slot with the newer SEQ. -/
  slotBest (id : BitVec 16) (ws : List W) : Option Nat :=
    match slotOk id ws 0, slotOk id ws 1 with
    | true, true => some (if seqNewer (lat ws 6 0) (lat ws 2 0) then 1 else 0)
    | true, false => some 0
    | false, true => some 1
    | false, false => none

/-- The value of a counter record (R411). -/
def counterValue (s : State) (id : BitVec 16) : W :=
  match recFind s id with
  | none => 0
  | some d =>
    let ws := nvWords s d.offA 12
    match slotCur id ws with
    | some k => lat ws (3 + 4 * k) 0
    | none => 0

/-- One increment (R410): the spare slot is written complete, then SEL flips. -/
def counterInc (id : BitVec 16) (s : State) : State :=
  match recAlloc id 12 true s with
  | (none, s1) => s1.raise 981 .uc 0x0905 (id.setWidth 32)
  | (some d, s1) =>
    let ws := nvWords s1 d.offA 12
    let cur := slotCur id ws
    let k := cur.getD 0
    let seq := if cur.isSome then lat ws (2 + 4 * k) 0 else 0
    let v := if cur.isSome then lat ws (3 + 4 * k) 0 else 0
    let spare := 1 - k
    let x := [(id.setWidth 32 <<< 16) ||| 2, seq + 1, if v = 0xFFFFFFFF then v else v + 1]
    nvThroughW d.offA [fld 0xA5A5 16 ||| fld spare 0] (nvThroughW (d.offA + 4 + 16 * spare) (x ++ [crc32cW x]) s1)

/-- An increment is requested: queued in order of request, unless the power-fail store has begun (R410). -/
def counterAsk (id : BitVec 16) (s : State) : State :=
  if s.nvs.pfStore then s else { s with nvs := { s.nvs with pendInc := s.nvs.pendInc ++ [id] } }

/-- Apply the oldest pending increment. -/
def counterStep (s : State) : State :=
  match s.nvs.pendInc with
  | [] => s
  | id :: r => counterInc id { s with nvs := { s.nvs with pendInc := r } }

/-- Apply every pending increment (R400 step 2). -/
def counterAll (s : State) : State :=
  s.nvs.pendInc.foldl (fun s id => counterInc id s) { s with nvs := { s.nvs with pendInc := [] } }

/-! Stores (R400). -/

/-- First byte of the store journal (Table 19.1). -/
def journalAt : Nat := nvPage 4033

/-- Store one page: latched whole, its dirty bit cleared, written to the cells (R400 step 3). -/
def storePage (p : Nat) (s : State) : State :=
  { s with nvs := { s.nvs with
    cells := Memory.writeN s.nvs.cells (nvPage p) (Memory.readN s.nvs.win (nvPage p) 256)
    dirty := s.nvs.dirty.filter (· != p), written := s.nvs.written + 1 } }

/-- Begin a store of the pages given: BEGIN to journal word 0, word 3 cleared, pending increments applied (R400). -/
def storeBegin (pages : List Nat) (tag : Option (BitVec 16)) (pf : Bool) (s : State) : State :=
  let s1 := nvThroughW (journalAt + 12) [0] (nvThroughW journalAt [lo32 s.clk.ts] s)
  let s2 := counterAll s1
  { s2 with nvs := { s2.nvs with storing := true, pfStore := pf, todo := pages, written := 0, start := s.now, tag := tag } }

/-- The next page of the running store. -/
def storeNext (s : State) : State :=
  match s.nvs.todo with
  | [] => s
  | p :: r => storePage p { s with nvs := { s.nvs with todo := r } }

/-- The end of a store: the pages left are written, then the page count and END (R400 step 4). -/
def storeFinish (s : State) : State :=
  let s1 := s.nvs.todo.foldl (fun s p => storePage p s) { s with nvs := { s.nvs with todo := [] } }
  let s2 := nvThroughW (journalAt + 8) [nw s1.nvs.written, lo32 s1.clk.ts] s1
  let us := (s2.now - s2.nvs.start + 1) / 2
  { s2 with nvs := { s2.nvs with
    storing := false, stores := s2.nvs.stores + 1
    lastStore := flag s2.nvs.pfStore 31 ||| fld s2.nvs.written 16 ||| fld (min us 65535) 0 } }

/-! Device pages (Table 20.8, R379). -/

/-- The fatal page holds source, code and TS (R379); its layout is not stated (log entry 24): word 0 FCR_LAST_FE, words 1
and 2 TS. -/
def fatalPage (w : W) (s : State) : State := nvThroughW (nvPage 4032) [w, lo32 s.clk.ts, hi32 s.clk.ts] s

end Sys2Proof.Machine
end

