-- ==== Sys2Proof/Machine/PairOps.lean ====
section
/-!
DEFINITION. The pair's shared operations: yielding, taking over, leaving role LEAD, and disputes (R365 to R368).
-/
namespace Sys2Proof.Machine

/-- The pair source, E960 (Table 18.1); its codes are not stated (a free value). -/
def pairRaise (cls : EvClass) (s : State) : State := s.raiseC 960 cls

/-- Set a flag of PRL_EVT (Table 17.14). -/
def prlEvt (b : Nat) (s : State) : State := { s with prl := { s.prl with evt := bitPut s.prl.evt b true } }

/-- ROOT runs and the tick counts. -/
def clockRuns (s : State) : Bool := s.clk.tickRun && (s.clk.chip == .boot || s.clk.chip == .run)

/-- The device is on the join bus: it has an address (R24). -/
def onJoin (s : State) : Bool := s.jnb.addr.isSome

/-- The join master is the strapped J0 (R24, R350). -/
def isMaster (s : State) : Bool := s.boot.straps.getLsbD 0

/-- The device stands in a joined system: it has an address, or a train has reached it (R24, R350). -/
def joined (s : State) : Bool := onJoin s || s.jnb.ja.role == 1 || s.jnb.jb.role == 1

/-- The upstream join port, as the reference it gives (R24, R341); the crystal while no port is upstream. -/
def upstreamRef (s : State) : RefSel := if s.jnb.ja.role = 1 then .ja else if s.jnb.jb.role = 1 then .jb else .xtal

/-- R24 gives the device its own crystal: ALIGN_EN is 0, it is the join master, or it is SOLO or LEAD off the join bus. -/
def crystalOwn (s : State) : Bool :=
  !s.clk.alignEn || (isMaster s && onJoin s) || (!(joined s) && s.prl.role != .standby)

/-- The reference that R24 gives the device: its upstream join port, the pair link for a STANDBY off the join bus, else the
crystal. -/
def refWanted (s : State) : RefSel :=
  if crystalOwn s then .xtal
  else if joined s then upstreamRef s
  else if s.prl.link = .up then .pair else .xtal

/-- Set a sticky flag of CTU_MON (Table 2.8). -/
def ctuMon (b : Nat) (s : State) : State := { s with clk := { s.clk with mon := bitPut s.clk.mon b true } }

/-- The reference stops (R29): the crystal, HOLDOVER and REF_LOST, without a step. ALIGNED keeps the value of the last epoch that
had an average (log entry 18). -/
def refLost (s : State) : State :=
  (ctuMon 4 { s with clk := { s.clk with refsel := .xtal, holdover := true, offs := [], alignValid := false } }).raiseC 971 .ce

/-- Select a reference: the offsets gathered so far belong to the old one (R21, R29). ALIGNED keeps its value until the next epoch
with an average (log entry 18). -/
def setRef (r : RefSel) (s : State) : State :=
  if s.clk.refsel = r && !s.clk.holdover then s
  else { s with clk := { s.clk with refsel := r, holdover := false, offs := [] } }

/-- The reference follows R24, as a role, an address, a link or ALIGN_EN changes. A device that R24 gives a reference which is not
there runs on its crystal, in HOLDOVER where it has lost one (R29). -/
def followRef (s : State) : State :=
  if clockRuns s then
    (if crystalOwn s || refWanted s != .xtal then setRef (refWanted s) s
     else if s.clk.refsel != .xtal then refLost s else s)
  else s

/-- The role changes, and the reference is selected again (Table 17.1). -/
def setRole (r : PairRole) (st : PState) (s : State) : State := followRef { s with prl := { s.prl with role := r, pst := st } }

/-- OWN = 0 and REL = 1 on every link that is UP or HOLD, for 4 frames (R366, R368). -/
def relAll (s : State) : State :=
  { s with link := s.link.map fun x =>
      if x.inUse then { x with own := false, takeRel := 2, relLeft := 4 } else { x with own := false, takeRel := 0 } }

/-- The join address of the pair partner: the neighbour on the walk whose hop HELLO gave the partner's serial number (R340, R350). -/
def joinPartner (s : State) : Option JAddr :=
  let mine := fun (p : JPortSt) => p.hop == .up && s.prl.present && p.serial == lo32 s.prl.pser
  s.jnb.addr.bind fun a =>
    if mine s.jnb.ja then some (if s.jnb.ja.role = 1 then a - 1 else a + 1)
    else if mine s.jnb.jb then some (if s.jnb.jb.role = 1 then a - 1 else a + 1)
    else none

/-- A LEAD whose STANDBY is IN_SYNC. -/
def leadInSync (s : State) : Bool := s.prl.role == .lead && s.prl.pst == .inSync

/-- The LEAD yields and becomes STANDBY in the pair state given (R366, R368, Table 17.10). Commands of which no CMD message
has been sent are lost. -/
def yieldPair (st : PState) (s : State) : State :=
  let s1 := relAll s
  let s2 := setRole .standby st s1
  { s2 with prl := { s2.prl with yieldNow := true, yields := s2.prl.yields + 1, check := .none, dispute := none } }

/-- The device leaves role LEAD because its partner took over or its frames are not owned (R368): FENCED after a self-check of its
own that failed, else RESYNC. -/
def leaveLead (s : State) : State := setRole .standby (if s.prl.check = .fail then .fenced else .resync) (relAll s)

/-- The STANDBY declares takeover (R367): role LEAD, OWN and TAKE on every link that is UP or HOLD. -/
def takeOver (s : State) : State :=
  let s1 := { s with link := s.link.map fun x =>
      if x.inUse then { x with own := true, takeRel := 1, relLeft := 0, lostRun := 0 } else { x with own := true, takeRel := 0 } }
  let s2 := setRole .lead (if s.prl.link = .up then .alone else .seek) s1
  prlEvt 1 { s2 with prl := { s2.prl with
    takeover := some s.now, takeMask := 0, takeovers := s2.prl.takeovers + 1, dispute := none, check := .none } }

/-- A dispute starts (R361, R364, R365): PSTATE DISPUTE, the pair source at class UC, the quick self-check runs. -/
def startDispute (s : State) : State :=
  if s.prl.pst = .dispute then s
  else
    let s1 := { s with prl := { s.prl with pst := .dispute, dispute := some s.now, check := .running, partner := .none } }
    pairRaise .uc (prlEvt 3 s1)

/-- The STANDBY leaves IN_SYNC, or a LEAD sees it do so: RESYNC begins (R364, R371). -/
def toResync (s : State) : State :=
  { s with prl := { s.prl with
    pst := .resync, converge := false, equalRun := 0, resyncTick := s.now, lastBad := false, dispute := none, check := .none
    rxMseq := none, restartAt := none } }

/-- The HELLO of this device (R357, Table 17.2): versions 1 to 2, its side, RUNNING and LEAD, serial number, firmware (R1), COMPAT,
and the image in force. -/
def ownHello (s : State) : List W :=
  let running := s.chan.any (·.st != .off)
  let (id, crc) := match s.adm.img with
    | some g => (g.id, g.crc)
    | none => (0, 0)
  [fld 2 24 ||| fld 1 16 ||| flag s.prl.side 8 ||| flag running 1 ||| flag (s.prl.role == .lead) 0,
   lo32 s.upe.serial, hi32 s.upe.serial, s.upe.fwAct, s.prl.compat, id, crc]

/-- PSTATE once the pair link is not UP: SEEK, but a STANDBY in IN_SYNC or DISPUTE judges missing cells (R367), and the states that
R372 keeps stand. -/
def lostState (r : PairRole) (p : PState) : PState :=
  if p == .none || p == .mismatch || p == .clash || p == .isolated || p == .fenced || p == .degraded then p
  else if r == .standby && (p == .inSync || p == .dispute) then p
  else .seek

/-- The pair is formed and the command is mirrored between its devices (R359). -/
def pairFormed (s : State) : Bool :=
  s.prl.link == .up && (s.prl.pst == .resync || s.prl.pst == .inSync || s.prl.pst == .dispute)

end Sys2Proof.Machine
end

