-- ==== Sys2Proof/Machine/KioOps.lean ====
section
/-!
DEFINITION. The kiosk's shared operations: completion entries (R215, R217), looking up and completing accepted commands
(R218 to R222), and what a pair does with the status of a mirrored command (R359, R361).
-/
namespace Sys2Proof.Machine

/-! Status codes (Table 9.5 and the list below it). -/

/-- OK. -/
def stOk : Nat := 0x0000
/-- ACCEPTED. -/
def stAccepted : Nat := 0x0001
/-- CANCELLED. -/
def stCancelled : Nat := 0x0002
/-- RETRY. -/
def stRetry : Nat := 0x0010
/-- BUSY_HANDOVER. -/
def stBusyHandover : Nat := 0x0011
/-- NOT_READY. -/
def stNotReady : Nat := 0x0012
/-- BUSY. -/
def stBusy : Nat := 0x0013
/-- BAD_CMD. -/
def stBadCmd : Nat := 0x0020
/-- WRONG_RING. -/
def stWrongRing : Nat := 0x0021
/-- BAD_ARG. -/
def stBadArg : Nat := 0x0022
/-- STANDBY. -/
def stStandby : Nat := 0x0023
/-- STATE. -/
def stState : Nat := 0x0024
/-- DMA_ERROR. -/
def stDma : Nat := 0x0025
/-- IMAGE_CORRUPT. -/
def stImageCorrupt : Nat := 0x0030
/-- ADM_REFUSED. -/
def stAdmRefused : Nat := 0x0031
/-- SEQ_OWNED. -/
def stSeqOwned : Nat := 0x0032
/-- SEQ_SLAVE. -/
def stSeqSlave : Nat := 0x0033
/-- NEW_CRC. -/
def stNewCrc : Nat := 0x0034
/-- OLD_CRC. -/
def stOldCrc : Nat := 0x0035
/-- MODULE_NAK. -/
def stModuleNak : Nat := 0x0036
/-- MODULE_NO_ANSWER. -/
def stModuleNoAnswer : Nat := 0x0037
/-- NOT_IN_FORCE. -/
def stNotInForce : Nat := 0x0038
/-- BIST_FAIL (R384). -/
def stBistFail : Nat := 0x0039
/-- NV_FULL (R406). -/
def stNvFull : Nat := 0x003A

/-- Entries of a ring of SIZE `z` (R213). -/
def ringLen (z : BitVec 4) : Nat := 2 ^ z.toNat

/-- Free entries of CQq (R217; log entry 25). -/
def cqFree (s : State) (q : Nat) : Nat :=
  let c := vat s.kio.cq q CplRing.init
  ringLen c.size - c.used

/-- The words of a completion entry (Table 9.4). -/
def cplWords (s : State) (q cmd : Nat) (tag : BitVec 16) (st unit retry : Nat) (r0 r1 r2 : W) : List W :=
  let c := vat s.kio.cq q CplRing.init
  [fld cmd 16 ||| tag.setWidth 32, flag c.phase 31 ||| fld q 28 ||| fld st 0,
   fld unit 31 ||| fld (min retry 32767) 16 ||| fld (vat s.kio.sq q SubRing.init).head 0, r0, lo32 s.clk.ts, hi32 s.clk.ts, r1, r2]

/-- Write one completion entry at CQq's tail and send its message (R215, R217, R230); a closed session writes none (R210,
R211). -/
def cplWrite (q cmd : Nat) (tag : BitVec 16) (st unit retry : Nat) (r0 r1 r2 : W) (s : State) : State :=
  if s.kio.isOpen then
    let c := vat s.kio.cq q CplRing.init
    let n := ringLen c.size
    let s1 := { s with
      host := Memory.writeWs s.host (c.base.toNat + 32 * c.tail) (cplWords s q cmd tag st unit retry r0 r1 r2)
      kio := { s.kio with cq := vput s.kio.cq q { c with
        tail := (c.tail + 1) % n, used := c.used + 1, phase := if c.tail + 1 = n then !c.phase else c.phase } } }
    msixSend (1 + q) s1
  else s

/-- RETRY_AFTER of a time in µs: unit and value (Table 9.4). -/
def retryOf (us : Nat) : Nat × Nat := if us = 0 then (0, 0) else if us ≤ 32767 then (0, us) else (1, ceilDiv us 1000)

/-- A completion with a retry time, which only ABI 2.0 and later fill (Table 9.2). -/
def cplRetry (q cmd : Nat) (tag : BitVec 16) (st us : Nat) (r0 r1 r2 : W) (s : State) : State :=
  let (u, r) := if s.kio.major ≥ 2 then retryOf us else (0, 0)
  cplWrite q cmd tag st u r r0 r1 r2 s

/-- The completion of an accepted command; one whose session has ended writes none (R211). -/
def kCpl (k : KCmd) (st : Nat) (r0 r1 r2 : W) (s : State) : State :=
  if k.mute then s else cplRetry k.ring.val k.cmd k.tag st k.retry r0 r1 r2 s

/-- The session ends: the accepted commands take effect without completions, in any later session too (R210, R211). -/
def muteAll (s : State) : State := { s with kio := { s.kio with accepted := s.kio.accepted.map fun k => { k with mute := true } } }

/-- CLOSE (R211). -/
def sessionClose (s : State) : State := muteAll { s with kio := { s.kio with isOpen := false, result := 0, reason := 0 } }

/-- An accepted command by its tag. -/
def kByTag (s : State) (tag : BitVec 16) : Option KCmd := s.kio.accepted.find? (·.tag == tag)

/-- The accepted command that a kiosk row carries out: of this ID and tag, not begun, and, when mirrored, applied (R359). -/
def kFind (s : State) (cmd : Nat) (tag : BitVec 16) : Option KCmd :=
  s.kio.accepted.find? fun k => k.cmd == cmd && k.tag == tag && !k.begun && (k.mseq.isNone || k.applied)

/-- Two records of one accepted command. -/
def sameCmd (x k : KCmd) : Bool := x.tag == k.tag && x.ring == k.ring && x.handle == k.handle && x.mute == k.mute

/-- Change an accepted command. -/
def kMod (k : KCmd) (f : KCmd → KCmd) (s : State) : State :=
  { s with kio := { s.kio with accepted := s.kio.accepted.map fun x => if sameCmd x k then f x else x } }

/-- The command is no longer accepted. -/
def kDrop (k : KCmd) (s : State) : State :=
  { s with kio := { s.kio with accepted := s.kio.accepted.filter fun x => !sameCmd x k } }

/-- Argument word `i` of an accepted command (Table 9.3). -/
def KCmd.arg (k : KCmd) (i : Nat) : W := lat k.words i 0
/-- The channel argument (R225). -/
def KCmd.chan (k : KCmd) : Nat := (k.arg 3).bits 7 0

/-- The last status of a mirrored command on both devices is known: compare and complete (R359, R361). -/
def pairJudge (k : KCmd) (own : BitVec 16 × W × W × W) (theirs : BitVec 16 × W) (s : State) : State :=
  let (st, r0, r1, r2) := own
  let s1 := kCpl k st.toNat r0 r1 r2 (kDrop k s)
  let s2 := { s1 with prl := { s1.prl with queue := s1.prl.queue.filter fun x => some x.mseq != k.mseq } }
  if st = theirs.1 && r0 = theirs.2 then s2 else startDispute s2

/-- A command completes (R215, R220). A mirrored command's completion waits on the LEAD for the STANDBY's STATUS (R359); on
the STANDBY its status goes to the LEAD; a command accepted by a former LEAD completes nowhere (R368). -/
def kEnd (k : KCmd) (st : Nat) (r0 r1 r2 : W) (s : State) : State :=
  let s1 := kDrop k s
  match k.mseq with
  | none => kCpl k st r0 r1 r2 s1
  | some m =>
    if k.foreign then
      (if s.prl.role = .standby
       then { s1 with prl := { s1.prl with statusQ := s1.prl.statusQ ++ [(m, BitVec.ofNat 16 st, r0)] } } else s1)
    else if s.prl.role = .lead && pairFormed s then
      match (s.prl.queue.find? (·.mseq == m)).bind (·.partner) with
      | some p => pairJudge k (BitVec.ofNat 16 st, r0, r1, r2) p s
      | none => { s with prl := { s.prl with queue := s.prl.queue.map fun x =>
          if x.mseq == m then { x with own := some (BitVec.ofNat 16 st, r0, r1, r2) } else x } }
    else
      kCpl k st r0 r1 r2 { s1 with prl := { s1.prl with queue := s1.prl.queue.filter (·.mseq != m) } }

/-- Mirrored commands whose own status is known complete without the partner's (R359). -/
def pairFlush (s : State) : State :=
  s.prl.queue.foldl (fun s x =>
    match x.own, s.kio.accepted.find? (fun k => k.mseq == some x.mseq && !k.foreign) with
    | some (st, r0, r1, r2), some k =>
      kCpl k st.toNat r0 r1 r2
        { kDrop k s with prl := { s.prl with queue := s.prl.queue.filter (·.mseq != x.mseq) } }
    | _, _ => s) s

/-- The pair link goes DOWN (R353, R354, Table 17.12); the reference is selected again (R24). -/
def pairLost (s : State) : State :=
  let s1 := { s with prl := { s.prl with
    link := .down, version := 0, present := false, prun := false, lanes := 0
    pst := lostState s.prl.role s.prl.pst } }
  followRef (pairFlush s1)

/-- A command completes with a status and no results. -/
def kStatus (k : KCmd) (st : Nat) (s : State) : State := kEnd k st 0 0 0 s

/-- A command found busy while it executes (R104, R129, R215): BUSY with the time after which it may be tried again. -/
def kBusy (k : KCmd) (us : Nat) (s : State) : State :=
  kStatus { k with retry := us } stBusy (kMod k (fun x => { x with retry := us }) s)

/-- A host buffer could not be reached (Table 9.5): DMA_ERR is set (Table 9.11). -/
def kDma (k : KCmd) (s : State) : State := kStatus k stDma { s with kio := { s.kio with err := bitPut s.kio.err 0 true } }

/-- The completion of whatever accepted command bears a tag. -/
def kEndTag (tag : Option (BitVec 16)) (st : Nat) (r0 r1 r2 : W) (s : State) : State :=
  match tag.bind (kByTag s) with
  | some k => kEnd k st r0 r1 r2 s
  | none => s

/-- MGP runs: the chip is in BOOT or RUN with its dividers on (Table 2.2). -/
def mgpRuns (s : State) : Bool := s.clk.tickRun && (s.clk.chip == .boot || s.clk.chip == .run)

/-- A command's turn (R221): drip operations progress in acceptance order, so none begins before every one accepted earlier has. -/
def kTurn (s : State) (k : KCmd) : Bool :=
  k.ring.val < 2 || (s.kio.accepted.takeWhile fun x => !sameCmd x k).all fun x => x.ring.val < 2 || x.begun

/-- A kiosk row: carry out the accepted command it names; without one, or before its turn, it has no effect (log entry 8). -/
def kiosk (cmd : Nat) (tag : BitVec 16) (f : KCmd → State → State) (s : State) : State :=
  match kFind s cmd tag with
  | some k => if mgpRuns s && kTurn s k then f k s else s
  | none => s

/-- A drip command has begun and waits (R221). -/
def kBegin (k : KCmd) (s : State) : State := kMod k (fun x => { x with begun := true }) s

/-- A drip command is past its point of no return (R226). -/
def kFix (tag : Option (BitVec 16)) (s : State) : State :=
  match tag.bind (kByTag s) with
  | some k => kMod k (fun x => { x with fixed := true }) s
  | none => s

/-- The begun commands on channel `n` complete at the tick start that decides them (R98): CH_START OK with the tick of entry to
ARMING, or STATE where row 7 no longer holds; CH_STOP OK. -/
def chanCmdsEnd (n : Nat) (s : State) : State :=
  let c := s.ch n
  (s.kio.accepted.filter fun k => k.begun && k.chan == n).foldl (fun s k =>
    if k.cmd = 0x0201 && !c.startReq then
      (if c.st = .arming then kEnd k stOk (tc32 s.now) 0 0 s else kStatus k stState s)
    else if k.cmd = 0x0202 && !c.stopReq then kStatus k stOk s
    else s) s

/-- Rows 4, 7 and 9 of channel `n` with the commands that they decide (R98, R99). -/
def chanRows (n : Nat) (s : State) : State := chanCmdsEnd n (chanLower n s)

/-- A host buffer argument: address words `i`, `i + 1`, length word `i + 2` (Table 9.3). -/
def KCmd.buf (k : KCmd) (i : Nat) : Nat × Nat := ((k.arg i).toNat + 2 ^ 32 * (k.arg (i + 1)).toNat, (k.arg (i + 2)).toNat)

end Sys2Proof.Machine
end

