-- ==== Sys2Proof/Machine/UpdOps.lean ====
section
/-!
DEFINITION. The update's shared operations: the manifest in flash, the phase and its page, votes, and how an update is
aborted or falls back (R414 to R431).
-/
namespace Sys2Proof.Machine

/-- First flash byte of manifest slot A or B (Table 20.1). -/
def flashMan (b : Bool) : Nat := if b then 0x00080000 else 0x00040000
/-- First flash byte of firmware slot A or B (Table 20.1). -/
def flashFw (b : Bool) : Nat := if b then 0x00500000 else 0x00100000
/-- First flash byte of image slot A or B (Table 20.1). -/
def flashImg (b : Bool) : Nat := if b then 0x01100000 else 0x00900000
/-- First flash byte of the module firmware store (Table 20.1). -/
def flashMod : Nat := 0x01900000

/-- A part entry of a manifest (Table 20.3). -/
structure PartE where
  kind : Nat
  target : Nat
  mtype : Nat
  version : W
  len : Nat
  hash : List W
deriving DecidableEq, Repr

/-- Bytes of flash. -/
def flashBytes (s : State) (off n : Nat) : List Byte := Memory.readN s.upe.flash off n

/-- P2 and P3 commands declare 4 ms more while an update may hand over (R426). -/
def updSlack (s : State) : Nat := match s.upe.phase with
  | .preparing | .ready | .armed | .trial | .confirming => 4000
  | _ => if s.kio.accepted.any fun k => k.cmd == 0x0703 then 4000 else 0

/-- Words of the flash from a byte offset. -/
def flashWords (s : State) (off n : Nat) : List W := Memory.readWs s.upe.flash off n

/-- Part entry `j` of the manifest at `m` (Table 20.3). -/
def partAt (s : State) (m j : Nat) : PartE :=
  let ws := flashWords s (m + 64 + 64 * j) 16
  { kind := (lat ws 0 0).bits 31 24, target := (lat ws 0 0).bits 9 0, mtype := (lat ws 1 0).bits 31 16,
    version := lat ws 2 0, len := (lat ws 3 0).toNat, hash := (ws.drop 4).take 12 }

/-- NPARTS of the manifest at `m`, at most 64 (Table 20.2). -/
def manParts (s : State) (m : Nat) : Nat := min 64 ((Memory.readW s.upe.flash (m + 4)).bits 15 0)

/-- The part entries of the manifest at `m`. -/
def manPartList (s : State) (m : Nat) : List PartE := (List.range (manParts s m)).map (partAt s m)

/-- The address of the device for an update (R417): its join address; off the join bus 0, and 1 for side B. -/
def updAddr (s : State) : Nat := match s.jnb.addr with
  | some a => a.toNat
  | none => if s.prl.strapped && s.prl.side then 1 else 0

/-- The device holds a part (R417). -/
def holdsPart (s : State) (p : PartE) : Bool :=
  if p.kind = 1 || p.kind = 2 then p.target == updAddr s || p.target == 0x3FF
  else p.kind == 3 && s.link.any fun l => l.st != .down && (lat l.hello 1 0).bits 15 0 == p.mtype

/-- The links of the device whose module type is `t` and that are UP. -/
def linksOfType (s : State) (t : Nat) : List Nat :=
  (List.range 64).filter fun l => (s.lk l).inUse && (lat (s.lk l).hello 1 0).bits 15 0 == t

/-- The manifest slot an update stages into: the inactive one (R415). -/
def stageMan (s : State) : Nat := flashMan (!s.upe.manSlot)

/-- Bytes of flash that parts of kind 3 hold before part `j` (Table 20.1). -/
def modBefore (ps : List PartE) (j : Nat) : Nat :=
  sumNat ((ps.take j).map fun p => if p.kind = 3 then 65536 * ceilDiv p.len 65536 else 0)

/-- First flash byte of part `j` of the staging manifest (Table 20.1, R415). -/
def partFlash (s : State) (j : Nat) : Nat :=
  let ps := manPartList s (stageMan s)
  match ps[j]? with
  | some p => if p.kind = 1 then flashFw (!s.upe.fwSlot) else if p.kind = 2 then flashImg (!s.upe.imgSlot) else flashMod + modBefore ps j
  | none => 0

/-- The data messages of a module part (Table 20.7). -/
def modData (l : Nat) : Nat → List W → State → State
  | 0, _, s => s
  | n + 1, ws, s => if ws.isEmpty then s
      else modData l n (ws.drop 254) (svcSend l false 0x01 0 (nw 0x0043 :: ws.take 254) none s)

/-- A module part goes to a link (R423, R424): length and CRC, data, CHECK, and a READ of MUPD_STATE. -/
def modLoad (l : Nat) (ws : List W) (s : State) : State :=
  let s1 := svcSend l false 0x01 0 [nw 0x0041, nw ws.length, crc32cW ws] none s
  let s2 := svcSend l false 0x01 0 [nw 0x0040, 1] none (modData l ws.length ws s1)
  svcSend l false 0x02 0 [nw 0x0044 ||| fld 1 16] none s2

/-- The module parts of a manifest for a module type, as words. -/
def modPartsFor (s : State) (m t : Nat) : List (List W) :=
  let ps := manPartList s m
  (List.range ps.length).filterMap fun j => match ps[j]? with
    | some p => if p.kind = 3 && p.mtype == t then some (flashWords s (flashMod + modBefore ps j) (p.len / 4)) else none
    | none => none

/-- A link that a confirmed update skipped takes its module part when it is UP again (R424). -/
def modSkipped (l : Nat) (s : State) : State :=
  if s.upe.phase == .idle && s.upe.skipped.contains l then
    let s1 := { s with upe := { s.upe with skipped := s.upe.skipped.filter (· != l) } }
    (modPartsFor s (flashMan s.upe.manSlot) ((lat (s.lk l).hello 1 0).bits 15 0)).foldl (fun s ws =>
      svcSend l false 0x01 0 [nw 0x0040, 2] none (modLoad l ws s)) s1
  else s

/-- Word address of MUPD_CTRL (Table 20.7). -/
def mupdCtrl : Nat := 0x0040

/-- Write MUPD_CTRL on every link whose module part this device holds and has sent: 1 CHECK, 2 ACTIVATE, 3 DISCARD (R424); after ACTIVATE
the module's MUPD_STATE is read (R428). -/
def moduleCtrl (v : Nat) (s : State) : State :=
  ((manPartList s (stageMan s)).filter (·.kind == 3)).foldl (fun s p =>
    ((linksOfType s p.mtype).filter fun l => !(s.upe.skipped.contains l)).foldl (fun s l =>
      let s1 := svcSend l false 0x01 0 [nw mupdCtrl, nw v] none s
      if v = 2 then svcSend l false 0x02 0 [nw 0x0044 ||| fld 1 16] none s1 else s1) s) s

/-- Code of a phase (Table 20.10). -/
def phaseCode : UpdPhase → Nat
  | .idle => 0
  | .staging => 1
  | .verifying => 2
  | .verified => 3
  | .preparing => 4
  | .ready => 5
  | .armed => 6
  | .trial => 7
  | .confirming => 8

/-- Page 4,034 holds phase, MID, MSEQ, C and F (Table 20.8), in this order from word 0 (log entry 24). -/
def updPage (s : State) : State :=
  let u := s.upe
  let f := u.fallTick.getD 0
  nvThroughW (nvPage 4034) [nw (phaseCode u.phase), u.mid, u.mseqNew, u.commitTick.setWidth 32,
    (u.commitTick >>> 32).setWidth 32, f.setWidth 32, (f >>> 32).setWidth 32] s

/-- The phase changes and page 4,034 with it. -/
def setPhase (p : UpdPhase) (s : State) : State := updPage { s with upe := { s.upe with phase := p } }

/-- Set a flag of UPE_EVT (Table 20.12). -/
def updEvt (b : Nat) (s : State) : State := { s with upe := { s.upe with evt := bitPut s.upe.evt b true } }

/-- LAST_CODE and LAST_PART (Table 20.10). -/
def updCode (code part : Nat) (s : State) : State :=
  { s with upe := { s.upe with lastCode := BitVec.ofNat 8 code, lastPart := BitVec.ofNat 8 part } }

/-- The update-log page to write: the first blank one, else the one with the oldest TS (Table 20.8). -/
def logPage (s : State) : Nat :=
  let ts := fun (p : Nat) => (Memory.readW s.nvs.win (nvPage p + 16)).toNat + 2 ^ 32 * (Memory.readW s.nvs.win (nvPage p + 20)).toNat
  ((List.range 8).map (4088 + ·)).foldl (fun b p => if ts p < ts b then p else b) 4088

/-- One page of the update log: MID, MSEQ, code, originator and TS (Table 20.8), in this order (log entry 24). -/
def updLog (code orig : Nat) (s : State) : State :=
  nvThroughW (nvPage (logPage s)) [s.upe.mid, s.upe.mseqNew, nw code, nw orig, lo32 s.clk.ts, hi32 s.clk.ts] s

/-- A VOTE message to every device (Table 20.6, R422): words 1 and 2 are MID and MSEQ; a STANDBY sends none (R348). -/
def voteSend (kind : Nat) (rest : List W) (s : State) : State :=
  if s.prl.role = .standby then s else joinQueue kind 0x3FF ([s.upe.mid, s.upe.mseqNew] ++ rest) s

/-- The accepted update command in progress completes OK with its code (R419). -/
def updDone (cmd : Nat) (code part r2 : Nat) (s : State) : State :=
  match s.kio.accepted.find? fun k => k.cmd == cmd && k.begun with
  | some k => kEnd k stOk (nw code) (nw part) (nw r2) s
  | none => s

/-- Local preparation is undone (Table 20.4): PREPARING, READY or ARMED to VERIFIED; the cause `logc` of device `orig` is
logged, E982 raised, the modules discard; the coordinator's commands complete with the code (R425, R431). -/
def updUndo (code part r2 logc orig : Nat) (s : State) : State :=
  let s0 := moduleCtrl 3 s
  let s1 := setPhase .verified { s0 with upe := { s0.upe with
    preparing := false, newPlan := none, newFw := none, commitTick := 0, coord := false, skipped := [] } }
  let s2 := updEvt 3 (updCode code part s1)
  let s3 := (updLog logc orig s2).raiseP 982 .uc (0x0A00 + code)
  updDone 0x0704 code part r2 (updDone 0x0703 code part r2 s3)

/-- Phases in which an update can be aborted (Table 20.4). -/
def updOpen (p : UpdPhase) : Bool := p == .preparing || p == .ready || p == .armed

/-- This device aborts the update (R419, R425): ABORT goes to the others. -/
def updAbortR (code part r2 : Nat) (s : State) : State :=
  if updOpen s.upe.phase then
    updUndo code part r2 code (updAddr s) (voteSend 0x33 [nw code, nw (updAddr s)] s)
  else s

/-- An abort without a RESULT2. -/
def updAbort (code part : Nat) (s : State) : State := updAbortR code part 0 s

/-- The first epoch boundary at least 400 ticks ahead (R428). -/
def nextFall (s : State) : Nat := s.nextTc 2000 400

/-- A STANDBY reports a cause to its LEAD in a STATUS message, RESULT0 the code (R428); MSEQ, of no mirrored command, is a free value
(log entry 24). -/
def causeStatus (code : Nat) (s : State) : State :=
  if s.prl.role = .standby && (updOpen s.upe.phase || s.upe.phase == .trial) then
    let (m, s1) := s.draw 0 0xFFFFFFFF
    { s1 with prl := { s1.prl with statusQ := s1.prl.statusQ ++ [(m, 0, nw code)] } }
  else s

/-- A cause of R428 on this device: in TRIAL, FALLBACK with F; more than 400 ticks before C an abort; within 400 ticks of C
it is treated as arising at C, so its F is fixed for the first boundary at least 400 ticks after C. A STANDBY reports its cause to the LEAD, which sends FALLBACK. -/
def updCause (code part : Nat) (s0 : State) : State :=
  let s := causeStatus code s0
  match s.upe.phase with
  | .trial =>
    (if s.upe.fallTick.isSome then s else
      let f := BitVec.ofNat 48 (nextFall s)
      let s1 := updCode code part { s with upe := { s.upe with fallTick := some f, fallLog := (code, updAddr s) } }
      updPage (if s.prl.role = .standby then s1
        else voteSend 0x34 [f.setWidth 32, (f >>> 32).setWidth 32, fld (updAddr s) 16 ||| fld code 0] s1))
  | .armed =>
    (if tickOf48 s.now s.upe.commitTick > s.now + 400 then updAbort code part s
     else updPage (updCode code part { s with upe := { s.upe with
       fallLog := (code, updAddr s)
       fallTick := some (BitVec.ofNat 48 (s.nextTc 2000 (tickOf48 s.now s.upe.commitTick + 400 - s.now))) } }))
  | _ => updAbort code part s

/-- MUPD_STATE of a link's module has been read (R424, R428): BAD at ACTIVATE is a cause of fallback. -/
def modState (l : Nat) (addr : W) (ws : List W) (s : State) : State :=
  if addr.bits 15 0 = 0x0044 && lat ws 0 0 = 3 && s.upe.phase == .trial then
    let t := (lat (s.lk l).hello 1 0).bits 15 0
    updCause 0x09 ((manPartList s (stageMan s)).findIdx fun p => p.kind == 3 && p.mtype == t) s
  else s

end Sys2Proof.Machine
end

