-- ==== Sys2Proof/Machine/RelOps.lean ====
section
/-!
DEFINITION. How a release ends (R42, R87, R91, R101, R115, R148): the mirror set, the counts and the engine's figures; how
one is abandoned; and the state a context takes over (R40, R116).
-/
namespace Sys2Proof.Machine

/-- The flags word (Table 3.2). -/
def flagsWord (x : Context) : W := flag x.fP 4 ||| flag x.fS 3 ||| flag x.fN 2 ||| flag x.fZ 1 ||| flag x.fC 0

/-- The mirror set of a context (R42): 64 words. -/
def mirrorWords (t : Task) (x : Context) : List W :=
  let m := fun (k : Nat) => vat x.acc k 0
  let loc := (List.range 23).map fun i => match t.mirror[i]? with
    | some a => Memory.readW x.loc (4 * a)
    | none => 0
  (List.range 31).map (fun i => vat x.regs (i + 1) 0) ++
  (List.range 4).flatMap (fun k => [(m k).extractLsb' 0 32, (m k).extractLsb' 32 32]) ++
  [((m 3).extractLsb' 64 8) ++ ((m 2).extractLsb' 64 8) ++ ((m 1).extractLsb' 64 8) ++ ((m 0).extractLsb' 64 8), flagsWord x] ++ loc

/-- Accumulator `k` of a mirror set. -/
def mirrorAcc (ws : List W) (k : Nat) : Acc :=
  ((lat ws 39 0).extractLsb' (8 * k) 8) ++ (lat ws (32 + 2 * k) 0) ++ (lat ws (31 + 2 * k) 0)

/-- A context with the registers, accumulators, flags and named LOCAL words of a mirror set (R116). -/
def loadMirror (t : Task) (ws : List W) (x : Context) : Context :=
  let f := lat ws 40 0
  { x with
    regs := Vector.ofFn fun i => if i.val = 0 then 0 else lat ws (i.val - 1) 0
    acc := Vector.ofFn fun i => mirrorAcc ws i.val
    fP := f.bit 4, fS := f.bit 3, fN := f.bit 2, fZ := f.bit 1, fC := f.bit 0
    loc := (List.range 23).foldl (fun m i => match t.mirror[i]? with
      | some a => Memory.writeW m (4 * a) (lat ws (41 + i) 0)
      | none => m) x.loc }

/-- The LOCAL space with the image's initial values (R40). -/
def initLocal (t : Task) : List Host.Cell := Memory.writeWs [] 0 t.localInit

/-- Registers, accumulators and flags 0 and LOCAL at its initial values (R40). -/
def coldRegs (t : Task) (x : Context) : Context :=
  { x with regs := Vector.replicate 32 0, acc := Vector.replicate 4 0, fS := false, fZ := false, fN := false, fC := false,
           fP := false, loc := initLocal t }

/-- Cycles of an engine's clock in a tick (R35): 600 of LCLK, 300 of SCLK. -/
def tickCycles (e : Nat) : Nat := if e < 48 then 600 else 300

/-- The cycle at which a release of tick `t` starts dispatch on engine `e`: the start of its tick, or the end of the release before
it (R85, R135). -/
def startOf (s : State) (e t : Nat) : Nat := max (tickCycles e * t) (s.engine e).busy

/-- The engine is fenced. -/
def fencedEng (s : State) (e : Nat) : Bool := (s.engine e).fenced

/-- The loop engine that receives the mirror sets of loop engine `k` (R42, R115). -/
def mirrorDest (s : State) (k : Nat) : Nat := nextUp (fencedEng s) k

/-- The mirror copy of a loop context (R42, R115, R139). -/
def mirrorCopy (c : Nat) (ws : List W) (s : State) : State :=
  let k := c / 8
  let slot := c % 8
  s.modEng (mirrorDest s k) fun g =>
    { g with mirrorRx := (g.mirrorRx.filter fun x => !(x.1 == k && x.2.1 == slot)) ++ [(k, slot, ws)] }

/-- The mirror set of a slot, where an engine that is not fenced holds it (R115, R117). -/
def mirrorFind (s : State) (k slot : Nat) : Option (List W) :=
  (List.range 48).findSome? fun e =>
    if fencedEng s e then none
    else (s.engine e).mirrorRx.findSome? fun x => if x.1 == k && x.2.1 == slot then some x.2.2 else none

/-- Fall of the ARMING counts at END of a release that was dispatched in the same ARMING (R101), also where the channel has entered
HOLD since; a shadow's release counts for nothing, nor does one that ends abnormally (log entry 63). -/
def armCounts (r : Rel) (s : State) : State :=
  if r.shadow then s else (List.range r.prog.chans.length).foldl (fun s i =>
    match r.prog.chans[i]? with
    | some (own, n) =>
      if own && r.arming.any (·.val == n) && r.fresh.contains i then
        s.modCh n fun c => if (c.st = .arming || (c.st = .hold && c.before = .arming)) && c.armTick ≤ r.tick && c.armLeft > 0
          then { c with armLeft := c.armLeft - 1, armZero := if c.armLeft = 1 then s.now else c.armZero } else c
      else s
    | none => s) s

/-- A context's contents move whole to another context (R148). -/
def moveCtx (a b : Nat) (s : State) : State :=
  let x := s.cx a
  (s.modCx a fun _ => { Context.init with task := none }).modCx b fun _ => { x with rel := none, wait := none }

/-- A relay's state goes to the relay context of the next survivor (R148). -/
def relayMove (c : Nat) (s : State) : State :=
  match (s.cx c).task with
  | none => s
  | some n =>
    match s.adm.place.find? fun p => p.task == n.toNat && p.relay with
    | none => s
    | some p =>
      let e := nextUp (fencedEng s) p.eng
      let b := relayCtx s.adm.place e
      let s1 := moveCtx c b s
      { s1 with adm := { s1.adm with place := s1.adm.place.map fun q =>
          if q.task == p.task then { q with eng := e, ctx := b } else q } }

/-- The figures of an engine after a release of `cost` cycles from cycle `start` on (R135, R477). -/
def engDone (e start cost : Nat) (s : State) : State :=
  (s.modEng e fun g => { g with busy := start + cost }).modStat e fun x =>
    { x with busyNow := x.busyNow + cost, peak := max x.peak cost }

/-- The end of a release of an L or U context whose END issues at cycle `t` (R42, R87, R101, R148, R363). -/
def endRelease (c t : Nat) (r : Rel) (s : State) : State :=
  let e := engOfCtx c
  let ws := mirrorWords r.prog (s.cx c)
  let s1 := if c < 384 then mirrorCopy c ws s else s.modCx c fun x => { x with mirror := ws }
  let s2 := armCounts r s1
  let s3 := engDone e r.start (6 + t + 1) s2
  let s4 := s3.modCx c fun x => { x with rel := none }
  if r.shadow then s4
  else relayMove c { s4 with prl := { s4.prl with sdigSets := s4.prl.sdigSets ++ [(e, (s4.engine e).busy, ws.take 41)] } }

/-- The values a release staged are discarded: the channels keep what was last moved and last staged (R91). -/
def discardStaged (r : Rel) (s : State) : State :=
  if r.shadow then s else (List.range r.prog.chans.length).foldl (fun s k =>
    match r.prog.chans[k]? with
    | some (true, n) => s.modCh n fun c => { c with
        staged := c.staged.filter fun g => g.tick != r.tick + r.prog.deadline
        stCmd := lat r.ports (16 * k + 8) c.stCmd
        stMode := lat r.ports (16 * k + 9) c.stMode }
    | _ => s) s

/-- The release a context runs is abandoned with nothing staged, and one that waits is not dispatched (R91, R116). -/
def abandon (c : Nat) (s : State) : State :=
  let s1 := s.modCx c fun x => { x with wait := none }
  match (s.cx c).rel with
  | none => s1
  | some r => (discardStaged r s1).modCx c fun x => { x with rel := none }

/-- The release a context runs ends at its present instruction (R56, R89): what it staged and stored stands; the engine
control-fault source is raised with the task number as payload (R376). Such an end lowers no ARMING count (log entry 63). -/
def abortRelease (c code : Nat) (s : State) : State :=
  let s0 := match (s.cx c).rel with
    | some r => engDone (engOfCtx c) r.start (6 + r.cyc) s
    | none => s
  let s1 := s0.modCx c fun x => { x with rel := none }
  s1.raise (ctrlSrc (engOfCtx c)) .uc code (nw (taskNum s c)) c (taskNum s c)

end Sys2Proof.Machine
end

