-- ==== Sys2Proof/Machine/Operands.lean ====
section
/-!
DEFINITION. The operands of engine instructions: registers and v0 (R38), conditions (R52, Table 3.6), the memory spaces
(R44 to R49, Table 3.3) and what a descriptor grants (R55, R67).
-/
namespace Sys2Proof.Machine

/-- The context belongs to a sequencer engine (R35). -/
def isS (c : Nat) : Bool := 384 ≤ c && c < 448

/-- Register `n` of a context: v0 reads 0 in L and U (R38). -/
def reg (c : Nat) (x : Context) (n : Nat) : W := if n = 0 && !isS c then 0 else vat x.regs n 0

/-- Write register `n`; a write to v0 is discarded in L and U (R38). -/
def setReg (c n : Nat) (v : W) (x : Context) : Context :=
  if n = 0 && !isS c then x else { x with regs := vput x.regs n v }

/-- Z and N from a result (R68). -/
def setZN (v : W) (x : Context) : Context := { x with fZ := v == 0, fN := v.msb }

/-- The flags of a result (R68). -/
def setFlags (r : Res) (x : Context) : Context :=
  let x1 := if r.zn then setZN r.v x else x
  { x1 with fC := r.c.getD x1.fC, fS := r.s.getD x1.fS }

/-- Write a result and its flags to `d`: nothing for v0 (R38); S contexts have no flags (Table 3.2). -/
def setRes (c d : Nat) (r : Res) (x : Context) : Context :=
  if isS c then setReg c d r.v x
  else if d = 0 then x
  else setFlags r (setReg c d r.v x)

/-- A condition of Table 3.6. -/
def condTrue (x : Context) (cond : Nat) : Bool :=
  match cond with
  | 0 => true
  | 1 => x.fZ
  | 2 => !x.fZ
  | 3 => x.fN
  | 4 => !x.fN
  | 5 => x.fC
  | 6 => !x.fC
  | 7 => x.fS
  | 8 => !x.fS
  | 9 => x.fP
  | 10 => !x.fP
  | 11 => !x.fZ && !x.fN
  | 12 => x.fZ || x.fN
  | _ => false

/-! Memory spaces (Table 3.3). -/

/-- A TABLE address is in range (R49). -/
def tableIn (t : Task) (a : Nat) : Bool := a < tableLen t.t0Log2 || (0x1000 ≤ a && a < 0x1000 + tableLen t.t1Log2)

/-- An address is inside a space of a task (R44, R49). -/
def inSpace (t : Task) (sp a : Nat) : Bool :=
  match sp with
  | 0 => a < t.localLen
  | 1 => t.profile == .l && a < 128
  | 2 => tableIn t a
  | 3 => a < t.shLen
  | 4 => a < 16 * t.chans.length
  | 5 => a < t.paramLen
  | 6 => a < 16
  | _ => false

/-- Byte address in shared task memory of a SHARED or PARAM word of a task (R46). -/
def sharedAt (t : Task) (sp a : Nat) : Nat := 4 * ((if sp = 3 then t.shBase else t.paramAt) + a)

/-- Read a word of a space, the address being in range. -/
def spaceRead (s : State) (c : Nat) (r : Rel) (sp a : Nat) : W :=
  let x := s.cx c
  match sp with
  | 0 => Memory.readW x.loc (4 * a)
  | 1 => Memory.readW (if r.bank then x.bank1 else x.bank0) (4 * a)
  | 2 => if a < 0x1000 then Memory.readW x.t0.mem (4 * a) else Memory.readW x.t1.mem (4 * (a - 0x1000))
  | 3 | 5 => Memory.readW s.shared (sharedAt r.prog sp a)
  | 6 => vat x.stat a 0
  | _ => 0

/-- Write a word of a space, the address being in range (R79). -/
def spaceWrite (c : Nat) (r : Rel) (sp a : Nat) (v : W) (s : State) : State :=
  match sp with
  | 0 => s.modCx c fun x => { x with loc := Memory.writeW x.loc (4 * a) v }
  | 2 => s.modCx c fun x =>
      if a < 0x1000 then { x with t0 := { x.t0 with mem := Memory.writeW x.t0.mem (4 * a) v } }
      else { x with t1 := { x.t1 with mem := Memory.writeW x.t1.mem (4 * (a - 0x1000)) v } }
  | 3 | 5 => { s with shared := Memory.writeW s.shared (sharedAt r.prog sp a) v }
  | _ => s

/-! Grants (R55, R67). -/

/-- The part of R55 and R67 that the descriptor decides, for the instruction at word `pc` of the code section. -/
def grantsOk (t : Task) (pc : Nat) (i : Insn) : Bool :=
  (!opIsE i.op || pc + 1 < t.code.length) &&
  (match i.op with
   | 0x40 => inSpace t i.space i.addr
   | 0x41 => inSpace t i.space i.addr && (t.profile != .s || i.space != 5 || 48 ≤ i.addr)
   | 0x44 => i.addr < 16 * t.chans.length
   | 0x45 => i.addr < 16 * t.chans.length && (i.addr % 16 == 8 || i.addr % 16 == 9) &&
      (lat t.chans (i.addr / 16) (false, 0)).1
   | 0x36 => (if i.md % 2 = 0 then t.t0Log2 else t.t1Log2) != 0
   | 0x37 => t.checks.any (·.num == i.md % 4)
   | 0x50 => i.a < t.chans.length || (t.chans.isEmpty && i.a == 0)
   | 0x51 => t.recw.isSome
   | 0x7B => t.recw.isSome
   | 0x81 => i.a != 0 || t.ledgers.contains (i.imm / 256)
   | 0x84 => t.jwr.contains (i.imm / 4)
   | 0x85 => t.pgens.contains i.md
   | 0x70 | 0x71 | 0x72 => i.imm % 8 < t.chans.length
   | 0x73 => i.imm / 1024 == 0 || i.imm % 8 < t.chans.length
   | 0x74 => i.imm % 8 < t.chans.length
   | _ => true)

/-- The plausibility check `k` of a task. -/
def checkOf (t : Task) (k : Nat) : Option CheckDecl := t.checks.find? (·.num == k)

end Sys2Proof.Machine
end

