-- ==== Sys2Proof/Machine/Cold.lean ====
section
/-!
DEFINITION. How a context starts: repetitive tables recalled or ramped (R111, R112), the cold start (R40, R102), the copies
of the coefficient banks (R103, R107) and the state a moved task takes (R116, R117).
-/
namespace Sys2Proof.Machine

/-- Bytes of a coefficient bank (R103). -/
def bankBytes : Nat := 512

/-- A table that starts ramped (R111): zeroed; learning at full gain at once when RAMP is 0 (Table 5.13). -/
def rampTable (ramp : Nat) (tb : RptTable) : RptTable :=
  { tb with mem := [], n := 0, st := if ramp = 0 then 1 else 0 }

/-- EDGES and INDEX of a task's SHAFT source (R112, Table 5.16). -/
def phaseCfg (s : State) (t : Task) : Nat × Bool :=
  if 1 ≤ t.phaseSrc && t.phaseSrc ≤ 4 then
    let w := (vat s.shaft (t.phaseSrc - 1) Shaft.init).cfg
    (w.bits 12 0, w.bit 14)
  else (0, false)

/-- Word 0 of a table's record: what must match at recall (R112; layout: log entry 28). -/
def tableKey (s : State) (t : Task) (k : Nat) : W :=
  let p := phaseCfg s t
  fld (if k = 0 then t.t0Log2 else t.t1Log2) 28 ||| fld t.phaseSrc 24 ||| flag p.2 16 ||| fld p.1 0

/-- The NV record of table `k` (Table 6.5). -/
def tableRec (t : Task) (k : Nat) : Option Nat :=
  (t.tblrec.find? fun x => x.1 == (k == 1)).map (·.2)

/-- Where a table's payload comes from (R111, R362): the record, or on a STANDBY what the LEAD sent in NVVAL. -/
def tablePayload (id : Nat) (s : State) : Option (List W) × State :=
  if s.prl.role = .standby && s.prl.link = .up then
    (assocGet (s.prl.nvval.map fun x => (x.1.toNat, x.2)) id, s)
  else
    let (r, p, _, s1) := recChoose (BitVec.ofNat 16 id) s
    (if r = 3 then none else some p, s1)

/-- One table at a cold restart of context `c` (R111, R112). -/
def coldTable (c : Nat) (t : Task) (k : Nat) (s : State) : State :=
  let lg := if k = 0 then t.t0Log2 else t.t1Log2
  let ramp := if k = 0 then t.t0Ramp else t.t1Ramp
  let put := fun (f : RptTable → RptTable) (s : State) => s.modCx c fun x => if k = 0 then { x with t0 := f x.t0 } else { x with t1 := f x.t1 }
  if lg = 0 then s
  else
    match tableRec t k with
    | none => put (rampTable ramp) s
    | some id =>
      let (p, s1) := tablePayload id s
      match p with
      | some ws =>
        if lat ws 0 0 = tableKey s1 t k && ws.length == 5 + 2 ^ lg then
          put (fun _ => { mem := Memory.writeWs [] 0 (ws.drop 5), st := 2, rfail := false, n := 0 }) s1
        else tableFail c t k ramp put s1
      | none => tableFail c t k ramp put s1
where
  /-- A recall that fails (R112): the table ramps, RFAIL is set and E(4n) raised at class CE. -/
  tableFail (c : Nat) (t : Task) (_k ramp : Nat) (put : (RptTable → RptTable) → State → State) (s : State) : State :=
    let s1 := put (fun x => { rampTable ramp x with rfail := true }) s
    s1.raiseP ((boundCh t).elim (taskSrc (engOfCtx c)) (4 * ·)) .ce 0x1005 c t.num

/-- The working values of a library instance at a cold restart that keeps its block: what goes with the block stays, a latch's tick and
the presence taken (R262), and the feeds that Cap has shed (R272; log entry 67). -/
def coldLib (x : LibSt) : LibSt := { LibSt.init with latch := x.latch, presKnown := x.presKnown, shed := x.shed }

/-- A cold restart of the task in context `c` (R40, R102): STAT word 3 reads 1, and a library instance clears VALID (R64). -/
def coldStart (c : Nat) (t : Task) (s : State) : State :=
  let s1 := s.modCx c fun x => { coldRegs t x with cold := false, reason := 1, lib := coldLib x.lib }
  let s2 := if t.lib.isSome then parmPut t 3 (parm s1 t 3 &&& 0xFFFFFFFE) s1 else s1
  coldTable c t 1 (coldTable c t 0 s2)

/-- Both banks of a context from their copy in shared task memory (R107). -/
def loadBanks (s : State) (t : Task) (x : Context) : Context :=
  { x with bank0 := Memory.writeWs [] 0 (Memory.readWs s.shared (4 * t.bankAt) 128)
           bank1 := Memory.writeWs [] 0 (Memory.readWs s.shared (4 * t.bankAt + bankBytes) 128) }

/-- Write word `w` of bank `b1` of a context, and its copy (R103). -/
def bankPut (c : Nat) (t : Task) (b1 : Bool) (w : Nat) (v : W) (s : State) : State :=
  let s1 := s.modCx c fun x =>
    if b1 then { x with bank1 := Memory.writeW x.bank1 (4 * w) v } else { x with bank0 := Memory.writeW x.bank0 (4 * w) v }
  shPut (t.bankAt + (if b1 then 128 else 0) + w) v s1

/-- CRC-32C of a bank (R104). -/
def bankCrc (x : Context) (b1 : Bool) : W := crc32cW (Memory.readWs (if b1 then x.bank1 else x.bank0) 0 128)

/-- What the receiving context of a task that a fence moved holds (R116, R117): with its mirror set, what that holds, LOCAL
words not named from the image, banks from their copy, tables ramped, checks anew (R78); without one it restarts cold. -/
def movedCtx (s : State) (t : Task) (old : Context) (ws : Option (List W)) : Context :=
  let base := { old with rel := none, wait := none, cold := false, chk := Vector.replicate 4 0, t0 := rampTable t.t0Ramp old.t0,
                         t1 := rampTable t.t1Ramp old.t1, loc := initLocal t }
  match ws with
  | some w => { loadBanks s t (loadMirror t w base) with reason := 2 }
  | none => { loadBanks s t (coldRegs t base) with cold := true }

/-- An S context after a move (R178): s registers, step timer and LOCAL words reset, STAT word 3 reads 2; a program in UP,
DOWN or FAULT restarts at the first word of its entry, a RETRY delay in full. -/
def movedSeq (s : State) (t : Task) (old : Context) : Context :=
  let q := old.seq
  let w2 := parm s t 2
  let entry := match q.st with
    | .up => w2.bits 15 0
    | .down => w2.bits 31 16
    | .fault => (parm s t 3).bits 15 0
    | _ => q.resume
  let prog := q.st == .up || q.st == .down || q.st == .fault
  { coldRegs t old with
    rel := none, wait := none, reason := 2
    seq := { q with timer := 0, wait := .none, resume := entry, calls := if prog then [] else q.calls,
                    retryLeft := if q.st == .retryWait then q.retryFull else q.retryLeft } }

/-! The change to new code at an update, and back (R418, R426, R428). -/

/-- The LOCAL words of the new code: what the state map takes from the old ones, else the initial values (R418, R426). -/
def mapLocal (smap : List (Nat × Nat × Bool × Nat)) (t : Task) (old : List Host.Cell) : List Host.Cell :=
  smap.foldl (fun m e =>
    if e.1 = t.num && e.2.2.1 then Memory.writeW m (4 * e.2.1) (Memory.readW old (4 * e.2.2.2)) else m) (initLocal t)

/-- The LOCAL words of the old code at a fallback: those the map names take the value of their new word (R428). -/
def unmapLocal (smap : List (Nat × Nat × Bool × Nat)) (t : Task) (old new : List Host.Cell) : List Host.Cell :=
  smap.foldl (fun m e =>
    if e.1 = t.num && e.2.2.1 then Memory.writeW m (4 * e.2.2.2) (Memory.readW new (4 * e.2.1)) else m) old

/-- A table of unchanged declared length keeps its storage, any other starts ramped (R426). -/
def overTable (lgOld lgNew ramp : Nat) (x : RptTable) : RptTable := if lgOld = lgNew then x else rampTable ramp x

/-- A sequence whose code section differs restarts its present entry at its first word (R178, R426). -/
def overSeq (s : State) (t : Task) (same : Bool) (q : SeqRec) : SeqRec :=
  let w2 := parm s t 2
  match same, q.st with
  | false, .up => { q with resume := w2.bits 15 0, calls := [], wait := .none, timer := 0 }
  | false, .down => { q with resume := w2.bits 31 16, calls := [], wait := .none, timer := 0 }
  | false, .fault => { q with resume := (parm s t 3).bits 15 0, calls := [], wait := .none, timer := 0 }
  | _, _ => q

/-- A continuing task's first release, step or window at or after C or F (R426, R428): STAT word 3 reads 3. -/
def changeOver (c : Nat) (t : Task) (s : State) : State :=
  let put := fun (u : Task) (loc : List Host.Cell) (s : State) => s.modCx c fun x => { x with
    loc := loc, reason := 3, t0 := overTable u.t0Log2 t.t0Log2 t.t0Ramp x.t0, t1 := overTable u.t1Log2 t.t1Log2 t.t1Ramp x.t1
    seq := overSeq s t (u.code == t.code) x.seq }
  match s.upe.back.find? (·.1 == t.num), s.upe.old with
  | some (n, cells), _ =>
    put t (unmapLocal s.upe.smap t cells (s.cx c).loc) { s with upe := { s.upe with back := s.upe.back.filter (·.1 != n) } }
  | none, some o =>
    match o.img.bind (·.task? t.num) with
    | some u =>
      if o.locals.any (·.1 == t.num) then s
      else put u (mapLocal s.upe.smap t (s.cx c).loc)
        { s with upe := { s.upe with old := some { o with locals := o.locals ++ [(t.num, (s.cx c).loc)] } } }
    | none => s
  | none, none => s

/-- A U context after a move (R152): the task resumes cold, its checks at 0 (R78). -/
def movedU (t : Task) (old : Context) : Context :=
  { coldRegs t old with rel := none, wait := none, cold := true, chk := Vector.replicate 4 0 }

end Sys2Proof.Machine
end

