-- ==== Sys2Proof/Machine/Fence.lean ====
section
/-!
DEFINITION. Fencing (R116, R152, R205, R251, R382, R383) and block reset (Table 18.3): what each does to the unit, and the
fallback plan that follows the fence of an engine.
-/
namespace Sys2Proof.Machine

/-- The partner state DEGRADED of Table 17.9: a fence on a STANDBY while the pair is formed (R370). -/
def fencePair (s : State) : State :=
  if s.prl.role == .standby && pairFormed s then { s with prl := { s.prl with pst := .degraded } }
  else s

/-- A prepared shadow table is dropped: the contexts of tasks that stand elsewhere are freed (R386). -/
def dropShadow (s : State) : State :=
  match s.adm.shadow with
  | none => s
  | some (_, _, pl) =>
    let s1 := pl.foldl (fun s q =>
      if s.adm.place.any fun p => p.ctx == q.ctx then s else s.modCx q.ctx fun _ => Context.init) s
    { s1 with adm := { s1.adm with shadow := none } }

/-- A fence before E2 ends REBALANCE with CANCELLED (R386). -/
def fenceCancel (s : State) : State :=
  let s1 := dropShadow s
  match s1.kio.accepted.find? fun k => k.cmd == 0x0502 && k.begun with
  | some k => kStatus k stCancelled s1
  | none => s1

/-- Every release that runs on an engine is abandoned (R116). -/
def abandonEng (e : Nat) (s : State) : State :=
  let (b, n) := ctxBase e
  (List.range n).foldl (fun s k => abandon (b + k) s) s

/-- What every fence does besides isolating its unit: an update falls back or aborts (R382). -/
def fenceUpdate (s : State) : State := updCause 0x0B 0 s

/-- The loop engines of the fenced set in the order of their fences (R383, R385): FIRST, SECOND, and those of moves that are
not yet in force. -/
def fencedOrder (s : State) : List Nat :=
  match s.adm.move.getLast? with
  | some (_, l) => l.filter (· < 48)
  | none => ([s.adm.first, s.adm.second].map (·.toNat)).filter (· < 48)

/-- Sequencer and supervisory engines lost, as the moves so far count them. -/
def lostSU (s : State) : List Nat :=
  match s.adm.move.getLast? with
  | some (_, l) => l.filter (48 ≤ ·)
  | none => []

/-- The moves that fences of earlier ticks began (Table 5.6). -/
def earlierMoves (s : State) : List (Nat × List Nat) := s.adm.move.filter fun m => m.1 != s.now + 4

/-- Loop engines lost by the end of tick f − 1: the set before the fences of this tick (R146). -/
def orderBefore (s : State) : List Nat := fencedOrder { s with adm := { s.adm with move := earlierMoves s } }

/-- A fence of this tick joins the move of this tick: its table comes into force at f + 4 (Table 5.6). -/
def moveNow (l : List Nat) (s : State) : State :=
  { s with adm := { s.adm with move := earlierMoves s ++ [(s.now + 4, l)] } }

/-- Engines fenced in the same tick stand in ascending order behind those fenced `before` (R146). -/
def fenceAppend (before l : List Nat) (k : Nat) : List Nat :=
  before ++ sortBy (· ≤ ·) (l.drop before.length ++ [k])

/-- FENCE_K of the image in force (Table 6.1). -/
def fenceK (s : State) : Nat := match s.adm.img with
  | some g => g.fenceK
  | none => 0

/-- A fence that no plan covers (R383): the tasks of the newly fenced engine stop, their OWNED channels enter SAFE at the start
of the next tick, and E983 is raised with the engine number; its code is not stated (a free value). -/
def engBeyond (s : State) (k : Nat) : State :=
  let s1 := { s with fcr := { s.fcr with beyond := true } }
  let mine := s1.adm.place.filter (·.eng == k)
  let s2 := mine.foldl (fun s q =>
    match taskNo s q.task with
    | some t => t.chans.foldl (fun s x => if x.1 then askSafe x.2 s else s) s
    | none => s) s1
  let (code, s3) := s2.draw 0 0xFFFF
  s3.raise 983 .uc code (nw k)

/-- The moves without the loop engines fenced in this tick: what a fence beyond the plans leaves (R383). -/
def movesBeyond (s : State) : List (Nat × List Nat) :=
  if (lostSU s).isEmpty then earlierMoves s
  else earlierMoves s ++ [(s.now + 4, orderBefore s ++ lostSU s)]

/-- The fences of this tick leave a set without a plan (R146, R383): the plan in force stays, no engine of this tick moves its
tasks, and each that has not reported yet does. -/
def fenceBeyond (k : Nat) (s : State) : State :=
  let mine := ((fencedOrder s).drop (orderBefore s).length) ++ [k]
  mine.foldl engBeyond { s with adm := { s.adm with move := movesBeyond s } }

/-- Loop engines in the fenced set: fenced or spare (R383). -/
def fencedCount (s : State) : Nat :=
  ((List.range 48).filter fun e => (s.engine e).fenced || s.fcr.spareLe.getLsbD e).length

/-- FENCE of a loop engine (R116, R382, R383). -/
def fenceLE (k : Nat) (s : State) : State :=
  if (s.engine k).fenced then s
  else
    let s1 := fenceUpdate (fenceCancel (fencePair s))
    let s2 := abandonEng k ((s1.modEng k fun g => { g with fenced := true }))
    let inSet := (fencedOrder s2).contains k
    let s3 := { s2 with fcr := { s2.fcr with spareLe := bitPut s2.fcr.spareLe k false } }
    if inSet then s3
    else
      let l := fenceAppend (orderBefore s3) (fencedOrder s3) k
      if s3.adm.img.isNone then s3
      else if fencedCount s3 > fenceK s3 then fenceBeyond k s3
      else moveNow (l ++ lostSU s3) s3

/-- FENCE of a sequencer or supervisory engine (R152, R382). -/
def fenceSU (e : Nat) (s : State) : State :=
  if (s.engine e).fenced then s
  else
    let s1 := fenceUpdate (fenceCancel (fencePair s))
    let s2 := abandonEng e (s1.modEng e fun g => { g with fenced := true })
    let i := if e < 0x48 then e - 0x40 else 4 + (e - 0x48)
    let s3 := { s2 with fcr := { s2.fcr with spareMisc := bitPut s2.fcr.spareMisc i false } }
    let others := (List.range 4).any fun j =>
      let f := if e < 0x48 then 0x40 + j else 0x48 + j
      f != e && (s3.engine f).fenced
    match s3.adm.img with
    | some g =>
      if g.suReserve && !others && s3.adm.place.any (·.eng == e)
      then moveNow (fencedOrder s3 ++ lostSU s3 ++ [e]) s3
      else s3
    | none => s3

/-- FENCE of an SLC (R205, Table 5.4 row 1): it sends nothing; its channels are FENCED. -/
def fenceSlc (l : Nat) (s : State) : State :=
  if (s.lk l).fenced then s
  else
    let s1 := fenceUpdate (fencePair s)
    let s2 := (linkDown l s1).modLk l fun x => { x with fenced := true, txIdle := true, devTx := [], hostTx := [] }
    [3 * l, 3 * l + 1, 3 * l + 2].foldl (fun s n => s.modCh n fun c => { c with fenceReq := true }) s2

/-! Recorder banks (R251). -/

/-- B of R244: blocks that trigger `g` reserves in tier `t`. -/
def trigBlocks (b : Bbr) (g : Trig) (t : Nat) : Nat :=
  if trigTier g t then
    let (pre, post) := lat (declWin g) t (0, 0)
    let u := tierD t
    let pre := if trigSource g = 3 then pre + ceilDiv 400 u else pre
    ceilDiv ((pre + post) * u) (tierD t * rowsPer b t) + 2
  else 0

/-- Blocks of a tier that its banks still hold. -/
def tierBlocks (b : Bbr) (t : Nat) : Nat :=
  ((List.range (b.tier t).blks.length).filter fun n => !(b.fenced.getLsbD (tierBank t n))).length

/-- The reservations of R246 in tier `t`: the triggers that still count, orphan blocks and the live reserve of 8. -/
def tierNeed (b : Bbr) (t : Nat) (counts : Nat → Trig → Bool) : Nat :=
  sumNat ((List.range 32).map fun i =>
    let g := vat b.trig i Trig.init
    if g.decl && counts i g then trigBlocks b g t else 0) +
  ((b.tier t).blks.filter (·.orph != 0)).length + 8

/-- ARMED triggers that freeze tier `t` are disarmed in descending id until the reservations fit (R251). A trigger that is
IDLE reserves no longer. -/
def disarm (t : Nat) (s : State) : State :=
  (List.range 32).reverse.foldl (fun s i =>
    let g := vat s.bbr.trig i Trig.init
    if tierNeed s.bbr t (fun _ g => g.st != .idle) > tierBlocks s.bbr t && g.st == .armed && trigTier g t then
      let s1 := { s with bbr := { s.bbr with trig := vmod s.bbr.trig i fun g => { g with st := .idle } } }
      s1.raiseC 952 .uc
    else s) s

/-- A stream loses a block of a fenced bank that it has still to export, of its tier or of a frozen window (R251). -/
def strmFence (t n : Nat) (k : Blk) (i : Nat) (x : Strm) : Strm :=
  let mine := fun (w : Nat × Nat × Nat × Nat) => w.2.2.1 == t && w.2.2.2 == n
  let y := { x with frozen := x.frozen.filter fun w => !(mine w) }
  if x.isOpen && ((k.closed && k.todo.getLsbD i) || x.frozen.any mine) then
    { y with drops := y.drops + 1, gaps := gapAdd y.gaps t k.first k.last 3 }
  else y

/-- One tier loses the blocks of bank `k` (R251). -/
def bankLose (k t : Nat) (s : State) : State :=
  let b := s.bbr
  let x := b.tier t
  let ns := (List.range x.blks.length).filter fun n => tierBank t n == k
  let held := ns.foldl (fun (w : W) n => w ||| (blkOf b t n).holders) 0
  let b1 := ns.foldl (fun b n =>
    let y := blkOf b t n
    let b := { b with strm := vmapIdx b.strm (strmFence t n y) }
    b.modBlk t n fun _ => Blk.init) b
  let b2 := if ns.contains x.opn then b1.modTier t fun x => { x with isOpen := false } else b1
  { s with bbr := { b2 with
    trig := vmapIdx b2.trig fun i g => if held.getLsbD i then { g with damaged := true } else g
    olds := b2.olds.map fun w =>
      if w.blks.any fun p => p.1 == t && tierBank t p.2 == k then
        { w with damaged := true, blks := w.blks.filter fun p => !(p.1 == t && tierBank t p.2 == k) }
      else w } }

/-- FENCE of a recorder bank (R251, Table 17.9: the pair stays in sync). -/
def fenceBank (k : Nat) (s : State) : State :=
  if s.bbr.fenced.getLsbD k then s
  else
    let s1 := fenceUpdate s
    let s2 := { s1 with bbr := { s1.bbr with fenced := bitPut s1.bbr.fenced k true } }
    let tiers := (List.range 3).filter fun t => (List.range (s2.bbr.tier t).blks.length).any fun n => tierBank t n == k
    tiers.foldl (fun s t => disarm t (bankLose k t s)) s2

/-- FENCE of the unit of a source at once (Table 18.1). -/
def fenceUnit (src : Nat) (s : State) : State :=
  if 768 ≤ src && src < 816 then fenceLE (src - 768) s
  else if 864 ≤ src && src < 868 then fenceSU (0x40 + (src - 864)) s
  else if 868 ≤ src && src < 872 then fenceSU (0x48 + (src - 868)) s
  else if 880 ≤ src && src < 944 then fenceSlc (src - 880) s
  else if 944 ≤ src && src < 952 then fenceBank (src - 944) s
  else s

/-- The source is of a loop, sequencer or supervisory engine or of an SLC: its fence makes a LEAD yield (R366). -/
def yieldsFirst (src : Nat) : Bool :=
  (768 ≤ src && src < 816) || (864 ≤ src && src < 872) || (880 ≤ src && src < 944)

/-- FENCE of the unit of a source: a LEAD whose STANDBY is IN_SYNC yields at the next tick start and fences after it (R366). -/
def fenceSrc (src : Nat) (s : State) : State :=
  if leadInSync s && yieldsFirst src then
    { s with prl := { s.prl with yieldReq := some .degraded }, fcr := { s.fcr with fenceAfter := s.fcr.fenceAfter ++ [src] } }
  else fenceUnit src s

/-- A yield that was asked for takes place (R366), and the fences that waited for it follow. -/
def yieldDue (s : State) : State :=
  match s.prl.yieldReq with
  | none => s
  | some p =>
    let s1 := { s with prl := { s.prl with yieldReq := none }, fcr := { s.fcr with fenceAfter := [] } }
    s.fcr.fenceAfter.foldl (fun s x => fenceUnit x s) (if leadInSync s1 then yieldPair p s1 else s1)

/-! Block reset (Table 18.3). -/

/-- The kiosk session ends without a CLOSE by the host (R210, R473); accepted commands run on without completion entries. -/
def sessionLost (s : State) : State :=
  muteAll { s with kio := { s.kio with isOpen := false, result := 0 } }

/-- The recorder as its registers reset; the section in force, its triggers' declarations and fences stay, and the export unit,
which is not it, keeps its streams but has nothing more to export (log entry 29). -/
def resetBbr (b : Bbr) : Bbr :=
  { Bbr.init with
    fenced := b.fenced, sect := b.sect, run := b.run, mapCrc := b.mapCrc, lastRow := b.lastRow
    strm := b.strm.map fun x => { x with frozen := [] }
    trig := b.trig.map fun g => { Trig.init with decl := g.decl, words := g.words } }

/-- A channel's thermal model as its registers reset, its thermal block kept (log entry 29). -/
def resetTherm (x : Therm) : Therm := { Therm.init with blk := x.blk, serial := x.serial, noblock := x.noblock }

/-- A ledger as its registers reset, its binding kept (log entry 29). -/
def resetLedger (x : Ledger) : Ledger := { Ledger.init with chan := x.chan, cpc := x.cpc }

/-- The reset of a source's unit (Table 18.3; log entry 29). -/
def unitReset (src : Nat) (s : State) : State :=
  if src = 952 then rowsRestart { s with bbr := resetBbr s.bbr }
  else if src = 953 then { s with bbr := { s.bbr with strm := Vector.replicate 4 Strm.init } }
  else if src = 954 then
    { s with shaft := s.shaft.map fun x => { Shaft.init with cfg := x.cfg }, pg := Vector.replicate 8 PGen.init }
  else if 955 ≤ src && src ≤ 958 then s.modTw (src - 955) fun x => { Twp.init with xfer := x.xfer, queue := x.queue }
  else if src = 959 then { s with jnb := Jnb.init }
  else if src = 960 then { s with prl := { Prl.init with
    role := s.prl.role, side := s.prl.side, strapped := s.prl.strapped, pst := s.prl.pst, compat := s.prl.compat } }
  else if src = 961 then sessionLost { s with kio := { s.kio with pcieLanes := 0, pcieSpeed := 0 } }
  else if src = 962 then muteAll { s with kio := { s.kio with
    isOpen := false, major := 0, minor := 0, result := 0, reason := 0, reqMajor := 0, reqMinor := 0, err := 0,
    refused := Vector.replicate 4 0, sq := Vector.replicate 4 SubRing.init, cq := Vector.replicate 4 CplRing.init, eq := CplRing.init } }
  else if src = 971 || src = 972 then followRef { s with clk := { s.clk with
    refsel := .xtal, holdover := false,
    notAligned := false, aligned := false, alignValid := false, alignOffset := 0, nudges := 0, offs := [],
    outEpochs := 0, nudgeDir := 0, alignEn := true, snapTc := 0, snapTs := 0, mon := 0, wake := 0 } }
  else if src = 981 then { s with nvs := { s.nvs with storing := false, pfStore := false, todo := [], written := 0, evt := 0 } }
  else if src = 983 then { s with adm := { s.adm with run := none, st := 0 } }
  else if src = 986 then { s with tmu := { Tmu.init with run := s.tmu.run, ch := s.tmu.ch.map resetTherm } }
  else if src = 987 then { s with clg := s.clg.map resetLedger }
  else if src = 988 then { s with tpc := Vector.replicate 8 Tpc.init }
  else if src = 989 then { s with trl := Trl.init }
  else s

/-- BRST (Table 18.3): the unit is reset and resumes within 100 us. -/
def blockReset (src : Nat) (s : State) : State :=
  let s1 := unitReset src s
  { s1 with fcr := { s1.fcr with brst := assocPut s1.fcr.brst src (s1.now + 200) } }

/-- SAFE of a source (Table 18.3): its channel, or every declared channel of its link. -/
def safeSrc (src : Nat) (s : State) : State :=
  if src < 768 then askSafe (src / 4) s
  else if 880 ≤ src && src < 944 then (linkChans s (src - 880)).foldl (fun s n => askSafe n s) s
  else s

end Sys2Proof.Machine
end

