-- ==== Sys2Proof/Machine/Settle.lean ====
section
/-!
DEFINITION. The reactions of the fault collector (R377 to R381): `settle` applies what the occurrences of a command called
for, and `done` ends every meaning.
-/
namespace Sys2Proof.Machine

/-- ERR_N follows FCR_ERRN (R388). -/
def errnPut (b : Nat) (s : State) : State :=
  { s with fcr := { s.fcr with errn := bitPut s.fcr.errn b true, errnOut := true } }

/-- FCR_LAST_FE of an occurrence (Table 18.8). -/
def lastFeWord (r : React) : W := flag true 31 ||| fld (r.code.toNat % 1024) 16 ||| fld r.src 0

/-- The fatal path (R379). -/
def fatal (r : React) (s : State) : State :=
  let first := !s.fcr.fatal
  let s1 := errnPut 1 { s with fcr := { s.fcr with fatal := true, aliveRun := false }, trl := { s.trl with lit := 1 } }
  let s2 := if leadInSync s1 then { s1 with prl := { s1.prl with yieldReq := some (s1.prl.yieldReq.getD .resync) } } else safeAll s1
  if r.src = 963 then s2
  else
    let w := lastFeWord r
    let s3 := { s2 with fcr := { s2.fcr with nmt := s2.fcr.nmt + 1 } }
    if first then fatalPage w { s3 with fcr := { s3.fcr with lastFe := w } } else s3

/-- CRST: chip reset 100 us after detection (Table 18.3). -/
def chipResetDue (s : State) : State :=
  { s with fcr := { s.fcr with crst := match s.fcr.crst with
      | some t => some t
      | none => some (s.now + 200) } }

/-- The UC reactions of an occurrence (Table 18.3): of CRST, FENCE, BRST and SAFE its unit takes the strongest (R381). -/
def reactUc (r : React) (s : State) : State :=
  let s1 := if r.cfg.bit 24 then { s with fcr := { s.fcr with nmt := s.fcr.nmt + 1 } } else s
  let s2 := if r.cfg.bit 21 then errnPut 0 s1 else s1
  let s3 := if r.cfg.bit 22 then chipResetDue s2
    else if r.cfg.bit 20 then fenceSrc r.src s2
    else if r.cfg.bit 23 then blockReset r.src s2
    else if r.cfg.bit 19 then safeSrc r.src s2
    else s2
  if r.cfg.bit 18 then safeAll s3 else s3

/-- What one occurrence calls for (R377, R240). -/
def react (s : State) (r : React) : State :=
  let s1 := trigEvents r.src r.cls s
  match r.cls with
  | .ce => s1
  | .uc => reactUc r s1
  | .fe => fatal r (if r.cfg.bit 22 then chipResetDue s1 else s1)

/-- Strength of an occurrence's reactions (R381): CRST, the fatal path, FENCE, BRST, SAFE, none. -/
def strength (r : React) : Nat :=
  if r.cls = .ce then 5
  else if r.cfg.bit 22 then 0
  else if r.cls = .fe then 1
  else if r.cfg.bit 20 then 2
  else if r.cfg.bit 23 then 3
  else if r.cfg.bit 19 then 4
  else 5

/-- One round: the reactions waiting, strongest first (R381). -/
def settleRound (s : State) : State :=
  (sortBy (fun a b => strength a ≤ strength b) s.fcr.todo).foldl react { s with fcr := { s.fcr with todo := [] } }

/-- Rounds until no occurrence waits; a reaction's own occurrences are at most four deep. -/
def settleN : Nat → State → State
  | 0, s => { s with fcr := { s.fcr with todo := [] } }
  | n + 1, s => if s.fcr.todo = [] then s else settleN n (settleRound s)

/-- The reactions that a command's occurrences called for (R377). -/
def settle (s : State) : State := settleN 8 s

/-- A command ends in the next state, its reactions applied. -/
def done (s : State) : Host.Outcome State Fault Refusal := .next (settle s)

end Sys2Proof.Machine
end

