-- ==== Sys2Proof/Machine/Engine.lean ====
section
/-!
DEFINITION. How an engine runs one instruction of the release in a context (R36, R56, R82 to R89): whether R55 allows it,
when it issues, what follows it, and the operation on registers.
-/
namespace Sys2Proof.Machine

/-- r(x) of a resource (R86). -/
def resReady (r : Rel) (x : Nat) : Nat :=
  if x < 32 then vat r.rv x 0 else if x < 36 then vat r.rm (x - 32) 0 else vat r.rf (x - 36) 0

/-- r(x) set. -/
def resPut (x t : Nat) (r : Rel) : Rel :=
  if x < 32 then { r with rv := vput r.rv x t }
  else if x < 36 then { r with rm := vput r.rm (x - 32) t, rmac := vput r.rmac (x - 32) t }
  else { r with rf := vput r.rf (x - 36) t }

/-- The instruction is a MAC or an MSU (R71). -/
def isMac (i : Insn) : Bool := i.op == 0x20 || i.op == 0x21

/-- The cycle at which an instruction issues (R86, R71). -/
def issueAt (p : Prof) (i : Insn) (r : Rel) : Nat :=
  let t0 := r.cyc + (if r.newIter then 1 else 0)
  let t1 := (i.readsRes p ++ (if isMac i then [] else i.writes p)).foldl (fun t x => max t (resReady r x)) t0
  if isMac i then max t1 (vat r.rmac i.d 0) else t1

/-- The latest r(x) of every resource (R87). -/
def allReady (r : Rel) : Nat := (List.range 41).foldl (fun t x => max t (resReady r x)) 0

/-- What follows the word `last` (R82, R84): the next word, the bodies still active, and whether it begins a later
iteration. -/
def fallFrom (last : Nat) : List LoopFrame → Nat × List LoopFrame × Bool
  | [] => (last + 1, [], false)
  | f :: r =>
    if f.stop = last + 1 then
      (if f.left > 0 then (f.start, { f with left := f.left - 1 } :: r, true) else fallFrom last r)
    else (last + 1, f :: r, false)

/-- The last word of the instruction at `pc` (R53). -/
def lastWord (i : Insn) (pc : Nat) : Nat := if opIsE i.op then pc + 1 else pc

/-- The release after an instruction that issued at `t` with issue cost `cost`: the results' r(x), then the word that
follows (R84, R86). -/
def issueRel (p : Prof) (i : Insn) (t cost : Nat) (r : Rel) : Rel :=
  let lat := i.latency p
  let r1 := (i.writes p).foldl (fun r x => resPut x (t + lat) r) r
  let r2 := if isMac i then { r1 with rmac := vput r1.rmac i.d (t + 1) } else r1
  let (pc, loops, again) := fallFrom (lastWord i r.pc) r.loops
  { r2 with cyc := t + cost, newIter := again, pc := pc, loops := loops }

/-- An instruction that R55 would refuse ends its release with code 0x0003 (R56). -/
def illegal (c : Nat) (s : State) : State := abortRelease c 0x0003 s

/-- Run one instruction of the release in context `c` (R36, R56): refused by R55, it ends the release; else it issues, and
`op` has its effect on the state in which the release has moved on. With no release in the context nothing runs. -/
def engine (c : Ctx) (w ext : W) (op : Insn → Rel → State → State) (s : State) : State :=
  match (s.cx c.val).rel with
  | none => s
  | some r =>
    let p := profOf c
    let i := insnOf w ext
    if insnOk p i && grantsOk r.prog r.pc i then
      op i r (s.modRel c.val fun _ => issueRel p i (issueAt p i r) i.issue r)
    else illegal c.val s

/-- An instruction whose effect is a result in v[d] and flags: `f` computes it from a register read, the context and the
fields. -/
def alu (c : Ctx) (w ext : W) (f : (Nat → W) → Context → Insn → Res) (s : State) : State :=
  engine c w ext (fun i _ s => s.modCx c.val fun x => setRes c.val i.d (f (reg c.val x) x i) x) s

/-- An instruction whose effect lies in its context alone. -/
def ctxOp (c : Ctx) (w ext : W) (f : (Nat → W) → Insn → Context → Context) (s : State) : State :=
  engine c w ext (fun i _ s => s.modCx c.val fun x => f (reg c.val x) i x) s

/-- The count of a shift: SH, or v[b][4:0] (Table 4.1). -/
def shiftCount (v : Nat → W) (i : Insn) : Nat := if i.md % 2 = 1 then (v i.b).bits 4 0 else i.sh

end Sys2Proof.Machine
end

