-- ==== Sys2Proof/Machine/SeqOps.lean ====
section
/-!
DEFINITION. Sequences: the sequence block (R156), requests and supply (R159), rail classes (R162, R163), the fault reaction
with its snapshot (R165, R173, R174), state changes (R161) and the device work of a service (R160).
-/
namespace Sys2Proof.Machine

/-- Code of a sequence state (Table 7.3). -/
def seqCode : SeqSt → Nat
  | .off => 0
  | .up => 1
  | .on => 2
  | .down => 3
  | .paused => 4
  | .unwind => 5
  | .fault => 6
  | .retryWait => 7
  | .locked => 8

/-- The S task that a context holds. -/
def seqTask (s : State) (c : Nat) : Option Task := (taskAt s c).filter fun t => t.profile == .s

/-- The sequence record of context `c`. -/
def seqOf (s : State) (c : Nat) : SeqRec := (s.cx c).seq

/-- Change the sequence record of a context. -/
def modSeq (c : Nat) (f : SeqRec → SeqRec) (s : State) : State := s.modCx c fun x => { x with seq := f x.seq }

/-- REQ (Table 7.1). -/
def seqReqOn (s : State) (t : Task) : Bool := (parm s t 0).bit 27
/-- SUP_OK (Table 7.1). -/
def seqSupOk (s : State) (t : Task) : Bool := (parm s t 0).bit 26
/-- SUP_PRESENT (Table 7.1). -/
def seqSupPres (s : State) (t : Task) : Bool := (parm s t 0).bit 25
/-- The target is ON (R159). -/
def seqTarget (s : State) (t : Task) : Bool := seqReqOn s t && seqSupOk s t
/-- SUP_USED (Table 7.1). -/
def seqSupUsed (s : State) (t : Task) : Bool := (parm s t 4).bit 31

/-- Rewrite word 0 of the sequence block (Table 7.1) with these request and supply bits. -/
def seqWord0 (c : Nat) (t : Task) (req ok pres : Bool) (s : State) : State :=
  let q := seqOf s c
  parmPut t 0 (fld (seqCode q.st) 28 ||| flag req 27 ||| flag ok 26 ||| flag pres 25 ||| flag (req && pres) 24 |||
    fld (min q.retries 15) 20) s

/-- Rewrite word 0 with its request and supply bits as they stand. -/
def seqSync (c : Nat) (t : Task) (s : State) : State :=
  seqWord0 c t (seqReqOn s t) (seqSupOk s t) (seqSupPres s t) s

/-- Set REQ (R159, R175). -/
def seqRequest (c : Nat) (t : Task) (on : Bool) (s : State) : State :=
  seqWord0 c t on (seqSupOk s t) (seqSupPres s t) s

/-- A state change (R161): word 0, the SEQSTATE note (Table 10.3), and a slave's SEQ_STATE to its master (R175), which a
STANDBY does not send (R348). -/
def seqSet (c : Nat) (t : Task) (st : SeqSt) (mark : Nat) (s : State) : State :=
  let old := (seqOf s c).st
  let s1 := modSeq c (fun q => { q with st := st, onSteps := 0, wait := .none, timer := 0 }) s
  let s2 := seqSync c t s1
  let s3 := note 0x08 t.num [nw (seqCode old), nw (seqCode st), nw mark] [0, 1, 2] s2
  let w3 := parm s3 t 3
  if w3.bit 30 && s3.prl.role != .standby then
    joinQueue 0x11 (BitVec.ofNat 10 (w3.bits 25 16)) [fld (seqCode st) 16 ||| fld t.num 0] s3
  else s3

/-- Entry to OFF by rows 7, 8, 12 and 14 clears RETRIES (R161). -/
def seqOffClear (c : Nat) (t : Task) (s : State) : State :=
  seqSync c t (modSeq c (fun q => { q with retries := 0, runs := false }) (seqSet c t .off 0xFF s))

/-- The program starts at the first word of an entry (R161). -/
def seqEntry (c entry : Nat) (s : State) : State :=
  modSeq c (fun q => { q with resume := entry, runs := true, calls := [], wait := .none, timer := 0 }) s

/-- Entry to UP (R161). -/
def seqUp (c : Nat) (t : Task) (s : State) : State := seqEntry c ((parm s t 2).bits 15 0) (seqSet c t .up 0xFF s)

/-! Rails (Table 7.2). -/

/-- Word `k` of rail entry `i`. -/
def railWord (s : State) (t : Task) (i k : Nat) : W := parm s t (16 + 4 * i + k)

/-- The channel of a rail. -/
def railCh (t : Task) (i : Nat) : Nat := (lat t.chans i (false, 0)).2

/-- A measurement of a channel by number: A, B, C, D. -/
def measOf (x : Chan) (k : Nat) : Int := sx16 (if k = 0 then x.mA else if k = 1 then x.mB else if k = 2 then x.mC else x.mD)

/-- The MEAS value of a rail, from the last valid frame. -/
def railMeas (s : State) (t : Task) (i : Nat) : Int := measOf (s.ch (railCh t i)) ((railWord s t i 0).bits 11 10)

/-- A signed 16-bit field of a word. -/
def sField (w : W) (lo : Nat) : Int := (w.extractLsb' lo 16).toInt

/-- The class of a value in a warning and a fault window, each HI in 31:16 and LO in 15:0 (R162). -/
def classIn (warn flt : W) (v : Int) : RailClass :=
  if v < sField flt 0 || v > sField flt 16 then .fault
  else if v < sField warn 0 || v > sField warn 16 then .warning
  else .ok

/-- The rail's link has a miss count of 2 or more: the class is STALE (R162). -/
def railStale (s : State) (t : Task) (i : Nat) : Bool := (s.lk (linkOf (railCh t i))).miss ≥ 2

/-- Rail `i` of a sequence. -/
def railOf (s : State) (c i : Nat) : Rail := vat (seqOf s c).rails i Rail.init

/-- Change rail `i`. -/
def modRail (c i : Nat) (f : Rail → Rail) (s : State) : State := modSeq c (fun q => { q with rails := vmod q.rails i f }) s

/-- The reported class changes; an excursion ends at OK (R162, R163). -/
def railReport (cls : RailClass) (x : Rail) : Rail :=
  { x with cls := cls, warned := x.warned && cls != .ok }

/-- The rail filter's step (R162): the candidate and its count; at FILT steps the reported class changes. A step whose frame
is missing leaves the count unchanged. -/
def railFilter (c : Nat) (t : Task) (s : State) (i : Nat) : State :=
  if (s.lk (linkOf (railCh t i))).lastValid then
    let v := classIn (railWord s t i 1) (railWord s t i 2) (railMeas s t i)
    let filt := (railWord s t i 0).bits 15 12
    modRail c i (fun x =>
      let x1 := if v = x.cand then { x with count := x.count + 1 } else { x with cand := v, count := 1 }
      if x1.cand ≠ x1.cls ∧ x1.count ≥ filt then railReport x1.cand x1 else x1) s
  else s

/-- The counter record of a rail: 0 faults, 1 warnings, 2 retries (R174). -/
def railCounter (s : State) (t : Task) (i k : Nat) : BitVec 16 := BitVec.ofNat 16 ((parm s t 7).bits 31 16 + 3 * i + k)

/-- A warning (R163): once per excursion, on the power-path source at class CE, and counted; its code is not stated. A WARNING that
CHK reads in a window of its own while the reported class is OK is in no excursion, and marks none (log entry 63). -/
def railWarn (c : Nat) (t : Task) (i : Nat) (s : State) : State :=
  if (railOf s c i).warned then s
  else
    let s1 := modRail c i (fun x => { x with warned := x.cls != .ok }) s
    (counterAsk (railCounter s1 t i 1) s1).raiseC (4 * railCh t i + 3) .ce c t.num

/-- REF_ADDR of a rail, if it has one (Table 7.2). -/
def refAddr (s : State) (t : Task) (i : Nat) : Option Nat :=
  let w := railWord s t i 3
  if w = 0xFFFFFFFF then none else some w.toNat

/-- Write the reference word of a rail. -/
def refPut (t : Task) (i : Nat) (v : W) (s : State) : State :=
  match refAddr s t i with
  | some a => shPut a v s
  | none => s

/-- One step of a rail's ramp (R170): the reference moves towards the target and ends on it. -/
def railRamp (c : Nat) (t : Task) (s : State) (i : Nat) : State :=
  match (railOf s c i).ramp with
  | none => s
  | some (tgt, step) =>
    let cur := (refAddr s t i).elim tgt (shWord s)
    let d := tgt.toInt - cur.toInt
    if d.natAbs ≤ step.toNat then modRail c i (fun x => { x with ramp := none }) (refPut t i tgt s)
    else refPut t i (iw (if d > 0 then cur.toInt + step.toNat else cur.toInt - step.toNat)) s

/-! ENABLE_ORDER (Table 7.1): one nibble for each enabled rail, 0xF for empty. -/

/-- The rails of ENABLE_ORDER in enable order. -/
def orderList (w : W) : List Nat := ((List.range 8).map fun k => w.bits (4 * k + 3) (4 * k)).takeWhile (· != 15)

/-- The word of an enable order. -/
def orderWord (l : List Nat) : W :=
  (List.range 8).foldl (fun w k => w ||| fld (lat l k 15) (4 * k)) 0

/-- EN (R170): the start request of row 7 or the restart request of row 8; the rail joins ENABLE_ORDER. -/
def railEnable (t : Task) (i : Nat) (s : State) : State :=
  let n := railCh t i
  let s1 := match (s.ch n).st with
    | .off => askStart n s
    | .safe => restartChan n s
    | _ => s
  let l := orderList (parm s1 t 8)
  if l.contains i then s1 else parmPut t 8 (orderWord (l ++ [i])) s1

/-- DIS (R170): the stop of row 4; the rail leaves ENABLE_ORDER, its ramp is cancelled and 0 goes to REF_ADDR. -/
def railDisable (c : Nat) (t : Task) (i : Nat) (s : State) : State :=
  let s1 := askStop (railCh t i) s
  let s2 := parmPut t 8 (orderWord ((orderList (parm s1 t 8)).filter (· != i))) s1
  refPut t i 0 (modRail c i (fun x => { x with ramp := none }) s2)

/-! The fault reaction. -/

/-- Code of a reported class as CHK and the snapshot give it: 0 OK, 1 WARNING, 2 FAULT, 3 STALE (R170; FAULT by the
sequence, log entry 30). -/
def classCode (s : State) (t : Task) (i : Nat) (cls : RailClass) : Nat :=
  if railStale s t i then 3
  else match cls with
    | .ok => 0
    | .warning => 1
    | .fault => 2

/-- The words of a snapshot page (Table 7.7). -/
def snapWords (c : Nat) (t : Task) (s : State) : List W :=
  let head := [fld t.num 16 ||| s.snapSeq.setWidth 32, lo32 s.clk.ts, hi32 s.clk.ts, parm s t 1, parm s t 0, 0, 0, 0]
  let rail := fun (i : Nat) =>
    if i < t.chans.length then
      let n := railCh t i
      let x := s.ch n
      [(x.mB.setWidth 32 <<< 16) ||| x.mA.setWidth 32, (x.mD.setWidth 32 <<< 16) ||| x.mC.setWidth 32,
       flag (railStale s t i) 31 ||| fld (classCode s t i (railOf s c i).cls) 28 ||| fld (chanCode x.st) 24 ||| fld n 16 |||
         x.mstat.setWidth 32,
       (refAddr s t i).elim 0 (shWord s)]
    else [0, 0, 0, 0]
  let body := head ++ (List.range 8).flatMap rail ++ (List.range 16).map (fun k => vat (s.cx c).regs k 0) ++ List.replicate 7 0
  body ++ [crc32cW body]

/-- Take a snapshot (R173). -/
def snapshot (c : Nat) (t : Task) (s : State) : State :=
  let p := 4080 + s.snapSeq.toNat % 8
  { nvPut (nvPage p) (bytesOfWords (snapWords c t s)) s with snapSeq := s.snapSeq + 1 }

/-- The fault reaction (R165): word 1, the snapshot, the fault counter, the occurrence at class UC (its code is not stated),
then row 1. The program stops. -/
def faultReact (c : Nat) (t : Task) (cause : Nat) (rail : Option Nat) (jaddr : Nat) (s : State) : State :=
  let from_ := seqCode (seqOf s c).st
  let s1 := parmPut t 1 (fld cause 28 ||| fld from_ 24 ||| fld (rail.getD 0xFF) 16 ||| fld jaddr 0) s
  let s2 := snapshot c t s1
  let s3 := match rail with
    | some i => (counterAsk (railCounter s2 t i 0) s2).raiseC (4 * railCh t i + 3) .uc c t.num
    | none => s2.raiseC (taskSrc (engOfCtx c)) .uc c t.num
  let s4 := seqSet c t .unwind 0xFF s3
  let s5 := modSeq c (fun q => { q with
    unwFault := true, runs := false, unwLeft := 0, rails := q.rails.map fun x => { x with ramp := none } }) s4
  s5.modCx c fun x => { x with rel := none }

/-- States from which row 1 leads (Table 7.4). -/
def canFault (st : SeqSt) : Bool := st == .up || st == .on || st == .down

/-! Device work (R160). -/

/-- The supply input (R159). -/
def supplyWork (c : Nat) (t : Task) (s : State) : State :=
  if seqSupUsed s t then
    let w4 := parm s t 4
    let w5 := parm s t 5
    let w6 := parm s t 6
    let v := measOf (s.ch (railCh t (w4.bits 30 28))) (w4.bits 27 26)
    let pres := v ≥ sField w5 0
    let s1 := modSeq c (fun q => { q with
      lossSteps := if v < sField w5 16 then q.lossSteps + 1 else 0
      returnSteps := if pres then q.returnSteps + 1 else 0 }) s
    let q := seqOf s1 c
    let ok := if q.lossSteps > 0 && q.lossSteps ≥ w6.bits 31 16 then false
      else if q.returnSteps > 0 && q.returnSteps ≥ w6.bits 15 0 * 1000 then true
      else seqSupOk s1 t
    seqWord0 c t (seqReqOn s1 t) ok pres s1
  else seqWord0 c t (seqReqOn s t) true true s

/-- One unwinding action (R166): the delay of the rail before runs, then the last rail of ENABLE_ORDER is disabled. -/
def unwindWork (c : Nat) (t : Task) (s : State) : State :=
  if (seqOf s c).st = .unwind then
    let s1 := modSeq c (fun q => { q with unwLeft := q.unwLeft - 1 }) s
    if (seqOf s1 c).unwLeft = 0 then
      match (orderList (parm s1 t 8)).getLast? with
      | some i => modSeq c (fun q => { q with unwLeft := (railWord s1 t i 0).bits 31 16 }) (railDisable c t i s1)
      | none => s1
    else s1
  else s

/-- Unwinding is complete (R166). -/
def unwound (s : State) (c : Nat) (t : Task) : Bool :=
  (seqOf s c).st == .unwind && (orderList (parm s t 8)).isEmpty && (seqOf s c).unwLeft == 0

/-- Supervision in ON (R163, R164): the first rail with MON whose class is FAULT starts the reaction; a WARNING warns. A rail whose class
is STALE (R162) does neither. -/
def superviseWork (c : Nat) (t : Task) (s : State) : State :=
  (List.range t.chans.length).foldl (fun s i =>
    if (seqOf s c).st = .on && (railWord s t i 0).bit 0 && !railStale s t i then
      match (railOf s c i).cls with
      | .fault => faultReact c t 2 (some i) 0 s
      | .warning => railWarn c t i s
      | .ok => s
    else s) s

/-- The counters of the state: steps in ON (RETRIES clears after 100,000), the RETRY delay, the step timer (R161, R167,
R171). -/
def countWork (c : Nat) (t : Task) (s : State) : State :=
  let s1 := modSeq c (fun q => { q with
    onSteps := if q.st = .on then q.onSteps + 1 else 0
    retryLeft := if q.st = .retryWait then q.retryLeft - 1 else q.retryLeft
    timer := if q.wait = .none then q.timer else q.timer + 1
    retries := if q.st = .on && q.onSteps + 1 ≥ 100000 then 0 else q.retries }) s
  seqSync c t s1

/-- Device work of one service (R160). -/
def deviceWork (c : Nat) (t : Task) (s : State) : State :=
  let rails := List.range t.chans.length
  let s1 := supplyWork c t s
  let st := (seqOf s1 c).st
  let s2 := if st = .off || st = .locked then s1 else rails.foldl (railFilter c t) s1
  let s3 := rails.foldl (railRamp c t) s2
  superviseWork c t (countWork c t (unwindWork c t s3))

/-- Rows 8 and 9 (R161). -/
def unwindEnd (c : Nat) (t : Task) (s : State) : State :=
  if unwound s c t then
    (if (seqOf s c).unwFault then seqEntry c ((parm s t 3).bits 15 0) (seqSet c t .fault 0xFF s) else seqOffClear c t s)
  else s

/-- One pass over the rows of Table 7.4 that a service applies (R160, R161). -/
def seqRows (c : Nat) (t : Task) (s : State) : State :=
  let st := fun (s : State) => (seqOf s c).st
  let tgt := seqTarget s t
  let s2 := if st s = .up && !tgt then
      modSeq c (fun q => { q with unwFault := false, runs := false, unwLeft := 0, rails := q.rails.map fun x => { x with ramp := none } })
        (seqSet c t .unwind 0xFF s)
    else s
  let s3 := if st s2 = .on && !tgt then seqEntry c ((parm s2 t 2).bits 31 16) (seqSet c t .down 0xFF s2) else s2
  let s5 := if st s3 = .paused && (!seqReqOn s3 t || !seqSupPres s3 t) then
      modSeq c (fun q => { q with runs := true }) (seqSet c t .down 0xFF s3)
    else s3
  let s6 := if st s5 = .paused && tgt then seqUp c t s5 else s5
  let s9 := unwindEnd c t s6
  let s12 := if st s9 = .retryWait && !tgt then seqOffClear c t s9 else s9
  let s13 := if st s12 = .retryWait && tgt && (seqOf s12 c).retryLeft = 0 then seqUp c t s12 else s12
  let s14 := if st s13 = .locked && !seqReqOn s13 t then seqOffClear c t s13 else s13
  if st s14 = .off && tgt then seqUp c t s14 else s14

/-- The STAT words of a service (Table 3.4). -/
def seqStat (s : State) (c : Nat) (t : Task) : Vector W 16 :=
  Vector.ofFn fun i => match i.val with
    | 0 => tc32 s.now
    | 3 => nw (s.cx c).reason
    | 8 => nw t.num
    | _ => 0

/-- The release record with which a program resumes (R160, R172). -/
def seqRel (s : State) (c : Nat) (t : Task) : Rel where
  prog := t
  tick := s.now
  start := startOf s (engOfCtx c) s.now
  cyc := 0
  newIter := false
  pc := (seqOf s c).resume
  calls := (seqOf s c).calls
  loops := []
  rv := Vector.replicate 32 0
  rm := Vector.replicate 4 0
  rmac := Vector.replicate 4 0
  rf := Vector.replicate 5 0
  ports := []
  stale := []
  fresh := []
  arming := []
  bank := false
  staged := []
  recWords := 0
  jrx := []
  shadow := false

/-- A program runs in UP, DOWN and FAULT (Table 7.3). -/
def seqRuns (st : SeqSt) : Bool := st == .up || st == .down || st == .fault

/-- The program yields (R172): it resumes at `pc` at its next service; s0 to s15 join the state digest (R363). -/
def seqYield (c pc : Nat) (s : State) : State :=
  match (s.cx c).rel with
  | none => s
  | some r =>
    let e := engOfCtx c
    let ws := ((s.cx c).regs.toList).take 16
    let s0 := engDone e r.start (6 + r.cyc) s
    let s1 := { s0 with prl := { s0.prl with sdigSets := s0.prl.sdigSets ++ [(e, (s0.engine e).busy, ws)] } }
    s1.modCx c fun x => { x with rel := none, seq := { x.seq with resume := pc, calls := r.calls } }

/-- A condition of Table 7.5. -/
def condS (s : State) (c : Nat) (t : Task) (i : Insn) : Bool :=
  let v := (vat (s.cx c).regs (i.cnt / 4) 0).toInt
  match i.cond with
  | 0 => true
  | 1 => v == 0
  | 2 => v != 0
  | 3 => v < 0
  | 4 => v ≥ 0
  | 5 => v > 0
  | 6 => v ≤ 0
  | 7 => seqTarget s t
  | 8 => !seqTarget s t
  | 9 => seqSupOk s t
  | 10 => (seqOf s c).retries > 0
  | _ => false

/-- END at depth 0 in S: rows 7, 11 and 16 (R161). -/
def seqEnd (c : Nat) (t : Task) (s : State) : State :=
  let s0 := seqYield c 0 s
  let s1 := modSeq c (fun q => { q with runs := false }) s0
  match (seqOf s1 c).st with
  | .up => seqSet c t .on 0xFF s1
  | .down => seqOffClear c t s1
  | .fault =>
    let from_ := (parm s1 t 1).bits 27 24
    if from_ = 1 || from_ = 2 then seqSet c t .locked 0xFF s1 else seqSet c t .off 0xFF s1
  | _ => s1

end Sys2Proof.Machine
end

