-- ==== Sys2Proof/Machine/SProfile.lean ====
section
/-!
DEFINITION. The sequence instructions (R167, R170, R171, R175).
-/
namespace Sys2Proof.Machine

/-- EN (R170). -/
def execEn (c : Ctx) (f : BForm) (s : State) : Host.Outcome State Fault Refusal :=
  done (engine c (wordB 0x70 f) 0 (fun i r s => railEnable r.prog (i.imm % 8) s) s)

/-- DIS (R170). -/
def execDis (c : Ctx) (f : BForm) (s : State) : Host.Outcome State Fault Refusal :=
  done (engine c (wordB 0x71 f) 0 (fun i r s => railDisable c.val r.prog (i.imm % 8) s) s)

/-- SETREF (R170): a ramp from the next step, or the target at once when s[a] = 0. -/
def execSetref (c : Ctx) (f : EForm) (s : State) : Host.Outcome State Fault Refusal :=
  done (engine c (wordE 0x72 f) f.ext (fun i r s =>
    let k := i.imm % 8
    let step := vat (s.cx c.val).regs i.a 0
    if step = 0 then refPut r.prog k i.ext (modRail c.val k (fun x => { x with ramp := none }) s)
    else modRail c.val k (fun x => { x with ramp := some (i.ext, step) }) s) s)

/-- An outcome in s[d] (R170). -/
def seqOut (c d : Nat) (v : W) (s : State) : State := s.modCx c fun x => setReg c d v x

/-- The test of a WAIT (R171). -/
def waitTest (s : State) (c : Nat) (t : Task) (kind rail : Nat) (level : Int) : Bool :=
  match kind with
  | 1 => (railOf s c rail).cls == .ok && !railStale s t rail
  | 2 => (s.ch (railCh t rail)).st == .control
  | 3 => (railOf s c rail).ramp.isNone
  | 4 => railMeas s t rail ≤ level
  | 5 => railMeas s t rail ≥ level
  | _ => false

/-- The end of a wait: the program continues after it with an outcome. -/
def waitPass (c d : Nat) (v : W) (s : State) : State :=
  seqOut c d v (modSeq c (fun q => { q with wait := .none, timer := 0 }) s)

/-- A timeout (R171, R175): kind TIME passes; with TFAULT the fault reaction starts from UP, ON or DOWN, and names the rail of a WAIT
(R165); else s[d] := 1. -/
def waitExpire (c d : Nat) (t : Task) (time tf : Bool) (cause : Nat) (rail : Option Nat) (jaddr : Nat) (s : State) : State :=
  if time then waitPass c d 0 s
  else if tf && canFault (seqOf s c).st then faultReact c t cause rail jaddr s
  else waitPass c d 1 s

/-- The program yields at the instruction it is at (R172). -/
def seqStay (c : Nat) (w : SWait) (r : Rel) (s : State) : State :=
  modSeq c (fun q => { q with wait := w }) (seqYield c r.pc (s.modRel c fun q => { q with pc := r.pc }))

/-- WAIT (R171). -/
def execWait (c : Ctx) (f : EForm) (s : State) : Host.Outcome State Fault Refusal :=
  done (engine c (wordE 0x73 f) f.ext (fun i r s =>
    let kind := i.imm / 1024
    let rail := i.imm % 8
    let tf := i.imm / 512 % 2 == 1
    let level := sField i.ext 0
    let s1 := if (seqOf s c.val).wait = .none then modSeq c.val (fun q => { q with timer := 0 }) s else s
    if waitTest s1 c.val r.prog kind rail level then waitPass c.val i.d 0 s1
    else if (seqOf s1 c.val).wait ≠ .none ∧ (seqOf s1 c.val).timer ≥ i.timeSteps then
      waitExpire c.val i.d r.prog (kind == 0) tf 3 (some rail) 0 s1
    else seqStay c.val (.wait kind rail level i.d tf i.timeSteps) r s1) s)

/-- CHK (R163, R165, R170): FAULT starts the reaction in UP and DOWN; elsewhere s[d] reads 2 for it (log entry 30). -/
def execChk (c : Ctx) (f : EForm) (s : State) : Host.Outcome State Fault Refusal :=
  done (engine c (wordE 0x74 f) f.ext (fun i r s =>
    let k := i.imm % 8
    let x := railOf s c.val k
    let v := railMeas s r.prog k
    let cls := if i.imm / 8192 = 1 && x.cls != .fault then
        (if v < sField i.ext 0 || v > sField i.ext 16 then .warning else .ok) else x.cls
    let code := classCode s r.prog k cls
    let st := (seqOf s c.val).st
    if code = 2 && (st == .up || st == .down) then faultReact c.val r.prog 1 (some k) 0 s
    else
      let s1 := if code = 1 then railWarn c.val r.prog k s else s
      seqOut c.val i.d (nw code) s1) s)

/-- Jump to a word offset: an earlier word is a yield (R172). -/
def seqJump (c : Nat) (i : Insn) (r : Rel) (s : State) : State :=
  let pc := ((r.pc : Int) + i.soff).toNat
  let s1 := s.modRel c fun q => { q with pc := pc, cyc := issueAt .s i r + 3 }
  if i.soff < 0 then seqYield c pc s1 else s1

/-- JMP (R170). -/
def execJmp (c : Ctx) (f : CForm) (s : State) : Host.Outcome State Fault Refusal :=
  done (engine c (wordC 0x75 f) 0 (fun i r s => seqJump c.val i r s) s)

/-- JC (R170). -/
def execJc (c : Ctx) (f : CForm) (s : State) : Host.Outcome State Fault Refusal :=
  done (engine c (wordC 0x76 f) 0 (fun i r s => if condS s c.val r.prog i then seqJump c.val i r s else s) s)

/-- CALL (R170): as CALLF, with signed offset; to an earlier word it is a yield (R172). -/
def execCall (c : Ctx) (f : CForm) (s : State) : Host.Outcome State Fault Refusal :=
  done (engine c (wordC 0x7C f) 0 (fun i r s =>
    if condS s c.val r.prog i then
      seqJump c.val i r (s.modRel c.val fun q => { q with calls := ⟨r.pc + 1, false, []⟩ :: r.calls })
    else s) s)

/-- RETRY (R167). -/
def execRetry (c : Ctx) (f : EForm) (s : State) : Host.Outcome State Fault Refusal :=
  done (engine c (wordE 0x77 f) f.ext (fun i r s =>
    let q := seqOf s c.val
    let w1 := parm s r.prog 1
    let from_ := w1.bits 27 24
    if q.st = .fault && (from_ == 1 || from_ == 2) && q.retries < i.imm % 16 then
      let s1 := modSeq c.val (fun q => { q with retries := q.retries + 1 }) s
      let rail := w1.bits 23 16
      let s2 := if rail < 8 then counterAsk (railCounter s1 r.prog rail 2) s1 else s1
      let s3 := seqSet c.val r.prog .retryWait 0xFF (seqYield c.val 0 s2)
      modSeq c.val (fun q => { q with runs := false, retryLeft := i.timeSteps, retryFull := i.timeSteps }) s3
    else s) s)

/-- MARK (R161 row 4): in DOWN with RESUME = 1 the sequence pauses after it. -/
def execMark (c : Ctx) (f : BForm) (s : State) : Host.Outcome State Fault Refusal :=
  done (engine c (wordB 0x78 f) 0 (fun i r s =>
    if (seqOf s c.val).st = .down && seqReqOn s r.prog && seqSupPres s r.prog then
      let s1 := seqYield c.val (r.pc + 1) s
      modSeq c.val (fun q => { q with runs := false }) (seqSet c.val r.prog .paused (i.imm % 256) s1)
    else s) s)

/-- A join address is present in the train that the device follows (R175): the own device, or one whose words have been
received. -/
def jPresent (s : State) (j : Nat) : Bool :=
  s.jnb.addr == some (BitVec.ofNat 10 j) || s.jnb.rx.any fun x => x.1 == j && x.2.2.2.2 < 255

/-- SEND (R175, R176): s[d] := 0 queued, 1 address absent; a STANDBY queues nothing. -/
def execSend (c : Ctx) (f : EForm) (s : State) : Host.Outcome State Fault Refusal :=
  done (engine c (wordE 0x79 f) f.ext (fun i _ s =>
    let j := i.imm % 1024
    if s.prl.role = .standby then seqOut c.val i.d 0 s
    else if jPresent s j then
      seqOut c.val i.d 0 (joinQueue 0x10 (BitVec.ofNat 10 j)
        [fld (i.ext.bits 15 0) 0 ||| flag (i.imm / 1024 % 4 == 1) 16] s)
    else seqOut c.val i.d 1 s) s)

/-- The last state received from a slave (R175). -/
def slaveState (s : State) (c : Nat) (dev : JAddr) (task : Nat) : Option SeqSt :=
  ((seqOf s c).slaves.find? fun x => x.1 == dev && x.2.1.toNat == task).map (·.2.2)

/-- AWAIT (R175). -/
def execAwait (c : Ctx) (f : EForm) (s : State) : Host.Outcome State Fault Refusal :=
  done (engine c (wordE 0x7A f) f.ext (fun i r s =>
    let dev : JAddr := BitVec.ofNat 10 (i.imm % 1024)
    let task := i.ext.bits 15 0
    let want : SeqSt := if i.imm / 1024 % 4 = 1 then .off else .on
    let tf := i.imm / 4096 % 2 == 1
    let s1 := if (seqOf s c.val).wait = .none then modSeq c.val (fun q => { q with timer := 0 }) s else s
    let got := slaveState s1 c.val dev task
    if got = some want then waitPass c.val i.d 0 s1
    else if got = some .locked && canFault (seqOf s1 c.val).st then faultReact c.val r.prog 5 none dev.toNat s1
    else if (seqOf s1 c.val).wait ≠ .none ∧ (seqOf s1 c.val).timer ≥ i.timeSteps then
      waitExpire c.val i.d r.prog false tf 4 none dev.toNat s1
    else seqStay c.val (.await want dev task i.d tf i.timeSteps) r s1) s)

/-- LOG (R170, Table 10.3): a user note of two words, the code and s[a], counted against the RECW grant. -/
def execLog (c : Ctx) (f : BForm) (s : State) : Host.Outcome State Fault Refusal :=
  done (engine c (wordB 0x7B f) 0 (fun i _ s =>
    (noteUser (2 ^ 12 + c.val) [nw i.imm, vat (s.cx c.val).regs i.a 0] s).modRel c.val
      fun q => { q with recWords := q.recWords + 2 }) s)

end Sys2Proof.Machine
end

