-- ==== Sys2Proof/Machine/Seq.lean ====
section
/-!
DEFINITION. The service of a sequence and the events of its timers, filters and supply (R159 to R162, R166, R171, R175,
R176). A row that names the end of a count acts where the step it stands in is the last of the count (log entry 9).
-/
namespace Sys2Proof.Machine

/-- The device runs: chip state RUN. -/
def isRun (s : State) : Bool := s.clk.chip == .run

/-- The program resumes (R160): STAT is fixed and the release record made. -/
def seqStart (c : Nat) (t : Task) (s : State) : State :=
  s.modCx c fun x => { x with stat := seqStat s c t, reason := 0, rel := some (seqRel s c t) }

/-- One service (R160): what the service before left unfinished yields, then device work, the transitions, the program. -/
def seqService (c : Nat) (t : Task) (s : State) : State :=
  let s0 := match (s.cx c).rel with
    | some r => seqYield c r.pc s
    | none => s
  let s1 := seqRows c t (deviceWork c t (changeOver c t s0))
  let q := seqOf s1 c
  if seqRuns q.st && q.runs then seqStart c t s1 else s1

/-- First tick of the running step of 20 ticks (R141). -/
def stepStart (s : State) : Nat := s.now - s.tcMod 20

/-- The sequence in context `c` has been served in the running step. -/
def stepServed (s : State) (c : Nat) : Bool := (seqOf s c).served == some (stepStart s)

/-- The service of context `c` is due (R34, R141, R160): the device runs, the engine is not fenced, the step has not served the context
yet, and it has served the engine's active contexts of lower number. -/
def serviceDue (s : State) (c : Nat) : Bool :=
  isRun s && !(s.engine (engOfCtx c)).fenced && !stepServed s c &&
    (List.range 512).all fun k => !(k < c && engOfCtx k == engOfCtx c && (seqTask s k).isSome) || stepServed s k

/-- SEQ_SERVICE (R141, R160): the service that is due. A service of an S task is no released task of R27 (log entry 63). -/
def execSeqService (c : Ctx) (s : State) : Host.Outcome State Fault Refusal :=
  done (match seqTask s c.val with
    | some t =>
      if serviceDue s c.val then seqService c.val t (modSeq c.val (fun q => { q with served := some (stepStart s) }) s) else s
    | none => s)

/-- An event of the sequence in context `c`; none without one. -/
def seqEvent (c : Ctx) (f : Task → State → State) (s : State) : State :=
  match seqTask s c.val with
  | some t => f t s
  | none => s

/-- RAIL_CLASS_CHANGE (R162): the class that has held for FILT steps, this step the last of them, becomes the reported class. -/
def execRailClassChange (c : Ctx) (rail : Fin 8) (s : State) : Host.Outcome State Fault Refusal :=
  done (seqEvent c (fun t s => modRail c.val rail.val (fun x =>
    if x.cand = x.cls ∨ x.count + 1 < (railWord s t rail.val 0).bits 15 12 then x else railReport x.cand x) s) s)

/-- The program goes on after the two words of a WAIT or AWAIT. -/
def seqSkip (c : Nat) (s : State) : State :=
  match (s.cx c).rel with
  | some r => s.modRel c fun q => { q with pc := r.pc + 2 }
  | none => modSeq c (fun q => { q with resume := q.resume + 2 }) s

/-- WAIT_TIMEOUT (R171). -/
def execWaitTimeout (c : Ctx) (s : State) : Host.Outcome State Fault Refusal :=
  done (seqEvent c (fun t s => match (seqOf s c.val).wait with
    | .wait kind rail _ d tf steps =>
      if (seqOf s c.val).timer + 1 < steps then s
      else if kind != 0 && tf && canFault (seqOf s c.val).st then faultReact c.val t 3 (some rail) 0 s
      else waitPass c.val d (if kind = 0 then 0 else 1) (seqSkip c.val s)
    | _ => s) s)

/-- AWAIT_TIMEOUT (R175). -/
def execAwaitTimeout (c : Ctx) (s : State) : Host.Outcome State Fault Refusal :=
  done (seqEvent c (fun t s => match (seqOf s c.val).wait with
    | .await _ dev _ d tf steps =>
      if (seqOf s c.val).timer + 1 < steps then s
      else if tf && canFault (seqOf s c.val).st then faultReact c.val t 4 none dev.toNat s
      else waitPass c.val d 1 (seqSkip c.val s)
    | _ => s) s)

/-- RETRY_DELAY_END (R161 row 13). -/
def execRetryDelayEnd (c : Ctx) (s : State) : Host.Outcome State Fault Refusal :=
  done (seqEvent c (fun t s =>
    if (seqOf s c.val).st = .retryWait ∧ (seqOf s c.val).retryLeft ≤ 1 then
      let s1 := modSeq c.val (fun q => { q with retryLeft := 0 }) s
      if seqTarget s1 t then seqUp c.val t s1 else s1
    else s) s)

/-- UNWIND_DELAY_END (R166): the next rail is disabled, or unwinding completes. -/
def execUnwindDelayEnd (c : Ctx) (s : State) : Host.Outcome State Fault Refusal :=
  done (seqEvent c (fun t s =>
    if (seqOf s c.val).st = .unwind && (seqOf s c.val).unwLeft = 1 then unwindEnd c.val t (unwindWork c.val t s) else s) s)

/-- SUPPLY_LOSS (R159): SUP_OK becomes 0 with the last of LOSS_STEPS. -/
def execSupplyLoss (c : Ctx) (s : State) : Host.Outcome State Fault Refusal :=
  done (seqEvent c (fun t s =>
    if seqSupUsed s t && (parm s t 6).bits 31 16 ≤ (seqOf s c.val).lossSteps + 1
    then seqWord0 c.val t (seqReqOn s t) false (seqSupPres s t) s else s) s)

/-- SUPPLY_QUALIFIED (R159): SUP_OK becomes 1 with the last of HOLDOFF × 1,000 steps. -/
def execSupplyQualified (c : Ctx) (s : State) : Host.Outcome State Fault Refusal :=
  done (seqEvent c (fun t s =>
    if seqSupUsed s t && (parm s t 6).bits 15 0 * 1000 ≤ (seqOf s c.val).returnSteps + 1
    then seqWord0 c.val t (seqReqOn s t) true (seqSupPres s t) s else s) s)

/-- RETRIES_CLEAR (R161): after 100,000 consecutive steps in ON. -/
def execRetriesClear (c : Ctx) (s : State) : Host.Outcome State Fault Refusal :=
  done (seqEvent c (fun t s =>
    if (seqOf s c.val).st = .on ∧ 100000 ≤ (seqOf s c.val).onSteps + 1 then seqSync c.val t (modSeq c.val (fun q => { q with retries := 0 }) s) else s) s)

/-- SEQ_REQ (R175, R176): a slave latches REQ from its master; any other request is discarded and raises the task-fault
source at class CE. -/
def execSeqReq (src : JAddr) (task : BitVec 16) (off : Bool) (s : State) : Host.Outcome State Fault Refusal :=
  done (match ctxOf s task.toNat, taskNo s task.toNat with
    | some c, some t =>
      if t.profile = .s then
        let w3 := parm s t 3
        if w3.bit 30 && w3.bits 25 16 == src.toNat then seqRequest c t (!off) s
        else s.raiseC (taskSrc (engOfCtx c)) .ce c t.num
      else s
    | _, _ => s)

/-- SEQ_STATE (R175): the state is kept; LOCKED of an awaited slave starts the fault reaction with CAUSE 5. -/
def execSeqState (src : JAddr) (task : BitVec 16) (st : SeqSt) (s : State) : Host.Outcome State Fault Refusal :=
  done ((List.range 64).foldl (fun s k =>
    let c := 384 + k
    match seqTask s c with
    | none => s
    | some t =>
      let s1 := modSeq c (fun q => { q with
        slaves := q.slaves.filter (fun x => !(x.1 == src && x.2.1 == task)) ++ [(src, task, st)] }) s
      match (seqOf s1 c).wait with
      | .await _ dev tk _ _ _ =>
        if st = .locked && dev == src && tk == task.toNat && canFault (seqOf s1 c).st then faultReact c t 5 none src.toNat s1 else s1
      | _ => s1) s)

end Sys2Proof.Machine
end

