-- ==== Sys2Proof/Machine/LoopMem.lean ====
section
/-!
DEFINITION. Memory, ports, events and user records (R49, R79 to R81, R91, R95).
-/
namespace Sys2Proof.Machine

/-- LD (R79). -/
def execLd (c : Ctx) (f : DForm) (s : State) : Host.Outcome State Fault Refusal :=
  done (engine c (wordD 0x40 f) 0 (fun i r s =>
    s.modCx c.val fun x => setReg c.val i.d (spaceRead s c.val r i.space i.addr) x) s)

/-- ST (R79). -/
def execSt (c : Ctx) (f : DForm) (s : State) : Host.Outcome State Fault Refusal :=
  done (engine c (wordD 0x41 f) 0 (fun i r s => spaceWrite c.val r i.space i.addr (reg c.val (s.cx c.val) i.d) s) s)

/-- The address of LDX and STX (R49). -/
def xAddr (c : Ctx) (i : Insn) (s : State) : Nat :=
  (reg c.val (s.cx c.val) i.a + reg c.val (s.cx c.val) i.b).toNat

/-- LDX (R49): out of range it loads 0 and raises 0x1003. -/
def execLdx (c : Ctx) (f : AForm) (s : State) : Host.Outcome State Fault Refusal :=
  done (engine c (wordA 0x42 f) 0 (fun i r s =>
    let a := xAddr c i s
    if inSpace r.prog i.md a then s.modCx c.val fun x => setReg c.val i.d (spaceRead s c.val r i.md a) x
    else outOfRange (s.modCx c.val fun x => setReg c.val i.d 0 x) c.val (nw a)) s)

/-- STX (R49): out of range the store is suppressed and 0x1003 raised. -/
def execStx (c : Ctx) (f : AForm) (s : State) : Host.Outcome State Fault Refusal :=
  done (engine c (wordA 0x43 f) 0 (fun i r s =>
    let a := xAddr c i s
    if inSpace r.prog i.md a then spaceWrite c.val r i.md a (reg c.val (s.cx c.val) i.d) s
    else outOfRange s c.val (nw a)) s)

/-- STALE of a port word (R95). -/
def portStale (r : Rel) (a : Nat) : Bool :=
  if a % 16 ≤ 4 then lat r.stale (a / 16) false
  else if a % 16 = 10 then lat r.ports a 0 == 0
  else false

/-- IN (R95): C is STALE; a fresh word of a channel counts for its ARMING (R101). -/
def execIn (c : Ctx) (f : DForm) (s : State) : Host.Outcome State Fault Refusal :=
  done (engine c (wordD 0x44 f) 0 (fun i r s =>
    let st := portStale r i.addr
    let s1 := s.modCx c.val fun x => setRes c.val i.d ⟨lat r.ports i.addr 0, false, some st, none⟩ x
    if i.addr % 16 ≤ 4 && !st then s1.modRel c.val fun q => { q with fresh := q.fresh ++ [i.addr / 16] } else s1) s)

/-- A value staged for a channel at a send tick (R91); the last one stands (R80). -/
def stagePut (tick : Nat) (isMode : Bool) (v : W) (l : List Staged) : List Staged :=
  if l.any (·.tick == tick) then
    l.map fun g => if g.tick == tick then (if isMode then { g with mode := some v } else { g with cmd := some v }) else g
  else l ++ [if isMode then ⟨tick, none, some v⟩ else ⟨tick, some v, none⟩]

/-- Stage a CMD or MODE of channel `n` by a release with release tick `rt` and deadline `d` (R91). -/
def stageOut (n rt d : Nat) (isMode : Bool) (v : W) (s : State) : State :=
  s.modCh n fun x =>
    { x with staged := stagePut (rt + d) isMode v x.staged
             stCmd := if isMode then x.stCmd else v, stMode := if isMode then v else x.stMode }

/-- OUT (R91). -/
def execOut (c : Ctx) (f : DForm) (s : State) : Host.Outcome State Fault Refusal :=
  done (engine c (wordD 0x45 f) 0 (fun i r s =>
    let v := reg c.val (s.cx c.val) i.d
    let n := (lat r.prog.chans (i.addr / 16) (false, 0)).2
    let s1 := s.modRel c.val fun q => { q with staged := (i.addr, v) :: q.staged }
    if r.shadow then s1 else stageOut n r.tick r.prog.deadline (i.addr % 16 == 9) v s1) s)

/-- EVT (R81). -/
def execEvt (c : Ctx) (f : BForm) (s : State) : Host.Outcome State Fault Refusal :=
  done (engine c (wordB 0x50 f) 0 (fun i r s =>
    let src := match r.prog.chans[i.a]? with
      | some x => 4 * x.2
      | none => taskSrc (engOfCtx c.val)
    s.raise src (if i.imm / 0x1000 % 4 = 1 then .uc else .ce) (i.imm % 0x1000) (reg c.val (s.cx c.val) i.d) c.val r.prog.num) s)

/-- REC (R81): one user note of n words (Table 10.3). -/
def execRec (c : Ctx) (f : AForm) (s : State) : Host.Outcome State Fault Refusal :=
  done (engine c (wordA 0x51 f) 0 (fun i _ s =>
    let n := i.md % 8 + 1
    let x := s.cx c.val
    (noteUser (i.sh * 2 ^ 15 + (n - 1) * 2 ^ 12 + c.val) ((List.range n).map fun k => reg c.val x (i.a + k)) s).modRel c.val
      fun q => { q with recWords := q.recWords + n }) s)

end Sys2Proof.Machine
end

