-- ==== Sys2Proof/Machine/Ocv.lean ====
section
/-!
DEFINITION. The OCV table and its two services (R282, Table 3.10). A table is read through `rd`, from its word 0 up. A value
that the table leaves open (a plateau, a NaN) is none, and the caller takes a free value for it. Rounding: log entry 12.
-/
namespace Sys2Proof.Machine

/-- Words `a` … of a table. -/
def rdN (rd : Nat → W) (a n : Nat) : List W := (List.range n).map fun i => rd (a + i)

/-- NS and NT (R282). -/
def ocvNs (rd : Nat → W) : Nat := (rd 0).bits 31 16
/-- NT (R282). -/
def ocvNt (rd : Nat → W) : Nat := (rd 0).bits 15 0
/-- The temperatures (R282). -/
def ocvTemps (rd : Nat → W) : List W := rdN rd 1 (ocvNt rd)
/-- The SoC points (R282). -/
def ocvPoints (rd : Nat → W) : List W := rdN rd (1 + ocvNt rd) (ocvNs rd)
/-- The row of temperature `i` (R282). -/
def ocvRow (rd : Nat → W) (i : Nat) : List W := rdN rd (1 + ocvNt rd + ocvNs rd * (i + 1)) (ocvNs rd)

/-- Neighbours of a list are in a relation. -/
def adjacent (le : W → W → Bool) : List W → Bool
  | a :: b :: r => le a b && adjacent le (b :: r)
  | _ => true

/-- The table keeps the rules of R282. -/
def ocvOk (rd : Nat → W) : Bool :=
  2 ≤ ocvNs rd && ocvNs rd ≤ 64 && 1 ≤ ocvNt rd && ocvNt rd ≤ 8 &&
  (ocvTemps rd).all isFin && adjacent flt (ocvTemps rd) &&
  (ocvPoints rd).all isFin && adjacent flt (ocvPoints rd) &&
  feq (lat (ocvPoints rd) 0 0) 0 && feq (lat (ocvPoints rd) (ocvNs rd - 1) 0) 0x3F800000 &&
  (List.range (ocvNt rd)).all fun i => (ocvRow rd i).all isFin && adjacent fle (ocvRow rd i)

/-- a + (b − a) × x. -/
def lerp (a b x : W) : W := if x = 0 then a else if x = 0x3F800000 then b else fadd a (fmul (fsub b a) x)

/-- Where a value lies among ascending points: the lower point and the fraction from it to the next, clamped outside. -/
def segOf (ps : List W) (v : W) : Nat × W :=
  let n := ps.length
  if fle v (lat ps 0 0) then (0, 0)
  else
    match (List.range (n - 1)).find? fun i => fle (lat ps i 0) v && flt v (lat ps (i + 1) 0) with
    | some i => (i, fdiv (fsub v (lat ps i 0)) (fsub (lat ps (i + 1) 0) (lat ps i 0)))
    | none => (n - 1, 0)

/-- The row of voltages at a temperature. -/
def ocvCurve (rd : Nat → W) (t : W) : List W :=
  let (i, x) := segOf (ocvTemps rd) t
  let r0 := ocvRow rd i
  let r1 := if i + 1 < ocvNt rd then ocvRow rd (i + 1) else r0
  (List.range (ocvNs rd)).map fun j => lerp (lat r0 j 0) (lat r1 j 0) x

/-- SOC_OCV: the cell voltage of a SoC and a temperature. -/
def socOcv (rd : Nat → W) (soc t : W) : Option W :=
  if !ocvOk rd || isNan soc || isNan t then none
  else
    let c := ocvCurve rd t
    let (j, x) := segOf (ocvPoints rd) soc
    some (lerp (lat c j 0) (lat c (min (j + 1) (ocvNs rd - 1)) 0) x)

/-- OCV_SOC: the SoC of a cell voltage and a temperature; none on a plateau of two points or more. -/
def ocvSoc (rd : Nat → W) (v t : W) : Option W :=
  if !ocvOk rd || isNan v || isNan t then none
  else
    let c := ocvCurve rd t
    let ps := ocvPoints rd
    if flt v (lat c 0 0) then some (lat ps 0 0)
    else if fgt v (lat c (ocvNs rd - 1) 0) then some (lat ps (ocvNs rd - 1) 0)
    else if (c.filter fun x => feq x v).length ≥ 2 then none
    else
      let (j, x) := segOf c v
      some (lerp (lat ps j 0) (lat ps (min (j + 1) (ocvNs rd - 1)) 0) x)

end Sys2Proof.Machine
end

