-- ==== Sys2Proof/Machine/UProfile.lean ====
section
/-!
DEFINITION. The instructions of the supervisory profile (R58 to R62).
-/
namespace Sys2Proof.Machine

/-- A value, or a free one (log entry 7). -/
def orFree (v : Option W) (s : State) : W × State :=
  match v with
  | some w => (w, s)
  | none => let (n, s1) := s.draw 0 0xFFFFFFFF; (nw n, s1)

/-- The SHARED window of a task as a table of words from address `a`; none past its end. -/
def winRd (s : State) (t : Task) (a k : Nat) : Option W :=
  if a + k < t.shLen then some (Memory.readW s.shared (sharedAt t 3 (a + k))) else none

/-- The words of an OCV table at `a` in the window of a task; it is usable when it lies inside the window (R282). -/
def ocvIn (s : State) (t : Task) (a : Nat) : Option (Nat → W) :=
  let rd := fun k => (winRd s t a k).getD 0
  if a + 1 + ocvNt rd + ocvNs rd * (ocvNt rd + 1) ≤ t.shLen then some rd else none

/-- The results of a library service (Table 3.10), none where the manual states none. -/
def libService (svc : Nat) (arg : Nat → W) (t : Task) (s : State) : Option W × Option W :=
  match svc with
  | 0x0001 => (some (fexp2 (arg 0)), none)
  | 0x0002 => (some (flog2 (arg 0)), none)
  | 0x0003 => let r := fsincos (arg 0); (some r.1, some r.2)
  | 0x0010 => ((ocvIn s t (arg 2).toNat).bind fun rd => ocvSoc rd (arg 0) (arg 1), none)
  | 0x0011 => ((ocvIn s t (arg 2).toNat).bind fun rd => socOcv rd (arg 0) (arg 1), none)
  | 0x0020 =>
    let a := (arg 0).toNat
    let n := (arg 1).toNat
    (if n = 0 || n > 256 then some 0
     else if a + n ≤ t.shLen then some (crc32cW (Memory.readWs s.shared (sharedAt t 3 a) n)) else none, none)
  | _ => (some (median5 [arg 0, arg 1, arg 2, arg 3, arg 4]), none)

/-- LIB (R58). -/
def execLib (c : Ctx) (f : EForm) (s : State) : Host.Outcome State Fault Refusal :=
  done (engine c (wordE 0x80 f) f.ext (fun i r s =>
    let svc := i.ext.bits 15 0
    let (r0, r1) := libService svc (fun k => reg c.val (s.cx c.val) (i.a + k)) r.prog s
    let (v, s1) := orFree r0 s
    let s2 := s1.modCx c.val fun x => setReg c.val i.d v x
    match r1 with
    | some w => s2.modCx c.val fun x => setReg c.val (i.d + 1) w x
    | none => s2) s)

/-- Bits 2:0 of LEDG field 5 (Table 3.11). -/
def ledgState (g : Ledger) : W := flag (g.chan.isSome && !g.absent) 0 ||| flag g.absent 1 ||| flag g.stale 2

/-- A ledger field (Table 3.11). -/
def ledgField (x : Context) (g : Ledger) (k : Nat) : W :=
  match k with
  | 0 => lo32 g.q
  | 1 => x.ledgHi
  | 2 => nw (g.qIn / 2 ^ 16)
  | 3 => nw (g.qOut / 2 ^ 16)
  | 4 => g.last
  | 5 => ledgState g
  | 6 => nw g.ticks
  | _ => g.cpc

/-- LEDG (R59). -/
def execLedg (c : Ctx) (f : BForm) (s : State) : Host.Outcome State Fault Refusal :=
  done (engine c (wordB 0x81 f) 0 (fun i r s =>
    let x := s.cx c.val
    let k := if i.a = 0 then i.imm / 256 else (reg c.val x i.a).bits 5 0
    let fieldNo := i.imm % 8
    if r.prog.ledgers.contains k then
      let g := vat s.clg k Ledger.init
      s.modCx c.val fun x =>
        let y := setReg c.val i.d (ledgField x g fieldNo) x
        if fieldNo = 0 then { y with ledgHi := hi32 g.q } else y
    else outOfRange (s.modCx c.val fun x => setReg c.val i.d 0 x) c.val (nw k)) s)

/-- An item of a thermal model (Table 3.12). -/
def tmurItem (h : Therm) (k : Nat) : W :=
  match k with
  | 0 => vat h.t 0 0
  | 1 => vat h.t 1 0
  | 2 => vat h.t 2 0
  | 3 => vat h.t 3 0
  | 4 => nw h.band
  | 5 => h.rise
  | 6 => flag h.run 0 ||| flag h.obs 1 ||| flag h.sensor 2
  | _ => 0

/-- TMUR (R60). -/
def execTmur (c : Ctx) (f : BForm) (s : State) : Host.Outcome State Fault Refusal :=
  done (engine c (wordB 0x82 f) 0 (fun i _ s =>
    let n := if i.a = 0 then i.imm / 64 else (reg c.val (s.cx c.val) i.a).bits 7 0
    if n < 192 then s.modCx c.val fun x => setReg c.val i.d (tmurItem (vat s.tmu.ch n Therm.init) (i.imm / 8 % 8)) x
    else outOfRange (s.modCx c.val fun x => setReg c.val i.d 0 x) c.val (nw n)) s)

/-- Words and age of a join address at dispatch: absent ones read 0 with age 255 (R61, R345). -/
def jnbRx (r : Rel) (j : Nat) : W × W × W × Nat := (assocGet r.jrx j).getD (0, 0, 0, 255)

/-- JRD (R61). -/
def execJrd (c : Ctx) (f : BForm) (s : State) : Host.Outcome State Fault Refusal :=
  done (engine c (wordB 0x83 f) 0 (fun i r s =>
    let j := if i.a = 0 then i.imm / 16 else (reg c.val (s.cx c.val) i.a).bits 9 0
    let (w0, w1, w2, age) := jnbRx r j
    let k := i.imm / 4 % 4
    let v := if i.imm % 4 = 1 then nw age else if k = 0 then w0 else if k = 1 then w1 else w2
    s.modCx c.val fun x => setReg c.val i.d v x) s)

/-- JWR (R61): a STANDBY's image is not sent, which TRAIN_PASSAGE sees to. The value is the register of the d field. -/
def execJwr (c : Ctx) (f : BForm) (s : State) : Host.Outcome State Fault Refusal :=
  done (engine c (wordB 0x84 f) 0 (fun i _ s =>
    { s with jnb := { s.jnb with slot := vput s.jnb.slot (i.imm / 4) (reg c.val (s.cx c.val) i.d) } }) s)

/-- PERIOD (R62). -/
def execPeriod (c : Ctx) (f : AForm) (s : State) : Host.Outcome State Fault Refusal :=
  done (engine c (wordA 0x85 f) 0 (fun i _ s =>
    { s with pg := vmod s.pg i.md fun g => { g with inc := reg c.val (s.cx c.val) i.a } }) s)

end Sys2Proof.Machine
end

