-- ==== Sys2Proof/Machine/LibOps.lean ====
section
/-!
DEFINITION. What the library tasks share (R63 to R65, R254 to R256): parameter words, the header word, samples and their
means, the PI term, LOSS, and the physical units of a channel's measurements. The fixed-point form of the PI term is the one
of the manual's example loops; binary32 expressions are evaluated in the order written, each operation rounded (log entry
12).
-/
namespace Sys2Proof.Machine

/-- Library IDs (Table 3.14). -/
def libRect : Nat := 0x0101
/-- Battery string. -/
def libBatt : Nat := 0x0102
/-- Feed. -/
def libFeed : Nat := 0x0103
/-- Tie. -/
def libTie : Nat := 0x0104
/-- Share. -/
def libShare : Nat := 0x0201
/-- Cap. -/
def libCap : Nat := 0x0202
/-- Hold-up. -/
def libHold : Nat := 0x0203
/-- Charge. -/
def libCharge : Nat := 0x0204
/-- Estimate. -/
def libEst : Nat := 0x0205

/-- The library ID of a task, 0 for none. -/
def libId (t : Task) : Nat := t.lib.elim 0 (·.1)

/-- The library instance that context `c` holds. -/
def libAt (s : State) (c id : Nat) : Option Task := (taskAt s c).filter fun t => libId t == id

/-- STATE of an instance (Table 3.13). -/
def libState (s : State) (t : Task) : Nat := (parm s t 3).bits 31 24
/-- REASON of an instance. -/
def libReason (s : State) (t : Task) : Nat := (parm s t 3).bits 23 16
/-- VALID of an instance. -/
def libValid (s : State) (t : Task) : Bool := (parm s t 3).bit 0

/-- Rewrite word 3 (R64). -/
def libHead (t : Task) (st reason : Nat) (valid : Bool) (s : State) : State :=
  parmPut t 3 (fld st 24 ||| fld (reason % 256) 16 ||| flag valid 0) s

/-- Change the working values of an instance. -/
def modLib (c : Nat) (f : LibSt → LibSt) (s : State) : State := s.modCx c fun x => { x with lib := f x.lib }

/-- The working values of the instance in context `c`. -/
def libOf (s : State) (c : Nat) : LibSt := (s.cx c).lib

/-- The instance restarted cold at this release (R262). -/
def libCold (s : State) (c : Nat) : Bool := vat (s.cx c).stat 3 0 == 1

/-- The channel a loop template is bound to. -/
def libCh (t : Task) : Nat := (boundCh t).getD 0

/-- Port word `k` of the bound channel (Table 5.2). -/
def libPort (r : Rel) (k : Nat) : W := lat r.ports k 0
/-- The sample of the release is fresh (R95). -/
def libFresh (r : Rel) : Bool := !(lat r.stale 0 false)

/-- A parameter word of counts. -/
def parmI (s : State) (t : Task) (a : Nat) : Int := (parm s t a).toInt
/-- A 16-bit field of counts of a parameter word, signed as the measurements are. -/
def parmF (s : State) (t : Task) (a lo : Nat) : Int := ((parm s t a).extractLsb' lo 16).toInt

/-- The samples of the last 200 ticks with a fresh one added (R254). -/
def winAdd (st : Nat) (b c : Int) (l : List (Nat × Int × Int)) : List (Nat × Int × Int) :=
  (l ++ [(st, b, c)]).filter fun x => x.1 + 200 > st

/-- A mean in counts, rounded towards minus infinity (R254). -/
def meanOf (l : List Int) : Int := floorDiv (l.foldl (· + ·) 0) l.length

/-- A fresh sample joins the window, and the window ages (R254). -/
def libSample (c : Nat) (r : Rel) (s : State) : State :=
  let st := r.tick - 1
  modLib c (fun x => { x with win :=
    (if libFresh r then winAdd st (libPort r 1).toInt (libPort r 2).toInt x.win else x.win.filter fun y => y.1 + 200 > st) }) s

/-- Write a mean of B into a parameter word; a window with no sample leaves it (R254). -/
def libMean (c : Nat) (t : Task) (word : Nat) (useC : Bool) (s : State) : State :=
  let l := (libOf s c).win
  if l.isEmpty then s else parmPut t word (iw (meanOf (l.map fun x => if useC then x.2.2 else x.2.1))) s

/-- The PI term (R254, R75): the sum before the clamp, and the integrator. -/
def piTerm (kp ki : W) (err i : Int) (frozen : Bool) : Int × Int :=
  let e := sat32 err
  let i1 := if frozen then i else sat32 (i + Sys2Proof.asr (e * ki.toInt) 15)
  (sat32 (sat32 (Sys2Proof.asr (kp.toInt * e) 15) + i1), i1)

/-- CLAMP of counts and S (R74). -/
def clampI (x lo hi : Int) : Int × Bool := let v := min (max x lo) hi; (v, v != x)

/-- COEF[k] of the bank the release reads (R254). -/
def libCoef (s : State) (c : Nat) (r : Rel) (k : Nat) : W := spaceRead s c r 1 k

/-- SCALE of measurement `k` of channel `n` (Table 8.11). -/
def scaleOf (s : State) (n k : Nat) : W := lat (s.lk (linkOf n)).hello (6 + 4 * slotOf n + k) 0

/-- Counts of measurement `k` of channel `n` in its unit. -/
def toUnit (s : State) (n k : Nat) (x : Int) : W := fmul (cvtf x 0) (scaleOf s n k)

/-- A value in the unit of measurement `k` of channel `n` as counts, to the nearest. -/
def toCounts (s : State) (n k : Nat) (v : W) : Int := (cvti (fdiv v (scaleOf s n k)) 0).1

/-- LOSS by E0 to E3 of the channel's thermal block (R296); without a usable block no value is stated (none). -/
def lossOf (s : State) (n : Nat) (b c : Int) : Option W :=
  match (vat s.tmu.ch n Therm.init).blk with
  | none => none
  | some e =>
    let i := fabs (toUnit s n 1 b)
    let v := toUnit s n 2 c
    some (fadd (fadd (fadd (lat e 0 0) (fmul (lat e 1 0) i)) (fmul (lat e 2 0) (fmul i i))) (fmul (fmul (lat e 3 0) i) v))

/-- Write LOSS, word 15 (R296). -/
def libLoss (t : Task) (r : Rel) (s : State) : State :=
  let (w, s1) := orFree (lossOf s (libCh t) (libPort r 1).toInt (libPort r 2).toInt) s
  parmPut t 15 w s1

/-- Stage CMD and MODE of the bound channel (R91). -/
def libStage (t : Task) (rt : Nat) (cmd : W) (mode : Nat) (s : State) : State :=
  stageOut (libCh t) rt t.deadline true (nw mode) (stageOut (libCh t) rt t.deadline false cmd s)

/-! Members (R255, R256). -/

/-- Bytes of `n` words from word `a`, low byte first: member lists. -/
def wordBytes (ws : List W) (a n : Nat) : List Nat :=
  (List.range (4 * n)).map fun k => (lat ws (a + k / 4) 0).bits (8 * (k % 4) + 7) (8 * (k % 4))

/-- The member lists of a library: first word, words, and the ROLE of the members (Table 6.6). -/
def libLists (id : Nat) : List (Nat × Nat × Nat) :=
  match id with
  | 0x0201 => [(8, 12, 0)]
  | 0x0202 => [(16, 12, 0), (28, 12, 3), (42, 16, 1)]
  | 0x0203 => [(16, 8, 0), (24, 8, 1)]
  | 0x0204 => [(8, 4, 1)]
  | _ => []

/-- The channels of one member list of a task; 0xFF is an empty place. -/
def listChans (t : Task) (l : Nat × Nat × Nat) : List Nat := (wordBytes t.paramInit l.1 l.2.1).filter (· != 0xFF)

/-- Every channel that a library instance has as a member (R255). -/
def memberChans (t : Task) : List Nat := (libLists (libId t)).flatMap (listChans t)

/-- Byte `k` of the member words from word `a`, when a SHARED window reaches that channel: admission grants windows for the lists of
the image, and a channel that a PARAM_WRITE adds to a list has none (R256; log entry 67). -/
def memberAt (s : State) (t : Task) (a k : Nat) : Option Nat :=
  let b := (parm s t (a + k / 4)).bits (8 * (k % 4) + 7) (8 * (k % 4))
  if b < 192 && (memberChans t).contains b then some b else none

/-- The channels that `n` member words from word `a` list. -/
def members (s : State) (t : Task) (a n : Nat) : List Nat := (List.range (4 * n)).filterMap (memberAt s t a)

/-- The task that owns channel `n`, when it is an instance of library `id`. -/
def memberTask (s : State) (id n : Nat) : Option Task := (ownerOf s n).filter fun t => libId t == id

/-- Parameter word `a` of the instance that owns channel `n`; 0 without one. -/
def memberWord (s : State) (id n a : Nat) : W := (memberTask s id n).elim 0 fun t => parm s t a

/-- Write parameter word `a` of the instance that owns channel `n` (R255, R256). -/
def memberPut (id n a : Nat) (v : W) (s : State) : State :=
  match memberTask s id n with
  | some t => parmPut t a v s
  | none => s

/-- The sum of binary32 values, in order. -/
def fsum (l : List W) : W := l.foldl fadd 0

/-- I_MEAN of a member in A. -/
def memberAmps (s : State) (id n : Nat) : W := toUnit s n 1 (memberWord s id n 16).toInt

/-- A power-path occurrence E(4n+3) of a member (R257, R269, R284). -/
def raisePP (n : Nat) (cls : EvClass) (code : Nat) (c : Nat) (t : Task) (s : State) : State :=
  s.raiseP (4 * n + 3) cls code c t.num

end Sys2Proof.Machine
end

