-- ==== Sys2Proof/Machine/LibParms.lean ====
section
/-!
DEFINITION. The parameter words of the library tasks as admission and PARAM_WRITE judge them: block lengths and periods of
Table 3.14, the ranges, relations and defaults of Tables 11.1, 11.4 to 11.7, 11.9, 11.10, 12.1 and 14.6, and each word's writer
(R64, R65, R254, R255).
-/
namespace Sys2Proof.Machine

/-- A library as the firmware carries it (Table 3.14): profile, periods, block length, worst case. -/
structure LibInfo where
  prof : Profile
  pmin : Nat
  pmax : Nat
  len : Nat
  w : Nat
deriving DecidableEq, Repr

/-- Table 3.14; a period of 200 ticks of a U task is kept as 0 (Table 6.4). -/
def libInfo (id : Nat) : Option LibInfo :=
  match id with
  | 0x0101 => some ⟨.l, 1, 100, 48, 212⟩
  | 0x0102 => some ⟨.l, 2, 200, 64, 236⟩
  | 0x0103 => some ⟨.l, 2, 200, 56, 188⟩
  | 0x0104 => some ⟨.l, 2, 100, 64, 254⟩
  | 0x0201 => some ⟨.u, 0, 0, 96, 1900⟩
  | 0x0202 => some ⟨.u, 1, 100, 80, 4200⟩
  | 0x0203 => some ⟨.u, 0, 0, 48, 1100⟩
  | 0x0204 => some ⟨.u, 10, 10, 72, 2600⟩
  | 0x0205 => some ⟨.u, 10, 10, 96, 9800⟩
  | _ => none

/-- What a word may hold: anything, a signed count of at least 0, an unsigned range, or a binary32 value that is a number. -/
inductive WRange where
  | any | pos | range (lo hi : Nat) | num
deriving DecidableEq, Repr

/-- A parameter word in its range (R254). -/
def WRange.ok (r : WRange) (w : W) : Bool :=
  match r with
  | .any => true
  | .pos => 0 ≤ w.toInt
  | .range lo hi => lo ≤ w.toNat && w.toNat ≤ hi
  | .num => !isNan w

/-- The writers of R255: the host, the instance or its port, or the instance of another library whose member list holds the
channel. -/
inductive WWriter where
  | h | t | lib (id : Nat)
deriving DecidableEq, Repr

/-- A listed parameter word: its number, range and writer. -/
structure WSpec where
  word : Nat
  rng : WRange
  wr : WWriter
deriving DecidableEq, Repr

/-- Words `lo` to `hi` of one kind. -/
def wrun (lo hi : Nat) (r : WRange) (w : WWriter) : List WSpec := (List.range (hi + 1 - lo)).map fun k => ⟨lo + k, r, w⟩

/-- The listed words of a library's block. -/
def libWordsSpec (id : Nat) : List WSpec :=
  match id with
  | 0x0101 => [⟨4, .any, .lib libShare⟩, ⟨5, .any, .lib libCap⟩, ⟨6, .any, .lib libHold⟩, ⟨7, .range 0 1, .lib libHold⟩,
      ⟨8, .any, .h⟩, ⟨9, .any, .h⟩] ++ wrun 15 18 .any .t
  | 0x0102 => [⟨4, .any, .lib libHold⟩, ⟨5, .pos, .lib libCharge⟩, ⟨6, .any, .h⟩, ⟨7, .pos, .h⟩, ⟨8, .any, .h⟩, ⟨9, .any, .h⟩,
      ⟨10, .range 100 60000, .h⟩] ++ wrun 15 17 .any .t
  | 0x0103 => [⟨4, .any, .h⟩, ⟨5, .range 1 65535, .h⟩, ⟨6, .range 2000 100000, .h⟩, ⟨7, .range 100 600000, .h⟩,
      ⟨8, .range 0 3, .h⟩, ⟨9, .range 1 10000, .h⟩, ⟨10, .range 0 255, .h⟩, ⟨11, .range 10 10000, .h⟩, ⟨12, .range 0 15, .h⟩,
      ⟨13, .range 0 1, .h⟩, ⟨14, .range 0 1, .lib libCap⟩] ++ wrun 15 20 .any .t
  | 0x0104 => [⟨4, .any, .h⟩, ⟨5, .any, .h⟩, ⟨6, .any, .h⟩, ⟨7, .pos, .h⟩, ⟨8, .pos, .h⟩, ⟨9, .any, .h⟩, ⟨10, .pos, .h⟩,
      ⟨11, .pos, .h⟩, ⟨12, .range 200 20000, .h⟩, ⟨13, .range 1 65535, .h⟩, ⟨14, .range 0 255, .h⟩, ⟨15, .any, .t⟩,
      ⟨16, .range 0 1, .lib libCharge⟩] ++ wrun 17 21 .any .t
  | 0x0201 => wrun 4 7 .num .h ++ wrun 8 19 .any .h ++ [⟨20, .any, .h⟩] ++ wrun 21 28 .any .h ++ wrun 32 34 .any .t
  | 0x0202 => [⟨4, .num, .h⟩, ⟨5, .range 0 2, .h⟩, ⟨6, .num, .h⟩, ⟨7, .num, .h⟩, ⟨8, .num, .h⟩, ⟨9, .any, .h⟩] ++
      wrun 10 15 .num .h ++ wrun 16 57 .any .h ++ wrun 64 68 .any .t
  | 0x0203 => [⟨4, .num, .h⟩, ⟨5, .num, .h⟩, ⟨6, .range 100 60000, .h⟩, ⟨7, .num, .h⟩, ⟨8, .range 1 1000, .h⟩, ⟨9, .num, .h⟩] ++
      wrun 16 31 .any .h ++ wrun 32 33 .any .t
  | 0x0204 => [⟨4, .num, .h⟩, ⟨5, .range 0 65535, .h⟩, ⟨6, .any, .h⟩] ++ wrun 8 23 .any .h ++ wrun 32 36 .any .t
  | 0x0205 => [⟨4, .num, .h⟩, ⟨5, .range 1 1024, .h⟩, ⟨6, .any, .h⟩] ++ wrun 7 15 .num .h ++ [⟨16, .any, .h⟩] ++
      wrun 17 19 .num .h ++ [⟨20, .any, .h⟩, ⟨21, .num, .h⟩, ⟨22, .num, .h⟩] ++ wrun 32 43 .any .t
  | _ => []

/-- The listed default of a word, from the words of its block (R254). The words for which 0 is a setting have none here. -/
def libDefault (id : Nat) (ws : List W) (a : Nat) : W :=
  let w := fun (k : Nat) => lat ws k 0
  match id, a with
  | 0x0101, 5 => w 9
  | 0x0101, 6 => w 9
  | 0x0101, 7 => 1
  | 0x0102, 10 => 2000
  | 0x0103, 6 => 20000
  | 0x0103, 7 => 1000
  | 0x0103, 9 => 100
  | 0x0103, 11 => 100
  | 0x0104, 4 => 0x0A00
  | 0x0104, 12 => 2000
  | 0x0104, 16 => 1
  | 0x0201, 5 => 0x40000000
  | 0x0201, 6 => fmul 0x3CA3D70A (w 4)
  | 0x0202, 9 => 100
  | 0x0202, 10 => 0x3D4CCCCD
  | 0x0202, 12 => 0x3F800000
  | 0x0202, 13 => 0x44160000
  | 0x0202, 14 => 0x3F75C28F
  | 0x0202, 15 => 0x3D4CCCCD
  | 0x0203, 5 => fmul 0x3CA3D70A (w 4)
  | 0x0203, 6 => 500
  | 0x0203, 7 => w 9
  | 0x0203, 8 => 20
  | 0x0204, 5 => 0xFFFF
  | 0x0205, 8 => 0x3D4CCCCD
  | 0x0205, 10 => fdiv (w 4) 0x42C80000
  | 0x0205, 11 => fdiv (w 4) 0x41A00000
  | 0x0205, 12 => 0x44160000
  | 0x0205, 14 => fdiv (w 4) 0x43480000
  | 0x0205, 15 => 0x44E10000
  | 0x0205, 16 => 0x00140A05
  | 0x0205, 21 => 0x42700000
  | 0x0205, 22 => 0x42700000
  | _, _ => 0

/-- The listed default of a word that an older block lacks (R254): also for the words of which 0 is a setting (Tables 11.1, 12.1). -/
def libDefaultOld (id : Nat) (ws : List W) (a : Nat) : W :=
  match id, a with
  | 0x0103, 8 => 1
  | 0x0103, 10 => 0xFF
  | 0x0205, 17 => 0x41700000
  | 0x0205, 18 => 0x420C0000
  | 0x0205, 19 => 0x41C80000
  | _, _ => libDefault id ws a

/-- The block an instance of minor version `min` starts with (R63, R254, R255): a listed word given as 0 takes its default, as does one
that the version lacks; a reserved word and one that the instance itself writes read 0. -/
def libFill (id min : Nat) (ws : List W) : List W :=
  let spec := libWordsSpec id
  (List.range ws.length).map fun a =>
    let v := lat ws a 0
    if a < 3 then v
    else match spec.find? (·.word == a) with
      | none => 0
      | some x =>
        if x.wr = .t then 0
        else if min < 3 && Config.libLacks id min a then libDefaultOld id ws a
        else if v = 0 then libDefault id ws a
        else v

/-- The relations between words and the values inside words that the tables state (R254, R256, R280). -/
def libRelOk (id : Nat) (ws : List W) : Bool :=
  let w := fun (k : Nat) => lat ws k 0
  let lo := fun (k : Nat) => ((w k).extractLsb' 0 16).toInt
  let hi := fun (k : Nat) => ((w k).extractLsb' 16 16).toInt
  let slot := fun (k : Nat) => !(w k).bit 7 || (w k).bits 1 0 ≤ 2
  match id with
  | 0x0103 => lo 4 < hi 4 && ((w 10).toNat ≤ 7 || (w 10).toNat = 0xFF)
  | 0x0104 => (w 4).bits 1 0 ≤ 2 && 5 ≤ (w 4).bits 15 8 && (w 4).bits 15 8 ≤ 20 && lo 6 < hi 6
  | 0x0201 => slot 20
  | 0x0202 => slot 41 && (!(w 40).bit 31 || (w 40).bits 1 0 ≤ 2)
  | 0x0204 => (wordBytes ws 12 4).all (· ≤ 143) && (w 6).bits 15 8 ≤ 100
  | 0x0205 => (w 20).bits 31 16 != (w 20).bits 15 0 && (w 16).bits 23 16 ≤ 100 &&
      (w 16).bits 15 8 < (w 16).bits 23 16 && (w 16).bits 7 0 < (w 16).bits 15 8
  | _ => true

/-- Every word of a block lies in its range (R254). -/
def libRangesOk (id : Nat) (ws : List W) : Bool :=
  ((libWordsSpec id).all fun x => x.rng.ok (lat ws x.word 0)) && libRelOk id ws

/-! Writers (R255). -/

/-- The tie port that a Charge instance names with REVERSE_EN (Table 11.10). -/
def revPort (t : Task) : Option Nat :=
  let w := lat t.paramInit 6 0
  if libId t = libCharge && w.bit 0 then some (w.bits 18 16) else none

/-- Channel `n` is a member of instance `u` of library `id` as its words stand (R255). -/
def memberNow (s : State) (id n : Nat) (u : Task) : Bool :=
  libId u == id && (libLists id).any fun l => (members s u l.1 l.2.1).contains n

/-- The host may write word `a` of an instance (R224, R255): its word, or one whose writer is not in force. -/
def hostWritesWord (s : State) (g : Image) (t : Task) (a : Nat) : Bool :=
  match (libWordsSpec (libId t)).find? (·.word == a) with
  | none => true
  | some x =>
    match x.wr with
    | .h => true
    | .t => false
    | .lib id =>
      let n := (boundCh t).getD 0
      let bound := ((g.chans.find? (·.ch == n)).map (·.bound)).getD 0xFF
      if libId t = libTie then
        !(g.tasks.any fun u => libId u == libCharge && (parm s u 6).bit 0 && (parm s u 6).bits 18 16 == bound)
      else !(g.tasks.any (memberNow s id n))

/-- The RECT members in the block `ws` of a Share or a Hold-up instance (Tables 11.6 and 11.7). -/
def rectList (t : Task) (ws : List W) : List Nat :=
  if libId t = libShare || libId t = libHold then
    (wordBytes ws (if libId t = libShare then 8 else 16) (if libId t = libShare then 12 else 8)).filter (· < 192)
  else []

/-- A Share and a Hold-up instance stand on one bus, with a RECT member in common, and their V_SET differ (R254, Table 11.7; log
entry 67). -/
def vsetBad (t u : Task) (wt wu : List W) : Bool :=
  ((libId t == libShare && libId u == libHold) || (libId t == libHold && libId u == libShare)) &&
  (rectList t wt).any (rectList u wu).contains && lat wt 4 0 != lat wu 4 0

end Sys2Proof.Machine
end

