-- ==== Sys2Proof/Machine/Feed.lean ====
section
/-!
DEFINITION. The Feed template (R257 to R262) and the ends of its timers.
-/
namespace Sys2Proof.Machine

/-- A feed as one release works on it: state, reason, FLAGS, LATCH_TICK and working values (Tables 11.1 and 11.2). -/
structure FeedW where
  st : Nat
  reason : Nat
  pg : Bool
  latched : Bool
  present : Bool
  coolDone : Bool
  offSeen : Bool
  latchTick : W
  lib : LibSt
  /-- Entries to LATCHED and SHED of this release, as class and code. -/
  ev : List (EvClass × Nat)
deriving DecidableEq, Repr

/-- The feed in its parameter block (Table 11.1). -/
def feedLoad (s : State) (c : Nat) (t : Task) : FeedW :=
  let f := parm s t 18
  ⟨libState s t, libReason s t, f.bit 0, f.bit 2, f.bit 3, f.bit 4, f.bit 5, parm s t 19, libOf s c, []⟩

/-- Ticks of T_COOL still to run at sample tick `st` (R260), from the tick whose low word is LATCH_TICK. -/
def coolTicks (s : State) (t : Task) (f : FeedW) (st : Nat) : Nat :=
  if f.latched && !f.coolDone then (parm s t 7).toNat * 2000 - (st - f.lib.latch) else 0

/-- FLAGS (Table 11.1). -/
def feedFlags (f : FeedW) : W :=
  flag f.pg 0 ||| flag f.lib.timer.isSome 1 ||| flag f.latched 2 ||| flag f.present 3 ||| flag f.coolDone 4 ||| flag f.offSeen 5

/-- CMD and MODE of a state (Table 11.2). -/
def feedOut (f : FeedW) : W × Nat :=
  if f.st = 1 then (iw (sat32 f.lib.ramp), 1) else if f.st = 2 then (0xFFFFFF, 1) else (0, 0)

/-- The feed goes back to its block, its output is staged and its occurrences are raised (R257, R260). -/
def feedStore (c : Nat) (t : Task) (f : FeedW) (st rt : Nat) (valid : Bool) (s : State) : State :=
  let cool := ceilDiv (coolTicks s t f st) 2000
  let s1 := parmPut t 20 (nw cool) (parmPut t 19 f.latchTick (parmPut t 18 (feedFlags f) (libHead t f.st f.reason valid s)))
  let s2 := modLib c (fun _ => f.lib) s1
  let o := feedOut f
  let s3 := libStage t rt o.1 o.2 s2
  f.ev.foldl (fun s e => raisePP (libCh t) e.1 e.2 c t s) s3

/-- Entry to LATCHED (R257, R260). -/
def feedLatch (st reason : Nat) (f : FeedW) : FeedW :=
  { f with st := 3, reason := reason, latched := true, coolDone := false, offSeen := false, latchTick := tc32 st
           lib := { f.lib with timer := none, latch := st }, pg := false, ev := f.ev ++ [(.uc, reason)] }

/-- Entry to RAMP: the reference is V_OUT + SLEW (R257). -/
def feedRamp (s : State) (t : Task) (vout : Int) (st : Nat) (f : FeedW) : FeedW :=
  { f with st := 1, latched := false, lib := { f.lib with ramp := vout + parmI s t 5, since := st, timer := none } }

/-- REQ (Table 11.1). -/
def feedReq (s : State) (t : Task) : Bool := (parm s t 13).bit 0
/-- SHED_OFF (Table 11.1). -/
def feedShed (s : State) (t : Task) : Bool := (parm s t 14).bit 0

/-- An accepted presence change (R261). -/
def feedAccept (s : State) (t : Task) (b : Bool) (vout : Int) (st : Nat) (f : FeedW) : FeedW :=
  let f0 := { f with present := b, lib := { f.lib with pres := none, presKnown := true } }
  if !b then { f0 with st := 4, offSeen := true, lib := { f0.lib with timer := none } }
  else if f.st = 4 then
    (if f.latched && !f.coolDone then { f0 with st := 3 }
     else if feedReq s t then feedRamp s t vout st f0 else { f0 with st := 0, latched := false })
  else f0

/-- COOL_DONE (R260). -/
def feedCool (s : State) (t : Task) (band st : Nat) (f : FeedW) : FeedW :=
  if f.latched && !f.coolDone && coolTicks s t f st = 0 && band ≤ (parm s t 8).toNat then { f with coolDone := true } else f

/-- Step 1, presence (R261, R262). -/
def feedPresence (s : State) (t : Task) (r : Rel) (st : Nat) (f : FeedW) : FeedW :=
  let p := (parm s t 10).toNat
  let vout := (libPort r 0).toInt
  if p = 0xFF then { f with present := true, lib := { f.lib with presKnown := true } }
  else if !libFresh r then f
  else
    let b := (libPort r 4).bit p
    if !f.lib.presKnown then (if b then { f with present := true, lib := { f.lib with presKnown := true } } else feedAccept s t false vout st f)
    else if b = f.present then { f with lib := { f.lib with pres := none } }
    else
      let t0 := match f.lib.pres with
        | some (v, t0) => if v = b then t0 else st
        | none => st
      if st ≥ t0 + (parm s t 11).toNat * 2000 then feedAccept s t b vout st f
      else { f with lib := { f.lib with pres := some (b, t0) } }

/-- Step 3, the fault timer (R258). -/
def feedTimer (s : State) (t : Task) (r : Rel) (st : Nat) (f : FeedW) : FeedW :=
  if f.st = 1 || f.st = 2 then
    let clim := (libPort r 4).bit 13
    let tm := if libFresh r then (if clim then (match f.lib.timer with
        | some t0 => some t0
        | none => some st) else none) else f.lib.timer
    let f1 := { f with lib := { f.lib with timer := tm } }
    match tm with
    | some t0 => if st ≥ t0 + (parm s t 6).toNat then feedLatch st 1 f1 else f1
    | none => f1
  else { f with lib := { f.lib with timer := none } }

/-- PG (R259), judged in the state after step 3; a later step's change shows in the next release. -/
def feedPg (s : State) (t : Task) (r : Rel) (f : FeedW) : FeedW :=
  let a := (libPort r 0).toInt
  let chan := (libPort r 6).toNat
  let can := !f.latched && (f.st == 1 || f.st == 2) && (chan == 1 || chan == 2)
  let inside := parmF s t 4 0 ≤ a && a ≤ parmF s t 4 16 && f.lib.timer.isNone
  { f with pg := can && (if libFresh r then inside else f.pg) }

/-- Step 4: REQ = 0 (R257). -/
def feedOff (s : State) (t : Task) (f : FeedW) : FeedW :=
  let f1 := if f.st = 3 && !feedReq s t then { f with offSeen := true } else f
  if feedReq s t then f1
  else if f.st = 1 || f.st = 2 || f.st = 5 then { f1 with st := 0, lib := { f1.lib with timer := none } }
  else if f.st = 3 && f.coolDone then { f1 with st := 0, latched := false }
  else f1

/-- Step 5: SHED_OFF = 1 (R257). -/
def feedShedStep (s : State) (t : Task) (f : FeedW) : FeedW :=
  if feedShed s t && (f.st = 1 || f.st = 2) then
    { f with st := 5, reason := 4, lib := { f.lib with timer := none }, ev := f.ev ++ [(.ce, 4)] }
  else f

/-- Step 6, the ramp and the ways back to it (R257, R260, Table 11.2). -/
def feedRampStep (s : State) (t : Task) (r : Rel) (st : Nat) (f : FeedW) : FeedW :=
  let a := (libPort r 0).toInt
  let req := feedReq s t
  if f.st = 1 then
    let ref := f.lib.ramp + parmI s t 5
    if ref ≥ (libPort r 2).toInt then { f with st := 2, lib := { f.lib with ramp := ref } }
    else if libFresh r && a < parmF s t 4 0 && st ≥ f.lib.since + (parm s t 9).toNat * 2000 then feedLatch st 3 f
    else { f with lib := { f.lib with ramp := ref } }
  else if (f.st = 0 || f.st = 5) && req && !feedShed s t then feedRamp s t a st f
  else if f.st = 3 && f.coolDone && req && f.offSeen then feedRamp s t a st f
  else f

/-- A step of R257, unless an earlier one has changed the state. -/
def feedThen (st0 : Nat) (f : FeedW → FeedW) (x : FeedW) : FeedW := if x.st = st0 then f x else x

/-- One release of a Feed instance (R257 to R262). -/
def feedRun (c : Nat) (t : Task) (r : Rel) (s0 : State) : State :=
  let st := r.tick - 1
  let s := libMean c t 16 false (libSample c r s0)
  let s := parmPut t 17 (libPort r 0) s
  let f0 := feedLoad s c t
  let f0 := if libCold s c && f0.st = 1 then feedRamp s t ((libPort r 0).toInt - parmI s t 5) st f0 else f0
  let f0 := feedCool s t (libPort r 5).toNat st f0
  let f1 := feedPresence s t r st f0
  let trip := libFresh r && ((libPort r 4).bit 15 || (libPort r 4).bit 14)
  let f2 := feedThen f0.st (fun f => if trip && (f.st = 1 || f.st = 2) then feedLatch st 2 f else f) f1
  let f3 := feedPg s t r (feedThen f0.st (feedTimer s t r st) f2)
  let f4 := feedThen f0.st (feedOff s t) f3
  let f5 := feedThen f0.st (feedShedStep s t) f4
  let f6 := feedThen f0.st (feedRampStep s t r st) f5
  libLoss t r (feedStore c t f6 st r.tick (libValid s t || libFresh r) s)

/-- A feed's timer whose end has come: it acts with the sample tick before this tick (log entry 9). -/
def feedEvent (c : Nat) (f : State → Task → FeedW → FeedW) (s : State) : State :=
  match libAt s c libFeed with
  | some t => feedStore c t (f s t (feedLoad s c t)) (s.now - 1) s.now (libValid s t) s
  | none => s

/-- FEED_FAULT_TIMER_EXPIRY (R258). -/
def execFeedFaultTimerExpiry (c : Ctx) (s : State) : Host.Outcome State Fault Refusal :=
  done (feedEvent c.val (fun s t f =>
    if (f.lib.timer.any fun t0 => s.now - 1 ≥ t0 + (parm s t 6).toNat) && (f.st = 1 || f.st = 2)
    then feedLatch (s.now - 1) 1 f else f) s)

/-- FEED_RAMP_TIMEOUT (R257): RAMP_MAX after the entry to RAMP, the last valid A below PG_LO. -/
def execFeedRampTimeout (c : Ctx) (s : State) : Host.Outcome State Fault Refusal :=
  done (feedEvent c.val (fun s t f =>
    if f.st = 1 && s.now - 1 ≥ f.lib.since + (parm s t 9).toNat * 2000 && (parm s t 17).toInt < parmF s t 4 0
    then feedLatch (s.now - 1) 3 f else f) s)

/-- FEED_COOL_DOWN_END (R260): COOL_DONE becomes 1, once the band is at or below COOL_BAND, and COOL_LEFT reads 0. -/
def execFeedCoolDownEnd (c : Ctx) (s : State) : Host.Outcome State Fault Refusal :=
  done (feedEvent c.val (fun s t f => feedCool s t (bandOf s (libCh t)) (s.now - 1) f) s)

/-- FEED_PRESENCE_ACCEPTED (R261): the change in progress has held for T_INSERT. -/
def execFeedPresenceAccepted (c : Ctx) (s : State) : Host.Outcome State Fault Refusal :=
  done (feedEvent c.val (fun s t f => match f.lib.pres with
    | some (b, t0) =>
      if s.now - 1 ≥ t0 + (parm s t 11).toNat * 2000 then feedAccept s t b (parmI s t 17) (s.now - 1) f else f
    | none => f) s)

end Sys2Proof.Machine
end

