-- ==== Sys2Proof/Machine/LibLoops.lean ====
section
/-!
DEFINITION. The Rectifier, Battery string and Tie templates (R263 to R265, R324).
-/
namespace Sys2Proof.Machine

/-- One release of a Rectifier instance (R263). On a stale sample it holds its integrator and its last command. -/
def rectRun (c : Nat) (t : Task) (r : Rel) (s0 : State) : State :=
  let s := libMean c t 17 true (libMean c t 16 false (libSample c r s0))
  let x := libOf s c
  let cs := (libPort r 2).toInt
  let srcOk := parmF s t 8 0 ≤ cs && cs ≤ parmF s t 8 16
  let run := (parm s t 7).bit 0
  let lim := min (parmI s t 5) (min (parmI s t 6) (parmI s t 9))
  let (v, i1) := piTerm (libCoef s c r 0) (libCoef s c r 1) (parmI s t 4 - (libPort r 0).toInt) x.i1 x.sat
  let (cmd, sat) := clampI v 0 lim
  let old := parm s t 18
  let clim := if libFresh r then (libPort r 4).bit 13 else old.bit 1
  let act := run && libFresh r
  let inLim := if act then sat else x.sat
  let ok := if libFresh r then srcOk else old.bit 0
  let s1 := parmPut t 18 (flag ok 0 ||| flag clim 1 ||| flag inLim 2) s
  let s2 := modLib c (fun x => if act then { x with i1 := i1, sat := sat } else x) s1
  let s3 := if !run then libStage t r.tick 0 0 s2
    else if libFresh r then libStage t r.tick (iw cmd) 1 s2 else s2
  libLoss t r (libHead t 0 0 (libValid s t || libFresh r) s3)

/-- The ledger bound to a channel (Table 6.6, R276). -/
def ledgerOf (s : State) (n : Nat) : Option Nat :=
  (chanDecl s n).bind fun d => if d.role = 1 && d.bound < 64 then some d.bound else none

/-- ABSENT of the ledger of a string (R278). -/
def ledgerAbsent (n : Nat) (b : Bool) (s : State) : State :=
  match ledgerOf s n with
  | some k => s.modLg k fun g => { g with absent := b }
  | none => s

/-- The Estimate instance of a ledger: SCOPE names it (R280). -/
def estimateOf (s : State) (k : Nat) : Option Task :=
  s.adm.img.bind fun g => g.tasks.find? fun t => libId t == libEst && (parm s t 2).bits 15 0 == k

/-- The estimator of a string reports it usable: PROVISIONAL or VALID (R265, R287, Table 12.2). -/
def stringUsable (s : State) (n : Nat) : Bool :=
  match (ledgerOf s n).bind (estimateOf s) with
  | some t => libState s t == 1 || libState s t == 2
  | none => false

/-- Entry to ABSENT (R265, R278). -/
def stringAbsent (c : Nat) (t : Task) (s : State) : State :=
  let n := libCh t
  let s1 := modLib c (fun x => { x with timer := none, i1 := 0, i2 := 0, sat := false, sat2 := false }) (ledgerAbsent n true s)
  s1.raiseC (4 * n + 3) .uc c t.num

/-- Entry to REST from ABSENT (R265, R278). -/
def stringRest (c : Nat) (t : Task) (s : State) : State :=
  libHead t 4 (libReason s t) (libValid s t) (modLib c (fun x => { x with timer := none }) (ledgerAbsent (libCh t) false s))

/-- Check 0 of the template (R265): a command model on B with L = 2, whose bound the manual does not state (a free value).
The counter, and that it reaches the limit. -/
def stringCheck (c : Nat) (t : Task) (r : Rel) (s : State) : Bool × State :=
  if !libFresh r then (false, s)
  else
    let (bound, s1) := s.draw 0 0xFFFFFFFF
    let bad := plausBad false 0 (libPort r 1) (libPort r 8) (nw bound)
    let cnt := if bad then min (vat (s.cx c).chk 0 0 + 1) 15 else 0
    let s2 := s1.modCx c fun x => { x with chk := vput x.chk 0 cnt, fP := x.fP || cnt == 2 }
    if bad && cnt = 2 then (true, s2.raise (4 * libCh t) .ce 0x1001 0 c t.num) else (false, s2)

/-- STATE by the sign of CMD (R264). -/
def stringState (cmd : Int) : Nat := if cmd > 0 then 1 else if cmd < 0 then 2 else 0

/-- One release of a Battery string instance (R264, R265). CMD counts charging as positive, so the bus term, which acts on V_HOLD - A,
drives it with A - V_HOLD: at its ceiling while A is above V_HOLD, and down to discharge as A falls (log entry 67). REST ends in IDLE, with
C inside the present window. -/
def battRun (c : Nat) (t : Task) (r : Rel) (s0 : State) : State :=
  let n := libCh t
  let st := r.tick - 1
  let fresh := libFresh r
  let s := parmPut t 17 (libPort r 2) (libMean c t 16 false (libSample c r s0))
  let (chk, s) := stringCheck c t r s
  let cs := (libPort r 2).toInt
  let gone := (fresh && (cs > parmI s t 9 || (libPort r 4).bit 14)) || chk
  let valid := libValid s t || fresh
  let st0 := libState s t
  let fin := fun (s : State) => libLoss t r s
  if gone && st0 != 3 then
    fin (libStage t r.tick 0 0 (libHead t 3 (libReason s t) valid (stringAbsent c t s)))
  else if st0 = 3 then
    let inside := parmF s t 8 0 ≤ cs && cs ≤ parmF s t 8 16
    let s1 := if fresh then modLib c (fun x => { x with timer := if inside then (match x.timer with
        | some t0 => some t0
        | none => some st) else none }) s else s
    let need1 : Bool := match (libOf s1 c).timer with
      | some t0 => st ≥ t0 + (parm s t 10).toNat * 2000
      | none => false
    let s2 := if need1 then stringRest c t s1 else libHead t 3 (libReason s t) valid s1
    fin (libStage t r.tick 0 0 s2)
  else if st0 = 4 then
    let inside := parmF s t 8 0 ≤ cs && cs ≤ parmF s t 8 16
    fin (libStage t r.tick 0 0 (libHead t (if inside && stringUsable s n then 0 else 4) (libReason s t) valid s))
  else if !fresh then fin (libHead t st0 (libReason s t) valid s)
  else
    let x := libOf s c
    let kp := libCoef s c r 0
    let ki := libCoef s c r 1
    let (v1, i1) := piTerm kp ki ((libPort r 0).toInt - parmI s t 4) x.i1 x.sat
    let (v2, i2) := piTerm kp ki (parmI s t 6 - cs) x.i2 x.sat2
    let (icv, sat2) := clampI v2 0 (parmI s t 5)
    let (cmd, sat) := clampI v1 (-(parmI s t 7)) (min (parmI s t 5) icv)
    let s1 := modLib c (fun x => { x with i1 := i1, i2 := i2, sat := sat, sat2 := sat2 }) s
    fin (libStage t r.tick (iw cmd) 1 (libHead t (stringState cmd) (libReason s t) valid s1))

/-- STRING_REINS_TIMER (R265; log entry 9). -/
def execStringReinsTimer (c : Ctx) (s : State) : Host.Outcome State Fault Refusal :=
  done (match libAt s c.val libBatt with
    | some t =>
      if libState s t = 3 && (libOf s c.val).timer.any fun t0 => s.now - 1 ≥ t0 + (parm s t 10).toNat * 2000
      then stringRest c.val t s else s
    | none => s)

/-- STATE of a Tie instance (R324). -/
def tieState (p : Tpc) : Nat :=
  if p.prot then 4
  else if p.st = .rest then 5
  else if p.lease then (if p.role = 1 then 3 else 2)
  else if p.attached then 1
  else 0

/-- One release of a Tie instance (R317, R318, R324). A path whose current has been ramped to 0 opens. Between its GRANT and its LIVE a feeder's path is closed at a limit of
0 (R316). -/
def tieRun (c : Nat) (t : Task) (r : Rel) (s0 : State) : State :=
  let n := libCh t
  let port := (portOf s0 n).getD 8
  let rest := decide ((libOf s0 c).ramp ≤ 0) || (libOf s0 c).phase != 1
  let sOff := tieTurnStep port (tieOfferStep port rest (tiePrefStep port s0))
  let p := sOff.tp port
  let s := libMean c t 21 false (libSample c r sOff)
  let x := libOf s c
  let slew := parmI s t 13
  let lim0 := if p.lease && x.phase = 1 then x.ramp else 0
  let lim := if !p.lease then 0
    else if p.winding then max 0 (lim0 - slew)
    else min (lim0 + slew) (parmI s t 18)
  let feeder := p.role == 1
  let closed := (p.lease && !(p.winding && lim == 0)) || (p.granted && feeder)
  let err := if feeder then (parmF s t 6 16 + parmF s t 6 0) / 2 - (libPort r 2).toInt else parmI s t 5 - (libPort r 0).toInt
  let x0 := if x.phase = 1 then x else { x with i1 := 0, sat := false }
  let (v, i1) := piTerm (libCoef s c r 0) (libCoef s c r 1) err x0.i1 x0.sat
  let (cmd, sat) := if feeder then clampI v (-lim) 0 else clampI v 0 lim
  let s1 := modLib c (fun _ =>
    if !p.lease then { x with phase := 0, ramp := 0, i1 := 0, sat := false }
    else if libFresh r then { x0 with phase := 1, ramp := lim, i1 := i1, sat := sat }
    else { x0 with phase := 1, ramp := lim }) s
  let s2 := libHead t (tieState p) (libReason s t) p.lease s1
  let s3 := if !closed then libStage t r.tick 0 0 s2
    else if libFresh r then libStage t r.tick (iw cmd) (if feeder then 2 else 1) s2 else s2
  libLoss t r s3

end Sys2Proof.Machine
end

