-- ==== Sys2Proof/Machine/Estimate.lean ====
section
/-!
DEFINITION. The Estimate task (R280 to R293) and the ends of its windows. State codes (not stated): 0 INVALID, 1 PROVISIONAL,
2 VALID, 3 FAULT; record layouts and arithmetic: log entries 12 and 31.
-/
namespace Sys2Proof.Machine

/-- 1.0. -/
def one : W := 0x3F800000
/-- Ticks in seconds. -/
def secsOf (n : Nat) : W := fdiv (fnat n) 0x49F42400
/-- Coulombs in ampere hours. -/
def inAh (q : W) : W := fdiv q 0x45610000

/-- The ledger an instance reads: SCOPE (R280). -/
def estLedger (s : State) (t : Task) : Nat := (parm s t 2).bits 15 0
/-- Its record. -/
def estLg (s : State) (t : Task) : Ledger := vat s.clg (estLedger s t) Ledger.init
/-- Its channel. -/
def estCh (s : State) (t : Task) : Nat := (estLg s t).chan.elim 0 (·.val)
/-- The OCV table, at a word address of shared task memory (Table 12.1). -/
def estTable (s : State) (t : Task) : Nat → W := fun k => shWord s ((parm s t 6).toNat + k)

/-- Change one flag of word 39. -/
def estFlag (t : Task) (b : Nat) (v : Bool) (s : State) : State :=
  parmPut t 39 (bitPut (parm s t 39) b v) s
/-- A flag of word 39. -/
def estHas (s : State) (t : Task) (b : Nat) : Bool := (parm s t 39).bit b

/-- T_CELL (R280). -/
def estTemp (s : State) (t : Task) : W :=
  let n := estCh s t
  if (lat (s.lk (linkOf n)).hello 5 0).bits (17 + 2 * slotOf n) (16 + 2 * slotOf n) = 1
  then toUnit s n 3 (sx16 (s.ch n).mD) else parm s t 19

/-- V_COMP of a current (R280). -/
def estVolt (s : State) (t : Task) (i : W) : W :=
  let n := estCh s t
  fsub (fdiv (toUnit s n 2 (sx16 (s.ch n).mC)) (fnat (parm s t 5).toNat)) (fmul i (parm s t 9))

/-- Charge since the last step, in coulombs (R281). -/
def estDq (s : State) (c : Nat) (t : Task) : W :=
  let g := estLg s t
  let x := libOf s c
  if (nw g.ticks).toNat < x.ticksLast.toNat then fmul (fmul (cvtf g.last.toInt 0) g.cpc) (fnat (s.now - x.stepTick))
  else fmul (cvtf (g.q - x.qLast).toInt 0) g.cpc

/-- An occurrence of the instance, on E(4n+3) of its string (R284). -/
def estRaise (c : Nat) (t : Task) (cls : EvClass) (code : Nat) (s : State) : State :=
  raisePP (estCh s t) cls code c t s

/-- T_CELL lies in the learning band (Table 12.1). -/
def estBand (s : State) (t : Task) : Bool := fle (parm s t 17) (parm s t 38) && fle (parm s t 38) (parm s t 18)

/-- SOC_REC: the ledger and SOC_RAW (log entry 31). A STANDBY writes its own window too. -/
def estSave (t : Task) (s : State) : State :=
  recDevice ((parm s t 20).extractLsb' 16 16) [nw (estLedger s t), parm s t 33] s

/-- A state change (R287, R288). -/
def estSet (t : Task) (st reason : Nat) (s : State) : State :=
  estSave t (libHead t st reason (st == 2) s)

/-- The blend ends (R288). -/
def estUnblend (c : Nat) (t : Task) (s : State) : State :=
  estFlag t 6 false (modLib c (fun x => { x with blend := none }) s)

/-- OCV SoC of V_COMP at T_CELL; a value the table leaves open is free. -/
def estOcv (t : Task) (s : State) : W × State :=
  orFree (ocvSoc (estTable s t) (parm s t 37) (parm s t 38)) s

/-- The main path arms (R290). -/
def estArm (c : Nat) (t : Task) (s : State) : State :=
  modLib c (fun x => { x with learnIn := (estLg s t).qIn }) (parmPut t 40 0 (estFlag t 2 true s))

/-- Charge in since the main path armed, in ampere hours (R290): from the ledger's count, or what it has counted since a reset. -/
def estIn (s : State) (c : Nat) (t : Task) : W :=
  let g := estLg s t
  let at_ := (libOf s c).learnIn
  inAh (fmul (cvtf (if g.qIn < at_ then g.qIn else g.qIn - at_ : Nat) 0) g.cpc)

/-- FULL is set (R285, R290): SOC_RAW := 1; a blend ends; PROVISIONAL becomes VALID; the main path arms in VALID. -/
def estFull (c : Nat) (t : Task) (s : State) : State :=
  let s1 := estUnblend c t (parmPut t 33 one (estFlag t 0 true s))
  let s2 := if libState s1 t = 1 then estSet t 2 3 s1 else s1
  if libState s2 t = 2 then
    estArm c t s2
  else s2

/-- A blend starts in PROVISIONAL (R288). -/
def estBlend (c : Nat) (t : Task) (s : State) : State :=
  if libState s t = 1 && (libOf s c).blend.isNone then
    let (z, s1) := estOcv t s
    estFlag t 6 true (modLib c (fun x => { x with blend := some (z, parm s1 t 33, 0) }) s1)
  else s

/-- A blend has covered T_BLEND (R288, row 5). -/
def estBlendDone (c : Nat) (t : Task) (s : State) : State :=
  if (libOf s c).blend.isSome then
    let s1 := estUnblend c t s
    if libState s1 t = 1 then estSet t 2 2 s1 else s1
  else s

/-- Row 3 (R287, R289). -/
def estReturn (t : Task) (s : State) : State :=
  let (z, s1) := estOcv t s
  estSet t 1 8 (parmPut t 33 z s1)

/-- R284: EMPTY, CAP_CORR and FLOOR, which stay set until neither condition holds; true when row 1 sets EMPTY. -/
def estEmpty (c : Nat) (t : Task) (before : W) (s : State) : Bool × State :=
  let v := parm s t 37
  let z := parm s t 35
  if fle v (parm s t 7) then
    let was := estHas s t 1
    let s1 := estFlag t 1 true (parmPut t 32 0 (parmPut t 33 z s))
    let s2 := if was then s1 else estRaise c t .uc 0x0310 s1
    (true, if fgt before 0 then estRaise c t .ce 0x0311 (estFlag t 4 true s2) else s2)
  else if fgt v (fadd (parm s t 7) (parm s t 8)) && flt (parm s t 32) 0x3C23D70A then
    (false, estFlag t 5 true (parmPut t 32 0x3C23D70A (parmPut t 33 (fadd z (fmul 0x3C23D70A (fsub one z))) s)))
  else (false, estFlag t 1 false (estFlag t 5 false s))

/-- R286: the warning levels. -/
def estWarn (c : Nat) (t : Task) (s : State) : State :=
  (List.range 3).foldl (fun s k =>
    let lv := fdiv (fnat ((parm s t 16).bits (23 - 8 * k) (16 - 8 * k))) 0x42C80000
    let soc := parm s t 32
    let w := (libOf s c).warned
    if fle soc lv && !w.getLsbD k then
      estRaise c t .ce (0x0301 + k) (modLib c (fun x => { x with warned := bitPut x.warned k true }) s)
    else if fge soc (fadd lv 0x3CA3D70A) then modLib c (fun x => { x with warned := bitPut x.warned k false }) s
    else s) s

/-- A candidate is judged (R292). -/
def estCandidate (c : Nat) (t : Task) (new : W) (inBand : Bool) (s : State) : State :=
  if s.nvs.pfSeq then s
  else
    let old := parm s t 34
    if inBand && fle (fabs (fsub new old)) (fmul 0x3E4CCCCD old) then
      let n := parm s t 43 + 1
      let s1 := recDevice ((parm s t 20).extractLsb' 0 16) [new, n, lo32 s.clk.ts, hi32 s.clk.ts] (parmPut t 43 n (parmPut t 34 new s))
      estRaise c t .ce 0x0320 s1
    else estRaise c t .ce 0x0321 (estFlag t 8 true s)

/-- A window that has held for so many seconds (R285, R287). -/
def heldFor (x : Option Nat) (secs : W) : Bool := x.any fun n => fge (secsOf n) secs

/-- The learning rules of one step (R290, R291): `full` and `empty` tell what this step set. -/
def estLearn (c : Nat) (t : Task) (dq : W) (full empty : Bool) (s : State) : State :=
  let valid := libState s t == 2
  let band := estBand s t
  let s0 := modLib c (fun x => { x with outBand := x.outBand || !band }) s
  let s1 := if estHas s0 t 2 && !full then
      let s1 := parmPut t 40 (fsub (parm s0 t 40) (inAh dq)) s0
      if !valid || !band || fgt (estIn s1 c t) (fmul 0x3CA3D70A (parm s1 t 34)) then estFlag t 2 false s1 else s1
    else if estHas s0 t 2 && !band then estFlag t 2 false s0
    else s0
  let main := empty && estHas s1 t 2
  let mainC := fdiv (parm s1 t 40) (fsub one (parm s1 t 35))
  let s2 := if main then estFlag t 2 false s1 else s1
  let x := libOf s2 c
  let point := valid && band && !x.restUsed && heldFor x.rest (parm s2 t 15)
  if point then
    let (z, s3) := estOcv t s2
    let g := estLg s3 t
    let q := inAh (fmul (cvtf g.q.toInt 0) g.cpc)
    let dz := fabs (fsub z (parm s3 t 41))
    let cand := x.restPoint && fge dz 0x3ECCCCCD
    let new := fdiv (fabs (fsub q (parm s3 t 42))) dz
    let bandOk := !x.outBand
    let s4 := modLib c (fun x => { x with restUsed := true }) s3
    if main && cand then estCandidate c t mainC true s4
    else
      let s5 := modLib c (fun x => { x with restPoint := true, outBand := false }) (parmPut t 42 q (parmPut t 41 z s4))
      if main then estCandidate c t mainC true s5
      else if cand then estCandidate c t new bandOk s5 else s5
  else if main then estCandidate c t mainC true s2
  else s2

/-- The counted SoC of a step with its blend term (R281, R288); true when the blend has covered T_BLEND. -/
def estCount (c : Nat) (t : Task) (dq : W) (dt : Nat) (s : State) : Bool × State :=
  let raw := fadd (parm s t 33) (fdiv dq (fmul 0x45610000 (parm s t 34)))
  match (libOf s c).blend with
  | none => (false, parmPut t 33 raw s)
  | some (z, z0, n) =>
    let all := (cvti (fmul (parm s t 21) 0x49F42400) 0).1.toNat
    let d := min dt (all - n)
    let s1 := parmPut t 33 (fadd raw (fdiv (fmul (fsub z z0) (secsOf d)) (parm s t 21))) s
    (n + d ≥ all, modLib c (fun x => { x with blend := some (z, z0, n + d) }) s1)

/-- What a step takes from the ledger and the channel, and its windows (R281, R285, R287). -/
def estMeasure (c : Nat) (t : Task) (dq : W) (dt : Nat) (slow : Bool) (s : State) : State :=
  let i := fdiv dq (secsOf dt)
  let s1 := estFlag t 9 slow (parmPut t 36 i s)
  let s2 := parmPut t 38 (estTemp s1 t) (parmPut t 37 (estVolt s1 t i) s1)
  let taper := fle 0 i && fle i (parm s2 t 11) && fge (parm s2 t 37) (parm s2 t 13)
  let rest := flt (fabs i) (parm s2 t 14)
  estFlag t 7 rest (modLib c (fun x => { x with
    taper := if taper then some (x.taper.elim 0 (· + dt)) else none
    rest := if rest then some (x.rest.elim 0 (· + dt)) else none
    restUsed := x.restUsed && rest }) s2)

/-- Z, SOC_RAW between Z and 0.995 unless FULL, and SOC (R283). -/
def estSoc (t : Task) (s : State) : State :=
  let (z, s1) := orFree (ocvSoc (estTable s t) (parm s t 7) (parm s t 38)) s
  let hi : W := if estHas s1 t 0 then one else 0x3F7EB852
  let s2 := parmPut t 33 (fclip (parm s1 t 33) z hi) (parmPut t 35 z s1)
  parmPut t 32 (fclip (fdiv (fsub (parm s2 t 33) z) (fsub one z)) 0 one) s2

/-- One step (R281). -/
def estStep (c : Nat) (t : Task) (slow : Bool) (s0 : State) : State :=
  let x := libOf s0 c
  let g := estLg s0 t
  let dq := estDq s0 c t
  let dt := s0.now - x.stepTick
  let before := parm s0 t 32
  let (blended, s1) := estCount c t dq dt (estMeasure c t dq dt slow s0)
  let s2 := modLib c (fun x => { x with
    qLast := g.q, ticksLast := nw g.ticks, stepTick := s0.now, releases := 0, steps := x.steps + 1 }) s1
  let check := (libOf s2 c).steps % 100 = 0
  let ok := ocvOk (estTable s2 t)
  let st := libState s2 t
  let newGap := g.gaps != x.gapStep
  let stale2 := g.stale && x.staleStep
  let s3 := modLib c (fun x => { x with gapStep := g.gaps, staleStep := g.stale }) s2
  if check && !ok then (if st = 3 then s3 else estSet t 3 7 (estFlag t 2 false (estUnblend c t s3)))
  else if st = 3 then (if check && ok then estSet t 1 7 s3 else s3)
  else if g.absent then
    let s4 := modLib c (fun x => { x with restPoint := false, taper := none, rest := x.rest.map fun _ => 0 }) (estFlag t 2 false (estUnblend c t (parmPut t 32 qnan s3)))
    if st = 0 then s4 else estSet t 0 5 s4
  else if st = 0 then
    let s4 := parmPut t 32 qnan s3
    if heldFor (libOf s4 c).rest (parm s4 t 22) then estSoc t (estReturn t s4) else s4
  else
    let (empty, s7) := estEmpty c t before (estSoc t s3)
    let held := heldFor (libOf s7 c).taper (parm s7 t 12)
    let full := !estHas s7 t 0 && held
    let s8 := if full then parmPut t 32 one (parmPut t 33 one (estFlag t 0 true s7))
      else if flt (parm s7 t 32) 0x3F7851EC then estFlag t 0 false s7 else s7
    let s9 := estWarn c t s8
    let s10 := if st = 2 then (if stale2 || newGap then estSet t 1 6 s9 else s9)
      else if held then estSet t 2 3 (estUnblend c t s9)
      else if empty then estSet t 2 4 (estUnblend c t s9)
      else if blended then estBlendDone c t s9
      else s9
    let s11 := if full && libState s10 t = 2 then estArm c t s10 else s10
    let s12 := estLearn c t dq full empty s11
    if libState s12 t = 1 && heldFor (libOf s12 c).rest (parm s12 t 15) then estBlend c t s12 else s12

/-- A record's payload at recall: its reading (0 BOTH to 3 NONE) and words; a STANDBY takes the LEAD's (R362). -/
def recRecall (id : BitVec 16) (s : State) : Nat × List W × State :=
  if s.prl.role = .standby && s.prl.link = .up then
    match assocGet (s.prl.nvval.map fun x => (x.1.toNat, x.2)) id.toNat with
    | some ws => (0, ws, s)
    | none => (3, [], s)
  else
    let (r, p, _, s1) := recChoose id s
    (r, p, s1)

/-- A cold start (R288, R293). -/
def estCold (c : Nat) (t : Task) (s : State) : State :=
  let g := estLg s t
  let (rc, cap, s1) := recRecall ((parm s t 20).extractLsb' 0 16) s
  let (rs, rec, s2) := recRecall ((parm s t 20).extractLsb' 16 16) s1
  let s3 := if rc = 3 then parmPut t 34 (parm s2 t 4) s2 else parmPut t 43 (lat cap 1 0) (parmPut t 34 (lat cap 0 0) s2)
  let s4 := if rc = 2 then estRaise c t .ce 0x0322 (estFlag t 3 true s3) else s3
  let s5 := parmPut t 38 (estTemp s4 t) (parmPut t 37 (estVolt s4 t 0) (parmPut t 36 0 s4))
  let (z, s6) := if rs != 3 && lat rec 0 0 == nw (estLedger s t) then (lat rec 1 0, s5) else estOcv t s5
  let s7 := estFlag t 2 false (estFlag t 6 false (parmPut t 33 z s6))
  let s8 := modLib c (fun x => { x with qLast := g.q, ticksLast := nw g.ticks, stepTick := s.now, releases := 0, gapStep := g.gaps }) s7
  if !ocvOk (estTable s8 t) then estSet t 3 7 s8
  else if g.absent then estSet t 0 5 (parmPut t 32 qnan s8)
  else estSet t 1 1 (estSoc t s8)

/-- One release of an Estimate instance (R281, R288). -/
def estRun (c : Nat) (t : Task) (s : State) : State :=
  let s0 := modLib c (fun x => { x with releases := x.releases + 1, count := x.count + 1 }) s
  let s1 := if libCold s0 c then estCold c t s0
    else
      let x := libOf s0 c
      let i := fdiv (estDq s0 c t) (secsOf (s0.now - x.stepTick))
      let fast := fge (fabs i) (parm s0 t 10)
      if fast then estStep c t false s0 else if x.releases ≥ 100 then estStep c t true s0 else s0
  let s2 := if (libOf s1 c).count % 100 = 0 then estSave t s1 else s1
  libHead t (libState s2 t) (libReason s2 t) (libState s2 t == 2) s2

/-- Ticks a window of the instance in context `c` has held by now, the time since the last step included. -/
def heldNow (s : State) (c : Nat) (x : Option Nat) : Option Nat := x.map fun n => n + (s.now - (libOf s c).stepTick)

/-- ESTIMATE_TAPER_FULL (R285; log entry 9). -/
def execEstimateTaperFull (c : Ctx) (s : State) : Host.Outcome State Fault Refusal :=
  done (match libAt s c.val libEst with
    | some t =>
      if (libState s t = 1 || libState s t = 2) && !estHas s t 0 && heldFor (heldNow s c.val (libOf s c.val).taper) (parm s t 12)
      then parmPut t 32 one (estFull c.val t s) else s
    | none => s)

/-- ESTIMATE_REST_HELD (R287 row 3, R288; log entry 9). -/
def execEstimateRestHeld (c : Ctx) (s : State) : Host.Outcome State Fault Refusal :=
  done (match libAt s c.val libEst with
    | some t =>
      let rest := heldNow s c.val (libOf s c.val).rest
      if libState s t = 0 && !(estLg s t).absent && heldFor rest (parm s t 22) then estSoc t (estReturn t s)
      else if libState s t = 1 && heldFor rest (parm s t 15) then estBlend c.val t s else s
    | none => s)

/-- ESTIMATE_BLEND_END (R288; log entry 9): T_BLEND has passed, and the rest of the blend term is applied. -/
def execEstimateBlendEnd (c : Ctx) (s : State) : Host.Outcome State Fault Refusal :=
  done (match libAt s c.val libEst with
    | some t =>
      let all := (cvti (fmul (parm s t 21) 0x49F42400) 0).1.toNat
      match (libOf s c.val).blend with
      | some (z, z0, n) =>
        if n + (s.now - (libOf s c.val).stepTick) ≥ all then
          estBlendDone c.val t (parmPut t 33 (fadd (parm s t 33) (fdiv (fmul (fsub z z0) (secsOf (all - n))) (parm s t 21))) s)
        else s
      | none => s
    | none => s)

end Sys2Proof.Machine
end

