-- ==== Sys2Proof/Machine/LibSup.lean ====
section
/-!
DEFINITION. The supervisory library tasks Share, Hold-up, Cap and Charge (R266 to R275) and the ends of their timers. State
codes not stated, the bus voltage A and what counts as fresh: log entry 31.
-/
namespace Sys2Proof.Machine

/-- 0.9. -/
def p9 : W := 0x3F666666

/-- Measurement A of a channel as last received, in V. -/
def busVolts (s : State) (n : Nat) : W := toUnit s n 0 (sx16 (s.ch n).mA)

/-- A flag of word 18 of a rectifier: 0 SRC_OK, 1 CLIM, 2 IN_LIMIT (Table 11.4). -/
def rectFlag (s : State) (n b : Nat) : Bool := (memberWord s libRect n 18).bit b

/-- Write an own join slot word (R61). -/
def joinPut (k : Nat) (v : W) (s : State) : State := { s with jnb := { s.jnb with slot := vput s.jnb.slot k v } }

/-! Share (R266, R267). -/

/-- A local member counts (R266). -/
def shareCounts (s : State) (n : Nat) : Bool :=
  (s.ch n).st == .control && (s.lk (linkOf n)).miss == 0 && !rectFlag s n 1

/-- The peers that count: n_p and mean_p (R266, R267). -/
def sharePeers (s : State) (t : Task) (r : Rel) : List (Nat × W) :=
  (List.range 16).filterMap fun k =>
    let w := parm s t (21 + k / 2)
    let j := if k % 2 = 0 then w.bits 25 16 else w.bits 9 0
    let (w0, w1, w2, age) := jnbRx r j
    let sel := (parm s t 20).bits 1 0
    let v := if sel = 0 then w0 else if sel = 1 then w1 else w2
    if j != 0x3FF && age ≤ 2 && v.bits 31 24 == (parm s t 2).bits 23 16 then
      some (v.bits 23 16, fmul (cvtf (sx16 (v.extractLsb' 0 16)) 13) (parm s t 7))
    else none

/-- One release of a Share instance (R266, R267). -/
def shareRun (c : Nat) (t : Task) (r : Rel) (s : State) : State :=
  let ms := members s t 8 12
  let live := ms.filter (shareCounts s)
  let peers := sharePeers s t r
  let amps := live.map (memberAmps s libRect)
  let nUsed := live.length + sumNat (peers.map (·.1))
  let avg := fdiv (fadd (fsum amps) (fsum (peers.map fun p => fmul (fnat p.1) p.2))) (fnat nUsed)
  let x := libOf s c
  let lim := parm s t 6
  let trim := fun (n : Nat) =>
    let old := (assocGet x.trims n).getD 0
    if nUsed ≥ 2 && live.contains n then
      fclip (fadd old (fmul (fmul (parm s t 5) (fsub avg (memberAmps s libRect n))) 0x38D1B717)) (fneg lim) lim
    else old
  let trims := ms.map fun n => (n, trim n)
  let s1 := modLib c (fun x => { x with trims := trims }) s
  let s2 := trims.foldl (fun s x => memberPut libRect x.1 4 (iw (toCounts s x.1 0 (fadd (parm s t 4) x.2))) s) s1
  let err := amps.foldl (fun m a => fmax m (fdiv (fabs (fsub avg a)) (fabs avg))) 0
  let s3 := if nUsed = 0 then parmPut t 34 0 s2
    else parmPut t 34 (nw nUsed) (parmPut t 33 err (parmPut t 32 avg s2))
  let w20 := parm s t 20
  let s4 := if w20.bit 7 then
      let m := fdiv (fsum amps) (fnat live.length)
      let q := if live.isEmpty then 0 else max (-32768) (min 32767 (cvti (fdiv m (parm s t 7)) 13).1)
      joinPut (w20.bits 1 0) (fld ((parm s t 2).bits 23 16) 24 ||| fld live.length 16 ||| ((iw q) &&& 0xFFFF)) s3
    else s3
  libHead t 0 0 (libValid s t || nUsed ≥ 2) s4

/-! Hold-up (R269). -/

/-- An occurrence on the power-path source of the lowest RECT member, its code not stated (R269). -/
def holdRaise (c : Nat) (t : Task) (s : State) : State :=
  s.raiseC (4 * (members s t 16 8).foldl min 191 + 3) .ce c t.num

/-- I_LIM_RET to every RECT member (R269). -/
def holdLimit (c : Nat) (t : Task) (v : W) (s : State) : State :=
  (members s t 16 8).foldl (fun s n => memberPut libRect n 6 (iw (toCounts s n 1 v)) s) (modLib c (fun x => { x with limRet := v }) s)

/-- RUN to every RECT member. -/
def holdRun (t : Task) (on : Bool) (s : State) : State :=
  (members s t 16 8).foldl (fun s n => memberPut libRect n 7 (flag on 0) s) s

/-- Entry to a Hold-up state: 0 NORMAL, 1 HANDOVER, 2 BRIDGING, 3 QUALIFY, 4 RETURN (Table 11.8). -/
def holdSet (c : Nat) (t : Task) (st : Nat) (s : State) : State :=
  let s1 := libHead t st (libReason s t) true (modLib c (fun x => { x with since := s.now }) s)
  match st with
  | 0 => holdRaise c t s1
  | 1 => holdRaise c t (holdLimit c t 0 (holdRun t false s1))
  | 3 => parmPut t 33 (parm s1 t 6) s1
  | 4 => holdLimit c t 0 (holdRun t true (parmPut t 33 0 s1))
  | _ => s1

/-- One release of a Hold-up instance (R269). After a cold restart the time in its state runs anew: a qualification in full (log entry
67). -/
def holdTask (c : Nat) (t : Task) (sIn : State) : State :=
  let s0 := if libCold sIn c then modLib c (fun x => { x with since := sIn.now }) sIn else sIn
  let rect := members s0 t 16 8
  let batt := members s0 t 24 8
  let s1 := batt.foldl (fun s n => memberPut libBatt n 4 (iw (toCounts s n 0 (fsub (parm s t 4) (parm s t 5)))) s) s0
  let ib := fsum (batt.map (memberAmps s1 libBatt))
  let load := fsub (fsum (rect.map (memberAmps s1 libRect))) ib
  let s2 := parmPut t 32 load s1
  let st := libState s2 t
  let ms := (s2.now - (libOf s2 c).since) / 2000
  let none_ := !rect.isEmpty && rect.all fun n => !rectFlag s2 n 0
  let all := rect.all fun n => rectFlag s2 n 0
  let s3 := if st = 3 then parmPut t 33 (nw ((parm s2 t 6).toNat - ms)) s2 else s2
  if none_ && (st = 0 || st = 3 || st = 4) then holdSet c t 1 s3
  else if st = 1 && (fge (fneg ib) (fmul p9 load) || ms ≥ (parm s3 t 8).toNat) then holdSet c t 2 s3
  else if st = 2 && all then holdSet c t 3 s3
  else if st = 3 && !all then holdSet c t 2 s3
  else if st = 3 && parm s3 t 33 = 0 then holdSet c t 4 s3
  else if st = 4 then
    let v := fmin (fadd (libOf s3 c).limRet (fmul (parm s3 t 7) 0x38D1B717)) (parm s3 t 9)
    let s4 := holdLimit c t v s3
    if fge v (parm s4 t 9) then holdSet c t 0 s4 else libHead t 4 (libReason s4 t) true s4
  else libHead t st (libReason s3 t) true s3

/-- HOLDUP_HAND_TIMER (R269 row 2; log entry 9). -/
def execHoldupHandTimer (c : Ctx) (s : State) : Host.Outcome State Fault Refusal :=
  done (match libAt s c.val libHold with
    | some t =>
      if libState s t = 1 && (s.now - (libOf s c.val).since) / 2000 ≥ (parm s t 8).toNat then holdSet c.val t 2 s else s
    | none => s)

/-- HOLDUP_QUAL_END (R269 row 5; log entry 9). -/
def execHoldupQualEnd (c : Ctx) (s : State) : Host.Outcome State Fault Refusal :=
  done (match libAt s c.val libHold with
    | some t =>
      if libState s t = 3 && (s.now - (libOf s c.val).since) / 2000 ≥ (parm s t 6).toNat then holdSet c.val t 4 s else s
    | none => s)

/-! Cap (R270 to R272). -/

/-- RECT members of a Cap instance. -/
def capRect (s : State) (t : Task) : List Nat := members s t 16 12

/-- A RECT member runs: RUN = 1 and its channel in CONTROL (R270). -/
def capRuns (s : State) (n : Nat) : Bool := (memberWord s libRect n 7).bit 0 && (s.ch n).st == .control

/-- The mean V_IN of the RECT members in V (R270). -/
def capVin (s : State) (t : Task) : W :=
  let ms := capRect s t
  fdiv (fsum (ms.map fun n => toUnit s n 2 (memberWord s libRect n 17).toInt)) (fnat ms.length)

/-- Any RECT member is at its limit (R271). -/
def capLimits (s : State) (t : Task) : Bool := (capRect s t).any fun n => rectFlag s n 2

/-- A search starts: V_NOLOAD is measured with I_IN_LIM = I_START (R271 steps 1 and 5). -/
def capStart (c : Nat) (t : Task) (s : State) : State :=
  modLib c (fun x => { x with phase := 0, vSamples := [], mark := s.now, sag := 0, lastOk := parm s t 7 }) (parmPut t 66 (parm s t 7) s)

/-- Cap settles at 0.9 of a limit (R271 step 3). -/
def capSettle (c : Nat) (t : Task) (lim : W) (s : State) : State :=
  let s1 := parmPut t 66 (fmul p9 lim) s
  libHead t (libState s1 t) (libReason s1 t) true (modLib c (fun x => { x with phase := 2, mark := s.now, sag := 0 }) s1)

/-- One search step (R271 steps 2 and 3). -/
def capRaise (c : Nat) (t : Task) (s : State) : State :=
  let old := parm s t 66
  let new := fadd old (parm s t 8)
  if fge new (parm s t 6) then capSettle c t (parm s t 6) s
  else modLib c (fun x => { x with mark := s.now, lastOk := old }) (parmPut t 66 new s)

/-- Class L at one release (R271). A cold start and the first release in class L begin a first search, and VALID is 0 until it settles. -/
def capClassL (c : Nat) (t : Task) (v : W) (s : State) : State :=
  let x := libOf s c
  if libCold s c || x.capCls != 1 then capStart c t (parmPut t 3 (parm s t 3 &&& 0xFFFFFFFE) s)
  else if x.phase = 0 then
    let vs := x.vSamples ++ [v]
    if s.now ≥ x.mark + 20000 then
      modLib c (fun x => { x with phase := 1, vSamples := [], mark := s.now, sag := 0 }) (parmPut t 67 (fdiv (fsum vs) (fnat vs.length)) s)
    else modLib c (fun x => { x with vSamples := vs }) s
  else
    let low := flt v (fmul (fsub one (parm s t 10)) (parm s t 67))
    let n := if low then x.sag + 1 else 0
    let s1 := modLib c (fun x => { x with sag := n }) s
    if x.phase = 1 then
      if n ≥ 3 then capSettle c t x.lastOk s1
      else if capLimits s1 t && s.now ≥ x.mark + (parm s t 9).toNat * 2000 then capRaise c t s1
      else s1
    else if n ≥ 3 then modLib c (fun x => { x with sag := 0 }) (parmPut t 66 (fmul p9 (parm s1 t 66)) s1)
    else if fge (secsOf (s.now - x.mark)) (parm s t 13) then capStart c t s1
    else s1

/-- Ticks of the period of a U task (Table 6.4). -/
def uPeriod (t : Task) : Nat := if t.period = 0 then 200 else t.period * ticksPerEpoch

/-- Class V at one release (R271). -/
def capClassV (t : Task) (v : W) (s : State) : State :=
  let d := fmul (fmul (parm s t 12) (fsub v (parm s t 11))) (secsOf (uPeriod t))
  parmPut t 66 (fclip (fadd (parm s t 66) d) 0 (parm s t 6)) s

/-- The effective cap: none, or the lower of those in force (R270). -/
def capCap (s : State) (t : Task) (r : Rel) : Option W :=
  let p := parm s t 4
  let src := parm s t 40
  let (w0, w1, w2, age) := jnbRx r (src.bits 25 16)
  let v := if src.bits 1 0 = 0 then w0 else if src.bits 1 0 = 1 then w1 else w2
  let a := if fgt p 0 then [p] else []
  let b := if src.bit 31 && age ≤ 2 && fgt v 0 then [v] else []
  match a ++ b with
  | [] => none
  | [x] => some x
  | x :: y :: _ => some (fmin x y)

/-- The tie port of a Charge instance, while it holds a lease as feeder under REVERSE_EN (R274). -/
def reversePort (s : State) (t : Task) : Option Nat :=
  let w := parm s t 6
  let p := w.bits 18 16
  let x := vat s.tpc p Tpc.init
  if w.bit 0 && x.lease && x.role == 1 then some p else none

/-- The outgoing tie power that counts in P_SYS of a Cap instance (R274). -/
def tiePower (s : State) (t : Task) (v : W) : W :=
  match s.adm.img.bind fun g => g.tasks.find? fun u => libId u == libCharge && (parm s u 5).toNat == t.num && (reversePort s u).isSome with
  | some u => (match (reversePort s u).bind (tieChan s) with
      | some n => fmul v (fabs (toUnit s n 1 (memberWord s libTie n 21).toInt))
      | none => 0)
  | none => 0

/-- Power of a feed (R272). -/
def feedPower (s : State) (n : Nat) : W :=
  fmul (toUnit s n 0 (memberWord s libFeed n 17).toInt) (memberAmps s libFeed n)

/-- The feed to shed next (R272). -/
def capVictim (s : State) (t : Task) (shed : List (Nat × W × Nat)) : Option Nat :=
  let cands := (members s t 28 12).filter fun n => memberWord s libFeed n 12 != 0 && !(shed.any (·.1 == n))
  (sortBy (fun (a b : Nat) =>
    let x := (memberWord s libFeed a 12).toNat
    let y := (memberWord s libFeed b 12).toNat
    x > y || (x == y && a ≥ b)) cands).head?

/-- The last shed feed is restored once its condition has held for 10 releases in a row (R272). -/
def capRestore (c : Nat) (s : State) : State :=
  match (libOf s c).shed with
  | (n, _, k) :: r => if k ≥ 10 then modLib c (fun x => { x with shed := r }) (memberPut libFeed n 14 0 s) else s
  | [] => s

/-- One release more of each shed feed's restore condition (R272). -/
def capHeld (allow sys hyst : W) (l : List (Nat × W × Nat)) : List (Nat × W × Nat) :=
  l.map fun (n, p, k) => (n, p, if fle (fadd sys p) (fmul (fsub one hyst) allow) then min 10 (k + 1) else 0)

/-- Shedding and restoring at one release (R272). -/
def capShed (c : Nat) (t : Task) (s0 : State) : State :=
  let allow := parm s0 t 64
  let sys := parm s0 t 65
  let s := modLib c (fun x => { x with shed := capHeld allow sys (parm s0 t 15) x.shed }) s0
  let cut := (members s t 42 16).all fun n => memberWord s libBatt n 5 == 0
  if fgt sys allow && flt (parm s t 68) 0 && cut then
    match capVictim s t (libOf s c).shed with
    | some n => modLib c (fun x => { x with shed := (n, feedPower s n, 0) :: x.shed }) (memberPut libFeed n 14 1 s)
    | none => s
  else capRestore c s

/-- One release of a Cap instance (R270 to R272). -/
def capRun (c : Nat) (t : Task) (r : Rel) (s0 : State) : State :=
  let cls := (parm s0 t 5).toNat
  let vin := capVin s0 t
  let s1 := if cls = 1 then capClassL c t vin s0 else if cls = 2 then capClassV t vin s0 else s0
  let s1 := modLib c (fun x => { x with capCls := cls }) s1
  let ms := capRect s1 t
  let run := ms.filter (capRuns s1)
  let v := busVolts s1 (ms.foldl min 191)
  let load := fsub (fsum (ms.map (memberAmps s1 libRect))) (fsum ((members s1 t 42 16).map (memberAmps s1 libBatt)))
  let sys := fadd (fmul v load) (tiePower s1 t v)
  let input := if cls = 1 || cls = 2 then some (fmul (fmul vin (parm s1 t 66)) (parm s1 t 14)) else none
  let allow : Option W := match capCap s1 t r, input with
    | some a, some b => some (fmin a b)
    | some a, none => some a
    | none, b => b
  let s2 := match allow with
    | none => run.foldl (fun s n => memberPut libRect n 5 (memberWord s libRect n 9) s) s1
    | some p =>
      let i := fdiv p (fmul v (fnat run.length))
      run.foldl (fun s n => memberPut libRect n 5 (iw (toCounts s n 1 i)) s) s1
  let pa := allow.getD 0x7F800000
  let spare := if allow.isNone then 0x7F800000 else fsub pa sys
  let s3 := parmPut t 68 spare (parmPut t 65 sys (parmPut t 64 pa s2))
  let s4 := if (parm s3 t 41).bit 7 then joinPut ((parm s3 t 41).bits 1 0) (parm s3 t 4) s3 else s3
  let s5 := capShed c t s4
  libHead t 0 0 (libValid s5 t || cls != 1) s5

/-- CAP_SEARCH_STEP (R271; log entry 9). -/
def execCapSearchStep (c : Ctx) (s : State) : Host.Outcome State Fault Refusal :=
  done (match libAt s c.val libCap with
    | some t =>
      let x := libOf s c.val
      if (parm s t 5).toNat = 1 && x.phase = 1 && capLimits s t && s.now ≥ x.mark + (parm s t 9).toNat * 2000
      then capRaise c.val t s else s
    | none => s)

/-- CAP_RESEARCH_TIMER (R271; log entry 9). -/
def execCapResearchTimer (c : Ctx) (s : State) : Host.Outcome State Fault Refusal :=
  done (match libAt s c.val libCap with
    | some t =>
      let x := libOf s c.val
      if (parm s t 5).toNat = 1 && x.phase = 2 && fge (secsOf (s.now - x.mark)) (parm s t 13) then capStart c.val t s else s
    | none => s)

/-- FEED_RESTORE (R272; log entry 9): `c` is the Cap instance's context. -/
def execFeedRestore (c : Ctx) (s : State) : Host.Outcome State Fault Refusal :=
  done (match libAt s c.val libCap with
    | some _ => capRestore c.val s
    | none => s)

/-! Charge (R273 to R275). -/

/-- The Estimate instance of string `k` of a Charge instance (Table 11.10). -/
def chargeEst (s : State) (t : Task) (k : Nat) : Option Task :=
  let w := parm s t (16 + k / 2)
  (taskNo s (if k % 2 = 0 then w.bits 31 16 else w.bits 15 0)).filter fun u => libId u == libEst

/-- State of the Battery string instance of a channel. -/
def stringSt (s : State) (n : Nat) : Nat := (memberWord s libBatt n 3).bits 31 24

/-- A string is eligible for charging (R273). -/
def chargeOk (s : State) (t : Task) (k n : Nat) : Bool :=
  (memberTask s libBatt n).isSome && stringSt s n ≤ 1 &&
  (match chargeEst s t k with
   | some u => !estHas s u 0 && libState s u != 3
   | none => false)

/-- The lamp code of a string (Table 11.11). -/
def lampCode (s : State) (t : Task) (k n : Nat) : Nat :=
  let est := chargeEst s t k
  let has := fun b => est.elim false fun u => estHas s u b
  if stringSt s n = 3 || (s.ch n).st == .safe || (est.elim false fun u => libState s u == 3) then 4
  else if has 2 then 3 else if has 0 then 2 else if stringSt s n = 1 then 1 else 0

/-- Write a byte of a word block. -/
def parmByte (t : Task) (a k v : Nat) (s : State) : State :=
  parmPut t (a + k / 4) (setField (parm s t (a + k / 4)) (8 * (k % 4)) 8 v) s

/-- The lamps of every string (R275). -/
def chargeLamps (t : Task) (ms : List (Nat × Nat)) (s : State) : State :=
  ms.foldl (fun s x =>
    let code := lampCode s t x.1 x.2
    let pt := (parm s t (12 + x.1 / 4)).bits (8 * (x.1 % 4) + 7) (8 * (x.1 % 4))
    let s1 := parmByte t 33 x.1 code s
    if pt = 0 then s1 else { s1 with trl := { s1.trl with lamp := vput s1.trl.lamp pt (BitVec.ofNat 4 code) } }) s

/-- The strings of a Charge instance: position and channel. -/
def chargeStrings (s : State) (t : Task) : List (Nat × Nat) :=
  (List.range 16).filterMap fun k => (memberAt s t 8 k).map fun n => (k, n)

/-- The tie offer of a Charge instance with REVERSE_EN (R274): OFFER_EN. -/
def chargeOffer (t : Task) (ms : List (Nat × Nat)) (s : State) : State :=
  let w := parm s t 6
  if w.bit 0 then
    let ests := ms.map fun x => chargeEst s t x.1
    let valid := ests.all fun e => e.elim false fun u => libValid s u
    let mean := fdiv (fsum (ests.filterMap fun e => e.map fun u => parm s u 32)) (fnat ms.length)
    let ok := valid && fge mean (fdiv (fnat (w.bits 15 8)) 0x42C80000)
    match tieChan s (w.bits 18 16) with
    | some n => memberPut libTie n 16 (flag ok 0) s
    | none => s
  else s

/-- One release of a Charge instance (R273 to R275). -/
def chargeRun (t : Task) (s : State) : State :=
  let ms := chargeStrings s t
  let cap := if (parm s t 5).toNat = 0xFFFF then none else taskNo s (parm s t 5).toNat
  let v := busVolts s (ms.foldl (fun m x => min m x.2) 191)
  let total := cap.elim 0x7F800000 fun u => fdiv (fmax 0 (parm s u 68)) v
  let ok := ms.filter fun x => chargeOk s t x.1 x.2
  let supply := (reversePort s t).isSome
  let maxI := parm s t 4
  let share := fmin (fdiv total (fnat ok.length)) maxI
  let s1 := ms.foldl (fun s x =>
    let i := if !supply && ok.contains x then share else 0
    memberPut libBatt x.2 5 (iw (toCounts s x.2 1 i)) s) s
  let st := if supply then 3 else if ok.isEmpty then 0 else if flt total (fmul maxI (fnat ok.length)) then 2 else 1
  let s2 := chargeLamps t ms (chargeOffer t ms (parmPut t 32 total s1))
  libHead t st (libReason s2 t) (cap.elim true fun u => libValid s2 u) s2

/-- One release of the library task in context `c` (R63, R65). -/
def libRun (c : Nat) (t : Task) (r : Rel) (s : State) : State :=
  let id := libId t
  if id = libRect then rectRun c t r s
  else if id = libBatt then battRun c t r s
  else if id = libFeed then feedRun c t r s
  else if id = libTie then tieRun c t r s
  else if id = libShare then shareRun c t r s
  else if id = libCap then capRun c t r s
  else if id = libHold then holdTask c t s
  else if id = libCharge then chargeRun t s
  else estRun c t s

end Sys2Proof.Machine
end

