-- ==== Sys2Proof/Machine/Spu.lean ====
section
/-!
DEFINITION. The shaft phase unit (R41, R62, R108 to R110): edges, lock, and the phase that a release latches.
-/
namespace Sys2Proof.Machine

/-- EDGES of a source (Table 5.16). -/
def Shaft.edges (x : Shaft) : Nat := x.cfg.bits 12 0
/-- USED (Table 5.16). -/
def Shaft.used (x : Shaft) : Bool := x.cfg.bit 31
/-- INDEX (Table 5.16). -/
def Shaft.index (x : Shaft) : Bool := x.cfg.bit 14
/-- FALL (Table 5.16). -/
def Shaft.fall (x : Shaft) : Bool := x.cfg.bit 13

/-- ph at an instant of `x2` half nanoseconds since reset (R109). -/
def snapPhase (edges : Nat) (g : ShSnap) (x2 : Nat) : W :=
  if !g.lock then g.held
  else
    let inc := 2 ^ 32 / edges
    let frac := min (inc * (x2 - 20 * g.tsLast.toNat) / (20 * g.interval)) (inc - 1)
    nw (g.k * inc + frac)

/-- The source from now on, as one entry of its history; entries that no release can still look up go. -/
def shaftPush (ts : TS) (x : Shaft) : Shaft :=
  let h := x.hist
  { x with hist := (⟨ts, x.lock, x.tsLast.getD 0, x.interval, x.k, x.held⟩ : ShSnap) ::
      (h.takeWhile fun g => g.at_.toNat + 200 ≥ ts.toNat) ++ (h.dropWhile fun g => g.at_.toNat + 200 ≥ ts.toNat).take 1 }

/-- Loss of lock (R110): ph is held, LOST set, E954 raised at class CE. -/
def shaftLose (i : Nat) (ts : TS) (code : Nat) (s : State) : State :=
  let s1 := { s with shaft := vmod s.shaft i fun x =>
    if x.lock then
      let p := snapPhase x.edges ⟨ts, true, x.tsLast.getD 0, x.interval, x.k, x.held⟩ (20 * ts.toNat)
      { x with lock := false, lost := true, held := p, good := 0, idxGood := false }
    else x }
  s1.raise 954 .ce code (nw i)

/-- An interval is in proportion to the one before it (R110). -/
def intervalFits (d before : Nat) : Bool := before ≤ 2 * d && 2 * d ≤ 3 * before
/-- An interval lies from 10 us to 100 ms (R110). -/
def intervalRange (d : Nat) : Bool := 1000 ≤ d && d ≤ 10000000

/-- The first cause of R110 that a counted edge gives, while locked. -/
def edgeCause (x : Shaft) (d : Nat) : Option Nat :=
  if !x.lock then none
  else if x.interval != 0 && !intervalFits d x.interval then some 1
  else if !intervalRange d then some 2
  else none

/-- A counted edge of source `i` (R109, R110). Where an index edge is missing k counts on past EDGES - 1 until one comes (log entry 63). -/
def shaftCount (i : Nat) (ts : TS) (s : State) : State :=
  let x := vat s.shaft i Shaft.init
  match x.tsLast with
  | none => { s with shaft := vput s.shaft i (shaftPush ts { x with tsLast := some ts, k := 0, sinceIdx := x.sinceIdx.map (· + 1) }) }
  | some t0 =>
    let d := (ts - t0).toNat
    let fits := x.interval != 0 && intervalFits d x.interval && (edgeCause x d).isNone
    let s1 := match edgeCause x d with
      | some code => shaftLose i ts code s
      | none => s
    { s1 with shaft := vmod s1.shaft i fun y =>
        let good := if fits then y.good + 1 else 0
        let gain := !y.index && !y.lock && fits && good ≥ 3
        let first := if y.index then y.sinceIdx == some 0 else gain || (y.lock && y.k + 1 ≥ y.edges)
        shaftPush ts { y with
          tsLast := some ts, interval := d, good := if gain then 0 else good, lock := y.lock || gain
          k := if first then 0 else y.k + 1
          sinceIdx := y.sinceIdx.map (· + 1)
          idxGood := y.idxGood && (fits || x.interval = 0) } }

/-- An index edge of source `i` (R109, R110). A counted edge with the same stamp counts as at the index. -/
def shaftIndex (i : Nat) (ts : TS) (s : State) : State :=
  let x := vat s.shaft i Shaft.init
  let same := x.tsLast == some ts
  let n := x.sinceIdx.map fun n => if same then n - 1 else n
  let s1 := if x.lock && n != none && n != some x.edges then shaftLose i ts 4 s else s
  { s1 with shaft := vmod s1.shaft i fun y =>
      let gain := !y.lock && !x.lock && n == some y.edges && x.idxGood
      shaftPush ts { y with
        lock := y.lock || gain, sinceIdx := some (if same then 1 else 0), idxGood := true, k := if same then 0 else y.k } }

/-- An accepted edge of input `i` (R108): it counts for its own source and marks the index of the source before it (R479). -/
def shaftAccept (i : Nat) (ts : TS) (rising : Bool) (s : State) : State :=
  let x := vat s.shaft i Shaft.init
  let s1 := if x.used && x.fall != rising then shaftCount i ts s else s
  let y := vat s1.shaft (i - 1) Shaft.init
  if i % 2 = 1 && y.used && y.index && y.fall != rising then shaftIndex (i - 1) ts s1 else s1

/-- The edges whose pulses have lasted 2 HCLK cycles by `ts` are accepted, in the order of their stamps (R108). -/
def shaftSettle (ts : TS) (s : State) : State :=
  let due := (List.range 4).filterMap fun i => match (vat s.shaft i Shaft.init).pulse with
    | some (t, r) => if (ts - t).toNat ≥ 20 then some (t, i, r) else none
    | none => none
  (sortBy (fun a b => a.1.toNat ≤ b.1.toNat) due).foldl (fun s x =>
    shaftAccept x.2.1 x.1 x.2.2 { s with shaft := vmod s.shaft x.2.1 fun y => { y with pulse := none } }) s

/-- SHAFT_EDGE (R108): an edge less than 2 HCLK cycles after the one before ends a pulse that is ignored, both its edges with it;
any other is accepted once its own pulse has lasted that long. -/
def execShaftEdge (i : Fin 4) (rising : Bool) (ts : BitVec 64) (s : State) : Host.Outcome State Fault Refusal :=
  let s1 := shaftSettle ts s
  done (match (vat s1.shaft i.val Shaft.init).pulse with
    | some _ => { s1 with shaft := vmod s1.shaft i.val fun x => { x with pulse := none } }
    | none => { s1 with shaft := vmod s1.shaft i.val fun x => { x with pulse := some (ts, rising) } })

/-- No counted edge has come within twice the last interval by `ts` (R110). -/
def shaftLate (x : Shaft) (ts : TS) : Bool :=
  x.lock && (match x.tsLast with
    | some t => (ts - t).toNat > 2 * x.interval
    | none => false)

/-- The timeout of R110. -/
def shaftTimeout (i : Nat) (s : State) : State :=
  if (vat s.shaft i Shaft.init).lock then
    let s1 := shaftLose i s.clk.ts 3 s
    { s1 with shaft := vmod s1.shaft i (shaftPush s.clk.ts) }
  else s

/-- SHAFT_LOCK_TIMEOUT (R110): no counted edge has come within twice the last interval. -/
def execShaftLockTimeout (i : Fin 4) (s : State) : Host.Outcome State Fault Refusal :=
  done (if shaftLate (vat s.shaft i.val Shaft.init) s.clk.ts then shaftTimeout i.val s else s)

/-- Every source is judged at a dispatch (R110), with the edges accepted by then. -/
def shaftJudge (s0 : State) : State :=
  let s := shaftSettle s0.clk.ts s0
  (List.range 4).foldl (fun s i => if shaftLate (vat s.shaft i Shaft.init) s.clk.ts then shaftTimeout i s else s) s

/-- ph of source `i` at `x2` half nanoseconds, from the edges stamped before the start of tick `t` (R109). -/
def shaftPhase (s : State) (i t x2 : Nat) : W :=
  let x := vat s.shaft i Shaft.init
  match x.hist.find? fun g => g.at_.toNat < 50 * t with
  | some g => snapPhase x.edges g x2
  | none => 0

/-- The source of a PHASE_SRC is locked: NONE and period generators always (R110). -/
def phaseLocked (s : State) (src : Nat) : Bool :=
  if 1 ≤ src && src ≤ 4 then (vat s.shaft (src - 1) Shaft.init).lock else true

/-- The sample instant of tick `t` on the link of channel `n`, in half nanoseconds (R190). -/
def sampleInstant (s : State) (n t : Nat) : Nat :=
  let l := s.lk (linkOf n)
  1000 * t + l.rtt + 2 * (lat l.hello 4 0).bits 31 24

/-- ph for an L release with sample tick `t` bound to a channel (R41, R109); without a bound channel the start of tick `t` stands for
the sample instant (log entry 63). -/
def phaseL (s : State) (src : Nat) (bound : Option Nat) (t : Nat) : W :=
  if src = 0 then 0
  else if src ≤ 4 then shaftPhase s (src - 1) t (bound.elim (1000 * t) fun n => sampleInstant s n t)
  else (vat s.pg (src - 8) PGen.init).prev

/-- ph for a U release at the start of tick `t` (R41). -/
def phaseU (s : State) (src t : Nat) : W :=
  if src = 0 then 0
  else if src ≤ 4 then shaftPhase s (src - 1) t (1000 * t)
  else (vat s.pg (src - 8) PGen.init).acc

end Sys2Proof.Machine
end

