-- ==== Sys2Proof/Machine/Release.lean ====
section
/-!
DEFINITION. Dispatch of L and U releases (R36, R41, R48, R90 to R95, R97, R102, R105, R135), the channel events of R99 to R101,
and the move to a fallback table (R116, R117, R146 to R152).
-/
namespace Sys2Proof.Machine

/-- The engine runs no release (R36). -/
def engineIdle (s : State) (e : Nat) : Bool :=
  let (b, n) := ctxBase e
  (List.range n).all fun k => (s.cx (b + k)).rel.isNone

/-- The active bank changes and its CRC is recorded (R105, R106). -/
def bankSwap (x : Context) : Context :=
  let b := !x.bankAct
  let crc := bankCrc x b
  { x with bankAct := b, swaps := x.swaps + 1, armed := none
           crc0 := if b then x.crc0 else crc, crc1 := if b then crc else x.crc1 }

/-- An armed swap takes effect in a release of tick `rt` (R105); CH_APPLY already names its apply tick (Table 5.10). -/
def applySwap (rt : Nat) (x : Context) : Context :=
  match x.armed with
  | some a => if rt > a then bankSwap x else x
  | none => x

/-- The 16 port words of one granted channel (Table 5.2). -/
def portWords (s : State) (t : Task) (n : Nat) : List W :=
  let c := s.ch n
  let l := s.lk (linkOf n)
  [iw (sx16 c.mA), iw (sx16 c.mB), iw (sx16 c.mC), iw (sx16 c.mD), c.mstat.setWidth 32, nw (bandOf s n), nw (chanCode c.st),
   nw (min l.miss 255), c.stCmd, c.stMode, flag (phaseLocked s t.phaseSrc) 0, 0, 0, 0, 0, 0]

/-- The deadline tick of a release (R90, R140): tick t + d, or the last tick of the window of 200 ticks that it is released in. -/
def deadlineTick (t : Task) (c rt : Nat) : Nat := if c < 384 then rt + t.deadline - 1 else rt + 199

/-- STAT words 0 to 9 of a release of context `c` (Table 3.4). -/
def statWords (s : State) (c : Nat) (t : Task) : Vector W 16 :=
  let x := s.cx c
  Vector.ofFn fun i => match i.val with
    | 0 => tc32 s.now
    | 1 => if c < 384 then tc32 (s.now - 1) else 0
    | 2 => tc32 (deadlineTick t c s.now)
    | 3 => nw x.reason
    | 4 => (boundCh t).elim 0 fun n => nw (chanCode (s.ch n).st)
    | 5 => (boundCh t).elim 0 fun n => nw (bandOf s n)
    | 6 => if c < 384 then flag x.bankAct 0 ||| (x.swaps.setWidth 32 <<< 16) else 0
    | 7 => (boundCh t).elim 0 fun n => nw (s.ch n).armLeft
    | 8 => nw t.num
    | 9 => flagsWord x
    | _ => 0

/-- The record of a release at dispatch (R36, R86, R90). -/
def relOf (s : State) (c : Nat) (t : Task) : Rel where
  prog := t
  tick := s.now
  start := startOf s (engOfCtx c) s.now
  cyc := 0
  newIter := false
  pc := 0
  calls := []
  loops := []
  rv := Vector.replicate 32 0
  rm := Vector.replicate 4 0
  rmac := Vector.replicate 4 0
  rf := Vector.replicate 5 0
  ports := t.chans.flatMap fun x => portWords s t x.2
  stale := t.chans.map fun x => !(s.lk (linkOf x.2)).lastValid
  fresh := []
  arming := (List.finRange 192).filter fun n => (t.chans.any (fun x => x.2 == n.val) || t.checks.any fun d => d.ch == n.val) && (s.ch n.val).st == .arming
  bank := (s.cx c).bankAct
  staged := []
  recWords := 0
  jrx := s.jnb.rx
  shadow := !(s.adm.place.any fun p => p.ctx == c && p.task == t.num)

/-- A library release reads the fresh words of its bound channel (R101). -/
def libReads (t : Task) (r : Rel) : Rel := if !t.chans.isEmpty && libFresh r then { r with fresh := [0] } else r

/-- The release tick of a task's release comes (R90, R98, R426): the change to new code, cold start, armed swap, ph, STAT and port words
are fixed; the release waits for its engine. -/
def prepare (c : Nat) (t : Task) (s0 : State) : State :=
  let s1 := changeOver c t (shaftJudge s0)
  let s2 := if (s1.cx c).cold then coldStart c t s1 else s1
  let s3 := s2.modCx c fun x => applySwap s2.now x
  let ph := if c < 384 then phaseL s3 t.phaseSrc (boundCh t) (s3.now - 1) else phaseU s3 t.phaseSrc s3.now
  let s4 := s3.modCx c fun x => { x with ph := ph, stat := statWords s3 c t, reason := 0 }
  let r := relOf s4 c t
  s4.modCx c fun x => { x with wait := some r, lastTick := some s4.now }

/-- A release of an Estimate instance that did not step: a header update of 40 cycles (R65). -/
def estIdle (c : Nat) (t : Task) (s : State) : Bool := libId t == libEst && (libOf s c).stepTick != s.now

/-- A release that waits starts on its engine (R85, R135); a library release runs here (R63). A library task's shadow takes its working
values at E2 instead of running twice (log entry 31). -/
def startRel (c : Nat) (s : State) : State :=
  match (s.cx c).wait with
  | none => s
  | some r0 =>
    let r := { r0 with start := startOf s (engOfCtx c) r0.tick }
    let s1 := { s.modCx c (fun x => { x with wait := none }) with clk := { s.clk with released := true } }
    if r.prog.lib.isSome then
      (if r.shadow then s1
       else
        let r1 := libReads r.prog r
        let s2 := libRun c r.prog r1 s1
        endRelease c ((if estIdle c r.prog s2 then 40 else r.prog.w) - 1) r1 s2)
    else s1.modCx c fun x => { x with rel := some r }

/-- One dispatch (R90, R135): a release of this tick, or of an earlier one that waited. -/
def dispatch (c : Nat) (t : Task) (s : State) : State :=
  startRel c (if (s.cx c).wait.isSome then s else prepare c t s)

/-! When a release is due, and which comes first (R134, R135, R140). -/

/-- The places that release: those of the plan in force, and those of a shadow table from E1 on (R386). -/
def placesOf (s : State) : List Place :=
  s.adm.place ++ (match s.adm.shadow with
    | some (e1, _, pl) => if e1 != 0 && e1 ≤ s.now then pl.filter fun q => !(s.adm.place.any fun p => p.ctx == q.ctx) else []
    | none => [])

/-- This tick is a release tick of task `t` at place `q`: a sample tick plus 1 (R134); for a U task the start of every window, or of
its window in the epochs whose count its period divides (R140). -/
def relTick (s : State) (t : Task) (q : Place) : Bool :=
  if t.profile = .l then
    let p := max 1 t.period
    s.tcMod p == (q.phase + 1) % p
  else if t.period = 0 then s.tcMod 200 == 0
  else s.tcMod 2000 == 200 * q.phase && s.epoch % t.period == 0

/-- A release of this tick is due at place `q` and neither dispatched nor waiting (R97, R134, R140). -/
def dueNow (s : State) (q : Place) : Bool :=
  match taskAt s q.ctx with
  | some t =>
    t.num == q.task && t.profile != .s && relTick s t q && (s.cx q.ctx).lastTick != some s.now && (s.cx q.ctx).rel.isNone &&
    dispatchable s t
  | none => false

/-- The release tick of the release that place `q` has ready: one that waits, or one of this tick. -/
def readyTick (s : State) (q : Place) : Option Nat :=
  match (s.cx q.ctx).wait with
  | some r => some r.tick
  | none => if dueNow s q then some s.now else none

/-- Where the release that place `q` has ready stands in the order of R135: release tick, relay first, deadline tick, task number. -/
def readyKey (s : State) (q : Place) : Option (List Nat) :=
  match readyTick s q, taskAt s q.ctx with
  | some rt, some t => some [rt, if q.relay then 0 else 1, deadlineTick t q.ctx rt, q.task]
  | _, _ => none

/-- The place whose release the FSD may dispatch into context `c` now (R36, R85, R97, R135, R140, R386): its engine works and is idle
within this tick, and no release that is ready on it comes first. -/
def mayDispatch (s : State) (c : Nat) : Bool :=
  let e := engOfCtx c
  let pl := (placesOf s).filter fun q => q.eng == e
  match pl.find? (·.ctx == c) with
  | none => false
  | some q =>
    isRun s && !s.prl.halted && !(s.engine e).fenced && engineIdle s e && (s.engine e).busy < tickCycles e * (s.now + 1) &&
    (match readyKey s q with
     | some k => pl.all fun p => match readyKey s p with
         | some k2 => !keyLt k2 k
         | none => true
     | none => false)

/-- Every release that was due in this tick and has not been dispatched waits, its words fixed (R90, R98). -/
def prepareAll (s : State) : State :=
  if isRun s && !s.prl.halted then
    (placesOf s).foldl (fun s q =>
      if dueNow s q && (s.cx q.ctx).wait.isNone && !(s.engine q.eng).fenced then
        (match taskAt s q.ctx with
         | some t => prepare q.ctx t s
         | none => s)
      else s) s
  else s

/-- RELEASE_DISPATCH (R135). -/
def execReleaseDispatch (c : Ctx) (s : State) : Host.Outcome State Fault Refusal :=
  done (match taskAt s c.val with
    | some t => if mayDispatch s c.val then dispatch c.val t s else s
    | none => s)

/-- HOLD_LIMIT_EXPIRY (R100): at h + H at the earliest. -/
def execHoldLimitExpiry (n : Ch) (s : State) : Host.Outcome State Fault Refusal :=
  done (if (s.ch n.val).st = .hold && s.now ≥ (s.ch n.val).holdTick + holdLimit8 s n.val then enterSafeLimit n.val s else s)

/-- ARMING_COMPLETE (R101): in a tick after the one in which the ARMING count reached 0. -/
def execArmingComplete (n : Ch) (s : State) : Host.Outcome State Fault Refusal :=
  done (if armed9 n.val s then chanControl n.val s else s)

/-- RESTART_COUNT_DONE (R99 row 8): the 4,000 consecutive valid frames have arrived. -/
def execRestartCountDone (n : Ch) (s : State) : Host.Outcome State Fault Refusal :=
  done (if (s.ch n.val).st = .safe && (s.ch n.val).restart && (s.ch n.val).restartRun ≥ 4000 then enterArming n.val s else s)

/-! The move to a fallback table. -/

/-- A relay that runs already goes on from the engine of its last release (R148): in a new plan it keeps its engine, or takes the
survivor next above. -/
def keepRelays (s : State) (pl : List Place) : List Place :=
  pl.map fun q =>
    if q.relay then
      match s.adm.place.find? fun o => o.task == q.task && o.relay with
      | some o =>
        let e := if fencedEng s o.eng then nextUp (fencedEng s) o.eng else o.eng
        { q with eng := e, ctx := relayCtx pl e }
      | none => q
    else q

/-- The placement after the fences of a move (R146, R147, R152); none when no plan is feasible. -/
def fallbackPlaces (s : State) (l : List Nat) : Option (List Place) :=
  match s.adm.img with
  | none => none
  | some g =>
    let pts := g.tasks.map ptOf
    let ptL := pts.filter (·.prof == .l)
    let su := s.adm.place.filter (48 ≤ ·.eng)
    let su1 : Except PlaceFail (List Place) := (l.filter (48 ≤ ·)).foldl (fun o e => o.bind fun pl => planSU pts pl e) (.ok su)
    match planFor ptL (s.adm.nominal.filter (·.eng < 48)) (l.filter (· < 48)), su1 with
    | .ok a, .ok b => some (keepRelays s (a ++ b))
    | _, _ => none

/-- What a task's new context holds (R116, R117, R148, R152, R178), from the state before the move; true when the task
resumes cold for want of a mirror set. -/
def movedInto (s : State) (t : Task) (o : Place) : Context × Bool :=
  let x := s.cx o.ctx
  if !(s.engine o.eng).fenced then (x, false)
  else if o.eng < 48 then
    let ws := if o.relay then none else mirrorFind s o.eng (o.ctx % 8)
    let y := movedCtx s t x ws
    ({ y with task := x.task, cold := y.cold || x.cold }, ws.isNone)
  else if o.eng < 0x48 then (movedSeq s t x, false)
  else (movedU t x, false)

/-- A moved task's mirror set is also the one of its new place until a release there completes (R42, R116). -/
def mirrorCarry (pl : List Place) (s : State) : State :=
  let sets := pl.filterMap fun q => match s.adm.place.find? (·.task == q.task) with
    | some o => if o.ctx != q.ctx && o.eng < 48 && q.eng < 48 && (s.engine o.eng).fenced && !o.relay && !q.relay
        then (mirrorFind s o.eng (o.ctx % 8)).map fun ws => (q.ctx, ws) else none
    | none => none
  sets.foldl (fun s m => mirrorCopy m.1 m.2 s) s

/-- Tasks move from their places in force to those of `pl`: sources are cleared, then destinations take their state. -/
def moveTasks (pl : List Place) (s : State) : State :=
  let moves := pl.filterMap fun q => match s.adm.place.find? (·.task == q.task) with
    | some o => if o.ctx = q.ctx then none else (taskNo s q.task).map fun t => (o.ctx, q.ctx, t, movedInto s t o)
    | none => none
  let s1 := moves.foldl (fun s m => s.modCx m.1 fun _ => Context.init) s
  let s2 := moves.foldl (fun s m => s.modCx m.2.1 fun _ => m.2.2.2.1) s1
  let s3 := { s2 with adm := { s2.adm with place := pl } }
  moves.foldl (fun s m => if m.2.2.2.2 then m.2.2.1.chans.foldl (fun s x => if x.1 then rearmChan x.2 s else s) s else s) s3

/-- The places `old` of the tasks kept, and those of `pl` for the rest, which take free contexts where theirs are taken (R155). -/
def mergePlaces (old pl : List Place) : List Place :=
  (pl.filter fun q => old.all fun o => o.task != q.task).foldl (fun l q =>
    l ++ [if l.any (·.ctx == q.ctx) then { q with ctx := (freeCtx (l ++ pl) q.eng).getD q.ctx } else q]) old

/-- The fallback table of the oldest move in progress comes into force (R116, R155). -/
def fallbackNow (s : State) : State :=
  match s.adm.move with
  | [] => s
  | (t, l) :: r =>
    let le := l.filter (· < 48)
    let s1 := match fallbackPlaces s l with
      | some pl =>
        let pl1 := match assocGet s.adm.moveOld t with
          | some old => mergePlaces old pl
          | none => pl
        moveTasks pl1 (mirrorCarry pl1 s)
      | none => s
    { s1 with adm := { s1.adm with moveOld := if r.isEmpty then [] else s1.adm.moveOld, move := r, first := BitVec.ofNat 8 (lat le 0 0xFF), second := BitVec.ofNat 8 (lat le 1 0xFF) } }

/-- FALLBACK_TABLE_IN_FORCE (R116). -/
def execFallbackTableInForce (s : State) : Host.Outcome State Fault Refusal := done (fallbackNow s)

end Sys2Proof.Machine
end

