-- ==== Sys2Proof/Machine/SvcOps.lean ====
section
/-!
DEFINITION. Service messages and their answers (R197 to R201, R298), the terms of a link (R128), and the commands of the
service streams.
-/
namespace Sys2Proof.Machine

/-- Change the queue of a stream. -/
def svcQ (l : Nat) (st : Stream) (f : List SvcMsg → List SvcMsg) (s : State) : State :=
  s.modLk l fun x => match st with
    | .dev => { x with devQ := f x.devQ }
    | .host => { x with hostQ := f x.hostQ }
    | .capture => x

/-- The messages of a stream that wait for their answer. -/
def svcOf (s : State) (l : Nat) (st : Stream) : List SvcMsg := match st with
  | .dev => (s.lk l).devQ
  | .host => (s.lk l).hostQ
  | .capture => []

/-- A reliable message has been sent and awaits its answer; it may wait for a resend (R199). -/
def svcSent (m : SvcMsg) : Bool := svcReliable m.kind && (!m.queued || m.resends > 0)

/-- The message of a stream that was sent with SEQ `seq` and awaits its answer (R199). -/
def svcFind (s : State) (l : Nat) (st : Stream) (seq : BitVec 8) : Option SvcMsg :=
  (svcOf s l st).find? fun m => m.seq == seq && svcSent m

/-- The message is answered. -/
def svcDrop (l : Nat) (st : Stream) (seq : BitVec 8) (s : State) : State :=
  svcQ l st (fun q => q.filter fun m => !(m.seq == seq && svcSent m)) s

/-- Every message of a kiosk command is taken back (R226). -/
def svcCancel (tag : BitVec 16) (s : State) : State :=
  { s with link := s.link.map fun x => { x with
    devQ := x.devQ.filter (fun m => m.tag != some tag), hostQ := x.hostQ.filter (fun m => m.tag != some tag)
    reads := x.reads.filter fun m => m.2.tag != some tag } }

/-- A message of a kiosk command is still to be answered. -/
def svcPending (s : State) (tag : BitVec 16) : Bool :=
  s.link.any fun x => (x.devQ ++ x.hostQ ++ x.reads.map (·.2)).any fun m => m.tag == some tag

/-- Read the thermal block of a slot through the device stream (R298). -/
def thermAsk (l slot : Nat) (s : State) : State := svcSend l false 0x02 0 [nw (0x0080 + 0x20 * slot) ||| fld 32 16] none s

/-- The slots whose thermal block an accepted WRITE touches (R298). -/
def thermTouched (m : SvcMsg) : List Nat :=
  if m.kind = 0x01 then
    let a := (lat m.words 0 0).bits 15 0
    let e := a + (m.words.length - 1)
    (List.range 3).filter fun k => a < 0x0080 + 0x20 * (k + 1) && 0x0080 + 0x20 * k < e
  else []

/-- The thresholds and the hold limit of an acknowledged MOD_THRESH are what later AGREEs carry (R194, R200). -/
def threshAcked (l : Nat) (m : SvcMsg) (s : State) : State :=
  match m.tag.bind (kByTag s) with
  | some k =>
    if k.cmd = 0x0303 then
      let slot := (lat m.words 0 0).bits 15 0 / 16
      s.modLk l fun x => { x with
        thresh := vput x.thresh slot (fld (lat m.words 2 0).toNat 16 ||| fld ((lat m.words 1 0).toNat % 65536) 0)
        holdLim := if m.words.length > 3 then vput x.holdLim slot (some (lat m.words 3 0).toNat) else x.holdLim }
    else s
  | none => s

/-- ACK (R199, R200, R201, R298): the command whose last message is acknowledged completes OK. A READ waits for its RDATA. -/
def svcAcked (l : Nat) (st : Stream) (seq : BitVec 8) (s : State) : State :=
  match svcFind s l st seq with
  | none => s
  | some m =>
    let s1 := svcDrop l st seq s
    if m.kind = 0x02 then
      (if m.answered then s1 else s1.modLk l fun x => { x with reads := x.reads ++ [(st == .host, m)] })
    else match m.tag with
      | none => s1
      | some t =>
        let s2 := threshAcked l m ((thermTouched m).foldl (fun s k => thermAsk l k s) s1)
        if svcPending s2 t then s2 else kEndTag (some t) stOk 0 0 0 s2

/-- SVC_ACK (R199). -/
def execSvcAck (l : LinkNo) (st : Stream) (seq : BitVec 8) (s : State) : Host.Outcome State Fault Refusal :=
  done (svcAcked l.val st seq s)

/-- NAK (R199, R201): the command completes MODULE_NAK with the reason. -/
def svcNaked (l : Nat) (st : Stream) (seq : BitVec 8) (reason : W) (s : State) : State :=
  match svcFind s l st seq with
  | none => s
  | some m =>
    let s1 := svcDrop l st seq s
    match m.tag with
    | none => s1
    | some t => kEndTag (some t) stModuleNak reason 0 0 (svcCancel t s1)

/-- SVC_NAK (R199, R201). -/
def execSvcNak (l : LinkNo) (st : Stream) (seq : BitVec 8) (reason : W) (s : State) : Host.Outcome State Fault Refusal :=
  done (svcNaked l.val st seq reason s)

/-- An inbound reliable message is acknowledged with its own SEQ (R199). -/
def svcAnswer (l : Nat) (st : Stream) (own : BitVec 8) (s : State) : State := svcSend l (st == .host) 0x04 own [] none s

/-- An inbound reliable message with SEQ `own` has been acknowledged before (R199). -/
def svcKnown (s : State) (l : Nat) (st : Stream) (own : BitVec 8) : Bool := (s.lk l).acked.contains (st == .host, own)

/-- The SEQ joins the last 4 acknowledged of its stream (R199: a sender keeps at most 4 unacknowledged). -/
def svcRemember (l : Nat) (st : Stream) (own : BitVec 8) (s : State) : State :=
  s.modLk l fun x => { x with
    acked := x.acked.filter (·.1 != (st == .host)) ++ lastN (x.acked.filter (·.1 == (st == .host))) 3 ++ [(st == .host, own)] }

/-- The READ that an RDATA with ARG `seq` answers: acknowledged, or sent and not yet acknowledged (R199). -/
def readOf (s : State) (l : Nat) (st : Stream) (seq : BitVec 8) : Option SvcMsg :=
  (((s.lk l).reads.find? fun x => x.1 == (st == .host) && x.2.seq == seq).map (·.2)).or
    ((svcFind s l st seq).filter fun m => m.kind == 0x02 && !m.answered)

/-- That READ is answered. -/
def readDrop (l : Nat) (st : Stream) (seq : BitVec 8) (s : State) : State :=
  svcQ l st (fun q => q.map fun m => if m.seq == seq && m.kind == 0x02 && svcSent m then { m with answered := true, tag := none } else m)
    (s.modLk l fun x => { x with reads := x.reads.filter fun y => !(y.1 == (st == .host) && y.2.seq == seq) })

/-- The data of a MOD_READ go to its host buffer and its results (log entry 34). -/
def readDone (tag : Option (BitVec 16)) (ws : List W) (s : State) : State :=
  match tag.bind (kByTag s) with
  | none => s
  | some k =>
    let (at_, len) := k.buf 5
    let s1 := if len = 0 then s else { s with host := Memory.writeWs s.host at_ (ws.take (len / 4)) }
    kEnd k stOk (lat ws 0 0) (lat ws 1 0) (lat ws 2 0) s1

/-- RDATA (R199): acknowledged with its own SEQ; one acknowledged before does nothing else; else it answers the READ of SEQ `seq`. -/
def rdataIn (l : Nat) (st : Stream) (seq own : BitVec 8) (ws : List W) (s : State) : State :=
  let s1 := svcAnswer l st own s
  if svcKnown s l st own then s1
  else
    let s2 := svcRemember l st own s1
    match readOf s2 l st seq with
    | none => s2
    | some m =>
      let s3 := readDone m.tag ws ((readDrop l st seq s2).modLk l fun x => { x with rdata := ws })
      if m.tag.isNone then modState l (lat m.words 0 0) ws s3 else s3

/-- RDATA (R199). -/
def execRdata (l : LinkNo) (st : Stream) (n : RdataSeq) (ws : List W) (s : State) : Host.Outcome State Fault Refusal :=
  done (rdataIn l.val st n.arg n.own ws s)

/-- The capture words of a tick (R237); version 1 has no capture stream (Table 8.12). -/
def captureIn (l : Nat) (ws : List W) (s : State) : State :=
  if (s.lk l).inUse && (s.lk l).version ≥ 2 then s.modLk l fun x => { x with capture := ws } else s

/-- CAPTURE (R237). -/
def execCapture (l : LinkNo) (ws : List W) (s : State) : Host.Outcome State Fault Refusal := done (captureIn l.val ws s)

/-- SVC_RESEND_TIMEOUT (R199): 64 ticks after its last sending the message waits to be sent again; after the fourth resend row 4 applies. -/
def execSvcResendTimeout (l : LinkNo) (st : Stream) (seq : BitVec 8) (s : State) : Host.Outcome State Fault Refusal :=
  done (match (svcFind s l.val st seq).filter fun m => !m.queued && m.sent + 64 ≤ s.now with
    | none => s
    | some m =>
      let again := m.resends < 4
      let s1 := svcQ l.val st (fun q => q.map fun x =>
        if x.seq == seq && !x.queued && svcReliable x.kind
        then { x with queued := true, resends := if again then x.resends + 1 else 0 } else x) s
      if again then s1 else linkRetrain l.val (slcEvt l.val 6 s1))

/-! The thermal block (R297, R298). -/

/-- R, C and time constants of a block are usable; every product and comparison is in binary32 (log entry 12). -/
def thermUsable (b : List W) : Bool :=
  let g := fun k => lat b k 0
  b.length == 32 && b.all isFin && (List.range 8).all (fun k => fgt (g (4 + k)) 0) &&
  flt (g 13) (g 14) && flt (g 14) (g 15) &&
  (List.range 4).all (fun k => flt (g (16 + k)) (g (20 + k)) && flt (g (24 + k)) (g (28 + k))) &&
  (List.range 4).all fun k =>
    let r := if k = 0 then g 4 else fmin (g (3 + k)) (g (4 + k))
    fge (fmul (g (8 + k)) r) 0x3951B717

/-- The model of a channel stops and its band is NOMINAL (R298, R304). -/
def thermStop (n : Nat) (s : State) : State :=
  let old := bandOf s n
  let s1 := s.modTh n fun x => { x with run := false, obs := false, band := 1, blk := none, noblock := true, fresh := true }
  if old = 1 then s1 else note 0x07 n [nw old, 1] [0, 1] s1

/-- THERMAL_BLOCK_READ (R298). -/
def execThermalBlockRead (l : LinkNo) (slot : Fin 3) (blk : Option (List W)) (s : State) : Host.Outcome State Fault Refusal :=
  let n := 3 * l.val + slot.val
  let ser := lat (s.lk l.val).hello 3 0
  done (match blk with
    | some b =>
      if thermUsable b then
        s.modTh n fun x => { x with blk := some b, serial := ser, noblock := false
                                    fresh := x.fresh || x.blk.isNone || x.serial != ser }
      else (thermStop n s).raiseP (4 * n + 2) .ce 0x0205
    | none => (thermStop n s).raiseP (4 * n + 2) .ce 0x0205)

/-! The terms of a link (R128, R142). -/

/-- Capture words that a RECORDER section places on a link (R142, R237, Table 10.5), the header of the CAPTURE message included. -/
def capOnLink (sect : List W) (l : Nat) : Nat :=
  let ws := (List.range ((lat sect 18 0).bits 23 16)).map fun i => lat sect (19 + i) 0
  let mine := ws.filter fun w => w.bits 21 16 == l
  if mine.isEmpty then 0 else 1 + sumNat (mine.map fun w => w.bits 3 0 + 1)

/-- Service words of a version: outbound, inbound, reserve (R197). -/
def svcCapacity (v : Nat) : Nat × Nat × Nat := if v ≥ 2 then (23, 20, 2) else (0, 0, 0)

/-- R142 on one link at version `v`. -/
def linkFits (g : Image) (d : LinkDecl) (v : Nat) : Bool :=
  let (o, i, r) := svcCapacity v
  d.svcIn + r + capOnLink g.recorder d.link ≤ i && d.svcOut + r ≤ o

/-- The latency of each OWNED channel of the link (Table 6.8 step 4), against these offsets in ns. -/
def latencyOk (g : Image) (l aOff sOff : Nat) : Bool :=
  g.tasks.all fun t => t.profile != .l || t.chans.all fun x =>
    !x.1 || linkOf x.2 != l || (match g.chans.find? (·.ch == x.2) with
      | some c => c.maxLat == 0 || (1 + t.deadline) * 500 + aOff ≤ c.maxLat + sOff
      | none => true)

/-- The terms of an image hold for a link whose module sent this HELLO and that runs version `v` (R11, R12, R128, R237, Table 6.8): its
type, version, slots and declared channels, service and latency; in a pair its second port; no capture of a module without CAP. -/
def termsOk (g : Image) (l : Nat) (h : List W) (v : Nat) : Bool :=
  match g.links.find? (·.link == l) with
  | none => true
  | some d =>
    let slotOk := fun (k : Nat) => k < helloNch h && (v != 1 || k == 0)
    (d.mtype == 0 || d.mtype == (lat h 1 0).bits 15 0) && d.minVer ≤ v &&
    (List.range 3).all (fun k => !d.slots.testBit k || slotOk k) &&
    g.chans.all (fun c => linkOf c.ch != l || slotOk (slotOf c.ch)) &&
    (!g.pair || helloDual h) && (capOnLink g.recorder l == 0 || helloCap h) &&
    linkFits g d v && latencyOk g l (helloAOff h) (helloSOff h)

/-- R128 on a link that is UP or HOLD: on a mismatch every channel of it is OFF, and its event is raised once. -/
def applyTerms (l : Nat) (s : State) : State :=
  match s.adm.img with
  | none => s.modLk l fun x => { x with refused := false }
  | some g =>
    if termsOk g l (s.lk l).hello (s.lk l).version then s.modLk l fun x => { x with refused := false }
    else
      let s1 := slcEvt l 4 (s.modLk l fun x => { x with refused := true })
      (linkChans s1 l).foldl (fun s n =>
        (if (s.ch n).st = .off || (s.ch n).st = .fenced then s else enterOff n s).raiseP (4 * n + 1) .uc 0x0104) s1

end Sys2Proof.Machine
end

