-- ==== Sys2Proof/Machine/LoopFlow.lean ====
section
/-!
DEFINITION. Control flow (R82 to R87): BF, LOOPN, CALLF and END, and the abnormal ends of a release (R56, R89).
-/
namespace Sys2Proof.Machine

/-- The word at `pc` lies in a body (R84). -/
def LoopFrame.holds (f : LoopFrame) (pc : Nat) : Bool := f.start ≤ pc && pc < f.stop

/-- A taken branch issues (R82): cost 3; it abandons the bodies it leaves (R84). -/
def branchTaken (p : Prof) (i : Insn) (r : Rel) : Rel :=
  let t := issueAt p i r
  let pc := r.pc + i.off
  { r with cyc := t + 3, newIter := false, pc := pc, loops := r.loops.dropWhile fun f => !f.holds pc }

/-- BF (R82). -/
def execBf (c : Ctx) (f : CForm) (s : State) : Host.Outcome State Fault Refusal :=
  done (engine c (wordC 0x60 f) 0 (fun i r s =>
    if condTrue (s.cx c.val) i.cond then s.modRel c.val fun _ => branchTaken (profOf c) i r else s) s)

/-- LOOPN (R82): the next `off` words run cnt + 1 times. -/
def execLoopn (c : Ctx) (f : CForm) (s : State) : Host.Outcome State Fault Refusal :=
  done (engine c (wordC 0x61 f) 0 (fun i r s =>
    s.modRel c.val fun _ =>
      { r with cyc := issueAt (profOf c) i r + 2, newIter := false, pc := r.pc + 1
               loops := ⟨r.pc + 1, r.pc + 1 + i.off, i.cnt⟩ :: r.loops }) s)

/-- A taken call (R82, R84): the return point is the word that would follow. -/
def callTaken (t pc last : Nat) (r : Rel) : Rel :=
  let (ret, loops, again) := fallFrom last r.loops
  { r with cyc := t + 3, newIter := false, pc := pc, calls := ⟨ret, again, loops⟩ :: r.calls, loops := [] }

/-- CALLF (R82, R84). -/
def execCallf (c : Ctx) (f : CForm) (s : State) : Host.Outcome State Fault Refusal :=
  done (engine c (wordC 0x62 f) 0 (fun i r s =>
    if condTrue (s.cx c.val) i.cond
    then s.modRel c.val fun _ => callTaken (issueAt (profOf c) i r) (r.pc + i.off) r.pc r else s) s)

/-- A returning END (R82, R84): the bodies opened since the call are abandoned. -/
def returnRel (t : Nat) (k : CallFrame) (rest : List CallFrame) (r : Rel) : Rel :=
  { r with cyc := t + 3, newIter := k.newIter, pc := k.ret, calls := rest, loops := k.bodies }

/-- END (R82, R87): it returns, or at depth 0 waits for every result and ends the release; in S it ends the entry. -/
def execEnd (c : Ctx) (f : CForm) (s : State) : Host.Outcome State Fault Refusal :=
  done (engine c (wordC 0x63 f) 0 (fun i r s =>
    let on := if isS c.val then condS s c.val r.prog i else condTrue (s.cx c.val) i.cond
    let t := issueAt (profOf c) i r
    if on then
      match r.calls with
      | k :: rest => s.modRel c.val fun _ => returnRel t k rest r
      | [] => if isS c.val then seqEnd c.val r.prog s else endRelease c.val (max t (allReady r)) r s
    else s) s)

/-- ILLEGAL_INSTRUCTION (R56): an instruction that R55 would refuse (0x0003), or an uncorrectable word (0x0004), ends the
release without executing. -/
def execIllegalInstruction (c : Ctx) (ecc : Bool) (s : State) : Host.Outcome State Fault Refusal :=
  done (if (s.cx c.val).rel.isSome then abortRelease c.val (if ecc then 0x0004 else 0x0003) s else s)

/-- RELEASE_OVERRUN (R89): at 6 + W cycles the engine ends the release with code 0x0006. -/
def execReleaseOverrun (c : Ctx) (s : State) : Host.Outcome State Fault Refusal :=
  done (if (s.cx c.val).rel.isSome
    then abortRelease c.val 0x0006 (s.modRel c.val fun r => { r with cyc := max r.cyc r.prog.w }) else s)

end Sys2Proof.Machine
end

