-- ==== Sys2Proof/Machine/Wcet.lean ====
section
/-!
DEFINITION. The limits on control flow that admission checks (R83, R172) and the figures W and the step bound that it
computes by walking the code (R88, R177).
-/
namespace Sys2Proof.Machine

/-- The instruction at word `pc` of a code section. -/
def codeInsn (t : Task) (pc : Nat) : Insn := insnOf (lat t.code pc 0) (lat t.code (pc + 1) 0)

/-- The first words of the instructions of a section, read from word `pc` on (R53). -/
def insnPcs (t : Task) : Nat → Nat → List Nat
  | 0, _ => []
  | n + 1, pc => if pc < t.code.length then pc :: insnPcs t n (lastWord (codeInsn t pc) pc + 1) else []

/-- The first words of all instructions of a task. -/
def Task.pcs (t : Task) : List Nat := insnPcs t t.code.length 0

/-- An entry into code: the profile as the engines run it. -/
def Profile.prof : Profile → Prof
  | .l => .l
  | .s => .s
  | .u => .u

/-- The target of a branch or a call at `pc`, signed in S (R51, R82, R170). -/
def flowTarget (i : Insn) (pc : Nat) : Option Int :=
  match i.op with
  | 0x60 | 0x62 => some (pc + i.off : Nat)
  | 0x75 | 0x76 | 0x7C => some ((pc : Int) + i.soff)
  | _ => none

/-- The bodies of a section: the LOOPN's word, the first word and the word after the last (R83). -/
def bodiesOf (t : Task) : List (Nat × Nat × Nat) :=
  t.pcs.filterMap fun pc =>
    let i := codeInsn t pc
    if i.op = 0x61 then some (pc, pc + 1, pc + 1 + i.off) else none

/-- A word lies in a body. -/
def inBody (b : Nat × Nat × Nat) (pc : Nat) : Bool := b.2.1 ≤ pc && pc < b.2.2

/-- R83 as far as one body shows it. -/
def bodyOk (t : Task) (bs : List (Nat × Nat × Nat)) (b : Nat × Nat × Nat) : Bool :=
  let len := b.2.2 - b.2.1
  let outer := bs.filter fun x => inBody x b.1
  1 ≤ len && len ≤ 256 && b.2.2 ≤ t.code.length &&
  !(t.pcs.contains (b.2.2 - 1) && opIsE (codeInsn t (b.2.2 - 1)).op) &&
  outer.length ≤ 1 && outer.all fun x => b.2.2 ≤ x.2.2

/-- R83 as far as one branch or call shows it. -/
def flowOk (t : Task) (bs : List (Nat × Nat × Nat)) (pc : Nat) : Bool :=
  let i := codeInsn t pc
  match flowTarget i pc with
  | none => true
  | some x =>
    x ≠ pc && 0 ≤ x && t.pcs.contains x.toNat &&
    (if i.op = 0x60 then bs.all fun b => !inBody b x.toNat || inBody b pc
     else if i.op = 0x62 then bs.all fun b => !inBody b x.toNat
     else true)

/-- The limits of R83 that each word shows. -/
def flowStatic (t : Task) : Bool :=
  let bs := bodiesOf t
  bs.all (bodyOk t bs) && t.pcs.all (flowOk t bs)

/-- The first word that breaks one of these limits. -/
def flowBadWord (t : Task) : Option Nat :=
  let bs := bodiesOf t
  t.pcs.find? fun pc => !flowOk t bs pc || bs.any fun b => b.1 == pc && !bodyOk t bs b

/-! The walk of R88. A state of the walk is a release record; two routes reach the same word in the same iterations and calls
exactly when their keys are equal. -/

/-- Where the bodies and a word stand: each body, outermost first, by its LOOPN's word and the iterations left, then the word. -/
def flowKey (loops : List LoopFrame) (pc2 : Nat) : List Nat :=
  loops.reverse.flatMap (fun f => [2 * (f.start - 1), 64 - f.left]) ++ [pc2]

/-- The key of a state: earlier in the order of execution is smaller. -/
def walkKey (r : Rel) : List Nat :=
  r.calls.reverse.flatMap (fun k => flowKey k.bodies (2 * k.ret - 1)) ++ flowKey r.loops (2 * r.pc)

/-- The later of two vectors, word by word. -/
def vmax {n : Nat} (a b : Vector Nat n) : Vector Nat n := Vector.ofFn fun i => max a[i] b[i]

/-- The merged state of two routes (R88). -/
def walkMerge (a b : Rel) : Rel :=
  { a with cyc := max a.cyc b.cyc, recWords := max a.recWords b.recWords, rv := vmax a.rv b.rv, rm := vmax a.rm b.rm, rmac := vmax a.rmac b.rmac, rf := vmax a.rf b.rf }

/-- The extra cycle of a later iteration counted at once (R86). -/
def walkFold (r : Rel) : Rel := if r.newIter then { r with cyc := r.cyc + 1, newIter := false } else r

/-- A state joins those waiting, in order, merged where its key is there. -/
def walkPut (r : Rel) : List (List Nat × Rel) → List (List Nat × Rel)
  | [] => [(walkKey r, r)]
  | (k, x) :: q =>
    if walkKey r = k then (k, walkMerge x r) :: q
    else if keyLt (walkKey r) k then (walkKey r, r) :: (k, x) :: q
    else (k, x) :: walkPut r q

/-- User words that an instruction pushes (R81, R170). -/
def recPush (i : Insn) : Nat := if i.op = 0x51 then i.md % 8 + 1 else if i.op = 0x7B then 2 else 0

/-- What one word leads to: the states that follow, the ends with their W, the resume points and whether a limit breaks. -/
structure WalkOut where
  next : List Rel
  ends : List Nat
  starts : List (Nat × List CallFrame)
  bad : Bool
deriving DecidableEq, Repr

/-- A yield or an END at depth 0 that issues at `t` (R87, R177). -/
def walkEnd (t : Nat) (r : Rel) : Nat := max t (allReady r) + 1

/-- Bodies active, in callers too (R83). -/
def activeBodies (r : Rel) : Nat := r.loops.length + sumNat (r.calls.map (·.bodies.length))

/-- A taken JMP, JC or CALL of S (R172, R177). -/
def walkJump (i : Insn) (t : Nat) (calls : List CallFrame) (r : Rel) : WalkOut :=
  let pc := ((r.pc : Int) + i.soff).toNat
  if i.soff < 0 then ⟨[], [walkEnd t r], [(pc, calls)], false⟩
  else ⟨[{ r with pc := pc, calls := calls, cyc := t + 3 }], [], [], false⟩

/-- One word of the walk (R88, R177). A condition AL has one outcome. -/
def walkStep (p : Prof) (t : Task) (r : Rel) : WalkOut :=
  if r.pc ≥ t.code.length then ⟨[], [], [], true⟩
  else
    let i := codeInsn t r.pc
    let at' := issueAt p i r
    let fall := let q := issueRel p i at' i.issue r; { q with recWords := r.recWords + recPush i }
    let falls := if i.cond = 0 then [] else [fall]
    match i.op with
    | 0x60 => ⟨falls ++ [branchTaken p i r], [], [], false⟩
    | 0x61 =>
      if activeBodies r ≥ 2 then ⟨[], [], [], true⟩
      else ⟨[{ r with cyc := at' + 2, pc := r.pc + 1, loops := ⟨r.pc + 1, r.pc + 1 + i.off, i.cnt⟩ :: r.loops }], [], [], false⟩
    | 0x62 =>
      if r.calls.length ≥ 2 then ⟨[], [], [], true⟩ else ⟨falls ++ [callTaken at' (r.pc + i.off) r.pc r], [], [], false⟩
    | 0x63 =>
      (match r.calls with
       | k :: rest => ⟨falls ++ [returnRel at' k rest r], [], [], false⟩
       | [] => ⟨falls, [walkEnd at' r], [], false⟩)
    | 0x75 => walkJump i at' r.calls r
    | 0x76 => let o := walkJump i at' r.calls r; { o with next := falls ++ o.next }
    | 0x7C =>
      if r.calls.length ≥ 2 then ⟨[], [], [], true⟩
      else let o := walkJump i at' (⟨r.pc + 1, false, []⟩ :: r.calls) r; { o with next := falls ++ o.next }
    | 0x73 | 0x7A => ⟨[fall], [walkEnd at' r], [(r.pc, r.calls)], false⟩
    | 0x78 => ⟨[fall], [walkEnd at' r], [(r.pc + 1, r.calls)], false⟩
    | 0x74 | 0x77 => ⟨[fall], [walkEnd at' r], [], false⟩
    | _ => ⟨[fall], [], [], false⟩

/-- A walk as it stands: W so far, the most user words of a path, the resume points found, the words reached, and whether a limit
broke. -/
structure Walk where
  w : Nat
  recs : Nat
  starts : List (Nat × List CallFrame)
  seen : List Nat
  bad : Bool
deriving DecidableEq, Repr

/-- The walk from the states waiting, earliest first; its fuel suffices for every section that keeps R83. -/
def walkRun (p : Prof) (t : Task) : Nat → List (List Nat × Rel) → Walk → Walk
  | 0, _, k => { k with bad := true }
  | _ + 1, [], k => k
  | n + 1, (_, r) :: q, k =>
    let o := walkStep p t r
    let k1 : Walk := {
      w := o.ends.foldl max k.w
      recs := o.next.foldl (fun m x => max m x.recWords) k.recs
      starts := o.starts.foldl (fun l x => if l.contains x then l else l ++ [x]) k.starts
      seen := insertNat k.seen r.pc
      bad := k.bad || o.bad }
    if k1.bad then k1 else walkRun p t n (o.next.foldl (fun q x => walkPut (walkFold x) q) q) k1

/-- The state at a start: cycle 0, nothing waited for (R86). -/
def walkInit (t : Task) (pc : Nat) (calls : List CallFrame) : Rel where
  prog := t
  tick := 0
  start := 0
  cyc := 0
  newIter := false
  pc := pc
  calls := calls
  loops := []
  rv := Vector.replicate 32 0
  rm := Vector.replicate 4 0
  rmac := Vector.replicate 4 0
  rf := Vector.replicate 5 0
  ports := []
  stale := []
  fresh := []
  arming := []
  bank := false
  staged := []
  recWords := 0
  jrx := []
  shadow := false

/-- Steps that no walk exceeds: each word in every iteration of at most two active bodies and at two call sites (R83). -/
def walkFuel (t : Task) : Nat := 4096 * (t.code.length + 1) ^ 3 + 1

/-- Walks from every resume point, those found joining the list (R177). -/
def walkStarts (p : Prof) (t : Task) : Nat → Nat → Walk → Walk
  | 0, _, k => { k with bad := true }
  | n + 1, i, k =>
    match k.starts[i]? with
    | none => k
    | some (pc, calls) =>
      let k1 := walkRun p t (walkFuel t) [([], walkInit t pc calls)] k
      if k1.bad then k1 else walkStarts p t n (i + 1) k1

/-- Entry words of a task: word 0, or in S the entries of PARAM words 2 and 3 (Table 7.1). -/
def entryWords (t : Task) : List Nat :=
  if t.profile = .s then
    let w2 := lat t.paramInit 2 0
    [w2.bits 15 0, w2.bits 31 16, (lat t.paramInit 3 0).bits 15 0]
  else [0]

/-- The walk of a task over every start. -/
def walkTask (t : Task) : Walk :=
  walkStarts t.profile.prof t ((t.code.length + 1) ^ 3 + 4) 0 ⟨0, 0, (entryWords t).map fun e => (e, []), [], false⟩

/-- A section keeps the limits of R83 and R172; in S every word is reached. -/
def flowLegal (t : Task) : Bool :=
  flowStatic t &&
  (let k := walkTask t
   !k.bad && (t.profile != .s || t.pcs.all k.seen.contains))

/-- W of R88, or the step bound of R177. -/
def figureW (t : Task) : Nat :=
  let w := (walkTask t).w
  if t.profile = .s then w + 12 * t.chans.length + (if (lat t.paramInit 4 0).bit 31 then 12 else 0) else w

end Sys2Proof.Machine
end

