-- ==== Sys2Proof/Machine/ImgOps.lean ====
section
/-!
DEFINITION. Program images as words: framing (R122), the directory (R123), descriptors, grants, channel and link records
(R124 to R127), and how a DELTA image applies to the image in force (R154).
-/
namespace Sys2Proof.Machine

/-- A directory entry (Table 6.2): offsets in bytes; `dw` is the image word at which the entry begins. -/
structure Sect where
  typ : Nat
  sver : Nat
  count : Nat
  off : Nat
  len : Nat
  dw : Nat
deriving DecidableEq, Repr

/-- The directory of an image. -/
def imgSects (ws : List W) : List Sect :=
  (List.range ((lat ws 1 0).bits 15 0)).map fun i =>
    let d := 16 + 4 * i
    let w := lat ws d 0
    ⟨w.bits 31 24, w.bits 23 16, w.bits 15 0, (lat ws (d + 1) 0).toNat, (lat ws (d + 2) 0).toNat, d⟩

/-- IMAGE_CRC as it should be: word 3 taken as 0 (Table 6.1). -/
def imgCrc (ws : List W) : W := crc32cW (ws.take 3 ++ 0 :: ws.drop 4)

/-- The framing of R122; `len` is the length in bytes that the source gives, when it gives one. -/
def framingOk (ws : List W) (len : Option Nat) : Bool :=
  let n := (lat ws 2 0).toNat
  let k := (lat ws 1 0).bits 15 0
  ws.length ≥ 16 && lat ws 0 0 == 0x4B565049 && n % 4 == 0 && n ≤ 8388608 && n == 4 * ws.length &&
  (match len with
   | some l => l == n
   | none => true) &&
  1 ≤ k && k ≤ 64 && 64 + 16 * k ≤ n && lat ws 3 0 == imgCrc ws

/-- The section of a type. -/
def sectOf (ws : List W) (typ : Nat) : Option Sect := (imgSects ws).find? (·.typ == typ)

/-- First image word of a section. -/
def sectAt (ws : List W) (typ : Nat) : Nat := (sectOf ws typ).elim 0 fun x => x.off / 4

/-- The words of a section; none of a section that is not there. -/
def sectWords (ws : List W) (typ : Nat) : List W :=
  (sectOf ws typ).elim [] fun x => (ws.drop (x.off / 4)).take (x.len / 4)

/-- COUNT of a section. -/
def sectCount (ws : List W) (typ : Nat) : Nat := (sectOf ws typ).elim 0 (·.count)

/-- The offending directory word of one entry, against the entries before it (R123). -/
def sectBad (ws : List W) (delta : Bool) (before : List Sect) (x : Sect) : Option Nat :=
  let n := 4 * ws.length
  let dir := 64 + 16 * (lat ws 1 0).bits 15 0
  if before.any (·.typ == x.typ) then some x.dw
  else if x.off % 4 ≠ 0 then some (x.dw + 1)
  else if x.len % 4 ≠ 0 then some (x.dw + 2)
  else if x.len > 0 && (x.off < dir || x.off + x.len > n ||
      before.any fun y => y.len > 0 && x.off < y.off + y.len && y.off < x.off + x.len) then some (x.dw + 1)
  else if x.typ = 0x0A && !delta then some x.dw
  else none

/-- The first offending directory word (R123). -/
def dirBad (ws : List W) (delta : Bool) : Option Nat :=
  let l := imgSects ws
  (List.range l.length).findSome? fun i => l[i]?.bind fun x => sectBad ws delta (l.take i) x

/-! Descriptors (R124, R125). -/

/-- A grant list's entries: position in the list, the word, and the second word of a CHECK. -/
def grantEntries : Nat → Nat → List W → List (Nat × W × W)
  | 0, _, _ => []
  | _ + 1, _, [] => []
  | n + 1, i, w :: r =>
    if w.bits 31 28 = 1 then (i, w, lat r 0 0) :: grantEntries n (i + 2) (r.drop 1) else (i, w, 0) :: grantEntries n (i + 1) r

/-- The entries of one kind. -/
def grantsOf (l : List (Nat × W × W)) (k : Nat) : List W := (l.filter fun x => x.2.1.bits 31 28 == k).map (·.2.1)

/-- A descriptor as it stands in the image: its first word, its words, its grants, the task, and the first image words of its
code and its parameter block. -/
structure Desc where
  off : Nat
  ws : List W
  grants : List (Nat × W × W)
  task : Task
  codeOff : Nat
  parOff : Nat
deriving DecidableEq, Repr

/-- `n` words of DATA from a byte offset; zeros for 0xFFFFFFFF. -/
def dataWords (data : List W) (off : W) (n : Nat) : List W :=
  if off = 0xFFFFFFFF then List.replicate n 0 else (data.drop (off.toNat / 4)).take n

/-- The task of a descriptor (Tables 6.4 and 6.5). -/
def descTask (d : List W) (gs : List (Nat × W × W)) (code data : List W) (crc : W) : Task :=
  let w := fun (i : Nat) => lat d i 0
  let isLib := (w 0).bit 29
  let prof : Profile := match (w 0).bits 31 30 with
    | 1 => .s
    | 2 => .u
    | _ => .l
  let plen := (w 4).bits 31 16
  let pinit := dataWords data (w 6) plen
  { num := (w 0).bits 15 0
    profile := prof
    lib := if isLib then some ((w 2).bits 31 16, (w 2).bits 15 8, (w 2).bits 7 0) else none
    pin := (w 0).bit 28
    deadline := (w 1).bits 31 16
    period := (w 1).bits 15 0
    codeRef := (w 2).toNat
    code := if isLib then [] else (code.drop ((w 2).toNat / 4)).take (w 3).toNat
    paramLen := plen
    localLen := (w 4).bits 15 0
    localInit := if w 5 = 0xFFFFFFFF then [] else dataWords data (w 5) ((w 4).bits 15 0)
    paramInit := if isLib then libFill ((w 2).bits 31 16) ((w 2).bits 7 0) pinit else pinit
    banks := if prof = .l then dataWords data (w 7) 256 else []
    shBase := (w 8).toNat
    shLen := (w 9).toNat
    t0Log2 := (w 10).bits 27 24
    t1Log2 := (w 10).bits 31 28
    t0Ramp := (w 11).bits 23 0
    t1Ramp := (w 12).bits 23 0
    phaseSrc := (w 13).bits 31 28
    wcetMax := (w 13).bits 14 0
    pinPhase := (w 14).bits 23 8
    pinEngine := (w 14).bits 7 0
    chans := (grantsOf gs 0).map fun x => (x.bit 16, x.bits 7 0)
    checks := (grantsOf gs 1).map fun x => ⟨x.bits 17 16, x.bits 7 0, x.bits 11 8, x.bit 12, x.bits 15 13⟩
    mirror := (grantsOf gs 2).map fun x => x.bits 13 0
    ledgers := (grantsOf gs 3).map fun x => x.bits 5 0
    jwr := (grantsOf gs 4).map fun x => x.bits 1 0
    pgens := (grantsOf gs 5).map fun x => x.bits 2 0
    recw := (grantsOf gs 6).head?.map fun x => x.bits 7 0
    recMax := 0
    codeImg := crc
    tblrec := (grantsOf gs 7).map fun x => (x.bit 16, x.bits 15 0)
    paramAt := 0
    bankAt := 0
    w := 0 }

/-- The descriptors of a TASKS section from word `i` on; none when it is cut short. -/
def descList (ws sec code data : List W) (base codeAt dataAt : Nat) : Nat → Nat → Option (List Desc)
  | 0, _ => some []
  | n + 1, i =>
    let d := (sec.drop i).take 16
    let ll := (lat d 15 0).bits 15 0
    let g := (sec.drop (i + 16)).take ll
    if d.length < 16 || g.length < ll then none
    else
      let gs := grantEntries ll 0 g
      let t := descTask d gs code data (lat ws 3 0)
      (descList ws sec code data base codeAt dataAt n (i + 16 + ll)).map fun r =>
        ⟨base + i, d, gs, t, codeAt + (lat d 2 0).toNat / 4, dataAt + (lat d 6 0).toNat / 4⟩ :: r

/-- The descriptors of an image; none when the section is cut short. -/
def imgDescs (ws : List W) : Option (List Desc) :=
  descList ws (sectWords ws 1) (sectWords ws 2) (sectWords ws 3) (sectAt ws 1) (sectAt ws 2) (sectAt ws 3) (sectCount ws 1) 0

/-- The channel records of an image (Table 6.6). -/
def imgChans (ws : List W) : List ChanDecl :=
  let sec := sectWords ws 4
  (List.range (sectCount ws 4)).map fun i =>
    let a := lat sec (2 * i) 0
    let b := lat sec (2 * i + 1) 0
    ⟨a.bits 7 0, a.bits 31 24, a.bits 23 16, a.bits 15 8, b.bits 31 16, b.bits 15 0⟩

/-- The link records of an image (Table 6.7). -/
def imgLinks (ws : List W) : List LinkDecl :=
  let sec := sectWords ws 5
  (List.range (sectCount ws 5)).map fun i =>
    let a := lat sec (2 * i) 0
    let b := lat sec (2 * i + 1) 0
    ⟨b.bits 15 0, a.bits 31 16, a.bits 15 8, a.bits 5 3, b.bits 31 24, b.bits 23 16⟩

/-- W of a task: the firmware's figure for a library task, else that of its code (R88, R132, R177). -/
def taskFigure (t : Task) : Nat := match t.lib with
  | some (id, _, _) => (libInfo id).elim 0 (·.w)
  | none => figureW t

/-- The most user words that a path of a task pushes (R81, R170); a library task pushes none. -/
def taskRecs (t : Task) : Nat := if t.lib.isSome then 0 else (walkTask t).recs

/-- The tasks of an image in ascending number. -/
def byNum (l : List Task) : List Task := sortBy (fun a b => a.num ≤ b.num) l

/-- The image that admission checks: the image itself, or the result of applying a delta to the image in force (R154), in which a
channel record of the delta replaces that of the channel in force (R8). REMOVE lists as many tasks as its SLEN has words (log entry 63). -/
def imgResult (ws : List W) (ds : List Desc) (base : Option Image) : Image :=
  let w := fun (i : Nat) => lat ws i 0
  let delta := (w 7).bit 4
  let b := if delta then base else none
  let gone := (sectWords ws 0x0A).map fun x => x.bits 15 0
  let own := fun (typ : Nat) (old : Image → List W) => if (sectOf ws typ).isSome then sectWords ws typ else b.elim [] old
  { id := w 4
    build := w 5
    crc := w 3
    fw := (w 6).bits 31 16
    sis := (w 6).bits 15 8
    fmt := (w 1).bits 31 16
    delta := delta
    pair := (w 7).bit 3
    suReserve := (w 7).bit 2
    fenceK := (w 7).bits 1 0
    baseId := w 8
    tasks := byNum ((b.elim [] fun g => g.tasks.filter fun t => !gone.contains t.num) ++ ds.map (·.task))
    chans := (b.elim [] fun g => g.chans.filter fun c => !((imgChans ws).any (·.ch == c.ch))) ++ imgChans ws
    links := (b.elim [] (·.links)) ++ imgLinks ws
    shaft := own 6 (·.shaft)
    recorder := own 7 (·.recorder)
    exports := own 8 (·.exports)
    join := own 9 (·.join)
    remove := gone
    words := ws }

end Sys2Proof.Machine
end

