-- ==== Sys2Proof/Machine/AdmChecks.lean ====
section
/-!
DEFINITION. The checks of admission, steps 1 to 6 (Table 6.8, R132): versions, pair, code and grants, control flow, periods and
latency, each task alone, and the image-wide memory.
-/
namespace Sys2Proof.Machine

/-- A refusal (Tables 6.10 to 6.12). -/
def refuse (code stepNo : Nat) (detail : Nat := 0) (task : Nat := 0xFFFF) (eng : Nat := 0xFF) (res : Nat := 0) (req : Nat := 0)
    (av : Nat := 0) (plan : Nat := 0xFFFF) : Report where
  result := code
  stepNo := stepNo
  resource := res
  engine := eng
  task := task
  plan := plan
  detail := detail
  required := req
  available := av
  shortfall := req - av

/-- What admission has read of an image. -/
structure Cand where
  ws : List W
  sects : List Sect
  descs : Option (List Desc)
  img : Image
deriving DecidableEq, Repr

/-- Read an image (R121 to R127, R154). -/
def candOf (ws : List W) (base : Option Image) : Cand :=
  let ds := imgDescs ws
  ⟨ws, imgSects ws, ds, imgResult ws (ds.getD []) base⟩

/-- Word `i` of the image. -/
def Cand.word (k : Cand) (i : Nat) : W := lat k.ws i 0

/-- A report at an image word, for steps 1 and 3. -/
def atWord (code stepNo detail : Nat) : Option Report := some (refuse code stepNo detail)

/-- The descriptors of an image in ascending task number (R132). -/
def byTask (k : Cand) : List Desc := sortBy (fun (a b : Desc) => a.task.num ≤ b.task.num) (k.descs.getD [])

/-- Step 1: versions (Table 6.8, R63, R123, R154). BASE_ID of a full image is not read (log entry 63). -/
def checkVersions (s : State) (k : Cand) : Option Report :=
  let g := k.img
  if g.fmt / 256 ≠ 1 ∨ g.fmt % 256 > 2 then atWord 0x0B 1 1
  else if g.sis ≠ 1 ∨ g.fw > 0x0203 then atWord 0x0B 1 6
  else if g.fenceK > 2 then atWord 0x0B 1 7
  else if g.delta && (s.adm.img.map (·.id)) != some g.baseId then atWord 0x0B 1 8
  else
    match k.sects.find? fun x => x.typ = 0 || x.typ > 0x0A || x.sver != 1 with
    | some x => atWord 0x0B 1 x.dw
    | none =>
      if (dirBad k.ws g.delta).isSome then none
      else
        ((byTask k).find? fun d => match d.task.lib with
          | some (id, maj, min) => (libInfo id).isNone || maj != 1 || min > 3
          | none => false).bind fun d => some (refuse 0x0B 1 (d.off + 2) d.task.num)

/-- The version by which a link is judged (R92, R128, R142): negotiated, or MIN_VER for a link that is not UP. -/
def judgedVer (s : State) (d : LinkDecl) : Nat := if (s.lk d.link).st = .up then (s.lk d.link).version else d.minVer

/-- The version of the link of channel `n`; 3 where the image has no record of it. -/
def chanVer (s : State) (g : Image) (n : Nat) : Nat := (g.links.find? (·.link == linkOf n)).elim 3 (judgedVer s)

/-- Step 2: the pair (Table 6.8, R14, R16). A device has a partner while the pair is formed; whether the partner holds an image that is
not the one it has in force is a free value (log entry 64). -/
def checkPair (s : State) (k : Cand) : Option Report :=
  let g := k.img
  let hs := s.prl.role = .solo || g.chans.all fun c => c.hold ≥ 8
  let formed := !pairFormed s || (g.pair && (g.links.all fun d => d.minVer = 3 &&
    ((s.lk d.link).st != .up || helloDual (s.lk d.link).hello)) && (s.prl.pimage.2 == g.crc || s.prl.pheld))
  if hs && formed then none else some (refuse 0x0C 2)

/-! Step 3. -/

/-- Engines of a profile's kind (R35). -/
def kindCount : Profile → Nat
  | .l => 48
  | _ => 4

/-- A run of DATA words that lies in the section. -/
def inData (data : List W) (off : W) (n : Nat) : Bool := off.toNat % 4 == 0 && off.toNat / 4 + n ≤ data.length

/-- The grants that a profile can use (R125). -/
def grantUsable (p : Profile) (w : W) : Bool :=
  match w.bits 31 28 with
  | 0 => p == .l || !w.bit 16
  | 1 | 2 | 7 => p != .s
  | 3 | 4 | 5 => p == .u
  | 6 => true
  | _ => false

/-- One grant is right (R8, R78, R112, R124, R125, R479; no record has ID 0xFFFF). -/
def grantOk (g : Image) (t : Task) (w : W) : Bool :=
  grantUsable t.profile w &&
  (match w.bits 31 28 with
   | 0 => g.chans.any (·.ch == w.bits 7 0)
   | 1 => (g.chans.any (·.ch == w.bits 7 0)) && w.bits 11 8 != 0
   | 2 => w.bits 13 0 < t.localLen
   | 4 => w.bits 1 0 ≤ 2
   | 7 => w.bits 15 0 != 0xFFFF && (if w.bit 16 then t.t1Log2 else t.t0Log2) != 0 && 1 ≤ t.phaseSrc && t.phaseSrc ≤ 4 &&
          (lat g.shaft (t.phaseSrc - 1) 0).bit 14
   | _ => true)

/-- The fixed part of a descriptor is right (Table 6.4): the offending word of it. A field that Table 6.4 gives as 0 is refused where
it is not (log entry 63). -/
def fixedBad (d : Desc) (codeLen : Nat) (data : List W) : Option Nat :=
  let t := d.task
  let w := fun (i : Nat) => lat d.ws i 0
  let lg := fun (n : Nat) => n = 0 || (4 ≤ n && n ≤ 12)
  if (w 0).bits 31 30 = 3 ∨ t.num = 0xFFFF then some 0
  else if t.lib.isNone && ((w 2).toNat % 4 ≠ 0 || (w 2).toNat / 4 + (w 3).toNat > codeLen) then some 2
  else if t.lib.isSome ∧ w 3 ≠ 0 then some 3
  else if t.paramLen ≠ t.lib.elim 64 (fun x => (libInfo x.1).elim 0 (·.len)) ∨ t.localLen = 0 ∨ t.localLen > 16384 then some 4
  else if w 5 ≠ 0xFFFFFFFF ∧ !inData data (w 5) t.localLen then some 5
  else if (w 6 = 0xFFFFFFFF && t.lib.isSome) || (w 6 ≠ 0xFFFFFFFF && !inData data (w 6) t.paramLen) then some 6
  else if (if t.profile = .l then !inData data (w 7) 256 else w 7 ≠ 0) then some 7
  else if t.shLen > 65536 ∨ t.shBase + t.shLen > 1048576 then some 8
  else if (t.profile != .l && t.deadline ≠ 0) || (t.profile = .s && t.period ≠ 0) then some 1
  else if !lg t.t0Log2 || !lg t.t1Log2 || (t.profile = .s && w 10 ≠ 0) then some 10
  else if t.profile = .s && w 11 ≠ 0 then some 11
  else if t.profile = .s && w 12 ≠ 0 then some 12
  else if (4 < t.phaseSrc && t.phaseSrc < 8) || (w 13).bits 27 24 ≠ t.chans.length || t.chans.length > 8 ||
      (w 13).bits 23 20 ≠ t.checks.length || t.checks.length > 4 || (w 13).bits 19 15 ≠ t.mirror.length || t.mirror.length > 23
    then some 13
  else none

/-- The first offending grant of a descriptor, as a position in its list; a channel is granted once (R94). -/
def grantBad (g : Image) (d : Desc) : Option Nat :=
  let dup := fun (i : Nat) (w : W) => d.grants.any fun x => x.1 < i && x.2.1.bits 31 28 == w.bits 31 28 &&
    (match w.bits 31 28 with
     | 0 => x.2.1.bits 7 0 == w.bits 7 0
     | 1 => x.2.1.bits 17 16 == w.bits 17 16
     | 6 => true
     | 7 => x.2.1.bit 16 == w.bit 16
     | _ => false)
  (d.grants.find? fun x => !grantOk g d.task x.2.1 || dup x.1 x.2.1).map (·.1)

/-- The first word of a code section that R55 refuses. -/
def codeBad (t : Task) : Option Nat :=
  t.pcs.find? fun pc => !(insnOk t.profile.prof (codeInsn t pc) && grantsOk t pc (codeInsn t pc))

/-- The first word of a sequence block that R156 or R157 refuses. A SUP_GRANT of 0 names no channel while SUP_USED is 0 (log entry
63). -/
def seqBlockBad (t : Task) : Option Nat :=
  let w := fun (i : Nat) => lat t.paramInit i 0
  let sf := fun (i lo : Nat) => ((w i).extractLsb' lo 16).toInt
  let pcs := t.pcs
  let rail := fun (i : Nat) =>
    let b := 16 + 4 * i
    if (w b).bits 15 12 = 0 then some b
    else if !(sf (b + 2) 0 ≤ sf (b + 1) 0 && sf (b + 1) 0 ≤ sf (b + 1) 16 && sf (b + 1) 16 ≤ sf (b + 2) 16) then some (b + 1)
    else if w (b + 3) ≠ 0xFFFFFFFF ∧ (w (b + 3)).toNat ≥ 1048576 then some (b + 3)
    else none
  if !pcs.contains ((w 2).bits 15 0) || !pcs.contains ((w 2).bits 31 16) then some 2
  else if !pcs.contains ((w 3).bits 15 0) then some 3
  else if (w 4).bits 30 28 ≥ t.chans.length && ((w 4).bit 31 || (w 4).bits 30 28 ≠ 0) then some 4
  else (List.range t.chans.length).findSome? rail <|>
    (List.range 32).findSome? fun i => if 4 * t.chans.length ≤ i && w (16 + i) ≠ 0 then some (16 + i) else none

/-- A template's binding (R65): one OWNED channel of the role shown, with its ledger or tie port; a supervisory task's members
are channels of their roles, an Estimate instance's ledger is bound. -/
def bindingOk (g : Image) (t : Task) : Bool :=
  let one := fun (role : Nat) (res : Bool) => match t.chans with
    | [(true, n)] => (lat t.paramInit 2 0).bits 15 0 == n && (g.chans.any fun c => c.ch == n && c.role == role && (!res || c.bound != 0xFF))
    | _ => false
  match libId t with
  | 0x0101 => one 0 false
  | 0x0102 => one 1 true
  | 0x0103 => one 3 false
  | 0x0104 => one 4 true
  | 0x0205 => g.chans.any fun c => c.role == 1 && c.bound == (lat t.paramInit 2 0).bits 15 0
  | id => (libLists id).all fun l => (listChans t l).all fun n => g.chans.any fun c => c.ch == n && c.role == l.2.2

/-- The first word of a library task's block that R64, R65 or R254 refuses. -/
def libBad (g : Image) (t : Task) : Option Nat :=
  match t.lib with
  | none => none
  | some (id, _, _) =>
    let w := fun (i : Nat) => lat t.paramInit i 0
    if (w 0).bits 31 16 ≠ id then some 0
    else if (w 1).bits 15 0 ≠ t.paramLen then some 1
    else if !bindingOk g t then some 2
    else
      match (libWordsSpec id).find? fun x => !x.rng.ok (w x.word) with
      | some x => some x.word
      | none => if libRelOk id t.paramInit then none else some 4

/-- Everything that one descriptor shows for itself, as an offending image word. -/
def descBad (g : Image) (codeLen : Nat) (data : List W) (d : Desc) : Option Nat :=
  let t := d.task
  (fixedBad d codeLen data).map (d.off + ·) <|> (grantBad g d).map (d.off + 16 + ·) <|>
  (if t.lib.any (fun x => (libInfo x.1).any fun i => i.prof != t.profile) then some d.off else none) <|>
  (codeBad t).map (d.codeOff + ·) <|>
  (if t.profile = .s && t.lib.isNone then (seqBlockBad t).map (d.parOff + ·) else none) <|>
  (libBad g t).map (d.parOff + ·)

/-- A channel record on its own and against those before it (R126, R127, R12, R196, R306). A BATT channel without a ledger, BOUND 0xFF,
is accepted where no library template owns it (log entry 63). -/
def chanBad (s : State) (g : Image) (i : Nat) (c : ChanDecl) : Bool :=
  let before := g.chans.take i
  let link := g.links.find? (·.link == linkOf c.ch)
  let lk := s.lk (linkOf c.ch)
  let offered := if lk.st = .up then slotOf c.ch < helloNch lk.hello else link.all fun d => d.slots.testBit (slotOf c.ch)
  let ver := chanVer s g c.ch
  c.ch > 191 || c.role > 5 || before.any (·.ch == c.ch) || c.hold = 0 || c.hold > 64 || c.armSamples = 0 ||
  (c.bound != 0xFF && (before.any (fun x => x.role == c.role && x.bound == c.bound) ||
    !((c.role == 1 && c.bound ≤ 63) || (c.role == 4 && c.bound ≤ 7)))) ||
  link.isNone || !offered || (ver = 1 && (c.hold < 2 || c.role == 4 || slotOf c.ch != 0)) ||
  (c.role == 4 && !(g.tasks.any fun t => libId t == libTie && t.chans.any fun x => x.1 && x.2 == c.ch))

/-- A link record on its own and against those before it (R127, R128). -/
def linkBad (s : State) (g : Image) (i : Nat) (d : LinkDecl) : Bool :=
  let x := s.lk d.link
  d.link > 63 || d.minVer = 0 || d.minVer > 3 || (g.links.take i).any (·.link == d.link) ||
  (x.st = .up && ((d.mtype != 0 && d.mtype != (lat x.hello 1 0).bits 15 0) || x.version < d.minVer ||
    (List.range 3).any fun k => d.slots.testBit k && helloNch x.hello ≤ k))

/-- A SHAFT word that R479 refuses. -/
def shaftBad (i : Nat) (w : W) : Bool :=
  if w.bit 31 then w.bits 12 0 = 0 || w.bits 12 0 > 4096 || (i % 2 = 1 && w.bit 14) else w != 0

/-- The first number for which `f` holds. -/
def firstIdx (n : Nat) (f : Nat → Bool) : Option Nat := (List.range n).find? f

/-- The tasks that the image in force keeps under a delta (R154). -/
def Cand.kept (k : Cand) : List Task := k.img.tasks.filter fun t => (k.descs.getD []).all fun d => d.task.num != t.num

/-- What a new task shows beside the others (R94, R62, R157, R254, R255), those in force and the new ones of lower number: the offending image
word. -/
def crossBad (k : Cand) (d : Desc) : Option Nat :=
  let g := k.img
  let t := d.task
  let kept := k.kept.map (·.num)
  let others := g.tasks.filter fun u => u.num != t.num && (u.num < t.num || kept.contains u.num)
  let grant := fun (bad : W → Bool) => (d.grants.find? fun x => bad x.2.1).map fun x => d.off + 16 + x.1
  grant (fun w => w.bits 31 28 = 0 && w.bit 16 && others.any fun u => u.chans.any fun x => x.1 && x.2 == w.bits 7 0) <|>
  grant (fun w => w.bits 31 28 = 5 && others.any fun u => u.pgens.contains (w.bits 2 0)) <|>
  grant (fun w => w.bits 31 28 = 0 && t.profile = .s && others.any fun u => u.profile == .s && u.chans.any fun x => x.2 == w.bits 7 0) <|>
  (if t.lib.isSome && (others.any fun u => libId u == libId t &&
      ((memberChans t).any (memberChans u).contains || (libId t == libCharge && (revPort t).isSome && revPort t == revPort u) ||
       (libId t == libEst && lat t.paramInit 2 0 == lat u.paramInit 2 0)))
   then some d.off else none) <|>
  (if others.any fun u => vsetBad t u t.paramInit u.paramInit then some (d.parOff + 4) else none)

/-- A task in force that the result of a delta no longer suits (R65, R112, R154, R479): its SHAFT source unused, a recorded table
without an index, a template's channel of another role. -/
def keptBad (g : Image) (t : Task) : Bool :=
  let sh := lat g.shaft (t.phaseSrc - 1) 0
  (1 ≤ t.phaseSrc && t.phaseSrc ≤ 4 && (!sh.bit 31 || (!t.tblrec.isEmpty && !sh.bit 14))) || (t.lib.isSome && !bindingOk g t)

/-- A capture entry on the link of a module with CAP = 0 (R237), judged while the link is UP: its word in the section. -/
def captureBad (s : State) (k : Cand) : Option Nat :=
  let sect := k.img.recorder
  (firstIdx ((lat sect 18 0).bits 23 16) fun i =>
    let l := (lat sect (19 + i) 0).bits 21 16
    (s.lk l).st == .up && !helloCap (s.lk l).hello).map (19 + ·)

/-- Step 3, code and grants (Table 6.8): what the directory, the sections and the descriptors show, in this order. -/
def checkCode (s : State) (k : Cand) : Option Report :=
  let g := k.img
  let bad := atWord 0x01 3
  let lack := fun (typ : Nat) => !g.delta && (sectOf k.ws typ).isNone
  let cut := fun (typ n : Nat) => (sectOf k.ws typ).any fun x => 4 * n > x.len
  let inForce := fun (n : Nat) => (s.adm.img.elim [] (·.tasks)).any (·.num == n)
  let nOld := g.chans.length - (imgChans k.ws).length
  let lOld := g.links.length - (imgLinks k.ws).length
    let shafts := sectWords k.ws 6
  match dirBad k.ws g.delta with
  | some d => bad d
  | none =>
    if lack 1 || lack 4 || lack 5 then bad 1
    else if k.descs.isNone then bad ((sectOf k.ws 1).elim 0 (·.dw))
    else if cut 4 (2 * sectCount k.ws 4) || cut 5 (2 * sectCount k.ws 5) then bad ((sectOf k.ws 4).elim 0 (·.dw))
    else if g.delta && ((sectOf k.ws 7).isSome || (sectOf k.ws 8).isSome) then
      bad (((sectOf k.ws 7) <|> (sectOf k.ws 8)).elim 0 (·.dw))
    else
      ((firstIdx g.remove.length fun i => !inForce (lat g.remove i 0)).bind fun i => bad (sectAt k.ws 0x0A + i)) <|>
      ((firstIdx (imgLinks k.ws).length fun i => (g.links[lOld + i]?).any (linkBad s g (lOld + i))).bind fun i => bad (sectAt k.ws 5 + 2 * i)) <|>
      ((firstIdx (imgChans k.ws).length fun i => (g.chans[nOld + i]?).any (chanBad s g (nOld + i))).bind fun i => bad (sectAt k.ws 4 + 2 * i)) <|>
      ((firstIdx shafts.length fun i => shaftBad i (lat shafts i 0)).bind fun i => bad (sectAt k.ws 6 + i)) <|>
      ((k.kept.find? (keptBad g)).bind fun t => some (refuse 0x01 3 0 t.num)) <|>
      ((byTask k).findSome? fun d =>
        if (g.tasks.filter (·.num == d.task.num)).length > 1 then some (refuse 0x01 3 d.off d.task.num)
        else if 1 ≤ d.task.phaseSrc && d.task.phaseSrc ≤ 4 && !(lat g.shaft (d.task.phaseSrc - 1) 0).bit 31 then
          some (refuse 0x01 3 (d.off + 13) d.task.num)
        else (descBad g (sectWords k.ws 2).length (sectWords k.ws 3) d <|> crossBad k d).map fun x => refuse 0x01 3 x d.task.num) <|>
      ((captureBad s k).bind fun i => bad (sectAt k.ws 7 + i))

/-- Step 3, control flow (R83, R172): the first task that breaks a limit, at the word that breaks it; at the section's first word
where only a path through the section does. -/
def checkFlow (k : Cand) : Option Report :=
  ((byTask k).find? fun d => d.task.lib.isNone && !flowLegal d.task).map
    fun d => refuse 0x02 3 (d.codeOff + (flowBadWord d.task).getD 0) d.task.num

/-! Steps 4 to 6, on the tasks with their figures. -/

/-- A loop task on a link that runs or is judged at version 1 (R196). -/
def onV1 (s : State) (g : Image) (t : Task) : Bool := t.profile == .l && t.chans.any fun x => chanVer s g x.2 == 1

/-- Sample-to-apply time of an OWNED channel above its limit, on a link that is UP (Table 6.8 step 4): time and limit in ns. -/
def latBad (s : State) (g : Image) (t : Task) : Option (Nat × Nat) :=
  t.chans.findSome? fun x =>
    let l := s.lk (linkOf x.2)
    (g.chans.find? (·.ch == x.2)).bind fun c =>
      let time := (1 + t.deadline) * 500 + helloAOff l.hello - helloSOff l.hello
      if x.1 && t.profile == .l && l.st == .up && c.maxLat != 0 && time > c.maxLat then some (time, c.maxLat) else none

/-- The periods of a task (Table 6.8 step 4, R34, R65, R92, R196). -/
def periodOk (s : State) (g : Image) (t : Task) : Bool :=
  (match t.profile with
   | .l => t.period ≥ 1 && 2000 % t.period == 0 && 1 ≤ t.deadline && t.deadline ≤ t.period
   | .u => t.period ≤ 1000
   | .s => true) &&
  (t.lib.all fun x => (libInfo x.1).any fun i => i.pmin ≤ t.period && t.period ≤ i.pmax) &&
  (!onV1 s g t || (t.period % 2 == 0 && t.deadline % 2 == 1))

/-- Step 4. -/
def checkPeriods (s : State) (g : Image) : Option Report :=
  g.tasks.findSome? fun t =>
    if !periodOk s g t then some (refuse 0x0D 4 0 t.num)
    else (latBad s g t).map fun x => refuse 0x0D 4 0 t.num 0xFF 0x0C x.1 x.2

/-- Step 5: each task alone (Table 6.8). -/
def checkAlone (g : Image) : Option Report :=
  g.tasks.findSome? fun t =>
    let cost := 6 + t.w
    let lim := match t.profile with
      | .l => 600 * t.deadline
      | .u => 60000
      | .s => 6000
    let res := if t.profile = .l then 0x02 else 0x07
    if cost > lim then some (refuse 0x03 5 0 t.num 0xFF res cost lim)
    else if t.wcetMax ≠ 0 ∧ cost > t.wcetMax then some (refuse 0x03 5 0 t.num 0xFF res cost t.wcetMax)
    else none

/-- Words of the union of the SHARED windows (R133). -/
def unionWords (l : List (Nat × Nat)) : Nat :=
  ((sortBy (fun (a b : Nat × Nat) => a.1 ≤ b.1) l).foldl (fun (acc : Nat × Nat) x =>
    let a := max acc.1 x.1
    let e := x.1 + x.2
    (max acc.1 e, acc.2 + (e - a))) (0, 0)).2

/-- Shared task memory that the image needs, in words (R133). -/
def sharedNeed (g : Image) : Nat :=
  sumNat (g.tasks.map fun t => t.paramLen + (if t.profile = .l then 256 + t.localLen else 0)) +
  unionWords (g.tasks.map fun t => (t.shBase, t.shLen))

/-- Words of shared task memory that images may use (R133). -/
def sharedTop : Nat := 1015808

/-- Step 6: image-wide memory (R9, R133). -/
def checkMem (g : Image) : Option Report :=
  let n := fun (r : Nat) => (g.chans.filter (·.role == r)).length
  let need := sharedNeed g
  if n 1 > 64 then some (refuse 0x0A 6 (req := n 1) (av := 64))
  else if n 4 > 8 then some (refuse 0x0A 6 (req := n 4) (av := 8))
  else if need > sharedTop then some (refuse 0x0A 6 0 0xFFFF 0xFF 0x06 need sharedTop)
  else none

end Sys2Proof.Machine
end

