-- ==== Sys2Proof/Machine/Admit.lean ====
section
/-!
DEFINITION. Admission, steps 7 to 12, and its report (R132 to R153, R246, R349, R481, R482).
-/
namespace Sys2Proof.Machine

/-- The highest free run of `n` words of shared task memory below what the device keeps (log entry 36). -/
def allocTop (used : List (Nat × Nat)) (n : Nat) : Nat :=
  let free := fun (e : Nat) => n ≤ e && used.all fun u => e ≤ u.1 || u.1 + u.2 ≤ e - n
  (((sharedTop :: used.map (·.1)).filter free).foldl max n) - n

/-- The blocks that tasks hold in shared task memory: PARAM and, for L, both banks. -/
def blocksOf (l : List Task) : List (Nat × Nat) :=
  l.flatMap fun t => (t.paramAt, t.paramLen) :: (if t.profile = .l then [(t.bankAt, 256)] else [])

/-- Give each new task its figure and its blocks, in ascending number; the others keep theirs. -/
def fitTasks (isNew : Task → Bool) : List Task → List (Nat × Nat) → List Task
  | [], _ => []
  | t :: r, used =>
    if isNew t then
      let p := allocTop used t.paramLen
      let used1 := (p, t.paramLen) :: used
      let b := if t.profile = .l then allocTop used1 256 else 0
      { t with w := taskFigure t, recMax := taskRecs t, paramAt := p, bankAt := b } ::
        fitTasks isNew r (if t.profile = .l then (b, 256) :: used1 else used1)
    else t :: fitTasks isNew r used

/-- The image with its tasks' figures and places in shared task memory. -/
def fitImage (k : Cand) : Image :=
  let isNew := fun (t : Task) => (k.descs.getD []).any fun d => d.task.num == t.num
  { k.img with tasks := fitTasks isNew k.img.tasks (blocksOf (k.img.tasks.filter fun t => !isNew t)) }

/-- The tasks as placement sees them: an even sample phase on version 1 (R196). -/
def imagePts (s : State) (g : Image) : List PT := g.tasks.map fun t => { ptOf t with even := onV1 s g t }

/-- Step 7: placement around the places kept (R137 to R141, R154, R482). -/
def checkPlace (pts : List PT) (keep : List Place) : Except Report (List Place) :=
  match placeAll pts (fun _ => true) (placeOrder (pts.filter fun x => keep.all fun q => q.task != x.num)) keep with
  | .ok pl => .ok pl
  | .error f => .error (refuse f.code 7 0 f.task f.eng f.fail.res f.fail.req f.fail.av)

/-- Step 8: link service (R142). -/
def checkLinks (s : State) (g : Image) : Option Report :=
  g.links.findSome? fun d =>
    let (o, i, r) := svcCapacity (judgedVer s d)
    let inb := d.svcIn + r + capOnLink g.recorder d.link
    let out := d.svcOut + r
    if inb > i then some (refuse 0x06 8 (res := 0x08) (req := inb) (av := i))
    else if out > o then some (refuse 0x06 8 (res := 0x08) (req := out) (av := o))
    else none

/-- Bytes of user notes that the releases of tick `r` of an epoch may push (R239). -/
def userBytes (pts : List PT) (g : Image) (pl : List Place) (r : Nat) : Nat :=
  sumNat (g.tasks.map fun t =>
    match t.recw, pts.find? (·.num == t.num), pl.find? (·.task == t.num) with
    | some n, some x, some q =>
      let due := match t.profile with
        | .l => dueAt x q.phase r
        | .u => if t.period = 0 then r % 200 == 0 else r == 200 * q.phase
        | .s => r % 20 == 0
      if due then 16 * n else 0
    | _, _, _ => 0)

/-- The most user note bytes in 64 consecutive ticks of the schedule (R239). -/
def userPeak (pts : List PT) (g : Image) (pl : List Place) : Nat :=
  let l := (List.range 2000).map (userBytes pts g pl)
  (List.range 2000).foldl (fun m i => max m (sumNat (((l ++ l.take 64).drop i).take 64))) 0

/-- Blocks of a tier (Table 10.1). -/
def tierLen (t : Nat) : Nat := if t = 0 then 128 else 64

/-- Step 9: the recorder (R81, R143, R246). A path that pushes more user words than RECW is refused here (log entry 63). -/
def checkRec (s : State) (pts : List PT) (g : Image) (pl : List Place) : Option Report :=
  let b : Bbr := { s.bbr with sect := g.recorder }
  let bad := fun (req av : Nat) => some (refuse 0x07 9 (res := 0x09) (req := req) (av := av))
  let need := fun (t : Nat) =>
    sumNat ((sectTrigs g.recorder).map fun x => trigBlocks b { Trig.init with words := x.2 } t) +
    ((b.tier t).blks.filter fun k => k.orph != 0).length + 8
  let trigs := (lat g.recorder 18 0).bits 31 24
  (if trigs > 32 then bad trigs 32 else none) <|>
  (g.tasks.findSome? fun t =>
    let n := t.recw.getD 0
    if t.recMax > n then some (refuse 0x07 9 0 t.num 0xFF 0x09 (16 * t.recMax) (16 * n)) else none) <|>
  ((List.range 3).find? fun t => need t > tierLen t).bind (fun t => bad (65536 * need t) (65536 * tierLen t)) <|>
  (if rowBytes b 0 > 2048 then bad (rowBytes b 0) 2048 else none) <|>
  (let u := userPeak pts g pl
   if u > 4096 then bad u 4096 else none)

/-- Host write budget of the trained host link in kB/s (Table 6.9); none while the link is down. -/
def hostBudget (s : State) : Option Nat :=
  let one := if s.kio.pcieSpeed = 2 then 725000 else if s.kio.pcieSpeed = 1 then 375000 else 187000
  match s.kio.pcieLanes with
  | 1 => some one
  | 2 => some (if s.kio.pcieSpeed = 0 then 375000 else 2 * one)
  | 4 => some (if s.kio.pcieSpeed = 0 then 750000 else 4 * one)
  | _ => none

/-- A stream of an EXPORT section: TIERS, number, RATE in kB/s (R245). -/
def exportStreams (sect : List W) : List (Nat × Nat × Nat) :=
  (List.range ((lat sect 0 0).bits 2 0)).map fun i =>
    let w := lat sect (1 + 2 * i) 0
    (w.bits 31 28, w.bits 1 0, (lat sect (2 + 2 * i) 0).toNat)

/-- Classes of the 256 internal sources (Table 18.1). -/
def internalClasses : Nat := 300

/-- Step 10: the host write path (R144, R246). A host link that is not trained sets no budget (log entry 37). -/
def checkExport (s : State) (g : Image) : Option Report :=
  let b : Bbr := { s.bbr with sect := g.recorder }
  let st := exportStreams g.exports
  let need := sumNat (st.map (·.2.2)) + 64000 + 3200 + 320 * (8 * g.chans.length + internalClasses)
  let slow := fun (x : Nat × Nat × Nat) => x.1.testBit 2 && x.2.2 * 1000 * (256 * rowsPer b 2) < 65536 * 2000000
  match hostBudget s with
  | some av => if need > av then some (refuse 0x08 10 (res := 0x0A) (req := need) (av := av)) else carafe b st slow
  | none => carafe b st slow
where
  /-- A stream that carries carafe too slowly (R246). -/
  carafe (b : Bbr) (st : List (Nat × Nat × Nat)) (slow : Nat × Nat × Nat → Bool) : Option Report :=
    (st.find? slow).map fun x => refuse 0x08 10 (res := 0x0A) (req := ceilDiv (65536 * 2000000) (256000 * rowsPer b 2)) (av := x.2.2)

/-- The tasks that write own slot word `k` (R145, R267, R270). -/
def slotWriters (g : Image) (k : Nat) : List Nat :=
  (g.tasks.filter fun t => t.jwr.contains k ||
    (libId t == libShare && (lat t.paramInit 20 0).bit 7 && (lat t.paramInit 20 0).bits 1 0 == k) ||
    (libId t == libCap && (lat t.paramInit 41 0).bit 7 && (lat t.paramInit 41 0).bits 1 0 == k)).map (·.num)

/-- ACYC of a JOIN section (Table 16.7). -/
def acycOf (g : Image) : Nat := (lat g.join 0 0).bits 9 0

/-- The image sends on the join bus (R349). -/
def sendsJoin (g : Image) : Bool :=
  let charge := g.tasks.any fun t => libId t == libCharge
  g.tasks.any fun t =>
    (t.profile == .s && (t.pcs.any (fun pc => (codeInsn t pc).op == 0x79) || (lat t.paramInit 3 0).bit 30)) ||
    (!charge && ((libId t == libShare && (lat t.paramInit 20 0).bit 7) || (libId t == libCap && (lat t.paramInit 41 0).bit 7)))

/-- Step 11: join slots, as far as the image shows it (R145, R349). -/
def checkJoin (g : Image) : Option Report :=
  let bad := fun (t : Nat) => some (refuse 0x09 11 0 t 0xFF 0x0B)
  ((List.range 3).findSome? fun k =>
    let ws := slotWriters g k
    if ws.length > 1 then bad (lat ws 1 0)
    else if !g.join.isEmpty && (lat g.join (1 + k) 0).bits 15 0 != ws.head?.getD 0xFFFF then bad (ws.head?.getD 0xFFFF)
    else none) <|>
  (if sendsJoin g && acycOf g = 0 then bad 0xFFFF else none)

/-! Step 12. -/

/-- The refusal of a fallback plan (R482): `plan` is its PLAN field, `a` the engine it loses. -/
def planRefuse (plan a : Nat) (f : PlaceFail) : Report :=
  refuse 0x05 12 0 f.task (if f.eng = 0xFF then a else f.eng) f.fail.res f.fail.req f.fail.av plan

/-- A fallback plan: the engines it loses, its PLAN field and its places. -/
abbrev FallPlan : Type := List Nat × Nat × List Place

/-- A plan built, or its refusal. -/
def planBuilt (gone : List Nat) (plan a : Nat) (r : Except PlaceFail (List Place)) : Except Report FallPlan :=
  match r with
  | .ok p => .ok (gone, plan, p)
  | .error f => .error (planRefuse plan a f)

/-- Every fallback plan that the reserve asks for (R146, R152), or the first that is not feasible. -/
def allPlans (pts : List PT) (g : Image) (pl : List Place) : Except Report (List FallPlan) :=
  let ptL := pts.filter (·.prof == .l)
  let nom := pl.filter (·.eng < 48)
  let one : Except Report (List FallPlan) :=
    if g.fenceK = 0 then .ok []
    else (List.range 48).mapM fun a => planBuilt [a] (0xFF00 + a) a (planLose ptL (fun _ => false) nom a)
  let second : FallPlan → Except Report (List FallPlan) := fun (l, _, p) =>
    let a := lat l 0 0
    ((List.range 48).filter (· != a)).mapM fun b => planBuilt [a, b] (256 * b + a) b (planLose ptL (fun e => e == a) p b)
  let su : Except Report (List FallPlan) :=
    if g.suReserve then ((List.range 4).map (0x40 + ·) ++ (List.range 4).map (0x48 + ·)).mapM fun e =>
      planBuilt [e] (0xFF00 + e) e (planSU pts (pl.filter (48 ≤ ·.eng)) e)
    else .ok []
  match one with
  | .error r => .error r
  | .ok l1 =>
    let two : Except Report (List (List FallPlan)) := if g.fenceK < 2 then .ok [] else l1.mapM second
    match two, su with
    | .error r, _ => .error r
    | .ok _, .error r => .error r
    | .ok l2, .ok l3 => .ok (l1 ++ l2.flatten ++ l3)

/-- A plan may run a task on an engine (R151): it is placed there, or a relay of the plan, which passes every survivor. -/
def planRuns (p : FallPlan) (num e : Nat) : Bool :=
  !p.1.contains e && p.2.2.any fun q => q.task == num && (q.eng == e || (q.relay && e < 48))

/-- The loop tasks that the nominal plan or some fallback plan runs on an engine (R151). -/
def preloads (pts : List PT) (nominal : List Place) (plans : List FallPlan) (e : Nat) : List PT :=
  pts.filter fun x => x.prof == .l && (([], 0xFFFF, nominal) :: plans).any fun p => planRuns p x.num e

/-- The memory tests of R138 with the preloads added (R151), and the engine that R482 ranks first. -/
def preloadFail (pts : List PT) (nominal : List Place) (plans : List FallPlan) : Option Report :=
  let fails := (List.range 48).map fun e =>
    let ts := preloads pts nominal plans e
    (e, needTest 1 0x04 (codeWords ts) 0 4096 0xFFFF ++ needTest 2 0x05 (sumNat (ts.map (·.dw))) 0 17920 0xFFFF)
  if fails.all (·.2.isEmpty) then none
  else some (planRefuse 0xFFFF 0xFF (placeRefuse false 0xFFFF fails))

/-- Step 12: the fence reserve (R146 to R152): the plans. -/
def checkFence (pts : List PT) (g : Image) (pl : List Place) : Except Report (List FallPlan) :=
  (allPlans pts g pl).bind fun plans =>
    match preloadFail pts pl plans with
    | some r => .error r
    | none => .ok plans

/-- ACCEPT; PLANS stands in `detail` until the report is written. -/
def accept (plans : Nat) : Report where
  result := 0
  stepNo := 0
  resource := 0
  engine := 0xFF
  task := 0xFFFF
  plan := 0xFFFF
  detail := plans
  required := 0
  available := 0
  shortfall := 0

/-- Admission around the places kept (Table 6.8, R132), with the image laid out as `g` and `more` data words counted for a
task: the result, the image with its figures, the placement. -/
def admissionWith (g : Image) (more : Nat → Nat) (s : State) (k : Cand) (keep : List Place) : Report × Image × List Place :=
  match checkVersions s k <|> checkPair s k <|> checkCode s k <|> checkFlow k with
  | some r => (r, k.img, [])
  | none =>
    match checkPeriods s g <|> checkAlone g <|> checkMem g with
    | some r => (r, g, [])
    | none =>
      let pts := (imagePts s g).map fun x => { x with dw := x.dw + more x.num }
      match checkPlace pts keep with
      | .error r => (r, g, [])
      | .ok pl =>
        match checkLinks s g <|> checkRec s pts g pl <|> checkExport s g <|> checkJoin g with
        | some r => (r, g, pl)
        | none => match checkFence pts g pl with
          | .error r => (r, g, pl)
          | .ok ps => (accept ps.length, g, pl)

/-- Admission of an image (Table 6.8, R132). -/
def admissionOf (s : State) (k : Cand) (keep : List Place) : Report × Image × List Place :=
  admissionWith (fitImage k) (fun _ => 0) s k keep

/-- The places that tasks in force keep under a delta (R154). -/
def keepPlaces (s : State) (k : Cand) : List Place :=
  if k.img.delta then s.adm.nominal.filter fun q =>
    k.img.tasks.any (·.num == q.task) && !((k.descs.getD []).any fun d => d.task.num == q.task)
  else []

/-! The report (Table 6.12). -/

/-- Cycles per epoch of a task. -/
def taskEpoch (t : Task) : Nat :=
  let c := 6 + t.w
  match t.profile with
  | .l => c * 2000 / t.period
  | .u => if t.period = 0 then 10 * c else c
  | .s => 100 * c

/-- Cycles per epoch of each loop engine under a placement. -/
def engineLoads (g : Image) (pl : List Place) : List Nat :=
  (List.range 48).map fun e => sumNat ((pl.filter (·.eng == e)).filterMap fun q => (g.task? q.task).map taskEpoch)

/-- The busiest loop engine, lowest number first, and its cycles per epoch. -/
def busiest (l : List Nat) : Nat × Nat :=
  (List.range l.length).foldl (fun (b : Nat × Nat) i => if lat l i 0 > b.2 then (i, lat l i 0) else b) (0, lat l 0 0)

/-- A task record of the report. -/
def taskRecord (g : Image) (q : Place) : List W :=
  match g.task? q.task with
  | none => []
  | some t =>
    [flag t.pin 30 ||| flag t.lib.isSome 29 ||| flag (relayEligible t) 28 ||| fld (q.ctx - (ctxBase q.eng).1) 24 ||| fld q.eng 16 |||
       fld t.num 0, nw q.phase, nw t.w, nw (taskEpoch t)]

/-- The words of a report; `us` is ELAPSED and `epoch` ACT_EPOCH. Words 8 to 12 and the task records are those of an ACCEPT (R153). -/
def reportWords (r : Report) (g : Image) (pl : List Place) (us epoch : Nat) : List W :=
  let ok := r.result == 0
  let loads := engineLoads g pl
  let b := busiest loads
  [fld r.result 24 ||| fld r.stepNo 16 ||| fld r.resource 8 ||| fld 1 0, fld r.engine 16 ||| fld r.task 0, nw r.plan,
   if ok then 0 else nw r.detail, nw r.required, nw r.available, nw r.shortfall, nw us] ++
  (if ok then
    [nw epoch, fld r.detail 16 ||| fld pl.length 0, nw (sumNat loads), fld b.1 8 ||| fld (loads.filter (· != 0)).length 0, nw b.2]
   else [0, 0, 0, 0, 0]) ++ [0, 0, 0] ++
  (if ok then (sortBy (fun (a b : Place) => a.task ≤ b.task) pl).flatMap (taskRecord g) else [])

end Sys2Proof.Machine
end

