-- ==== Sys2Proof/Machine/RecRows.lean ====
section
/-!
DEFINITION. The recorder's own rows: rows and blocks (R232, R235, R236), windows that complete (R241, R242, R248), and the
slots of an export stream (R247 to R249).
-/
namespace Sys2Proof.Machine

/-- The recorder writes: an image with a RECORDER section is in force and the device is neither dormant nor storing (R253). -/
def recRuns (s : State) : Bool := s.bbr.run && (s.clk.chip == .run || s.clk.chip == .boot)

/-- FIRED to FROZEN (Table 10.4): each open stream that carries frozen windows has the window to export (R248). -/
def freeze (i : Nat) (s : State) : State :=
  let b := { s.bbr with trig := vmod s.bbr.trig i fun g => { g with st := .frozen } }
  { s with bbr := strmWin (vat b.trig i Trig.init).f i (winBlks b i) b }

/-- The last post-window row of every frozen tier is written (R241). -/
def windowDone (g : Trig) : Bool := g.st == .fired && (List.range 3).all fun t => lat g.left t 0 == 0

/-- The windows that are complete. -/
def freezeDone (s : State) : State :=
  (List.range 32).foldl (fun s i => if windowDone (vat s.bbr.trig i Trig.init) then freeze i s else s)
    { s with bbr := oldsDone false s.bbr }

/-- The rows of a tick start (R235, R236); capture words are 0 in a tick without a CAPTURE message. -/
def recRows (s : State) : State :=
  let s1 := rowWrite 0 (s.now - 1) (espRow s) s
  let s2 := rowStat 2 (rowStat 1 { s1 with link := s1.link.map fun x => { x with capture := [] } })
  freezeDone s2

/-- RECORDER_ROW (R235): the row of the tick that has ended, once. -/
def execRecorderRow (s : State) : Host.Outcome State Fault Refusal :=
  done (if recRuns s && s.bbr.esp.rowTick < s.now then recRows s else s)

/-- BLOCK_CLOSE (R232). -/
def execBlockClose (t : Tier) (s : State) : Host.Outcome State Fault Refusal :=
  let k := tierNo t
  let x := s.bbr.tier k
  done (if recRuns s && x.isOpen && (blkOf s.bbr k x.opn).rows ≥ rowsPer s.bbr k then openBlk k (closeBlk k s) else s)

/-- TRIGGER_FROZEN (R241; log entry 9). -/
def execTriggerFrozen (i : Fin 32) (s : State) : Host.Outcome State Fault Refusal :=
  done (if windowDone (vat s.bbr.trig i.val Trig.init) then freeze i.val s else s)

/-! Export. -/

/-- `n` bytes of `src` from `a` put at `dst` of a memory, whole. -/
def Memory.copyTo (m : List Host.Cell) (dst : Nat) (src : List Host.Cell) (a n : Nat) : List Host.Cell :=
  (m.filter fun c => c.1 < dst) ++
  ((src.filter fun c => a ≤ c.1 && c.1 < a + n).map fun c => (c.1 - a + dst, c.2)) ++
  (m.filter fun c => dst + n ≤ c.1)

/-- The header words of a gap record (R247); the words it does not name are 0. -/
def gapWords (g : Gap) : List W :=
  let ws : List W := [fld 0xF 28 ||| fld 1 24 ||| fld g.tier 0, 0, 0, 0, tc32 g.first, tc32 g.last, nw g.count, nw g.cause,
    0, 0, 0, 0, 0, 0, 0]
  ws ++ [crc32cW ws]

/-- The closed block of tier `t` with the oldest SEQ that stream `i` has still to export. -/
def oldestTodo (b : Bbr) (t i : Nat) : Option Nat :=
  let x := b.tier t
  (sortBy (fun p q => (lat x.blks p Blk.init).row0 ≤ (lat x.blks q Blk.init).row0)
    ((List.range x.blks.length).filter fun n => (blkOf b t n).closed && (blkOf b t n).todo.getLsbD i)).head?

/-- What a stream writes next (R248): a gap record, or a block, with its frozen-window item if it is one. -/
inductive ExpItem where
  | gap (g : Gap)
  | blk (t n : Nat)
  | win (f i t n : Nat)
deriving DecidableEq, Repr

/-- The items of frozen windows in order of f. -/
def winOrder (l : List (Nat × Nat × Nat × Nat)) : List (Nat × Nat × Nat × Nat) := sortBy (fun p q => p.1 ≤ q.1) l

/-- The order of service (R248). -/
def nextItem (b : Bbr) (i : Nat) : Option ExpItem :=
  let x := vat b.strm i Strm.init
  match x.gaps.head?, oldestTodo b 2 i, (winOrder x.frozen).find? (fun w => (blkOf b w.2.2.1 w.2.2.2).closed),
    oldestTodo b 1 i, oldestTodo b 0 i with
  | some g, _, _, _, _ => some (.gap g)
  | _, some n, _, _, _ => some (.blk 2 n)
  | _, _, some w, _, _ => some (.win w.1 w.2.1 w.2.2.1 w.2.2.2)
  | _, _, _, some n, _ => some (.blk 1 n)
  | _, _, _, _, some n => some (.blk 0 n)
  | _, _, _, _, _ => none

/-- Host address of the slot a stream writes next. -/
def slotAt (x : Strm) : Nat := x.base.toNat + 65536 * (x.sent.toNat % 2 ^ x.size)

/-- The item leaves the stream. -/
def itemDone (i : Nat) (it : ExpItem) (b : Bbr) : Bbr :=
  match it with
  | .gap _ => { b with strm := vmod b.strm i fun x => { x with gaps := x.gaps.drop 1 } }
  | .blk t n => b.modBlk t n fun k => { k with todo := bitPut k.todo i false }
  | .win f g t n =>
    let b1 := { b with strm := vmod b.strm i fun x => { x with frozen := x.frozen.filter (· != (f, g, t, n)) } }
    if (vat b1.strm i Strm.init).frozen.any fun w => w.1 == f && w.2.1 == g then b1
    else { b1 with
      trig := vmod b1.trig g fun x => if x.st = .frozen && x.f = f then { x with exported := bitPut x.exported i true } else x
      olds := b1.olds.map fun w => if w.id = g && w.f = f then { w with exported := bitPut w.exported i true } else w }

/-- The 32-byte status area (R247). -/
def statusWords (s : State) (x : Strm) : List W :=
  [lo32 x.sent, hi32 x.sent, nw (x.sent.toNat % 2 ^ x.size), x.drops, lo32 s.clk.ts, hi32 s.clk.ts, 0, 0]

/-- One slot of a stream (R247, R248). -/
def exportSlot (i : Nat) (s : State) : State :=
  let x := vat s.bbr.strm i Strm.init
  match nextItem s.bbr i with
  | none => s
  | some it =>
    let h := match it with
      | .gap g => Memory.writeWs s.host (slotAt x) (gapWords g)
      | .blk t n => Memory.copyTo s.host (slotAt x) s.bbr.mem (blkBase t n) 65536
      | .win _ _ t n => Memory.copyTo s.host (slotAt x) s.bbr.mem (blkBase t n) 65536
    let b := itemDone i it s.bbr
    let b1 := { b with strm := vmod b.strm i fun x => { x with sent := x.sent + 1, credit := x.credit - 1 } }
    { s with host := Memory.writeWs h x.status.toNat (statusWords s (vat b1.strm i Strm.init)), bbr := b1 }

/-- EXPORT_SLOT_WRITE (R248). -/
def execExportSlotWrite (i : Fin 4) (s : State) : Host.Outcome State Fault Refusal :=
  let x := vat s.bbr.strm i.val Strm.init
  done (if x.isOpen && x.credit > 0 && s.clk.chip != .dormant && s.clk.chip != .reset then exportSlot i.val s else s)

end Sys2Proof.Machine
end

