-- ==== Sys2Proof/Machine/FaultRows.lean ====
section
/-!
DEFINITION. Faults that hardware checks find, the ends of coalescing windows, block reset, read-back and temperature
monitors, the self-tests of the collector and of the engines, and the return of fenced units (R228, R229, R376 to R390).
-/
namespace Sys2Proof.Machine

/-- The classes a source offers to a hardware check (Table 18.1). -/
def srcOffers (src : Nat) (cls : EvClass) : Bool :=
  match srcKind src, cls with
  | 2, _ => false
  | 1, .fe => true
  | 1, _ => false
  | _, .fe => src == 960 || src == 964 || src == 965
  | _, .ce => src < 768 || (816 ≤ src && src < 864) || (872 ≤ src && src < 880) || (944 ≤ src && src ≤ 952) || src == 954 ||
      (959 ≤ src && src ≤ 961) || src == 964 || src == 965 || src == 971 || src == 972 || (980 ≤ src && src ≤ 982) ||
      src == 989 || src == 991
  | _, .uc => !(src == 954 || src == 964 || src == 965 || src == 980 || src == 989)

/-- The engine of a control-fault source. -/
def engOfSrc (src : Nat) : Option Nat :=
  if 768 ≤ src && src < 816 then some (src - 768) else if 864 ≤ src && src < 868 then some (0x40 + (src - 864))
  else if 868 ≤ src && src < 872 then some (0x48 + (src - 868)) else none

/-- The context whose release an engine runs. -/
def runningCtx (s : State) (e : Nat) : Option Nat :=
  let (b, n) := ctxBase e
  ((List.range n).map (b + ·)).find? fun c => (s.cx c).rel.isSome

/-- The tasks that the fence of a sequencer or supervisory engine stops where no plan covers it (R152). -/
def stopped (s : State) (e : Nat) (cfg : W) : List Nat :=
  if 48 ≤ e && cfg.bit 20 && !(s.adm.img.any (·.suReserve)) then
    ((s.adm.place.filter (·.eng == e)).map (·.task)).filter fun n => some n != (runningCtx s e).map (taskNum s)
  else []

/-- A control fault of an engine (R56, R89, R91, R152, R376), one occurrence for each further task that its fence stops: its payload is
the task number of the running release. Codes 1, 2 and 5 abandon that release; codes 3, 4 and 6 end it, and what it staged stands. -/
def engFault (src e code : Nat) (s : State) : State :=
  let c := runningCtx s e
  let task := c.elim 0xFFFF (taskNum s)
  let one := match c with
    | some c =>
      if code = 3 || code = 4 || code = 6 then abortRelease c code s
      else (if code = 1 || code = 2 || code = 5 then abandon c s else s).raise src .uc code (nw task) c task
    | none => s.raise src .uc code (nw task) 0x1FF task
  (stopped s e (cfgOf s src)).foldl (fun s n => s.raise src .uc code (nw n) 0x1FF n) one

/-- The codes of a control-fault source (Table 18.2); of the other sources, any. -/
def codeOffers (src code : Nat) : Bool :=
  if (engOfSrc src).isSome then 1 ≤ code && code ≤ 8
  else if 880 ≤ src && src < 944 then code == 0x10 || code == 0x11
  else true

/-- HARDWARE_FAULT_DETECTED (R376, R377). A class or a code that the source does not offer is never raised (R374, Table 18.2); a
control fault of an SLC runs in no release, so its payload is 0xFFFF. -/
def execHardwareFaultDetected (src : Fin 1024) (cls : EvClass) (code : BitVec 16) (payload : W) (s : State) :
    Host.Outcome State Fault Refusal :=
  done (if srcOffers src.val cls && codeOffers src.val code.toNat && s.clk.chip != .reset then
      match engOfSrc src.val with
      | some e => engFault src.val e code.toNat s
      | none => s.raise src.val cls code.toNat (if 880 ≤ src.val && src.val < 944 then 0xFFFF else payload)
    else s)

/-- EVENT_WINDOW_END (R228): 100 us after the window opened. -/
def execEventWindowEnd (src : Fin 1024) (cls : EvClass) (s : State) : Host.Outcome State Fault Refusal :=
  done (if (winOf s src.val cls).any (fun w => w.ends ≤ s.now) then windowEnd src.val cls s else s)

/-- HELD_RECORD_WRITE (R229). -/
def execHeldRecordWrite (s : State) : Host.Outcome State Fault Refusal := done (writeHeld s)

/-- What a unit takes up again when it resumes: tie ports follow their channels, a recorder in use opens its blocks. -/
def unitResume (src : Nat) (s : State) : State :=
  if src = 988 then (List.range 192).foldl (fun s n => tieFollow n s) s else s

/-- A unit under block reset resumes (R378): a CE occurrence with code 0x00F0. -/
def brstResume (src : Nat) (s : State) : State :=
  if (assocGet s.fcr.brst src).isSome then
    (unitResume src { s with fcr := { s.fcr with brst := assocDel s.fcr.brst src } }).raiseP src .ce 0x00F0
  else s

/-- BRST_RESUME (R378). -/
def execBrstResume (src : Fin 1024) (s : State) : Host.Outcome State Fault Refusal := done (brstResume src.val s)

/-- Units whose 100 us are over resume (R378). -/
def brstTick (s : State) : State :=
  (s.fcr.brst.filter fun x => x.2 ≤ s.now).foldl (fun s x => brstResume x.1 s) s

/-- FCR_ROUTING_SELFTEST (R390): a pass counts; a failure is E984 at class FE. -/
def execFcrRoutingSelftest (pass : Bool) (s : State) : Host.Outcome State Fault Refusal :=
  done (if s.clk.chip = .reset then s
    else if pass then { s with fcr := { s.fcr with selftests := s.fcr.selftests + 1, selftestTick := some s.now } }
    else s.raiseC 984 .fe)

/-- SCRUB_OVERDUE (R390, Table 18.1). -/
def execScrubOverdue (s : State) : Host.Outcome State Fault Refusal :=
  done (if s.clk.chip = .reset then s else s.raiseC 985 .uc)

/-- PIN_READBACK_MISMATCH (R388). -/
def execPinReadbackMismatch (_errN : Bool) (s : State) : Host.Outcome State Fault Refusal :=
  done (if s.clk.chip = .reset then s else s.raiseC 990 .uc)

/-- DIE_TEMPERATURE (R467): CE at 115 °C, UC at 125 °C. -/
def execDieTemperature (hot : Bool) (s : State) : Host.Outcome State Fault Refusal :=
  done (if s.clk.chip = .reset then s else s.raiseC 991 (if hot then .uc else .ce))

/-- CONTROL_LOGIC_SELFTEST (R389, Table 24.6): a fenced engine does no work. -/
def execControlLogicSelftest (e : Eng) (pass : Bool) (s : State) : Host.Outcome State Fault Refusal :=
  let k := engOf e
  done (if s.clk.chip != .run || (s.engine k).fenced then s
    else if pass then s.modStat k fun x => { x with stpass := x.stpass + 1 }
    else engFault (ctrlSrc k) k 7 s)

/-! Readmission (R384, R385). -/

/-- The unit is fenced, as READMIT asks. -/
def unitFenced (s : State) : HwUnit → Bool
  | .le k => (s.engine k.val).fenced
  | .se k => (s.engine (0x40 + k.val)).fenced
  | .ue k => (s.engine (0x48 + k.val)).fenced
  | .slc l => (s.lk l.val).fenced
  | .bank b => s.bbr.fenced.getLsbD b.val
  | .partner => s.prl.role == .standby && s.prl.pst == .fenced

/-- Every task stands at its nominal place. -/
def planNominal (s : State) : Bool :=
  s.adm.place.all fun q => s.adm.nominal.any fun p => p.task == q.task && p.ctx == q.ctx

/-- A STANDBY in DEGRADED enters RESYNC once its fenced units are readmitted and its plan is nominal (R372). -/
def degradedOver (s : State) : State :=
  let fenced := s.le.any (·.fenced) || s.se.any (·.fenced) || s.ue.any (·.fenced) || s.link.any (·.fenced)
  if s.prl.role = .standby && s.prl.pst = .degraded && !fenced && planNominal s then toResync s else s

/-- A readmitted recorder bank rejoins with blank blocks (R251). -/
def bankBlank (k : Nat) (s : State) : State :=
  let b := { s.bbr with
    fenced := bitPut s.bbr.fenced k false
    mem := s.bbr.mem.filter fun c => c.1 / 0x200000 != k }
  { s with bbr := [0, 1, 2].foldl (fun b t =>
      (List.range (b.tier t).blks.length).foldl (fun b n => if tierBank t n = k then b.modBlk t n fun _ => Blk.init else b) b) b }

/-- A unit that passes its self-test (R385). -/
def unitBack (u : HwUnit) (s : State) : State :=
  match u with
  | .le k => { (s.modEng k.val fun g => { g with fenced := false, mirrorRx := [] }) with
      fcr := { s.fcr with spareLe := bitPut s.fcr.spareLe k.val true } }
  | .se k => { (s.modEng (0x40 + k.val) fun g => { g with fenced := false }) with
      fcr := { s.fcr with spareMisc := bitPut s.fcr.spareMisc k.val true } }
  | .ue k => { (s.modEng (0x48 + k.val) fun g => { g with fenced := false }) with
      fcr := { s.fcr with spareMisc := bitPut s.fcr.spareMisc (4 + k.val) true } }
  | .slc l =>
    let s1 := s.modLk l.val fun x => { x with fenced := false, holdoff := 0 }
    [3 * l.val, 3 * l.val + 1, 3 * l.val + 2].foldl (fun s n => s.modCh n fun c => { c with readmitReq := true }) s1
  | .bank b => bankBlank b.val s
  | .partner => if s.prl.role = .standby && s.prl.pst = .fenced then toResync s else s

/-- READMIT_SELFTEST_END (R384, R385). -/
def execReadmitSelftestEnd (u : HwUnit) (pass : Bool) (s : State) : Host.Outcome State Fault Refusal :=
  done (match s.fcr.readmit with
    | none => s
    | some (v, tag) =>
      if u = v then
        let s1 := { s with fcr := { s.fcr with readmit := none } }
        if pass then kEndTag (some tag) stOk 0 0 0 (degradedOver (unitBack u s1)) else kEndTag (some tag) stBistFail 0 0 0 s1
      else s)

/-! REBALANCE (R386). -/

/-- A shadow in a nominal context: what its task's mirror set, LOCAL and TABLE words hold. -/
def shadowInto (s : State) (t : Task) (o : Place) : Context :=
  let x := s.cx o.ctx
  let ws := if o.eng < 48 && !o.relay then (mirrorFind s o.eng (o.ctx % 8)).getD (mirrorWords t x) else mirrorWords t x
  { loadMirror t ws x with rel := none }

/-- The shadows start at E1 (R386 step 2). -/
def shadowStart (s : State) : State :=
  match s.adm.shadow with
  | none => s
  | some (_, _, pl) =>
    pl.foldl (fun s q =>
      match placeOf s q.task, taskNo s q.task with
      | some o, some t => if o.ctx = q.ctx || q.eng ≥ 48 then s else s.modCx q.ctx fun _ => shadowInto s t o
      | _, _ => s) s

/-- REBALANCE_SHADOW_START (R386): at E1, the first epoch boundary after preloading. -/
def execRebalanceShadowStart (s : State) : Host.Outcome State Fault Refusal :=
  done (if s.adm.shadow.any (fun x => x.1 = s.now) then shadowStart s else s)

/-- The nominal plan comes into force at E2 (R386 steps 4 and 5): the old contexts are freed; sequencer and supervisory tasks
that move resume cold. -/
def rebalanceSwitch (s : State) : State :=
  match s.adm.shadow with
  | none => s
  | some (_, tag, pl) =>
    let moves := pl.filterMap fun q => match placeOf s q.task, taskNo s q.task with
      | some o, some t => if o.ctx = q.ctx then none else some (o, q, t, s.cx o.ctx)
      | _, _ => none
    let le := (fencedOrder s).filter fun e => (s.engine e).fenced
    let s1 := moves.foldl (fun s m => s.modCx m.1.ctx fun _ => Context.init) s
    let s2 := moves.foldl (fun s m =>
      let (_, q, t, x) := m
      if q.eng < 48 then s.modCx q.ctx fun y => if t.lib.isSome then { x with rel := none } else y
      else if q.eng < 0x48 then s.modCx q.ctx fun _ => movedSeq s t x
      else s.modCx q.ctx fun _ => movedU t x) s1
    let s3 := { s2 with
      adm := { s2.adm with place := pl, shadow := none, first := BitVec.ofNat 8 (lat le 0 0xFF), second := BitVec.ofNat 8 (lat le 1 0xFF) }
      fcr := { s2.fcr with spareLe := 0, spareMisc := 0 } }
    kEndTag (some tag) stOk (tc32 s3.now) 0 0 (degradedOver s3)

/-- REBALANCE_SWITCH (R386): at E2 = E1 + 2,000. -/
def execRebalanceSwitch (s : State) : Host.Outcome State Fault Refusal :=
  done (if s.adm.shadow.any (fun x => x.1 != 0 && x.1 + 2000 ≤ s.now) then rebalanceSwitch s else s)

end Sys2Proof.Machine
end

