-- ==== Sys2Proof/Machine/LedgOps.lean ====
section
/-!
DEFINITION. The charge ledgers' shared operations (R276, R277, R279).
-/
namespace Sys2Proof.Machine

/-- Ledger `k`. -/
def State.lg (s : State) (k : Nat) : Ledger := vat s.clg k Ledger.init

/-- A contribution of `m` times B (R276). -/
def ledgAdd (b : Int) (m : Nat) (x : Ledger) : Ledger :=
  let v := b * (m : Int)
  { x with q := x.q + BitVec.ofInt 64 v, qIn := x.qIn + v.toNat, qOut := x.qOut + (-v).toNat }

/-- A valid frame that covers `m` ticks (R276, R277). -/
def ledgValid (b : Int) (m : Nat) (x : Ledger) : Ledger :=
  ledgAdd b m { x with last := iw b, stale := false, missing := 0 }

/-- 64 ticks have passed without a valid frame: 0 is added, and GAP is set (R277). -/
def ledgGap (x : Ledger) : Ledger := { x with gap := true, gaps := x.gaps + 1 }

/-- A frame of `m` ticks that is missing or corrupt (R277). -/
def ledgMiss (m : Nat) (x : Ledger) : Ledger :=
  let y := { x with stale := true, missing := x.missing + m }
  if y.missing ≥ 64 then ledgGap y else ledgAdd x.last.toInt m y

/-- A tick in which the ledger's link is not UP or HOLD (R277). -/
def ledgIdle (x : Ledger) : Ledger :=
  let y := { x with missing := x.missing + 1 }
  if y.missing ≥ 64 then ledgGap y else y

/-- The ledger bound to channel `n` (R276). -/
def ledgOf (s : State) (n : Nat) : Option Nat :=
  (List.range 64).find? fun k => (s.lg k).chan.any fun c => c.val == n

/-- A LEDGER_RESET takes effect (R279). -/
def ledgReset (x : Ledger) : Ledger :=
  match x.pend with
  | none => x
  | some (q, io) =>
    { x with pend := none, ticks := 0, resets := x.resets + 1, q := if q then 0 else x.q
             qIn := if io then 0 else x.qIn, qOut := if io then 0 else x.qOut }

/-- A start of a tick: a waiting reset takes effect, then the tick is counted (R279, Table 12.4). -/
def ledgTick (used : Bool) (x : Ledger) : Ledger :=
  let y := if x.pend.isSome then ledgReset x else { x with ticks := x.ticks + 1 }
  if x.chan.isSome && !used then ledgIdle y else y

/-- Charge per count in coulombs: SCALE of B times 0.5 µs (R276). -/
def chargePerCount (scale : W) : W := fmul scale 0x350637BD

end Sys2Proof.Machine
end

