-- ==== Sys2Proof/Machine/RegOps.lean ====
section
/-!
DEFINITION. What becomes of a host write to BAR0 before it reaches its register: discarded in DORMANT and on a STANDBY, taken
to both devices by the mirror queue on a LEAD, else applied (R209, R358, R470, R474, Table 17.1).
-/
namespace Sys2Proof.Machine

/-- RO_WR of KIO_ERR (Table 9.11). -/
def roWr (s : State) : State := { s with kio := { s.kio with err := bitPut s.kio.err 2 true } }

/-- The block belongs to the four that answer in DORMANT: identity, CTU, KIO, FCR (R474). -/
def dormantBlock (addr : Nat) : Bool := addr < 0x8000

/-- A write waits in the mirror queue for its apply tick (R358): address, bytes and words. -/
def mirrorReg (addr bytes : Nat) (ws : List W) (s : State) : State :=
  { s with prl := { s.prl with
    queue := s.prl.queue ++ [⟨s.prl.mseq, true, nw addr :: nw bytes :: ws, s.now + 2, none, false, none, none⟩]
    mseq := s.prl.mseq + 1 } }

/-- A host write of `bytes` bytes to a RW or W1S register or window of BAR0 that is mirrored in a pair; `f` is its effect. -/
def hostWrite (addr bytes : Nat) (ws : List W) (f : State → State) (s : State) : State :=
  if s.clk.chip = .reset then s
  else if s.clk.chip = .dormant then (if dormantBlock addr then roWr s else s)
  else if s.prl.role = .standby then roWr s
  else if s.prl.role = .lead && pairFormed s then mirrorReg addr bytes ws s
  else f s

/-- A W1C write, which acts on the device written alone (R358). -/
def hostClear (addr : Nat) (f : State → State) (s : State) : State :=
  if s.clk.chip = .reset then s
  else if s.clk.chip = .dormant then (if dormantBlock addr then roWr s else s)
  else if s.prl.role = .standby && !(0x2000 ≤ addr && addr < 0x4000) && !(0x34000 ≤ addr && addr < 0x38000) then roWr s
  else f s

end Sys2Proof.Machine
end

