-- ==== Sys2Proof/Machine/LinkRows.lean ====
section
/-!
DEFINITION. Training, negotiation and the other transitions of a link (R189, R191 to R194, R202, R207).
-/
namespace Sys2Proof.Machine

/-- The links work: the dividers run and no power-fail store has begun. -/
def linksRun (s : State) : Bool := s.clk.tickRun && (s.clk.chip == .boot || s.clk.chip == .run)

/-- A channel of the link is in ARMING, CONTROL or HOLD. -/
def linkLive (s : State) (l : Nat) : Bool := [3 * l, 3 * l + 1, 3 * l + 2].any fun n => (s.ch n).live

/-- The timing check of R189 at the highest version that both sides offer; figures in tenths of a ns. -/
def timingOk (sOff sReady rtt vmax : Nat) : Bool :=
  10 * (sOff + sReady + rtt) + (if min 3 vmax ≥ 2 then 1417 else 583) ≤ 4700 && rtt ≤ 240

/-- Ledgers bound to the link take their charge per count from its SCALE of B (R276). -/
def linkLedgers (l : Nat) (s : State) : State :=
  { s with clg := s.clg.map fun x => match x.chan with
      | some c => if linkOf c.val = l then { x with cpc := chargePerCount (lat (s.lk l).hello (7 + 4 * slotOf c.val) 0) } else x
      | none => x }

/-- Row 7 at tick RESUME, once a fast retrain has completed (R192): UP, or HOLD when the miss count is 2 or more. -/
def linkResume (l : Nat) (s : State) : State :=
  let x := s.lk l
  if x.st = .train && x.fast && x.tstep = 4 && s.now ≥ x.resume then
    let f := fun (x : Link) => { x with fast := false, tstep := 1, validRun := 0, missRun := 0, corruptRun := 0, trainRun := 0 }
    linkLedgers l (if x.miss ≥ 2 then slcEvt l 0 (setLink l .hold f s) else setLink l .up f s)
  else s

/-- Row 8: negotiation begins. -/
def linkNegotiate (l digest : Nat) (s : State) : State :=
  setLink l .negotiate (fun x => { x with
    fast := false, since := s.now, tstep := 1, switchTick := none, ready := false, digest := nw digest, version := 0
    devTx := [], hostTx := [] }) s

/-- LINK_COMMA_ALIGN (row 10). -/
def execLinkCommaAlign (l : LinkNo) (s : State) : Host.Outcome State Fault Refusal :=
  let x := s.lk l.val
  done (if linksRun s && x.st = .down && x.enable && !x.fenced && s.now ≥ x.holdoff then linkTrain l.val s else s)

/-- Step 2 of training ends: RTT, X_END and the check of R189 (R188, R192). -/
def trainMeasured (l : Nat) (m : TrainMeas) (s : State) : State :=
  let rtt := m.tripNs - m.ta
  if timingOk m.sOff m.sReady rtt m.vmax then
    s.modLk l fun x => { x with tstep := 3, rtt := rtt, ta := m.ta, xEnd := 470 - rtt, sOff := m.sOff, sReady := m.sReady }
  else linkFail l 2 s

/-- Step 3 of training ends (R192): the full path and a changed DIGEST go on to NEGOTIATE; a fast retrain resumes at RESUME. -/
def trainSet (l : Nat) (m : TrainMeas) (s : State) : State :=
  if (s.lk l).fast && (s.lk l).digest = m.digest then linkResume l (s.modLk l fun x => { x with tstep := 4 })
  else linkNegotiate l m.digest.toNat s

/-- TRAIN_STEP_END (R192). -/
def execTrainStepEnd (l : LinkNo) (m : TrainMeas) (s : State) : Host.Outcome State Fault Refusal :=
  done (if (s.lk l.val).st = .train then
      match (s.lk l.val).tstep with
      | 1 => s.modLk l.val fun x => { x with tstep := 2 }
      | 2 => trainMeasured l.val m s
      | 3 => trainSet l.val m s
      | _ => s
    else s)

/-- TRAIN_TIMEOUT (row 2): 2,000 ticks in a full training, 32 in a fast retrain. -/
def execTrainTimeout (l : LinkNo) (s : State) : Host.Outcome State Fault Refusal :=
  let x := s.lk l.val
  done (if x.st = .train && x.tstep != 4 && x.since + (if x.fast then 32 else 2000) ≤ s.now then linkFail l.val 2 s else s)

/-! Negotiation (R193, R194). -/

/-- The highest version both sides offer, of the device's 1 to 3. -/
def commonVersion (vmax vmin : Nat) : Option Nat :=
  let v := min 3 vmax
  if 1 ≤ v && vmin ≤ v then some v else none

/-- The device rejects a module HELLO (R193). -/
def helloBad (x : Link) (h : List W) : Bool :=
  (lat h 0 0).bits 31 24 != 0x40 || helloNch h == 0 || helloAOff h < 100 || 499 < helloAOff h || helloSOff h != x.sOff ||
  (lat h 4 0).bits 23 16 != x.sReady || (helloWtbl h && (lat h 5 0).bits 15 0 == 0)

/-- The hold limit that AGREE gives slot `k`: the channel record's, or 64 for an undeclared slot (R194). -/
def agreeHold (s : State) (l k : Nat) : Nat := (chanDecl s (3 * l + k)).elim 64 (·.hold)

/-- AGREE words 0 to 7 for a version and a switch tick (R194). -/
def agreeWords (s : State) (l v sw : Nat) : List W :=
  let x := s.lk l
  [fld 0x42 24 ||| (x.devSeq.setWidth 32 <<< 16) ||| fld 7 8 ||| fld v 0, fld (sw % 65536) 0] ++
  (List.range 3).map (fun k => fld (agreeHold s l k) 24) ++ (List.range 3).map fun k => vat x.thresh k 0xFFFFFFFF

/-- The switch tick: even and at least 32 ticks after the frame that carries AGREE's last word, which follows what the device
stream still has to send (R194). -/
def switchAt (s : State) (l : Nat) : Nat := s.now / 2 * 2 + 2 + 2 * ((s.lk l).devTx.length + 7) + 32

/-- MODULE_HELLO (R193, R194). -/
def moduleHello (l : Nat) (ws : List W) (s0 : State) : State :=
  if (s0.lk l).st = .negotiate && (s0.lk l).switchTick.isNone then
    let h := ws ++ List.replicate (18 - ws.length) 0
    let s := s0.modLk l fun x => { x with hello := h }
    match commonVersion ((lat h 1 0).bits 31 24) ((lat h 1 0).bits 23 16) with
    | none => linkFail l 3 s
    | some v =>
      if helloBad (s.lk l) h then linkFail l 3 s
      else
        let sw := switchAt s l
        s.modLk l fun x => { x with version := v, switchTick := some sw, ready := false, agree := agreeWords s l v sw
                                    devTx := x.devTx ++ agreeWords s l v sw }
  else s0

/-- MODULE_HELLO (R193, R194). -/
def execModuleHello (l : LinkNo) (ws : List W) (s : State) : Host.Outcome State Fault Refusal := done (moduleHello l.val ws s)

/-- READY (R194). -/
def readyIn (l : Nat) (ver : BitVec 8) (crc : W) (s : State) : State :=
  let x := s.lk l
  if x.st = .negotiate && x.switchTick.isSome && ver.toNat = x.version && crc = crc32cW x.agree
    then s.modLk l fun x => { x with ready := true } else s

/-- READY (R194). -/
def execReady (l : LinkNo) (ver : BitVec 8) (crc : W) (s : State) : Host.Outcome State Fault Refusal := done (readyIn l.val ver crc s)

/-- NEGOTIATE_TIMEOUT (row 3): 400 ticks without READY. -/
def execNegotiateTimeout (l : LinkNo) (s : State) : Host.Outcome State Fault Refusal :=
  let x := s.lk l.val
  done (if x.st = .negotiate && !x.ready && x.since + 400 ≤ s.now then linkFail l.val 2 s else s)

/-- Messages of a stream after a full training: those of kiosk commands are sent again, the device's own are dropped. -/
def svcAgain (q : List SvcMsg) : List SvcMsg :=
  (q.filter fun m => m.tag.isSome).map fun m => { m with queued := true, resends := 0 }

/-- Row 9: the link is UP in the agreed version; the terms of R128 are applied, the thermal blocks read (R298). -/
def linkUp (l : Nat) (s : State) : State :=
  let s1 := setLink l .up (fun x => { x with
    miss := 0, validRun := 0, missRun := 0, corruptRun := 0, trainRun := 0, lostRun := 0, lastValid := false, resume := s.now
    devTx := [], hostTx := [], devQ := svcAgain x.devQ, hostQ := svcAgain (x.reads.filterMap (fun y => if y.1 then some y.2 else none) ++ x.hostQ)
    reads := [], acked := [], rxDev := none, rxHost := none, rxCap := none }) s
  let s2 := linkLedgers l (applyTerms l s1)
  modSkipped l ((List.range (helloNch (s2.lk l).hello)).foldl (fun s k => thermAsk l k s) s2)

/-- LINK_SWITCH_TICK (row 9): READY has come and the switch tick is reached. -/
def execLinkSwitchTick (l : LinkNo) (s : State) : Host.Outcome State Fault Refusal :=
  let x := s.lk l.val
  done (if x.st = .negotiate && x.ready && x.switchTick.any (· ≤ s.now) then linkUp l.val s else s)

/-- LINK_DOWN_HOLDOFF_END (R191): the 1,000 epochs have passed, and row 10 may apply again. -/
def execLinkDownHoldoffEnd (l : LinkNo) (s : State) : Host.Outcome State Fault Refusal :=
  done (s.modLk l.val fun x => if x.holdoff ≤ s.now then { x with holdoff := 0 } else x)

/-- RECEIVER_SIGNAL_LOSS (row 1). -/
def execReceiverSignalLoss (l : LinkNo) (s : State) : Host.Outcome State Fault Refusal := done (linkDown l.val s)

/-- X_END corrected by the drift of frame ends, rounded to whole ns (R202). -/
def adjusted (x : Link) (avgPs : Int) : Int := (x.xEnd : Int) - (avgPs - 470000 + 500) / 1000

/-- FRAME_END_ADJUST (R202): ADJ, effective at the first even tick at least 16 ahead; or row 4 when R189 would then fail. -/
def execFrameEndAdjust (l : LinkNo) (avgPs : Int) (s : State) : Host.Outcome State Fault Refusal :=
  let x := s.lk l.val
  done (if x.inUse && (avgPs > 474000 || avgPs < 466000) then
      let e := adjusted x avgPs
      let rtt := (470 - e).toNat
      if e ≤ 470 && timingOk x.sOff x.sReady rtt x.version then
        let at_ := (s.now + 17) / 2 * 2
        svcSend l.val false 0x06 0 [fld (at_ % 65536) 16 ||| fld e.toNat 0] none (s.modLk l.val fun x => { x with xEnd := e.toNat })
      else linkRetrain l.val s
    else s)

/-! SLC_CTRL (R207). -/

/-- ENABLE written. -/
def slcEnable (l : Nat) (en : Bool) (s : State) : State :=
  if en then s.modLk l fun x => { x with enable := true, txIdle := x.fenced }
  else if linkLive s l then s
  else (linkDown l s).modLk l fun x => { x with enable := false, txIdle := true }

/-- RETRAIN written. -/
def slcRetrain (l : Nat) (s : State) : State := if linkLive s l then s else linkRetrain l s

/-- RESET written: row 1; full training follows by row 10. -/
def slcReset (l : Nat) (s : State) : State := if linkLive s l then s else linkDown l s

/-- A write of SLC_CTRL: row 1 stands above row 4 (R191), and a link that it takes to DOWN has nothing to retrain. -/
def slcCtrl (l : Nat) (w : W) (s : State) : State :=
  let s1 := if w.bit 0 != (s.lk l).enable then slcEnable l (w.bit 0) s else s
  let s2 := if w.bit 1 then slcReset l s1 else s1
  if w.bit 2 then slcRetrain l s2 else s2

/-- BAR0 address of SLC_CTRL (R206). -/
def slcCtrlAt (l : Nat) : Nat := 0x20004 + 0x400 * l

/-- SLC_ENABLE (R207). -/
def execSlcEnable (l : LinkNo) (en : Bool) (s : State) : Host.Outcome State Fault Refusal :=
  done (hostWrite (slcCtrlAt l.val) 4 [flag en 0] (slcEnable l.val en) s)

/-- SLC_RETRAIN (R207). -/
def execSlcRetrain (l : LinkNo) (s : State) : Host.Outcome State Fault Refusal :=
  done (hostWrite (slcCtrlAt l.val) 4 [flag (s.lk l.val).enable 0 ||| 4] (slcRetrain l.val) s)

/-- SLC_RESET (R207). -/
def execSlcReset (l : LinkNo) (s : State) : Host.Outcome State Fault Refusal :=
  done (hostWrite (slcCtrlAt l.val) 4 [flag (s.lk l.val).enable 0 ||| 2] (slcReset l.val) s)

end Sys2Proof.Machine
end

