-- ==== Sys2Proof/Machine/AdmRows.lean ====
section
/-!
DEFINITION. How an image comes into force (R127, R131, R155, R252, R443), and the rows of an admission (R129 to R131, R153,
R349): its end, the end of its preload and the activation of its plan.
-/
namespace Sys2Proof.Machine

/-! Activation. -/

/-- The engines of fences whose moves are not in force yet (R116, R155). -/
def movingSet (s : State) : List Nat :=
  let l := [s.adm.first, s.adm.second].map (·.toNat)
  (s.adm.move.flatMap (·.2)).filter fun e => !l.contains e

/-- The loop engines of the fenced set in the order of their fences (R131, R146, R383), without those that still move; those fenced
before an image was in force follow in ascending order. -/
def fencedSet (s : State) : List Nat :=
  let l := ([s.adm.first, s.adm.second].map (·.toNat)).filter (· < 48)
  let m := movingSet s
  l ++ (List.range 48).filter fun e => !l.contains e && !m.contains e && ((s.engine e).fenced || s.fcr.spareLe.getLsbD e)

/-- The sequencer and supervisory engines that are fenced, without those that still move. -/
def fencedSU (s : State) : List Nat :=
  let m := movingSet s
  ([0x40, 0x41, 0x42, 0x43, 0x48, 0x49, 0x4A, 0x4B]).filter fun e => (s.engine e).fenced && !m.contains e

/-- The places of an image for the fenced set (R131, R146, R152); none when no plan covers it. -/
def placesNow (g : Image) (nominal : List Place) (le su : List Nat) : Option (List Place) :=
  let pts := g.tasks.map ptOf
  let s0 := nominal.filter (48 ≤ ·.eng)
  let s1 : Except PlaceFail (List Place) := if g.suReserve then su.foldl (fun o e => o.bind fun pl => planSU pts pl e) (.ok s0) else .ok s0
  if le.length > g.fenceK then none
  else match planFor (pts.filter (·.prof == .l)) (nominal.filter (·.eng < 48)) le, s1 with
    | .ok a, .ok b => some (a ++ b)
    | _, _ => none

/-- The context of a task that is new in an image (R40, R104, R107, R155): cold, both banks from the image. A release of the
plan before still runs to its end. -/
def newContext (t : Task) (old : Context) : Context :=
  let b0 := Memory.writeWs [] 0 (t.banks.take 128)
  let b1 := Memory.writeWs [] 0 (t.banks.drop 128)
  let x : Context := { Context.init with
    task := some (BitVec.ofNat 16 t.num), rel := old.rel, bank0 := b0, bank1 := b1
    crc0 := if t.profile = .l then crc32cW (Memory.readWs b0 0 128) else 0 }
  if t.profile = .s then { coldRegs t x with reason := 1 } else { x with cold := true }

/-- The blocks of a new task in shared task memory (R46, R103). -/
def newBlocks (t : Task) (s : State) : State :=
  let m := Memory.writeWs s.shared (4 * t.paramAt) t.paramInit
  { s with shared := if t.profile = .l then Memory.writeWs m (4 * t.bankAt) t.banks else m }

/-- A task starts in its place. A sequence starts with no fault and no rail enabled, and with AUTO_ON takes REQ = 1 (R156, R443). -/
def newTask (t : Task) (q : Place) (s : State) : State :=
  let s1 := (newBlocks t s).modCx q.ctx (newContext t)
  if t.profile = .s then
    seqWord0 q.ctx t ((parm s1 t 3).bit 31) (!seqSupUsed s1 t) (!seqSupUsed s1 t) (parmPut t 8 (orderWord []) (parmPut t 1 0 s1))
  else s1

/-- A task leaves the plan: its OWNED channels enter OFF, its context holds it no longer (R155). -/
def dropTask (s : State) (q : Place) : State :=
  let s1 := match taskNo s q.task with
    | some t => t.chans.foldl (fun (s : State) (x : Bool × Nat) =>
        if x.1 && (s.ch x.2).st != ChanSt.fenced && (s.ch x.2).st != ChanSt.off then enterOff x.2 s else s) s
    | none => s
  s1.modCx q.ctx fun x => { Context.init with rel := x.rel }

/-- Ledgers follow the channel records (R276): a ledger whose channel changes takes the new one's charge per count. -/
def bindLedgers (g : Image) (s : State) : State :=
  { s with clg := vmapIdx s.clg fun k x =>
      let n := (List.finRange 192).find? fun n => g.chans.any fun c => c.ch == n.val && c.role == 1 && c.bound == k
      if n = x.chan then x
      else { x with
        chan := n
        cpc := n.elim 0 fun n => chargePerCount (lat (s.lk (linkOf n.val)).hello (7 + 4 * slotOf n.val) 0) } }

/-- Links follow the link records of the image in force (R127, R128, R207): each is enabled, and the terms of those that are UP or HOLD
are judged anew. -/
def bindLinks (g : Image) (s : State) : State :=
  let s1 := { s with link := vmapIdx s.link fun l x =>
      { x with enable := x.enable || g.links.any (fun d => d.link == l), refused := x.refused && x.inUse } }
  ((List.range 64).filter fun l => (s1.lk l).inUse).foldl (fun s l => applyTerms l s) s1

/-- A channel that the image in force does not declare is OFF (R8). -/
def dropChans (g : Image) (s : State) : State :=
  ((List.range 192).filter fun n => g.chans.all (·.ch != n) && (s.ch n).st != ChanSt.off && (s.ch n).st != ChanSt.fenced).foldl
    (fun s n => enterOff n s) s

/-- Shaft sources follow the SHAFT section (R479, Table 5.16). -/
def bindShafts (g : Image) (s : State) : State :=
  { s with shaft := vmapIdx s.shaft fun i x => if x.cfg = lat g.shaft i 0 then x else { Shaft.init with cfg := lat g.shaft i 0 } }

/-- Trigger `i` when a full image comes into force (R252): its window, FIRED or frozen, is one of the earlier image now. -/
def swapTrig (now : Nat) (b : Bbr) (i : Nat) : Bbr :=
  let g := vat b.trig i Trig.init
  let b1 := if g.st = .fired || g.st = .frozen then oldWindow i b else b
  { b1 with trig := vmod b1.trig i fun g => declTrig now b1.sect i g }

/-- The recorder follows the RECORDER section of a full image (R232, R252). Without one no row follows, so a window still FIRED is
complete as it stands (log entry 66). -/
def bindRecorder (g : Image) (s : State) : State :=
  let s1 := closeAll false s
  let b := { s1.bbr with sect := g.recorder, run := !g.recorder.isEmpty, mapCrc := if g.recorder.isEmpty then 0 else crc32cW g.recorder }
  let b := (List.range 32).foldl (swapTrig s.now) b
  rowsAgain { s1 with bbr := if b.run then b else oldsDone true b }

/-- The recorder under a delta, which brings no section: its blocks close early (R232). -/
def deltaRecorder (s : State) : State :=
  let s1 := closeAll false s
  if s1.bbr.run then openBlk 2 (openBlk 1 (openBlk 0 s1)) else s1

/-- The code sections of `pts`, each once, one after another (R138); their order in a bank is the model's (log entry 65). -/
def sectionWords (g : Image) : List PT → List (List Nat) → List W
  | [], _ => []
  | x :: r, seen =>
    if seen.contains x.code then sectionWords g r seen
    else (match (g.task? x.num).bind fun t => t.lib with
      | some (i, _, _) => (List.range (Config.libWords i)).map (Config.libCode i)
      | none => (g.task? x.num).elim [] (·.code)) ++ sectionWords g r (x.code :: seen)

/-- The code of a plan and of its fallback plans is written into an instruction bank of every loop engine: the active one when an
image is admitted (R151), the shadow one when an update prepares (R423). -/
def loadCode (shadow : Bool) (g : Image) (nominal : List Place) (s : State) : State :=
  let pts := g.tasks.map ptOf
  let plans := match allPlans pts g nominal with
    | .ok l => l
    | .error _ => []
  { s with le := vmapIdx s.le fun e x =>
      { x with imem := vput x.imem (x.ibank != shadow).toNat (sectionWords g (preloads pts nominal plans e) []) } }

/-- An image and the places `pl` of its tasks come into force (R131, R155): `keep` says which tasks of the plan before go on. Moves in
progress end as the plans before gave them. -/
def installPlan (full : Bool) (g : Image) (nominal pl : List Place) (keep : Nat → Bool) (s : State) : State :=
  let s1 := (s.adm.place.filter fun q => !keep q.task).foldl dropTask s
  let s2 := if full then { s1 with
      ctx := s1.ctx.map fun x => if x.task.any fun n => keep n.toNat then x else { Context.init with rel := x.rel } } else s1
  let le := fencedSet s2
  let s3 := moveTasks pl { s2 with adm := { s2.adm with
    img := some g, nominal := nominal, place := s2.adm.place.filter fun q => keep q.task } }
  let s4 := pl.foldl (fun s q => if keep q.task then s else (g.task? q.task).elim s fun t => newTask t q s) s3
  let s5 := bindShafts g (bindLinks g (bindLedgers g (dropChans g s4)))
  { s5 with adm := { s5.adm with
    first := BitVec.ofNat 8 (lat le 0 0xFF), second := BitVec.ofNat 8 (lat le 1 0xFF)
    moveOld := s.adm.move.map fun m => (m.1, ((fallbackPlaces s m.2).getD []).filter fun q => keep q.task)
    load := nw (busiest (engineLoads g pl)).2 } }

/-! The rows of an admission. -/

/-- An image waits for its join grant (R349): a VOTE part aside, ACYC cells. -/
def grantMissing (s : State) (g : Image) : Option Report :=
  let a := acycOf g
  if s.jnb.count < a then some (refuse 0x09 11 0 0xFFFF 0xFF 0x0B (8 * a) (8 * s.jnb.count)) else none

/-- The outcome of an admission once the grant is known: step 11 stands before step 12. -/
def finalReport (s : State) (r : AdmRun) : Report :=
  if r.rep.result = 0 ∨ r.rep.stepNo = 12 then (grantMissing s r.img).getD r.rep else r.rep

/-- The report in the host's buffer of the ADMIT that a tag names (R153, Table 6.12; log entry 34): the header is always complete, a task
record stands whole or not at all; words 8 to 12 and the records are written on ACCEPT only. -/
def reportPut (tag : Option (BitVec 16)) (ws : List W) (s : State) : State :=
  match tag.bind (kByTag s) with
  | some k =>
    let (a, len) := k.buf 7
    if k.foreign then s
    else
      let head := Memory.writeWs s.host a (ws.take 8)
      let rest := ws.drop 8
      { s with host := if (lat ws 0 0).bits 31 24 = 0
          then Memory.writeWs head (a + 32) (rest.take (8 + 4 * ((len - 64) / 16))) else Memory.writeWs head (a + 52) (rest.drop 5) }
  | none => s

/-- The boot image was not admitted (R441): E982 at class UC. -/
def bootImageFail (code : Nat) (s : State) : State :=
  ({ s with boot := { s.boot with imageDone := true, imageKept := false } } : State).raiseP 982 .uc (0x0A00 + code)

/-- An admission ends in a refusal: registers, report and completion; at boot E982 code 0x08 (R130, R153, R441). -/
def admRefused (r : AdmRun) (rep : Report) (s : State) : State :=
  let ws := reportWords rep r.img r.place ((s.now - r.start) / 2) 0
  let s1 := { s with adm := { s.adm with
    st := 0, run := none, lastResult := BitVec.ofNat 8 rep.result, lastStep := BitVec.ofNat 8 rep.stepNo } }
  match r.tag with
  | some _ => kEndTag r.tag stAdmRefused (nw rep.result) (lat ws 1 0) (lat ws 2 0) (reportPut r.tag ws s1)
  | none => bootImageFail 0x08 s1

/-- The checks and plans of the running admission are complete (R130, R132). -/
def admChecked (s : State) : State :=
  match s.adm.run with
  | some r =>
    if s.adm.st = 1 then
      let rep := finalReport s r
      if rep.result = 0 then { s with adm := { s.adm with st := 2 } } else admRefused r rep s
    else s
  | none => s

/-- ADMISSION_END (R130, R132). -/
def execAdmissionEnd (s : State) : Host.Outcome State Fault Refusal := done (admChecked s)

/-- The activation epoch is fixed once the preload and NV recall have ended (R131). -/
def fixEpoch (s : State) : State :=
  match s.adm.run with
  | some r =>
    if r.preloaded && r.epoch.isNone && s.nvs.ready && !s.nvs.recalling then
      kFix r.tag { s with adm := { s.adm with run := some { r with epoch := some (s.epoch + 1) } } }
    else s
  | none => s

/-- E1 of a REBALANCE is fixed once its preload has ended (R386). -/
def fixShadow (s : State) : State :=
  match s.adm.shadow with
  | some (0, tag, pl) => kFix (some tag) { s with adm := { s.adm with shadow := some (s.nextTc 2000 1, tag, pl) } }
  | _ => s

/-- PRELOAD_END (R131, R386). -/
def execPreloadEnd (s : State) : Host.Outcome State Fault Refusal :=
  done (fixShadow (match s.adm.run with
    | some r => if s.adm.st = 2 then fixEpoch { s with adm := { s.adm with run := some { r with preloaded := true } } } else s
    | none => s))

/-- The plan of the admission comes into force at epoch `e` (R131, R155, R443). -/
def admInForce (r : AdmRun) (e : Nat) (s0 : State) : State :=
  let s := fenceCancel s0
  match placesNow r.img r.place (fencedSet s) (fencedSU s) with
  | none => admRefused r (refuse 0x05 12 0 0xFFFF 0xFF 0x02) s  -- RESOURCE and REQUIRED: log entry 63
  | some pl =>
    let oldNums := (s.adm.img.elim [] (·.tasks)).map (·.num)
    let keep := fun n => r.img.delta && oldNums.contains n && !r.img.remove.contains n
    let s0 := loadCode false r.img r.place s
    let s1 := if r.img.delta then s0 else { s0 with
      le := s0.le.map fun g => { g with mirrorRx := [] }, adm := { s0.adm with place := [] } }
    let s2 := installPlan (!r.img.delta) r.img r.place pl keep s1
    let s3 := if r.img.delta then deltaRecorder s2 else bindRecorder r.img s2
    let ws := reportWords r.rep r.img r.place ((s3.now - r.start) / 2) e
    let s4 := { s3 with
      adm := { s3.adm with st := 0, run := none, lastResult := 0, lastStep := 0, actEpoch := nw e }
      prl := { s3.prl with planEpoch := none, pimage := if pairFormed s3 && r.tag.isSome then (r.img.id, r.img.crc) else s3.prl.pimage }
      boot := { s3.boot with imageDone := s3.boot.imageDone || r.tag.isNone, imageKept := s3.boot.imageKept && r.tag.isSome } }
    kEndTag r.tag stOk (lat ws 0 0) (lat ws 1 0) (lat ws 2 0) (reportPut r.tag ws s4)

/-- The epoch at which the running admission's plan comes into force: in a pair the later of the two devices'
epochs (R131); an image that one device admits alone, at boot or in RESYNC, keeps its own. -/
def planEpochOf (s : State) : Option Nat :=
  match s.adm.run.bind (·.epoch) with
  | none => none
  | some e => if pairFormed s && (s.adm.run.bind (·.tag)).isSome then s.prl.planEpoch.map (max e) else some e

/-- The activation of an accepted plan (R131). -/
def planActivate (s : State) : State :=
  match s.adm.run, planEpochOf s with
  | some r, some e => admInForce r e s
  | _, _ => s

/-- The epoch of the running admission's activation has begun (R131). -/
def planDue (s : State) : Bool := (planEpochOf s).any (· ≤ s.epoch)

/-- PLAN_ACTIVATION (R131): not before epoch e begins. -/
def execPlanActivation (s : State) : Host.Outcome State Fault Refusal := done (if planDue s then planActivate s else s)

/-! ADMIT. -/

/-- A phase in which ADMIT, REBALANCE and settings writes complete with STATE (R419). -/
def updBusy (s : State) : Bool :=
  match s.upe.phase with
  | .preparing | .ready | .armed | .trial | .confirming => true
  | _ => false

/-- The part of the active manifest that a kind names for this device (Table 20.3). -/
def activePart (s : State) (kind : Nat) : Option PartE :=
  (manPartList s (flashMan s.upe.manSlot)).find? fun p => p.kind == kind && holdsPart s p

/-- The part of the active manifest that names a flash slot, when the slot is the active one (Table 20.1, R440). -/
def slotPart (s : State) (b : Bool) : Option PartE :=
  if b = s.upe.imgSlot then (manPartList s (flashMan s.upe.manSlot)).find? fun p => p.kind == 2 && holdsPart s p else none

/-- The image words of a flash slot, and the length its manifest gives when the slot is the active one (Table 20.1, R440). -/
def flashImage (s : State) (b : Bool) : List W × Option Nat :=
  let n := (Memory.readW s.upe.flash (flashImg b + 8)).toNat
  (if n ≤ 8388608 then flashWords s (flashImg b) (n / 4) else [], (slotPart s b).map (·.len))

/-- The update check of a flash slot before its framing (R122, R421): its bytes match the part's SHA-384. -/
def slotHashOk (s : State) (b : Bool) : Bool :=
  (slotPart s b).all fun p => wordsOfBytes (sha384 (flashBytes s (flashImg b) p.len)) == p.hash

/-- Cells are asked of J0 (R349); a STANDBY sends nothing (R348). -/
def askGrant (g : Image) (s : State) : State :=
  if s.jnb.count < acycOf g && s.prl.role != .standby then
    joinQueue 0x03 0 [fld (acycOf g) 0] { s with jnb := { s.jnb with reserve := some s.now } }
  else s

/-- Whether the partner of a formed pair holds an image of this CRC (Table 6.8 step 2): the one its HELLO names; of another no message
says so, and it is a free value (log entry 64). -/
def partnerHolds (crc : W) (s : State) : State :=
  if pairFormed s && s.prl.pimage.2 != crc then
    let (x, s1) := s.draw 0 1
    { s1 with prl := { s1.prl with pheld := x = 1 } }
  else s

/-- An admission starts (R130): its checks are those of the words as they stand. -/
def admStart (tag : Option (BitVec 16)) (ws : List W) (s0 : State) : State :=
  let k := candOf ws s0.adm.img
  let s := partnerHolds k.img.crc s0
  let (rep, g, pl) := admissionOf s k (keepPlaces s k)
  askGrant g { s with adm := { s.adm with
    st := 1, slices := 0, run := some ⟨tag, g, pl, rep, s.now, false, none⟩ } }

/-- The declared bound of ADMIT in µs, by the image's reserve (R130). -/
def admitBound (ws : List W) : Nat := if (lat ws 7 0).bits 1 0 = 2 then 3000000 else 300000

/-- ADMIT (R129, R130; log entry 34). -/
def execAdmit (tag : BitVec 16) (img : Option (List W)) (s : State) : Host.Outcome State Fault Refusal :=
  done (kiosk 0x0101 tag (fun k s =>
    let flash := (k.arg 3).bit 0
    let src : Option (List W × Option Nat) :=
      if flash then some (flashImage s ((k.arg 3).bit 1)) else img.map fun ws => (ws, some (k.buf 4).2)
    if s.adm.run.isSome then kBusy k (s.adm.run.elim 1 fun r => max 1 ((if r.img.fenceK = 2 then 3000000 else 300000) - (s.now - r.start) / 2)) s
    else if updBusy s then kStatus k stState s
    else match src with
      | none => kDma k s
      | some (ws, len) =>
        if (flash && !slotHashOk s ((k.arg 3).bit 1)) || !framingOk ws len then kStatus k stImageCorrupt s
        else if !(lat ws 7 0).bit 4 && !(s.chan.all (·.st == .off)) then kStatus k stState s
        else admStart (some tag) ws (kBegin k (kMod k (fun x => { x with bound := admitBound ws + updSlack s }) s))) s)

end Sys2Proof.Machine
end

