-- ==== Sys2Proof/Machine/TwOps.lean ====
section
/-!
DEFINITION. The two-wire ports' shared operations: addresses and configurations (R327, R328), the status latches and ALERT
(R335, R337), and the number formats of PMBus (R336).
-/
namespace Sys2Proof.Machine

/-- Two-wire port `p`. -/
def State.tw (s : State) (p : Nat) : Twp := vat s.twp p Twp.init

/-- Set a flag of TWP_EVTn (Table 15.7). -/
def twEvt (p b : Nat) (s : State) : State := s.modTw p fun x => { x with evt := bitPut x.evt b true }

/-- The port may act as controller (Table 15.5). -/
def twController (cfg : W) : Bool := cfg.bit 0
/-- The port may act as target (Table 15.5). -/
def twTarget (cfg : W) : Bool := cfg.bit 1

/-! Addresses (R328, Table 15.6). -/

/-- The enabled addresses of fixed mode. -/
def fixedAddrs (addr : W) : List Nat :=
  (List.range 4).filterMap fun k => if addr.bit (8 * k + 7) then some (addr.bits (8 * k + 6) (8 * k)) else none

/-- The port answers this address (R328). -/
def twMatch (cfg addr : W) (a : Nat) : Bool :=
  if cfg.bit 4 then ((BitVec.ofNat 7 a ^^^ addr.extractLsb' 0 7) &&& ~~~(addr.extractLsb' 8 7)) == 0 else (fixedAddrs addr).contains a

/-- The addresses the port answers, rising. -/
def twAddrs (cfg addr : W) : List Nat := (List.range 128).filter (twMatch cfg addr)

/-- The lowest matched address; 0 without one. -/
def twLowest (t : Twp) : Nat := (twAddrs t.cfg t.addr).head?.getD 0

/-- An address no configuration may match (R328). -/
def twReserved (a : Nat) : Bool := a ≤ 8 || a == 0x0C || 0x78 ≤ a

/-- A configuration is refused (R328). -/
def twRefused (cfg addr : W) : Bool :=
  (twAddrs cfg addr).any twReserved || (!cfg.bit 4 && (fixedAddrs addr).eraseDups.length != (fixedAddrs addr).length)

/-- ADDR3 and ADDR2 are 0 in masked mode (Table 15.6). -/
def twAddrFields (cfg addr : W) : W := if cfg.bit 4 then addr &&& 0x8080FFFF else addr

/-- The configuration that waits comes into force (R327). -/
def twApply (t : Twp) : Twp :=
  let cfg := t.cfgNext.getD t.cfg
  { t with cfg := cfg, addr := twAddrFields cfg (t.addrNext.getD t.addr), cfgNext := none, addrNext := none }

/-! Status latches and ALERT (R335, R337). -/

/-- ALERT follows the latches (R335); ALERT_IN shows the pin, high by its pull-up while the port does not drive it. -/
def twAlert (t : Twp) : Twp :=
  let o := t.cfg.bit 13 && twTarget t.cfg && !t.alertDone && t.status.any (· != 0)
  { t with alertOut := o, alertIn := !o }

/-- Latch bits of STATUS_BYTE and of STATUS_TEMPERATURE on one page; a further bit calls again (R335). -/
def twLatchPage (page : Nat) (bits : BitVec 8) (tb : BitVec 2) (t : Twp) : Twp :=
  let old := vat t.status page 0
  let told := vat t.temp page 0
  let more := old ||| bits != old || told ||| tb != told
  twAlert { t with status := vput t.status page (old ||| bits), temp := vput t.temp page (told ||| tb)
                   alertDone := t.alertDone && !more }

/-- Latch bits of a channel on every port (R337). -/
def twLatch (n : Nat) (bits : BitVec 8) (tb : BitVec 2) (s : State) : State :=
  if bits = 0 && tb = 0 then s else { s with twp := s.twp.map (twLatchPage n bits tb) }

/-- A valid frame's MSTAT reaches the latches: OV_TRIP and OC_TRIP (Table 15.3). -/
def twFrame (n : Nat) (mstat : BitVec 16) (s : State) : State :=
  twLatch n ((if mstat.getLsbD 14 then 0x20 else 0) ||| (if mstat.getLsbD 15 then 0x10 else 0)) 0 s

/-- CML on the port's page; on every page while PAGE is 0xFF (R336; log entry 33). -/
def twCml (t : Twp) : Twp :=
  if t.page.toNat < 192 then twLatchPage t.page.toNat 0x02 0 t
  else twAlert { t with status := t.status.map (· ||| 0x02), alertDone := false }

/-! Number formats (R336). -/

/-- m × 2^e rounded to an integer with its sign. -/
def roundFV (neg : Bool) (m : Nat) (e : Int) : Int := let n : Int := rndInt m e; if neg then -n else n

/-- The mantissa of LINEAR11 at exponent `x`, if it fits. -/
def mant11 (neg : Bool) (m : Nat) (e x : Int) : Option Int :=
  let v := roundFV neg m (e - x)
  if -1024 ≤ v && v ≤ 1023 then some v else none

/-- LINEAR11 (R336): the smallest exponent whose mantissa fits; none for a value that no exponent takes. -/
def linear11 (w : FV) : Option (BitVec 16) :=
  match w with
  | .fin neg m e =>
    ((List.range 32).map fun (k : Nat) => (k : Int) - 16).findSome? fun x => (mant11 neg m e x).map fun v =>
      (BitVec.ofInt 5 x) ++ (BitVec.ofInt 11 v)
  | _ => none

/-- LINEAR16 with exponent −6, clamped (R336). -/
def linear16 (w : FV) : Option (BitVec 16) :=
  match w with
  | .fin neg m e => some (BitVec.ofNat 16 (min 65535 (max 0 (roundFV neg m (e + 6)))).toNat)
  | _ => none

/-- Counts × SCALE as an exact value (R193, R336). -/
def scaled (scale : W) (x : Int) : FV := fvMul (.fin (x < 0) x.natAbs 0) (f32 scale)

end Sys2Proof.Machine
end

