-- ==== Sys2Proof/Machine/ClockRows.lean ====
section
/-!
DEFINITION. The clock and time unit's events: sync words, nudging, stepping, the loss and return of the reference, the clock
monitors and the first part of a wake (R21 to R33).
-/
namespace Sys2Proof.Machine

/-- The alignment source at class UC; its payload and code are not stated (a free value). -/
def alignFail (s : State) : State := (ctuMon 5 s).raiseC 972 .uc

/-- One step of TC, TS and tick phase to the reference's tick (R27): the blocks of the recorder close (R232), and both records
carry the old and the new TS. The event record's TS is the new one, and its payload, code and task hold bits 31:0, 47:32 and
63:48 of the old one (log entry 35). -/
def timeStep (refTick : BitVec 64) (s : State) : State :=
  let old := s.clk.ts
  let s1 := closeAll false s
  let s2 := { s1 with clk := { s1.clk with
    ts := 50 * refTick, tc := refTick.truncate 48, notAligned := false, offs := [], outEpochs := 0 } }
  let s3 := rowsAgain s2
  let s4 := note 0x0A 0 [lo32 old, hi32 old, lo32 s3.clk.ts, hi32 s3.clk.ts] [0, 1, 2] s3
  (ctuMon 6 s4).raise 972 .uc ((old >>> 32).toNat % 65536) (lo32 old) 0x1FF ((old >>> 48).toNat)

/-- The path delay that the CTU subtracts (R24, R343, R354), in ps: the DELAY_ACC that arrives on the upstream port, or the pair
link's one-way delay (log entry 35). -/
def pathDelay (s : State) : Nat :=
  match s.clk.refsel with
  | .xtal => 0
  | .pair => 1000 * s.prl.delay
  | _ => s.jnb.delay.toNat

/-- An offset from the reference (R26 to R28): it joins the epoch's average; beyond half a tick the device steps, or refuses to.
Only the dispatch of a loop or supervisory release releases a task: a service of a sequence is none (log entry 63). -/
def offsetMeasured (offsetPs : Int) (refTick : BitVec 64) (s : State) : State :=
  let s1 := { s with clk := { s.clk with offs := offsetPs :: s.clk.offs } }
  if offsetPs.natAbs > 250000 || s1.clk.notAligned then
    (if !s1.clk.released then (if offsetPs.natAbs > 250000 then timeStep refTick s1 else s1)
     else if s1.clk.notAligned then s1
     else alignFail { s1 with clk := { s1.clk with notAligned := true } })
  else s1

/-- SYNC_MEASURE (R24): the operand is the local tick start minus the arrival of the sync word, in ps; the path delay is
subtracted from the arrival. -/
def syncMeasure (rawPs : Int) (refTick : BitVec 64) (s : State) : State :=
  if clockRuns s && s.clk.refsel != .xtal then offsetMeasured (rawPs + pathDelay s) refTick s else s

/-- SYNC_MEASURE. -/
def execSyncMeasure (rawPs : Int) (refTick : BitVec 64) (s : State) : Host.Outcome State Fault Refusal :=
  done (syncMeasure rawPs refTick s)

/-- The epoch's average, rounded towards minus infinity (log entry 35). -/
def offsMean (l : List Int) : Int := floorDiv (l.foldl (· + ·) (0 : Int)) l.length

/-- CTU_ALIGN's OFFSET saturates (Table 2.7). -/
def satOffset (x : Int) : Int := max (-524287) (min 524287 x)

/-- An epoch boundary of the CTU (R25, R26, R28): the average is taken, a nudge begins, and ten epochs outside ±40 ns raise
ALIGN_FAIL. A nudge moves ROOT towards the reference: earlier when the local tick start is late. An epoch without an offset
neither counts among the ten nor ends their run (log entry 18). -/
def alignEpoch (s : State) : State :=
  if clockRuns s then
    let c := s.clk
    if c.offs.isEmpty then { s with clk := { c with alignValid := false, nudgeDir := 0 } }
    else
      let m := offsMean c.offs
      let sum : Int := c.offs.foldl (· + ·) 0
      let big := sum.natAbs > 210 * c.offs.length
      let out := if sum.natAbs ≤ 40000 * c.offs.length then 0 else c.outEpochs + 1
      let s1 := { s with clk := { c with
        alignValid := true, alignOffset := satOffset m, aligned := decide (out = 0), outEpochs := out, offs := []
        nudges := if big then c.nudges + 1 else c.nudges
        nudgeDir := if big then (if sum > 0 then -1 else 1) else 0 } }
      if out = 10 && !c.notAligned then alignFail s1 else s1
  else s

/-- ALIGN_NUDGE (R25): at an epoch boundary (R22), whose tick has not yet taken the offsets (log entry 9). -/
def execAlignNudge (s : State) : Host.Outcome State Fault Refusal :=
  done (if s.tcMod 2000 = 0 && !s.clk.offs.isEmpty then alignEpoch s else s)

/-- ALIGN_FAIL (R28): the epoch boundary that finds the average outside ±40 ns for the tenth epoch, its tick not yet having taken
the offsets (log entry 9); a refused step raises it in SYNC_MEASURE. -/
def execAlignFail (s : State) : Host.Outcome State Fault Refusal :=
  done (if s.tcMod 2000 = 0 && !s.clk.offs.isEmpty && s.clk.outEpochs = 9 then alignEpoch s else s)

/-- REF_LOST (R29). -/
def execRefLost (s : State) : Host.Outcome State Fault Refusal :=
  done (if clockRuns s && s.clk.refsel != .xtal then refLost s else s)

/-- REF_RETURN (R29): only the reference that R24 gives the device is taken. -/
def execRefReturn (src : RefSel) (s : State) : Host.Outcome State Fault Refusal :=
  done (if clockRuns s && src != .xtal && refWanted s == src then setRef src s else s)

/-- A clock condition of class FE (R32, Table 2.3). -/
def clockFault (bit src : Nat) (s : State) : State := (ctuMon bit s).raiseC src .fe

/-- LOCK_LOSS (R32). -/
def execLockLoss (s : State) : Host.Outcome State Fault Refusal :=
  done (if s.clk.rootLock then clockFault 1 968 { s with clk := { s.clk with rootLock := false } } else s)

/-- RATIO_ERR (R32). -/
def execRatioErr (s : State) : Host.Outcome State Fault Refusal :=
  done (if s.clk.tickRun then clockFault 2 969 s else s)

/-- XTAL_STOP (R32). -/
def execXtalStop (s : State) : Host.Outcome State Fault Refusal :=
  done (if s.clk.chip = .reset then s else clockFault 3 970 s)

/-- The bit of CTU_WAKE that enables a source (Table 2.9). -/
def wakeBit : WakeSrc → Nat
  | .tw p => p.val
  | .pcie => 4
  | .shaft => 5

/-- WAKE_EVENT (R31, R333): an enabled source starts the PLL; a two-wire match is not acknowledged and sets DORMANT_NAK. -/
def wakeEvent (src : WakeSrc) (s : State) : State :=
  if s.clk.chip = .dormant && s.clk.wake.getLsbD (wakeBit src) then
    let s1 := match src with
      | .tw p => twEvt p.val 0 (s.modTw p.val fun t => { t with acked := false, out := [], st := 5 })
      | _ => s
    { s1 with clk := { s1.clk with waking := s1.clk.waking || !s1.clk.tickRun } }
  else s

/-- WAKE_EVENT. -/
def execWakeEvent (src : WakeSrc) (s : State) : Host.Outcome State Fault Refusal := done (wakeEvent src s)

/-- The first TS at or after `ts`, in steps of one crystal cycle, that is a multiple of 50 (R30, R31). -/
def wakeTs (ts : TS) : Nat → TS
  | 0 => ts
  | n + 1 => if ts.toNat % 50 = 0 then ts else wakeTs (ts + 4) n

/-- WAKE_DIVIDERS_RESTART (R31). -/
def dividersRestart (s : State) : State :=
  if s.clk.chip = .dormant && s.clk.waking then
    let ts := wakeTs s.clk.ts 25
    { s with clk := { s.clk with
      waking := false, rootLock := true, tickRun := true, ts := ts, tc := BitVec.ofNat 48 (ts.toNat / 50) } }
  else s

/-- WAKE_DIVIDERS_RESTART. -/
def execWakeDividersRestart (s : State) : Host.Outcome State Fault Refusal := done (dividersRestart s)

/-- SNAP (R33). -/
def ctuSnap (s : State) : State := { s with clk := { s.clk with snapTc := s.clk.tc, snapTs := s.clk.ts } }

/-- CTU_SNAP (R33): never mirrored (R358); discarded on a STANDBY (Table 17.1) and in DORMANT (R474). -/
def execCtuSnap (s : State) : Host.Outcome State Fault Refusal :=
  done (if s.clk.chip = .reset then s
    else if s.clk.chip = .dormant || s.prl.role = .standby then roWr s else ctuSnap s)

/-- A write of ALIGN_EN (Table 2.6): ignored in RUN. -/
def alignEnWrite (en : Bool) (s : State) : State :=
  if s.clk.chip = .run then s else followRef { s with clk := { s.clk with alignEn := en } }

/-- CTU_ALIGN_EN_WRITE (R24). -/
def execCtuAlignEnWrite (en : Bool) (s : State) : Host.Outcome State Fault Refusal :=
  done (hostWrite 0x1004 4 [flag en 1] (alignEnWrite en) s)

end Sys2Proof.Machine
end

