-- ==== Sys2Proof/Machine/TwRows.lean ====
section
/-!
DEFINITION. The two-wire ports: the PMBus target (R336, R337), ALERT and Host Notify (R334, R335), transfers as controller
(R329 to R331), the target's timeouts (R332) and the configuration registers (R327, R328).
-/
namespace Sys2Proof.Machine

/-! The target. -/

/-- The port serves a transaction addressed to it (R327, R333). -/
def twServes (s : State) (p : Nat) : Bool :=
  let t := s.tw p
  clockRuns s && s.prl.role != .standby && twTarget t.cfg && !(twAddrs t.cfg t.addr).isEmpty

/-- A transaction that is not acknowledged. -/
def twNak (p : Nat) (s : State) : State := s.modTw p fun t => { t with acked := false, out := [] }

/-- A transaction addressed to the port: in DORMANT it wakes the device (R333), else `f` serves it at the address used, one of
those that match (log entry 33). -/
def twServe (p : Nat) (f : Nat → State → State) (s : State) : State :=
  if s.clk.chip = .dormant then
    (if twTarget (s.tw p).cfg && !(twAddrs (s.tw p).cfg (s.tw p).addr).isEmpty then wakeEvent (.tw (Fin.ofNat 4 p)) (twNak p s)
     else twNak p s)
  else if twServes s p then
    (match twAddrs (s.tw p).cfg (s.tw p).addr with
     | [a] => f a s
     | l =>
       let (k, s1) := s.draw 0 (l.length - 1)
       f (lat l k 0) s1)
  else twNak p s

/-- Not acknowledged at its command byte, CML (R336). -/
def twReject (p : Nat) (s : State) : State := (twNak p s).modTw p twCml

/-- A read: the bytes, and the PEC that follows them (R337). -/
def twReply (p a code : Nat) (bs : List Byte) (s : State) : State :=
  let pec := crc8From 0 ([BitVec.ofNat 8 (2 * a), BitVec.ofNat 8 code, BitVec.ofNat 8 (2 * a + 1)] ++ bs)
  s.modTw p fun t => { t with acked := true, acks := t.acks + 1, out := bs ++ [pec] }

/-- A write: with PEC_REQ a missing or wrong PEC discards it and sets CML and PEC_ERR (R337). -/
def twWrite (p a code : Nat) (data : List Byte) (pec : Option Byte) (f : State → State) (s : State) : State :=
  let s1 := s.modTw p fun t => { t with acked := true, acks := t.acks + 1, out := [] }
  let good := pec == some (crc8From 0 ([BitVec.ofNat 8 (2 * a), BitVec.ofNat 8 code] ++ data))
  if (s.tw p).cfg.bit 15 && !good then twEvt p 5 (s1.modTw p twCml) else f s1

/-- A read that does not depend on PAGE. -/
def twFixed (p code : Nat) (bs : List Byte) (s : State) : State := twServe p (fun a s => twReply p a code bs s) s

/-- A read of the selected channel; PAGE 0xFF is accepted for CLEAR_FAULTS alone (R336; log entry 33). -/
def twPaged (p code : Nat) (f : State → Nat → List Byte × State) (s : State) : State :=
  twServe p (fun a s =>
    let n := (s.tw p).page.toNat
    if n < 192 then
      let (bs, s1) := f s n
      twReply p a code bs s1
    else twReject p s) s

/-- The two bytes of a word, low byte first. -/
def word2 (w : BitVec 16) : List Byte := [w.extractLsb' 0 8, w.extractLsb' 8 8]

/-- A block of characters with its count. -/
def block (l : List Nat) : List Byte := BitVec.ofNat 8 l.length :: l.map (BitVec.ofNat 8)

/-- A number in its format; one that the format cannot hold is not stated (a free value). -/
def twNumber (v : Option (BitVec 16)) (s : State) : List Byte × State :=
  match v with
  | some w => (word2 w, s)
  | none =>
    let (k, s1) := s.draw 0 65535
    (word2 (BitVec.ofNat 16 k), s1)

/-- STATUS_BYTE of a channel (Table 15.3). -/
def statusByte (s : State) (p n : Nat) : Byte :=
  let st := (s.ch n).st
  let b := vat (s.tw p).status n 0 &&& 0x36
  let b := if st == .arming || st == .control then b else b ||| 0x40
  if st == .hold || st == .safe || st == .fenced then b ||| 0x01 else b

/-- STATUS_WORD of a channel (Table 15.2). -/
def statusWord (s : State) (p n : Nat) : BitVec 16 :=
  let l := vat (s.tw p).status n 0
  let hi : Byte := (if l.getLsbD 5 then 0x80 else 0) ||| (if l.getLsbD 4 then 0x40 else 0) |||
    (if (s.ch n).st == .control then 0 else 0x08)
  hi ++ statusByte s p n

/-- One latched bit as bit 7. -/
def latchByte (s : State) (p n k : Nat) : Byte := if (vat (s.tw p).status n 0).getLsbD k then 0x80 else 0

/-- A measurement of a channel in its unit (R336). -/
def measured (s : State) (n k : Nat) (v : BitVec 16) : FV := scaled (tieScale s n k) (sx16 v)

/-- A thermal node of a channel (R299). -/
def nodeOf (s : State) (n k : Nat) : FV := f32 (vat (vat s.tmu.ch n Therm.init).t k 0)

/-- PAGE (R336). -/
def execPage (p : Fin 4) (wr : Option Byte) (pec : Option Byte) (s : State) : Host.Outcome State Fault Refusal :=
  done (twServe p.val (fun a s => match wr with
    | none => twReply p.val a 0x00 [(s.tw p.val).page] s
    | some v =>
      if v.toNat < 192 || v = 0xFF then twWrite p.val a 0x00 [v] pec (fun s => s.modTw p.val fun t => { t with page := v }) s
      else twReject p.val s) s)

/-- CLEAR_FAULTS of a page, or of every page (R336, R337). -/
def clearLatches (t : Twp) : Twp :=
  if t.page = 0xFF then twAlert { t with status := Vector.replicate 192 0, temp := Vector.replicate 192 0 }
  else twAlert { t with status := vput t.status t.page.toNat 0, temp := vput t.temp t.page.toNat 0 }

/-- CLEAR_FAULTS (R337). -/
def execClearFaults (p : Fin 4) (pec : Option Byte) (s : State) : Host.Outcome State Fault Refusal :=
  done (twServe p.val (fun a s => twWrite p.val a 0x03 [] pec (fun s => s.modTw p.val clearLatches) s) s)

/-- CAPABILITY (Table 15.2). -/
def execCapability (p : Fin 4) (s : State) : Host.Outcome State Fault Refusal := done (twFixed p.val 0x19 [0xD0] s)

/-- VOUT_MODE (Table 15.2). -/
def execVoutMode (p : Fin 4) (s : State) : Host.Outcome State Fault Refusal := done (twFixed p.val 0x20 [0x1A] s)

/-- STATUS_BYTE (Table 15.3). -/
def execStatusByte (p : Fin 4) (s : State) : Host.Outcome State Fault Refusal :=
  done (twPaged p.val 0x78 (fun s n => ([statusByte s p.val n], s)) s)

/-- STATUS_WORD (Table 15.2). -/
def execStatusWord (p : Fin 4) (s : State) : Host.Outcome State Fault Refusal :=
  done (twPaged p.val 0x79 (fun s n => (word2 (statusWord s p.val n), s)) s)

/-- STATUS_VOUT (Table 15.2). -/
def execStatusVout (p : Fin 4) (s : State) : Host.Outcome State Fault Refusal :=
  done (twPaged p.val 0x7A (fun s n => ([latchByte s p.val n 5], s)) s)

/-- STATUS_IOUT (Table 15.2). -/
def execStatusIout (p : Fin 4) (s : State) : Host.Outcome State Fault Refusal :=
  done (twPaged p.val 0x7B (fun s n => ([latchByte s p.val n 4], s)) s)

/-- STATUS_TEMPERATURE (Table 15.2). -/
def execStatusTemperature (p : Fin 4) (s : State) : Host.Outcome State Fault Refusal :=
  done (twPaged p.val 0x7D (fun s n => ([(vat (s.tw p.val).temp n 0) ++ (0 : BitVec 6)], s)) s)

/-- READ_VIN (Table 15.2). -/
def execReadVin (p : Fin 4) (s : State) : Host.Outcome State Fault Refusal :=
  done (twPaged p.val 0x88 (fun s n => twNumber (linear11 (measured s n 2 (s.ch n).mC)) s) s)

/-- READ_VOUT (Table 15.2). -/
def execReadVout (p : Fin 4) (s : State) : Host.Outcome State Fault Refusal :=
  done (twPaged p.val 0x8B (fun s n => twNumber (linear16 (measured s n 0 (s.ch n).mA)) s) s)

/-- READ_IOUT (Table 15.2). -/
def execReadIout (p : Fin 4) (s : State) : Host.Outcome State Fault Refusal :=
  done (twPaged p.val 0x8C (fun s n => twNumber (linear11 (measured s n 1 (s.ch n).mB)) s) s)

/-- READ_TEMPERATURE_1, the junction node (Table 15.2). -/
def execReadTemperature1 (p : Fin 4) (s : State) : Host.Outcome State Fault Refusal :=
  done (twPaged p.val 0x8D (fun s n => twNumber (linear11 (nodeOf s n 0)) s) s)

/-- READ_TEMPERATURE_2, the heatsink node (Table 15.2). -/
def execReadTemperature2 (p : Fin 4) (s : State) : Host.Outcome State Fault Refusal :=
  done (twPaged p.val 0x8E (fun s n => twNumber (linear11 (nodeOf s n 2)) s) s)

/-- PMBUS_REVISION (Table 15.2). -/
def execPmbusRevision (p : Fin 4) (s : State) : Host.Outcome State Fault Refusal := done (twFixed p.val 0x98 [0x33] s)

/-- MFR_ID, "KROVWYN" (Table 15.2). -/
def execMfrId (p : Fin 4) (s : State) : Host.Outcome State Fault Refusal :=
  done (twFixed p.val 0x99 (block [0x4B, 0x52, 0x4F, 0x56, 0x57, 0x59, 0x4E]) s)

/-- MFR_MODEL, "KV7192" (Table 15.2). -/
def execMfrModel (p : Fin 4) (s : State) : Host.Outcome State Fault Refusal :=
  done (twFixed p.val 0x9A (block [0x4B, 0x56, 0x37, 0x31, 0x39, 0x32]) s)

/-- MFR_REVISION, "B1" (Table 15.2). -/
def execMfrRevision (p : Fin 4) (s : State) : Host.Outcome State Fault Refusal :=
  done (twFixed p.val 0x9B (block [0x42, 0x31]) s)

/-- PMBUS_UNSUPPORTED (R336). -/
def execPmbusUnsupported (p : Fin 4) (_code : Byte) (s : State) : Host.Outcome State Fault Refusal :=
  done (twServe p.val (fun _ s => twReject p.val s) s)

/-- ALERT_RESPONSE (R335): the port answers while it drives ALERT. -/
def execAlertResponse (p : Fin 4) (s : State) : Host.Outcome State Fault Refusal :=
  done (if twServes s p.val && (s.tw p.val).alertOut then
      s.modTw p.val fun t => twAlert { t with
        acked := true, acks := t.acks + 1, out := [BitVec.ofNat 8 (2 * twLowest t)], alertDone := true }
    else twNak p.val s)

/-- TW_TARGET_TIMEOUT (R332): the port releases both lines. -/
def execTwTargetTimeout (p : Fin 4) (sdaCase : Bool) (s : State) : Host.Outcome State Fault Refusal :=
  done (if twServes s p.val && (sdaCase || (s.tw p.val).cfg.bit 14) then
      twEvt p.val 3 (s.modTw p.val fun t => { t with st := if t.st = 2 then 0 else t.st, out := [] })
    else s)

/-! The controller. -/

/-- The port may start a transaction (R327). -/
def twActs (s : State) (p : Nat) : Bool := clockRuns s && s.prl.role != .standby && twController (s.tw p).cfg

/-- An attempt starts: the first START is the point of no return (R329). -/
def twStart (p : Nat) (s : State) : State :=
  match (s.tw p).xfer with
  | some x =>
    if twActs s p then
      kFix (some x.tag) (s.modTw p fun t => { t with st := 1, xfer := some { x with attempts := x.attempts + 1 } })
    else s
  | none => s

/-- The bus is idle, both lines high: a waiting configuration applies, and a transfer that waits starts (R327, R330). -/
def twIdle (p : Nat) (s : State) : State := twStart p (s.modTw p fun t => twAlert { twApply t with st := 0, sclIn := true, sdaIn := true })

/-- The attempt is over for good (R329): TW_XFER completes and the next one waits for the bus. -/
def twFinish (p res r1 : Nat) (st : BitVec 4) (s : State) : State :=
  match (s.tw p).xfer with
  | some x =>
    let s1 := s.modTw p fun t => { t with st := st, xfer := t.queue.head?, queue := t.queue.tail }
    let s2 := kEndTag (some x.tag) stOk (nw res) (nw r1) (nw x.attempts) s1
    if st = 0 then twIdle p s2 else s2
  | none => s

/-- The bytes read go to the host buffer from offset WLEN (R329). -/
def twStore (x : TwXfer) (rd : List Byte) (s : State) : State :=
  match kByTag s x.tag with
  | some k => { s with host := Memory.writeN s.host ((k.buf 5).1 + x.wlen) (rd.take x.rlen) }
  | none => s

/-- The transfer in progress on the bus. -/
def twRunning (s : State) (p : Nat) : Option TwXfer := (s.tw p).xfer.filter fun _ => (s.tw p).st == 1

/-- What the port sends after the address (R329): WLEN bytes of the buffer, and in a write alone the PEC that ends it. -/
def twSent (x : TwXfer) : List Byte :=
  let bs := x.buf.take x.wlen
  if x.pec && x.rlen = 0 && !x.block then bs ++ [crc8From 0 (BitVec.ofNat 8 (2 * x.addr.toNat) :: bs)] else bs

/-- TW_TRANSFER_END (R329). -/
def twEnd (p : Nat) (res : TwRes) (s : State) : State :=
  match twRunning s p with
  | none => s
  | some x =>
    let drove := fun (bs : List Byte) => s.modTw p fun t => { t with out := bs }
    match res with
    | .done rd => twFinish p 0 (min rd.length x.rlen) 0 (twStore x rd (drove (twSent x)))
    | .nackAddr => twFinish p 1 0 0 (drove [])
    | .nackData i => twFinish p 2 i 0 (drove ((twSent x).take (i + 1)))
    | .pecErr rd => twFinish p 6 (min rd.length x.rlen) 0 (twEvt p 5 (twStore x rd (drove (twSent x))))

/-- TW_TRANSFER_END. -/
def execTwTransferEnd (p : Fin 4) (res : TwRes) (s : State) : Host.Outcome State Fault Refusal := done (twEnd p.val res s)

/-- TW_BUS_IDLE (R327, R330). -/
def execTwBusIdle (p : Fin 4) (s : State) : Host.Outcome State Fault Refusal :=
  done (if clockRuns s && (s.tw p.val).st != 1 then twIdle p.val s else s)

/-- A Host Notify waits and the port may send it. -/
def twNotifies (s : State) (p : Nat) : Bool := twActs s p && (s.tw p).notify.isSome

/-- ARB_LOST (R330): a port with MODE BOTH serves a winner that addresses it. A Host Notify whose third retry has lost is dropped (R334;
log entry 33). -/
def arbLost (p : Nat) (winner : Option (BitVec 7)) (s : State) : State :=
  let t := s.tw p
  let st : BitVec 4 := match winner with
    | some a => if twTarget t.cfg && twMatch t.cfg t.addr a.toNat then 2 else 3
    | none => 3
  let lose := fun (s : State) => twEvt p 1 (s.modTw p fun t => { t with losses := t.losses + 1, st := st })
  match twRunning s p with
  | some x =>
    let s1 := (lose s).modTw p fun t => { t with xfer := some { x with losses := x.losses + 1 } }
    if x.losses + 1 ≥ 4 then twFinish p 3 0 st s1 else s1
  | none => match (s.tw p).notify with
    | some (w, n, k) =>
      if !twNotifies s p then s
      else if k + 1 ≥ 4 then twEvt p 6 ((lose s).modTw p fun t => { t with notify := none })
      else (lose s).modTw p fun t => { t with notify := some (w, n, k + 1) }
    | none => s

/-- ARB_LOST. -/
def execArbLost (p : Fin 4) (winner : Option (BitVec 7)) (s : State) : Host.Outcome State Fault Refusal :=
  done (arbLost p.val winner s)

/-- TW_BUS_CLEAR (R331): SDA is freed after some pulses, or the attempt ends with STUCK and the source is raised. -/
def busClear (p : Nat) (pulses : Option (Fin 10)) (s : State) : State :=
  if twActs s p then
    match pulses with
    | some _ => twStart p (twEvt p 2 (s.modTw p fun t => { t with st := 0, sclIn := true, sdaIn := true }))
    | none => twFinish p 5 0 3 (((twEvt p 4 s).modTw p fun t => { t with sclIn := true, sdaIn := false }).raiseC (955 + p) .uc)
  else s

/-- TW_BUS_CLEAR. -/
def execTwBusClear (p : Fin 4) (pulses : Option (Fin 10)) (s : State) : Host.Outcome State Fault Refusal :=
  done (busClear p.val pulses s)

/-- TW_CONTROLLER_TIMEOUT (R331). -/
def execTwControllerTimeout (p : Fin 4) (s : State) : Host.Outcome State Fault Refusal :=
  done (if twActs s p.val && ((s.tw p.val).xfer.isSome || (s.tw p.val).notify.isSome) then
      twFinish p.val 4 0 (if (s.tw p.val).st = 1 then 0 else 3) (twEvt p.val 3 s)
    else s)

/-- HOST_NOTIFY (R334): sent and acknowledged, or refused and sent again at most three times; 1 ms after the one before at the
earliest. -/
def hostNotify (p : Nat) (acked : Bool) (s : State) : State :=
  if twNotifies s p && (s.tw p).notifyTick.all fun t => t + 2000 ≤ s.now then
    match (s.tw p).notify with
    | none => s
    | some (w, n, k) =>
      let bytes := fun (t : Twp) => [0x10, BitVec.ofNat 8 (2 * twLowest t), w.extractLsb' 0 8, w.extractLsb' 8 8]
      let s1 := s.modTw p fun t => { t with notifyTick := some s.now, out := bytes t }
      if acked then s1.modTw p fun t => { t with notify := none }
      else if n < 3 then s1.modTw p fun t => { t with notify := some (w, n + 1, k) }
      else twEvt p 6 (s1.modTw p fun t => { t with notify := none })
  else s

/-- HOST_NOTIFY. -/
def execHostNotify (p : Fin 4) (acked : Bool) (s : State) : Host.Outcome State Fault Refusal := done (hostNotify p.val acked s)

/-! TW_XFER (R329). -/

/-- Port of a TW_XFER. -/
def xferPort (k : KCmd) : Nat := (k.arg 3).bits 1 0

/-- The transfer that a TW_XFER asks for. -/
def xferOf (k : KCmd) (buf : List Byte) : TwXfer where
  tag := k.tag
  addr := (k.arg 4).extractLsb' 0 7
  wlen := (k.arg 4).bits 15 8
  rlen := (k.arg 4).bits 23 16
  block := (k.arg 3).bits 13 12 == 1
  pec := (k.arg 3).bit 8
  buf := buf
  attempts := 0
  losses := 0

/-- Execution of TW_XFER (R329): STATE on a port that is OFF or TARGET; a transfer behind another waits for it (R222). -/
def twXfer (buf : Option (List Byte)) (k : KCmd) (s : State) : State :=
  let p := xferPort k
  let x := xferOf k (buf.getD [])
  if !twController (s.tw p).cfg then kStatus k stState s
  else if (k.arg 3).bits 13 12 > 1 || (k.buf 5).2 < x.wlen + x.rlen then kStatus k stBadArg s
  else match buf with
    | none => kDma k s
    | some _ =>
      let s1 := kBegin k s
      if (s1.tw p).xfer.isSome then s1.modTw p fun t => { t with queue := t.queue ++ [x] }
      else
        let s2 := s1.modTw p fun t => { t with xfer := some x }
        if (s2.tw p).st = 0 then twStart p s2 else s2

/-- TW_XFER (R329). -/
def execTwXfer (tag : BitVec 16) (buf : Option (List Byte)) (s : State) : Host.Outcome State Fault Refusal :=
  done (kiosk 0x0803 tag (twXfer buf) s)

/-! Configuration (R327, R328). -/

/-- A TW_XFER on the port is accepted and not completed (R327). -/
def xferOpen (s : State) (p : Nat) : Bool := s.kio.accepted.any fun k => k.cmd == 0x0803 && xferPort k == p

/-- A new configuration: refused with CFG_ERR, or in effect at the next bus idle (R327, R328). -/
def twConfigure (p : Nat) (cfg addr : Option W) (s : State) : State :=
  let t := s.tw p
  let c := cfg.getD (t.cfgNext.getD t.cfg)
  let a := addr.getD (t.addrNext.getD t.addr)
  if (cfg.isSome && xferOpen s p && !twController c) || twRefused c a then twEvt p 7 s
  else
    let s1 := s.modTw p fun t => { t with cfgNext := cfg.orElse fun _ => t.cfgNext, addrNext := addr.orElse fun _ => t.addrNext }
    if t.st = 0 then s1.modTw p fun t => twAlert (twApply t) else s1

/-- A write to TWP_CFGn (Table 15.5). -/
def twpCfgWrite (p : Nat) (v : W) (s : State) : State := twConfigure p (some (v &&& 0xFF13)) none s
/-- A write to TWP_ADDRn (Table 15.6). -/
def twpAddrWrite (p : Nat) (v : W) (s : State) : State := twConfigure p none (some v) s

/-- TWP_CFG_WRITE (R327). -/
def execTwpCfgWrite (p : Fin 4) (v : W) (s : State) : Host.Outcome State Fault Refusal :=
  done (hostWrite (0x44000 + 0x100 * p.val) 4 [v] (twpCfgWrite p.val v) s)

/-- TWP_ADDR_WRITE (R328). -/
def execTwpAddrWrite (p : Fin 4) (v : W) (s : State) : Host.Outcome State Fault Refusal :=
  done (hostWrite (0x44004 + 0x100 * p.val) 4 [v] (twpAddrWrite p.val v) s)

end Sys2Proof.Machine
end

