-- ==== Sys2Proof/Machine/Door.lean ====
section
/-!
DEFINITION. The kiosk's door: the command catalogue (Table 9.6), the door tests (Table 9.5), credits, bounds and objects
(R218 to R226), fetching, the session and the doorbells (R211, R216, R217, R230), and how a LEAD mirrors an accepted command
(R359, R360). Argument layouts that the manual does not state are those of log entry 34.
-/
namespace Sys2Proof.Machine

/-! The catalogue. -/

/-- Class and first ABI version of a command (Table 9.6). -/
def cmdInfo (cmd : Nat) : Option (Nat × Nat) :=
  match cmd with
  | 0x0001 => some (0, 0x100)
  | 0x0002 => some (0, 0x100)
  | 0x0003 => some (1, 0x100)
  | 0x0004 => some (0, 0x200)
  | 0x0101 => some (2, 0x100)
  | 0x0201 => some (1, 0x100)
  | 0x0202 => some (0, 0x100)
  | 0x0203 => some (1, 0x100)
  | 0x0204 => some (0, 0x100)
  | 0x0205 => some (1, 0x100)
  | 0x0206 => some (1, 0x100)
  | 0x0207 => some (0, 0x100)
  | 0x0208 => some (2, 0x102)
  | 0x0209 => some (0, 0x102)
  | 0x0301 => some (2, 0x100)
  | 0x0302 => some (2, 0x100)
  | 0x0303 => some (2, 0x100)
  | 0x0304 => some (3, 0x103)
  | 0x0401 => some (1, 0x101)
  | 0x0402 => some (0, 0x101)
  | 0x0403 => some (1, 0x101)
  | 0x0404 => some (1, 0x101)
  | 0x0405 => some (0, 0x101)
  | 0x0406 => some (1, 0x101)
  | 0x0501 => some (2, 0x100)
  | 0x0502 => some (2, 0x201)
  | 0x0503 => some (1, 0x100)
  | 0x0601 => some (2, 0x100)
  | 0x0602 => some (2, 0x203)
  | 0x0603 => some (2, 0x203)
  | 0x0701 => some (3, 0x100)
  | 0x0702 => some (2, 0x100)
  | 0x0703 => some (2, 0x202)
  | 0x0704 => some (2, 0x100)
  | 0x0705 => some (1, 0x100)
  | 0x0706 => some (2, 0x100)
  | 0x0801 => some (1, 0x100)
  | 0x0802 => some (1, 0x100)
  | 0x0803 => some (2, 0x100)
  | 0x0804 => some (2, 0x100)
  | _ => none

/-- The commands that a STANDBY accepts (R223). -/
def standbyCmd (cmd : Nat) : Bool := [0x0001, 0x0002, 0x0003, 0x0301, 0x0602, 0x0404, 0x0405, 0x0406].contains cmd

/-- The commands that a LEAD mirrors: those that change state (R223, R359). CANCEL is mirrored with what it ends; the export
commands act on the device's own host, and READMIT goes to the STANDBY when it says so (R384). -/
def mirroredCmd (cmd : Nat) (w3 : W) : Bool := !(standbyCmd cmd) && (cmd != 0x0501 || w3.bit 12)

/-- The ABI version opened, as MAJOR:MINOR. -/
def abiOf (s : State) : Nat := 256 * s.kio.major.toNat + s.kio.minor.toNat

/-! Arguments. -/

/-- Argument word `i` of an entry. -/
def argW (w : List W) (i : Nat) : W := lat w i 0

/-- The loop task whose grant index 0 is channel `n`: its owner before one that reads it (R104, R119; log entry 41). -/
def taskOfCh (s : State) (n : Nat) : Option Task :=
  s.adm.img.bind fun g => (g.tasks.find? fun t => t.profile == .l && t.chans.head? == some (true, n)).or
    (g.tasks.find? fun t => t.profile == .l && boundCh t == some n)

/-- The Feed instance of channel `n` (R260). -/
def feedOfCh (s : State) (n : Nat) : Option Task := (taskOfCh s n).filter fun t => libId t == libFeed

/-- The tiers that the EXPORT section in force declares for stream `i` (R245). -/
def strmTiers (s : State) (i : Nat) : Option Nat :=
  s.adm.img.bind fun g => ((exportStreams g.exports).find? fun x => x.2.1 == i).map (·.1)

/-- A unit that READMIT names, in range (R384). -/
def unitInRange (w : W) : Bool :=
  let i := w.bits 7 0
  match w.bits 11 8 with
  | 0 => i < 48
  | 1 => i < 4
  | 2 => i < 4
  | 3 => i < 64
  | 4 => i < 8
  | 5 => w.bit 12
  | _ => false

/-- EVENT_CFG's word on one source (R380). -/
def cfgFits (n : Nat) (v : W) : Bool :=
  if srcKind n = 1 then !(v.bit 18 || v.bit 19 || v.bit 20 || v.bit 21 || v.bit 23 || v.bit 24 || v.bit 25)
  else (!v.bit 20 || offersFence n) && (!v.bit 19 || offersSafe n) && (!v.bit 23 || offersBrst n)

/-- The range and word of an EVENT_CFG (R380). -/
def eventCfgOk (w3 v : W) : Bool :=
  let a := w3.bits 9 0
  let b := w3.bits 25 16
  a ≤ b && !(1 ≤ v.bits 31 26 && v.bits 31 26 ≤ 5) && (List.range (b + 1 - a)).all fun k => cfgFits (a + k) v

/-- The window words of TRIG_ARM lie in the declared window (Table 10.6). -/
def armWinOk (g : Trig) (w : List W) : Bool :=
  (List.range 3).all fun t =>
    let v := argW w (4 + t)
    let (pre, post) := lat (declWin g) t (0, 0)
    v = 0 || (v.bits 15 0 ≤ pre && v.bits 31 16 ≤ post)

/-- Door test 3: arguments in range and objects that exist (Table 9.5; log entry 34). -/
def argsOk (s : State) (cmd : Nat) (w : List W) : Bool :=
  let w3 := argW w 3
  let declared := (chanDecl s (w3.bits 7 0)).isSome
  let task := taskNo s (w3.bits 15 0)
  let words := 1 ≤ (argW w 5).toNat && (argW w 5).toNat ≤ 10
  let trig := vat s.bbr.trig (w3.bits 4 0) Trig.init
  match cmd with
  | 0x0201 => declared
  | 0x0202 => declared
  | 0x0203 => declared
  | 0x0204 => declared
  | 0x0205 => (taskOfCh s (w3.bits 7 0)).isSome
  | 0x0206 => task.any fun t => words && (argW w 4).toNat + (argW w 5).toNat ≤ t.paramLen
  | 0x0207 => words && w3.toNat + (argW w 5).toNat ≤ 1048576
  | 0x0208 => task.any fun t => (if w3.bit 16 then t.t1Log2 else t.t0Log2) != 0 && (tableRec t (if w3.bit 16 then 1 else 0)).isSome
  | 0x0209 => task.any fun t => t.profile == .s
  | 0x0301 => w3.toNat < 64 && 1 ≤ (argW w 4).bits 23 16
  | 0x0302 => w3.toNat < 64 && 1 ≤ (argW w 4).bits 23 16 && (argW w 4).bits 23 16 ≤ 254
  | 0x0303 => w3.bits 7 0 < 192 && (argW w 5).toNat ≤ 64
  | 0x0304 => w3.bits 7 0 < 64 && w3.bits 15 8 < 3 && 1 ≤ (argW w 4).toNat && (argW w 4).toNat ≤ 65535
  | 0x0401 => trig.decl && armWinOk trig w
  | 0x0402 => trig.decl
  | 0x0404 => (strmTiers s (w3.bits 1 0)).isSome && (argW w 4).bits 15 0 = 0 && 4 ≤ (argW w 6).bits 3 0 && (argW w 6).bits 3 0 ≤ 12 &&
      (argW w 7).bits 4 0 = 0
  | 0x0501 => unitInRange w3
  | 0x0503 => eventCfgOk w3 (argW w 4)
  | 0x0602 => (recFind s (w3.extractLsb' 0 16)).isSome
  | 0x0701 => (argW w 4).toNat % 4096 = 0
  | 0x0801 => (feedOfCh s (w3.bits 7 0)).isSome && (argW w 4).bits 1 0 ≤ 2
  | 0x0802 => (argW w 4).bits 1 0 != 0
  | 0x0803 => w3.bits 13 12 ≤ 1 && (argW w 4).bits 15 8 + (argW w 4).bits 23 16 ≤ (argW w 7).toNat
  | _ => true

/-- A command's object, if it has one (R222): kind and number. 0 channel, 1 task, 2 link, 3 sequence, 4 record, 5 unit,
6 stream, 7 image, 8 plan, 9 update, 10 ledger, 11 port, 12 trigger. -/
def objOf (s : State) (cmd : Nat) (w : List W) : Option (Nat × Nat) :=
  let w3 := argW w 3
  match cmd with
  | 0x0101 => some (7, 0)
  | 0x0201 => some (0, w3.bits 7 0)
  | 0x0202 => some (0, w3.bits 7 0)
  | 0x0203 => some (0, w3.bits 7 0)
  | 0x0204 => some (0, w3.bits 7 0)
  | 0x0205 => some (1, (taskOfCh s (w3.bits 7 0)).elim 0xFFFF (·.num))
  | 0x0206 => some (1, w3.bits 15 0)
  | 0x0208 => some (4, ((taskNo s (w3.bits 15 0)).bind fun t => tableRec t (if w3.bit 16 then 1 else 0)).getD 0xFFFF)
  | 0x0209 => some (3, w3.bits 15 0)
  | 0x0302 => some (2, w3.bits 5 0)
  | 0x0303 => some (2, linkOf (w3.bits 7 0))
  | 0x0304 => some (2, w3.bits 5 0)
  | 0x0401 => some (12, w3.bits 4 0)
  | 0x0402 => some (12, w3.bits 4 0)
  | 0x0403 => some (12, w3.bits 4 0)
  | 0x0404 => some (6, w3.bits 1 0)
  | 0x0405 => some (6, w3.bits 1 0)
  | 0x0406 => some (6, w3.bits 1 0)
  | 0x0501 => some (5, 4096 * w3.bits 12 12 + 256 * w3.bits 11 8 + w3.bits 7 0)
  | 0x0502 => some (8, 0)
  | 0x0603 => some (4, w3.bits 15 0)
  | 0x0701 => some (9, 0)
  | 0x0702 => some (9, 0)
  | 0x0703 => some (9, 0)
  | 0x0704 => some (9, 0)
  | 0x0705 => some (9, 0)
  | 0x0706 => some (9, 0)
  | 0x0801 => some (1, (feedOfCh s (w3.bits 7 0)).elim 0xFFFF (·.num))
  | 0x0802 => some (10, w3.bits 5 0)
  | 0x0803 => some (11, w3.bits 1 0)
  | _ => none

/-! Bounds (R220, R226, R426). -/

/-- f_SCL of a port in kHz (Table 15.5). -/
def sclKHz (cfg : W) : Nat := match cfg.bits 9 8 with
  | 0 => 100
  | 1 => 400
  | _ => 1000

/-- The bound of a module command (Table 9.6). -/
def modBound (s : State) (l : Nat) : Nat :=
  if (s.lk l).version = 1 || (linkDecl s l).elim 0 (·.svcOut) = 0 then 100000 else 400

/-- The bound of a PARAM_WRITE in µs (R224): of a target longer than 50 µs, 50 µs and its 6 + W cycles. -/
def paramBound (t : Task) : Nat :=
  let mhz := if t.profile = .l then 1200 else 600
  if 6 + t.w ≤ 50 * mhz then 100 else 50 + ceilDiv (6 + t.w) mhz

/-- The bound of a command in µs; bounds that the manual does not state, and that of an ADMIT whose image is still in host memory
(R130), are free values. -/
def boundOf (cmd : Nat) (w : List W) (s : State) : Nat × State :=
  let w3 := argW w 3
  let drip := fun (n : Nat) => (n + updSlack s, s)
  match cmdInfo cmd with
  | some (0, _) => (4, s)
  | some (1, _) => (if cmd = 0x0206 then (taskNo s (w3.bits 15 0)).elim 100 paramBound else 100, s)
  | _ =>
    match cmd with
    | 0x0101 =>
      if w3.bit 0 then drip (admitBound (flashImage s (w3.bit 1)).1)
      else let (x, s1) := s.draw 0 1; ((if x = 0 then 300000 else 3000000) + updSlack s, s1)
    | 0x0208 => drip 1000
    | 0x0301 => drip (modBound s (w3.bits 5 0))
    | 0x0302 => drip (modBound s (w3.bits 5 0))
    | 0x0303 => drip 400
    | 0x0304 => drip (1000 + ceilDiv (argW w 4).toNat 2)
    | 0x0501 => drip 10000
    | 0x0502 => drip 300000
    | 0x0601 => drip (1600 * ((s.kio.accepted.filter fun k => k.cmd == 0x0601).length + 1))
    | 0x0602 => drip 1000
    | 0x0603 => drip 1000
    | 0x0701 => drip (2000 + 16000 * ceilDiv (argW w 7).toNat 4100)
    | 0x0702 =>
      let held := (manPartList s (stageMan s)).filter (holdsPart s)
      drip (5000 + ceilDiv (25000 * sumNat (held.map (·.len))) 1048576)
    | 0x0803 =>
      let n := (argW w 4).bits 15 8 + (argW w 4).bits 23 16 + 4
      drip (140000 + ceilDiv (36000 * n) (sclKHz (s.tw (w3.bits 1 0)).cfg))
    | _ => let (x, s1) := s.draw 1 0xFFFFFFFF; (x, s1)

/-- What remains of a command's bound in µs. -/
def KCmd.remains (s : State) (k : KCmd) : Nat := max 1 (k.bound - (s.clk.ts - k.ts).toNat / 100)

/-! Credits (R219). -/

/-- P2 and P3 operations outstanding (KIO_DRIP). -/
def dripCount (s : State) : Nat := (s.kio.accepted.filter fun k => !k.foreign && 2 ≤ k.ring.val).length

/-- The cells that wait in the mirror queue (R360). -/
def mirrorCells (s : State) : Nat :=
  sumNat ((s.prl.queue.filter fun x => !x.applied).map fun x => if x.isReg then 1 else 3)

/-- Door test 7 (R219, R360): the time to the next credit in µs, where one is missing. -/
def noCredit (s : State) (cls : Nat) (mirrored : Bool) : Option Nat :=
  if mirrored && mirrorCells s > 28 then some (max 1 (ceilDiv (ceilDiv (mirrorCells s) 14) 2))
  else match cls with
    | 0 => if s.kio.cred0 = 0 then some 1 else none
    | 1 => if s.kio.cred1 = 0 then some (max 1 ((20 - s.now % 20 + 1) / 2)) else none
    | _ => if dripCount s ≥ 16
        then some ((s.kio.accepted.filter fun k => !k.foreign && 2 ≤ k.ring.val).foldl (fun m k => min m (k.remains s)) 0xFFFFFFFF)
        else none

/-- One credit is taken. -/
def takeCredit (cls : Nat) (s : State) : State :=
  { s with kio := { s.kio with
    cred0 := if cls = 0 then s.kio.cred0 - 1 else s.kio.cred0
    cred1 := if cls = 1 then s.kio.cred1 - 1 else s.kio.cred1 } }

/-- An earlier uncompleted command on the same object (R222). -/
def objBusy (s : State) (cmd : Nat) (w : List W) : Option KCmd :=
  if cmd = 0x0202 then none
  else (objOf s cmd w).bind fun o => s.kio.accepted.find? fun k => objOf s k.cmd k.words == some o

/-- The boot image waits for its admission (R440, R442): the firmware came from the flash, which holds one. -/
def bootWaits (s : State) : Bool :=
  s.kio.fwReady && !s.boot.fromHost && !s.boot.imageDone && (activePart s 2).isSome && s.adm.img.isNone && s.upe.phase != .confirming

/-- An admission runs or is about to (R129, R442). -/
def admBusy (s : State) : Bool := s.adm.run.isSome || bootWaits s

/-- What remains of that admission's bound in µs (R130, R442): before it starts, the waits of R440 too. -/
def admRemains (s : State) : Nat :=
  let bound := fun (k : Nat) => if k = 2 then 3000000 else 300000
  match s.adm.run with
  | some r => max 1 (bound r.img.fenceK - (s.now - r.start) / 2)
  | none => max 1 (100000 + admitBound (flashImage s s.upe.imgSlot).1 - (s.now - s.boot.fwTick) / 2)

/-- The command is mirrored to the STANDBY (R359). -/
def mirrors (s : State) (cmd : Nat) (w : List W) : Bool := s.prl.role == .lead && pairFormed s && mirroredCmd cmd (lat w 3 0)

/-- The door tests in order (Table 9.5): the failing status with its retry-after in µs. -/
def doorFails (s : State) (q : Nat) (cmd : Nat) (w : List W) : Option (Nat × Nat) :=
  match cmdInfo cmd with
  | none => some (stBadCmd, 0)
  | some (cls, since) =>
    if abiOf s < since then some (stBadCmd, 0)
    else if (argW w 1).bits 31 30 ≠ cls ∨ cls ≠ q then some (stWrongRing, 0)
    else if !argsOk s cmd w then some (stBadArg, 0)
    else if s.prl.role = .standby && !standbyCmd cmd then some (stStandby, 0)
    else match s.kio.handover with
      | some h => some (stBusyHandover, max 1 ((h - s.now + 1) / 2))
      | none =>
        if s.nvs.recalling && (cmd / 256 = 6 || cmd = 0x0208) then some (stNotReady, max 1 ((8000 - s.now + 1) / 2))
        else match noCredit s cls (mirrors s cmd w) with
          | some t => some (stRetry, t)
          | none =>
            if cmd = 0x0101 && admBusy s then some (stBusy, admRemains s)
            else (objBusy s cmd w).map fun k => (stBusy, k.remains s)

/-- An accepted CH_STOP ends the uncompleted CH_START and CH_RESTART of its channel (R222). -/
def stopCancels (w : List W) (s : State) : State :=
  (s.kio.accepted.filter fun k => (k.cmd == 0x0201 || k.cmd == 0x0203) && k.chan == (argW w 3).bits 7 0).foldl
    (fun s k => kStatus k stCancelled s) s

/-- A command is accepted (R218, R220): a credit is taken, ABI 2.0 writes ACCEPTED, a LEAD puts it in the mirror queue. -/
def doorAccept (q : Fin 4) (cmd : Nat) (w : List W) (s0 : State) : State :=
  let tag := (argW w 0).extractLsb' 0 16
  let s1 := takeCredit q.val (if cmd = 0x0202 then stopCancels w s0 else s0)
  let (bound, s2) := boundOf cmd w s1
  let h := s2.kio.nextHandle
  let s3 := if 2 ≤ q.val then { s2 with kio := { s2.kio with nextHandle := h + 1 } } else s2
  let m := if mirrors s3 cmd w then some s3.prl.mseq else none
  let k : KCmd := ⟨cmd, tag, q, w, s3.clk.ts, bound, if 2 ≤ q.val then h else 0, false, false, [], m, false, false, false, 0⟩
  let s4 := { s3 with kio := { s3.kio with accepted := s3.kio.accepted ++ [k] } }
  let s5 := match m with
    | some n => { s4 with prl := { s4.prl with
        mseq := n + 1, queue := s4.prl.queue ++ [⟨n, false, w, s4.now + 2, some tag, false, none, none⟩] } }
    | none => s4
  if s5.kio.major ≥ 2 && 2 ≤ q.val then cplWrite q.val cmd tag stAccepted 0 0 (nw bound) h 0 s5 else s5

/-- Completions that CQq still owes to accepted commands (R217). -/
def cqOwed (s : State) (q : Nat) : Nat := (s.kio.accepted.filter fun k => !k.foreign && !k.mute && k.ring.val == q).length

/-- CQq has room for every completion that the next entry can produce (R217). -/
def cqRoom (s : State) (q : Nat) : Bool :=
  cqOwed s q + (if s.kio.major ≥ 2 && 2 ≤ q then 2 else 1) ≤ cqFree s q

/-- Fetch one entry of SQq (R216 to R218). -/
def fetchOne (q : Fin 4) (s : State) : State :=
  let r := vat s.kio.sq q.val SubRing.init
  match r.entries with
  | [] => s
  | w :: rest =>
    if cqRoom s q.val then
      let s1 := { s with kio := { s.kio with sq := vput s.kio.sq q.val { r with
        entries := rest, head := (r.head + 1) % ringLen r.size } } }
      let cmd := (argW w 0).bits 31 16
      match doorFails s1 q.val cmd w with
      | some (st, us) =>
        cplRetry q.val cmd ((argW w 0).extractLsb' 0 16) st us 0 0 0
          { s1 with kio := { s1.kio with refused := vmod s1.kio.refused q.val (· + 1) } }
      | none => doorAccept q cmd w s1
    else s

/-- One fetch round (R218). -/
def fetchRound (s : State) : State := fetchOne 3 (fetchOne 2 (fetchOne 1 (fetchOne 0 s)))

/-- Fetch rounds while entries wait. -/
def fetchN : Nat → State → State
  | 0, s => s
  | n + 1, s => fetchN n (fetchRound s)

/-- The kiosk fetches: a session is open and the device runs (R217). -/
def fetchAll (s : State) : State :=
  if s.kio.isOpen && s.clk.tickRun && (s.clk.chip == .run || s.clk.chip == .boot)
  then fetchN (s.kio.sq.foldl (fun n r => n + r.entries.length) 0) s else s

/-! The session and the doorbells. -/

/-- The ABI versions (Table 9.2). -/
def abiKnown (major minor : Nat) : Bool := (major = 1 && minor ≤ 3) || (major = 2 && minor ≤ 3)

/-- The ring registers as OPEN finds them (R211). -/
def ringsOk (k : Kio) : Bool :=
  let al := fun (b : BitVec 64) => b.toNat % 4096 == 0
  let sz := fun (z : BitVec 4) => 4 ≤ z.toNat && z.toNat ≤ 12
  k.sq.all (fun r => al r.base && sz r.size) && k.cq.all (fun r => al r.base && sz r.size) && al k.eq.base

/-- A refused OPEN (Table 9.10). -/
def openRefused (reason : BitVec 2) (s : State) : State := { s with kio := { s.kio with result := 2, reason := reason } }

/-- OPEN (R211; log entry 25): every ring starts at index 0 with PHASE 1, and records held for a session are written. An OPEN
while a session is open leaves it. -/
def sessionOpen (major minor : BitVec 8) (s0 : State) : State :=
  let s := { s0 with kio := { s0.kio with reqMajor := major, reqMinor := minor } }
  if s.kio.isOpen then s
  else if !abiKnown major.toNat minor.toNat then openRefused 0 s
  else if !ringsOk s.kio then openRefused 1 s
  else if !s.kio.fwReady then openRefused 2 s
  else
    let cpl := fun (c : CplRing) => { c with head := 0, tail := 0, used := 0, phase := true }
    writeHeld { s with kio := { s.kio with
      isOpen := true, major := major, minor := minor, result := 1, reason := 0
      sq := s.kio.sq.map fun r => { r with head := 0, tail := 0, entries := [] }
      cq := s.kio.cq.map cpl, eq := cpl s.kio.eq } }

/-- A write to a KIO register in the present chip state; DORMANT discards it and sets RO_WR (R474). -/
def kioWrite (f : State → State) (s : State) : State :=
  if s.clk.chip = .reset then s else if s.clk.chip = .dormant then roWr s else f s

/-- KIO_SESSION_OPEN (R211). -/
def execKioSessionOpen (major minor : BitVec 8) (s : State) : Host.Outcome State Fault Refusal :=
  done (kioWrite (sessionOpen major minor) s)

/-- KIO_SESSION_CLOSE (R211). -/
def execKioSessionClose (s : State) : Host.Outcome State Fault Refusal :=
  done (kioWrite sessionClose s)

/-- BAD_DB of KIO_ERR (R216). -/
def badDb (s : State) : State := { s with kio := { s.kio with err := bitPut s.kio.err 1 true } }

/-- The doorbell of SQq with the entries the host has placed (R216; log entry 1). -/
def sqTail (q : Fin 4) (v : W) (entries : List (List W)) (s : State) : State :=
  let r := vat s.kio.sq q.val SubRing.init
  let n := ringLen r.size
  let t := v.bits 11 0
  if n ≤ t then badDb s
  else if s.kio.isOpen then
    let count := (t + n - r.tail) % n
    let new := (List.range count).map fun i => let e := lat entries i []; e ++ List.replicate (16 - e.length) 0
    fetchAll { s with kio := { s.kio with sq := vput s.kio.sq q.val { r with tail := t, entries := r.entries ++ new } } }
  else s

/-- The head of CQq (R216, R230). -/
def cqHead (q : Fin 4) (v : W) (s : State) : State :=
  let c := vat s.kio.cq q.val CplRing.init
  let n := ringLen c.size
  let h := v.bits 11 0
  if n ≤ h then badDb s
  else
    let c1 := { c with head := h, used := c.used - (h + n - c.head) % n }
    fetchAll { s with kio := { s.kio with
      cq := vput s.kio.cq q.val c1, armed := if v.bit 31 then bitPut s.kio.armed (1 + q.val) true else s.kio.armed } }

/-- The head of EQ (R216, R229, R230): ARM rearms vectors 5 to 63. -/
def eqHead (v : W) (s : State) : State :=
  let c := s.kio.eq
  let h := v.bits 11 0
  let armed := if v.bit 31 then (List.range 59).foldl (fun a i => bitPut a (5 + i) true) s.kio.armed else s.kio.armed
  writeHeld { s with kio := { s.kio with armed := armed, eq := { c with head := h, used := c.used - (h + 4096 - c.head) % 4096 } } }

/-- KIO_SQ_TAIL (R216); in DORMANT the write is kept (R474). -/
def execKioSqTail (q : Fin 4) (v : W) (entries : List (List W)) (s : State) : Host.Outcome State Fault Refusal :=
  done (if s.clk.chip = .reset then s
    else if s.clk.chip = .dormant then { s with kio := { s.kio with keptSq := vput s.kio.keptSq q.val (some (v, entries)) } }
    else sqTail q v entries s)

/-- KIO_CQ_HEAD (R216, R230); in DORMANT the write is kept (R474). -/
def execKioCqHead (q : Fin 4) (v : W) (s : State) : Host.Outcome State Fault Refusal :=
  done (if s.clk.chip = .reset then s
    else if s.clk.chip = .dormant then { s with kio := { s.kio with keptCq := vput s.kio.keptCq q.val (some v) } }
    else cqHead q v s)

/-- KIO_EQ_HEAD (R216, R230); in DORMANT the write is kept (R474). -/
def execKioEqHead (v : W) (s : State) : Host.Outcome State Fault Refusal :=
  done (if s.clk.chip = .reset then s
    else if s.clk.chip = .dormant then { s with kio := { s.kio with keptEq := some v } }
    else eqHead v s)

end Sys2Proof.Machine
end

