-- ==== Sys2Proof/Machine/Frames.lean ====
section
/-!
DEFINITION. The frames of a link: what the SLC sends in each tick (R91, R181 to R184, R192 to R198, R205) and what an inbound
frame does (R95, R98 to R100, R187, R202, R204).
-/
namespace Sys2Proof.Machine

/-! Outbound. -/

/-- The values staged for channel `n` that are due move into the frame, in ARMING and CONTROL; else they are discarded (R91,
Table 5.3). -/
def moveStaged (n : Nat) (s : State) : State :=
  let c := s.ch n
  let due := c.staged.filter (·.tick == s.now)
  let s1 := s.modCh n fun c => { c with staged := c.staged.filter fun g => g.tick > s.now }
  if due.isEmpty || !(c.st == .arming || c.st == .control) then s1
  else
    let s2 := s1.modCh n fun c => due.foldl (fun c g => { c with
      cmd := (g.cmd.map fun w => w.setWidth 24).getD c.cmd, mode := (g.mode.map fun w => w.setWidth 8).getD c.mode }) c
    s2.modLk (linkOf n) fun l => { l with moved := vput l.moved (slotOf n) true }

/-- TCTL of an outbound TRAIN frame (R192). -/
def tctlOut (x : Link) : W :=
  if x.st = .train then
    fld (min x.tstep 3) 28 ||| (if x.tstep ≥ 3 then fld x.xEnd 0 ||| (if x.fast then fld (x.resume % 256) 20 else 0) else 0)
  else fld 1 28

/-- The device HELLO (R193). -/
def devHello (s : State) (x : Link) : List W :=
  [fld 0x41 24 ||| (x.devSeq.setWidth 32 <<< 16) ||| fld 1 8,
   fld 3 24 ||| fld 1 16 ||| flag s.prl.side 15 ||| (ownAddr s).setWidth 32]

/-- A CFG word of NEGOTIATE, whether it starts a message, and what is left of the message (R193, R194): the device HELLO
repeats until the module's has come, AGREE until READY. -/
def negWord (s : State) (x : Link) : W × Bool × List W :=
  match x.devTx with
  | w :: r => (w, false, r)
  | [] =>
    if x.ready then (0, false, [])
    else
      let m := if x.switchTick.isSome then x.agree else devHello s x
      (lat m 0 0, true, m.drop 1)

/-- Keep the frame sent in this tick. -/
def sentFrame (l : Nat) (f : OutFrame) (s : State) : State := s.modLk l fun x => { x with sent := some f, txIdle := false }

/-- TRAIN and NEG frames, short, at even ticks (R181). -/
def sendSetup (l : Nat) (s : State) : State :=
  let x := s.lk l
  if s.now % 2 = 1 then s.modLk l fun x => { x with sent := none }
  else if x.st = .negotiate then
    let (w, som, r) := negWord s x
    sentFrame l (buildFrame s l 1 true [w] som false false) (s.modLk l fun x => { x with devTx := r })
  else sentFrame l (buildFrame s l 0 true [tctlOut x] false false false) s

/-- The kiosk command of the message that a stream starts in this frame is past its point of no return (R226). -/
def svcStarted (q : List SvcMsg) (s : State) : State :=
  match (svcNext q).bind fun i => q[i]? with
  | some m => if m.resends = 0 && (m.kind == 0x01 || m.kind == 0x02 || m.kind == 0x12) then kFix m.tag s else s
  | none => s

/-- The service words of a RUN frame (R197, R198): positions 0 and 1 (the CFG word in the short layout) carry the device
stream, the next SVC_OUT the host stream; with no SVC_OUT the host stream uses device positions that are free. -/
def sendSvc (l : Nat) (short : Bool) (s : State) : List W × Bool × Bool × State :=
  let x := s.lk l
  let nd := if short then 1 else 2
  let nh := if short then 0 else (linkDecl s l).elim 0 (·.svcOut)
  let busy := x.devTx != [] || ((svcNext x.devQ).isSome && x.hostTx == [])
  let devGo := nh > 0 || busy
  let (dw, sd, dtx, dq) := svcTake s.now (if devGo then nd else 0) x.devTx x.devQ
  let hn := if nh > 0 then nh else if busy then 0 else nd
  let (hw, sh, htx, hq) := svcTake s.now hn x.hostTx x.hostQ
  let ws := dw ++ hw
  let all := if short then 1 else 23
  let s1 := s.modLk l fun x => { x with devTx := dtx, devQ := dq, hostTx := htx, hostQ := hq }
  let s2 := if sd then svcStarted x.devQ s1 else s1
  let s3 := if sh then svcStarted x.hostQ s2 else s2
  (ws ++ List.replicate (all - ws.length) 0, sd, sh, s3)

/-- The first RUN directive of each slot since ARMING (R187). -/
def firstRuns (s : State) (l slots : Nat) : Vector (Option Nat) 3 :=
  vmapIdx (s.lk l).firstRun fun k o => if o.isNone && k < slots && (slotWord s l k).2 = 1 then some s.now else o

/-- RUN and FINAL frames (R181, R205): full, or short at even ticks on version 1. -/
def sendRun (l : Nat) (s : State) : State :=
  let short := (s.lk l).version == 1
  if short && s.now % 2 == 1 then s.modLk l fun x => { x with sent := none }
  else
    let final := s.clk.chip == .store
    let (ws, sd, sh, s1) := sendSvc l short s
    let f := buildFrame s1 l (if final then 3 else 2) short ws sd sh false
    let s2 := sentFrame l f (s1.modLk l fun x => { x with
      firstRun := if final then x.firstRun else firstRuns s1 l (if short then 1 else 3)
      finals := x.finals - 1
      relLeft := x.relLeft - 1, takeRel := if x.relLeft = 1 then 0 else x.takeRel })
    let s3 := if final && (s1.lk l).finals ≤ 1 then s2.modLk l fun x => { x with txIdle := true } else s2
    tieFrameSent (3 * l + 2) (tieFrameSent (3 * l + 1) (tieFrameSent (3 * l) s3))

/-- What the SLC sends in this tick (R181, R191, R205, Table 8.6). -/
def sendFrame (l : Nat) (s : State) : State :=
  let x := s.lk l
  if x.fenced then s.modLk l fun x => { x with sent := none }
  else if s.clk.chip = .store then
    (if x.inUse && x.finals > 0 then sendRun l s else s.modLk l fun x => { x with sent := none, txIdle := true })
  else if !linksRun s then s.modLk l fun x => { x with sent := none }
  else match x.st with
    | .down => if x.enable then sendSetup l s else s.modLk l fun x => { x with sent := none }
    | .train | .negotiate => sendSetup l s
    | .up | .hold => sendRun l s

/-- OUTBOUND_FRAME (R91, R181): one frame of a link in a tick. -/
def execOutboundFrame (l : LinkNo) (s : State) : Host.Outcome State Fault Refusal :=
  let s1 := if linksRun s then linkResume l.val s else s
  let n := 3 * l.val
  done (if (s.lk l.val).sent.any (·.tick == s.now) then s else sendFrame l.val (moveStaged (n + 2) (moveStaged (n + 1) (moveStaged n s1))))

/-! Inbound. -/

/-- A MSTAT note: at most one per channel in 16 ticks (Table 10.3). -/
def noteMstat (n : Nat) (old new : BitVec 16) (s : State) : State :=
  let free := match assocGet s.bbr.mstatNote n with
    | some t => s.now ≥ t + 16
    | none => true
  if old = new || !free then s
  else
    let s1 := note 0x04 n [old.setWidth 32, new.setWidth 32] [0] s
    { s1 with bbr := { s1.bbr with mstatNote := assocPut s1.bbr.mstatNote n s1.now } }

/-- The first frame that channel `n` misses (Table 10.3). -/
def noteStaleOn (n miss : Nat) (s : State) : State :=
  if (assocGet s.bbr.staleSince n).isSome then s
  else
    let s1 := note 0x02 n [nw miss] [0] s
    { s1 with bbr := { s1.bbr with staleSince := assocPut s1.bbr.staleSince n (s1.now - 1) } }

/-- The valid frame that ends it. -/
def noteStaleOff (n : Nat) (s : State) : State :=
  match assocGet s.bbr.staleSince n with
  | none => s
  | some t =>
    let s1 := note 0x03 n [nw (s.now - 1 - t)] [0] s
    { s1 with bbr := { s1.bbr with staleSince := assocDel s1.bbr.staleSince n } }

/-- The held words of a channel and everything that reads its samples (R95, R235, R236, R240, R276, R300, R320, R337). -/
def chanSample (n m : Nat) (b : ChBlock) (s : State) : State :=
  let old := (s.ch n).mstat
  let vs := [b.a, b.b, b.c, b.d]
  let s1 := s.modCh n fun c => { c with mA := b.a, mB := b.b, mC := b.c, mD := b.d, mstat := b.mstat }
  let s1 := trigLevels n (s.now - 1) vs (recSample n vs s1)
  let s1 := twFrame n b.mstat (s1.modTh n fun x => { x with ds := (b.d :: x.ds).take 100 })
  if (chanDecl s n).isNone then s1
  else
    let s3 := noteStaleOff n (noteMstat n old b.mstat s1)
    let s4 := match ledgOf s3 n with
      | some k => s3.modLg k (ledgValid (sx16 b.b) m)
      | none => s3
    tieJudge n (sx16 b.b) (sx16 b.c) b.mstat s4

/-- MSTAT.SAFE counts: the sample tick is later than the first tick that carried DIR = RUN (R187). -/
def mstatSafe (s : State) (n : Nat) : Bool :=
  (s.ch n).mstat.getLsbD 12 && (match vat (s.lk (linkOf n)).firstRun (slotOf n) none with
    | some t => s.now - 1 > t
    | none => false)

/-- The transitions of a channel on a valid frame, highest row first (R99, R100, R187). -/
def chanValid (n : Nat) (s : State) : State :=
  let c := s.ch n
  if c.live && mstatSafe s n then (enterSafeLimit n (slcEvt (linkOf n) 5 s)).modCh n fun c => { c with due := false }
  else if c.due then chanRows n s
  else match c.st with
    | .hold =>
      if s.now ≥ c.holdTick + holdLimit8 s n then enterSafeLimit n s
      else if c.validRun + 1 ≥ 2 then leaveHold n s
      else s.modCh n fun c => { c with validRun := c.validRun + 1 }
    | .safe =>
      if c.restart then
        if c.restartRun + 1 ≥ 4000 && slotCarried s n && !(s.lk (linkOf n)).refused then enterArming n s
        else s.modCh n fun c => { c with restartRun := min 4000 (c.restartRun + 1) }
      else s
    | _ => s

/-- The transitions of a channel on a frame that is missing or corrupt (R98 to R100). -/
def chanMissed (n miss : Nat) (s : State) : State :=
  let c := s.ch n
  let s1 := noteStaleOn n miss (s.modCh n fun c => { c with validRun := 0, restartRun := 0 })
  match c.st with
  | .arming | .control =>
    if c.due && c.stopReq then chanRows n s1
    else if miss ≥ 2 then (enterHold n s1).modCh n fun c => { c with due := false }
    else if c.due then chanRows n s1
    else s1
  | .hold =>
    if s.now ≥ c.holdTick + holdLimit8 s n then enterSafeLimit n s1
    else if c.due then chanRows n s1
    else s1
  | _ => if c.due then chanRows n s1 else s1

/-- Channels that a frame of the link carries: slot a alone on version 1 (R183). -/
def frameChans (x : Link) (l : Nat) : List Nat := if x.version = 1 then [3 * l] else [3 * l, 3 * l + 1, 3 * l + 2]

/-- This device's own port as OWNER names it. -/
def ownCode (port : Bool) : BitVec 2 := if port then 2 else 1

/-- OWN_LOST on a link (R204, R367, R368). -/
def ownLost (l : Nat) (s : State) : State :=
  let s1 := slcEvt l 7 s
  let s2 := (linkChans s1 l).foldl (fun s n => s.raiseP (4 * n + 1) .uc 0x0105) s1
  if s2.prl.role = .lead then leaveLead s2 else s2

/-- The window of R367 in which OWN_LOST is ignored. -/
def inTakeover (s : State) : Bool := s.prl.takeover.any fun z => s.now < z + 8

/-- Ownership on a valid frame of a version 3 link (R204, R367, R368). -/
def ownerSeen (l : Nat) (f : InFrame) (s : State) : State :=
  let mine := f.owner == ownCode f.port
  let s1 := if mine && inTakeover s then
      { (s.modLk l fun x => { x with takeRel := if x.relLeft = 0 then 0 else x.takeRel }) with
        prl := { s.prl with takeMask := bitPut s.prl.takeMask l true } }
    else s
  if s1.prl.role = .standby then
    let sync := s1.prl.pst == .inSync || s1.prl.pst == .dispute
    if sync && f.lastown.toNat ≥ 2 && linkLive s1 l then takeOver s1 else s1
  else if mine || f.owner = 3 then s1.modLk l fun x => { x with lostRun := 0 }
  else if inTakeover s1 then s1
  else
    let s2 := s1.modLk l fun x => { x with lostRun := x.lostRun + 1 }
    if (s2.lk l).lostRun = 2 then ownLost l s2 else s2

/-- A valid frame (R202). -/
def frameValid (l : Nat) (f : InFrame) (s : State) : State :=
  let x := s.lk l
  let m := if x.version = 1 then 2 else 1
  let s1 := s.modLk l fun x => { x with
    miss := 0, missRun := 0, corruptRun := 0, trainRun := 0, validRun := x.validRun + 1, lastValid := true
    owner := f.owner, port := f.port }
  let s2 := (frameChans x l).foldl (fun s n => chanSample n m (vat f.blk (slotOf n) ⟨0, 0, 0, 0, 0⟩) s) s1
  let s3 := if (s2.lk l).st = .hold && (s2.lk l).validRun ≥ 2 then setLink l .up id s2 else s2
  let s4 := (frameChans x l).foldl (fun s n => if (chanDecl s n).isSome then chanValid n s else s) s3
  if x.version = 3 then ownerSeen l f s4 else s4

/-- Why a frame is not valid (R202). -/
inductive FrameBad where
  | corrupt | train | missing
  /-- No frame came at all. -/
  | absent
deriving DecidableEq, Repr

/-- The judgement of a frame of sample tick `t` (R202): none when valid. -/
def judge (fr : Option InFrame) (t : Nat) : Option FrameBad :=
  match fr with
  | none => some .absent
  | some f =>
    if !f.crcOk || (f.itype == .run && f.tick.toNat != t % 65536) then some .corrupt
    else if f.itype == .train then some .train
    else if f.itype == .run && f.onTime then none
    else some .missing

/-- Counts of a frame that is not valid, and row 4 (R202, Table 8.9). The counts of rows 4 and the registers run while the link
is in UP or HOLD and RUN frames are due. TRAIN frames come in even ticks alone (R181): an odd tick without a frame breaks no run. -/
def linkMissed (l : Nat) (why : FrameBad) (s : State) : State :=
  let x := s.lk l
  let due := x.inUse && s.now - 1 ≥ x.resume
  let s1 := s.modLk l fun x => { x with miss := x.miss + 1, validRun := 0, lastValid := false }
  if due then
    let s2 := s1.modLk l fun x => { x with
      missed := x.missed + 1, crcErr := if why = .corrupt then x.crcErr + 1 else x.crcErr, missRun := x.missRun + 1
      corruptRun := if why = .corrupt then x.corruptRun + 1 else 0, trainRun := match why with
        | .train => x.trainRun + 1
        | .absent => if s.now % 2 = 0 then x.trainRun else 0
        | _ => 0 }
    let y := s2.lk l
    if y.missRun ≥ 8 || y.corruptRun ≥ 3 || y.trainRun ≥ 2 then linkRetrain l s2
    else if y.st = .up && y.miss ≥ 2 then slcEvt l 0 (setLink l .hold (fun x => { x with validRun := 0 }) s2)
    else s2
  else s1

/-- A frame that is missing or corrupt (R98 to R100, R202, R277). -/
def frameMissed (l : Nat) (why : FrameBad) (s : State) : State :=
  let x := s.lk l
  let m := if x.version = 1 then 2 else 1
  let ns := frameChans x l
  let s1 := linkMissed l why s
  let miss := (s1.lk l).miss
  let s2 := ns.foldl (fun s n => if (chanDecl s n).isSome then
    chanMissed n miss (s.modCh n fun c => { c with misses := c.misses + 1 }) else s) s1
  if x.inUse then ns.foldl (fun s n => match ledgOf s n with
    | some k => s.modLg k (ledgMiss m)
    | none => s) s2
  else s2

/-! Inbound service words (R197, R198). -/

/-- One stream after a frame: the words it holds of a message that is not complete, and the message that is. -/
def streamIn (rx : Option (List W)) (som : Bool) (ws : List W) : Option (List W) × Option (List W) :=
  if ws = [] then (rx, none)
  else match (if som then some ws else rx.map (· ++ ws)) with
    | none => (none, none)
    | some m =>
      let n := 1 + (lat m 0 0).bits 15 8
      if n ≤ m.length then (none, some (m.take n)) else (some m, none)

/-- A message that has been received whole (Table 8.13). -/
def svcGot (l : Nat) (st : Stream) (m : Option (List W)) (s : State) : State :=
  match m with
  | none => s
  | some m =>
    let h := lat m 0 0
    match h.bits 31 24 with
    | 0x03 => rdataIn l st (h.extractLsb' 0 8) (h.extractLsb' 16 8) (m.drop 1) s
    | 0x04 => svcAcked l st (h.extractLsb' 0 8) s
    | 0x05 => svcNaked l st (h.extractLsb' 0 8) (lat m 1 0) s
    | 0x20 => if st = .capture then captureIn l (m.drop 1) s else s
    | 0x40 => moduleHello l m s
    | 0x43 => readyIn l (h.extractLsb' 0 8) (lat m 1 0) s
    | _ => s

/-- The service words of a frame, by stream (R197): positions 0 and 1, or the CFG word, are the device stream's; the next SVC_IN the host
stream's; the next ones capture words. With no SVC_IN the host stream's answers come in device positions. -/
def svcIn (l : Nat) (f : InFrame) (s : State) : State :=
  let x := s.lk l
  let nd := if f.svc.length = 1 then 1 else 2
  let nh := if nd = 1 then 0 else (linkDecl s l).elim 0 (·.svcIn)
  let dw := f.svc.take nd
  let hostHere := nh = 0 && (f.som.getLsbD 1 || (!f.som.getLsbD 2 && x.rxHost.isSome && x.rxDev.isNone))
  let (rd, md) := streamIn x.rxDev (f.som.getLsbD 2) (if hostHere then [] else dw)
  let (rh, mh) := streamIn x.rxHost (f.som.getLsbD 1) (if nh = 0 then (if hostHere then dw else []) else (f.svc.drop nd).take nh)
  let (rc, mc) := streamIn x.rxCap (f.som.getLsbD 0) (f.svc.drop (nd + nh))
  svcGot l .capture mc (svcGot l .host mh (svcGot l .dev md (s.modLk l fun x => { x with rxDev := rd, rxHost := rh, rxCap := rc })))

/-- A receiver that misses a frame drops what it has of each message (R198). -/
def svcMiss (l : Nat) (s : State) : State := s.modLk l fun x => { x with rxDev := none, rxHost := none, rxCap := none }

/-- The service words of a frame that is no valid RUN frame (R193, R198): a NEG frame carries the device stream; any other is a missed one. -/
def svcOther (l : Nat) (fr : Option InFrame) (s : State) : State :=
  match fr with
  | some f => if (s.lk l).st = .negotiate && f.itype == .neg && f.crcOk then svcIn l f s else svcMiss l s
  | none => if (s.lk l).inUse || s.now % 2 = 1 then svcMiss l s else s

/-- Link `l` judges a frame in this tick (R98, R196, R202). -/
def frameDue (s : State) (l : Nat) : Bool :=
  let x := s.lk l
  linksRun s && x.enable && !x.fenced && s.now != 0 && (x.version != 1 || s.now % 2 == 1)

/-- The frame of the tick before is judged (R98, R202). On a version 1 link an odd tick carries none (R196). -/
def frameIn (l : Nat) (fr : Option InFrame) (s0 : State) : State :=
  let s := linkResume l s0
  let x := s.lk l
  if !frameDue s l then s
  else match judge fr (s.now - 1), fr with
    | none, some f => if x.inUse then svcIn l f (frameValid l f s) else svcMiss l (frameMissed l .missing s)
    | some w, _ => svcOther l fr (frameMissed l w s)
    | none, none => s

/-- INBOUND_FRAME (R98, R202). -/
def execInboundFrame (l : LinkNo) (fr : Option InFrame) (s : State) : Host.Outcome State Fault Refusal :=
  done (if linksRun s then frameIn l.val fr s else s)

end Sys2Proof.Machine
end

