-- ==== Sys2Proof/Machine/KioskRows.lean ====
section
/-!
DEFINITION. The kiosk's commands that take no external data, first part: queue group, channels, tasks and tables (R39, R46,
R78, R96 to R105, R113, R158, R159, R221 to R226, Table 9.6). Each effect is a function of the accepted command; its row runs it.
-/
namespace Sys2Proof.Machine

/-- Complete OK without results. -/
def kOk (k : KCmd) (s : State) : State := kStatus k stOk s

/-! Queue group. -/

/-- NOP. -/
def kNop (k : KCmd) (s : State) : State := kOk k s

/-- TIME: TC[31:0] and TS at execution. -/
def kTime (k : KCmd) (s : State) : State := kEnd k stOk (s.clk.tc.extractLsb' 0 32) (lo32 s.clk.ts) (hi32 s.clk.ts) s

/-- IDENT (log entry 34): firmware, IMAGE_ID and BUILD in the results; with a host buffer of 16 bytes also the ABI opened. -/
def kIdent (k : KCmd) (s : State) : State :=
  let id := s.adm.img.elim 0 (·.id)
  let build := s.adm.img.elim 0 (·.build)
  let (at_, len) := k.buf 3
  let s1 := if 16 ≤ len then { s with host := Memory.writeWs s.host at_ [s.upe.fwAct, id, build, nw (abiOf s)] } else s
  kEnd k stOk s.upe.fwAct id build s1

/-- What a CANCEL before the point of no return leaves (R221, R226, R386, R400, R419): none when the command is past it. -/
def cancelled (t : KCmd) (s : State) : Option State :=
  if t.fixed then none
  else
    let s1 := kStatus t stCancelled s
    some (if !t.begun then s1
      else match t.cmd with
        | 0x0101 => { s1 with adm := { s1.adm with st := 0, run := none } }
        | 0x0502 => dropShadow s1
        | 0x0601 => { s1 with nvs := { s1.nvs with waiting := s1.nvs.waiting.filter (·.1 != t.tag) } }
        | 0x0702 => setPhase .staging s1
        | 0x0703 => updAbort 0x0E 0 s1
        | 0x0803 => { s1 with twp := s1.twp.map fun x => { x with
            queue := (x.queue.filter (·.tag != t.tag)).drop (if x.xfer.any (·.tag == t.tag) then 1 else 0)
            xfer := if x.xfer.any (·.tag == t.tag) then (x.queue.filter (·.tag != t.tag)).head? else x.xfer } }
        | _ => svcCancel t.tag s1)

/-- CANCEL (R221, R226): word 3 names the handle. -/
def kCancel (k : KCmd) (s : State) : State :=
  match (s.kio.accepted.find? fun x => x.handle == k.arg 3 && 2 ≤ x.ring.val && x.foreign == k.foreign).bind (cancelled · s) with
  | some s1 => kOk k s1
  | none => kStatus k stState s

/-! Channels. -/

/-- The channel is a rail of a sequence (R156, R158). -/
def isRail (s : State) (n : Nat) : Bool :=
  s.adm.img.elim false fun g => g.tasks.any fun t => t.profile == .s && t.chans.any fun x => x.2 == n

/-- The channel is no longer, or not yet, declared by the image in force. -/
def undeclared (s : State) (n : Nat) : Bool := (chanDecl s n).isNone

/-- CH_START (row 7 of Table 5.4, R98, R158): the channel enters ARMING at the next tick start, when the command completes. -/
def kChStart (k : KCmd) (s : State) : State :=
  let n := k.chan
  if undeclared s n then kStatus k stNotInForce s
  else if isRail s n then kStatus k stSeqOwned s
  else if (s.ch n).st ≠ .off ∨ !canStart s n then kStatus k stState s
  else kBegin k (askStart n s)

/-- CH_STOP (row 4 of Table 5.4, R98): a channel that row 4 leaves enters OFF at the next tick start, or the one after where row 3
wins, and the command completes then; on any other it completes at once. -/
def kChStop (k : KCmd) (s : State) : State :=
  if undeclared s k.chan then kStatus k stNotInForce s
  else if (s.ch k.chan).stoppable then kBegin k (askStop k.chan s)
  else kOk k (askStop k.chan s)

/-- CH_RESTART (R480). -/
def kChRestart (k : KCmd) (s : State) : State :=
  if undeclared s k.chan then kStatus k stNotInForce s
  else if (s.ch k.chan).st ≠ .safe then kStatus k stState s
  else kOk k (restartChan k.chan s)

/-- PLAUS_RESET (R39, R78): P clears for every task to which the channel is granted. -/
def kPlausReset (k : KCmd) (s : State) : State :=
  if undeclared s k.chan then kStatus k stNotInForce s else kOk k (clearChecks k.chan (fun t => t.chans.any (·.2 == k.chan)) s)

/-- The first release tick of a loop task's place at least `d` ticks ahead (R22, R134): TC wraps at 2^48, where the phase starts anew. -/
def nextRel (s : State) (t : Task) (q : Place) (d : Nat) : Nat :=
  let p := max 1 t.period
  let c := (s.clk.tc.toNat + d) % 2 ^ 48
  let g := (q.phase + 1 + p - c % p) % p
  if c + g < 2 ^ 48 then s.now + d + g else s.now + d + (2 ^ 48 - c) + (q.phase + 1) % p

/-- BANK_SWAP on the context of its task (R104, R105). Where several refusals apply, BUSY, NEW_CRC and OLD_CRC come in this order
(log entry 63). -/
def swapBank (k : KCmd) (t : Task) (q : Place) (s : State) : State :=
  let x := s.cx q.ctx
  let next := nextRel s t q 1
  if x.armed.isSome then kBusy k (max 1 ((next - s.now + 1) / 2)) s
  else if bankCrc x (!x.bankAct) ≠ k.arg 4 then kStatus k stNewCrc s
  else if bankCrc x x.bankAct ≠ (if x.bankAct then x.crc1 else x.crc0) then kStatus k stOldCrc (s.raiseP (4 * k.chan) .uc 0x1004)
  else if dispatchable s t then kEnd k stOk (tc32 next) 0 0 (s.modCx q.ctx fun x => { x with armed := some s.now, applyTick := tc32 next })
  else kEnd k stOk (tc32 s.now) 0 0 (s.modCx q.ctx fun x => { bankSwap x with applyTick := tc32 s.now })

/-- BANK_SWAP (R104): word 3 names the channel of grant index 0, word 4 the CRC of the inactive bank. -/
def kBankSwap (k : KCmd) (s : State) : State :=
  match taskOfCh s k.chan with
  | none => kStatus k stNotInForce s
  | some t => match placeOf s t.num with
    | some q => swapBank k t q s
    | none => kStatus k stNotInForce s

/-- The data words of PARAM_WRITE and SHARED_WRITE: word 5 counts them, they begin at word 6 (log entry 34). -/
def KCmd.data (k : KCmd) : List W := (List.range (k.arg 5).toNat).map fun i => k.arg (6 + i)

/-- The PARAM block of a task with `ws` written from word `a`. -/
def paramAfter (s : State) (t : Task) (a : Nat) (ws : List W) : List W :=
  (List.range t.paramLen).map fun i => if a ≤ i && i < a + ws.length then lat ws (i - a) 0 else parm s t i

/-- A word of a library block that its table lists, or one of its first four (R254). -/
def listedWord (t : Task) (a : Nat) : Bool := a < 4 || (libWordsSpec (libId t)).any (·.word == a)

/-- A PARAM_WRITE is refused: a word of a sequence block below 48 (R156), and in a library block a word with another writer, out
of range or against a relation (R254, R255). -/
def paramRefused (s : State) (t : Task) (a : Nat) (ws : List W) : Bool :=
  let dst := (List.range ws.length).map (a + ·)
  if t.lib.isSome then
    match s.adm.img with
    | none => true
    | some g =>
      dst.any (fun i => !hostWritesWord s g t i) ||
      (libWordsSpec (libId t)).any (fun x => dst.contains x.word && !x.rng.ok (lat ws (x.word - a) 0)) ||
      !libRelOk (libId t) (paramAfter s t a ws) ||
      g.tasks.any (fun u => vsetBad t u (paramAfter s t a ws) (paramAfter s u 0 []))
  else t.profile == .s && dst.any (· < 48)

/-- Words written from PARAM address `a`; a reserved word of a library block is written 0 (R254). -/
def paramStore (t : Task) (a : Nat) (ws : List W) (s : State) : State :=
  (List.range ws.length).foldl (fun s i =>
    parmPut t (a + i) (if t.lib.isSome && !listedWord t (a + i) then 0 else lat ws i 0) s) s

/-- PARAM_WRITE (R46, R224): word 3 the task, word 4 the PARAM address; it waits while the context executes a release. -/
def kParamWrite (k : KCmd) (s : State) : State :=
  match taskNo s ((k.arg 3).bits 15 0) with
  | none => kStatus k stNotInForce s
  | some t =>
    let a := (k.arg 4).toNat
    if a + k.data.length > t.paramLen then kStatus k stNotInForce s
    else if paramRefused s t a k.data then kStatus k stBadArg s
    else if ((ctxOf s t.num).bind fun c => (s.cx c).rel).isSome then s
    else kOk k (paramStore t a k.data s)

/-- SHARED_WRITE (R46): word 3 the word address in shared task memory. -/
def kSharedWrite (k : KCmd) (s : State) : State :=
  kOk k { s with shared := Memory.writeWs s.shared (4 * (k.arg 3).toNat) k.data }

/-- TABLE_SAVE begins (R113, R226): its first entry is its point of no return. -/
def kTableSave (k : KCmd) (s : State) : State :=
  match (taskNo s ((k.arg 3).bits 15 0)).bind fun t => tableRec t (if (k.arg 3).bit 16 then 1 else 0) with
  | none => kStatus k stNotInForce s
  | some _ => kMod k (fun x => { x with begun := true, fixed := true, work := [lo32 s.clk.tc.toNat, hi32 s.clk.tc.toNat] }) s
where
  /-- Low word. -/
  lo32 (n : Nat) : W := nw n
  /-- High word. -/
  hi32 (n : Nat) : W := nw (n / 2 ^ 32)

/-- The copy of a TABLE_SAVE ends (R112, R113; layout: log entry 28). -/
def tableSaved (k : KCmd) (s : State) : State :=
  let j := if (k.arg 3).bit 16 then 1 else 0
  match taskNo s ((k.arg 3).bits 15 0) with
  | none => kStatus k stNotInForce s
  | some t =>
    match tableRec t j, ctxOf s t.num with
    | some id, some c =>
      let lg := if j = 0 then t.t0Log2 else t.t1Log2
      let mem := if j = 0 then (s.cx c).t0.mem else (s.cx c).t1.mem
      let now := s.clk.tc.toNat
      let pay := [tableKey s t j, lat k.work 0 0, lat k.work 1 0, nw now, nw (now / 2 ^ 32)] ++ Memory.readWs mem 0 (2 ^ lg)
      let (ok, s1) := recUpdate (BitVec.ofNat 16 id) 0 pay s
      kStatus k (if ok then stOk else stNvFull) s1
    | _, _ => kStatus k stNotInForce s

/-- SEQ_REQUEST (R159): word 3 the task, bit 16 OFF (log entry 34). -/
def kSeqRequest (k : KCmd) (s : State) : State :=
  let off := (k.arg 3).bit 16
  match taskNo s ((k.arg 3).bits 15 0), ctxOf s ((k.arg 3).bits 15 0) with
  | some t, some c =>
    if (parm s t 3).bit 30 && !off then kStatus k stSeqSlave s else kOk k (seqRequest c t (!off) s)
  | _, _ => kStatus k stNotInForce s

/-! The rows. -/

/-- NOP. -/
def execNopCmd (tag : BitVec 16) (s : State) : Host.Outcome State Fault Refusal := done (kiosk 0x0001 tag kNop s)
/-- TIME. -/
def execTime (tag : BitVec 16) (s : State) : Host.Outcome State Fault Refusal := done (kiosk 0x0002 tag kTime s)
/-- IDENT. -/
def execIdent (tag : BitVec 16) (s : State) : Host.Outcome State Fault Refusal := done (kiosk 0x0003 tag kIdent s)
/-- CANCEL. -/
def execCancel (tag : BitVec 16) (s : State) : Host.Outcome State Fault Refusal := done (kiosk 0x0004 tag kCancel s)
/-- CH_START. -/
def execChStart (tag : BitVec 16) (s : State) : Host.Outcome State Fault Refusal := done (kiosk 0x0201 tag kChStart s)
/-- CH_STOP. -/
def execChStop (tag : BitVec 16) (s : State) : Host.Outcome State Fault Refusal := done (kiosk 0x0202 tag kChStop s)
/-- CH_RESTART. -/
def execChRestart (tag : BitVec 16) (s : State) : Host.Outcome State Fault Refusal := done (kiosk 0x0203 tag kChRestart s)
/-- PLAUS_RESET. -/
def execPlausReset (tag : BitVec 16) (s : State) : Host.Outcome State Fault Refusal := done (kiosk 0x0204 tag kPlausReset s)
/-- BANK_SWAP. -/
def execBankSwap (tag : BitVec 16) (s : State) : Host.Outcome State Fault Refusal := done (kiosk 0x0205 tag kBankSwap s)
/-- PARAM_WRITE. -/
def execParamWrite (tag : BitVec 16) (s : State) : Host.Outcome State Fault Refusal := done (kiosk 0x0206 tag kParamWrite s)
/-- SHARED_WRITE. -/
def execSharedWrite (tag : BitVec 16) (s : State) : Host.Outcome State Fault Refusal := done (kiosk 0x0207 tag kSharedWrite s)
/-- TABLE_SAVE. -/
def execTableSave (tag : BitVec 16) (s : State) : Host.Outcome State Fault Refusal := done (kiosk 0x0208 tag kTableSave s)
/-- SEQ_REQUEST. -/
def execSeqRequest (tag : BitVec 16) (s : State) : Host.Outcome State Fault Refusal := done (kiosk 0x0209 tag kSeqRequest s)

/-- The begun command of an ID and tag. -/
def kBegun (s : State) (cmd : Nat) (tag : BitVec 16) : Option KCmd :=
  s.kio.accepted.find? fun k => k.cmd == cmd && k.tag == tag && k.begun

/-- TABLE_SAVE_END (R113). -/
def execTableSaveEnd (tag : BitVec 16) (s : State) : Host.Outcome State Fault Refusal :=
  done (match kBegun s 0x0208 tag with
    | some k => tableSaved k s
    | none => s)

end Sys2Proof.Machine
end

