-- ==== Sys2Proof/Machine/KioskDev.lean ====
section
/-!
DEFINITION. The kiosk's commands, second part: modules (R194, R197 to R201), recorder and export (R241 to R252), readmission and
routing (R380, R384 to R386), stores and records (R399, R409), feeds and ledgers (R260, R279), and DORMANT (R30, R31, R253).
-/
namespace Sys2Proof.Machine

/-! Modules. -/

/-- MOD_READ (R198, R199): word 3 the link, word 4 address and count. -/
def kModRead (k : KCmd) (s : State) : State :=
  svcSend (k.arg 3).toNat true 0x02 0 [fld ((k.arg 4).bits 23 16) 16 ||| fld ((k.arg 4).bits 15 0) 0] (some k.tag) (kBegin k s)

/-- MOD_WRITE (R198, R200): the words of its buffer from the address of word 4. -/
def kModWrite (buf : Option (List W)) (k : KCmd) (s : State) : State :=
  let n := (k.arg 4).bits 23 16
  match buf with
  | none => kDma k s
  | some ws => svcSend (k.arg 3).toNat true 0x01 0
      (fld ((k.arg 4).bits 15 0) 0 :: (List.range n).map fun i => lat ws i 0) (some k.tag) (kBegin k s)

/-- MOD_THRESH (R194, R200): word 4 overvoltage and overcurrent, word 5 the hold limit or 0 for none. -/
def kModThresh (k : KCmd) (s : State) : State :=
  let ov := (k.arg 4).bits 31 16
  let oc := (k.arg 4).bits 15 0
  let ws := [fld (16 * slotOf k.chan) 0, nw oc, nw ov] ++ if k.arg 5 = 0 then [] else [k.arg 5]
  svcSend (linkOf k.chan) false 0x01 0 ws (some k.tag) (kBegin k s)

/-- The TBL_DATA messages of a table. -/
def tblData (l : Nat) (tag : BitVec 16) : Nat → List W → State → State
  | 0, _, s => s
  | n + 1, ws, s => if ws.isEmpty then s else tblData l tag n (ws.drop 255) (svcSend l false 0x11 0 (ws.take 255) (some tag) s)

/-- MOD_TABLE (R201): word 3 link, slot in 15:8 and table in 19:16, word 4 the length. -/
def kModTable (buf : Option (List W)) (k : KCmd) (s : State) : State :=
  let l := k.chan
  let slot := (k.arg 3).bits 15 8
  let tbl := (k.arg 3).bits 19 16
  let n := (k.arg 4).toNat
  if !((s.lk l).version == 3 && (s.lk l).inUse) || !helloWtbl (s.lk l).hello then kStatus k stState s
  else match buf with
    | none => kDma k s
    | some b =>
      let ws := (List.range n).map fun i => lat b i 0
      let s1 := svcSend l false 0x10 0 [fld slot 24 ||| fld tbl 16 ||| fld n 0, crc32cW ws] (some k.tag) (kBegin k s)
      svcSend l false 0x12 (BitVec.ofNat 8 (16 * slot + tbl)) [] (some k.tag) (tblData l k.tag n ws s1)

/-- A module command that found no answer within its bound (Table 9.5). -/
def moduleSilent (k : KCmd) (s : State) : State := kStatus k stModuleNoAnswer (svcCancel k.tag s)

/-! Recorder and export (Table 10.6). -/

/-- The trigger a command names. -/
def KCmd.trig (k : KCmd) : Nat := (k.arg 3).bits 4 0

/-- A command's change of trigger `i` waits for the start of the next tick (R241). -/
def trigLater (i : Nat) (p : TrigPend) (s : State) : State :=
  { s with bbr := { s.bbr with trig := vmod s.bbr.trig i fun g => { g with pend := some p } } }

/-- TRIG_ARM. -/
def kTrigArm (k : KCmd) (s : State) : State :=
  let g := vat s.bbr.trig k.trig Trig.init
  if !g.decl || g.st ≠ .idle then kStatus k stState s
  else
    let win := (List.range 3).map fun t =>
      let v := k.arg (4 + t)
      if v = 0 then lat (declWin g) t (0, 0) else (v.bits 15 0, v.bits 31 16)
    kOk k (trigLater k.trig (.arm win) s)

/-- TRIG_FIRE: RESULT0 is f. -/
def kTrigFire (k : KCmd) (s : State) : State :=
  let g := vat s.bbr.trig k.trig Trig.init
  if g.st ≠ .armed ∨ s.now < g.armTick then kStatus k stState s
  else kEnd k stOk (tc32 s.now) 0 0 (trigLater k.trig (.fire s.now) s)

/-- A release of the window of trigger `i` waits for the next tick. -/
def leaves (g : Trig) : Bool := match g.pend with
  | some (.release _) => true
  | _ => false

/-- The blocks of `bs` that no window holds once those released in this tick and the ones that `mine` names are gone. -/
def blksFree (b : Bbr) (bs : List (Nat × Nat)) (mine : Nat → Bool) (old : OldWin → Bool) : Nat :=
  (bs.eraseDups.filter fun x =>
    (List.range 32).all (fun i => !(blkOf b x.1 x.2).holders.bit i || mine i || leaves (vat b.trig i Trig.init)) &&
    b.olds.all fun w => !(w.blks.contains x) || w.gone || old w).length

/-- TRIG_RELEASE: RESULT0 counts the blocks that return to the rings. An orphan's id names every orphan under it (log entry 66). -/
def kTrigRelease (k : KCmd) (s : State) : State :=
  let i := k.trig
  let b := s.bbr
  let g := vat b.trig i Trig.init
  if (k.arg 3).bit 8 then
    let mine := fun (w : OldWin) => w.id == i && !w.fired && !w.gone
    if !(b.olds.any mine) then kStatus k stState s
    else
      let n := blksFree b ((b.olds.filter mine).flatMap (·.blks)) (fun _ => false) mine
      kEnd k stOk (nw n) 0 0 { s with bbr := { b with olds := b.olds.map fun w => if mine w then { w with gone := true } else w } }
  else if g.st ≠ .frozen then kStatus k stState s
  else
    let n := if leaves g then 0 else blksFree b (winBlks b i) (· == i) fun _ => false
    kEnd k stOk (nw n) 0 0 (trigLater i (.release ((k.arg 3).bit 9 || (lat g.words 0 0).bit 22)) s)

/-- The stream a command names. -/
def KCmd.strm (k : KCmd) : Nat := (k.arg 3).bits 1 0

/-- What stream `i` has still to export of the blocks that are closed is forgotten. -/
def clearTodo (i : Nat) (b : Bbr) : Bbr :=
  let f := fun (k : Blk) => { k with todo := bitPut k.todo i false }
  { b with esp := { b.esp with blks := b.esp.blks.map f }, lun := { b.lun with blks := b.lun.blks.map f }
           car := { b.car with blks := b.car.blks.map f } }

/-- The complete frozen windows that a stream has not exported (R248). -/
def frozenLeft (b : Bbr) (i : Nat) : List (Nat × Nat × Nat × Nat) :=
  (b.olds.flatMap fun w => if w.fired || w.exported.getLsbD i then [] else winItems w.f w.id w.blks) ++
  (List.range 32).flatMap fun g =>
    let x := vat b.trig g Trig.init
    if x.st ≠ .frozen || x.exported.getLsbD i then [] else winItems x.f g (winBlks b g)

/-- EXPORT_OPEN. -/
def kExportOpen (k : KCmd) (s : State) : State :=
  let i := k.strm
  match strmTiers s i with
  | none => kStatus k stNotInForce s
  | some tiers =>
    if (vat s.bbr.strm i Strm.init).isOpen then kStatus k stState s
    else
      let z := (k.arg 6).bits 3 0
      let b := clearTodo i s.bbr
      let x : Strm := { Strm.init with
        isOpen := true, tiers := BitVec.ofNat 4 tiers, size := z, credit := 2 ^ z
        base := BitVec.ofNat 64 (k.buf 4).1, status := BitVec.ofNat 64 (k.buf 7).1
        drops := (vat s.bbr.strm i Strm.init).drops
        frozen := if tiers.testBit 3 then frozenLeft b i else [] }
      kOk k { s with bbr := { b with strm := vput b.strm i x } }

/-- EXPORT_CREDIT: RESULT0 is the credits held. -/
def kExportCredit (k : KCmd) (s : State) : State :=
  let x := vat s.bbr.strm k.strm Strm.init
  let n := x.credit + (k.arg 4).toNat
  if !x.isOpen then kStatus k stState s
  else if 2 ^ x.size < n then kStatus k stBadArg s
  else kEnd k stOk (nw n) 0 0 { s with bbr := { s.bbr with strm := vput s.bbr.strm k.strm { x with credit := n } } }

/-- EXPORT_CLOSE: RESULT0 is the slots written. -/
def kExportClose (k : KCmd) (s : State) : State :=
  let x := vat s.bbr.strm k.strm Strm.init
  if !x.isOpen then kStatus k stState s
  else
    let b := clearTodo k.strm s.bbr
    let y := { x with isOpen := false, credit := 0, gaps := [], frozen := [] }
    kEnd k stOk (x.sent.extractLsb' 0 32) 0 0 { s with bbr := { b with strm := vput b.strm k.strm y } }

/-! Readmission, rebalance and routing. -/

/-- The unit that READMIT names (R384). -/
def unitOf (w : W) : Option HwUnit :=
  let i := w.bits 7 0
  match w.bits 11 8 with
  | 0 => if h : i < 48 then some (.le ⟨i, h⟩) else none
  | 1 => if h : i < 4 then some (.se ⟨i, h⟩) else none
  | 2 => if h : i < 4 then some (.ue ⟨i, h⟩) else none
  | 3 => if h : i < 64 then some (.slc ⟨i, h⟩) else none
  | 4 => if h : i < 8 then some (.bank ⟨i, h⟩) else none
  | 5 => some .partner
  | _ => none

/-- READMIT begins (R384): its self-test runs at once, which is its point of no return. With PARTNER the LEAD waits for its
STANDBY's status; without a pair it completes STATE. -/
def kReadmit (k : KCmd) (s : State) : State :=
  let begin_ := kMod k (fun x => { x with begun := true, fixed := true })
  if (k.arg 3).bit 12 && !k.foreign then (if k.mseq.isSome then begin_ s else kStatus k stState s)
  else match unitOf (k.arg 3) with
    | none => kStatus k stBadArg s
    | some u =>
      if !unitFenced s u then kStatus k stState s
      else if s.fcr.readmit.isSome then s
      else begin_ { s with fcr := { s.fcr with readmit := some (u, k.tag) } }

/-- A spare exists (R385, R386). -/
def spareExists (s : State) : Bool := s.fcr.spareLe != 0 || s.fcr.spareMisc != 0

/-- REBALANCE begins (R386): the target is the plan for the engines that are still fenced. -/
def kRebalance (k : KCmd) (s : State) : State :=
  let still := fun (l : List Nat) => l.filter fun e => fencedEng s e
  match s.adm.img.bind fun g => placesNow g s.adm.nominal (still (fencedSet s)) (still (fencedSU s)) with
  | some pl =>
    if !spareExists s || updBusy s || s.adm.shadow.isSome then kStatus k stState s
    else kBegin k { s with adm := { s.adm with shadow := some (0, k.tag, pl) } }
  | none => kStatus k stState s

/-- EVENT_CFG (R380). -/
def kEventCfg (k : KCmd) (s : State) : State :=
  kOk k { s with fcr := { s.fcr with cfgNext := s.fcr.cfgNext ++ [((k.arg 3).bits 9 0, (k.arg 3).bits 25 16, k.arg 4)] } }

/-! Stores and records. -/

/-- NV_STORE waits for its store (R399, R400). -/
def kNvStore (pages : Option (List (BitVec 16))) (k : KCmd) (s : State) : State :=
  let put := fun (l : List Nat) => kBegin k { s with nvs := { s.nvs with waiting := s.nvs.waiting ++ [(k.tag, l)] } }
  if !(k.arg 3).bit 0 then put []
  else match pages with
    | none => kDma k s
    | some ps => if ps.any fun p => 4095 < p.toNat then kStatus k stBadArg s
        else put (ps.foldl (fun l p => insertNat l p.toNat) [])

/-- The record IDs that the image in force names (R174, R288, R293, R111, R409). -/
def namedRecs (g : Image) : List Nat :=
  g.tasks.flatMap fun t =>
    (if t.profile == .s then (List.range (3 * t.chans.length)).map fun i => (lat t.paramInit 7 0).bits 31 16 + i else []) ++
    (if libId t = libEst then [(lat t.paramInit 20 0).bits 31 16, (lat t.paramInit 20 0).bits 15 0] else []) ++
    t.tblrec.map (·.2)

/-- REC_READ (R409). -/
def kRecRead (k : KCmd) (s : State) : State :=
  let (r, pay, seq, s1) := recChoose ((k.arg 3).extractLsb' 0 16) s
  let (at_, len) := k.buf 4
  let n := ((recFind s ((k.arg 3).extractLsb' 0 16)).map (·.len)).getD 0
  kEnd k stOk (nw r) (nw n) seq { s1 with host := Memory.writeWs s1.host at_ (pay.take (len / 4)) }

/-- REC_WRITE (R406, R407, R409, R419). -/
def kRecWrite (buf : Option (List W)) (k : KCmd) (s : State) : State :=
  let id : BitVec 16 := (k.arg 3).extractLsb' 0 16
  let schema : BitVec 16 := (k.arg 3).extractLsb' 16 16
  let n := (k.buf 4).2 / 4
  let bad := 0xF000 ≤ id.toNat || (k.buf 4).2 % 4 != 0 || n = 0 || 8192 < n ||
    (recFind s id).any fun d => d.counter || d.len != n
  if bad then kStatus k stBadArg s
  else if s.adm.img.any fun g => (namedRecs g).contains id.toNat then kStatus k stState s
  else if schema ≠ 0 ∧ updBusy s then kStatus k stState s
  else match buf with
    | none => kDma k s
    | some ws =>
      let (ok, s1) := recUpdate id schema ((List.range n).map fun i => lat ws i 0) s
      kStatus k (if ok then stOk else stNvFull) s1

/-! Feeds and ledgers. -/

/-- REQ := `on`, and OFF_SEEN := 1 with an OFF (R260). -/
def feedReqPut (t : Task) (off on : Bool) (s : State) : State :=
  let s1 := if off then parmPut t 18 (parm s t 18 ||| fld 1 5) s else s
  parmPut t 13 (flag on 0) s1

/-- FEED_TOGGLE (R260): it acts as a PARAM_WRITE, between releases. -/
def kFeedToggle (k : KCmd) (s : State) : State :=
  match feedOfCh s k.chan with
  | none => kStatus k stNotInForce s
  | some t =>
    let op := (k.arg 4).bits 1 0
    if ((ctxOf s t.num).bind fun c => (s.cx c).rel).isSome then s
    else
      let s1 := feedReqPut t (op != 1) (op != 0) s
      let f := parm s1 t 18
      let st := libState s1 t
      let late := f.bit 2 && (st == 3 || st == 4) && !(f.bit 5 && f.bit 4)
      if op != 0 && late then
        kEnd k stState (parm s1 t 20) (flag (!f.bit 5) 0 ||| flag (parm s1 t 20 == 0 && !f.bit 4) 1) 0 s1
      else kOk k s1

/-- LEDGER_RESET (R279). -/
def kLedgerReset (k : KCmd) (s : State) : State :=
  let w := k.arg 4
  kEnd k stOk (tc32 (s.now + 1)) 0 0 (s.modLg ((k.arg 3).bits 5 0) fun x => { x with pend := some (w.bit 0, w.bit 1) })

/-! DORMANT. -/

/-- Entry to DORMANT (R30, R232, R253, Table 2.2): dividers stop, links and hops are down, blocks close. -/
def enterDormant (s0 : State) : State :=
  let s := (List.range 64).foldl (fun s l => linkDown l s) (closeAll false s0)
  let hop := fun (p : JPortSt) => { p with hop := .down, usable := false, syncTick := none }
  let s1 := pairLost { s with
    clk := { s.clk with
      chip := .dormant, tickRun := false, rootLock := false, waking := false, offs := [], nudgeDir := 0,
      refsel := .xtal, holdover := false, released := false, aligned := false, alignValid := false }
    jnb := { s.jnb with ja := hop s.jnb.ja, jb := hop s.jnb.jb } }
  { s1 with
    tmu := { s1.tmu with run := false }
    twp := s1.twp.map fun t => { t with alertOut := false, alertIn := true } }

/-- DORMANT_ENTER (R31). -/
def kDormantEnter (k : KCmd) (s : State) : State :=
  if !(s.chan.all (·.st == .off)) then kStatus k stState s else enterDormant (kOk k s)

/-- The doorbells kept in DORMANT act as if just written (R474). -/
def keptDoorbells (s : State) : State :=
  let k := s.kio
  let s0 := { s with kio := { k with keptSq := Vector.replicate 4 none, keptCq := Vector.replicate 4 none, keptEq := none } }
  let s1 := (List.finRange 4).foldl (fun s q => match vat k.keptCq q.val none with
    | some v => cqHead q v s
    | none => s) s0
  let s2 := match k.keptEq with
    | some v => eqHead v s1
    | none => s1
  (List.finRange 4).foldl (fun s q => match vat k.keptSq q.val none with
    | some (v, es) => sqTail q v es s
    | none => s) s2

/-- MGP resumes (Table 2.2, R24, R253, R301, R474). -/
def mgpResume (s : State) : State :=
  if s.clk.chip = .dormant && s.clk.tickRun then
    let s1 := followRef { s with
      clk := { s.clk with chip := .run }
      twp := s.twp.map fun t => twAlert { t with st := if t.st = 5 then 0 else t.st }
      tmu := { s.tmu with run := true, ch := s.tmu.ch.map fun x => { x with fresh := true } } }
    fetchAll (keptDoorbells (rowsAgain s1))
  else s

/-! The rows. -/

/-- MOD_READ. -/
def execModRead (tag : BitVec 16) (s : State) : Host.Outcome State Fault Refusal := done (kiosk 0x0301 tag kModRead s)
/-- MOD_WRITE. -/
def execModWrite (tag : BitVec 16) (buf : Option (List W)) (s : State) : Host.Outcome State Fault Refusal :=
  done (kiosk 0x0302 tag (kModWrite buf) s)
/-- MOD_THRESH. -/
def execModThresh (tag : BitVec 16) (s : State) : Host.Outcome State Fault Refusal := done (kiosk 0x0303 tag kModThresh s)
/-- MOD_TABLE. -/
def execModTable (tag : BitVec 16) (buf : Option (List W)) (s : State) : Host.Outcome State Fault Refusal :=
  done (kiosk 0x0304 tag (kModTable buf) s)
/-- TRIG_ARM. -/
def execTrigArm (tag : BitVec 16) (s : State) : Host.Outcome State Fault Refusal := done (kiosk 0x0401 tag kTrigArm s)
/-- TRIG_FIRE. -/
def execTrigFire (tag : BitVec 16) (s : State) : Host.Outcome State Fault Refusal := done (kiosk 0x0402 tag kTrigFire s)
/-- TRIG_RELEASE. -/
def execTrigRelease (tag : BitVec 16) (s : State) : Host.Outcome State Fault Refusal := done (kiosk 0x0403 tag kTrigRelease s)
/-- EXPORT_OPEN. -/
def execExportOpen (tag : BitVec 16) (s : State) : Host.Outcome State Fault Refusal := done (kiosk 0x0404 tag kExportOpen s)
/-- EXPORT_CREDIT. -/
def execExportCredit (tag : BitVec 16) (s : State) : Host.Outcome State Fault Refusal := done (kiosk 0x0405 tag kExportCredit s)
/-- EXPORT_CLOSE. -/
def execExportClose (tag : BitVec 16) (s : State) : Host.Outcome State Fault Refusal := done (kiosk 0x0406 tag kExportClose s)
/-- READMIT. -/
def execReadmit (tag : BitVec 16) (s : State) : Host.Outcome State Fault Refusal := done (kiosk 0x0501 tag kReadmit s)
/-- REBALANCE. -/
def execRebalance (tag : BitVec 16) (s : State) : Host.Outcome State Fault Refusal := done (kiosk 0x0502 tag kRebalance s)
/-- EVENT_CFG. -/
def execEventCfg (tag : BitVec 16) (s : State) : Host.Outcome State Fault Refusal := done (kiosk 0x0503 tag kEventCfg s)
/-- NV_STORE. -/
def execNvStore (tag : BitVec 16) (pages : Option (List (BitVec 16))) (s : State) : Host.Outcome State Fault Refusal :=
  done (kiosk 0x0601 tag (kNvStore pages) s)
/-- REC_READ. -/
def execRecRead (tag : BitVec 16) (s : State) : Host.Outcome State Fault Refusal := done (kiosk 0x0602 tag kRecRead s)
/-- REC_WRITE. -/
def execRecWrite (tag : BitVec 16) (buf : Option (List W)) (s : State) : Host.Outcome State Fault Refusal :=
  done (kiosk 0x0603 tag (kRecWrite buf) s)
/-- FEED_TOGGLE. -/
def execFeedToggle (tag : BitVec 16) (s : State) : Host.Outcome State Fault Refusal := done (kiosk 0x0801 tag kFeedToggle s)
/-- LEDGER_RESET. -/
def execLedgerReset (tag : BitVec 16) (s : State) : Host.Outcome State Fault Refusal := done (kiosk 0x0802 tag kLedgerReset s)
/-- DORMANT_ENTER. -/
def execDormantEnter (tag : BitVec 16) (s : State) : Host.Outcome State Fault Refusal := done (kiosk 0x0804 tag kDormantEnter s)

/-- MODULE_NO_ANSWER (Table 9.5). -/
def execModuleNoAnswer (tag : BitVec 16) (s : State) : Host.Outcome State Fault Refusal :=
  done (match s.kio.accepted.find? fun k => k.tag == tag && k.begun && k.cmd / 256 == 3 with
    | some k => moduleSilent k s
    | none => s)

/-- WAKE_MGP_RESUME (Table 2.2). -/
def execWakeMgpResume (s : State) : Host.Outcome State Fault Refusal := done (mgpResume s)

end Sys2Proof.Machine
end

