-- ==== Sys2Proof/Machine/Update.lean ====
section
/-!
DEFINITION. An update from staging to READY: staged blocks (R420), verification (R416, R417, R421), local preparation (R423, R424)
and votes (R422, R425).
-/
namespace Sys2Proof.Machine

/-! Staging. -/

/-- Bytes `n` from a flash offset are erased. -/
def flashErase (off n : Nat) (s : State) : State :=
  { s with upe := { s.upe with flash := s.upe.flash.filter fun c => !(off ≤ c.1 && c.1 < off + n) } }

/-- The inactive slots are invalidated: erased, and nothing counts as staged (Table 20.4). -/
def invalidateSlots (s : State) : State :=
  let s1 := flashErase (flashMan (!s.upe.manSlot)) 0x40000 s
  let s2 := flashErase (flashImg (!s.upe.imgSlot)) 0x800000 (flashErase (flashFw (!s.upe.fwSlot)) 0x400000 s1)
  { s2 with upe := { s2.upe with staged := 0 } }

/-- Where UPD_STAGE writes: flash offset and length of its destination; none for a module part that the manifest lacks. -/
def stageDest (s : State) (dest mtype : Nat) : Option (Nat × Nat) :=
  match dest with
  | 0 => some (stageMan s, 0x40000)
  | 1 => some (flashFw (!s.upe.fwSlot), 0x400000)
  | 2 => some (flashImg (!s.upe.imgSlot), 0x800000)
  | _ =>
    let ps := manPartList s (stageMan s)
    ((List.range ps.length).find? fun j => (ps[j]?).any fun p => p.kind == 3 && p.mtype == mtype).map fun j =>
      (partFlash s j, 65536 * ceilDiv ((ps[j]?).elim 0 (·.len)) 65536)

/-- The blocks of a buffer: at most 4,096 bytes of data and their CRC-32C. -/
def stageBlocks : Nat → List Byte → List (List Byte × W)
  | 0, _ => []
  | n + 1, bs =>
    let x := bs.take 4100
    let k := x.length - 4
    if x.length ≤ 4 then [] else (x.take k, lat (wordsOfBytes (x.drop k)) 0 0) :: stageBlocks n (bs.drop 4100)

/-- Write blocks until one fails its check: blocks written, whether all passed, the flash. -/
def stageWrite : List (List Byte × W) → Nat → Nat → List Host.Cell → Nat × Bool × List Host.Cell
  | [], n, _, m => (n, true, m)
  | (d, c) :: r, n, off, m =>
    if crc32c d = c then stageWrite r (n + 1) (off + 4096) (Memory.writeN m off d) else (n, false, m)

/-- UPD_STAGE (R419, R420). -/
def kUpdStage (buf : Option (List Byte)) (k : KCmd) (s : State) : State :=
  let dest := (k.arg 3).bits 1 0
  let off := (k.arg 4).toNat
  let first := s.upe.phase == .idle || s.upe.phase == .verified
  if !(s.upe.phase == .staging || (first && dest == 0 && off == 0)) then kStatus k stState s
  else match buf with
    | none => kDma k s
    | some bs =>
      let s1 := if first then setPhase .staging (invalidateSlots s) else s
      match stageDest s1 dest ((k.arg 3).bits 31 16) with
      | none => kEnd k stOk 0x06 0 0 (updCode 0x06 0 s1)
      | some (at_, len) =>
        let blocks := stageBlocks bs.length bs
        if off + sumNat (blocks.map (·.1.length)) > len then kStatus k stBadArg s
        else
          let (n, ok, fl) := stageWrite blocks 0 (at_ + off) s1.upe.flash
          let s2 := { s1 with upe := { s1.upe with flash := fl, staged := bitPut s1.upe.staged dest true } }
          if ok then kEnd k stOk 0 0 (nw n) (updCode 0 0 s2)
          else kEnd k stOk 0x11 (nw n) (nw n) (updEvt 0 (updCode 0x11 n s2))

/-! Verification. -/

/-- A header word of the staging manifest. -/
def manWord (s : State) (i : Nat) : W := Memory.readW s.upe.flash (stageMan s + 4 * i)

/-- No device is the target of two parts of one kind (R417). -/
def targetsOk (ps : List PartE) (kind : Nat) : Bool :=
  let ts := (ps.filter (·.kind == kind)).map (·.target)
  ts.length ≤ 1 || (!ts.contains 0x3FF && (ts.zipIdx.all fun x => !(ts.drop (x.2 + 1)).contains x.1))

/-- A part entry keeps to Table 20.3. -/
def partOk (p : PartE) : Bool :=
  match p.kind with
  | 1 => p.len ≤ 917504 && p.mtype == 0
  | 2 => p.len ≤ 8388608 && p.mtype == 0
  | 3 => true
  | _ => false

/-- The manifest's header and entries keep to Tables 20.2 and 20.3 (R416, R417). -/
def manifestOk (s : State) : Bool :=
  let w := manWord s
  let n := (w 1).bits 15 0
  let m := (w 7).bits 15 0
  let ps := manPartList s (stageMan s)
  s.upe.staged.getLsbD 0 && w 0 == 0x4B564D46 && (w 1).bits 31 16 == 0x0100 && 1 ≤ n && n ≤ 64 && m ≤ 16384 &&
  (w 2).toNat == 160 + 64 * n + 8 * m && (w 2).toNat ≤ 262144 && (w 3).bits 1 0 ≤ 1 &&
  10 ≤ (w 5).toNat && (w 5).toNat ≤ 86400 && ps.all partOk && targetsOk ps 1 && targetsOk ps 2

/-- The signed bytes of the staging manifest. -/
def manSigned (s : State) : List Byte := flashBytes s (stageMan s) ((manWord s 2).toNat - 96)

/-- The manifest's signature under key slot KEY (R416). -/
def manSigOk (s : State) (key : Nat) : Bool :=
  let sig := flashBytes s (stageMan s + (manWord s 2).toNat - 96) 96
  s.upe.keys.getLsbD key && ecdsaOk (vat s.upe.otpKeys key (0, 0)) (manSigned s) (beNat (sig.take 48)) (beNat (sig.drop 48))

/-- The bytes of part `j` have the hash of their entry. -/
def partHashOk (s : State) (j : Nat) (p : PartE) : Bool := wordsOfBytes (sha384 (flashBytes s (partFlash s j) p.len)) == p.hash

/-- The parts of the staging manifest that this device holds, with their indexes (R417). -/
def heldParts (s : State) : List (Nat × PartE) :=
  ((manPartList s (stageMan s)).zipIdx.filter fun x => holdsPart s x.1).map fun x => (x.2, x.1)

/-- The checks of UPD_VERIFY in order (R421): code of Table 20.5 and part. -/
def verifyCode (s : State) : Nat × Nat :=
  let key := (manWord s 3).bits 1 0
  let revoked := fun (k : Nat) => s.upe.keys.getLsbD (2 + k)
  let held := heldParts s
  if !manifestOk s then (0x01, 0)
  else if !manSigOk s key then (0x02, 0)
  else if revoked key then (0x03, 0)
  else if (manWord s 4).toNat ≤ s.upe.mseqConf.toNat then (0x04, 0)
  else if (manWord s 3).bit 31 && revoked (1 - key) then (0x03, 0)
  else match held.find? (fun x => !s.upe.staged.getLsbD x.2.kind) with
    | some (j, _) => (0x06, j)
    | none => match held.find? (fun x => !partHashOk s x.1 x.2) with
      | some (j, _) => (0x05, j)
      | none => match held.find? (fun x => x.2.kind == 2 && !framingOk (flashWords s (partFlash s x.1) (x.2.len / 4)) (some x.2.len)) with
        | some (j, _) => (0x07, j)
        | none => (0, 0)

/-- UPD_VERIFY (R419). -/
def kUpdVerify (k : KCmd) (s : State) : State :=
  if s.upe.phase = .staging then setPhase .verifying (kBegin k s) else kStatus k stState s

/-- State-map entries of the staging manifest (R418). -/
def stateMap (s : State) : List (Nat × Nat × Bool × Nat) :=
  let at_ := 16 + 16 * manParts s (stageMan s)
  (List.range ((manWord s 7).bits 15 0)).map fun i =>
    let a := manWord s (at_ + 2 * i)
    let b := manWord s (at_ + 2 * i + 1)
    (a.bits 31 16, a.bits 13 0, b.bit 31, b.bits 13 0)

/-- Verification ends (R421, R431): MID is the first word of the manifest's SHA-384 (Table 20.6). -/
def verifyEnd (s : State) : State :=
  if s.upe.phase = .verifying then
    let (code, part) := verifyCode s
    if code = 0 then
      let w3 := manWord s 3
      let s1 := setPhase .verified { s with upe := { s.upe with
        mid := lat (wordsOfBytes (sha384 (manSigned s))) 0 0, mseqNew := manWord s 4, key := w3.extractLsb' 0 2, auto := w3.bit 30
        revokeOther := w3.bit 31, trialS := (manWord s 5).toNat, compat := manWord s 6, smap := stateMap s } }
      updDone 0x0702 0 0 0 (updCode 0 0 s1)
    else updDone 0x0702 code part 0 ((updEvt 1 (updCode code part (setPhase .staging s))).raiseP 982 .ce (0x0A00 + code))
  else s

/-- UPD_VERIFY_END (R421). -/
def execUpdVerifyEnd (s : State) : Host.Outcome State Fault Refusal := done (verifyEnd s)

/-! Local preparation. -/

/-- What a continuing task keeps: profile, period, deadline and grants (R423). -/
def contOk (o t : Task) : Bool :=
  o.profile == t.profile && o.period == t.period && o.deadline == t.deadline && o.chans == t.chans && o.shBase == t.shBase &&
  o.shLen == t.shLen && o.ledgers == t.ledgers && o.jwr == t.jwr && o.pgens == t.pgens && o.recw == t.recw && o.tblrec == t.tblrec

/-- LOCAL and TABLE words of the old code that stand beside the new ones (R423, R426). -/
def oldData (o t : Task) : Nat :=
  o.localLen + (if o.t0Log2 = t.t0Log2 then 0 else tableLen o.t0Log2) + (if o.t1Log2 = t.t1Log2 then 0 else tableLen o.t1Log2)

/-- The new image admitted on a copy of the plan (R423): a continuing task keeps its place, and its blocks where their length is
the same; the blocks of the old image stay until CONFIRM. -/
def updAdmit (s : State) (ws : List W) : Report × Image × List Place :=
  let k := candOf ws s.adm.img
  match s.adm.img with
  | none => admissionOf s k []
  | some o =>
    let kept := fun (t : Task) => match o.task? t.num with
      | some u => u.paramLen == t.paramLen
      | none => false
    let tasks := k.img.tasks.map fun t => match o.task? t.num with
      | some u => if u.paramLen = t.paramLen then { t with w := taskFigure t, paramAt := u.paramAt, bankAt := u.bankAt } else t
      | none => t
    let g := { k.img with tasks := fitTasks (fun t => !kept t) tasks (blocksOf o.tasks) }
    match g.tasks.find? fun t => (o.task? t.num).any fun u => !contOk u t with
    | some t => (refuse 0x01 7 0 t.num, g, [])
    | none =>
      let stay := sumNat ((blocksOf (o.tasks.filter fun u => !(k.img.tasks.any fun t => t.num == u.num && kept t))).map (·.2))
      if sharedNeed g + stay > sharedTop then (refuse 0x0A 6 0 0xFFFF 0xFF 0x06 (sharedNeed g + stay) sharedTop, g, [])
      else admissionWith g (fun n => match o.task? n, g.task? n with
        | some u, some t => oldData u t
        | _, _ => 0) s k (s.adm.nominal.filter fun q => g.tasks.any (·.num == q.task))

/-- The result of the local preparation of the firmware and image parts (R423): the code, its part and RESULT2, and what is
prepared. -/
def prepResult (s : State) : Nat × Nat × Nat × Option (Image × List Place) × Option W :=
  let held := heldParts s
  let fw := (held.find? (·.2.kind == 1)).map (·.2.version)
  match held.find? (·.2.kind == 2) with
  | none => (0, 0, 0, none, fw)
  | some (j, p) =>
    let (rep, g, pl) := updAdmit s (flashWords s (partFlash s j) (p.len / 4))
    if rep.result = 0 then (0, 0, 0, some (g, pl), fw) else (0x08, j, rep.result, none, none)

/-- The module parts go out (R423, R424); links that are not UP are skipped. -/
def prepModules (s : State) : State :=
  let held := (heldParts s).filter (·.2.kind == 3)
  let ofType := fun (t : Nat) => (List.range 64).filter fun l => (s.lk l).st != .down && (lat (s.lk l).hello 1 0).bits 15 0 == t
  held.foldl (fun s x =>
    (ofType x.2.mtype).foldl (fun s l =>
      if (s.lk l).inUse then modLoad l (flashWords s (partFlash s x.1) (x.2.len / 4)) s
      else { s with upe := { s.upe with skipped := insertNat s.upe.skipped l } }) s) s

/-- Local preparation begins (R423). -/
def prepBegin (s : State) : State :=
  let s1 := setPhase .preparing s
  prepModules { s1 with upe := { s1.upe with preparing := true, openTick := s1.now, yes := [], no := [], skipped := [] } }

/-- The join addresses of the system: those of the join bus, else those of the device and its partner (R417). -/
def updDevices (s : State) : List Nat :=
  if onJoin s then List.range (max 1 s.jnb.ndev) else if pairFormed s then [0, 1] else [updAddr s]

/-- A part of kind 1 or 2 targets an address (R422). -/
def targeted (s : State) (a : Nat) : Bool :=
  (manPartList s (stageMan s)).any fun p => (p.kind == 1 || p.kind == 2) && (p.target == a || p.target == 0x3FF)

/-- The device becomes coordinator (R422). -/
def coordinate (s : State) : State :=
  let s1 := prepBegin s
  voteSend 0x30 [] { s1 with upe := { s1.upe with
    coord := true, expected := ((updDevices s).filter (targeted s)).map (BitVec.ofNat 10) } }

/-- UPD_PREPARE (R422): the LEAD or a SOLO device coordinates; its STANDBY prepares (R423). -/
def kUpdPrepare (k : KCmd) (s : State) : State :=
  if s.upe.phase ≠ .verified then kStatus k stState s
  else if k.foreign then prepBegin (kBegin k s) else coordinate (kBegin k s)

/-! Votes. -/

/-- The address of the pair partner (R417). -/
def partnerAddr (s : State) : JAddr := if onJoin s then (joinPartner s).getD s.jnb.pairAddr else BitVec.ofNat 10 (1 - updAddr s)

/-- The addresses for which this device votes when its preparation ends: its own, and the partner's on a LEAD; a coordinator
waits for the STATUS of its STANDBY (R423). -/
def voteFor (s : State) : List JAddr :=
  BitVec.ofNat 10 (updAddr s) :: (if s.prl.role = .lead && pairFormed s && !s.upe.coord then [partnerAddr s] else [])

/-- The first epoch boundary at least 100,000 ticks ahead (R425). -/
def earliestC (s : State) : Nat := s.nextTc 2000 100000

/-- Ticks of one hour. -/
def ticksPerHour : Nat := 7200000000

/-- UPD_COMMIT fixes C (R425): words 3 and 4, 0 for the earliest. COMMIT goes out and the phase is ARMED. -/
def commitAt (k : KCmd) (s : State) : State :=
  let c : BitVec 48 := (k.arg 4).extractLsb' 0 16 ++ k.arg 3
  let t := tickOf48 s.now c
  if c ≠ 0 ∧ t > s.now + ticksPerHour then kStatus k stBadArg s
  else
    let at_ := if c = 0 then earliestC s else max (earliestC s) (s.nextTc 2000 (t - s.now))
    let c48 := BitVec.ofNat 48 at_
    let s1 := setPhase .armed { kBegin k s with upe := { s.upe with commitTick := c48 } }
    if s.upe.coord then voteSend 0x32 [c48.setWidth 32, (c48 >>> 32).setWidth 32] s1 else s1

/-- Every expected vote is YES: UPD_PREPARE completes, or the commit that prepared goes on (R422, R425). -/
def voteJudge (s : State) : State :=
  if s.upe.coord && s.upe.phase == .ready && s.upe.expected.all fun a => s.upe.yes.contains a then
    match s.kio.accepted.find? fun k => k.cmd == 0x0704 && k.begun with
    | some k => commitAt k s
    | none => updDone 0x0703 0 0 0 (updCode 0 0 s)
  else s

/-- The vote of this device (R422, R423): word 3 of VOTE is NO, code and voter. Where every hop runs version 1 none is cast. -/
def castVote (code part r2 : Nat) (s : State) : State :=
  let v1 := fun (p : JPortSt) => p.hop != .up || p.version == 1
  if s.upe.coord then
    (if code = 0 then voteJudge { s with upe := { s.upe with yes := s.upe.yes ++ voteFor s } }
     else updAbortR code part r2 { s with upe := { s.upe with no := s.upe.no ++ voteFor s } })
  else if v1 s.jnb.ja && v1 s.jnb.jb then s
  else (voteFor s).foldl (fun s a =>
    voteSend 0x31 [flag (code != 0) 0 ||| fld code 8 ||| fld a.toNat 16] s) s

/-- Drip operations accepted before the preparation began still run (R423). -/
def dripBefore (s : State) : Bool :=
  s.kio.accepted.any fun k => 2 ≤ k.ring.val && k.ts.toNat / 50 ≤ s.upe.openTick && k.cmd != 0x0703 && k.cmd != 0x0704

/-- What the preparation loads (R423): the shadow instruction banks, and the firmware into the inactive half of management memory. -/
def prepLoad (plan : Option (Image × List Place)) (fw : Option W) (s : State) : State :=
  let s1 := match plan with
    | some (g, pl) => loadCode true g pl s
    | none => s
  match fw with
  | some v => { s1 with boot := { s1.boot with halves := vput s1.boot.halves (!s1.boot.half).toNat v } }
  | none => s1

/-- Local preparation ends (R423): READY and YES, or NO with its code. A STANDBY's own UPD_PREPARE completes. -/
def prepDone (badPart : Option (BitVec 8)) (s : State) : State :=
  if s.upe.phase = .preparing && s.upe.preparing && !dripBefore s then
    let (code, part, r2, plan, fw) := match badPart with
      | some j => (0x09, j.toNat, 0, none, none)
      | none => prepResult s
    let s1 := { s with upe := { s.upe with preparing := false } }
    let s2 := if code = 0 then prepLoad plan fw (setPhase .ready { s1 with upe := { s1.upe with newPlan := plan, newFw := fw } }) else s1
    let s3 := castVote code part r2 s2
    if s3.prl.role = .standby then
      (if code = 0 then updDone 0x0703 0 0 0 s3 else updAbortR code part r2 s3)
    else s3
  else s

/-- PREPARE_DONE (R423). -/
def execPrepareDone (badPart : Option (BitVec 8)) (s : State) : Host.Outcome State Fault Refusal := done (prepDone badPart s)

/-- A message of the update in progress (R422). -/
def ofUpdate (s : State) (mid mseq : W) : Bool := s.upe.mid == mid && s.upe.mseqNew == mseq

/-- VOTE_OPEN (R419). -/
def execVoteOpen (mid mseq : W) (s : State) : Host.Outcome State Fault Refusal :=
  done (if s.upe.phase = .verified && ofUpdate s mid mseq then prepBegin s else s)

/-- VOTE (R422, R425): only the coordinator counts votes. -/
def execVote (mid mseq : W) (no : Bool) (code : BitVec 8) (voter : JAddr) (s : State) : Host.Outcome State Fault Refusal :=
  done (if s.upe.coord && (s.upe.phase == .preparing || s.upe.phase == .ready) && ofUpdate s mid mseq then
      (if no then updAbort code.toNat 0 { s with upe := { s.upe with no := s.upe.no ++ [voter] } }
       else if s.upe.yes.contains voter then s
       else voteJudge { s with upe := { s.upe with yes := s.upe.yes ++ [voter] } })
    else s)

/-- VOTE_TIMEOUT (R425): 10 s after OPEN. -/
def execVoteTimeout (s : State) : Host.Outcome State Fault Refusal :=
  done (if s.upe.coord && s.upe.openTick + 20000000 ≤ s.now && (s.upe.phase == .preparing || s.upe.phase == .ready) && !(s.upe.expected.all fun a => s.upe.yes.contains a)
    then updAbort 0x0A 0 s else s)

/-- VOTE_COMMIT (R425): another coordinator's C. -/
def execVoteCommit (mid mseq : W) (tickC : BitVec 48) (s : State) : Host.Outcome State Fault Refusal :=
  done (if s.upe.phase = .ready && !s.upe.coord && ofUpdate s mid mseq
    then setPhase .armed { s with upe := { s.upe with commitTick := tickC } } else s)

/-- VOTE_ABORT (R419, R425): the code on this device is REMOTE; the log keeps the originator's. -/
def execVoteAbort (mid mseq : W) (code : BitVec 8) (orig : JAddr) (s : State) : Host.Outcome State Fault Refusal :=
  done (if updOpen s.upe.phase && ofUpdate s mid mseq then updUndo 0x10 0 0 code.toNat orig.toNat s else s)

end Sys2Proof.Machine
end

