-- ==== Sys2Proof/Machine/UpdRows.lean ====
section
/-!
DEFINITION. An update from the commit to its end: the change at C (R426), settings (R427), fallback (R428), confirmation (R429),
and the slot directory (R415).
-/
namespace Sys2Proof.Machine

/-! The slot directory. Its layout is not stated (log entry 24): word 0 the slots (bit 0 manifest, 1 firmware, 2 image), word 1
the confirmed MSEQ, word 2 the sequence number, word 3 the CRC-32C of words 0 to 2. -/

/-- First flash byte of a directory copy (Table 20.1). -/
def dirCopy (b : Bool) : Nat := if b then 0x20000 else 0

/-- A directory copy, if it is valid. -/
def dirOf (s : State) (b : Bool) : Option (List W) :=
  let ws := flashWords s (dirCopy b) 4
  if crc32cW (ws.take 3) = lat ws 3 0 && lat ws 3 0 != 0 then some ws else none

/-- The copy that the boot ROM uses (R408, R415). -/
def dirUsed (s : State) : Option (List W) :=
  match dirOf s false, dirOf s true with
  | some a, some b => if seqNewer (lat b 2 0) (lat a 2 0) then some b else some a
  | some a, none => some a
  | none, b => b

/-- The directory is rewritten, copy A first (R415). -/
def dirWrite (s : State) : State :=
  let u := s.upe
  let body := [flag u.manSlot 0 ||| flag u.fwSlot 1 ||| flag u.imgSlot 2, u.mseqConf, (dirUsed s).elim 0 (fun w => lat w 2 0) + 1]
  let ws := body ++ [crc32cW body]
  { s with upe := { u with flash := Memory.writeWs (Memory.writeWs u.flash (dirCopy false) ws) (dirCopy true) ws } }

/-! UPD_COMMIT, UPD_CONFIRM and UPD_FALLBACK. -/

/-- No other device is the target of the manifest (R422). -/
def onlyHere (s : State) : Bool :=
  (manPartList s (stageMan s)).all fun p => p.kind == 3 || p.target == updAddr s || p.target == 0x3FF

/-- UPD_COMMIT (R422, R425): below ABI 2.2 it prepares first on a SOLO device. -/
def kUpdCommit (k : KCmd) (s : State) : State :=
  let all := s.upe.expected.all fun a => s.upe.yes.contains a
  if s.upe.phase = .ready ∧ (k.foreign ∨ s.upe.coord && all) then commitAt k s
  else if abiOf s < 0x202 ∧ s.prl.role = .solo ∧ s.upe.phase = .verified ∧ onlyHere s then coordinate (kBegin k s)
  else kStatus k stState s

/-- TRIAL_S has passed. -/
def trialOver (s : State) : Bool := s.upe.trialStart + 2000000 * s.upe.trialS ≤ s.now

/-- UPD_FALLBACK (R428): it completes at F. -/
def kUpdFallback (k : KCmd) (s : State) : State :=
  if s.upe.phase = .trial then updCause 0x0E 0 (kBegin k s) else kStatus k stState s

/-! The change at C. -/

/-- Blocks of a continuing task whose PARAM length changed: its words so far, then the new initial ones; its banks as they
stand (R426, R107). -/
def moveBlocks (s0 : State) (o t : Task) (s : State) : State :=
  if o.paramAt = t.paramAt then s
  else
    let n := min o.paramLen t.paramLen
    let ws := Memory.readWs s0.shared (4 * o.paramAt) n ++ t.paramInit.drop n
    let m := Memory.writeWs s.shared (4 * t.paramAt) ws
    { s with shared := if t.profile = .l then Memory.writeWs m (4 * t.bankAt) (Memory.readWs s0.shared (4 * o.bankAt) 256) else m }

/-- One image takes the place of another at a tick (R155, R426, R428): continuing tasks keep contexts and blocks. -/
def swapImage (g : Image) (nominal : List Place) (s : State) : State :=
  let old := s.adm.img.elim [] (·.tasks)
  let cont := fun n => old.any (·.num == n) && g.tasks.any (·.num == n)
  match placesNow g nominal (fencedSet s) (fencedSU s) with
  | none => s
  | some pl =>
    let s1 := bindRecorder g (installPlan true g nominal pl cont s)
    let s2 := old.foldl (fun s1 o => (g.task? o.num).elim s1 fun t => moveBlocks s o t s1) s1
    { s2 with adm := { s2.adm with actEpoch := nw s2.epoch } }

/-- What the old firmware leaves in the handover area (R426). -/
def handArea (s : State) : HandArea where
  session := if s.kio.isOpen then some (s.kio.major, s.kio.minor) else none
  rings := s.kio.sq.toList.flatMap (fun r => [r.head, r.tail]) ++ s.kio.cq.toList.flatMap (fun r => [r.head, r.tail]) ++
    [s.kio.eq.head, s.kio.eq.tail]
  drips := (s.kio.accepted.filter fun k => 2 ≤ k.ring.val).map (·.tag)
  timers := [s.upe.openTick, s.upe.trialStart]

/-- The kiosk hands over to other firmware for at most 4,000 ticks (R426). -/
def handOver (fw compat : W) (s : State) : State :=
  if fw = s.upe.fwAct then s
  else { s with
    boot := { s.boot with half := !s.boot.half, hand := some (handArea s) }
    upe := { s.upe with fwAct := fw }
    kio := { s.kio with handover := some (s.now + 4000) }
    prl := { s.prl with compat := compat } }

/-- UPD_COMMIT completes after the handover (R425, R426). -/
def commitDone (s : State) : State := if s.kio.handover.isSome then s else updDone 0x0704 0 0 0 s

/-- Tick C (R426). -/
def commitTick (s : State) : State :=
  if s.upe.phase = .armed then
    let u := s.upe
    let o : OldParts := ⟨s.adm.img, s.adm.nominal, s.adm.place, [], u.fwAct, s.prl.compat⟩
    let s1 := match u.newPlan with
      | some (g, pl) => swapImage g pl s
      | none => s
    let s2 := moduleCtrl 2 { s1 with upe := { s1.upe with
      old := some (if u.newPlan.isSome then o else { o with img := none }), fwAlt := if u.newFw.isSome then u.fwAct else 0
      newPlan := none, trialStart := s1.now, back := [], bankTick := if u.newPlan.isSome then some (s1.now + 2000) else none } }
    let s3 := match u.newFw with
      | some v => handOver v u.compat s2
      | none => s2
    let s4 := setPhase .trial s3
    let f := u.fallTick.getD 0
    commitDone (if u.fallTick.isSome then voteSend 0x34 [f.setWidth 32, (f >>> 32).setWidth 32, fld (updAddr s) 16 ||| fld u.lastCode.toNat 0] s4 else s4)
  else s

/-- COMMIT_TICK (R426). -/
def execCommitTick (s : State) : Host.Outcome State Fault Refusal :=
  done (if tickOf48 s.now s.upe.commitTick ≤ s.now then commitTick s else s)

/-- One epoch after C or F the two instruction banks of every loop engine exchange roles (R426, R428). -/
def bankExchange (s : State) : State :=
  { s with le := s.le.map (fun x => { x with ibank := !x.ibank }), upe := { s.upe with bankTick := none } }

/-- The new firmware resumes from the handover area (R426). -/
def handoverEnd (s : State) : State :=
  if s.kio.handover.isSome then
    let s1 := commitDone { s with kio := { s.kio with handover := none } }
    if s1.upe.phase = .idle then updDone 0x0706 0 0 0 s1 else s1
  else s

/-- HANDOVER_END (R426). -/
def execHandoverEnd (s : State) : Host.Outcome State Fault Refusal := done (handoverEnd s)

/-! Settings (R427). -/

/-- First byte of the staging pages (Table 20.8). -/
def stagePages : Nat := nvPage 4036

/-- Staged settings as words: ID and count, then the words (layout: log entry 24). -/
def stagedWords (l : List (BitVec 16 × List W)) : List W :=
  l.flatMap fun x => (fld x.1.toNat 16 ||| fld x.2.length 0) :: x.2

/-! Fallback (R428). -/

/-- Sequences whose code differs restart their present entry (R178, R426, R428). -/
def restartSeqs (old : List Task) (s : State) : State :=
  (List.range 64).foldl (fun s k =>
    match taskAt s (384 + k) with
    | some t => s.modCx (384 + k) fun x => { x with seq := overSeq s t ((old.find? (·.num == t.num)).all fun u => u.code == t.code) x.seq }
    | none => s) s

/-- The old image is in force again; its continuing tasks go back at their next release (R428). -/
def oldImage (o : OldParts) (s : State) : State :=
  match o.img with
  | none => s
  | some g =>
    let old := s.adm.img.elim [] (·.tasks)
    let s1 := swapImage g o.nominal s
    restartSeqs old { s1 with upe := { s1.upe with back := o.locals, bankTick := some (s1.now + 2000) } }

/-- Tick F (R428): R426 is reversed; the inactive slots are invalidated. -/
def fallback (s : State) : State :=
  match s.upe.phase, s.upe.old with
  | .trial, some o =>
    let code := s.upe.lastCode.toNat
    let s1 := moduleCtrl 3 (handOver o.fw o.compat (oldImage o { s with upe := { s.upe with old := none } }))
    let s2 := { s1 with upe := { s1.upe with
      fallTick := none, fwAlt := 0, settings := [], coord := false, commitTick := 0, newFw := none, skipped := [] } }
    let s3 := (updLog s.upe.fallLog.1 s.upe.fallLog.2 (updEvt 4 s2)).raiseP 982 .uc (0x0A00 + code)
    let s4 := setPhase .idle (invalidateSlots s3)
    if s4.kio.handover.isSome then s4 else updDone 0x0706 0 0 0 (updDone 0x0704 code 0 0 s4)
  | _, _ => s

/-- FALLBACK_TICK (R428). -/
def execFallbackTick (s : State) : Host.Outcome State Fault Refusal := 
  done (if s.upe.fallTick.any (fun f => tickOf48 s.now f ≤ s.now) then fallback s else s)

/-- VOTE_FALLBACK (R428): F of the device that found the cause; of two the earlier stands. The code on this device is REMOTE; the log
keeps the originator's, as for an ABORT (log entry 24). -/
def execVoteFallback (mid mseq : W) (tickF : BitVec 48) (code : BitVec 8) (orig : JAddr) (s : State) :
    Host.Outcome State Fault Refusal :=
  done (if (s.upe.phase == .trial || s.upe.phase == .armed) && ofUpdate s mid mseq then
      if s.upe.fallTick.any fun g => tickOf48 s.now g ≤ tickOf48 s.now tickF then s
      else updPage (updCode 0x10 0 { s with upe := { s.upe with fallTick := some tickF, fallLog := (code.toNat, orig.toNat) } })
    else s)

/-! Confirmation (R429). -/

/-- Step 4 and the end of CONFIRMING: the other key is revoked where the manifest asks for it, the old parts are freed. -/
def confFinish (s : State) : State :=
  if s.upe.phase = .confirming then
    let u := s.upe
    let keys := if u.revokeOther then bitPut u.keys (2 + (1 - u.key.toNat)) true else u.keys
    setPhase .idle (updEvt 2 { s with upe := { u with
      keys := keys, old := none, fwAlt := 0, confStep := 0, back := [], newFw := none, coord := false, commitTick := 0, settings := [] } })
  else s

/-- A staged setting replaces its record: word 0 is its SCHEMA, the rest its payload (log entry 24). -/
def settingPut (s : State) (x : BitVec 16 × List W) : State :=
  let n := ((recFind s x.1).map (·.len)).getD (x.2.length - 1)
  (recUpdate x.1 ((lat x.2 0 0).extractLsb' 0 16) ((List.range n).map fun i => lat x.2 (1 + i) 0) s).2

/-- Step 2 of CONFIRMING: the window is stored, at once or after the store that runs (R429). -/
def confStore (s : State) : State :=
  if s.nvs.storing then { s with upe := { s.upe with confStep := 1 } }
  else storeBegin s.nvs.dirty none false { s with upe := { s.upe with confStep := 2 } }

/-- SETTINGS_MIGRATION (R427): a schema that the new firmware cannot read, or settings beyond the staging pages, fall back. In a
CONFIRMING phase resumed at start-up the settings replace the old records and the window is stored (R429). -/
def settingsStage (staged : Option (List (BitVec 16 × List W))) (s : State) : State :=
  if s.upe.phase = .trial then
    match staged with
    | some l =>
      if 4 * (stagedWords l).length ≤ 11264 then
        nvPut stagePages (bytesOfWords (stagedWords l)) { s with upe := { s.upe with settings := l } }
      else updCause 0x0C 0 (updEvt 5 s)
    | none => updCause 0x0C 0 (updEvt 5 s)
  else if s.upe.phase = .confirming && s.upe.confStep = 3 then
    confStore ((staged.getD []).foldl settingPut s)
  else s

/-- SETTINGS_MIGRATION (R427). -/
def execSettingsMigration (staged : Option (List (BitVec 16 × List W))) (s : State) : Host.Outcome State Fault Refusal :=
  done (settingsStage staged s)

/-- CONFIRMING begins (R429): the directory names the new slots and MSEQ, the settings replace the old records, the window is
stored. -/
def confirm (s : State) : State :=
  let u := s.upe
  let held := heldParts s
  let has := fun (k : Nat) => held.any (·.2.kind == k)
  let s1 := setPhase .confirming { s with upe := { u with fallTick := none } }
  let s2 := dirWrite { s1 with upe := { s1.upe with
    manSlot := !u.manSlot, fwSlot := u.fwSlot != has 1, imgSlot := u.imgSlot != has 2, mseqConf := u.mseqNew } }
  confStore (u.settings.foldl settingPut s2)

/-- UPD_CONFIRM (R429). -/
def kUpdConfirm (k : KCmd) (s : State) : State :=
  if s.upe.phase = .trial ∧ trialOver s ∧ s.upe.fallTick.isNone ∧ (s.upe.coord ∨ k.foreign) then
    kEnd k stOk 0 0 0 (confirm (if s.upe.coord then voteSend 0x35 [] s else s))
  else kStatus k stState s

/-- TRIAL_S ends (R429): the coordinator confirms by itself with AUTO_CONFIRM. -/
def trialEnd (s : State) : State :=
  if s.upe.phase = .trial then
    let s1 := { s with upe := { s.upe with trialS := 0 } }
    if s.upe.auto && s.upe.coord && s.upe.fallTick.isNone then confirm (voteSend 0x35 [] s1) else s1
  else s

/-- TRIAL_END (R429). -/
def execTrialEnd (s : State) : Host.Outcome State Fault Refusal := done (if trialOver s then trialEnd s else s)

/-- VOTE_CONFIRM (R429). -/
def execVoteConfirm (mid mseq : W) (s : State) : Host.Outcome State Fault Refusal :=
  done (if s.upe.phase = .trial && ofUpdate s mid mseq && !s.upe.coord then confirm s else s)

/-! The rows of the commands. -/

/-- UPD_STAGE. -/
def execUpdStage (tag : BitVec 16) (buf : Option (List Byte)) (s : State) : Host.Outcome State Fault Refusal :=
  done (kiosk 0x0701 tag (kUpdStage buf) s)
/-- UPD_VERIFY. -/
def execUpdVerify (tag : BitVec 16) (s : State) : Host.Outcome State Fault Refusal := done (kiosk 0x0702 tag kUpdVerify s)
/-- UPD_PREPARE. -/
def execUpdPrepare (tag : BitVec 16) (s : State) : Host.Outcome State Fault Refusal := done (kiosk 0x0703 tag kUpdPrepare s)
/-- UPD_COMMIT. -/
def execUpdCommit (tag : BitVec 16) (s : State) : Host.Outcome State Fault Refusal := done (kiosk 0x0704 tag kUpdCommit s)
/-- UPD_CONFIRM. -/
def execUpdConfirm (tag : BitVec 16) (s : State) : Host.Outcome State Fault Refusal := done (kiosk 0x0705 tag kUpdConfirm s)
/-- UPD_FALLBACK. -/
def execUpdFallback (tag : BitVec 16) (s : State) : Host.Outcome State Fault Refusal := done (kiosk 0x0706 tag kUpdFallback s)

end Sys2Proof.Machine
end

