-- ==== Sys2Proof/Machine/Power.lean ====
section
/-!
DEFINITION. Supplies, reset, the boot ROM and the first acts of the firmware (R401 to R404, R433 to R441, R463), and the store
engine's rows (R399, R400).
-/
namespace Sys2Proof.Machine

/-! Reset. -/

/-- The machine as a chip reset leaves it: State.reset with what outlives a reset, namely the NV cells, the flash, the OTP,
host memory, the messages sent and the levels on input pins. -/
def chipReset (s : State) : State :=
  let r := State.reset
  { r with
    pending := s.pending, fresh := s.fresh, host := s.host
    kio := { r.kio with perst := s.kio.perst, msix := s.kio.msix }
    nvs := { r.nvs with cells := s.nvs.cells, pfailIn := s.nvs.pfailIn, vnvLow := s.nvs.vnvLow, released := s.nvs.released }
    upe := { r.upe with flash := s.upe.flash, keys := s.upe.keys, otpKeys := s.upe.otpKeys, serial := s.upe.serial }
    boot := { r.boot with rstLow := s.boot.rstLow, supplyOut := s.boot.supplyOut }
    twp := s.twp.map fun t => { Twp.init with sclIn := t.sclIn, sdaIn := t.sdaIn, alertIn := t.alertIn } }

/-- CHIP_RESET_TIMER (R379, Table 18.3): CRST acts 100 us after detection. -/
def execChipResetTimer (s : State) : Host.Outcome State Fault Refusal := 
  done (if s.fcr.crst.any (· ≤ s.now) then chipReset s else s)

/-- RST_N_ASSERT (R433). -/
def execRstNAssert (s : State) : Host.Outcome State Fault Refusal :=
  done (chipReset { s with boot := { s.boot with rstLow := true } })

/-- SUPPLY_OUT_OF_WINDOW (R463): E973 to E979 at class FE, none in STORE, where VNV stops the store as R402 gives; in RESET the
device stays held (R433). -/
def execSupplyOutOfWindow (i : Fin 7) (s : State) : Host.Outcome State Fault Refusal :=
  let s1 := { s with boot := { s.boot with supplyOut := bitPut s.boot.supplyOut i.val true } }
  done (if s.clk.chip = .reset || s.clk.chip = .store then s1 else s1.raiseC (973 + i.val) .fe)

/-! Straps (R434, R451). -/

/-- TR2:TR1: a side is strapped. -/
def strapSided (w : BitVec 16) : Bool := w.getLsbD 1 != w.getLsbD 2
/-- TR4:TR3: the boot source, 0b11 read as QSPI. -/
def strapSource (w : BitVec 16) : Nat := if w.getLsbD 3 && w.getLsbD 4 then 0 else (w.extractLsb' 3 2).toNat
/-- TR6:TR5: lanes of the host link, 0b11 read as x1. -/
def strapLanes (w : BitVec 16) : Nat :=
  match (w.extractLsb' 5 2).toNat with
  | 0 => 4
  | 1 => 2
  | _ => 1

/-- The host link trains once PERST# is released and the straps stand: 8 GT/s and the strapped width (R210; the outcome of a
training is a choice of the model). -/
def hostTrain (s : State) : State :=
  if !s.kio.perst && s.boot.latched && s.clk.chip != .reset
  then { s with kio := { s.kio with pcieSpeed := 2, pcieLanes := strapLanes s.boot.straps } } else s

/-- The boot source is the host, so the ROM waits for it (R436). -/
def toWaitHost (s : State) : State :=
  if s.clk.chip = .boot && s.boot.latched && strapSource s.boot.straps = 1 && s.boot.stage = 1
  then { s with boot := { s.boot with stage := 4 } } else s

/-- STRAP_LATCH (R434, R451, R353): taken once after each reset. -/
def execStrapLatch (levels : BitVec 24) (s : State) : Host.Outcome State Fault Refusal :=
  done (if (s.clk.chip = .reset || s.clk.chip = .boot) && !s.boot.latched then
      let w := levels.extractLsb' 0 16
      let both := fun (i : Nat) => w.getLsbD i && w.getLsbD (i + 1)
      let s1 := { s with boot := { s.boot with straps := w, latched := true, strapBad := both 1 || both 3 || both 5 } }
      let s2 := if strapSided w then { s1 with prl := { s1.prl with
          role := .standby, side := w.getLsbD 2, strapped := true, pst := .seek } } else s1
      hostTrain (toWaitHost s2)
    else s)

/-- RESET_RELEASE (R433, R397, R415, R435): the supplies, the crystal and RST_N are right; the dividers start, TC and TS are 0,
recall begins and the ROM reads the slot directory. -/
def execResetRelease (s : State) : Host.Outcome State Fault Refusal :=
  done (if s.clk.chip = .reset then
      let d := (dirUsed s).getD []
      let s1 := { s with
        clk := { s.clk with chip := .boot, rootLock := true, tickRun := true, tc := 0, ts := 0 }
        nvs := { s.nvs with recalling := true }
        upe := { s.upe with
          manSlot := (lat d 0 0).bit 0, fwSlot := (lat d 0 0).bit 1, imgSlot := (lat d 0 0).bit 2, mseqConf := lat d 1 0 }
        boot := { s.boot with rstLow := false, supplyOut := 0, stage := 1 } }
      followRef (hostTrain (toWaitHost s1))
    else s)

/-! The host link (R210, R144). -/

/-- The endpoint's configuration as a reset of the endpoint leaves it (log entry 20: PCI Express); after BOOT the session closes (R210). -/
def endpointReset (s : State) : State :=
  let s1 := { s with kio := { s.kio with msixOn := false, msixMask := BitVec.allOnes 64, msixPend := 0 } }
  if s.clk.chip = .boot then s1 else sessionLost s1

/-- A host link that leaves L0 for good: the endpoint is reset (R210). -/
def hostDown (s : State) : State :=
  endpointReset { s with kio := { s.kio with pcieLanes := 0, pcieSpeed := 0, d3 := false } }

/-- PERST_ASSERT (R210): at the pin; the link is down until its release. -/
def execPerstAssert (s : State) : Host.Outcome State Fault Refusal := done (hostDown { s with kio := { s.kio with perst := true } })

/-- MSI-X enable and masks written (R230; log entry 20): the pending messages of vectors 1 to 63 that may now be sent are sent. -/
def msixConfig (on : Bool) (mask : BitVec 64) (s : State) : State :=
  (List.range 63).foldl (fun s i =>
    let v := i + 1
    if on && s.kio.msixPend.getLsbD v && !mask.getLsbD v
    then { s with kio := { s.kio with msixPend := bitPut s.kio.msixPend v false, msix := vmod s.kio.msix v (· + 1) } } else s)
    { s with kio := { s.kio with msixOn := on, msixMask := mask } }

/-- PERST_RELEASE (R210). -/
def execPerstRelease (s : State) : Host.Outcome State Fault Refusal :=
  done (hostTrain { s with kio := { s.kio with perst := false } })

/-- HOST_LINK_EVENT (R144, R208, R210, R230): E961 at class UC, its code and payload free; the host's resets and configuration of the
endpoint raise nothing. After a hot reset the link trains again; D3hot keeps it. -/
def execHostLinkEvent (ev : HostLinkEv) (s : State) : Host.Outcome State Fault Refusal :=
  done (if s.clk.chip = .reset then s else
    match ev with
    | .aer => s.raiseC 961 .uc
    | .downtrain speed width =>
      ({ s with kio := { s.kio with pcieSpeed := speed.val, pcieLanes := width.toNat } } : State).raiseC 961 .uc
    | .down => hostDown (s.raiseC 961 .uc)
    | .hotReset => hostTrain (hostDown s)
    | .d3hot => endpointReset { s with kio := { s.kio with d3 := true } }
    | .d0 => { s with kio := { s.kio with d3 := false } }
    | .msix on mask => msixConfig on mask s)

/-! Power failure (R401 to R403). -/

/-- A join port whose hop is down. -/
def hopLost (p : JPortSt) : JPortSt := { p with hop := .down, usable := false, syncTick := none }

/-- Table 19.2: FINAL frames leave, join ports and the pair link fall silent, recording stops, ALIVE is low, and the store of
all dirty pages begins; a running NV_STORE is absorbed. -/
def powerFail (s0 : State) : State :=
  let s := closeAll false s0
  let s1 := pairLost { s with
    clk := { s.clk with chip := .store }
    link := s.link.map fun x => if x.inUse then { x with finals := 4 } else x
    jnb := { s.jnb with ja := hopLost s.jnb.ja, jb := hopLost s.jnb.jb } }
  let s2 := { s1 with
    fcr := { s1.fcr with aliveRun := false, alive := false }
    nvs := { s1.nvs with pfSeq := true } }
  let pages := s2.nvs.dirty.foldl insertNat (if s2.nvs.storing then s2.nvs.todo else [])
  let n := if s2.nvs.storing then s2.nvs.written else 0
  let s3 := storeBegin pages (if s2.nvs.storing then s2.nvs.tag else none) true s2
  { s3 with nvs := { s3.nvs with written := n } }

/-- PFAIL_ASSERT (R401, R437): E980 at class CE; in BOOT before recall has ended recall is abandoned and nothing is stored. -/
def execPfailAssert (s : State) : Host.Outcome State Fault Refusal :=
  let s1 := { s with nvs := { s.nvs with pfailIn := true, released := none } }
  done (if s.clk.chip = .reset || s.nvs.pfSeq then s1
    else
      let s2 := s1.raiseC 980 .ce
      if s2.nvs.recalling then { s2 with
        clk := { s2.clk with chip := .store }
        nvs := { s2.nvs with recalling := false, pfSeq := true } }
      else powerFail s2)

/-- PFAIL_RELEASE (R401): the sequence goes on. -/
def execPfailRelease (s : State) : Host.Outcome State Fault Refusal :=
  done { s with nvs := { s.nvs with pfailIn := false, released := some s.now } }

/-- STORE_EXIT_RESET (R403, R437): PFAIL has stayed released for 10 ms. -/
def execStoreExitReset (s : State) : Host.Outcome State Fault Refusal :=
  done (if s.nvs.pfSeq && !s.nvs.pfailIn && !s.nvs.storing && s.nvs.released.any (· + 20000 ≤ s.now) then chipReset s else s)

/-- VNV_LOW (R396, R402): the store stops at a word boundary and never writes END; how many words of the page being written were
reached is a free value. -/
def execVnvLow (s : State) : Host.Outcome State Fault Refusal :=
  let s1 := { s with nvs := { s.nvs with vnvLow := true } }
  done (match s1.nvs.storing, s1.nvs.todo with
    | true, p :: _ =>
      let (k, s2) := s1.draw 0 64
      { s2 with nvs := { s2.nvs with
        cells := Memory.writeN s2.nvs.cells (nvPage p) (Memory.readN s2.nvs.win (nvPage p) (4 * min k 64))
        storing := false, todo := [] } }
    | _, _ => { s1 with nvs := { s1.nvs with storing := false, todo := [] } })

/-! The store engine (R399, R400). -/

/-- The next store begins: that of the oldest NV_STORE waiting, its first page latched, else the one that a confirmation waits for
(R429). -/
def storeTake (s : State) : State :=
  match s.nvs.waiting with
  | (tag, pages) :: r =>
    let mode1 := ((kByTag s tag).map fun k => (k.arg 3).bit 0).getD true
    let ps := if mode1 then pages.foldl insertNat [] else s.nvs.dirty
    kFix (some tag) (storeNext (storeBegin ps (some tag) false { s with nvs := { s.nvs with waiting := r } }))
  | [] =>
    if s.upe.confStep = 1 then storeBegin s.nvs.dirty none false { s with upe := { s.upe with confStep := 2 } } else s

/-- The NVS may store: recall has ended and VNV is in its window. -/
def storeOk (s : State) : Bool := s.nvs.ready && !s.nvs.vnvLow && s.clk.chip != .reset

/-- One page of the running store, or the start of the next. -/
def storeRun (s : State) : State :=
  if !storeOk s then s else if s.nvs.storing then storeNext s else if s.nvs.pfSeq then s else storeTake s

/-- NV_STORE_RUN (R399, R400). -/
def execNvStoreRun (s : State) : Host.Outcome State Fault Refusal := done (storeRun s)

/-- The running store ends (R400 step 4): its NV_STORE completes; a confirmation that waited for it goes on (R429). -/
def storeEnd (s : State) : State :=
  if s.nvs.storing && storeOk s then
    let s1 := storeFinish s
    let s2 := kEndTag s1.nvs.tag stOk (nw s1.nvs.written) 0 0 { s1 with nvs := { s1.nvs with tag := none, pfStore := false } }
    if s2.upe.confStep = 2 && !s2.nvs.pfSeq then confFinish s2 else s2
  else s

/-- NV_STORE_END (R400). -/
def execNvStoreEnd (s : State) : Host.Outcome State Fault Refusal := done (storeEnd s)

/-- COUNTER_INCREMENT (R410): the oldest increment that waits. -/
def execCounterIncrement (s : State) : Host.Outcome State Fault Refusal := done (if storeOk s then counterStep s else s)

/-! The firmware (R435, R438). -/

/-- The update that page 4,034 shows is taken up again (R438): CONFIRMING goes on once the settings are migrated again (R429), TRIAL
has fallen back to the old parts, an update before C is in STAGING. -/
def leftover (s : State) : State :=
  let w := nvWords s (nvPage 4034) 7
  let p := (lat w 0 0).toNat
  let u := { s.upe with mid := lat w 1 0, mseqNew := lat w 2 0, staged := 15 }
  let s1 := { s with upe := u }
  if p = 8 then
    let w3 := Memory.readW s.upe.flash (flashMan u.manSlot + 12)
    { s1 with
      upe := { u with phase := .confirming, confStep := 3, key := w3.extractLsb' 0 2, revokeOther := w3.bit 31 }
      boot := { s1.boot with leftPhase := .confirming } }
  else if p = 7 then
    let s2 := updEvt 4 (updCode 0x0D 0 { s1 with boot := { s1.boot with leftPhase := .trial } })
    let s3 := (updLog 0x0D (updAddr s2) s2).raiseP 982 .uc 0x0A0D
    let s4 := voteSend 0x34 [0, 0, fld (updAddr s3) 16 ||| fld 0x0D 0] (moduleCtrl 3 s3)
    setPhase .idle (invalidateSlots { s4 with upe := { s4.upe with staged := 0 } })
  else if 2 ≤ p && p ≤ 6 then
    setPhase .staging (updCode 0x0F 0 { s1 with boot := { s1.boot with leftPhase := .staging } })
  else if p = 1 then { s1 with upe := { u with phase := .staging }, boot := { s1.boot with leftPhase := .staging } }
  else s

/-- RUN is entered once the firmware runs and recall has ended (R435); the reference, the join bus and the pair are taken up
(R24, R439), and a leftover update is finished (R438). -/
def enterRun (s : State) : State :=
  if s.clk.chip = .boot && s.kio.fwReady && s.nvs.ready
  then leftover (followRef { s with clk := { s.clk with chip := .run }, tmu := { s.tmu with run := true } }) else s

/-- The boot image's words, if they pass the checks of R440 step 1; else the update code of R441. -/
def bootImage (s : State) : Except Nat (List W) :=
  match activePart s 2 with
  | none => .error 0
  | some p =>
    let at_ := flashImg s.upe.imgSlot
    if wordsOfBytes (sha384 (flashBytes s at_ p.len)) != p.hash then .error 0x05
    else
      let ws := flashWords s at_ (p.len / 4)
      if framingOk ws (some p.len) then .ok ws else .error 0x07

/-- ENABLE of every link in the boot image's LINKS section (R440 step 2). -/
def bootEnable (s : State) : State :=
  if s.boot.fromHost then s
  else match bootImage s with
    | .ok ws => (candOf ws none).img.links.foldl (fun s d => slcEnable d.link true s) s
    | .error _ => s

/-- The active parts, seen as a staged manifest. -/
def activeParts (s : State) : State :=
  { s with upe := { s.upe with manSlot := !s.upe.manSlot, fwSlot := !s.upe.fwSlot, imgSlot := !s.upe.imgSlot, staged := 15 } }

/-- Steps 4 and 5 of the boot ROM on the flash (Table 21.1): 0, or the code of Table 21.5. A manifest that brings no firmware part has no
hash for the active firmware (log entry 69). -/
def romCode (s : State) : Nat :=
  let h := activeParts s
  let key := (manWord h 3).bits 1 0
  if (dirUsed s).isNone then 2
  else if !manifestOk h then 7
  else if !manSigOk h key then 3
  else if s.upe.keys.getLsbD (2 + key) then 4
  else match (heldParts h).find? (·.2.kind == 1) with
    | none => 0
    | some (j, p) => if partHashOk h j p then 0 else 5

/-- The ROM goes from step to step (Table 21.1, ID_BOOT.STAGE 1 to 3): the manual bounds the steps from above only, so when each ends is a
free value (log entry 7). -/
def bootTick (s : State) : State :=
  if s.clk.chip = .boot && (s.boot.stage = 1 || s.boot.stage = 2) then
    let (x, s1) := s.draw 0 1
    if x = 1 then { s1 with boot := { s1.boot with stage := s1.boot.stage + 1 } } else s1
  else s

/-- FIRMWARE_START (R435, R439, R440 step 2): the ROM has passed steps 3 to 5, or the host's parts; FW_READY is set. On the flash path
the parts must pass the ROM's checks (R436). -/
def execFirmwareStart (patch : BitVec 16) (s : State) : Host.Outcome State Fault Refusal :=
  done (if s.clk.chip = .boot && !s.kio.fwReady &&
      (1 ≤ s.boot.stage.toNat && s.boot.stage.toNat ≤ 3 && romCode s = 0 || s.boot.stage = 5) then
      let compat := if s.boot.fromHost then Memory.readW s.shared 24
        else Memory.readW s.upe.flash (flashMan s.upe.manSlot + 24)
      bootEnable (enterRun { s with
        boot := { s.boot with stage := 6, fwTick := s.now, halves := vput s.boot.halves s.boot.half.toNat (fld 2 24 ||| fld 3 16 ||| patch.setWidth 32) }
        kio := { s.kio with fwReady := true }
        jnb := { s.jnb with st := 1 }
        upe := { s.upe with fwAct := fld 2 24 ||| fld 3 16 ||| patch.setWidth 32 }
        prl := { s.prl with compat := compat, link := if s.prl.strapped then .train else .down } })
    else s)

/-- BOOT_FAIL (R436): a QSPI step fails; the ROM stops, or continues as the host path. No flash answers (NO_SFDP), or the parts fail the
ROM's checks with this code. -/
def execBootFail (code : BitVec 8) (s : State) : Host.Outcome State Fault Refusal :=
  done (if s.clk.chip = .boot && 1 ≤ s.boot.stage.toNat && s.boot.stage.toNat ≤ 3 && !s.kio.fwReady &&
      (code = 1 || code != 0 && romCode s = code.toNat) then
      { s with boot := { s.boot with code := code, stage := if strapSource s.boot.straps = 0 then 7 else 4 } }
    else s)

/-- The parts that the host has written, seen as a staged manifest with the firmware part behind it (R436). -/
def hostParts (s : State) : State :=
  { s with upe := { s.upe with staged := 15, flash := s.shared.map fun x => (x.1 + stageMan s, x.2) } }

/-- The checks of GO (R436): 0, or the code of Table 21.5. -/
def goCode (s : State) : Nat :=
  let h := hostParts s
  let key := (manWord h 3).bits 1 0
  if !manifestOk h then 7
  else if !manSigOk h key then 3
  else if s.upe.keys.getLsbD (2 + key) then 4
  else if (manWord h 4).toNat < s.upe.mseqConf.toNat then 6
  else match (heldParts h).find? (·.2.kind == 1) with
    | none => 7
    | some (_, p) =>
      if wordsOfBytes (sha384 (flashBytes h (stageMan h + 0x40000) p.len)) == p.hash then 0 else 5

/-- BOOT_GO (R436): only in WAIT_HOST. -/
def bootGo (s : State) : State :=
  if s.clk.chip = .boot && s.boot.stage = 4 then
    let c := goCode s
    if c = 0 then { s with boot := { s.boot with code := 0, fromHost := true, stage := 5 } }
    else { s with boot := { s.boot with code := BitVec.ofNat 8 c } }
  else s

/-- BOOT_GO. -/
def execBootGo (s : State) : Host.Outcome State Fault Refusal := done (bootGo s)

/-- ALIVE_START (R387, R388, R435): the firmware runs, the chip has left BOOT, and the routing self-test passes for the first time; where
FCR_ROUTING_SELFTEST has reported that pass already, it is not counted again. -/
def execAliveStart (s : State) : Host.Outcome State Fault Refusal :=
  done (if s.kio.fwReady && !s.fcr.aliveRun && !s.fcr.fatal && s.clk.chip = .run then
      let e := bitPut s.fcr.errn 2 false
      let f := if s.fcr.selftestTick.isNone then { s.fcr with selftests := s.fcr.selftests + 1, selftestTick := some s.now } else s.fcr
      { s with fcr := { f with aliveRun := true, errn := e, errnOut := e != 0 } }
    else s)

/-! Recall (R397, R398, R404). -/

/-- The journal shows a store cut short (R404). -/
def journalCut (s : State) : Bool :=
  let b := Memory.readW s.nvs.win journalAt
  let e := Memory.readW s.nvs.win (journalAt + 12)
  b != 0 && (e = 0 || seqNewer b e)

/-- NV_RECALL_END (R397, R398, R404): `bad` are the words that could not be corrected. -/
def execNvRecallEnd (bad : List Nat) (s : State) : Host.Outcome State Fault Refusal :=
  done (if s.nvs.recalling then
      let ws := bad.filter (· < nvBytes / 4)
      let win := ws.foldl (fun m a => Memory.writeW m (4 * a) 0) s.nvs.cells
      let s1 := { s with nvs := { s.nvs with
        win := win, dirty := [], recalling := false, ready := true
        recallReg := fld (ws.foldl (fun l a => insertNat l (a / 64)) []).length 16 ||| fld (min (s.now / 2) 65535) 0 } }
      let s2 := ws.foldl (fun s a => (nvFlag 5 s).raise 981 .uc 0x0904 (nw (a / 64))) s1
      let s3 := if journalCut s2 then (nvFlag 2 s2).raiseP 981 .uc 0x0903 else s2
      fixEpoch (enterRun s3)
    else s)

/-! The pair without a partner and the boot image (R439, R440). -/

/-- PAIR_SEEK_TIMEOUT (R439): 100 ms after the firmware started, and 1 s on side B, a device with a side takes LEAD with PSTATE SEEK, and
admits the image it kept (R440). -/
def execPairSeekTimeout (s : State) : Host.Outcome State Fault Refusal :=
  done (if s.prl.strapped && s.prl.role = .standby && s.prl.pst = .seek && s.prl.link != .up && s.clk.chip = .run &&
      s.boot.fwTick + (if s.prl.side then 2000000 else 200000) ≤ s.now then
      let s1 := setRole .lead .seek s
      if s1.boot.imageKept && s1.adm.run.isNone then
        match bootImage s1 with
        | .ok ws => admStart none ws { s1 with boot := { s1.boot with imageKept := false } }
        | .error c => bootImageFail c s1
      else s1
    else s)

/-- Step 3 of R440: each link of the image is UP, or 5 ms have passed since ENABLE, which the firmware sets as it starts. -/
def bootLinksWaited (s : State) : Bool :=
  s.boot.fwTick + 10000 ≤ s.now || (match bootImage s with
    | .ok ws => (candOf ws none).img.links.all fun d => (s.lk d.link).st == .up
    | .error _ => true)

/-- Step 4 of R440: the join state is RUN or NOADDR, or 100 ms have passed; 10 ms where no hop has left DOWN. -/
def bootJoinWaited (s : State) : Bool :=
  s.jnb.st == 3 || s.jnb.st == 4 || s.boot.fwTick + 200000 ≤ s.now ||
    (s.jnb.ja.hop == .down && s.jnb.jb.hop == .down && s.boot.fwTick + 20000 ≤ s.now)

/-- BOOT_IMAGE_ADMIT (R440), once the waits of steps 3 and 4 are over. -/
def execBootImageAdmit (s : State) : Host.Outcome State Fault Refusal :=
  done (if s.clk.chip = .run && bootLinksWaited s && bootJoinWaited s && !s.boot.fromHost && !s.boot.imageDone && !s.boot.imageKept && (activePart s 2).isSome &&
      s.adm.run.isNone && s.adm.img.isNone && s.upe.phase != .confirming then
      match bootImage s with
      | .error c => bootImageFail c s
      | .ok ws =>
        let s1 := bootEnable s
        if s1.prl.role = .standby then
          (if s1.prl.pst = .seek then { s1 with boot := { s1.boot with imageKept := true } }
           else { s1 with boot := { s1.boot with imageDone := true } })
        else admStart none ws s1
    else s)

end Sys2Proof.Machine
end

