-- ==== Sys2Proof/Machine/Join.lean ====
section
/-!
DEFINITION. The join bus (chapter 16): hops, the train and its passage, slots, cells and their messages, enumeration and grants.
-/
namespace Sys2Proof.Machine

/-! Shared operations. -/

/-- The join source E959 at a class; its code and payload are not stated (free values). -/
def joinRaise (cls : EvClass) (s : State) : State := s.raiseC 959 cls

/-- Set a flag of JNB_EVT (Table 16.11). -/
def jnbEvt (b : Nat) (s : State) : State := { s with jnb := { s.jnb with evt := bitPut s.jnb.evt b true } }

/-- A port. -/
def Jnb.port (j : Jnb) : JPort → JPortSt
  | .ja => j.ja
  | .jb => j.jb

/-- Change a port. -/
def modPort (p : JPort) (f : JPortSt → JPortSt) (s : State) : State :=
  match p with
  | .ja => { s with jnb := { s.jnb with ja := f s.jnb.ja } }
  | .jb => { s with jnb := { s.jnb with jb := f s.jnb.jb } }

/-- The other port. -/
def otherPort : JPort → JPort
  | .ja => .jb
  | .jb => .ja

/-- The firmware has taken up the join bus and the dividers run (R439). -/
def joinRuns (s : State) : Bool := s.kio.fwReady && clockRuns s

/-- G of `n` devices (R342). -/
def groupsOf (n : Nat) : Nat := min 128 (ceilDiv n 8 + 1)
/-- C of `g` groups (R342). -/
def cellsOf (g : Nat) : Nat := (23936 - 104 * g) / 32

/-- The address that a message of this device bears: that of the pair's A device (R348). -/
def joinSrc (s : State) : JAddr :=
  if s.prl.side then (joinPartner s).getD (ownAddr s) else ownAddr s

/-- A message addressed to this device (R346, R348). -/
def joinMine (s : State) (dst : JAddr) : Bool := dst == 0x3FF || (onJoin s && (dst == ownAddr s || dst == joinSrc s))

/-! Hops (R340, R351, R352). -/

/-- HOP_HELLO (R340): this device offers versions 1 and 2; the measured one-way delay is a free value of at most 16 ns. -/
def execHopHello (p : JPort) (vmax vmin : Nat) (serial : W) (role : PairRole) (s : State) : Host.Outcome State Fault Refusal :=
  done (if joinRuns s && (s.jnb.port p).hop != .up then
      let v := min 2 vmax
      let s0 := { s with jnb := { s.jnb with st := if s.jnb.st = 0 then 1 else s.jnb.st } }
      if v < max 1 vmin then jnbEvt 2 (modPort p (fun x => { x with hop := .down }) s0)
      else
        let (d, s1) := s0.draw 0 16000
        modPort p (fun x => { x with
          hop := .up, version := v, serial := serial, peerRole := if v = 2 then role else .solo, delay := min d 16000,
          usable := false, upTick := s.now, syncTick := none, role := 0 }) s1
    else s)

/-- HOP_USABLE (R340): a hop that has been UP for 10 cycles is used, unless the port is refused (R351). -/
def execHopUsable (p : JPort) (s : State) : Host.Outcome State Fault Refusal :=
  let x := s.jnb.port p
  done (if x.hop = .up && x.role != 3 && x.upTick + 2000 ≤ s.now then modPort p (fun x => { x with usable := true }) s else s)

/-- The reference that a join port gives (R21). -/
def portRef : JPort → RefSel
  | .ja => .ja
  | .jb => .jb

/-- A hop goes DOWN (R340, R352): a break when it was UP; a reference taken from it stops (R29). -/
def hopDown (p : JPort) (s : State) : State :=
  if (s.jnb.port p).hop = .up then
    let s1 := joinRaise .uc (jnbEvt 0 (modPort p (fun x => { hopLost x with role := 0, version := 0 }) s))
    if s.clk.refsel == portRef p && clockRuns s then refLost s1 else s1
  else modPort p (fun x => { x with hop := .down }) s

/-- HOP_DOWN (R340, R352). -/
def execHopDown (p : JPort) (s : State) : Host.Outcome State Fault Refusal := done (if joinRuns s then hopDown p s else s)

/-- A second master: the port is refused (R351). -/
def dualMaster (p : JPort) (s : State) : State :=
  if (s.jnb.port p).role = 3 then s
  else joinRaise .uc (jnbEvt 3 (modPort p (fun x => { x with role := 3, usable := false }) s))

/-! Messages (R346 to R348, R350). -/

/-- ENUM reaches a device without an address (R350): it takes NEXT, late when enumeration is over, as long as NEXT is below 8G. -/
def joinEnum (late : Bool) (next : Nat) (s : State) : State :=
  if s.jnb.addr.isSome || isMaster s then s
  else if (if late then next < 8 * s.jnb.g else next < 1024) then
    followRef { s with jnb := { s.jnb with addr := some (BitVec.ofNat 10 next), st := 3, late := late } }
  else if s.jnb.st = 4 then s
  else joinRaise .uc { s with jnb := { s.jnb with st := 4 } }

/-- ENUM (R350): the train's FLAGS.ENUM is that of a device still TRAINING or ENUMERATING. -/
def execEnum (next : Nat) (s : State) : Host.Outcome State Fault Refusal :=
  done (if joinRuns s then joinEnum (s.jnb.st != 1 && s.jnb.st != 2) next s else s)

/-- The lowest run of `n` cells from cell 5 upwards that no grant holds (R348). -/
def grantRun (c : Nat) (gs : List (JAddr × Nat × Nat × Nat)) (n : Nat) : Option Nat :=
  (((gs.map fun x => x.2.1 + x.2.2.1).foldl insertNat [5]).find? fun a =>
    5 ≤ a && a + n ≤ c && gs.all fun x => a + n ≤ x.2.1 || x.2.1 + x.2.2.1 ≤ a)

/-- The longest run that could be granted. -/
def grantAvail (c : Nat) (gs : List (JAddr × Nat × Nat × Nat)) : Nat :=
  ((List.range 65).filter fun n => (grantRun c gs n).isSome).foldl max 0

/-- J0 receives RESERVE (R348): 0 cells release the grant; else the lowest run that fits is granted, or the request refused. -/
def joinReserve (src : JAddr) (cells : Nat) (s : State) : State :=
  if !(isMaster s) then s
  else
    let rest := s.jnb.grants.filter (·.1 != src)
    if cells = 0 then { s with jnb := { s.jnb with grants := rest } }
    else match grantRun s.jnb.c rest cells with
      | some a => { s with jnb := { s.jnb with
          grants := rest ++ [(src, a, cells, s.jnb.cycles)]
          grantQ := s.jnb.grantQ ++ [(src, fld a 16 ||| fld cells 0, 0)] } }
      | none => { s with jnb := { s.jnb with
          grantQ := s.jnb.grantQ ++ [(src, 0, fld 1 0 ||| fld (grantAvail s.jnb.c rest) 16)] } }

/-- RESERVE (R348). -/
def execReserve (src : JAddr) (cells : Nat) (s : State) : Host.Outcome State Fault Refusal :=
  done (if joinRuns s then joinReserve src (cells % 1024) s else s)

/-- J0's answer to the device's RESERVE (R348, Table 16.11). -/
def joinGrant (first count : Nat) (refused : Bool) (s : State) : State :=
  let s1 := { s with jnb := { s.jnb with reserve := none } }
  if refused then jnbEvt 4 s1 else { s1 with jnb := { s1.jnb with first := first, count := count } }

/-- JOIN_GRANT (R348). -/
def execJoinGrant (first count : Nat) (refused : Bool) (s : State) : Host.Outcome State Fault Refusal :=
  done (if joinRuns s && onJoin s then joinGrant (first % 1024) (count % 1024) refused s else s)

/-- GRANT_EXPIRY (R348): a grant whose holder has sent no FRESH slot for 10,000 cycles ends. -/
def execGrantExpiry (holder : JAddr) (s : State) : Host.Outcome State Fault Refusal :=
  done (if isMaster s then { s with jnb := { s.jnb with
      grants := s.jnb.grants.filter fun g => g.1 != holder || s.jnb.cycles < g.2.2.2 + 10000 } } else s)

/-- TRIGGERs with this SYSNUM that passed in the last 2 cycles (R347). -/
def trigPassed (s : State) (n : BitVec 8) : Bool := s.jnb.trigSeen.any fun x => x.1 == n && s.jnb.cycles ≤ x.2 + 2

/-- A system trigger arrives (R240): the JOIN triggers with its SYSNUM fire at f. -/
def joinTrig (src : JAddr) (n : BitVec 8) (f : BitVec 48) (s : State) : State :=
  (List.range 32).foldl (fun s i =>
    let g := vat s.bbr.trig i Trig.init
    if g.decl && trigSource g == 3 && trigSys g == n.toNat then trigHit i (tickOf48 s.now f) src s else s) s

/-- JOIN_TRIGGER (R240). -/
def execJoinTrigger (src : JAddr) (sysnum : BitVec 8) (f : BitVec 48) (s : State) : Host.Outcome State Fault Refusal :=
  done (if joinRuns s then joinTrig src sysnum f s else s)

/-- The state after a meaning. -/
def after (o : Host.Outcome State Fault Refusal) (s : State) : State :=
  match o with
  | .next t => t
  | _ => s

/-- Some hop that is UP runs version 2, so VOTE messages are acted on (Table 16.1). -/
def votesHere (s : State) : Bool :=
  let v2 := fun (p : JPortSt) => p.hop == .up && p.version == 2
  v2 s.jnb.ja || v2 s.jnb.jb

/-- The state code of Table 7.3 as a state. -/
def seqOfCode (n : Nat) : Option SeqSt :=
  [SeqSt.off, .up, .on, .down, .paused, .unwind, .fault, .retryWait, .locked].find? fun x => seqCode x == n

/-- A VOTE message acts (Table 20.6). -/
def voteAct (kind : Nat) (w : Nat → W) (s : State) : State :=
  let c48 : BitVec 48 := (w 3).extractLsb' 0 16 ++ w 2
  match kind with
  | 0x30 => after (execVoteOpen (w 0) (w 1) s) s
  | 0x31 => after (execVote (w 0) (w 1) ((w 2).bit 0) ((w 2).extractLsb' 8 8) ((w 2).extractLsb' 16 10) s) s
  | 0x32 => after (execVoteCommit (w 0) (w 1) c48 s) s
  | 0x33 => after (execVoteAbort (w 0) (w 1) ((w 2).extractLsb' 0 8) ((w 3).extractLsb' 0 10) s) s
  | 0x34 => after (execVoteFallback (w 0) (w 1) c48 ((w 4).extractLsb' 0 8) ((w 4).extractLsb' 16 10) s) s
  | 0x35 => after (execVoteConfirm (w 0) (w 1) s) s
  | _ => s

/-- A received message acts (Table 16.6). -/
def cellAct (x : Cell) (s : State) : State :=
  let w := fun (i : Nat) => lat x.pay i 0
  match x.kind.toNat with
  | 0x02 => if (w 1).bits 15 0 = 0 then joinGrant ((w 0).bits 25 16) ((w 0).bits 9 0) false s else joinGrant 0 0 true s
  | 0x03 => joinReserve x.src ((w 0).bits 9 0) s
  | 0x10 => after (execSeqReq x.src ((w 0).extractLsb' 0 16) ((w 0).bit 16) s) s
  | 0x11 => (match seqOfCode ((w 0).bits 19 16) with
      | some q => after (execSeqState x.src ((w 0).extractLsb' 0 16) q s) s
      | none => s)
  | 0x20 => joinTrig x.src ((w 0).extractLsb' 0 8) ((w 2).extractLsb' 0 16 ++ w 1) s
  | k => if 0x30 ≤ k && k ≤ 0x37 && votesHere s then voteAct k w s else s

/-- What every passing message tells: grants in force and triggers seen (R346 to R348). -/
def cellSeen (x : Cell) (s : State) : State :=
  let w := fun (i : Nat) => lat x.pay i 0
  let gs := s.jnb.grants.filter (·.1 != x.dst)
  match x.kind.toNat with
  | 0x02 => if isMaster s || (w 1).bits 15 0 != 0 then s
      else { s with jnb := { s.jnb with grants := gs ++ [(x.dst, (w 0).bits 25 16, (w 0).bits 9 0, s.jnb.cycles)] } }
  | 0x03 => if !(isMaster s) && (w 0).bits 9 0 = 0
      then { s with jnb := { s.jnb with grants := s.jnb.grants.filter (·.1 != x.src) } } else s
  | 0x20 => { s with jnb := { s.jnb with
      trigSeen := ((w 0).extractLsb' 0 8, s.jnb.cycles) :: s.jnb.trigSeen.filter fun y => s.jnb.cycles ≤ y.2 + 2 && y.1 != (w 0).extractLsb' 0 8 } }
  | _ => s

/-- A full cell that was received acts once (R346). -/
def cellIn (x : Cell) (s : State) : State :=
  let known := s.jnb.seen.any fun y => y.1 == x.src && y.2 == x.seq
  if !x.full || known || x.src = joinSrc s && x.dst = 0x3FF && onJoin s then s
  else
    let others := s.jnb.seen.filter (·.1 != x.src)
    let mine := s.jnb.seen.filter (·.1 == x.src)
    let s1 := { s with jnb := { s.jnb with seen := others ++ lastN mine 7 ++ [(x.src, x.seq)] } }
    if joinMine s1 x.dst then cellAct x s1 else s1

/-- Every part of a train that arrives whole is received (R343, R346). -/
def cellsIn (t : Train) (s : State) : State :=
  (t.cells.zipIdx.filter fun x => !(t.badCells.contains x.2)).foldl (fun s x =>
    if x.1.full then cellIn x.1 (cellSeen x.1 s) else s) s

/-! Writing into a train (R344, R346). -/

/-- An empty cell. -/
def Cell.empty : Cell := ⟨false, false, 0, 0, 0, 0, []⟩

/-- The messages that may go into cell `i` (Table 16.6). -/
def cellTakes (granted : Bool) (i kind : Nat) : Bool :=
  if granted then kind == 0x10 || kind == 0x11 || (0x30 ≤ kind && kind ≤ 0x37)
  else if i ≤ 4 then kind == 0x20
  else kind == 0x03 || (0x30 ≤ kind && kind ≤ 0x37)

/-- Cell `i` of a passing train after this device: its granted cells always, a trigger or free cell when it arrives empty; a cell of
`bad` arrived with a wrong CRC and was not received (R343). -/
def cellWrite (bad : List Nat) (st : State × List Cell) (ci : Cell × Nat) : State × List Cell :=
  let (s, out) := st
  let (x, i) := ci
  let granted := s.jnb.first ≤ i && i < s.jnb.first + s.jnb.count
  let foreign := s.jnb.grants.any fun g => g.1 != joinSrc s && g.2.1 ≤ i && i < g.2.1 + g.2.2.1
  if i = 0 || (!granted && (x.full || foreign || bad.contains i)) then (s, out ++ [x])
  else
    match s.jnb.outQ.findIdx? fun m => cellTakes granted i m.1 with
    | none => (s, out ++ [if granted then Cell.empty else x])
    | some k =>
      let (kind, dst, pay) := lat s.jnb.outQ k (0, 0, [])
      ({ s with jnb := { s.jnb with outQ := s.jnb.outQ.eraseIdx k, seq := s.jnb.seq + 1 } },
       out ++ [⟨true, false, BitVec.ofNat 6 kind, s.jnb.seq, joinSrc s, dst, pay⟩])

/-- The device may send: it has an address and is SOLO or LEAD (R344, R348). -/
def joinSends (s : State) : Bool := onJoin s && s.prl.role != .standby

/-- A TRIGGER whose SYSNUM has passed in the last 2 cycles is dropped (R347). -/
def dropTriggers (s : State) : State :=
  { s with jnb := { s.jnb with outQ := s.jnb.outQ.filter fun m =>
      !(m.1 == 0x20 && trigPassed s ((lat m.2.2 0 0).extractLsb' 0 8)) } }

/-- The device writes its slot and its cells into a train (R344, R346). -/
def trainWrite (t : Train) (s : State) : Train × State :=
  let a := (ownAddr s).toNat
  let slots := if joinSends s && !s.clk.notAligned then
      t.slots.zipIdx.map fun x => if x.2 = a then
        ⟨true, false, vat s.jnb.latched 0 0, vat s.jnb.latched 1 0, vat s.jnb.latched 2 0⟩ else x.1
    else t.slots
  if joinSends s then
    let (s1, cells) := (t.cells.zipIdx).foldl (cellWrite t.badCells) (dropTriggers s, [])
    let mine := fun (i : Nat) => i != 0 && s.jnb.first ≤ i && i < s.jnb.first + s.jnb.count
    ({ t with slots := slots, cells := cells, badCells := t.badCells.filter fun i => !(mine i) }, s1)
  else ({ t with slots := slots }, s)

/-! The end of a cycle at this device (R345). -/

/-- Slots received with FRESH = 1, as they stand in the train. -/
def freshSlots (t : Train) : List (Nat × W × W × W) :=
  (t.slots.zipIdx.filter fun x => x.1.fresh && !(t.badGroups.contains (x.2 / 8))).map fun x => (x.2, x.1.w0, x.1.w1, x.1.w2)

/-- The slots of a completed cycle stand for JRD (R345, R61): words received FRESH with age 0, the others one cycle older. -/
def joinSettle (s : State) : State :=
  match s.jnb.rxNext with
  | [] => s
  | mark :: new =>
    let older := if mark.1 = 1024 then 1 else 0
    let aged := s.jnb.rx.map fun x => (x.1, x.2.1, x.2.2.1, x.2.2.2.1, min 255 (x.2.2.2.2 + older))
    { s with jnb := { s.jnb with
      rxNext := [], rx := new.foldl (fun l x => assocPut l x.1 (x.2.1, x.2.2.1, x.2.2.2, 0)) aged } }

/-- A cycle completes: its slots stand from the next tick on; J0 notes the holders that are alive (R345, R348). A train that comes by
again after its cycle was taken as complete (a ring that has just broken) brings newer slots of the same cycle. -/
def cycleDone (t : Train) (s0 : State) : State :=
  let s := joinSettle s0
  if s.jnb.ended then { s with jnb := { s.jnb with rxNext := (1025, 0, 0, 0) :: freshSlots t } } else
  let alive := fun (a : JAddr) => match t.slots[a.toNat]? with
    | some x => x.fresh && !x.carried
    | none => false
  { s with jnb := { s.jnb with
    ended := true
    rxNext := (1024, 0, 0, 0) :: freshSlots t
    cycles := s.jnb.cycles + 1
    grants := s.jnb.grants.map fun g => if alive g.1 then (g.1, g.2.1, g.2.2.1, s.jnb.cycles + 1) else g } }

/-! The walk (R341). -/

/-- The own slot image is latched at TC a multiple of 200 (R344). -/
def slotLatch (s : State) : State := { s with jnb := { s.jnb with latched := s.jnb.slot } }

/-- The cells of the next train (R346): carried once, then emptied. -/
def carryCell (x : Cell) : Cell := if x.full && !x.carried then { x with carried := true } else Cell.empty
/-- The slots of the next train (R344). -/
def carrySlot (x : JSlot) : JSlot := if x.carried then { x with fresh := false } else { x with carried := true }

/-- Cell 0 of J0's next train (R350): a GRANT, or ENUM with the next address. -/
def cellZero (s : State) : Cell × State :=
  let s1 := { s with jnb := { s.jnb with seq := s.jnb.seq + 1 } }
  match s.jnb.grantQ with
  | (dst, w1, w2) :: r => (⟨true, false, 0x02, s.jnb.seq, 0, dst, [w1, w2]⟩, { s1 with jnb := { s1.jnb with grantQ := r } })
  | [] => (⟨true, false, 0x01, s.jnb.seq, 0, 0x3FF, [fld (max 1 s.jnb.ndev) 0]⟩, s1)

/-- J0's own RESERVE does not travel; it is decided at once. -/
def ownReserve (s : State) : State :=
  match s.jnb.outQ.find? (·.1 == 0x03) with
  | none => s
  | some m =>
    let n := (lat m.2.2 0 0).bits 9 0
    let s1 := joinReserve 0 n { s with jnb := { s.jnb with outQ := s.jnb.outQ.filter (·.1 != 0x03) } }
    let mine := s1.jnb.grantQ.filter (·.1 == 0)
    let s2 := { s1 with jnb := { s1.jnb with grantQ := s1.jnb.grantQ.filter (·.1 != 0) } }
    mine.foldl (fun s g => joinGrant (g.2.1.bits 25 16) (g.2.1.bits 9 0) (g.2.2.bit 0) s) s2

/-- A word of the serial number as SYNC carries it. -/
def mySerial (s : State) : W := lo32 s.upe.serial

/-- A valid SYNC has crossed the hop of a port (R340). -/
def syncSeen (p : JPort) (s : State) : State := modPort p (fun x => { x with syncTick := some s.now }) s

/-- J0 builds and sends the train of a cycle at TC = 200c (R342, R344, R346, R350). The first train enumerates with G of one device. A
train that did not come back brings nothing to the next (log entry 69). -/
def trainStart (s0 : State) : State :=
  let j := s0.jnb
  if joinRuns s0 && isMaster s0 && (j.ja.usable || j.jb.usable) && s0.tcMod 200 = 0 && !j.passed then
    let first := j.st != 3
    let s1 := ownReserve (slotLatch (if first
      then { s0 with jnb := { j with st := 2, addr := some 0, g := groupsOf 1, c := cellsOf (groupsOf 1), ndev := 0 } } else s0))
    let (c0, s2) := cellZero s1
    let g := s2.jnb.g
    let oldC := (s2.jnb.back.elim [] (·.cells)).map carryCell
    let oldS := (s2.jnb.back.elim [] (·.slots)).map carrySlot
    let cells := c0 :: ((List.range s2.jnb.c).drop 1).map fun i => lat oldC i Cell.empty
    let slots := (List.range (8 * g)).map fun i => lat oldS i ⟨false, false, 0, 0, 0⟩
    let t : Train := ⟨s2.clk.tc - BitVec.ofNat 48 (s2.tcMod 200), s2.jnb.ring, first, !j.jb.usable, g, s2.jnb.ndev, 0,
      mySerial s2, true, cells, [], slots, []⟩
    let (t1, s3) := trainWrite t s2
    followRef (syncSeen (if j.jb.usable then .jb else .ja)
      { s3 with jnb := { s3.jnb with sent := some t1, back := none, passed := true, ended := false } })
  else s0

/-- TRAIN_START (R342). -/
def execTrainStart (s : State) : Host.Outcome State Fault Refusal := done (trainStart s)

/-- RING as SYNC tells it; a closing raises the join source at class CE (R352). -/
def ringSeen (ring : Bool) (s : State) : State :=
  let s1 := { s with jnb := { s.jnb with ring := ring } }
  if ring && !s.jnb.ring && 2 ≤ s.jnb.cycles then joinRaise .ce (jnbEvt 1 s1) else s1

/-- The walk ends at J0 (R341, R344, R350): the train is kept for the next, the cycle completes, and an enumeration fixes N, G
and C. -/
def trainEnd (ring : Bool) (t : Train) (s0 : State) : State :=
  let s := ringSeen ring s0
  let next := match t.cells[0]? with
    | some x => if x.full && x.kind = 1 && !(t.badCells.contains 0) then (lat x.pay 0 0).bits 10 0 else 0
    | none => 0
  let slots := t.slots.zipIdx.map fun x => if t.badGroups.contains (x.2 / 8) then { x.1 with fresh := false } else x.1
  let cells := t.cells.zipIdx.map fun x => if t.badCells.contains x.2 then Cell.empty else x.1
  let s1 := cycleDone t { s with jnb := { s.jnb with back := some { t with slots := slots, cells := cells, badCells := [], badGroups := [] } } }
  if s1.jnb.st = 2 then
    let n := max 1 next
    { s1 with jnb := { s1.jnb with st := 3, ndev := n, g := groupsOf n, c := cellsOf (groupsOf n) } }
  else { s1 with jnb := { s1.jnb with ndev := max s1.jnb.ndev next } }

/-- A train arrives at J0 (R341, R351). -/
def trainAtMaster (p : JPort) (t : Train) (s : State) : State :=
  if t.mserial != mySerial s then dualMaster p s
  else
    let s1 := cellsIn t (syncSeen p s)
    match p with
    | .jb => if s1.jnb.ja.usable then syncSeen .ja { s1 with jnb := { s1.jnb with sent := some { t with lineJa := true } } } else trainEnd false t s1
    | .ja => trainEnd (!t.lineJa) t s1

/-- The port on which a train that came on port `p` leaves (R341). -/
def leavesOn (p : JPort) (s : State) : JPort := if (s.jnb.port (otherPort p)).usable then otherPort p else p

/-- In a closed ring a device's first passage is its last: the train before, after which no second passage came, was the first of the
ring, and its cycle is complete as well (R341, R345). -/
def ringLate (ring : Bool) (s : State) : State :=
  match s.jnb.sent with
  | some x => if ring && !s.jnb.ended then cycleDone x s else s
  | none => s

/-- The first passage: the upstream port, the delay, ENUM, slot and cells (R341, R343, R344, R346, R350). An enumerating train that
reaches a device in RUN tells that J0 has reset, after which addresses are given again (R350; log entry 63). -/
def trainFirst (p : JPort) (t : Train) (s0 : State) : State :=
  let z := if t.enumF && s0.jnb.st = 3 then { s0 with jnb := { s0.jnb with addr := none, late := false, st := 2 } } else s0
  let s := followRef (modPort (otherPort p) (fun x => { x with role := if x.role = 3 then 3 else if x.hop = .up then 2 else 0 })
    (modPort p (fun x => { x with role := 1 }) z))
  let s1 := ringSeen t.ring { s with jnb := { s.jnb with
    delay := nw t.delayAcc, g := t.g, ndev := t.ndev, c := cellsOf t.g, master := some t.mserial
    st := if s.jnb.addr.isSome then 3 else if s.jnb.st = 4 then 4 else 2 } }
  let c0 := lat t.cells 0 Cell.empty
  let isEnum := c0.full && c0.kind = 1 && !(t.badCells.contains 0) && s1.jnb.addr.isNone
  let next := (lat c0.pay 0 0).bits 10 0
  let s2 := if isEnum then joinEnum (!t.enumF) next s1 else s1
  let took := isEnum && s2.jnb.addr.isSome
  let t1 := if took then { t with cells := { c0 with pay := [fld (next + 1) 0] } :: t.cells.drop 1 } else t
  let s3 := { s2 with jnb := { s2.jnb with pairAddr := joinSrc s2 } }
  let (fwd, s4) := s3.draw 0 24000
  let (t2, s5) := trainWrite { t1 with delayAcc := t1.delayAcc + (s.jnb.port p).delay + min fwd 24000 } (cellsIn t1 s4)
  { s5 with jnb := { s5.jnb with sent := some t2, passed := true, ended := false } }

/-- A train arrives at any other device (R341 to R346, R351). -/
def trainAtDevice (p : JPort) (t : Train) (s : State) : State :=
  if s.jnb.master.any (· != t.mserial) then dualMaster p s
  else
    let s1 := syncSeen (leavesOn p s) (syncSeen p s)
    let again := s1.jnb.sent.any fun x => x.syncOk && x.cycleTc == t.cycleTc
    let s2 := if again then (fun (s : State) => { s with jnb := { s.jnb with sent := some t } }) (cellsIn t s1)
      else trainFirst p t (ringLate t.ring s1)
    if again || leavesOn p s2 == p || t.ring then cycleDone (s2.jnb.sent.getD t) s2 else s2

/-- A train whose SYNC fails its CRC (R343): the parts that arrive whole are received, and slot and cells are written at the first
passage, as R344 and R346 give; nothing that SYNC tells is taken. -/
def trainBlind (p : JPort) (t : Train) (s : State) : State :=
  let s1 := cellsIn t s
  if isMaster s1 then { s1 with jnb := { s1.jnb with sent := some t } }
  else if s1.jnb.passed then
    cycleDone t { s1 with jnb := { s1.jnb with sent := some t } }
  else
    let (t1, s2) := trainWrite t s1
    let s3 := { s2 with jnb := { s2.jnb with sent := some t1, passed := true, ended := false } }
    if leavesOn p s3 == p || s3.jnb.ring then cycleDone t1 s3 else s3

/-- TRAIN_PASSAGE (R341 to R346): parts that fail their CRC are counted and not received. -/
def trainPassage (p : JPort) (t : Train) (s : State) : State :=
  if joinRuns s && (s.jnb.port p).hop == .up && (s.jnb.port p).role != 3 then
    let bad := t.badCells.length + t.badGroups.length + (if t.syncOk then 0 else 1)
    let s1 := { s with jnb := { s.jnb with crcErr := s.jnb.crcErr + nw bad } }
    if !t.syncOk then trainBlind p t s1
    else if isMaster s1 then trainAtMaster p t s1 else trainAtDevice p t s1
  else s

/-- TRAIN_PASSAGE. -/
def execTrainPassage (p : JPort) (t : Train) (s : State) : Host.Outcome State Fault Refusal := done (trainPassage p t s)

end Sys2Proof.Machine
end

