-- ==== Sys2Proof/Machine/LoopAcc.lean ====
section
/-!
DEFINITION. Accumulators and binary32 arithmetic (R71, R72).
-/
namespace Sys2Proof.Machine

/-- Accumulator `k` changed. -/
def setAcc (k : Nat) (v : Acc) (x : Context) : Context := { x with acc := vput x.acc k v }

/-- MAC (R71). -/
def execMac (c : Ctx) (f : AForm) (s : State) : Host.Outcome State Fault Refusal :=
  done (ctxOp c (wordA 0x20 f) 0 (fun v i x => setAcc i.d (accMac false (vat x.acc i.d 0) (v i.a) (v i.b)) x) s)

/-- MSU (R71). -/
def execMsu (c : Ctx) (f : AForm) (s : State) : Host.Outcome State Fault Refusal :=
  done (ctxOp c (wordA 0x21 f) 0 (fun v i x => setAcc i.d (accMac true (vat x.acc i.d 0) (v i.a) (v i.b)) x) s)

/-- MCLR (R71). -/
def execMclr (c : Ctx) (f : AForm) (s : State) : Host.Outcome State Fault Refusal :=
  done (ctxOp c (wordA 0x22 f) 0 (fun _ i x => setAcc i.d 0 x) s)

/-- MRD (R71). -/
def execMrd (c : Ctx) (f : AForm) (s : State) : Host.Outcome State Fault Refusal :=
  done (alu c (wordA 0x23 f) 0 (fun _ x i => resMrd (i.md % 2 == 1) i.sh (vat x.acc i.a 0)) s)

/-- MLD (R71). -/
def execMld (c : Ctx) (f : AForm) (s : State) : Host.Outcome State Fault Refusal :=
  done (ctxOp c (wordA 0x24 f) 0 (fun v i x => setAcc i.d (accLoad (v i.a) i.sh) x) s)

/-- FADD (R72). -/
def execFadd (c : Ctx) (f : AForm) (s : State) : Host.Outcome State Fault Refusal :=
  done (alu c (wordA 0x28 f) 0 (fun v _ i => resPlain (fadd (v i.a) (v i.b))) s)

/-- FSUB (R72). -/
def execFsub (c : Ctx) (f : AForm) (s : State) : Host.Outcome State Fault Refusal :=
  done (alu c (wordA 0x29 f) 0 (fun v _ i => resPlain (fsub (v i.a) (v i.b))) s)

/-- FMUL (R72). -/
def execFmul (c : Ctx) (f : AForm) (s : State) : Host.Outcome State Fault Refusal :=
  done (alu c (wordA 0x2A f) 0 (fun v _ i => resPlain (fmul (v i.a) (v i.b))) s)

/-- FMA (R72). -/
def execFma (c : Ctx) (f : AForm) (s : State) : Host.Outcome State Fault Refusal :=
  done (alu c (wordA 0x2B f) 0 (fun v _ i => resPlain (ffma (v i.d) (v i.a) (v i.b))) s)

/-- FDIV (R72). -/
def execFdiv (c : Ctx) (f : AForm) (s : State) : Host.Outcome State Fault Refusal :=
  done (alu c (wordA 0x2C f) 0 (fun v _ i => resPlain (fdiv (v i.a) (v i.b))) s)

/-- FSQRT (R72). -/
def execFsqrt (c : Ctx) (f : AForm) (s : State) : Host.Outcome State Fault Refusal :=
  done (alu c (wordA 0x2D f) 0 (fun v _ i => resPlain (fsqrt (v i.a))) s)

/-- CVTF (R72). -/
def execCvtf (c : Ctx) (f : AForm) (s : State) : Host.Outcome State Fault Refusal :=
  done (alu c (wordA 0x2E f) 0 (fun v _ i => resPlain (cvtf (v i.a).toInt i.sh)) s)

/-- CVTI (R72). -/
def execCvti (c : Ctx) (f : AForm) (s : State) : Host.Outcome State Fault Refusal :=
  done (alu c (wordA 0x2F f) 0 (fun v _ i => resCvti (v i.a) i.sh) s)

end Sys2Proof.Machine
end

