-- ==== Sys2Proof/Machine/LoopAlu.lean ====
section
/-!
DEFINITION. Moves, constants, compares, integer arithmetic, logic and shifts (R69, R70, R168).
-/
namespace Sys2Proof.Machine

/-- NOP (R69). -/
def execNop (c : Ctx) (f : AForm) (s : State) : Host.Outcome State Fault Refusal :=
  done (engine c (wordA 0x01 f) 0 (fun _ _ s => s) s)

/-- MOV (R69). -/
def execMov (c : Ctx) (f : AForm) (s : State) : Host.Outcome State Fault Refusal :=
  done (alu c (wordA 0x02 f) 0 (fun v _ i => resPlain (v i.a)) s)

/-- LDI (R69). -/
def execLdi (c : Ctx) (f : BForm) (s : State) : Host.Outcome State Fault Refusal :=
  done (alu c (wordB 0x03 f) 0 (fun _ _ i => resPlain (iw i.simm)) s)

/-- LDK (R69). -/
def execLdk (c : Ctx) (f : EForm) (s : State) : Host.Outcome State Fault Refusal :=
  done (alu c (wordE 0x04 f) f.ext (fun _ _ i => resPlain i.ext) s)

/-- SEL (R69). -/
def execSel (c : Ctx) (f : AForm) (s : State) : Host.Outcome State Fault Refusal :=
  done (alu c (wordA 0x05 f) 0 (fun v x i => resPlain (if condTrue x i.md then v i.a else v i.b)) s)

/-- CMP and CMPI: the flags in L and U (R69), s[d] in S (R168). -/
def compare2 (c : Ctx) (i : Insn) (a b : W) (x : Context) : Context :=
  if isS c.val then setReg c.val i.d (cmpSign a b) x
  else let (z, n, cy) := cmpFlags a b; { x with fZ := z, fN := n, fC := cy }

/-- CMP (R69, R168). -/
def execCmp (c : Ctx) (f : AForm) (s : State) : Host.Outcome State Fault Refusal :=
  done (ctxOp c (wordA 0x06 f) 0 (fun v i x => compare2 c i (v i.a) (v i.b) x) s)

/-- CMPI (R69, R168). -/
def execCmpi (c : Ctx) (f : BForm) (s : State) : Host.Outcome State Fault Refusal :=
  done (ctxOp c (wordB 0x07 f) 0 (fun v i x => compare2 c i (v i.a) (iw i.simm) x) s)

/-- FCMP (R69). -/
def execFcmp (c : Ctx) (f : AForm) (s : State) : Host.Outcome State Fault Refusal :=
  done (ctxOp c (wordA 0x08 f) 0 (fun v i x =>
    let (z, n, cy) := fcmpFlags (v i.a) (v i.b); { x with fZ := z, fN := n, fC := cy }) s)

/-- ADD (R70). -/
def execAdd (c : Ctx) (f : AForm) (s : State) : Host.Outcome State Fault Refusal :=
  done (alu c (wordA 0x10 f) 0 (fun v _ i => resAdd (i.md % 2 == 1) (v i.a) (v i.b)) s)

/-- SUB (R70). -/
def execSub (c : Ctx) (f : AForm) (s : State) : Host.Outcome State Fault Refusal :=
  done (alu c (wordA 0x11 f) 0 (fun v _ i => resSub (i.md % 2 == 1) (v i.a) (v i.b)) s)

/-- ADDI (R70). -/
def execAddi (c : Ctx) (f : BForm) (s : State) : Host.Outcome State Fault Refusal :=
  done (alu c (wordB 0x12 f) 0 (fun v _ i => resAdd false (v i.a) (iw i.simm)) s)

/-- MUL (R70). -/
def execMul (c : Ctx) (f : AForm) (s : State) : Host.Outcome State Fault Refusal :=
  done (alu c (wordA 0x13 f) 0 (fun v _ i => resMul (i.md % 2 == 1) i.sh (v i.a) (v i.b)) s)

/-- NEG (R70). -/
def execNeg (c : Ctx) (f : AForm) (s : State) : Host.Outcome State Fault Refusal :=
  done (alu c (wordA 0x14 f) 0 (fun v _ i => resNeg (i.md % 2 == 1) (v i.a)) s)

/-- ABS (R70). -/
def execAbs (c : Ctx) (f : AForm) (s : State) : Host.Outcome State Fault Refusal :=
  done (alu c (wordA 0x15 f) 0 (fun v _ i => resAbs (i.md % 2 == 1) (v i.a)) s)

/-- MIN (R70). -/
def execMin (c : Ctx) (f : AForm) (s : State) : Host.Outcome State Fault Refusal :=
  done (alu c (wordA 0x16 f) 0 (fun v _ i => resMin (i.md % 2 == 1) (v i.a) (v i.b)) s)

/-- MAX (R70). -/
def execMax (c : Ctx) (f : AForm) (s : State) : Host.Outcome State Fault Refusal :=
  done (alu c (wordA 0x17 f) 0 (fun v _ i => resMax (i.md % 2 == 1) (v i.a) (v i.b)) s)

/-- AND (R70). -/
def execAnd (c : Ctx) (f : AForm) (s : State) : Host.Outcome State Fault Refusal :=
  done (alu c (wordA 0x18 f) 0 (fun v _ i => resZN (v i.a &&& v i.b)) s)

/-- OR (R70). -/
def execOr (c : Ctx) (f : AForm) (s : State) : Host.Outcome State Fault Refusal :=
  done (alu c (wordA 0x19 f) 0 (fun v _ i => resZN (v i.a ||| v i.b)) s)

/-- XOR (R70). -/
def execXor (c : Ctx) (f : AForm) (s : State) : Host.Outcome State Fault Refusal :=
  done (alu c (wordA 0x1A f) 0 (fun v _ i => resZN (v i.a ^^^ v i.b)) s)

/-- SHL (R70). -/
def execShl (c : Ctx) (f : AForm) (s : State) : Host.Outcome State Fault Refusal :=
  done (alu c (wordA 0x1B f) 0 (fun v _ i => resShl (i.md / 2 == 1) (v i.a) (shiftCount v i)) s)

/-- ASR (R70). -/
def execAsr (c : Ctx) (f : AForm) (s : State) : Host.Outcome State Fault Refusal :=
  done (alu c (wordA 0x1C f) 0 (fun v _ i => resAsr (v i.a) (shiftCount v i)) s)

/-- LSR (R70). -/
def execLsr (c : Ctx) (f : AForm) (s : State) : Host.Outcome State Fault Refusal :=
  done (alu c (wordA 0x1D f) 0 (fun v _ i => resLsr (v i.a) (shiftCount v i)) s)

end Sys2Proof.Machine
end

