-- ==== Sys2Proof/Machine/LoopLaw.lean ====
section
/-!
DEFINITION. Control-law instructions (R73 to R78) with repetitive tables (R111) and plausibility checks.
-/
namespace Sys2Proof.Machine

/-- SAT (R74). -/
def execSat (c : Ctx) (f : AForm) (s : State) : Host.Outcome State Fault Refusal :=
  done (alu c (wordA 0x30 f) 0 (fun v _ i => resSatW (v i.a) (i.sh + 1)) s)

/-- CLAMP (R74). -/
def execClamp (c : Ctx) (f : AForm) (s : State) : Host.Outcome State Fault Refusal :=
  done (alu c (wordA 0x31 f) 0 (fun v _ i => resClamp (i.md % 2 == 1) (v i.a) (v i.b) (v (i.b + 1))) s)

/-- INTG (R75). -/
def execIntg (c : Ctx) (f : AForm) (s : State) : Host.Outcome State Fault Refusal :=
  done (alu c (wordA 0x32 f) 0 (fun v x i => resIntg (i.md % 2 == 1) x.fS i.sh (v i.d) (v i.a) (v i.b)) s)

/-- DIFF (R76): the history register follows; the flags stand only when v[d] is written (R38). -/
def execDiff (c : Ctx) (f : AForm) (s : State) : Host.Outcome State Fault Refusal :=
  done (ctxOp c (wordA 0x33 f) 0 (fun v i x =>
    setReg c.val i.b (v i.a) (setRes c.val i.d (resDiff (i.md % 2 == 1) (v i.a) (v i.b)) x)) s)

/-- FILT1 (R76). -/
def execFilt1 (c : Ctx) (f : AForm) (s : State) : Host.Outcome State Fault Refusal :=
  done (alu c (wordA 0x34 f) 0 (fun v _ i => resFilt1 (i.md % 2 == 1) (v i.d) (v i.a) (v i.b)) s)

/-- LIM (R76). -/
def execLim (c : Ctx) (f : AForm) (s : State) : Host.Outcome State Fault Refusal :=
  done (alu c (wordA 0x35 f) 0 (fun v _ i => resLim (i.md % 2 == 1) (v i.d) (v i.a) (v i.b)) s)

/-- The learning gain of a table (R111): while it ramps, floor(v[b] × n / N). -/
def rptGain (tb : RptTable) (ramp : Nat) (g : W) : W :=
  if tb.st = 0 && tb.n < ramp then iw (floorDiv (g.toInt * tb.n) ramp) else g

/-- One update of a table (R77, R111). -/
def rptLearn (tb : RptTable) (ramp i : Nat) (a g fg : W) : RptTable :=
  let e := Memory.readW tb.mem (4 * i)
  { tb with mem := Memory.writeW tb.mem (4 * i) (rptUpdate e a (rptGain tb ramp g) fg), n := tb.n + 1
            st := if tb.st = 0 && tb.n + 1 ≥ ramp then 1 else tb.st }

/-- RPT on a context (R77). -/
def rptOp (c : Nat) (r : Rel) (v : Nat → W) (i : Insn) (x : Context) : Context :=
  let k := i.md % 2
  let tb := if k = 0 then x.t0 else x.t1
  let lg := if k = 0 then r.prog.t0Log2 else r.prog.t1Log2
  let ramp := if k = 0 then r.prog.t0Ramp else r.prog.t1Ramp
  let e := x.ph.toNat >>> (32 - lg)
  let j := (e + (v (i.b + 2)).toNat) % 2 ^ lg
  let out := Memory.readW tb.mem (4 * j)
  let tb1 := if x.fS then tb else rptLearn tb ramp e (v i.a) (v i.b) (v (i.b + 1))
  let x1 := if k = 0 then { x with t0 := tb1 } else { x with t1 := tb1 }
  setReg c i.d out x1

/-- RPT (R77). -/
def execRpt (c : Ctx) (f : AForm) (s : State) : Host.Outcome State Fault Refusal :=
  done (engine c (wordA 0x36 f) 0 (fun i r s => s.modCx c.val fun x => rptOp c.val r (reg c.val x) i x) s)

/-- PLAUS (R78). -/
def plausOp (c : Ctx) (i : Insn) (r : Rel) (s : State) : State :=
  match checkOf r.prog (i.md % 4) with
  | none => s
  | some d =>
    let x := s.cx c.val
    let v := reg c.val x
    let w := if r.arming.any (·.val == d.ch) then d.widen else 0
    let bad := plausBad (i.md / 4 % 2 == 1) w (v i.a) (v i.b) (v i.d)
    let old := vat x.chk d.num 0
    let cnt := if bad then min (old + 1) 15 else 0
    let hit := bad && cnt == d.lim && old + 1 == d.lim
    let s1 := s.modCx c.val fun x =>
      { x with chk := vput x.chk d.num cnt, fZ := cnt == 0, fN := bad, fP := x.fP || hit }
    if hit then
      let s2 := s1.raise (4 * d.ch) (if d.safe then .uc else .ce) (if d.safe then 0x1002 else 0x1001) (nw d.num) c.val r.prog.num
      if d.safe then askSafe d.ch s2 else s2
    else s1

/-- PLAUS (R78). -/
def execPlaus (c : Ctx) (f : AForm) (s : State) : Host.Outcome State Fault Refusal :=
  done (engine c (wordA 0x37 f) 0 (plausOp c) s)

end Sys2Proof.Machine
end

