-- ==== Sys2Proof/Machine/Tmu.lean ====
section
/-!
DEFINITION. The thermal model (R295 to R305) and the two ledger rows that no frame carries (R277, R294).
-/
namespace Sys2Proof.Machine

/-- Δt = 50 µs, binary32 (R299). -/
def tmuDt : W := 0x3851B717
/-- 3 K, binary32 (R302, R304). -/
def kelvin3 : W := 0x40400000
/-- 0.5, binary32 (R303). -/
def fHalf : W := 0x3F000000

/-- The LOSS word of a channel (R296): 0 outside ARMING, CONTROL and HOLD and with no owning task. -/
def lossWord (s : State) (n : Nat) : W :=
  if (s.ch n).live then
    match ownerOf s n with
    | some t => if t.lib.isSome then parm s t 15 else parm s t (56 + (t.chans.findIdx? (·.2 == n)).getD 0)
    | none => 0
  else 0

/-- A LOSS read that counts as 0 (R296). -/
def lossBad (w : W) : Bool := !isFin w || flt w 0

/-- The LOSS reads of a tick for the channels whose model can run (R296). -/
def tmuReads (s : State) : State :=
  { s with tmu := { s.tmu with ch := vmapIdx s.tmu.ch fun n x =>
      if x.blk.isSome then
        let w := lossWord s n
        { x with reads := ((if lossBad w then 0 else w) :: x.reads).take 100, badRead := x.badRead || lossBad w }
      else x } }

/-- The mean of the reads since the last evaluation (R296), summed oldest first (log entry 12). -/
def lossMean (rs : List W) : W := if rs.isEmpty then 0 else fdiv (rs.reverse.foldl fadd 0) (fnat rs.length)

/-- SCALE of D of a channel (R193). -/
def scaleD (s : State) (n : Nat) : W := lat (s.lk (linkOf n)).hello (9 + 4 * slotOf n) 0

/-- D carries the heatsink sensor (R10, Table 8.11). -/
def hasSensor (s : State) (n : Nat) : Bool := helloDkind (s.lk (linkOf n)).hello (slotOf n) == 0

/-- The mean sensor temperature of the valid frames since the last evaluation (R300). -/
def sensorMean (s : State) (n : Nat) (ds : List (BitVec 16)) : W :=
  fmul (fdiv (cvtf ((ds.map sx16).foldl (· + ·) 0) 0) (fnat ds.length)) (scaleD s n)

/-- The sensor temperature of the last valid frame of a channel, if D carries it (R301). -/
def sensorLast (s : State) (n : Nat) : Option W :=
  if hasSensor s n then (assocGet s.bbr.lastRow n).map fun vs => fmul (cvtf (sx16 (lat vs 3 0)) 0) (scaleD s n) else none

/-- The start of a model (R301): the nodes at the sensor temperature, else at TMU_TAMB. -/
def thermStart (s : State) (n : Nat) (x : Therm) : Therm :=
  let v := sensorLast s n
  { x with t := Vector.replicate 4 (v.getD (s.tmu.due.getD s.tmu.tamb)), sensor := v.isSome, run := true, fresh := false, obs := false
           stores := [], rise := 0, raised := 0, rwarn := 0, rfault := 0, loss := 0, reads := [], badRead := false, ds := [] }

/-- One step of the network (R299, R300). -/
def thermStep (s : State) (n : Nat) (b : List W) (x : Therm) : Therm :=
  let g := fun k => lat b k 0
  let tj := vat x.t 0 0
  let tc := vat x.t 1 0
  let th := vat x.t 2 0
  let ta := vat x.t 3 0
  let p := lossMean x.reads
  let qjc := fdiv (fsub tj tc) (g 4)
  let qch := fdiv (fsub tc th) (g 5)
  let qha := fdiv (fsub th ta) (g 6)
  let qa0 := fdiv (fsub ta (s.tmu.due.getD s.tmu.tamb)) (g 7)
  let move := fun (t c net : W) => fadd t (fmul (fdiv tmuDt c) net)
  let th1 := move th (g 10) (fsub qch qha)
  let active := fgt (g 12) 0 && hasSensor s n && !x.ds.isEmpty
  let th2 := if active then fadd th1 (fmul (g 12) (fsub (sensorMean s n x.ds) th1)) else th1
  { x with
    t := ⟨#[move tj (g 8) (fsub p qjc), move tc (g 9) (fsub qjc qch), th2, move ta (g 11) (fsub qha qa0)], rfl⟩
    loss := p, lossBad := x.badRead, obs := active, reads := [], badRead := false, ds := [] }

/-- The stores of R303, at ticks with TC a multiple of 2,000. -/
def thermStore (s : State) (x : Therm) : Therm :=
  if s.tcMod 2000 = 0 then { x with stores := (x.t.toList :: x.stores).take 101 } else x

/-- RATE_READY (R303). -/
def Therm.rateReady (x : Therm) : Bool := x.stores.length == 101

/-- The rise of node `k` (R303). -/
def nodeRise (x : Therm) (k : Nat) : W := fsub (vat x.t k 0) (lat (lat x.stores 100 []) k 0)

/-- One limit of a channel (R302, R303): group 0 absolute warning, 1 absolute fault, 2 rate warning, 3 rate fault. -/
def judgeLimit (n k grp : Nat) (v limit : W) (s : State) : State :=
  let bit := 4 * grp + k
  let x := vat s.tmu.ch n Therm.init
  let on := fge v limit
  let left := if grp < 2 then fle v (fsub limit kelvin3) else flt v (fmul limit fHalf)
  let upd := fun (r : BitVec 16) => if on then bitPut r bit true else if left then bitPut r bit false else r
  let s1 := s.modTh n fun x => { x with
    raised := upd x.raised
    awarn := if grp = 0 then bitPut x.awarn k on else x.awarn
    afault := if grp = 1 then bitPut x.afault k on else x.afault
    rwarn := if grp = 2 then bitPut x.rwarn k on else x.rwarn
    rfault := if grp = 3 then bitPut x.rfault k on else x.rfault }
  if on && !(x.raised.getLsbD bit) then
    match grp with
    | 0 => s1.raise (4 * n + 2) .ce 0x0201 (nw k)
    | 1 => s1.raise (4 * n + 2) .uc 0x0202 (nw k)
    | 2 => s1.raiseP (4 * n + 2) .ce 0x0203
    | _ => s1.raiseP (4 * n + 2) .uc 0x0204
  else s1

/-- Every limit of a channel, and the latches of the two-wire ports (R302, R303, R337). -/
def judgeLimits (n : Nat) (b : List W) (s : State) : State :=
  let x := vat s.tmu.ch n Therm.init
  let s1 := (List.range 4).foldl (fun s k =>
    judgeLimit n k 1 (vat x.t k 0) (lat b (20 + k) 0) (judgeLimit n k 0 (vat x.t k 0) (lat b (16 + k) 0) s)) s
  let s2 := if x.rateReady then
      (List.range 4).foldl (fun s k =>
        judgeLimit n k 3 (nodeRise x k) (lat b (28 + k) 0) (judgeLimit n k 2 (nodeRise x k) (lat b (24 + k) 0) s)) s1
    else s1
  let y := vat s2.tmu.ch n Therm.init
  let fault := y.afault.getLsbD 0
  let warn := y.awarn != 0
  twLatch n (if fault || warn then 0x04 else 0) ((if fault then 2 else 0) ||| (if warn then 1 else 0)) s2

/-- T_up of R304. -/
def bandUp (b : List W) (k : Nat) : W := lat b (12 + k) 0

/-- The rising loop of R304. -/
def bandRise (b : List W) (tj : W) : Nat → Nat → Nat
  | 0, band => band
  | n + 1, band => if band < 3 && fge tj (bandUp b (band + 1)) then bandRise b tj n (band + 1) else band

/-- The falling loop of R304. -/
def bandFall (b : List W) (tj : W) : Nat → Nat → Nat
  | 0, band => band
  | n + 1, band => if band > 0 && flt tj (fsub (bandUp b band) kelvin3) then bandFall b tj n (band - 1) else band

/-- The band of a channel after an evaluation (R304, Table 10.3). -/
def judgeBand (n : Nat) (b : List W) (s : State) : State :=
  let x := vat s.tmu.ch n Therm.init
  let new := bandFall b (vat x.t 0 0) 3 (bandRise b (vat x.t 0 0) 3 x.band)
  let s1 := s.modTh n fun x => { x with band := new }
  if new = x.band then s1 else note 0x07 n [nw x.band, nw new] [0, 1] s1

/-- One evaluation of channel `n` (R299 to R304). -/
def tmuChannel (s : State) (n : Nat) : State :=
  match (vat s.tmu.ch n Therm.init).blk with
  | none => s
  | some b =>
    let s1 := s.modTh n fun x => thermStore s (if x.fresh then thermStart s n x else thermStep s n b x)
    let s2 := s1.modTh n fun x => { x with
      rise := if x.rateReady then (List.range 4).foldl (fun m k => if k = 0 then nodeRise x 0 else fmax m (nodeRise x k)) 0 else 0 }
    judgeBand n b (judgeLimits n b s2)

/-- Evaluations run: in BOOT and RUN (Table 13.4). -/
def tmuRuns (s : State) : Bool := s.clk.chip == .run || s.clk.chip == .boot

/-- The evaluation of the tick that ends: its results stand from the tick that begins (R299). -/
def tmuEvaluate (s : State) : State :=
  if s.tmu.due.isSome && tmuRuns s then
    let s1 := (List.range 192).foldl tmuChannel s
    { s1 with tmu := { s1.tmu with evals := s1.tmu.evals + 1, run := true, due := none } }
  else { s with tmu := { s.tmu with due := none } }

/-- TMU_EVALUATION (R299): in a tick with TC a multiple of 100 an evaluation begins; TMU_TAMB is what it is now. -/
def execTmuEvaluation (s : State) : Host.Outcome State Fault Refusal :=
  done (if tmuRuns s && s.tcMod 100 = 0 && s.tmu.due.isNone then { s with tmu := { s.tmu with due := some s.tmu.tamb } } else s)

/-- TMU_TAMB takes a finite value (R305). -/
def tambWrite (v : W) (s : State) : State := if isFin v then { s with tmu := { s.tmu with tamb := v } } else s

/-- TMU_TAMB_WRITE (R305). -/
def execTmuTambWrite (v : W) (s : State) : Host.Outcome State Fault Refusal :=
  done (hostWrite 0x54004 4 [v] (tambWrite v) s)

/-- LEDGER_GAP (R277; log entry 9). -/
def execLedgerGap (k : Fin 64) (s : State) : Host.Outcome State Fault Refusal :=
  done (s.modLg k.val fun x => if x.chan.isSome && 64 ≤ x.missing then ledgGap x else x)

/-- CLG_QLO_READ (R294). In DORMANT the block answers no read (R474). -/
def execClgQloRead (k : Fin 64) (s : State) : Host.Outcome State Fault Refusal :=
  done (if s.clk.chip = .dormant || s.clk.chip = .reset then s else s.modLg k.val fun x => { x with qHi := hi32 x.q })

end Sys2Proof.Machine
end

