-- ==== Sys2Proof/Machine/Trellis.lean ====
section
/-!
DEFINITION. The Trellis pin controller: its phase, the scan of lamps and sense points, its line checks and its register writes
(R453 to R460).
-/
namespace Sys2Proof.Machine

/-- DIRECT: TR7 as latched (Table 22.10). -/
def trlDirect (s : State) : Bool := s.boot.straps.getLsbD 7

/-- PHASE of TRL_STATUS (Tables 22.7 and 22.10): 0 none, 1 S, 2 F, 3 M, 4 direct. VIO33 is supply 5. -/
def trlPhase (s : State) : Nat :=
  if s.fcr.fatal then 2
  else match s.clk.chip with
    | .reset => if s.boot.supplyOut.getLsbD 5 then 0 else 1
    | .boot => if s.boot.latched then 2 else 1
    | .run => if s.fcr.errn.getLsbD 2 then 2 else if trlDirect s then 4 else 3
    | .dormant => 0
    | .store => 0

/-- A lamp code is lit at the TC of a scan's start (R456, Table 11.11). -/
def lampOn (tc : Nat) (code : Nat) : Bool :=
  if code = 1 then true
  else if code = 2 then tc % (1000 * ticksPerMs) < 500 * ticksPerMs
  else if code = 3 then
    let p := tc % (1000 * ticksPerMs)
    p < 100 * ticksPerMs || (300 * ticksPerMs ≤ p && p < 400 * ticksPerMs)
  else if code = 4 then tc % (250 * ticksPerMs) < 125 * ticksPerMs
  else false

/-- The lamps of a scan, judged from TC at its tick phase 0 (R455, R456); point 0 is the FAULT lamp. -/
def scanLamps (s : State) (points : Nat) : BitVec 144 :=
  let tc := s.clk.tc.toNat - s.clk.tc.toNat % ticksPerEpoch
  (List.range points).foldl (fun w p =>
    bitPut w p (if p = 0 then s.fcr.errnOut else lampOn tc (vat s.trl.lamp p 0).toNat)) 0

/-- A waiting TRL_CFG comes into effect (R460). -/
def trlCfgIn (x : Trl) : Trl := match x.cfgNext with
  | some v => { x with cfg := v, cfgNext := none }
  | none => x

/-- A point is read: its column is not in NOSENSE and not stuck (R457, R458). -/
def pointRead (x : Trl) (p : Nat) : Bool := !x.cfg.bit (16 + p % 12) && !x.stuck.getLsbD (p % 12)

/-- One reading of a point, debounced over DEB scans (R457). -/
def senseOne (sense : List (BitVec 12)) (x : Trl) (p : Nat) : Trl :=
  if x.cfg.bit (16 + p % 12) then { x with sense := bitPut x.sense p false }
  else if x.stuck.getLsbD (p % 12) then x
  else
    let r := (lat sense (p / 12) 0).getLsbD (p % 12)
    let (was, n) := vat x.last p (false, 0)
    let n1 := if r = was then min (n + 1) 15 else 1
    { x with last := vput x.last p (r, n1), sense := if n1 ≥ x.cfg.bits 3 0 then bitPut x.sense p r else x.sense }

/-- SVALID of every point (Table 22.9). -/
def senseValid (x : Trl) : Trl :=
  { x with svalid := (List.range 144).foldl (fun w p => bitPut w p (pointRead x p)) 0 }

/-- A column is stuck (R458). -/
def columnStuck (c : Nat) (s : State) : State :=
  let s1 := { s with trl := senseValid { s.trl with stuck := bitPut s.trl.stuck c true, evt := bitPut s.trl.evt 0 true
                                                    guard := vput s.trl.guard c 2 } }
  s1.raise 989 .ce 0x0001 (nw c)

/-- A row is short (R458). -/
def rowShort (r : Nat) (s : State) : State :=
  let s1 := { s with trl := { s.trl with evt := bitPut s.trl.evt 1 true, rowLow := vput s.trl.rowLow r 2 } }
  s1.raise 989 .ce 0x0002 (nw r)

/-- The guard reading of a column (R458). -/
def guardOne (guard : BitVec 12) (s : State) (c : Nat) : State :=
  if s.trl.cfg.bit (16 + c) then s
  else if guard.getLsbD c then
    (if vat s.trl.guard c 0 = 0 then { s with trl := { s.trl with guard := vput s.trl.guard c 1 } }
     else if s.trl.stuck.getLsbD c then s
     else columnStuck c s)
  else { s with trl := { s.trl with guard := vput s.trl.guard c 0, stuck := bitPut s.trl.stuck c false } }

/-- The read-back of a row at the end of its drive part (R458). -/
def rowOne (low : BitVec 12) (s : State) (r : Nat) : State :=
  if low.getLsbD r then
    (match vat s.trl.rowLow r 0 with
     | 0 => { s with trl := { s.trl with rowLow := vput s.trl.rowLow r 1 } }
     | 1 => rowShort r s
     | _ => s)
  else { s with trl := { s.trl with rowLow := vput s.trl.rowLow r 0 } }

/-- What a Trellis pin does (R451, R454, R455, R459). -/
inductive TrDrive where
  /-- High impedance. -/
  | hiZ
  /-- Held by the strap reading, steps A and B (R451). -/
  | strap
  /-- Driven high. -/
  | high
  /-- Driven low. -/
  | low
  /-- Driven high for 60 µs in every 1 ms of the backup oscillator. -/
  | pulseHigh
  /-- Driven low for 60 µs in every 1 ms of the backup oscillator. -/
  | pulseLow
  /-- The internal pull-up to VIO33. -/
  | pullUp
deriving DecidableEq, Repr

/-- Row pin `r` of the matrix at a tick phase (Table 22.8). -/
def rowDrive (ph r : Nat) : TrDrive :=
  if ph < 1920 && ph / 160 = r then (if ph % 160 < 120 then .high else if ph % 160 < 130 then .hiZ else .low) else .hiZ

/-- Column pin `c` of the matrix at a tick phase, for the lamps lit (Table 22.8). -/
def colDrive (lit : BitVec 144) (ph c : Nat) : TrDrive :=
  if ph < 1920 && ph % 160 < 120 then (if lit.getLsbD (12 * (ph / 160) + c) then .low else .hiZ)
  else if ph < 1920 && ph % 160 < 130 then .hiZ
  else .pullUp

/-- What pin TR`i` does in the phase in force (R453, R454, R455, R459); the backup oscillator times phase F. -/
def trlDrive (s : State) (i : Nat) : TrDrive :=
  match trlPhase s with
  | 1 => .strap
  | 2 =>
    if trlDirect s then (if i = 0 then .high else .hiZ)
    else if i = 0 then .pulseHigh else if i = 12 then .pulseLow else .hiZ
  | 3 => if i < 12 then rowDrive (s.tcMod 2000) i else colDrive s.trl.lit (s.tcMod 2000) (i - 12)
  | 4 => if s.trl.lit.getLsbD i then .high else .low
  | _ => .hiZ

/-- The lamps lit: those of the last scan in phase M and in direct mode, the FAULT lamp alone in phase F, else none (R453, R454). -/
def trlLit (s : State) : BitVec 144 :=
  match trlPhase s with
  | 2 => 1
  | 3 => s.trl.lit
  | 4 => s.trl.lit
  | _ => 0

/-- Tick phase 0 of an epoch (R455, R456, R459, R460): a scan starts; a waiting TRL_CFG takes effect, and the patterns are judged for the
whole scan. -/
def scanStart (s : State) : State :=
  let s1 := { s with trl := trlCfgIn s.trl }
  if trlPhase s = 3 then { s1 with trl := { s1.trl with lit := scanLamps s1 144 } }
  else if trlPhase s = 4 then { s1 with trl := { s1.trl with lit := scanLamps s1 24 } }
  else s

/-- What one scan of the matrix reads (R455 to R458); in direct mode nothing is scanned or sensed (R459). -/
def trlScan (sense : List (BitVec 12)) (guard low : BitVec 12) (s : State) : State :=
  if trlPhase s = 3 then
    let s1 := { s with trl := (List.range 144).foldl (senseOne sense) s.trl }
    let s2 := (List.range 12).foldl (rowOne low) s1
    let s3 := (List.range 12).foldl (guardOne guard) s2
    { s3 with trl := senseValid { s3.trl with scans := s3.trl.scans + 1 } }
  else s

/-- TRL_SCAN (R455): the readings of a scan that has run; outside phase M none runs (R453, R454, R459). -/
def execTrlScan (sense : List (BitVec 12)) (guard rowLow : BitVec 12) (s : State) : Host.Outcome State Fault Refusal :=
  done (trlScan sense guard rowLow s)

/-- The next reading of a point other than its SENSE is the one that DEB asks for (R457). -/
def senseDue (x : Trl) (p : Nat) : Bool :=
  let (was, n) := vat x.last p (false, 0)
  x.cfg.bits 3 0 ≤ (if was = x.sense.getLsbD p then 1 else n + 1)

/-- SENSE_CHANGE (R457): a point that is read has held its other value for DEB scans, this reading being the last of them. -/
def execSenseChange (pt : Fin 144) (s : State) : Host.Outcome State Fault Refusal :=
  done (if trlPhase s = 3 && pointRead s.trl pt.val && senseDue s.trl pt.val then
      let v := !s.trl.sense.getLsbD pt.val
      { s with trl := { s.trl with sense := bitPut s.trl.sense pt.val v, last := vput s.trl.last pt.val (v, max 1 (s.trl.cfg.bits 3 0)) } }
    else s)

/-- COLUMN_STUCK (R458): the guard reading is closed for the second scan in a row. -/
def execColumnStuck (i : Fin 12) (s : State) : Host.Outcome State Fault Refusal :=
  done (if trlPhase s = 3 && !s.trl.cfg.bit (16 + i.val) && !s.trl.stuck.getLsbD i.val && vat s.trl.guard i.val 0 = 1
    then columnStuck i.val s else s)

/-- ROW_SHORT (R458): the row reads back low for the second scan in a row. -/
def execRowShort (i : Fin 12) (s : State) : Host.Outcome State Fault Refusal :=
  done (if trlPhase s = 3 && vat s.trl.rowLow i.val 0 = 1 then rowShort i.val s else s)

/-! Register writes (R456, R460). -/

/-- A point is owned: the LAMPS words of a Charge instance in force name it (R456). -/
def lampOwned (s : State) (p : Nat) : Bool :=
  match s.adm.img with
  | none => false
  | some g => p != 0 && g.tasks.any fun t => libId t == libCharge &&
      (List.range 16).any fun k => (parm s t (12 + k / 4)).bits (8 * (k % 4) + 7) (8 * (k % 4)) == p

/-- One point of a TRL_LAMPi write (R456). -/
def lampPoint (v : W) (i : Nat) (s : State) (j : Nat) : State :=
  let p := 8 * i + j
  let code := v.bits (4 * j + 3) (4 * j)
  if p = 0 then s
  else if lampOwned s p then { s with trl := { s.trl with evt := bitPut s.trl.evt 2 true } }
  else if code > 4 then s
  else { s with trl := { s.trl with lamp := vput s.trl.lamp p (BitVec.ofNat 4 code) } }

/-- A write to TRL_LAMPi (R456). -/
def lampWrite (i : Nat) (v : W) (s : State) : State := (List.range 8).foldl (lampPoint v i) s

/-- A write to TRL_CFG waits for the next scan; a DEB of 0 is ignored (R460, Table 22.12). -/
def trlCfgWrite (v : W) (s : State) : State :=
  let old := s.trl.cfgNext.getD s.trl.cfg
  let deb := if v.bits 3 0 = 0 then old.bits 3 0 else v.bits 3 0
  { s with trl := { s.trl with cfgNext := some (fld (v.bits 27 16) 16 ||| fld deb 0) } }

/-- TRL_LAMP_WRITE (R456). -/
def execTrlLampWrite (i : Fin 18) (v : W) (s : State) : Host.Outcome State Fault Refusal :=
  done (hostWrite (0x50100 + 4 * i.val) 4 [v] (lampWrite i.val v) s)

/-- TRL_CFG_WRITE (R460). -/
def execTrlCfgWrite (v : W) (s : State) : Host.Outcome State Fault Refusal :=
  done (hostWrite 0x50008 4 [v] (trlCfgWrite v) s)

end Sys2Proof.Machine
end

