-- ==== Sys2Proof/Machine/Regs.lean ====
section
/-!
DEFINITION. Host writes to BAR0 and BAR2 (R209, R358, R395, R436, R470 to R474): windows, W1C and RW registers, and the effect of
a mirrored write at its apply tick.
-/
namespace Sys2Proof.Machine

/-! Windows. -/

/-- A host write to the NV window (R395, R397): only the host area is written; bytes on other pages are discarded with RO_WR, a
write past the end whole with PAST_END, and any write during recall with EARLY. -/
def nvHostWrite (off : Nat) (bs : List Byte) (s : State) : State :=
  if !s.nvs.ready then (if s.nvs.recalling then nvFlag 1 s else s)
  else if off + bs.length > nvBytes then nvFlag 0 s
  else
    let lo := nvPage 3072
    let hi := nvPage 3968
    let a := max off lo
    let inArea := (bs.drop (a - off)).take (hi - a)
    let s1 := if a < hi && inArea != [] then nvPut a inArea s else s
    if inArea.length = bs.length then s1 else roWr s1

/-- NV_WINDOW_WRITE (R395). -/
def execNvWindowWrite (off : Nat) (bs : List Byte) (s : State) : Host.Outcome State Fault Refusal :=
  done (hostWrite (0x200000 + off) bs.length (wordsOfBytes bs) (nvHostWrite off bs) s)

/-- A host write to the shared task memory window (R209, R436): accepted in BOOT only. -/
def sharedHostWrite (off : Nat) (ws : List W) (s : State) : State :=
  if s.clk.chip = .reset || s.clk.chip = .dormant then s
  else if s.clk.chip = .boot then { s with shared := Memory.writeWs s.shared off (ws.take ((0x400000 - off) / 4)) }
  else roWr s

/-- SHARED_WINDOW_WRITE (R209, R436). -/
def execSharedWindowWrite (off : Nat) (ws : List W) (s : State) : Host.Outcome State Fault Refusal := done (sharedHostWrite off ws s)

/-- BAR2_WRITE (R209): discarded; BAR2_WR is set. -/
def execBar2Write (_off : Nat) (_bs : List Byte) (s : State) : Host.Outcome State Fault Refusal :=
  done (if s.clk.chip = .reset then s else { s with kio := { s.kio with err := bitPut s.kio.err 3 true } })

/-- CH_BANKW of channel `n` (R106, R119): live only in the block of a task's grant index 0. -/
def bankWrite (n w : Nat) (v : W) (s : State) : State :=
  match taskOfCh s n with
  | some t => (match ctxOf s t.num with
      | some c =>
        let x := s.cx c
        if x.armed.isSome then s.modCx c fun x => { x with wdrop := true } else bankPut c t (!x.bankAct) w v s
      | none => s)
  | none => s

/-- First byte of CH_BANKW of channel `n`. -/
def bankwAt (n : Nat) : Nat := 0x100200 + 0x400 * n

/-- CH_BANKW_WRITE (R106). -/
def execChBankwWrite (n : Ch) (w : Fin 128) (v : W) (s : State) : Host.Outcome State Fault Refusal :=
  done (hostWrite (bankwAt n.val + 4 * w.val) 4 [v] (bankWrite n.val w.val v) s)

/-! RW registers that a pair mirrors. -/

/-- The effect of a word on a mirrored RW register at BAR0 address `a`; none where the address is no such register. -/
def regEffect (a : Nat) (v : W) : Option (State → State) :=
  if a = 0x50 then some fun s => { s with boot := { s.boot with scratch := v } }
  else if a = 0x1004 then some (alignEnWrite (v.bit 1))
  else if a = 0x1024 then some fun s => { s with clk := { s.clk with wake := v.extractLsb' 0 6 } }
  else if a = 0x4008 then some fun s => { s with fcr := { s.fcr with lastFe := v &&& 0x83FF03FF } }
  else if 0x20000 ≤ a && a < 0x30000 && a % 0x400 = 4 then some (slcCtrl ((a - 0x20000) / 0x400) v)
  else if 0x44000 ≤ a && a < 0x44400 && a % 0x100 = 0 then some (twpCfgWrite ((a - 0x44000) / 0x100) v)
  else if 0x44000 ≤ a && a < 0x44400 && a % 0x100 = 4 then some (twpAddrWrite ((a - 0x44000) / 0x100) v)
  else if a = 0x50008 then some (trlCfgWrite v)
  else if 0x50100 ≤ a && a < 0x50148 && a % 4 = 0 then some (lampWrite ((a - 0x50100) / 4) v)
  else if a = 0x54004 then some (tambWrite v)
  else if 0x100000 ≤ a && a < 0x130000 && 0x200 ≤ a % 0x400 && a % 4 = 0 then
    some (bankWrite ((a - 0x100000) / 0x400) ((a % 0x400 - 0x200) / 4) v)
  else none

/-- Words to ascending registers (Table 17.6). -/
def regWords : Nat → List W → State → State
  | _, [], s => s
  | a, v :: r, s => regWords (a + 4) r (match regEffect a v with
      | some f => f s
      | none => s)

/-- A mirrored write takes effect at its apply tick (R358). -/
def regApply (addr bytes : Nat) (ws : List W) (s : State) : State :=
  if 0x200000 ≤ addr && addr < 0x300000 then nvHostWrite (addr - 0x200000) ((bytesOfWords ws).take bytes) s
  else regWords addr ws s

/-! W1C registers (R472, R473). -/

/-- Bits of a vector cleared by the ones of a written word. -/
def w1c {n : Nat} (x : BitVec n) (v : W) : BitVec n := x &&& ~~~(v.setWidth n)

/-- The effect of a word on a W1C register at BAR0 address `a`. -/
def clearEffect (a : Nat) (v : W) : Option (State → State) :=
  if a = 0x1020 then some fun s => { s with clk := { s.clk with mon := s.clk.mon &&& ~~~(v &&& 0x7E) } }
  else if a = 0x200C then some fun s => { s with kio := { s.kio with err := w1c s.kio.err v } }
  else if a = 0x4004 then some fun s =>
    let e := s.fcr.errn &&& ~~~(v.extractLsb' 0 3 &&& 1)
    { s with fcr := { s.fcr with errn := e, errnOut := e != 0 } }
  else if 0x20000 ≤ a && a < 0x30000 && a % 0x400 = 0x2C then
    some fun s => s.modLk ((a - 0x20000) / 0x400) fun x => { x with evt := w1c x.evt v }
  else if a = 0x30020 then some fun s => { s with jnb := { s.jnb with evt := w1c s.jnb.evt v } }
  else if a = 0x34024 then some fun s => { s with prl := { s.prl with evt := w1c s.prl.evt v } }
  else if 0x40000 ≤ a && a < 0x40200 && a % 0x40 = 0x0C then
    some fun s => s.modTp ((a - 0x40000) / 0x40) fun x => { x with evt := w1c x.evt v }
  else if 0x44000 ≤ a && a < 0x44400 && a % 0x100 = 0x0C then
    some fun s => s.modTw ((a - 0x44000) / 0x100) fun x => { x with evt := w1c x.evt v }
  else if a = 0x48018 then some fun s => { s with nvs := { s.nvs with evt := w1c s.nvs.evt v } }
  else if a = 0x4C02C then some fun s => { s with upe := { s.upe with evt := w1c s.upe.evt v } }
  else if a = 0x5000C then some fun s => { s with trl := { s.trl with evt := w1c s.trl.evt v } }
  else if 0x58100 ≤ a && a < 0x58900 && a % 0x20 = 0x14 then
    some fun s => if v.bit 3 then s.modLg ((a - 0x58100) / 0x20) fun x => { x with gap := false } else s
  else if a = 0x5C004 then
    some fun s => { s with shaft := vmapIdx s.shaft fun i x => if v.bit i then { x with lost := false } else x }
  else if 0x100000 ≤ a && a < 0x130000 && a % 0x400 = 8 then
    some fun s => match taskOfCh s ((a - 0x100000) / 0x400) with
      | some t => (match ctxOf s t.num with
          | some c => if v.bit 2 then s.modCx c fun x => { x with wdrop := false } else s
          | none => s)
      | none => s
  else none

/-! Registers of KIO and PRL, which are not mirrored. -/

/-- PRL_CTRL.YIELD (R366, Table 17.13) in role LEAD with the STANDBY IN_SYNC: the LEAD yields at the next tick start. -/
def prlYieldWrite (s : State) : State :=
  if leadInSync s && s.clk.chip = .run then { s with prl := { s.prl with yieldReq := some (s.prl.yieldReq.getD .resync) } } else s

/-- PRL_YIELD. -/
def execPrlYield (s : State) : Host.Outcome State Fault Refusal := done (prlYieldWrite s)

/-- Half of a 64-bit base: bits 31:12 of the low word, or the high word. -/
def basePut (hi : Bool) (b : BitVec 64) (v : W) : BitVec 64 :=
  if hi then v ++ b.extractLsb' 0 32 else b.extractLsb' 32 32 ++ (v &&& 0xFFFFF000)

/-- A ring base or size register (R211): written only while no session is open. -/
def ringEffect (a : Nat) (v : W) : Option (State → State) :=
  let idle := fun (f : Kio → Kio) (s : State) => if s.kio.isOpen then s else { s with kio := f s.kio }
  let q := a % 0x100 / 0x20
  if 0x2100 ≤ a && a < 0x2180 && a % 0x20 < 0x0C then
    some (idle fun k => { k with sq := vmod k.sq q fun r =>
      if a % 0x20 = 8 then { r with size := v.extractLsb' 0 4 } else { r with base := basePut (a % 0x20 == 4) r.base v } })
  else if 0x2200 ≤ a && a < 0x2280 && a % 0x20 < 0x0C then
    some (idle fun k => { k with cq := vmod k.cq q fun r =>
      if a % 0x20 = 8 then { r with size := v.extractLsb' 0 4 } else { r with base := basePut (a % 0x20 == 4) r.base v } })
  else if a = 0x2300 || a = 0x2304 then
    some (idle fun k => { k with eq := { k.eq with base := basePut (a = 0x2304) k.eq.base v } })
  else none

/-- The entries that a doorbell names, as they stand in host memory (R212, R216). -/
def sqEntries (q : Nat) (v : W) (s : State) : List (List W) :=
  let r := vat s.kio.sq q SubRing.init
  let n := ringLen r.size
  (List.range ((v.bits 11 0 + n - r.tail) % n)).map fun i => Memory.readWs s.host (r.base.toNat + 64 * ((r.tail + i) % n)) 16

/-- KIO_SESSION (Table 9.10). -/
def sessionWrite (v : W) (s : State) : State :=
  match v.bits 31 30 with
  | 1 => sessionOpen (v.extractLsb' 8 8) (v.extractLsb' 0 8) s
  | 2 => sessionClose { s with kio := { s.kio with reqMajor := v.extractLsb' 8 8, reqMinor := v.extractLsb' 0 8 } }
  | _ => { s with kio := { s.kio with reqMajor := v.extractLsb' 8 8, reqMinor := v.extractLsb' 0 8 } }

/-- A KIO register by a plain write: the session, the ring registers and the doorbells. -/
def kioEffect (a : Nat) (v : W) : Option (State → Host.Outcome State Fault Refusal) :=
  let q : Fin 4 := Fin.ofNat 4 (a % 0x100 / 0x20)
  if a = 0x2004 then some fun s => done (kioWrite (sessionWrite v) s)
  else if 0x2100 ≤ a && a < 0x2180 && a % 0x20 = 0x0C then some fun s => execKioSqTail q v (sqEntries q.val v s) s
  else if 0x2200 ≤ a && a < 0x2280 && a % 0x20 = 0x0C then some (execKioCqHead q v)
  else if a = 0x2308 then some (execKioEqHead v)
  else (ringEffect a v).map fun f s => done (kioWrite f s)

/-! Any other write. -/

/-- A discarded write: RO_WR, but nothing in RESET nor, in DORMANT, outside the four blocks that answer (R470, R471, R474). -/
def discardWrite (a : Nat) (s : State) : State :=
  if s.clk.chip = .reset || (s.clk.chip = .dormant && !dormantBlock a) then s else roWr s

/-- A write to a register that takes none (Table 0.5): ignored. In DORMANT the four blocks discard it with RO_WR (R474), and a
STANDBY does outside KIO and PRL (Table 17.1). -/
def readOnlyWrite (a : Nat) (s : State) : State :=
  if s.clk.chip = .dormant || (s.prl.role = .standby && !(0x2000 ≤ a && a < 0x4000) && !(0x34000 ≤ a && a < 0x38000))
  then discardWrite a s else s

/-- `a` is one of the registers at `base`, `base + 4` .. `last`. -/
def regRun (a base last : Nat) : Bool := base ≤ a && a ≤ last

/-- The BAR0 address is a register that some table of the manual assigns and that is read-only (Tables 24.3 to 24.7). -/
def readOnlyReg (a : Nat) : Bool :=
  a % 4 = 0 && (
  regRun a 0x00 0x24 || a = 0x40 ||
  a = 0x1000 || regRun a 0x1008 0x101C ||
  a = 0x2000 || a = 0x2008 || regRun a 0x2010 0x2020 || (regRun a 0x2100 0x217F && a % 0x20 = 0x10) ||
  (regRun a 0x2200 0x227F && a % 0x20 = 0x10) || a = 0x230C || a = 0x2310 ||
  a = 0x4000 || regRun a 0x4010 0x4030 || regRun a 0x5000 0x5FFF || regRun a 0x6000 0x6FFF ||
  regRun a 0x8000 0x8018 ||
  regRun a 0x10000 0x102FF || regRun a 0x10400 0x1043F || regRun a 0x10480 0x104BF ||
  (regRun a 0x20000 0x2FFFF && (a % 0x400 = 0 || regRun (a % 0x400) 0x08 0x28 || regRun (a % 0x400) 0x40 0x6C)) ||
  regRun a 0x30000 0x3001C ||
  a = 0x34000 || regRun a 0x34008 0x34020 ||
  regRun a 0x38000 0x3801C || regRun a 0x38100 0x381FF || regRun a 0x38200 0x3823F ||
  (regRun a 0x40000 0x401FF && (regRun (a % 0x40) 0 8 || regRun (a % 0x40) 0x10 0x18)) ||
  (regRun a 0x44000 0x443FF && (a % 0x100 = 8 || a % 0x100 = 0x10)) ||
  regRun a 0x48000 0x48014 ||
  regRun a 0x4C000 0x4C028 ||
  a = 0x50000 || a = 0x50004 || a = 0x50010 || regRun a 0x50200 0x50210 || regRun a 0x50220 0x50230 ||
  a = 0x54000 || a = 0x54008 || (regRun a 0x54100 0x558FF && a % 0x20 < 0x1C) ||
  regRun a 0x58000 0x5800C || (regRun a 0x58100 0x588FF && a % 0x20 != 0x14) ||
  a = 0x5C000 || regRun a 0x5C010 0x5C01C || regRun a 0x5C020 0x5C02C || regRun a 0x5C030 0x5C03C || regRun a 0x5C040 0x5C05C ||
  (regRun a 0x100000 0x12FFFF && (regRun (a % 0x400) 0 4 || regRun (a % 0x400) 0x0C 0x20)))

/-- A write of 4 aligned bytes to a register (R470 to R474). -/
def wordWrite (a : Nat) (v : W) (s : State) : State :=
  if s.clk.chip = .reset then s
  else if a = 0x44 then
    (if s.clk.chip = .boot then (if v.bit 0 then bootGo s else s)
     else if s.clk.chip = .dormant || s.prl.role = .standby then discardWrite a s else s)
  else if a = 0x34004 then (if s.clk.chip = .dormant then s else if v.bit 0 then prlYieldWrite s else s)
  else if a = 0x1024 && s.clk.chip = .dormant then
    (match regEffect a v with
     | some f => f s
     | none => s)
  else if a = 0x1004 then
    hostWrite a 4 [v &&& 2] (alignEnWrite (v.bit 1))
      (if v.bit 0 && s.clk.chip != .dormant && s.prl.role != .standby then ctuSnap s else s)
  else match clearEffect a v, regEffect a v with
    | some f, _ => hostClear a f s
    | none, some f => hostWrite a 4 [v] f s
    | none, none => if readOnlyReg a then readOnlyWrite a s else discardWrite a s

/-- REGISTER_WRITE (R470 to R474). -/
def execRegisterWrite (addr size : Nat) (v : W) (s : State) : Host.Outcome State Fault Refusal :=
  if 0x200000 ≤ addr && addr < 0x300000 then execNvWindowWrite (addr - 0x200000) ((bytesOf v).take size) s
  else if 0x400000 ≤ addr && addr < 0x800000 then
    (if size = 4 && addr % 4 = 0 then execSharedWindowWrite (addr - 0x400000) [v] s else done (discardWrite addr s))
  else if size ≠ 4 || addr % 4 ≠ 0 then done (discardWrite addr s)
  else match kioEffect addr v with
    | some f => f s
    | none => done (wordWrite addr v s)

end Sys2Proof.Machine
end

