-- ==== Sys2Proof/Machine/Pair.lean ====
section
/-!
DEFINITION. Pair operation (chapter 17): the partner's HELLO, tick cells and messages, mirrored commands and writes, disputes,
switchover and resynchronisation.
-/
namespace Sys2Proof.Machine

/-- The firmware runs the pair link of a device with a side (R353, R439). -/
def pairRuns (s : State) : Bool := s.prl.strapped && s.kio.fwReady && clockRuns s

/-! Forming a pair (R357, Tables 17.2 to 17.4, R430). -/

/-- Firmware that forms a pair (Tables 17.3 and 17.4, R430): equal, or, on version 2, the lower at or above the COMPAT of the
higher. -/
def firmwareFits (v : Nat) (fw compat pfw pcompat : W) : Bool :=
  fw == pfw || (v == 2 &&
    (if fw.toNat < pfw.toNat then pcompat != 0 && pcompat.toNat ≤ fw.toNat
     else compat != 0 && compat.toNat ≤ pfw.toNat))

/-- A device that becomes STANDBY with an image of its own running (R357): it stops dispatching, leaves every link and takes its
channels to OFF. Dispatching begins again with CONVERGE, whose releases the LEAD's state has reached (R371). -/
def standDown (s : State) : State :=
  let s0 := if s.clk.released then { s with prl := { s.prl with halted := true } } else s
  let s1 := if s.prl.role = .lead then relAll s0 else s0
  (List.range 192).foldl (fun s n =>
    let x := (s.ch n).st
    if x = .off || x = .fenced then s else enterOff n s) s1

/-- The boot image that the device kept as STANDBY is admitted when it becomes LEAD (R440). -/
def keptImage (s : State) : State :=
  if s.boot.imageKept && s.adm.run.isNone then
    match bootImage s with
    | .ok ws => admStart none ws { s with boot := { s.boot with imageKept := false } }
    | .error c => bootImageFail c s
  else s

/-- The device becomes STANDBY as the link comes UP (R357); a boot image it had kept is dropped (R440). -/
def formStandby (st : PState) (s : State) : State :=
  setRole .standby st (standDown { s with boot := { s.boot with imageKept := false } })

/-- The role that a formed pair gives this device. -/
def formRole (lead : Bool) (s : State) : State :=
  if lead then keptImage (toResync (setRole .lead .resync { s with prl := { s.prl with halted := false } }))
  else toResync (formStandby .resync s)

/-- PAIR_HELLO (R354, R357): both devices send their HELLO and the link reaches UP, unless its one-way delay is above 40 ns. -/
def pairHello (ws : List W) (delayNs : Nat) (s0 : State) : State :=
  let w := fun (i : Nat) => lat ws i 0
  let v := min 2 ((w 0).bits 31 24)
  let side := (w 0).bit 8
  let s := { s0 with prl := { s0.prl with
    link := .up, version := if max 1 ((w 0).bits 23 16) ≤ v then v else 0, lanes := 15, present := true, prun := (w 0).bit 1
    hello := ownHello s0, delay := delayNs, pser := w 2 ++ w 1, pfw := w 3, pimage := (w 5, w 6), missing := 0, lastBad := false, equalRun := 0, fails := 0 } }
  let running := s.chan.any (·.st != .off)
  let mine := s.prl.role == .lead && running
  let theirs := (w 0).bit 0 && (w 0).bit 1
  if delayNs > 40 then { s0 with prl := { s0.prl with link := .down } }
  else if side = s.prl.side then pairRaise .uc (prlEvt 5 (formStandby .clash s))
  else if s.prl.version = 0 || !firmwareFits v s.upe.fwAct s.prl.compat (w 3) (w 4) then
    prlEvt 4 (if s.prl.side then formStandby .mismatch s else setRole .solo .mismatch { s with prl := { s.prl with halted := false } })
  else formRole (if mine != theirs then mine else !s.prl.side) s

/-- PAIR_HELLO. -/
def execPairHello (ws : List W) (delayNs : Nat) (s : State) : Host.Outcome State Fault Refusal :=
  done (if pairRuns s && s.prl.link != .up then pairHello ws delayNs s else s)

/-- PAIR_LINK_DOWN (R354): the link goes DOWN and trains again. -/
def execPairLinkDown (s : State) : Host.Outcome State Fault Refusal := done (if s.prl.link = .up then pairLost s else s)

/-! Disputes (R365, Table 17.7). -/

/-- The outcome of a dispute, once both results are known. -/
def disputeJudge (s : State) : State :=
  let own := s.prl.check
  let known := (own == .pass || own == .fail) && (s.prl.partner == .pass || s.prl.partner == .fail)
  if s.prl.pst = .dispute && s.prl.dispute.isSome && known then
    let s1 := { s with prl := { s.prl with dispute := none } }
    let keep := fun (s : State) => { s with prl := { s.prl with check := own } }
    if s.prl.role = .lead then
      match own, s.prl.partner with
      | .fail, .pass => keep (yieldPair .fenced s1)
      | .fail, _ => pairRaise .fe { s1 with prl := { s1.prl with pst := .alone } }
      | _, .fail => pairFlush { s1 with prl := { s1.prl with pst := .alone } }
      | _, _ => keep (toResync s1)
    else
      match own, s.prl.partner with
      | .fail, _ => { s1 with prl := { s1.prl with pst := .fenced } }
      | _, .fail => s1
      | _, _ => keep (toResync s1)
  else s

/-- SELF_CHECK_END (R365). -/
def execSelfCheckEnd (pass : Bool) (s : State) : Host.Outcome State Fault Refusal :=
  done (if s.prl.pst = .dispute && s.prl.check = .running then
      disputeJudge { s with prl := { s.prl with check := if pass then .pass else .fail } }
    else s)

/-- A partner that shows no result within 12 ticks of the dispute's start counts as failed (R365). -/
def disputeLate (s : State) : State :=
  if s.prl.pst = .dispute && s.prl.dispute.any (fun d => d + 12 ≤ s.now) && s.prl.partner != .pass then
    disputeJudge { s with prl := { s.prl with partner := .fail } }
  else s

/-- DISPUTE_TIMEOUT (R365). -/
def execDisputeTimeout (s : State) : Host.Outcome State Fault Refusal := done (disputeLate s)

/-! Tick cells (R355, R363, R364, R366 to R368). -/

/-- MASK of the tick that ends (Table 17.5): a declared link whose frame was valid, or on which none was due (R196). -/
def ownMask (s : State) : BitVec 64 :=
  (List.range 64).foldl (fun m l =>
    let x := s.lk l
    bitPut m l (!(linkChans s l).isEmpty && (x.lastValid || (x.version == 1 && x.inUse && s.now % 2 == 0)))) 0

/-- The 16 bytes that a link gives to ODIG (R363). -/
def odigBytes (s : State) (l : Nat) : List Byte :=
  match (s.lk l).sent with
  | some f => if f.tick = s.now && 2 ≤ (f.hdr.extractLsb' 6 2).toNat
      then bytesOfWords [vat f.chw 0 0, vat f.chw 1 0, vat f.chw 2 0, f.dev] else List.replicate 16 0
  | none => List.replicate 16 0

/-- ODIG of the tick that ends (R363). -/
def ownOdig (s : State) : BitVec 64 :=
  let half := fun (b : Nat) => crc32c ((List.range 32).flatMap fun i => odigBytes s (b + i))
  half 32 ++ half 0

/-- SDIG of the tick that ends (R363): the sets in ascending engine and then end cycle; 0 without one, and on version 1. -/
def ownSdig (s : State) : W :=
  let le := fun (a b : Nat × Nat × List W) => a.1 < b.1 || (a.1 == b.1 && a.2.1 ≤ b.2.1)
  match sortBy le s.prl.sdigSets with
  | [] => 0
  | l => if s.prl.version = 2 then crc32cW (l.flatMap (·.2.2)) else 0

/-- At a tick's end the device's own cells move on (R355): this tick's cell becomes the one to compare, and the next holds the
MASK and the digests of the tick that ends. A device that is NOT_ALIGNED sends no digest, leaves IN_SYNC, and compares nothing
(R28, R364): its run of equal ticks begins again. -/
def cellStep (s : State) : State :=
  if s.prl.link = .up && s.prl.strapped then
    let s1 := { s with prl := { s.prl with
      mask := s.prl.cellMask, odig := s.prl.cellOdig, sdig := s.prl.cellSdig
      cellMask := ownMask s
      cellOdig := if s.clk.notAligned then 0 else ownOdig s
      cellSdig := if s.clk.notAligned then 0 else ownSdig s
      equalRun := if s.clk.notAligned then 0 else s.prl.equalRun
      sdigSets := [], yieldNow := false, statusQ := [], resend := [] } }
    if s1.clk.notAligned && s1.prl.pst = .inSync then toResync s1 else s1
  else { s with prl := { s.prl with sdigSets := [], yieldNow := false, statusQ := [], resend := [] } }

/-- The tick cell that this device sends in a tick (R355, Table 17.5). -/
def ownCell (s : State) : TickCell :=
  ⟨s.prl.role, s.prl.side, s.prl.yieldNow, s.prl.takeover.isSome, s.prl.check, s.prl.pst, s.clk.tc.setWidth 16,
    s.prl.cellMask, s.prl.cellOdig, s.prl.cellSdig⟩

/-- A missing tick cell (R355, R367): after two in a row the partner is lost; a STANDBY in IN_SYNC or DISPUTE takes over. -/
def cellMissing (s : State) : State :=
  let s1 := { s with prl := { s.prl with missing := s.prl.missing + 1 } }
  if s1.prl.missing = 2 then
    let s2 := prlEvt 0 s1
    if s2.prl.role = .standby && (s2.prl.pst = .inSync || s2.prl.pst = .dispute) then takeOver s2
    else if s2.prl.role = .lead && s2.prl.pst = .inSync then pairFlush { s2 with prl := { s2.prl with pst := .alone } }
    else s2
  else s1

/-- The comparison while both devices are IN_SYNC (R364). -/
def cellCompare (x : TickCell) (s : State) : State :=
  if x.mask != s.prl.mask then
    pairRaise .ce (toResync (prlEvt 2 { s with prl := { s.prl with splits := s.prl.splits + 1 } }))
  else if x.odig != s.prl.odig || (s.prl.version = 2 && x.sdig != s.prl.sdig) then
    (if s.prl.lastBad then startDispute { s with prl := { s.prl with lastBad := false } }
     else pairRaise .ce { s with prl := { s.prl with mismatch := s.prl.mismatch + 1, lastBad := true } })
  else { s with prl := { s.prl with lastBad := false } }

/-- The comparison during CONVERGE, without disputes (R371). -/
def cellConverge (x : TickCell) (s : State) : State :=
  let same := x.mask == s.prl.mask && x.odig == s.prl.odig && (s.prl.version != 2 || x.sdig == s.prl.sdig)
  { s with prl := { s.prl with equalRun := if same then s.prl.equalRun + 1 else 0 } }

/-- A LEAD follows the pair state of its STANDBY (R371, R372, Table 17.12). -/
def leadFollows (p : PState) (s : State) : State :=
  if s.prl.role = .lead && s.prl.pst != .dispute then
    match p with
    | .inSync => if s.prl.pst = .resync
        then { s with prl := { s.prl with pst := .inSync, syncTime := nw ((s.now - s.prl.resyncTick) / 2000), fails := 0 } }
        else { s with prl := { s.prl with pst := .inSync } }
    | .resync => if s.prl.pst = .resync then s else pairFlush (toResync s)
    | .degraded | .fenced | .isolated => pairFlush { s with prl := { s.prl with pst := .alone } }
    | _ => s
  else s

/-- A tick cell that arrived (R364 to R368). -/
def cellHere (x : TickCell) (s0 : State) : State :=
  let s := { s0 with prl := { s0.prl with missing := 0, partner := if s0.prl.pst = .dispute then x.check else s0.prl.partner } }
  if x.takeover && s.prl.role = .lead && s.prl.takeover.isNone then leaveLead s
  else if x.yield && s.prl.role = .standby && (s.prl.pst = .inSync || s.prl.pst = .dispute) then takeOver s
  else if s.prl.pst = .inSync && x.pstate = .inSync && !s.clk.notAligned then cellCompare x s
  else if s.prl.pst = .dispute then disputeJudge s
  else leadFollows x.pstate (if s.prl.pst = .resync && s.prl.converge && !s.clk.notAligned then cellConverge x s else s)

/-- TICK_CELL (R355, R364): a cell whose TC is not that of the tick before is missing. -/
def execTickCell (cell : Option TickCell) (s : State) : Host.Outcome State Fault Refusal :=
  done (if pairRuns s then
      match cell with
      | some x => if s.prl.link = .up && x.tc = BitVec.ofNat 16 (s.now - 1) then cellHere x s else cellMissing s
      | none => cellMissing s
    else s)

/-! Switchover (R366, R367). -/

/-- TAKEOVER_WINDOW_END (R367): no link has reported this device's port, so it releases and is STANDBY again. -/
def takeoverEnd (s : State) : State :=
  match s.prl.takeover with
  | none => s
  | some _ =>
    let s1 := { s with prl := { s.prl with takeover := none } }
    if s.prl.takeMask = 0 && s.prl.role = .lead then
      let away := s.prl.missing ≥ 2 || s.prl.link != .up
      pairRaise .uc (prlEvt 6 (setRole .standby (if away then .isolated else .resync) (relAll s1)))
    else s1

/-- TAKEOVER_WINDOW_END: the window ends at z + 8 (R367). -/
def execTakeoverWindowEnd (s : State) : Host.Outcome State Fault Refusal :=
  done (if s.prl.takeover.any (fun z => z + 8 ≤ s.now) then takeoverEnd s else s)

/-! Mirrored commands and writes (R358 to R361). -/

/-- The effect of a mirrored command whose words say all it needs; the others act in their own row (log entry 34). -/
def runCmd (k : KCmd) (s : State) : State :=
  match k.cmd with
  | 0x0004 => kCancel k s
  | 0x0201 => kChStart k s
  | 0x0202 => kChStop k s
  | 0x0203 => kChRestart k s
  | 0x0204 => kPlausReset k s
  | 0x0205 => kBankSwap k s
  | 0x0206 => kParamWrite k s
  | 0x0207 => kSharedWrite k s
  | 0x0208 => kTableSave k s
  | 0x0209 => kSeqRequest k s
  | 0x0303 => kModThresh k s
  | 0x0401 => kTrigArm k s
  | 0x0402 => kTrigFire k s
  | 0x0403 => kTrigRelease k s
  | 0x0501 => kReadmit k s
  | 0x0502 => kRebalance k s
  | 0x0503 => kEventCfg k s
  | 0x0601 => if (k.arg 3).bit 0 then s else kNvStore none k s
  | 0x0702 => kUpdVerify k s
  | 0x0703 => kUpdPrepare k s
  | 0x0704 => kUpdCommit k s
  | 0x0705 => kUpdConfirm k s
  | 0x0706 => kUpdFallback k s
  | 0x0801 => kFeedToggle k s
  | 0x0802 => kLedgerReset k s
  | 0x0804 => kDormantEnter k s
  | _ => s

/-- A mirrored item takes effect at its apply tick (R358, R359). A foreign command leaves the queue here; the LEAD's own stays for
its STATUS. -/
def mirrorOne (x : Mirrored) (s : State) : State :=
  let rest := s.prl.queue.filter (·.mseq != x.mseq)
  if x.isReg then
    regApply (lat x.words 0 0).toNat (lat x.words 1 0).toNat (x.words.drop 2) { s with prl := { s.prl with queue := rest } }
  else
    match s.kio.accepted.find? fun k => k.mseq == some x.mseq with
    | none => { s with prl := { s.prl with queue := rest } }
    | some k =>
      let queue := if k.foreign then rest else s.prl.queue.map fun y => if y.mseq == x.mseq then { y with applied := true } else y
      let k1 := { k with applied := true }
      runCmd k1 (kMod k (fun _ => k1) { s with prl := { s.prl with queue := queue } })

/-- The next mirrored item, once its apply tick has come. -/
def mirrorNext (s : State) : State :=
  match s.prl.queue.find? (!·.applied) with
  | some x => if x.apply ≤ s.now then mirrorOne x s else s
  | none => s

/-- MIRROR_APPLY (R358, R359). -/
def execMirrorApply (s : State) : Host.Outcome State Fault Refusal := done (if mgpRuns s then mirrorNext s else s)

/-- A STANDBY takes what its LEAD mirrors (R359). -/
def mirrorTakes (s : State) : Bool := s.prl.role == .standby && pairFormed s && mgpRuns s

/-- A STANDBY that has missed a message of the mirror queue leaves IN_SYNC for RESYNC (R356); MSEQ numbers the queue's items. -/
def mirrorGot (mseq : Nat) (s : State) : State :=
  if mirrorTakes s then
    let s1 := if s.prl.pst = .inSync && s.prl.rxMseq.any (· != mseq) then toResync s else s
    { s1 with prl := { s1.prl with rxMseq := some (mseq + 1) } }
  else s

/-- PAIR_CMD (R359): the command joins those accepted, to apply at F + 2; a drip command takes a handle here as on the LEAD. -/
def execPairCmd (mseq : Nat) (entry : List W) (s0 : State) : Host.Outcome State Fault Refusal :=
  let s := mirrorGot mseq s0
  done (if mirrorTakes s then
      let w := fun (i : Nat) => lat entry i 0
      let q : Fin 4 := Fin.ofNat 4 ((w 1).bits 31 30)
      let h := s.kio.nextHandle
      let drip := 2 ≤ q.val
      let ws := (List.range 16).map w
      let k : KCmd := ⟨(w 0).bits 31 16, (w 0).extractLsb' 0 16, q, ws, s.clk.ts, 0, if drip then h else 0, false, false, [],
        some mseq, false, true, false, 0⟩
      { s with
        kio := { s.kio with accepted := s.kio.accepted ++ [k], nextHandle := if drip then h + 1 else h }
        prl := { s.prl with queue := s.prl.queue ++ [⟨mseq, false, ws, s.now + 2, none, false, none, none⟩] } }
    else s)

/-- REGW (R358, Table 17.6): a BAR0 address and words for ascending addresses. -/
def execRegw (addr : Nat) (ws : List W) (s : State) : Host.Outcome State Fault Refusal :=
  done (if mirrorTakes s then
      mirrorReg addr (4 * ws.length) ws { s with prl := { s.prl with rxMseq := s.prl.rxMseq.map (· + 1) } }
    else s)

/-- PAIR_STATUS (R359, R361): compared with the LEAD's own status once that is known. READMIT of the partner takes the STANDBY's
status (R384); that of UPD_PREPARE is the partner's vote (R423). A STATUS of no mirrored command reports the STANDBY's cause of fallback
(R428; log entry 24). -/
def pairStatus (mseq : Nat) (status : BitVec 16) (r0 : W) (s : State) : State :=
  match s.prl.queue.find? (·.mseq == mseq), s.kio.accepted.find? fun k => k.mseq == some mseq && !k.foreign with
  | some x, some k =>
    if k.cmd = 0x0501 && (k.arg 3).bit 12 then pairJudge k (status, r0, 0, 0) (status, r0) s
    else match x.own with
      | some own => pairJudge k own (status, r0) s
      | none =>
        let s1 := { s with prl := { s.prl with queue := s.prl.queue.map fun y =>
          if y.mseq == mseq then { y with partner := some (status, r0) } else y } }
        if k.cmd = 0x0703 && s1.upe.coord then
          (if r0 = 0 then voteJudge { s1 with upe := { s1.upe with yes := s1.upe.yes ++ [partnerAddr s1] } }
           else updAbort r0.toNat 0 { s1 with upe := { s1.upe with no := s1.upe.no ++ [partnerAddr s1] } })
        else s1
  | none, _ => if r0 ≠ 0 ∧ (updOpen s.upe.phase || s.upe.phase == .trial) then updCause r0.toNat 0 s else s
  | _, _ => s

/-- PAIR_STATUS. -/
def execPairStatus (mseq : Nat) (status : BitVec 16) (r0 : W) (s : State) : Host.Outcome State Fault Refusal :=
  done (if s.prl.role = .lead && pairFormed s then pairStatus mseq status r0 s else s)

/-- PLAN (R131). -/
def execPlan (epoch : Nat) (s : State) : Host.Outcome State Fault Refusal :=
  done (if pairFormed s then { s with prl := { s.prl with planEpoch := some epoch } } else s)

/-- PAIR_NAK (R356): the named message is sent again; CMD and REGW are not, since their loss ends IN_SYNC. -/
def execPairNak (kind seq : BitVec 8) (s : State) : Host.Outcome State Fault Refusal :=
  done (if s.prl.link = .up && kind != 0x02 && kind != 0x03
    then { s with prl := { s.prl with resend := s.prl.resend ++ [(kind, seq)] } } else s)

/-- NVVAL (R362). -/
def execNvval (id : BitVec 16) (ws : List W) (s : State) : Host.Outcome State Fault Refusal :=
  done (if s.prl.role = .standby && pairFormed s then
      { s with prl := { s.prl with nvval := s.prl.nvval.filter (·.1 != id) ++ [(id, ws)] } }
    else s)

/-! Resynchronisation (R371). -/

/-- A STANDBY in RESYNC. -/
def inResync (s : State) : Bool := s.prl.role == .standby && s.prl.pst == .resync && s.prl.link == .up

/-- IMAGE (R371): the LEAD's image is admitted as R137 gives, in place of what the STANDBY holds. -/
def execImage (ws : List W) (s : State) : Host.Outcome State Fault Refusal :=
  done (if inResync s && s.adm.run.isNone then admStart none ws s else s)

/-- One item of the copy set (R371). -/
def copyItem (it : CopyItem) (s : State) : State :=
  match it with
  | .shared a ws => { s with shared := Memory.writeWs s.shared (4 * a) ws }
  | .nv off bs => if off + bs.length ≤ nvBytes then nvPut off bs s else s
  | .loc c a ws => s.modCx c.val fun x => { x with loc := Memory.writeWs x.loc (4 * a) ws }
  | .table c t1 a ws => s.modCx c.val fun x =>
      if t1 then { x with t1 := { x.t1 with mem := Memory.writeWs x.t1.mem (4 * a) ws } }
      else { x with t0 := { x.t0 with mem := Memory.writeWs x.t0.mem (4 * a) ws } }
  | .bank c b1 a ws => s.modCx c.val fun x =>
      if b1 then { x with bank1 := Memory.writeWs x.bank1 (4 * a) ws } else { x with bank0 := Memory.writeWs x.bank0 (4 * a) ws }
  | .regs c ws => (match taskAt s c.val with
      | some t => s.modCx c.val (loadMirror t ws)
      | none => s)
  | .chan n st left restart => tieFollow n.val (s.modCh n.val fun c => { c with st := st, armLeft := left, restart := restart })
  | .check c i cnt => s.modCx c.val fun x => { x with chk := vput x.chk i.val cnt }
  | .armed c on => s.modCx c.val fun x => { x with armed := if on then some (x.armed.getD s.now) else none }
  | .ledger k q qIn qOut last ticks => s.modLg k.val fun x => { x with q := q, qIn := qIn, qOut := qOut, last := last, ticks := ticks }
  | .tmu n tj tc th ta => s.modTh n.val fun x => { x with t := ⟨#[tj, tc, th, ta], rfl⟩, fresh := false, run := true }
  | .tmuStores n rows => s.modTh n.val fun x => { x with stores := rows.map fun r => [r.1, r.2.1, r.2.2.1, r.2.2.2] }
  | .spu i locked k tsLast interval => { s with shaft := vmod s.shaft i.val fun x =>
      { x with lock := locked, k := k, tsLast := some tsLast, interval := interval } }
  | .trig i st => { s with bbr := { s.bbr with trig := vmod s.bbr.trig i.val fun g => { g with st := st } } }

/-- COPY (R371). -/
def execCopy (it : CopyItem) (s : State) : Host.Outcome State Fault Refusal := done (if inResync s then copyItem it s else s)

/-- PAIR_LOG (R371): a later write to the copy set. -/
def execPairLog (it : CopyItem) (s : State) : Host.Outcome State Fault Refusal := done (if inResync s then copyItem it s else s)

/-- Ticks from one release of a task to its next (R134, R140, R141). -/
def relPeriod (t : Task) : Nat := match t.profile with
  | .l => max 1 t.period
  | .u => if t.period = 0 then 200 else 2000 * t.period
  | .s => 20

/-- HANDOFF (R371): loaded when it arrives before the task's next dispatch; else the STANDBY answers NAK and nothing changes. The
first one ends COPY. -/
def handoff (task : BitVec 16) (rel : BitVec 48) (ws : List W) (counters ramps : List Nat) (s : State) : State :=
  match ctxOf s task.toNat, taskNo s task.toNat with
  | some c, some t =>
    let next := tickOf48 s.now rel + relPeriod t
    let s1 := if s.prl.converge then s else { s with prl := { s.prl with converge := true, halted := false, copyEnd := s.now, equalRun := 0 } }
    if (s.cx c).rel.isSome || (s.cx c).wait.isSome || next < s.now || (s.cx c).lastTick = some next then s1
    else
      { s1.modCx c (fun x =>
          let y := loadMirror t ws x
          { y with
            chk := Vector.ofFn fun i => lat counters i.val 0
            t0 := { y.t0 with n := lat ramps 0 y.t0.n }
            t1 := { y.t1 with n := lat ramps 1 y.t1.n } }) with
        prl := { s1.prl with handNext := task.toNat + 1 } }
  | _, _ => s

/-- HANDOFF. -/
def execHandoff (task : BitVec 16) (rel : BitVec 48) (ws : List W) (counters ramps : List Nat) (s : State) :
    Host.Outcome State Fault Refusal :=
  done (if inResync s then handoff task rel ws counters ramps s else s)

/-- IN_SYNC (R371), at an epoch boundary after 4,000 equal ticks: PRL_SYNCTIME is the length of the RESYNC in ms. -/
def enterInSync (s : State) : State :=
  if inResync s && s.prl.converge && 4000 ≤ s.prl.equalRun then
    { s with prl := { s.prl with
      pst := .inSync, syncTime := nw ((s.now - s.prl.resyncTick) / 2000), fails := 0, lastBad := false, equalRun := 0
      restartAt := none } }
  else s

/-- IN_SYNC_ENTRY (R371). -/
def execInSyncEntry (s : State) : Host.Outcome State Fault Refusal := done (if s.tcMod 2000 = 0 then enterInSync s else s)

/-- RESYNC has not reached IN_SYNC within 1 s of the end of COPY (R371): SYNC_FAIL; class CE, at the third failure in a row UC;
RESYNC restarts 1 s later. -/
def resyncLate (s : State) : State :=
  if s.prl.link = .up && s.prl.pst = .resync && s.prl.converge && s.prl.restartAt.isNone && s.prl.copyEnd + 2000000 ≤ s.now then
    let n := s.prl.fails + 1
    pairRaise (if n = 3 then .uc else .ce) (prlEvt 7 { s with prl := { s.prl with
      fails := n, converge := false, restartAt := some (s.now + 2000000) } })
  else s

/-- RESYNC_TIMEOUT (R371). -/
def execResyncTimeout (s : State) : Host.Outcome State Fault Refusal := done (resyncLate s)

/-- RESYNC begins again 1 s after it failed (R371). -/
def resyncAgain (s : State) : State :=
  if s.prl.link = .up && s.prl.pst = .resync && s.prl.restartAt.any (· ≤ s.now) then toResync s else s

/-- RESYNC_RESTART (R371). -/
def execResyncRestart (s : State) : Host.Outcome State Fault Refusal := done (resyncAgain s)

end Sys2Proof.Machine
end

