-- ==== Sys2Proof/Machine/TiePort.lean ====
section
/-!
DEFINITION. The commands of the tie ports: attach levels, pilot messages, and the ends of their waits (R309 to R322). Each has
its effect where the port's state lets it; log entry 32 lists the choices.
-/
namespace Sys2Proof.Machine

/-- The attach window (Table 14.1). -/
def inAttach (mv : BitVec 12) : Bool := 2000 ≤ mv.toNat && mv.toNat ≤ 2500

/-- The level last judged (Table 14.9, Table 14.10). -/
def tpLevel (p : Nat) (mv : BitVec 12) (s : State) : State :=
  if (s.tp p).st = .disabled then s else s.modTp p fun x => { x with level := mv, attachLvl := inAttach mv }

/-- ATTACH_LEVEL_READ (R310): row 7. The port stops beaconing and holds its present presentation. -/
def execAttachLevelRead (p : Fin 8) (mv : BitVec 12) (s : State) : Host.Outcome State Fault Refusal :=
  let s1 := tpLevel p.val mv s
  done (if (s.tp p.val).st = .search && inAttach mv then tpSet p.val (fun x => { x with st := .confirm, stTick := s.now, beacon := false }) s1 else s1)

/-- ATTACH_CONFIRM (R310, R315): row 9. The feeder sends HAIL with generations 1 to 2. -/
def execAttachConfirm (p : Fin 8) (s : State) : Host.Outcome State Fault Refusal :=
  done (if (s.tp p.val).st = .confirm && (s.tp p.val).stTick + msTicks 15 ≤ s.now then
      let feeder := (s.tp p.val).feedPres
      let s1 := tieRaise p.val .ce 0x0401 (tpSet p.val (fun x => { x with st := .agree, role := if feeder then 1 else 2 }) s)
      if feeder then tpAsk p.val 0x10 [2, 1, 0, 0] s1 else s1
    else s)

/-- ATTACH_LEVEL_LOST (R310): row 8. -/
def execAttachLevelLost (p : Fin 8) (mv : BitVec 12) (s : State) : Host.Outcome State Fault Refusal :=
  let s1 := tpLevel p.val mv s
  done (if (s.tp p.val).st = .confirm && !inAttach mv then tpSearch p.val false s1 else s1)

/-- DETACH (R311): row 4. It is not judged during a role turn (R318). -/
def execDetach (p : Fin 8) (mv : BitVec 12) (s : State) : Host.Outcome State Fault Refusal :=
  let x := s.tp p.val
  let s1 := tpLevel p.val mv s
  done (if (x.st = .confirm || x.st = .agree || x.st = .lease) && !x.turning && !inAttach mv then
      tpSearch p.val true (tieRaise p.val .ce 0x0402 (tieEvt p.val 0 s1))
    else s1)

/-- BEACON_START (R309): the gap has ended. -/
def execBeaconStart (p : Fin 8) (s : State) : Host.Outcome State Fault Refusal :=
  done (if (s.tp p.val).st = .search && tiePref s p.val = 0 && !(s.tp p.val).beacon && (s.tp p.val).gap ≤ s.now then
      s.modTp p.val fun x => { x with beacon := true, beaconEnd := s.now + msTicks 25, feedPres := true }
    else s)

/-- BEACON_END (R309): the 25 ms have passed; a new gap is drawn. -/
def execBeaconEnd (p : Fin 8) (s : State) : Host.Outcome State Fault Refusal :=
  done (if (s.tp p.val).st = .search && (s.tp p.val).beacon && (s.tp p.val).beaconEnd ≤ s.now then
      let (g, s1) := tieGap p.val s
      s1.modTp p.val fun x => { x with beacon := false, feedPres := false, gap := g }
    else s)

/-- The highest generation that this port shares with its partner (R315, R5), of 1 to 2. -/
def sharedGen (gmax gmin : Nat) : Option Nat :=
  let g := min 2 gmax
  if max 1 gmin ≤ g then some g else none

/-- No common generation (R315, R321): row 3. -/
def tieNoGen (p : Nat) (s : State) : State := tpSearch p false (tieRaise p .ce 0x0404 (tieEvt p 2 s))

/-- HAIL (R315): the taker answers, the feeder goes on with TERMS. -/
def execHail (p : Fin 8) (h : PilotHead) (gmax : BitVec 8) (gmin : BitVec 8) (s : State) : Host.Outcome State Fault Refusal :=
  done (tpHeard p.val h (fun s =>
    let x := s.tp p.val
    let act := x.st = .agree && (x.role = 2 || (x.waiting.any fun m => m.1.op == 0x10))
    if !act then s
    else match sharedGen gmax.toNat gmin.toNat with
      | none => tieNoGen p.val (tpReply p.val h.tag 0x23 (payByte 1) s)
      | some g =>
        let s1 := tpSet p.val (fun x => { x with gen := BitVec.ofNat 2 g, hailed := true, waiting := none }) s
        if x.role = 2 then tpReply p.val h.tag 0x10 [2, 1, 0, 0] s1 else tieTerms p.val s1) s)

/-- An offer fits the taker's own window (R316). -/
def offerFits (own : Offer) (o : Offer) : Bool := own.vLo.toNat ≤ o.vLo.toNat && o.vHi.toNat ≤ own.vHi.toNat

/-- Send CLAIM for the offer in hand (R316). -/
def tieClaim (p : Nat) (s : State) : State :=
  let x := s.tp p
  tpAsk p 0x21 ([BitVec.ofNat 8 x.idx, 0] ++ (payHalf x.want).drop 2) s

/-- TERMS (R316, R317): the taker keeps its lease, claims the first offer that fits, or stays without a lease. In a role turn
it ends the turn (R318). -/
def execTerms (p : Fin 8) (h : PilotHead) (offers : List Offer) (s : State) : Host.Outcome State Fault Refusal :=
  done (tpHeard p.val h (fun s =>
    let x := s.tp p.val
    if !(x.role = 2 && (x.st = .agree || x.st = .lease) && x.hailed) then s
    else
      let s0 := if x.turning then
          tieRaise p.val .ce 0x0409 (turnSeen p.val (s.modTp p.val fun x => { x with turning := false })) else s
      let s1 := s0.modTp p.val fun x => { x with offers := offers, waiting := none, defer := none }
      if x.lease && offers.any (offerKeeps x.window x.grant) then s1
      else
        let s2 := tieEndLease p.val s1
        let own := tieOffer s2 p.val 8
        match offers.findIdx? (offerFits own) with
        | none => s2
        | some i =>
          let s3 := s2.modTp p.val fun x => { x with idx := i, want := own.iMax }
          (tieClaim p.val s3).modTp p.val fun x => { x with lastRx := some (h.tag, x.sent) }) s)

/-- CLAIM (R316): the feeder answers GRANT, DEFER or DECLINE NO_OFFER. -/
def execClaim (p : Fin 8) (h : PilotHead) (idx : BitVec 8) (cur : BitVec 16) (s : State) : Host.Outcome State Fault Refusal :=
  done (tpHeard p.val h (fun s =>
    let x := s.tp p.val
    if !(x.role = 1 && (x.st = .agree || x.st = .lease) && x.hailed && !x.turning) then s
    else
      let s1 := s.modTp p.val fun x => { x with waiting := none }
      match x.offers[idx.toNat]? with
      | none => tpReply p.val h.tag 0x23 (payByte 2) s1
      | some o =>
        if !((tieChan s p.val).any fun n => (s.ch n).st == .control) then tpReply p.val h.tag 0x24 (payHalf 100) s1
        else
          let g := if cur.toNat ≤ o.iMax.toNat then cur else o.iMax
          let s2 := tpReply p.val h.tag 0x22 (payHalf g) s1
          tpSet p.val (fun x => { x with granted := true, grantTick := s2.now, grant := g, idx := idx.toNat, lease := false }) s2) s)

/-- PILOT_GRANT (R316): the taker awaits LIVE. -/
def execPilotGrant (p : Fin 8) (h : PilotHead) (cur : BitVec 16) (s : State) : Host.Outcome State Fault Refusal :=
  done (tpHeard p.val h (fun s =>
    let x := s.tp p.val
    if x.role = 2 && (x.waiting.any fun m => m.1.op == 0x21) then
      tpSet p.val (fun x => { x with waiting := none, granted := true, grantTick := s.now, grant := cur }) s
    else s) s)

/-- DECLINE (R315, R316, R318): NO_GEN returns the port to SEARCH; of a CLAIM it leaves the port without a lease; of a TURN it
serves the request. -/
def execDecline (p : Fin 8) (h : PilotHead) (reason : BitVec 8) (s : State) : Host.Outcome State Fault Refusal :=
  done (tpHeard p.val h (fun s =>
    let x := s.tp p.val
    if reason = 1 then (if x.st = .agree then tieNoGen p.val s else s)
    else
      let s1 := s.modTp p.val fun x => { x with waiting := none, draw := none }
      if x.draw.isSome then turnSeen p.val s1 else s1) s)

/-- DEFER (R316): the taker claims again after the delay. -/
def execDefer (p : Fin 8) (h : PilotHead) (ms : BitVec 16) (s : State) : Host.Outcome State Fault Refusal :=
  done (tpHeard p.val h (fun s =>
    if (s.tp p.val).waiting.any fun m => m.1.op == 0x21 then
      s.modTp p.val fun x => { x with waiting := none, defer := some (s.now + msTicks ms.toNat) }
    else s) s)

/-- The lease begins (R316, R321): row 10. -/
def tieLease (p : Nat) (s : State) : State :=
  let o := lat (s.tp p).offers (s.tp p).idx ⟨0, 0, 0⟩
  tieRaise p .ce 0x0403 (tpSet p (fun x => { x with
    st := .lease, lease := true, granted := false
    window := (o.vHi.setWidth 32 <<< 16) ||| o.vLo.setWidth 32 }) s)

/-- Presentations are exchanged (R318): row 12. The new feeder sends TERMS. -/
def tieExchange (p : Nat) (s : State) : State :=
  let feeder := (s.tp p).role == 1
  let s1 := tpSet p (fun x => { x with
    st := .agree, role := if feeder then 2 else 1, feedPres := !feeder, lease := false, granted := false, grant := 0, window := 0
    winding := false, waiting := none, offers := [], turnTick := s.now }) s
  if feeder then s1 else tieTerms p s1

/-- What the end of a LIVE does (R316, R318). -/
def tieLive (p kind : Nat) (s : State) : State :=
  let x := s.tp p
  if kind = 0 then (if (x.st = .agree || x.st = .lease) && x.granted then tieLease p s else s)
  else if kind = 1 && x.st = .turn then tieExchange p s
  else s

/-- C of the bound channel, as last received, lies in the window the feeder offers (R316). -/
def tieInWindow (s : State) (p : Nat) : Bool :=
  let w := tieParm s p 6
  let c := (tieChan s p).elim 0 fun n => sx16 (s.ch n).mC
  (w.extractLsb' 0 16).toInt ≤ c && c ≤ (w.extractLsb' 16 16).toInt

/-- LIVE (R316, R318): received by the taker, or, without a head, the end of the port's own as feeder. -/
def execLive (p : Fin 8) (h : Option PilotHead) (kind : BitVec 8) (s : State) : Host.Outcome State Fault Refusal :=
  done (match h with
    | some hd => tpHeard p.val hd (fun s => if (s.tp p.val).role = 2 then tieLive p.val kind.toNat s else s) s
    | none =>
      let x := s.tp p.val
      let due := x.role = 1 &&
        ((kind = 0 && x.granted && (x.st = .agree || x.st = .lease) && tieInWindow s p.val) || (kind = 1 && x.st = .turn))
      if due then tieLive p.val kind.toNat (tpSend p.val 0x25 (payByte kind) s) else s)

/-- The port enters the role turn (R318): row 11. -/
def tieTurnStart (p : Nat) (s : State) : State :=
  tpSet p (fun x => { x with
    st := .turn, turning := true, turnTick := s.now, winding := true, waiting := none, draw := none, granted := false }) s

/-- The answer to a TURN (R318): DECLINE ROLE; DECLINE BUSY from a change of offer to the LIVE that ends it (log entry 32); or TURN_OK. -/
def tieTurnAnswer (p : Nat) (tag : BitVec 5) (s : State) : State :=
  let x := s.tp p
  let pref := tiePref s p
  let barred := (x.role = 1 && pref = 1) || (x.role = 2 && pref = 2)
  if barred then tpReply p tag 0x23 (payByte 3) s
  else if x.winding || x.granted || (x.waiting.any fun m => m.1.op == 0x20 || m.1.op == 0x21) then tpReply p tag 0x23 (payByte 4) s
  else tieTurnStart p (tpReply p tag 0x31 [] s)

/-- TURN (R318). In generation 1 it is discarded (Table 14.4). -/
def execTurn (p : Fin 8) (h : PilotHead) (draw : BitVec 16) (s : State) : Host.Outcome State Fault Refusal :=
  done (if (s.tp p.val).gen = 1 then s.modTp p.val fun x => { x with discarded := x.discarded + 1 }
    else tpHeard p.val h (fun s =>
      let x := s.tp p.val
      if !((x.st = .agree || x.st = .lease) && x.gen = 2 && !x.turning) then s
      else match x.draw with
        | none => tieTurnAnswer p.val h.tag s
        | some d =>
          if draw.toNat < d.toNat then s
          else if d.toNat < draw.toNat then
            tieTurnAnswer p.val h.tag (turnSeen p.val (s.modTp p.val fun x => { x with draw := none, waiting := none }))
          else
            let (w, s1) := s.draw 5 40
            tieEvt p.val 7 (s1.modTp p.val fun x => { x with draw := none, waiting := none, tieWait := some (s.now + msTicks w) })) s)

/-- TURN_OK (R318). In generation 1 it is discarded (Table 14.4). -/
def execTurnOk (p : Fin 8) (h : PilotHead) (s : State) : Host.Outcome State Fault Refusal :=
  done (if (s.tp p.val).gen = 1 then s.modTp p.val fun x => { x with discarded := x.discarded + 1 }
    else tpHeard p.val h (fun s =>
      let x := s.tp p.val
      if (x.st = .agree || x.st = .lease) && x.draw.isSome then tieTurnStart p.val s else s) s)

/-- PILOT_RESTART (R319, R321). -/
def execPilotRestart (p : Fin 8) (h : PilotHead) (s : State) : Host.Outcome State Fault Refusal :=
  done (tpHeard p.val h (fun s => tieRaise p.val .ce 0x0405 (tpRest p.val s)) s)

/-- ANSWER_TIMEOUT (R314): the message is sent again with its TAG; after the third sending, RESTART. -/
def execAnswerTimeout (p : Fin 8) (s : State) : Host.Outcome State Fault Refusal :=
  done (match (s.tp p.val).waiting with
    | none => s
    | some (m, n, t) =>
      if s.now < t + msTicks 10 then s
      else if n < 3 then s.modTp p.val fun x => { x with sent := some m, waiting := some (m, n + 1, s.now) }
      else tpRestart p.val s)

/-- LIVE_TIMEOUT (R316). -/
def execLiveTimeout (p : Fin 8) (s : State) : Host.Outcome State Fault Refusal :=
  let x := s.tp p.val
  done (if x.role = 2 && x.granted && x.grantTick + msTicks 100 ≤ s.now then tpRestart p.val s else s)

/-- DEFER_EXPIRY (R316). -/
def execDeferExpiry (p : Fin 8) (s : State) : Host.Outcome State Fault Refusal :=
  done (if (s.tp p.val).defer.any (· ≤ s.now) then tieClaim p.val (s.modTp p.val fun x => { x with defer := none }) else s)

/-- TURN_TIE_WAIT_END (R318): a new request with a new draw. -/
def execTurnTieWaitEnd (p : Fin 8) (s : State) : Host.Outcome State Fault Refusal :=
  done (if (s.tp p.val).tieWait.any (· ≤ s.now) then
      let s1 := s.modTp p.val fun x => { x with tieWait := none }
      if tieMayTurn (s1.tp p.val) then tieTurnSend p.val s1 else s1
    else s)

/-- ROLE_TURN_TIMEOUT (R318): the end that waits for LIVE or TERMS sends RESTART. -/
def execRoleTurnTimeout (p : Fin 8) (s : State) : Host.Outcome State Fault Refusal :=
  let x := s.tp p.val
  done (if x.turning && x.role = 2 && x.turnTick + msTicks (if x.st = .turn then 20 else 10) ≤ s.now then tpRestart p.val s else s)

/-- COLLIDE (R313): the transmitter stops and draws its quiet time, 0.3 ms to 3 ms. -/
def execCollide (p : Fin 8) (s : State) : Host.Outcome State Fault Refusal :=
  done (if (s.tp p.val).sent.isSome then
      let (q, s1) := s.draw 600 6000
      tieEvt p.val 6 (s1.modTp p.val fun x => { x with retry := some (s.now + q) })
    else s)

/-- TX_RETRY (R313): the message is on the line again. -/
def execTxRetry (p : Fin 8) (s : State) : Host.Outcome State Fault Refusal :=
  done (if (s.tp p.val).retry.any (· ≤ s.now) then s.modTp p.val fun x => { x with retry := none } else s)

/-- REST_END (R319): row 5. -/
def execRestEnd (p : Fin 8) (s : State) : Host.Outcome State Fault Refusal :=
  done (if (s.tp p.val).st = .rest && (s.tp p.val).stTick + msTicks 600 ≤ s.now then tpSearch p.val false s else s)

/-- TIE_OC_TIMER (R320; log entry 9). -/
def execTieOcTimer (p : Fin 8) (s : State) : Host.Outcome State Fault Refusal :=
  done (if (s.tp p.val).oc.any fun t => t + (tieParm s p.val 12).toNat ≤ s.now then tieProtect p.val 5 0x0408 s else s)

end Sys2Proof.Machine
end

