-- ==== Sys2Proof/Machine/Dispatch.lean ====
section
/-!
DEFINITION. One arm per command: the meaning it calls, or the refusal by name of a command that has no meaning yet.
-/
namespace Sys2Proof.Machine

def exec (i : Instr) (s : State) : Host.Outcome State Fault Refusal :=
  match i with
  | .nop x0 x1 => Sys2Proof.Machine.execNop x0 x1 s
  | .mov x0 x1 => Sys2Proof.Machine.execMov x0 x1 s
  | .ldi x0 x1 => Sys2Proof.Machine.execLdi x0 x1 s
  | .ldk x0 x1 => Sys2Proof.Machine.execLdk x0 x1 s
  | .sel x0 x1 => Sys2Proof.Machine.execSel x0 x1 s
  | .cmp x0 x1 => Sys2Proof.Machine.execCmp x0 x1 s
  | .cmpi x0 x1 => Sys2Proof.Machine.execCmpi x0 x1 s
  | .fcmp x0 x1 => Sys2Proof.Machine.execFcmp x0 x1 s
  | .add x0 x1 => Sys2Proof.Machine.execAdd x0 x1 s
  | .sub x0 x1 => Sys2Proof.Machine.execSub x0 x1 s
  | .addi x0 x1 => Sys2Proof.Machine.execAddi x0 x1 s
  | .mul x0 x1 => Sys2Proof.Machine.execMul x0 x1 s
  | .neg x0 x1 => Sys2Proof.Machine.execNeg x0 x1 s
  | .abs x0 x1 => Sys2Proof.Machine.execAbs x0 x1 s
  | .min x0 x1 => Sys2Proof.Machine.execMin x0 x1 s
  | .max x0 x1 => Sys2Proof.Machine.execMax x0 x1 s
  | .andW x0 x1 => Sys2Proof.Machine.execAnd x0 x1 s
  | .orW x0 x1 => Sys2Proof.Machine.execOr x0 x1 s
  | .xorW x0 x1 => Sys2Proof.Machine.execXor x0 x1 s
  | .shl x0 x1 => Sys2Proof.Machine.execShl x0 x1 s
  | .asr x0 x1 => Sys2Proof.Machine.execAsr x0 x1 s
  | .lsr x0 x1 => Sys2Proof.Machine.execLsr x0 x1 s
  | .mac x0 x1 => Sys2Proof.Machine.execMac x0 x1 s
  | .msu x0 x1 => Sys2Proof.Machine.execMsu x0 x1 s
  | .mclr x0 x1 => Sys2Proof.Machine.execMclr x0 x1 s
  | .mld x0 x1 => Sys2Proof.Machine.execMld x0 x1 s
  | .mrd x0 x1 => Sys2Proof.Machine.execMrd x0 x1 s
  | .fadd x0 x1 => Sys2Proof.Machine.execFadd x0 x1 s
  | .fsub x0 x1 => Sys2Proof.Machine.execFsub x0 x1 s
  | .fmul x0 x1 => Sys2Proof.Machine.execFmul x0 x1 s
  | .fma x0 x1 => Sys2Proof.Machine.execFma x0 x1 s
  | .fdiv x0 x1 => Sys2Proof.Machine.execFdiv x0 x1 s
  | .fsqrt x0 x1 => Sys2Proof.Machine.execFsqrt x0 x1 s
  | .cvtf x0 x1 => Sys2Proof.Machine.execCvtf x0 x1 s
  | .cvti x0 x1 => Sys2Proof.Machine.execCvti x0 x1 s
  | .sat x0 x1 => Sys2Proof.Machine.execSat x0 x1 s
  | .clamp x0 x1 => Sys2Proof.Machine.execClamp x0 x1 s
  | .intg x0 x1 => Sys2Proof.Machine.execIntg x0 x1 s
  | .diff x0 x1 => Sys2Proof.Machine.execDiff x0 x1 s
  | .filt1 x0 x1 => Sys2Proof.Machine.execFilt1 x0 x1 s
  | .lim x0 x1 => Sys2Proof.Machine.execLim x0 x1 s
  | .rpt x0 x1 => Sys2Proof.Machine.execRpt x0 x1 s
  | .plaus x0 x1 => Sys2Proof.Machine.execPlaus x0 x1 s
  | .ld x0 x1 => Sys2Proof.Machine.execLd x0 x1 s
  | .st x0 x1 => Sys2Proof.Machine.execSt x0 x1 s
  | .ldx x0 x1 => Sys2Proof.Machine.execLdx x0 x1 s
  | .stx x0 x1 => Sys2Proof.Machine.execStx x0 x1 s
  | .inp x0 x1 => Sys2Proof.Machine.execIn x0 x1 s
  | .out x0 x1 => Sys2Proof.Machine.execOut x0 x1 s
  | .evt x0 x1 => Sys2Proof.Machine.execEvt x0 x1 s
  | .recI x0 x1 => Sys2Proof.Machine.execRec x0 x1 s
  | .bf x0 x1 => Sys2Proof.Machine.execBf x0 x1 s
  | .loopn x0 x1 => Sys2Proof.Machine.execLoopn x0 x1 s
  | .callf x0 x1 => Sys2Proof.Machine.execCallf x0 x1 s
  | .endRel x0 x1 => Sys2Proof.Machine.execEnd x0 x1 s
  | .illegalInstruction x0 x1 => Sys2Proof.Machine.execIllegalInstruction x0 x1 s
  | .releaseOverrun x0 => Sys2Proof.Machine.execReleaseOverrun x0 s
  | .lib x0 x1 => Sys2Proof.Machine.execLib x0 x1 s
  | .ledg x0 x1 => Sys2Proof.Machine.execLedg x0 x1 s
  | .tmur x0 x1 => Sys2Proof.Machine.execTmur x0 x1 s
  | .jrd x0 x1 => Sys2Proof.Machine.execJrd x0 x1 s
  | .jwr x0 x1 => Sys2Proof.Machine.execJwr x0 x1 s
  | .period x0 x1 => Sys2Proof.Machine.execPeriod x0 x1 s
  | .en x0 x1 => Sys2Proof.Machine.execEn x0 x1 s
  | .dis x0 x1 => Sys2Proof.Machine.execDis x0 x1 s
  | .setref x0 x1 => Sys2Proof.Machine.execSetref x0 x1 s
  | .wait x0 x1 => Sys2Proof.Machine.execWait x0 x1 s
  | .chk x0 x1 => Sys2Proof.Machine.execChk x0 x1 s
  | .jmp x0 x1 => Sys2Proof.Machine.execJmp x0 x1 s
  | .jc x0 x1 => Sys2Proof.Machine.execJc x0 x1 s
  | .retry x0 x1 => Sys2Proof.Machine.execRetry x0 x1 s
  | .mark x0 x1 => Sys2Proof.Machine.execMark x0 x1 s
  | .send x0 x1 => Sys2Proof.Machine.execSend x0 x1 s
  | .await x0 x1 => Sys2Proof.Machine.execAwait x0 x1 s
  | .log x0 x1 => Sys2Proof.Machine.execLog x0 x1 s
  | .call x0 x1 => Sys2Proof.Machine.execCall x0 x1 s
  | .releaseDispatch x0 => Sys2Proof.Machine.execReleaseDispatch x0 s
  | .seqService x0 => Sys2Proof.Machine.execSeqService x0 s
  | .railClassChange x0 x1 => Sys2Proof.Machine.execRailClassChange x0 x1 s
  | .waitTimeout x0 => Sys2Proof.Machine.execWaitTimeout x0 s
  | .awaitTimeout x0 => Sys2Proof.Machine.execAwaitTimeout x0 s
  | .retryDelayEnd x0 => Sys2Proof.Machine.execRetryDelayEnd x0 s
  | .unwindDelayEnd x0 => Sys2Proof.Machine.execUnwindDelayEnd x0 s
  | .supplyLoss x0 => Sys2Proof.Machine.execSupplyLoss x0 s
  | .supplyQualified x0 => Sys2Proof.Machine.execSupplyQualified x0 s
  | .retriesClear x0 => Sys2Proof.Machine.execRetriesClear x0 s
  | .inboundFrame x0 x1 => Sys2Proof.Machine.execInboundFrame x0 x1 s
  | .outboundFrame x0 => Sys2Proof.Machine.execOutboundFrame x0 s
  | .holdLimitExpiry x0 => Sys2Proof.Machine.execHoldLimitExpiry x0 s
  | .armingComplete x0 => Sys2Proof.Machine.execArmingComplete x0 s
  | .restartCountDone x0 => Sys2Proof.Machine.execRestartCountDone x0 s
  | .fallbackTableInForce => Sys2Proof.Machine.execFallbackTableInForce s
  | .shaftEdge x0 x1 x2 => Sys2Proof.Machine.execShaftEdge x0 x1 x2 s
  | .shaftLockTimeout x0 => Sys2Proof.Machine.execShaftLockTimeout x0 s
  | .linkCommaAlign x0 => Sys2Proof.Machine.execLinkCommaAlign x0 s
  | .trainStepEnd x0 x1 => Sys2Proof.Machine.execTrainStepEnd x0 x1 s
  | .trainTimeout x0 => Sys2Proof.Machine.execTrainTimeout x0 s
  | .moduleHello x0 x1 => Sys2Proof.Machine.execModuleHello x0 x1 s
  | .ready x0 x1 x2 => Sys2Proof.Machine.execReady x0 x1 x2 s
  | .negotiateTimeout x0 => Sys2Proof.Machine.execNegotiateTimeout x0 s
  | .linkSwitchTick x0 => Sys2Proof.Machine.execLinkSwitchTick x0 s
  | .linkDownHoldoffEnd x0 => Sys2Proof.Machine.execLinkDownHoldoffEnd x0 s
  | .receiverSignalLoss x0 => Sys2Proof.Machine.execReceiverSignalLoss x0 s
  | .svcAck x0 x1 x2 => Sys2Proof.Machine.execSvcAck x0 x1 x2 s
  | .svcNak x0 x1 x2 x3 => Sys2Proof.Machine.execSvcNak x0 x1 x2 x3 s
  | .rdata x0 x1 x2 x3 => Sys2Proof.Machine.execRdata x0 x1 x2 x3 s
  | .capture x0 x1 => Sys2Proof.Machine.execCapture x0 x1 s
  | .svcResendTimeout x0 x1 x2 => Sys2Proof.Machine.execSvcResendTimeout x0 x1 x2 s
  | .frameEndAdjust x0 x1 => Sys2Proof.Machine.execFrameEndAdjust x0 x1 s
  | .thermalBlockRead x0 x1 x2 => Sys2Proof.Machine.execThermalBlockRead x0 x1 x2 s
  | .tmuEvaluation => Sys2Proof.Machine.execTmuEvaluation s
  | .ledgerGap x0 => Sys2Proof.Machine.execLedgerGap x0 s
  | .recorderRow => Sys2Proof.Machine.execRecorderRow s
  | .blockClose x0 => Sys2Proof.Machine.execBlockClose x0 s
  | .triggerFrozen x0 => Sys2Proof.Machine.execTriggerFrozen x0 s
  | .exportSlotWrite x0 => Sys2Proof.Machine.execExportSlotWrite x0 s
  | .hardwareFaultDetected x0 x1 x2 x3 => Sys2Proof.Machine.execHardwareFaultDetected x0 x1 x2 x3 s
  | .eventWindowEnd x0 x1 => Sys2Proof.Machine.execEventWindowEnd x0 x1 s
  | .heldRecordWrite => Sys2Proof.Machine.execHeldRecordWrite s
  | .brstResume x0 => Sys2Proof.Machine.execBrstResume x0 s
  | .chipResetTimer => Sys2Proof.Machine.execChipResetTimer s
  | .fcrRoutingSelftest x0 => Sys2Proof.Machine.execFcrRoutingSelftest x0 s
  | .scrubOverdue => Sys2Proof.Machine.execScrubOverdue s
  | .pinReadbackMismatch x0 => Sys2Proof.Machine.execPinReadbackMismatch x0 s
  | .dieTemperature x0 => Sys2Proof.Machine.execDieTemperature x0 s
  | .readmitSelftestEnd x0 x1 => Sys2Proof.Machine.execReadmitSelftestEnd x0 x1 s
  | .rebalanceShadowStart => Sys2Proof.Machine.execRebalanceShadowStart s
  | .rebalanceSwitch => Sys2Proof.Machine.execRebalanceSwitch s
  | .syncMeasure x0 x1 => Sys2Proof.Machine.execSyncMeasure x0 x1 s
  | .alignNudge => Sys2Proof.Machine.execAlignNudge s
  | .alignFail => Sys2Proof.Machine.execAlignFail s
  | .refLost => Sys2Proof.Machine.execRefLost s
  | .refReturn x0 => Sys2Proof.Machine.execRefReturn x0 s
  | .lockLoss => Sys2Proof.Machine.execLockLoss s
  | .ratioErr => Sys2Proof.Machine.execRatioErr s
  | .xtalStop => Sys2Proof.Machine.execXtalStop s
  | .wakeEvent x0 => Sys2Proof.Machine.execWakeEvent x0 s
  | .wakeDividersRestart => Sys2Proof.Machine.execWakeDividersRestart s
  | .wakeMgpResume => Sys2Proof.Machine.execWakeMgpResume s
  | .supplyOutOfWindow x0 => Sys2Proof.Machine.execSupplyOutOfWindow x0 s
  | .pfailAssert => Sys2Proof.Machine.execPfailAssert s
  | .pfailRelease => Sys2Proof.Machine.execPfailRelease s
  | .vnvLow => Sys2Proof.Machine.execVnvLow s
  | .storeExitReset => Sys2Proof.Machine.execStoreExitReset s
  | .resetRelease => Sys2Proof.Machine.execResetRelease s
  | .rstNAssert => Sys2Proof.Machine.execRstNAssert s
  | .strapLatch x0 => Sys2Proof.Machine.execStrapLatch x0 s
  | .perstAssert => Sys2Proof.Machine.execPerstAssert s
  | .perstRelease => Sys2Proof.Machine.execPerstRelease s
  | .hostLinkEvent x0 => Sys2Proof.Machine.execHostLinkEvent x0 s
  | .nvRecallEnd x0 => Sys2Proof.Machine.execNvRecallEnd x0 s
  | .nvStoreRun => Sys2Proof.Machine.execNvStoreRun s
  | .nvStoreEnd => Sys2Proof.Machine.execNvStoreEnd s
  | .counterIncrement => Sys2Proof.Machine.execCounterIncrement s
  | .firmwareStart x0 => Sys2Proof.Machine.execFirmwareStart x0 s
  | .aliveStart => Sys2Proof.Machine.execAliveStart s
  | .bootFail x0 => Sys2Proof.Machine.execBootFail x0 s
  | .pairSeekTimeout => Sys2Proof.Machine.execPairSeekTimeout s
  | .bootImageAdmit => Sys2Proof.Machine.execBootImageAdmit s
  | .admissionEnd => Sys2Proof.Machine.execAdmissionEnd s
  | .planActivation => Sys2Proof.Machine.execPlanActivation s
  | .tableSaveEnd x0 => Sys2Proof.Machine.execTableSaveEnd x0 s
  | .moduleNoAnswer x0 => Sys2Proof.Machine.execModuleNoAnswer x0 s
  | .kioSessionOpen x0 x1 => Sys2Proof.Machine.execKioSessionOpen x0 x1 s
  | .kioSessionClose => Sys2Proof.Machine.execKioSessionClose s
  | .kioSqTail x0 x1 x2 => Sys2Proof.Machine.execKioSqTail x0 x1 x2 s
  | .kioCqHead x0 x1 => Sys2Proof.Machine.execKioCqHead x0 x1 s
  | .kioEqHead x0 => Sys2Proof.Machine.execKioEqHead x0 s
  | .ctuSnap => Sys2Proof.Machine.execCtuSnap s
  | .ctuAlignEnWrite x0 => Sys2Proof.Machine.execCtuAlignEnWrite x0 s
  | .slcEnable x0 x1 => Sys2Proof.Machine.execSlcEnable x0 x1 s
  | .slcRetrain x0 => Sys2Proof.Machine.execSlcRetrain x0 s
  | .slcReset x0 => Sys2Proof.Machine.execSlcReset x0 s
  | .prlYield => Sys2Proof.Machine.execPrlYield s
  | .bootGo => Sys2Proof.Machine.execBootGo s
  | .tmuTambWrite x0 => Sys2Proof.Machine.execTmuTambWrite x0 s
  | .chBankwWrite x0 x1 x2 => Sys2Proof.Machine.execChBankwWrite x0 x1 x2 s
  | .nvWindowWrite x0 x1 => Sys2Proof.Machine.execNvWindowWrite x0 x1 s
  | .sharedWindowWrite x0 x1 => Sys2Proof.Machine.execSharedWindowWrite x0 x1 s
  | .bar2Write x0 x1 => Sys2Proof.Machine.execBar2Write x0 x1 s
  | .clgQloRead x0 => Sys2Proof.Machine.execClgQloRead x0 s
  | .twpCfgWrite x0 x1 => Sys2Proof.Machine.execTwpCfgWrite x0 x1 s
  | .twpAddrWrite x0 x1 => Sys2Proof.Machine.execTwpAddrWrite x0 x1 s
  | .trlLampWrite x0 x1 => Sys2Proof.Machine.execTrlLampWrite x0 x1 s
  | .trlCfgWrite x0 => Sys2Proof.Machine.execTrlCfgWrite x0 s
  | .registerWrite x0 x1 x2 => Sys2Proof.Machine.execRegisterWrite x0 x1 x2 s
  | .nopCmd x0 => Sys2Proof.Machine.execNopCmd x0 s
  | .time x0 => Sys2Proof.Machine.execTime x0 s
  | .ident x0 => Sys2Proof.Machine.execIdent x0 s
  | .cancel x0 => Sys2Proof.Machine.execCancel x0 s
  | .admitImage x0 x1 => Sys2Proof.Machine.execAdmit x0 x1 s
  | .chStart x0 => Sys2Proof.Machine.execChStart x0 s
  | .chStop x0 => Sys2Proof.Machine.execChStop x0 s
  | .chRestart x0 => Sys2Proof.Machine.execChRestart x0 s
  | .plausReset x0 => Sys2Proof.Machine.execPlausReset x0 s
  | .bankSwap x0 => Sys2Proof.Machine.execBankSwap x0 s
  | .paramWrite x0 => Sys2Proof.Machine.execParamWrite x0 s
  | .sharedWrite x0 => Sys2Proof.Machine.execSharedWrite x0 s
  | .tableSave x0 => Sys2Proof.Machine.execTableSave x0 s
  | .seqRequest x0 => Sys2Proof.Machine.execSeqRequest x0 s
  | .modRead x0 => Sys2Proof.Machine.execModRead x0 s
  | .modWrite x0 x1 => Sys2Proof.Machine.execModWrite x0 x1 s
  | .modThresh x0 => Sys2Proof.Machine.execModThresh x0 s
  | .modTable x0 x1 => Sys2Proof.Machine.execModTable x0 x1 s
  | .trigArm x0 => Sys2Proof.Machine.execTrigArm x0 s
  | .trigFire x0 => Sys2Proof.Machine.execTrigFire x0 s
  | .trigRelease x0 => Sys2Proof.Machine.execTrigRelease x0 s
  | .exportOpen x0 => Sys2Proof.Machine.execExportOpen x0 s
  | .exportCredit x0 => Sys2Proof.Machine.execExportCredit x0 s
  | .exportClose x0 => Sys2Proof.Machine.execExportClose x0 s
  | .readmit x0 => Sys2Proof.Machine.execReadmit x0 s
  | .rebalance x0 => Sys2Proof.Machine.execRebalance x0 s
  | .eventCfg x0 => Sys2Proof.Machine.execEventCfg x0 s
  | .nvStore x0 x1 => Sys2Proof.Machine.execNvStore x0 x1 s
  | .recRead x0 => Sys2Proof.Machine.execRecRead x0 s
  | .recWrite x0 x1 => Sys2Proof.Machine.execRecWrite x0 x1 s
  | .updStage x0 x1 => Sys2Proof.Machine.execUpdStage x0 x1 s
  | .updVerify x0 => Sys2Proof.Machine.execUpdVerify x0 s
  | .updPrepare x0 => Sys2Proof.Machine.execUpdPrepare x0 s
  | .updCommit x0 => Sys2Proof.Machine.execUpdCommit x0 s
  | .updConfirm x0 => Sys2Proof.Machine.execUpdConfirm x0 s
  | .updFallback x0 => Sys2Proof.Machine.execUpdFallback x0 s
  | .feedToggle x0 => Sys2Proof.Machine.execFeedToggle x0 s
  | .ledgerReset x0 => Sys2Proof.Machine.execLedgerReset x0 s
  | .twXfer x0 x1 => Sys2Proof.Machine.execTwXfer x0 x1 s
  | .dormantEnter x0 => Sys2Proof.Machine.execDormantEnter x0 s
  | .feedFaultTimerExpiry x0 => Sys2Proof.Machine.execFeedFaultTimerExpiry x0 s
  | .feedRampTimeout x0 => Sys2Proof.Machine.execFeedRampTimeout x0 s
  | .feedCoolDownEnd x0 => Sys2Proof.Machine.execFeedCoolDownEnd x0 s
  | .feedPresenceAccepted x0 => Sys2Proof.Machine.execFeedPresenceAccepted x0 s
  | .stringReinsTimer x0 => Sys2Proof.Machine.execStringReinsTimer x0 s
  | .holdupHandTimer x0 => Sys2Proof.Machine.execHoldupHandTimer x0 s
  | .holdupQualEnd x0 => Sys2Proof.Machine.execHoldupQualEnd x0 s
  | .capSearchStep x0 => Sys2Proof.Machine.execCapSearchStep x0 s
  | .capResearchTimer x0 => Sys2Proof.Machine.execCapResearchTimer x0 s
  | .feedRestore x0 => Sys2Proof.Machine.execFeedRestore x0 s
  | .estimateTaperFull x0 => Sys2Proof.Machine.execEstimateTaperFull x0 s
  | .estimateRestHeld x0 => Sys2Proof.Machine.execEstimateRestHeld x0 s
  | .estimateBlendEnd x0 => Sys2Proof.Machine.execEstimateBlendEnd x0 s
  | .trainStart => Sys2Proof.Machine.execTrainStart s
  | .trainPassage x0 x1 => Sys2Proof.Machine.execTrainPassage x0 x1 s
  | .hopHello x0 x1 x2 x3 x4 => Sys2Proof.Machine.execHopHello x0 x1 x2 x3 x4 s
  | .hopUsable x0 => Sys2Proof.Machine.execHopUsable x0 s
  | .hopDown x0 => Sys2Proof.Machine.execHopDown x0 s
  | .enum x0 => Sys2Proof.Machine.execEnum x0 s
  | .reserve x0 x1 => Sys2Proof.Machine.execReserve x0 x1 s
  | .joinGrant x0 x1 x2 => Sys2Proof.Machine.execJoinGrant x0 x1 x2 s
  | .grantExpiry x0 => Sys2Proof.Machine.execGrantExpiry x0 s
  | .seqReq x0 x1 x2 => Sys2Proof.Machine.execSeqReq x0 x1 x2 s
  | .seqState x0 x1 x2 => Sys2Proof.Machine.execSeqState x0 x1 x2 s
  | .joinTrigger x0 x1 x2 => Sys2Proof.Machine.execJoinTrigger x0 x1 x2 s
  | .voteOpen x0 x1 => Sys2Proof.Machine.execVoteOpen x0 x1 s
  | .vote x0 x1 x2 x3 x4 => Sys2Proof.Machine.execVote x0 x1 x2 x3 x4 s
  | .voteCommit x0 x1 x2 => Sys2Proof.Machine.execVoteCommit x0 x1 x2 s
  | .voteAbort x0 x1 x2 x3 => Sys2Proof.Machine.execVoteAbort x0 x1 x2 x3 s
  | .voteFallback x0 x1 x2 x3 x4 => Sys2Proof.Machine.execVoteFallback x0 x1 x2 x3 x4 s
  | .voteConfirm x0 x1 => Sys2Proof.Machine.execVoteConfirm x0 x1 s
  | .updVerifyEnd => Sys2Proof.Machine.execUpdVerifyEnd s
  | .prepareDone x0 => Sys2Proof.Machine.execPrepareDone x0 s
  | .voteTimeout => Sys2Proof.Machine.execVoteTimeout s
  | .commitTick => Sys2Proof.Machine.execCommitTick s
  | .handoverEnd => Sys2Proof.Machine.execHandoverEnd s
  | .settingsMigration x0 => Sys2Proof.Machine.execSettingsMigration x0 s
  | .fallbackTick => Sys2Proof.Machine.execFallbackTick s
  | .trialEnd => Sys2Proof.Machine.execTrialEnd s
  | .pairHello x0 x1 => Sys2Proof.Machine.execPairHello x0 x1 s
  | .tickCell x0 => Sys2Proof.Machine.execTickCell x0 s
  | .pairLinkDown => Sys2Proof.Machine.execPairLinkDown s
  | .pairCmd x0 x1 => Sys2Proof.Machine.execPairCmd x0 x1 s
  | .regw x0 x1 => Sys2Proof.Machine.execRegw x0 x1 s
  | .mirrorApply => Sys2Proof.Machine.execMirrorApply s
  | .pairStatus x0 x1 x2 => Sys2Proof.Machine.execPairStatus x0 x1 x2 s
  | .handoff x0 x1 x2 x3 x4 => Sys2Proof.Machine.execHandoff x0 x1 x2 x3 x4 s
  | .plan x0 => Sys2Proof.Machine.execPlan x0 s
  | .pairNak x0 x1 => Sys2Proof.Machine.execPairNak x0 x1 s
  | .nvval x0 x1 => Sys2Proof.Machine.execNvval x0 x1 s
  | .image x0 => Sys2Proof.Machine.execImage x0 s
  | .copy x0 => Sys2Proof.Machine.execCopy x0 s
  | .pairLog x0 => Sys2Proof.Machine.execPairLog x0 s
  | .selfCheckEnd x0 => Sys2Proof.Machine.execSelfCheckEnd x0 s
  | .disputeTimeout => Sys2Proof.Machine.execDisputeTimeout s
  | .takeoverWindowEnd => Sys2Proof.Machine.execTakeoverWindowEnd s
  | .inSyncEntry => Sys2Proof.Machine.execInSyncEntry s
  | .resyncTimeout => Sys2Proof.Machine.execResyncTimeout s
  | .resyncRestart => Sys2Proof.Machine.execResyncRestart s
  | .attachLevelRead x0 x1 => Sys2Proof.Machine.execAttachLevelRead x0 x1 s
  | .attachConfirm x0 => Sys2Proof.Machine.execAttachConfirm x0 s
  | .detach x0 x1 => Sys2Proof.Machine.execDetach x0 x1 s
  | .beaconStart x0 => Sys2Proof.Machine.execBeaconStart x0 s
  | .beaconEnd x0 => Sys2Proof.Machine.execBeaconEnd x0 s
  | .hail x0 x1 x2 x3 => Sys2Proof.Machine.execHail x0 x1 x2 x3 s
  | .terms x0 x1 x2 => Sys2Proof.Machine.execTerms x0 x1 x2 s
  | .claim x0 x1 x2 x3 => Sys2Proof.Machine.execClaim x0 x1 x2 x3 s
  | .pilotGrant x0 x1 x2 => Sys2Proof.Machine.execPilotGrant x0 x1 x2 s
  | .decline x0 x1 x2 => Sys2Proof.Machine.execDecline x0 x1 x2 s
  | .defer x0 x1 x2 => Sys2Proof.Machine.execDefer x0 x1 x2 s
  | .live x0 x1 x2 => Sys2Proof.Machine.execLive x0 x1 x2 s
  | .turn x0 x1 x2 => Sys2Proof.Machine.execTurn x0 x1 x2 s
  | .turnOk x0 x1 => Sys2Proof.Machine.execTurnOk x0 x1 s
  | .pilotRestart x0 x1 => Sys2Proof.Machine.execPilotRestart x0 x1 s
  | .answerTimeout x0 => Sys2Proof.Machine.execAnswerTimeout x0 s
  | .liveTimeout x0 => Sys2Proof.Machine.execLiveTimeout x0 s
  | .deferExpiry x0 => Sys2Proof.Machine.execDeferExpiry x0 s
  | .turnTieWaitEnd x0 => Sys2Proof.Machine.execTurnTieWaitEnd x0 s
  | .collide x0 => Sys2Proof.Machine.execCollide x0 s
  | .txRetry x0 => Sys2Proof.Machine.execTxRetry x0 s
  | .restEnd x0 => Sys2Proof.Machine.execRestEnd x0 s
  | .tieOcTimer x0 => Sys2Proof.Machine.execTieOcTimer x0 s
  | .page x0 x1 x2 => Sys2Proof.Machine.execPage x0 x1 x2 s
  | .clearFaults x0 x1 => Sys2Proof.Machine.execClearFaults x0 x1 s
  | .capability x0 => Sys2Proof.Machine.execCapability x0 s
  | .voutMode x0 => Sys2Proof.Machine.execVoutMode x0 s
  | .statusByte x0 => Sys2Proof.Machine.execStatusByte x0 s
  | .statusWord x0 => Sys2Proof.Machine.execStatusWord x0 s
  | .statusVout x0 => Sys2Proof.Machine.execStatusVout x0 s
  | .statusIout x0 => Sys2Proof.Machine.execStatusIout x0 s
  | .statusTemperature x0 => Sys2Proof.Machine.execStatusTemperature x0 s
  | .readVin x0 => Sys2Proof.Machine.execReadVin x0 s
  | .readVout x0 => Sys2Proof.Machine.execReadVout x0 s
  | .readIout x0 => Sys2Proof.Machine.execReadIout x0 s
  | .readTemperature1 x0 => Sys2Proof.Machine.execReadTemperature1 x0 s
  | .readTemperature2 x0 => Sys2Proof.Machine.execReadTemperature2 x0 s
  | .pmbusRevision x0 => Sys2Proof.Machine.execPmbusRevision x0 s
  | .mfrId x0 => Sys2Proof.Machine.execMfrId x0 s
  | .mfrModel x0 => Sys2Proof.Machine.execMfrModel x0 s
  | .mfrRevision x0 => Sys2Proof.Machine.execMfrRevision x0 s
  | .pmbusUnsupported x0 x1 => Sys2Proof.Machine.execPmbusUnsupported x0 x1 s
  | .alertResponse x0 => Sys2Proof.Machine.execAlertResponse x0 s
  | .hostNotify x0 x1 => Sys2Proof.Machine.execHostNotify x0 x1 s
  | .arbLost x0 x1 => Sys2Proof.Machine.execArbLost x0 x1 s
  | .twBusClear x0 x1 => Sys2Proof.Machine.execTwBusClear x0 x1 s
  | .twControllerTimeout x0 => Sys2Proof.Machine.execTwControllerTimeout x0 s
  | .twTargetTimeout x0 x1 => Sys2Proof.Machine.execTwTargetTimeout x0 x1 s
  | .twBusIdle x0 => Sys2Proof.Machine.execTwBusIdle x0 s
  | .trlScan x0 x1 x2 => Sys2Proof.Machine.execTrlScan x0 x1 x2 s
  | .senseChange x0 => Sys2Proof.Machine.execSenseChange x0 s
  | .columnStuck x0 => Sys2Proof.Machine.execColumnStuck x0 s
  | .rowShort x0 => Sys2Proof.Machine.execRowShort x0 s
  | .roleTurnTimeout x0 => Sys2Proof.Machine.execRoleTurnTimeout x0 s
  | .twTransferEnd x0 x1 => Sys2Proof.Machine.execTwTransferEnd x0 x1 s
  | .attachLevelLost x0 x1 => Sys2Proof.Machine.execAttachLevelLost x0 x1 s
  | .preloadEnd => Sys2Proof.Machine.execPreloadEnd s
  | .controlLogicSelftest x0 x1 => Sys2Proof.Machine.execControlLogicSelftest x0 x1 s

end Sys2Proof.Machine
end

