-- ==== Sys2Proof/Machine/Tick.lean ====
section
/-!
DEFINITION. What the device does of its own in one tick, when no command waits (log entry 9): time, and the effects that fall due at
a tick start without a command of their own, or at a tick that State already holds.
-/
namespace Sys2Proof.Machine

/-- TC and TS move one tick on (R22, R23). -/
def timeOn (s : State) : State := { s with clk := { s.clk with tc := s.clk.tc + 1, ts := s.clk.ts + 50 } }

/-- Kiosk credits return (R219): P0 one a tick up to 64, P1 one in 20 ticks up to 16. -/
def creditTick (s : State) : State :=
  { s with kio := { s.kio with
    cred0 := min 64 (s.kio.cred0 + 1)
    cred1 := if s.now % 20 = 0 then min 16 (s.kio.cred1 + 1) else s.kio.cred1 } }

/-- Period generators step (R62). -/
def pgTick (s : State) : State := { s with pg := s.pg.map fun g => { g with prev := g.acc, acc := g.acc + g.inc } }

/-- Edges whose pulses have lasted long enough are accepted (R108). -/
def shaftTick (s : State) : State := shaftSettle s.clk.ts s

/-- Ledgers at a tick start (R277, R279). -/
def ledgers (s : State) : State :=
  { s with clg := s.clg.map fun x => ledgTick (x.chan.any fun n => (s.lk (linkOf n.val)).inUse) x }

/-- A crystal cycle in DORMANT (R30): TS moves by 4, and ALIVE toggles on with every 10 us of it (R387). -/
def dormantCycle (s : State) : State :=
  let ts := s.clk.ts + 4
  let turn := s.fcr.aliveRun && ts.toNat / 1000 != s.clk.ts.toNat / 1000
  { s with clk := { s.clk with ts := ts }, fcr := { s.fcr with alive := s.fcr.alive != turn } }

/-- ALIVE toggles every 10 us (R387). -/
def aliveTick (s : State) : State :=
  if s.fcr.aliveRun && s.now % 20 = 0 then { s with fcr := { s.fcr with alive := !s.fcr.alive } } else s

/-- Configurations written by EVENT_CFG stand from the tick after (R380). -/
def cfgTick (s : State) : State :=
  { s with fcr := { s.fcr with
    cfgNext := []
    cfg := s.fcr.cfgNext.foldl (fun l x =>
      (List.range (x.2.1 + 1 - x.1)).foldl (fun l k => assocPut l (x.1 + k) ((x.2.2 &&& 0xFFF80000) ||| fld (srcKind (x.1 + k)) 16 ||| fld (x.1 + k) 0)) l)
      s.fcr.cfg } }

/-- At an epoch boundary the engines' busy counts move on (R477). -/
def engTick (s : State) : State :=
  if s.tcMod 2000 = 0 then { s with eng := s.eng.map fun x => { x with busyLast := x.busyNow, busyNow := 0 } } else s

/-- A nudge moves ROOT in 32 steps over its epoch (R25). -/
def nudgeTick (s : State) : State :=
  let ph := s.tcMod 2000
  if 32 * (ph + 1) / 2000 != 32 * ph / 2000 then { s with clk := { s.clk with rootPhase := s.clk.rootPhase + s.clk.nudgeDir } } else s

/-- Rows 1 to 3 of a channel at a tick start (R98, R99): fenced, readmitted, SAFE asked for, the hold limit run out; none where none
applies. -/
def chanUpper (n : Nat) (s : State) : Option State :=
  let c := s.ch n
  if c.fenceReq && c.st != .fenced then some (enterFenced n s)
  else if c.readmitReq then some (readmitChan n (s.modCh n fun c => { c with readmitReq := false }))
  else if c.safeReq && c.live then some (enterSafe n s)
  else if c.st == .hold && s.now ≥ c.holdTick + holdLimit8 s n then some (enterSafeLimit n s)
  else none

/-- A channel's transitions at a tick start (R98, R99): rows 1 to 3, then rows 4, 7 and 9, which wait for the frame of this tick where
the frame can still take a higher row. A stop that loses stands for the next tick. -/
def chanTick (n : Nat) (s : State) : State :=
  let drop := fun (s : State) => s.modCh n fun c => { c with safeReq := false, fenceReq := false }
  match chanUpper n s with
  | some s1 => chanCmdsEnd n (drop s1)
  | none =>
    let s1 := drop s
    let c := s1.ch n
    if !(c.stopReq || c.startReq || armed9 n s1) then s1
    else if !c.due && c.st != .safe && frameDue s1 (linkOf n) then s1.modCh n fun c => { c with due := true }
    else chanRows n s1

/-- The channels that anything is due for. -/
def chans (s : State) : State :=
  (List.range 192).foldl (fun s n =>
    let c := s.ch n
    if c.fenceReq || c.readmitReq || c.safeReq || c.stopReq || c.startReq || c.st == .hold || c.st == .arming then chanTick n s else s) s

/-- Fast retrains resume (R192). -/
def links (s : State) : State :=
  (List.range 64).foldl (fun s l => if (s.lk l).st = .train then linkResume l s else s) s

/-- Two-wire configurations wait for an idle bus (R327). -/
def twpTick (s : State) : State :=
  { s with twp := s.twp.map fun t => if (t.cfgNext.isSome || t.addrNext.isSome) && t.st = 0 then twAlert (twApply t) else t }

/-- Mirrored items whose apply tick has come (R358, R359), in order. -/
def mirrorDue : Nat → State → State
  | 0, s => s
  | n + 1, s =>
    match s.prl.queue.find? (!·.applied) with
    | some x => if x.apply ≤ s.now then mirrorDue n (mirrorOne x s) else s
    | none => s

/-- A hop that no valid SYNC has crossed for 2 cycles goes DOWN (R340). -/
def syncLost (p : JPort) (s : State) : State :=
  if (s.jnb.port p).hop = .up && (s.jnb.port p).syncTick.any (fun z => z + 400 < s.now) then hopDown p s else s

/-- The join bus at a tick start: a completed cycle stands, hops without a SYNC go DOWN, and at a cycle's start the slot image is
latched (R340, R344, R345). -/
def joinTick (s : State) : State :=
  let s1 := syncLost .jb (syncLost .ja (joinSettle s))
  if s1.tcMod 200 = 0 then slotLatch { s1 with jnb := { s1.jnb with passed := false } } else s1

/-- Plans whose tick has come (R116, R131, R386). -/
def planTick (s : State) : State :=
  let s1 := if planDue s then planActivate s else s
  let s2 := match s1.adm.move with
    | (t, _) :: _ => if t ≤ s1.now then fallbackNow s1 else s1
    | [] => s1
  match s2.adm.shadow with
  | some (e1, _, _) =>
    if e1 != 0 && e1 + 2000 ≤ s2.now then rebalanceSwitch s2 else if e1 = s2.now then shadowStart s2 else s2
  | none => s2

/-- Slices run of a running admission (Table 6.14, R130): the manual bounds a slice at 40 ticks from above only, so how many of them end
in 40 ticks is a free value (log entry 7). -/
def sliceTick (s : State) : State :=
  match s.adm.run with
  | some r =>
    if r.start < s.now && (s.now - r.start) % 40 = 0 then
      let (n, s1) := s.draw 1 40
      { s1 with adm := { s1.adm with slices := (s1.adm.slices + n) % 65536 } }
    else s
  | none => s

/-- An update's ticks C and F, its handover and the end of its trial (R426, R428, R429). -/
def updTick (s : State) : State :=
  let s1 := match s.kio.handover with
    | some h => if h ≤ s.now then handoverEnd s else s
    | none => s
  let s1 := if s1.upe.bankTick.any (· ≤ s1.now) then bankExchange s1 else s1
  let s2 := if s1.upe.phase = .armed && tickOf48 s1.now s1.upe.commitTick ≤ s1.now then commitTick s1 else s1
  let s3 := match s2.upe.fallTick with
    | some f => if s2.upe.phase = .trial && tickOf48 s2.now f ≤ s2.now then fallback s2 else s2
    | none => s2
  if s3.upe.phase = .trial && s3.upe.auto && s3.upe.coord && trialOver s3 then trialEnd s3 else s3

/-- The pair's limits (R365, R366, R367, R371). -/
def pairTick (s : State) : State :=
  let s1 := match s.prl.takeover with
    | some z => if z + 8 ≤ s.now then takeoverEnd s else s
    | none => s
  let s2 := disputeLate s1
  let s3 := yieldDue s2
  let s4 := if s3.tcMod 2000 = 0 then enterInSync s3 else s3
  resyncAgain (resyncLate s4)

/-- Event windows that have ended (R228). -/
def windows (s : State) : State :=
  (s.fcr.win.filter fun x => x.2.2.ends ≤ s.now).foldl (fun s x => windowEnd x.1 x.2.1 s) s

/-- Two pages of a running store fit a tick (R400). -/
def storeTick (s : State) : State := if s.nvs.storing && storeOk s then storeNext (storeNext s) else s

/-- One tick of 0.5 us in BOOT or RUN, or in DORMANT once the dividers run again. -/
def tickOn (s : State) : State :=
  let s1 := trigTick (timeOn (cellStep (tmuReads (tmuEvaluate (prepareAll s)))))
  let s2 := aliveTick (shaftTick (engTick (nudgeTick (cfgTick (ledgers (pgTick (creditTick s1)))))))
  let s3 := if s2.tcMod 2000 = 0 then scanStart (alignEpoch s2) else s2
  let s4 := links (twpTick (joinTick s3))
  let s5 := chans (pairTick (mirrorDue s4.prl.queue.length s4))
  let s6 := updTick (planTick (sliceTick s5))
  let s7 := bootTick (storeTick (brstTick (windows s6)))
  match s7.fcr.crst with
  | some t => if t ≤ s7.now then chipReset s7 else s7
  | none => s7

/-- What the device does when no command waits (log entry 9): in RESET nothing; in DORMANT a crystal cycle (R30), or a tick once
the dividers run; in STORE time and the store; else a tick. -/
def tick (s : State) : State :=
  match s.clk.chip with
  | .reset => s
  | .dormant => if s.clk.tickRun then settle (tickOn s) else dormantCycle s
  | .store => settle (storeTick (timeOn s))
  | _ => settle (tickOn s)

end Sys2Proof.Machine
end

