-- ==== Sys2Proof/Machine/View.lean ====
section
/-!
DEFINITION. What a host read of BAR0 or BAR2 returns, register by register (R119, R209, R233, R397, R470 to R478 and the register
tables), and the two reads that change State: the latch of CLG_QHIk (R294) and EARLY (R397). The opcode table has no row for a
read; these are the views of State that the register tables give.
-/
namespace Sys2Proof.Machine

/-- Bit `i` of a word made of the 32 Booleans `f`. -/
def maskW (f : Nat → Bool) : W := (List.range 32).foldl (fun w i => w ||| flag (f i) i) 0

/-- Codes of the enumerated fields. -/
def chipCode : ChipSt → Nat
  | .reset => 0
  | .boot => 1
  | .run => 2
  | .dormant => 3
  | .store => 4

/-- REFSEL (Table 2.5). -/
def refCode : RefSel → Nat
  | .xtal => 0
  | .ja => 1
  | .jb => 2
  | .pair => 3

/-- STATE of BBR_TRIGi (Table 10.9). -/
def trigCode : TrigSt → Nat
  | .idle => 0
  | .armed => 1
  | .fired => 2
  | .frozen => 3

/-- HOP (Table 16.10). -/
def hopCode : HopSt → Nat
  | .down => 0
  | .train => 1
  | .hello => 2
  | .up => 3

/-- ROLE (Table 17.12). -/
def roleCode : PairRole → Nat
  | .solo => 0
  | .lead => 1
  | .standby => 2

/-- PSTATE (Table 17.12). -/
def pstateCode : PState → Nat
  | .none => 0
  | .seek => 1
  | .mismatch => 2
  | .clash => 3
  | .alone => 4
  | .resync => 5
  | .inSync => 6
  | .dispute => 7
  | .isolated => 8
  | .fenced => 9
  | .degraded => 10

/-- LINK (Table 17.12). -/
def plinkCode : PLinkSt → Nat
  | .down => 0
  | .train => 1
  | .hello => 2
  | .up => 3

/-- CHECK (Table 17.5). -/
def checkCodeOf : CheckRes → Nat
  | .none => 0
  | .running => 1
  | .pass => 2
  | .fail => 3

/-! Identity (Tables 21.5, 24.3). -/

/-- The firmware that runs: from C or F until the new one resumes, that of the half that has been left (R426, R476). -/
def runningFw (s : State) : W :=
  if s.kio.handover.isSome then vat s.boot.halves (!s.boot.half).toNat 0 else s.upe.fwAct

/-- The identity block. -/
def idReg (s : State) : Nat → W
  | 0x00 => 0x71921E8B
  | 0x04 => 0x000001B1
  | 0x08 => if s.kio.fwReady then runningFw s else 0
  | 0x0C => 0x01000004
  | 0x10 => s.upe.serial.setWidth 32
  | 0x14 => (s.upe.serial >>> 32).setWidth 32
  | 0x18 => 0x304440C0
  | 0x1C => 0x78000400
  | 0x20 => 0x31212121
  | 0x24 => if s.kio.fwReady then 0x01020101 else 0
  | 0x40 => fld s.boot.stage.toNat 28 ||| fld (strapSource s.boot.straps) 26 ||| flag s.boot.fromHost 25 ||| fld s.boot.code.toNat 16
  | 0x50 => s.boot.scratch
  | _ => 0

/-- The endpoint's identity in PCI configuration space (Table 9.1): vendor and device, revision and class, subsystem; the board identity
is on TR15..TR8. -/
def pciIdReg (s : State) : Nat → W
  | 0x00 => 0x71921E8B
  | 0x08 => 0x118000B1
  | 0x2C => 0x71001E8B ||| fld (s.boot.straps.extractLsb' 8 8).toNat 16
  | _ => 0

/-- The 64-bit number of the device serial number capability, from OTP (Table 9.1). -/
def pciSerial (s : State) : BitVec 64 := s.upe.serial

/-! CTU (Tables 2.4 to 2.9). -/

/-- The CTU block. -/
def ctuReg (s : State) : Nat → W
  | 0x00 => fld (refCode s.clk.refsel) 10 ||| flag s.clk.holdover 9 ||| flag s.clk.notAligned 8 |||
      flag (s.clk.aligned || (s.clk.refsel == .xtal && !s.clk.holdover && s.clk.tickRun)) 7 |||
      flag s.clk.tickRun 1 ||| flag s.clk.rootLock 0
  | 0x04 => flag s.clk.alignEn 1
  | 0x08 => s.clk.snapTc.setWidth 32
  | 0x0C => (s.clk.snapTc >>> 32).setWidth 32
  | 0x10 => s.clk.snapTs.setWidth 32
  | 0x14 => (s.clk.snapTs >>> 32).setWidth 32
  | 0x18 => flag s.clk.alignValid 31 ||| (BitVec.ofInt 20 s.clk.alignOffset).setWidth 32
  | 0x1C => s.clk.nudges
  | 0x20 => s.clk.mon
  | 0x24 => s.clk.wake.setWidth 32
  | _ => 0

/-! KIO (Tables 9.8 to 9.11). -/

/-- A submission ring's registers. -/
def sqReg (r : SubRing) : Nat → W
  | 0x00 => r.base.setWidth 32
  | 0x04 => (r.base >>> 32).setWidth 32
  | 0x08 => r.size.setWidth 32
  | 0x0C => nw r.tail
  | 0x10 => nw r.head
  | _ => 0

/-- A completion ring's registers; ARM of the head reads 0. -/
def cqReg (r : CplRing) : Nat → W
  | 0x00 => r.base.setWidth 32
  | 0x04 => (r.base >>> 32).setWidth 32
  | 0x08 => r.size.setWidth 32
  | 0x0C => nw r.head
  | 0x10 => nw r.tail
  | _ => 0

/-- KIO_STATUS (Table 9.9). -/
def kioStatus (s : State) : W :=
  fld (chipCode s.clk.chip) 28 ||| flag s.kio.fwReady 27 ||| flag s.kio.isOpen 26 ||| flag (s.prl.role == .standby) 25 |||
  flag s.kio.handover.isSome 24 ||| flag s.nvs.recalling 23 ||| flag (s.fcr.held.any (·.held)) 22 |||
  fld s.kio.major.toNat 8 ||| fld s.kio.minor.toNat 0

/-- The KIO block. -/
def kioReg (s : State) (a : Nat) : W :=
  if 0x100 ≤ a && a < 0x180 then sqReg (vat s.kio.sq ((a - 0x100) / 0x20) SubRing.init) (a % 0x20)
  else if 0x200 ≤ a && a < 0x280 then cqReg (vat s.kio.cq ((a - 0x200) / 0x20) CplRing.init) (a % 0x20)
  else match a with
  | 0x00 => kioStatus s
  | 0x04 => fld s.kio.result.toNat 26 ||| fld s.kio.reason.toNat 24 ||| fld s.kio.reqMajor.toNat 8 ||| fld s.kio.reqMinor.toNat 0
  | 0x08 => 0x02030100
  | 0x0C => s.kio.err.setWidth 32
  | 0x10 => vat s.kio.refused 0 0
  | 0x14 => vat s.kio.refused 1 0
  | 0x18 => vat s.kio.refused 2 0
  | 0x1C => vat s.kio.refused 3 0
  | 0x20 => nw (min (dripCount s) 31)
  | 0x300 => s.kio.eq.base.setWidth 32
  | 0x304 => (s.kio.eq.base >>> 32).setWidth 32
  | 0x308 => nw s.kio.eq.head
  | 0x30C => nw s.kio.eq.tail
  | 0x310 => nw (s.fcr.held.filter (·.held)).length
  | _ => 0

/-! FCR (Tables 18.8 to 18.11). -/

/-- NFENCED of FCR_STATUS: fenced units of all five kinds, spares left out. -/
def nFenced (s : State) : Nat :=
  (s.le.toList.filter (·.fenced)).length + (s.se.toList.filter (·.fenced)).length + (s.ue.toList.filter (·.fenced)).length +
  (s.link.toList.filter (·.fenced)).length + ((List.range 8).filter fun b => s.bbr.fenced.getLsbD b).length

/-- NSPARE of FCR_STATUS. -/
def nSpare (s : State) : Nat :=
  ((List.range 48).filter fun k => s.fcr.spareLe.getLsbD k).length + ((List.range 8).filter fun k => s.fcr.spareMisc.getLsbD k).length

/-- The microseconds since the last routing self-test passed, saturating; without one, since TS began. -/
def selftestUs (s : State) : Nat := min ((s.now - s.fcr.selftestTick.getD 0) / 2) 0xFFFF

/-- The FCR block. -/
def fcrReg (s : State) (a : Nat) : W :=
  if 0x1000 ≤ a && a < 0x2000 then cfgOf s ((a - 0x1000) / 4)
  else if 0x2000 ≤ a && a < 0x3000 then (assocGet s.fcr.cnt ((a - 0x2000) / 4)).getD 0
  else match a with
  | 0x00 => flag s.fcr.fatal 31 ||| flag s.fcr.aliveRun 30 ||| flag s.fcr.errnOut 29 ||| flag s.fcr.beyond 28 |||
      fld (nFenced s) 8 ||| fld (nSpare s) 0
  | 0x04 => s.fcr.errn.setWidth 32
  | 0x08 => s.fcr.lastFe
  | 0x10 => maskW fun k => (s.engine k).fenced
  | 0x14 => maskW fun k => k < 16 && (s.engine (32 + k)).fenced
  | 0x18 => maskW fun n => (s.lk n).fenced
  | 0x1C => maskW fun n => (s.lk (32 + n)).fenced
  | 0x20 => fld s.bbr.fenced.toNat 8 ||| maskW fun k => k < 8 && (s.engine (if k < 4 then 0x40 + k else 0x48 + (k - 4))).fenced
  | 0x24 => s.fcr.spareLe.setWidth 32
  | 0x28 => (s.fcr.spareLe >>> 32).setWidth 32
  | 0x2C => s.fcr.spareMisc.setWidth 32
  | 0x30 => fld s.fcr.selftests.toNat 16 ||| nw (selftestUs s)
  | _ => 0

/-! ADM (Tables 6.13 to 6.15). -/

/-- The ADM block. -/
def admReg (s : State) : Nat → W
  | 0x00 => fld s.adm.lastResult.toNat 24 ||| fld s.adm.lastStep.toNat 16 ||| flag (s.adm.img.any (·.suReserve)) 4 |||
      fld (s.adm.img.elim 0 (·.fenceK)) 2 ||| fld s.adm.st.toNat 0
  | 0x04 => s.adm.img.elim 0 (·.id)
  | 0x08 => s.adm.img.elim 0 (·.build)
  | 0x0C => fld s.adm.second.toNat 8 ||| fld s.adm.first.toNat 0
  | 0x10 => s.adm.actEpoch
  | 0x14 => s.adm.load
  | 0x18 => (s.adm.run.elim 0 fun r => fld ((s.now - r.start) / 2000) 16) ||| fld s.adm.slices 0
  | _ => 0

/-! Engine status (Tables 24.5 and 24.6). -/

/-- Engine `e` is a spare (R385). -/
def isSpare (s : State) (e : Nat) : Bool :=
  if e < 48 then s.fcr.spareLe.getLsbD e else if e < 0x48 then s.fcr.spareMisc.getLsbD (e - 0x40)
  else s.fcr.spareMisc.getLsbD (4 + (e - 0x48))

/-- STATE of ENG_xxSTATk: 0 in use, 1 empty, 2 fenced, 3 spare. -/
def engState (s : State) (e : Nat) : Nat :=
  if (s.engine e).fenced then 2 else if isSpare s e then 3 else if s.adm.place.any (·.eng == e) then 0 else 1

/-- Cycles per epoch of an engine under the plan in force, counted as admission counts them. -/
def engLoad (s : State) (e : Nat) : Nat :=
  sumNat ((s.adm.place.filter (·.eng == e)).filterMap fun q => (taskNo s q.task).map taskEpoch)

/-- The four registers of engine `e`. -/
def engReg (s : State) (e off : Nat) : W :=
  let x := vat s.eng (engIdx e) EngStat.init
  let pl := s.adm.place.filter (·.eng == e)
  match off with
  | 0x0 => fld (engState s e) 30 ||| fld pl.length 24 ||| flag (e < 48 && pl.any (·.relay)) 16 ||| fld x.stpass.toNat 0
  | 0x4 => nw (engLoad s e)
  | 0x8 => nw x.busyLast
  | 0xC => nw x.peak
  | _ => 0

/-- The engine status block. -/
def engBlock (s : State) (a : Nat) : W :=
  if a < 0x300 then engReg s (a / 0x10) (a % 0x10)
  else if 0x400 ≤ a && a < 0x440 then engReg s (0x40 + (a - 0x400) / 0x10) (a % 0x10)
  else if 0x480 ≤ a && a < 0x4C0 then engReg s (0x48 + (a - 0x480) / 0x10) (a % 0x10)
  else 0

/-! SLC (Tables 8.16 to 8.19). -/

/-- SLC_SVC: the capacities of the link's version and the words that the image in force has the link use (R142, R197). -/
def slcSvc (s : State) (l : Nat) : W :=
  let (o, i, r) := svcCapacity (s.lk l).version
  let cap := s.adm.img.elim 0 fun g => capOnLink g.recorder l
  let used := fun (n : LinkDecl → Nat) => (linkDecl s l).elim 0 fun d => n d + r
  fld o 24 ||| fld i 16 ||| fld (used (·.svcOut)) 8 ||| fld ((used (·.svcIn)) + cap) 0

/-- One link's block. -/
def slcReg (s : State) (l off : Nat) : W :=
  let x := s.lk l
  if 0x40 ≤ off && off < 0x70 then lat x.hello (6 + (off - 0x40) / 4) 0
  else match off with
  | 0x00 => fld x.owner.toNat 30 ||| fld (min x.miss 255) 16 ||| fld x.version 8 ||| flag x.fast 3 ||| fld (linkCode x.st) 0
  | 0x04 => flag x.enable 0
  | 0x08 => lat x.hello 1 0
  | 0x0C => lat x.hello 3 0
  | 0x10 => fld x.rtt 24 ||| fld (x.ta % 256) 16 ||| fld (x.xEnd % 65536) 0
  | 0x14 => lat x.hello 4 0
  | 0x18 => lat x.hello 5 0
  | 0x1C => slcSvc s l
  | 0x20 => x.crcErr
  | 0x24 => x.missed
  | 0x28 => fld x.fullTrains.toNat 16 ||| fld x.fastTrains.toNat 0
  | 0x2C => x.evt.setWidth 32
  | _ => 0

/-! JNB (Tables 16.8 to 16.11). -/

/-- JNB_PORTA or JNB_PORTB. -/
def jportReg (p : JPortSt) : W :=
  fld p.role.toNat 30 ||| fld p.version 28 ||| fld (hopCode p.hop) 26 ||| fld (p.delay % 65536) 0

/-- This device turns the train around: it is enumerated and one of its hops alone is used (R341). -/
def joinTurns (s : State) : Bool := !isMaster s && s.jnb.st == 3 && (s.jnb.ja.usable != s.jnb.jb.usable)

/-- The JNB block. -/
def jnbReg (s : State) : Nat → W
  | 0x00 => fld s.jnb.st.toNat 28 ||| flag (isMaster s) 27 ||| flag s.jnb.ring 26 ||| flag (joinTurns s) 25 ||| flag s.jnb.late 24
  | 0x04 => flag s.jnb.addr.isSome 31 ||| fld s.jnb.pairAddr.toNat 16 ||| fld (s.jnb.addr.elim 0 (·.toNat)) 0
  | 0x08 => fld s.jnb.g 24 ||| fld s.jnb.ndev 10 ||| fld s.jnb.c 0
  | 0x0C => fld s.jnb.first 16 ||| fld s.jnb.count 0
  | 0x10 => jportReg s.jnb.ja
  | 0x14 => jportReg s.jnb.jb
  | 0x18 => s.jnb.delay
  | 0x1C => s.jnb.crcErr
  | 0x20 => s.jnb.evt.setWidth 32
  | _ => 0

/-! PRL (Tables 17.11 to 17.14). -/

/-- The PRL block. -/
def prlReg (s : State) : Nat → W
  | 0x00 => fld (roleCode s.prl.role) 30 ||| flag s.prl.side 29 ||| flag s.prl.strapped 28 ||| fld (pstateCode s.prl.pst) 24 |||
      fld (plinkCode s.prl.link) 22 ||| fld s.prl.version 20 ||| fld (checkCodeOf s.prl.check) 18 ||| fld s.prl.lanes.toNat 14 |||
      flag s.prl.prun 1 ||| flag s.prl.present 0
  | 0x08 => s.prl.pser.setWidth 32
  | 0x0C => (s.prl.pser >>> 32).setWidth 32
  | 0x10 => s.prl.pfw
  | 0x14 => s.prl.mismatch
  | 0x18 => s.prl.splits
  | 0x1C => fld s.prl.takeovers.toNat 16 ||| fld s.prl.yields.toNat 0
  | 0x20 => s.prl.syncTime
  | 0x24 => s.prl.evt.setWidth 32
  | _ => 0

/-! BBR and EXP (Tables 10.7 to 10.10). -/

/-- Blocks of a tier that a trigger's window or an orphan window holds. -/
def frozenBlocks (x : TierSt) : Nat := (x.blks.filter fun b => b.holders != 0 || b.orph != 0).length

/-- One stream's registers. -/
def strmReg (x : Strm) : Nat → W
  | 0x0 => flag x.isOpen 31 ||| flag x.overrun 30 ||| fld x.tiers.toNat 24 ||| fld x.size 0
  | 0x4 => x.sent.setWidth 32
  | 0x8 => x.drops
  | 0xC => nw x.credit
  | _ => 0

/-- BBR_TRIGi: ORPHAN while a window of an earlier image is there, whose DAMAGED and PRE_SHORT show beside the trigger's own. -/
def trigReg (b : Bbr) (i : Nat) : W :=
  let x := vat b.trig i Trig.init
  let o := b.olds.filter (·.id == i)
  fld x.missed.toNat 24 ||| flag (x.damaged || o.any (·.damaged)) 7 ||| flag (x.preShort || o.any (·.preShort)) 6 |||
    flag (!o.isEmpty) 5 ||| flag x.decl 4 ||| fld (trigCode x.st) 0

/-- The BBR and EXP block. -/
def bbrReg (s : State) (a : Nat) : W :=
  let b := s.bbr
  if 0x100 ≤ a && a < 0x180 then trigReg b ((a - 0x100) / 4)
  else if 0x180 ≤ a && a < 0x200 then tc32 (vat b.trig ((a - 0x180) / 4) Trig.init).f
  else if 0x200 ≤ a && a < 0x240 then strmReg (vat b.strm ((a - 0x200) / 0x10) Strm.init) (a % 0x10)
  else match a with
  | 0x00 => fld b.fenced.toNat 8 ||| flag b.run 7 ||| fld (b.trig.toList.filter (·.st == .armed)).length 0
  | 0x04 => b.esp.lastSeq
  | 0x08 => b.lun.lastSeq
  | 0x0C => b.car.lastSeq
  | 0x10 => fld b.car.opn 16 ||| fld b.lun.opn 8 ||| fld b.esp.opn 0
  | 0x14 => fld (frozenBlocks b.car) 16 ||| fld (frozenBlocks b.lun) 8 ||| fld (frozenBlocks b.esp) 0
  | 0x18 => b.nlost
  | 0x1C => b.mapCrc
  | _ => 0

/-! TPC (Tables 14.9 to 14.11). -/

/-- One tie port's block. -/
def tpcReg (s : State) (p off : Nat) : W :=
  let x := s.tp p
  match off with
  | 0x00 => fld (tpCode x.st) 28 ||| fld x.role.toNat 26 ||| fld x.gen.toNat 24 ||| fld ((tieChan s p).getD 0) 8 |||
      flag x.feedPres 2 ||| flag x.attachLvl 1 ||| flag x.prot 0
  | 0x04 => if x.lease then x.grant.setWidth 32 else 0
  | 0x08 => x.level.setWidth 32
  | 0x0C => x.evt.setWidth 32
  | 0x10 => fld x.msgs.toNat 16 ||| fld x.discarded.toNat 0
  | 0x14 => x.restarts
  | 0x18 => x.window
  | _ => 0

/-! TWP (Tables 15.4 to 15.7). -/

/-- One two-wire port's block. -/
def twpReg (x : Twp) : Nat → W
  | 0x00 => x.cfg
  | 0x04 => x.addr
  | 0x08 => fld x.st.toNat 28 ||| flag x.sclIn 27 ||| flag x.sdaIn 26 ||| flag x.alertOut 25 ||| flag x.alertIn 24 |||
      fld x.page.toNat 0
  | 0x0C => x.evt.setWidth 32
  | 0x10 => fld x.acks.toNat 16 ||| fld x.losses.toNat 0
  | _ => 0

/-! NVS (Tables 19.5 to 19.7). -/

/-- Free 16-byte units of the record area. -/
def freeUnits (s : State) : Nat := recUnits - sumNat ((recDir s).flatMap fun d => d.spans.map (·.2))

/-- The NVS block. -/
def nvsReg (s : State) : Nat → W
  | 0x00 => flag s.nvs.pfailIn 4 ||| flag s.nvs.storing 3 ||| flag s.nvs.recalling 2 ||| flag s.nvs.ready 1 |||
      flag (s.nvs.dirty != []) 0
  | 0x04 => nw s.nvs.dirty.length
  | 0x08 => s.nvs.stores
  | 0x0C => s.nvs.lastStore
  | 0x10 => if s.nvs.ready then fld (recDir s).length 16 ||| fld (freeUnits s) 0 else 0
  | 0x14 => s.nvs.recallReg
  | 0x18 => s.nvs.evt.setWidth 32
  | _ => 0

/-! UPE (Tables 20.9 to 20.12). -/

/-- Whole seconds of TRIAL_S that remain. -/
def trialLeft (s : State) : Nat :=
  if s.upe.phase = .trial then s.upe.trialS - (s.now - s.upe.trialStart) / 2000000 else 0

/-- UPE_VOTES; on the coordinator only. -/
def votesReg (u : Upe) : W :=
  if u.coord then fld u.yes.length 21 ||| fld (min u.no.length 1023) 11 ||| fld u.expected.length 0 else 0

/-- The UPE block. -/
def upeReg (s : State) : Nat → W
  | 0x00 => fld (phaseCode s.upe.phase) 28 ||| flag s.upe.coord 27 ||| flag s.upe.auto 26 ||| fld s.upe.key.toNat 24 |||
      fld s.upe.lastCode.toNat 16 ||| fld s.upe.lastPart.toNat 8 ||| flag s.upe.fwSlot 1 ||| flag s.upe.imgSlot 0
  | 0x04 => s.upe.mid
  | 0x08 => s.upe.mseqNew
  | 0x0C => s.upe.mseqConf
  | 0x10 => s.upe.commitTick.setWidth 32
  | 0x14 => (s.upe.commitTick >>> 32).setWidth 32
  | 0x18 => nw (trialLeft s)
  | 0x1C => votesReg s.upe
  | 0x20 => s.upe.keys.setWidth 32
  | 0x24 => if s.kio.fwReady then runningFw s else 0
  | 0x28 => s.upe.fwAlt
  | 0x2C => s.upe.evt.setWidth 32
  | _ => 0

/-! TRL (Tables 22.9 to 22.13). -/

/-- TRL_LAMPi: eight points of 4 bits; point 0 reads 1 while ERR_N is asserted. -/
def lampReg (s : State) (i : Nat) : W :=
  (List.range 8).foldl (fun w j =>
    w ||| fld (if 8 * i + j = 0 then s.fcr.errnOut.toNat else (vat s.trl.lamp (8 * i + j) 0).toNat) (4 * j)) 0

/-- The TRL block. -/
def trlReg (s : State) (a : Nat) : W :=
  if 0x100 ≤ a && a < 0x148 then lampReg s ((a - 0x100) / 4)
  else if 0x200 ≤ a && a < 0x214 then s.trl.sense.extractLsb' (8 * (a - 0x200)) 32
  else if 0x220 ≤ a && a < 0x234 then s.trl.svalid.extractLsb' (8 * (a - 0x220)) 32
  else match a with
  | 0x00 => fld (trlPhase s) 28 ||| flag (trlDirect s) 27 ||| fld s.trl.stuck.toNat 0
  | 0x04 => flag s.boot.strapBad 31 ||| fld s.boot.straps.toNat 0
  | 0x08 => s.trl.cfg
  | 0x0C => s.trl.evt.setWidth 32
  | 0x10 => s.trl.scans
  | _ => 0

/-! TMU (Tables 13.3 to 13.5). -/

/-- TMU_CHSTATn. -/
def thermStat (x : Therm) : W :=
  fld x.rfault.toNat 28 ||| fld x.rwarn.toNat 24 ||| fld x.afault.toNat 20 ||| fld x.awarn.toNat 16 ||| flag x.lossBad 7 |||
  flag x.noblock 6 ||| flag x.rateReady 5 ||| flag x.sensor 4 ||| flag x.obs 3 ||| flag x.run 2 ||| fld x.band 0

/-- One channel's thermal registers. -/
def thermReg (x : Therm) : Nat → W
  | 0x00 => vat x.t 0 0
  | 0x04 => vat x.t 1 0
  | 0x08 => vat x.t 2 0
  | 0x0C => vat x.t 3 0
  | 0x10 => x.rise
  | 0x14 => x.loss
  | 0x18 => thermStat x
  | _ => 0

/-- The TMU block; RUN reads 0 in DORMANT and STORE; HOT is band 3. -/
def tmuReg (s : State) (a : Nat) : W :=
  if 0x100 ≤ a && a < 0x1900 then thermReg (vat s.tmu.ch ((a - 0x100) / 0x20) Therm.init) (a % 0x20)
  else match a with
  | 0x00 => fld (s.tmu.ch.toList.filter (·.band == 3)).length 16 ||| fld (s.tmu.ch.toList.filter (·.run)).length 8 |||
      flag (s.tmu.run && s.clk.chip != .dormant && s.clk.chip != .store) 0
  | 0x04 => s.tmu.tamb
  | 0x08 => s.tmu.evals
  | _ => 0

/-! CLG (Tables 12.4 and 12.5). -/

/-- PRESENT of a ledger (R278). -/
def ledgPresent (x : Ledger) : Bool := x.chan.isSome && !x.absent

/-- CLG_STATEk. -/
def ledgStateReg (x : Ledger) : W :=
  flag x.chan.isSome 31 ||| fld (x.chan.elim 0 (·.val)) 16 ||| fld x.resets.toNat 8 ||| flag x.gap 3 ||| flag x.stale 2 |||
  flag x.absent 1 ||| flag (ledgPresent x) 0

/-- One ledger's registers. -/
def ledgReg (x : Ledger) : Nat → W
  | 0x00 => x.q.setWidth 32
  | 0x04 => x.qHi
  | 0x08 => nw (x.qIn / 65536)
  | 0x0C => nw (x.qOut / 65536)
  | 0x10 => x.last
  | 0x14 => ledgStateReg x
  | 0x18 => nw x.ticks
  | 0x1C => x.cpc
  | _ => 0

/-- The CLG block. -/
def clgReg (s : State) (a : Nat) : W :=
  if 0x100 ≤ a && a < 0x900 then ledgReg (s.lg ((a - 0x100) / 0x20)) (a % 0x20)
  else match a with
  | 0x00 => maskW fun k => ledgPresent (s.lg k)
  | 0x04 => maskW fun k => ledgPresent (s.lg (32 + k))
  | 0x08 => maskW fun k => (s.lg k).absent
  | 0x0C => maskW fun k => (s.lg (32 + k)).absent
  | _ => 0

/-! SPU (Tables 5.14 to 5.16). -/

/-- The SPU block; the reserved bits of SPU_CFGn read 0 (R6, Table 5.16). -/
def spuReg (s : State) (a : Nat) : W :=
  let x := fun (i : Nat) => vat s.shaft i Shaft.init
  let i := a % 0x10 / 4
  if 0x10 ≤ a && a < 0x20 then (x i).cfg &&& 0x80007FFF
  else if 0x20 ≤ a && a < 0x30 then nw (min (x i).interval 0xFFFFFFFF)
  else if 0x30 ≤ a && a < 0x40 then nw (x i).k
  else if 0x40 ≤ a && a < 0x60 then (vat s.pg ((a - 0x40) / 4) PGen.init).inc
  else match a with
  | 0x00 => maskW fun n => n < 4 && (x n).lock
  | 0x04 => maskW fun n => n < 4 && (x n).lost
  | _ => 0

/-! Channel blocks (R119, Tables 5.10 to 5.13). -/

/-- The context that holds a task, as it stands; a free context for none. -/
def ownerCx (s : State) (n : Nat) : Context := ((ownerOf s n).bind fun t => ctxOf s t.num).elim Context.init s.cx

/-- The context of the task whose grant index 0 is channel `n` (R119), as it stands; a free context for none. -/
def windowCx (s : State) (n : Nat) : Context := ((taskOfCh s n).bind fun t => ctxOf s t.num).elim Context.init s.cx

/-- CH_STATUS; BAND keeps its reset value 0 until evaluations run (Table 5.11; log entry 18). -/
def chStatus (s : State) (n : Nat) : W :=
  let c := s.ch n
  fld c.armLeft 16 ||| fld (min (s.lk (linkOf n)).miss 255) 8 ||| fld (if s.tmu.run then bandOf s n else 0) 6 ||| flag c.restart 3 ||| fld (chanCode c.st) 0

/-- CH_BIND. -/
def chBind (s : State) (n : Nat) : W :=
  match ownerOf s n with
  | some t => fld ((ctxOf s t.num).getD 0) 16 ||| fld t.num 0
  | none => 0xFFFF

/-- CH_RPT of the owning task. -/
def chRpt (s : State) (n : Nat) : W :=
  let x := ownerCx s n
  let d := fun (f : Task → Nat) => (ownerOf s n).any fun t => f t != 0
  flag (d (·.t1Log2)) 7 ||| flag x.t1.rfail 6 ||| fld x.t1.st.toNat 4 |||
  flag (d (·.t0Log2)) 3 ||| flag x.t0.rfail 2 ||| fld x.t0.st.toNat 0

/-- CH_BANKW: the inactive bank, live only in the block of a task's grant index 0. -/
def chBankw (s : State) (n w : Nat) : W :=
  match taskOfCh s n with
  | some t => (match ctxOf s t.num with
      | some c =>
        let x := s.cx c
        Memory.readW (if x.bankAct then x.bank0 else x.bank1) (4 * w)
      | none => 0)
  | none => 0

/-- One channel's block. -/
def chReg (s : State) (n off : Nat) : W :=
  let x := windowCx s n
  let c := s.ch n
  if 0x200 ≤ off then chBankw s n ((off - 0x200) / 4)
  else match off with
  | 0x00 => chStatus s n
  | 0x04 => chBind s n
  | 0x08 => fld x.swaps.toNat 16 ||| flag x.wdrop 2 ||| flag x.armed.isSome 1 ||| flag x.bankAct 0
  | 0x0C => x.applyTick
  | 0x10 => x.crc0
  | 0x14 => x.crc1
  | 0x18 => chRpt s n
  | 0x1C => c.misses
  | 0x20 => fld c.mode.toNat 24 ||| c.cmd.setWidth 32
  | _ => 0

/-! The whole of BAR0 and BAR2. -/

/-- The register or window word at an aligned BAR0 address, the device awake (Table 24.1, R471). -/
def regWord (s : State) (a : Nat) : W :=
  if a < 0x1000 then idReg s a
  else if a < 0x2000 then ctuReg s (a - 0x1000)
  else if a < 0x4000 then kioReg s (a - 0x2000)
  else if a < 0x8000 then fcrReg s (a - 0x4000)
  else if a < 0x10000 then admReg s (a - 0x8000)
  else if a < 0x20000 then engBlock s (a - 0x10000)
  else if a < 0x30000 then slcReg s ((a - 0x20000) / 0x400) (a % 0x400)
  else if a < 0x34000 then jnbReg s (a - 0x30000)
  else if a < 0x38000 then prlReg s (a - 0x34000)
  else if a < 0x40000 then bbrReg s (a - 0x38000)
  else if a < 0x40200 then tpcReg s ((a - 0x40000) / 0x40) (a % 0x40)
  else if a < 0x44000 then 0
  else if a < 0x44400 then twpReg (s.tw ((a - 0x44000) / 0x100)) (a % 0x100)
  else if a < 0x48000 then 0
  else if a < 0x4C000 then nvsReg s (a - 0x48000)
  else if a < 0x50000 then upeReg s (a - 0x4C000)
  else if a < 0x54000 then trlReg s (a - 0x50000)
  else if a < 0x58000 then tmuReg s (a - 0x54000)
  else if a < 0x5C000 then clgReg s (a - 0x58000)
  else if a < 0x60000 then spuReg s (a - 0x5C000)
  else if 0x100000 ≤ a && a < 0x130000 then chReg s ((a - 0x100000) / 0x400) (a % 0x400)
  else if 0x200000 ≤ a && a < 0x300000 then
    (if s.nvs.recalling then 0xFFFFFFFF else Memory.readW s.nvs.win (a - 0x200000))
  else if 0x400000 ≤ a && a < 0x800000 then Memory.readW s.shared (a - 0x400000)
  else 0

/-- The same as the host sees it: in DORMANT only four blocks answer (R474). -/
def bar0Word (s : State) (a : Nat) : W :=
  if s.clk.chip = .dormant && !dormantBlock a then 0xFFFFFFFF else regWord s a

/-- Byte `i` of a word. -/
def byteOf (w : W) (i : Nat) : Byte := w.extractLsb' (8 * i) 8

/-- A read of `n` bytes of BAR0 from address `a`: the addressed bytes of the words that contain them (R470). -/
def bar0Read (s : State) (a n : Nat) : List Byte :=
  (List.range n).map fun i => byteOf (bar0Word s ((a + i) / 4 * 4)) ((a + i) % 4)

/-- A read of a register latches its partner: CLG_QLOk latches CLG_QHIk (R209, R294). -/
def latchRead (a : Nat) (s : State) : State :=
  if 0x58100 ≤ a && a < 0x58900 && a % 0x20 = 0 && s.clk.chip != .dormant then
    s.modLg ((a - 0x58100) / 0x20) fun x => { x with qHi := (x.q >>> 32).setWidth 32 }
  else s

/-- What a read of `n` bytes of BAR0 from `a` changes: the latches of the words it covers (R209), and EARLY in the NV window
during recall (R397). -/
def bar0Touch (a n : Nat) (s : State) : State :=
  let s1 := (List.range ((a + n + 3) / 4 - a / 4)).foldl (fun s i => latchRead (4 * (a / 4 + i)) s) s
  if s.nvs.recalling && 0x200000 ≤ a && a < 0x300000 then nvFlag 1 s1 else s1

/-- A read of `n` bytes of BAR2: recorder memory as it stands; a fenced bank reads all ones (R233, Table 24.2). -/
def bar2Read (s : State) (a n : Nat) : List Byte :=
  (List.range n).map fun i =>
    if s.bbr.fenced.getLsbD ((a + i) / 0x200000) then 0xFF else Memory.read s.bbr.mem (a + i)

end Sys2Proof.Machine
end

