-- ==== Sys2Proof/Safety.lean ====
section
/-!
DEFINITION. What claims call a safe state of the shelf.
-/
namespace Sys2Proof.Machine

/-- A channel commands nothing through its slot: OFF, SAFE or FENCED (Tables 5.3 and 8.6). -/
def Chan.quiet (c : Chan) : Bool := c.st == .off || c.st == .safe || c.st == .fenced

end Sys2Proof.Machine
end

