-- ==== Sys2Proof/WellFormed.lean ====
section
/-!
DEFINITION. Which commands are well formed: an engine command's word meets R51, R52, R54, R55 (as far as the word and the
profile decide it) and R67; a command from outside carries operands of the shape its rule gives.
-/
namespace Sys2Proof

/-- Well-formedness of a command that is no engine instruction. -/
def Instr.outerWf : Instr → Bool
  | .kioSqTail _ _ es => es.all (·.length == 16)
  | .registerWrite a n _ => n ≥ 1 && a < 0x800000
  | .regw _ ws => 1 ≤ ws.length && ws.length ≤ 5
  | .pairCmd _ e => e.length == 16
  | .handoff _ _ ws _ _ => ws.length == 41
  | .moduleHello _ ws => ws.length == 18 || ws.length == 10
  | .pairHello ws _ => ws.length == 7
  | .thermalBlockRead _ _ b => match b with
    | some ws => ws.length == 32
    | none => true
  | .terms _ _ os => os.length ≤ 4
  | .defer _ _ ms => 50 ≤ ms.toNat && ms.toNat ≤ 1000
  | .decline _ _ r => 1 ≤ r.toNat && r.toNat ≤ 4
  | .live _ _ k => k.toNat ≤ 1
  | .trlScan sense _ _ => sense.length == 12
  | .enum n => n ≤ 1023
  | .trainPassage _ t => t.g ≤ 128 && t.slots.length == 8 * t.g
  | _ => true

/-- Well-formedness of a command. -/
def Instr.wf (i : Instr) : Bool :=
  match encodeInsn i, engineCtx i with
  | some (w, e), some c => insnOk (profOf c) (insnOf w e)
  | _, _ => i.outerWf

end Sys2Proof
end

