-- ==== Sys2Proof/Certificates/Slice0/Obligations.lean ====
section
/-!
DEFINITION. The statements for the provers. The vocabulary comes first. `Does i s u`: command `i` completes; `u` is the state
with its own effect, before `settle` applies the reactions of R377 to the occurrences it raised. Where `u` raises nothing and no
reaction waits, `settle u` is `u` (Obligations.Reactions).
-/
namespace Sys2Proof.Claims
open Sys2Proof Sys2Proof.Machine

/-- The command answers a next state: `u` with the reactions of R377 applied. -/
def Does (i : Instr) (s u : State) : Prop := exec i s = .next (settle u)

/-- A release runs in context `c`, `r` is its record, and R55 allows the instruction with these words there. -/
def At (s : State) (c : Ctx) (w ext : W) (r : Rel) : Prop :=
  (s.cx c.val).rel = some r ∧ insnOk (profOf c) (insnOf w ext) = true ∧ grantsOk r.prog r.pc (insnOf w ext) = true

/-- The release after the instruction has issued and moved on to the word that follows (R84, R86). -/
def past (c : Ctx) (w ext : W) (r : Rel) : Rel :=
  issueRel (profOf c) (insnOf w ext) (issueAt (profOf c) (insnOf w ext) r) (insnOf w ext).issue r

/-- Context `c` becomes `g` of what it was, with its release moved past the instruction; everything else in the state is as
before. -/
def after (s : State) (c : Ctx) (w ext : W) (r : Rel) (g : Context → Context) : State :=
  s.modCx c.val fun x => { g x with rel := some (past c w ext r) }

/-- A register as R38 has it read: register 0 of an L or U context reads 0. -/
def rd (s : State) (c : Ctx) (n : Nat) : W :=
  if n = 0 ∧ isS c.val = false then 0 else vat (s.cx c.val).regs n 0

/-- A result in register `d` with its flags (R38, R68): a write to v0 of an L or U context is discarded with its flags; an S
context has no flags. -/
def result (c : Ctx) (d : Nat) (v : W) (zn : Bool) (cy sf : Option Bool) (x : Context) : Context :=
  if isS c.val then { x with regs := vput x.regs d v }
  else if d = 0 then x
  else { x with
    regs := vput x.regs d v
    fZ := if zn then v == 0 else x.fZ
    fN := if zn then v.msb else x.fN
    fC := cy.getD x.fC
    fS := sf.getD x.fS }

/-- A result that leaves every flag. -/
def plain (c : Ctx) (d : Nat) (v : W) : Context → Context := result c d v false none none
/-- A result with Z, N and the C given. -/
def znc (c : Ctx) (d : Nat) (v : W) (cy : Bool) : Context → Context := result c d v true (some cy) none
/-- An exact value clipped to a signed word, C telling that it was clipped (R66). -/
def clipped (c : Ctx) (d : Nat) (x : Int) : Context → Context :=
  let y := max (-2147483648) (min x 2147483647)
  znc c d (BitVec.ofInt 32 y) (y != x)
/-- The floor of x / 2^k, rounding with half of 2^k when asked (R70). -/
def scaledBy (rnd : Bool) (k : Nat) (x : Int) : Int :=
  (x + (if rnd ∧ k > 0 then 2 ^ (k - 1) else 0)) / 2 ^ k
/-- Bit 0 of MOD: saturating, rounding or the F form. -/
def m0 (f : AForm) : Bool := f.md.getLsbD 0
/-- A shift's count: SH, or the low five bits of v[b]. -/
def shBy (s : State) (c : Ctx) (f : AForm) : Nat := if m0 f then (rd s c f.b.toNat).toNat % 32 else f.sh.toNat
/-- An occurrence waits for its reactions: it has been raised (R377). -/
def raised (u : State) (src : Nat) (cls : EvClass) (code : Nat) : Prop :=
  ∃ x ∈ u.fcr.todo, x.src = src ∧ x.cls = cls ∧ x.code = BitVec.ofNat 16 code

/-- The thermal model of channel `n`. -/
def th (s : State) (n : Ch) : Therm := vat s.tmu.ch n.val Therm.init
/-- Recorder trigger `i`. -/
def trg (s : State) (i : Fin 32) : Trig := vat s.bbr.trig i.val Trig.init
/-- Export stream `k`. -/
def stm (s : State) (k : Fin 4) : Strm := vat s.bbr.strm k.val Strm.init

/-- An accepted command of this ID and tag that is not mirrored can be carried out: the firmware runs, the session that sent it is
open, and it is its turn, no drip command accepted earlier being still to begin (R211, R218, R221). -/
def Ready (s : State) (cmd : Nat) (tag : BitVec 16) (k : KCmd) : Prop :=
  kFind s cmd tag = some k ∧ mgpRuns s = true ∧ k.mseq = none ∧ k.mute = false ∧ kTurn s k = true ∧ s.kio.isOpen = true ∧
  Memory.wf s.host = true

/-- A command has completed (R215, R217): one entry with its ID, tag, status and results stands at the tail of its completion
ring, which has moved on, and the command is no longer accepted. -/
def Completed (s u : State) (k : KCmd) (st : Nat) (r0 r1 r2 : W) : Prop :=
  let c := vat s.kio.cq k.ring.val CplRing.init
  let a := c.base.toNat + 32 * c.tail
  u.kio.accepted = (s.kio.accepted.filter fun x => !(x.tag == k.tag && x.ring == k.ring && x.handle == k.handle && x.mute == k.mute)) ∧
  (vat u.kio.cq k.ring.val CplRing.init).used = c.used + 1 ∧
  (vat u.kio.cq k.ring.val CplRing.init).tail = (c.tail + 1) % 2 ^ c.size.toNat ∧
  Memory.readW u.host a = (fld k.cmd 16 ||| k.tag.setWidth 32) ∧
  Memory.readW u.host (a + 4) = (flag c.phase 31 ||| fld k.ring.val 28 ||| fld st 0) ∧
  Memory.readW u.host (a + 12) = r0 ∧ Memory.readW u.host (a + 24) = r1 ∧ Memory.readW u.host (a + 28) = r2

end Sys2Proof.Claims

open Sys2Proof Sys2Proof.Machine Sys2Proof.Claims

/-- A step with a command at the front of the queue runs exactly that command on the state with the queue's rest; with an empty
queue it is one tick (log entry 9, the model's choice). -/
def Obligations.StepRunsFront : Prop :=
  (∀ (c : Instr) (q : List Instr) (s : State), s.pending = c :: q → step s = exec c { s with pending := q }) ∧
  ∀ s : State, s.pending = [] → step s = .next (tick s)

/-- Every command completes: in every state it answers a next state (the model's choice, log entry 8). -/
def Obligations.EveryCommandCompletes : Prop := ∀ (i : Instr) (s : State), ∃ u, Does i s u

/-- R377 to R381, R388, Table 18.3: what `settle` does with the one occurrence that waits. CE: no reaction. UC: ERRN, CRST, SAFE
and FENCE of a loop engine, each where the configuration word sets it; SAFE is asked of a channel here and entered at the next tick
start (R98). FE: the fatal path. Where none waits nothing changes. -/
def Obligations.Reactions : Prop :=
  (∀ s : State, s.fcr.todo = [] → settle s = s) ∧
  ∀ (s : State) (x : React), s.fcr.todo = [x] → (∀ i : Fin 32, (trg s i).decl = false ∨ trigSource (trg s i) ≠ 1) →
  let still := { s with fcr := { s.fcr with todo := [] } }
  (x.cls = .ce → settle s = still) ∧
  (x.cls = .uc → x.cfg.bits 24 18 = 0 → settle s = still) ∧
  (x.cls = .uc → x.cfg.bits 24 18 = 8 → settle s = { still with fcr := { still.fcr with
    errn := still.fcr.errn ||| 1, errnOut := true } }) ∧
  (x.cls = .uc → x.cfg.bits 24 18 = 16 → s.fcr.crst = none → settle s = { still with fcr := { still.fcr with
    crst := some (s.now + 200) } }) ∧
  (x.cls = .uc → x.cfg.bits 24 18 = 2 → x.src < 768 → ∀ n : Ch, (settle s).ch n.val =
    (if n.val = x.src / 4 then { s.ch n.val with safeReq := (s.ch n.val).safeReq || (s.ch n.val).live } else s.ch n.val)) ∧
  (∀ k, x.cls = .uc → x.cfg.bits 24 18 = 4 → x.src = 768 + k → k < 48 → s.prl.role = .solo → s.adm.img = none →
    s.adm.shadow = none → s.kio.accepted = [] → s.upe.phase = .idle → (s.engine k).fenced = false →
    ((settle s).engine k).fenced = true ∧ (∀ c : Ctx, engOfCtx c.val = k → ((settle s).cx c.val).rel = none) ∧
    (∀ n, n < 80 → n ≠ k → ((settle s).engine n).fenced = (s.engine n).fenced)) ∧
  (x.cls = .fe → leadInSync s = false → (settle s).fcr.fatal = true ∧ (settle s).fcr.aliveRun = false ∧
    (settle s).fcr.errn = s.fcr.errn ||| 2 ∧ (settle s).fcr.errnOut = true ∧
    (x.cfg.bit 22 = true → (settle s).fcr.crst = some (s.fcr.crst.getD (s.now + 200))) ∧
    (x.cfg.bit 22 = false → (settle s).fcr.crst = s.fcr.crst) ∧
    (x.src ≠ 963 → (settle s).fcr.nmt = s.fcr.nmt + 1 ∧ (s.fcr.fatal = false → (settle s).fcr.lastFe = lastFeWord x)) ∧
    ∀ n : Ch, (settle s).ch n.val = { s.ch n.val with safeReq := (s.ch n.val).safeReq || (s.ch n.val).live })

/-- Every engine instruction that has words decodes from them to itself, with every field at every value (Tables 3.5, 3.8). -/
def Obligations.DecodeOfEncode : Prop :=
  ∀ (i : Instr) (c : Ctx) (w ext : W), engineCtx i = some c → encodeInsn i = some (w, ext) → decodeInsn c w ext = some i

/-- R54, R55: of an opcode that its profile does not have, nothing executes: a release that stands at it is aborted with 0x0003,
whatever command of the table delivers it. Stated for every command that spells an instruction. -/
def Obligations.IllegalWordsEndTheRelease : Prop :=
  ∀ (s : State) (i : Instr) (c : Ctx) (w ext : W) (r : Rel), engineCtx i = some c → encodeInsn i = some (w, ext) →
    (s.cx c.val).rel = some r →
    (insnOk (profOf c) (insnOf w ext) = false ∨ grantsOk r.prog r.pc (insnOf w ext) = false) →
    Does i s (abortRelease c.val 0x0003 s) ∧ (abortRelease c.val 0x0003 s).cx c.val = { s.cx c.val with rel := none } ∧
    (s.fcr.todo = [] → raised (abortRelease c.val 0x0003 s) (ctrlSrc (engOfCtx c.val)) .uc 0x0003)

/-- No reaction of R377 is left waiting when a step ends: the model's invariant of Fcr.todo. -/
def Obligations.StepLeavesNoReaction : Prop :=
  ∀ s s' : State, s.fcr.todo = [] → step s = .next s' → s'.fcr.todo = []

/-- Reset meets that invariant. -/
def Obligations.ResetHasNoReaction : Prop := State.reset.fcr.todo = [] ∧ State.reset.pending = []

/-- R69, R168: NOP, MOV, LDI, LDK and SEL change their destination and no flag; CMP, CMPI and FCMP set Z, N and C in L and U; CMP and
CMPI in S write −1, 0 or +1 to s[d]. -/
def Obligations.MovesAndCompares : Prop :=
  (∀ (s : State) (c : Ctx) (r : Rel),
  (∀ f, At s c (wordA 0x01 f) 0 r → Does (.nop c f) s (after s c (wordA 0x01 f) 0 r id)) ∧
  (∀ f, At s c (wordA 0x02 f) 0 r →
    Does (.mov c f) s (after s c (wordA 0x02 f) 0 r (plain c f.d.toNat (rd s c f.a.toNat)))) ∧
  (∀ f, At s c (wordB 0x03 f) 0 r →
    Does (.ldi c f) s (after s c (wordB 0x03 f) 0 r (plain c f.d.toNat (f.imm.signExtend 32)))) ∧
  (∀ f, At s c (wordE 0x04 f) f.ext r →
    Does (.ldk c f) s (after s c (wordE 0x04 f) f.ext r (plain c f.d.toNat f.ext))) ∧
  (∀ f, At s c (wordA 0x05 f) 0 r →
    Does (.sel c f) s (after s c (wordA 0x05 f) 0 r
      (plain c f.d.toNat (if condTrue (s.cx c.val) f.md.toNat then rd s c f.a.toNat else rd s c f.b.toNat))))) ∧
  (∀ (s : State) (c : Ctx) (r : Rel),
  let fl := fun (a b : W) (x : Context) =>
    { x with fZ := a == b, fN := decide (a.toInt < b.toInt), fC := decide (b.toNat ≤ a.toNat) }
  let sg := fun (d : Nat) (a b : W) (x : Context) =>
    { x with regs := vput x.regs d (if a.toInt < b.toInt then 0xFFFFFFFF else if a = b then 0 else 1) }
  (∀ f, At s c (wordA 0x06 f) 0 r → Does (.cmp c f) s (after s c (wordA 0x06 f) 0 r
    (if isS c.val then sg f.d.toNat (rd s c f.a.toNat) (rd s c f.b.toNat) else fl (rd s c f.a.toNat) (rd s c f.b.toNat)))) ∧
  (∀ f, At s c (wordB 0x07 f) 0 r → Does (.cmpi c f) s (after s c (wordB 0x07 f) 0 r
    (if isS c.val then sg f.d.toNat (rd s c f.a.toNat) (f.imm.signExtend 32)
     else fl (rd s c f.a.toNat) (f.imm.signExtend 32)))) ∧
  (∀ f, At s c (wordA 0x08 f) 0 r → Does (.fcmp c f) s (after s c (wordA 0x08 f) 0 r fun x =>
    let o := fcmp (rd s c f.a.toNat) (rd s c f.b.toNat)
    { x with fZ := o == some .eq, fN := o == some .lt || o == none, fC := o == none })))

/-- R70: ADD, SUB and ADDI, wrapped with carry, or saturated with C telling the clip; MUL, NEG, ABS, MIN and MAX, with the F
forms of the last four. -/
def Obligations.IntegerArithmetic : Prop :=
  ∀ (s : State) (c : Ctx) (r : Rel),
  (∀ f, At s c (wordA 0x10 f) 0 r →
    let a := rd s c f.a.toNat
    let b := rd s c f.b.toNat
    Does (.add c f) s (after s c (wordA 0x10 f) 0 r
      (if m0 f then clipped c f.d.toNat (a.toInt + b.toInt)
       else znc c f.d.toNat (a + b) (decide (a.toNat + b.toNat ≥ 4294967296))))) ∧
  (∀ f, At s c (wordA 0x11 f) 0 r →
    let a := rd s c f.a.toNat
    let b := rd s c f.b.toNat
    Does (.sub c f) s (after s c (wordA 0x11 f) 0 r
      (if m0 f then clipped c f.d.toNat (a.toInt - b.toInt)
       else znc c f.d.toNat (a - b) (decide (b.toNat ≤ a.toNat))))) ∧
  (∀ f, At s c (wordB 0x12 f) 0 r →
    let a := rd s c f.a.toNat
    let b := f.imm.signExtend 32
    Does (.addi c f) s (after s c (wordB 0x12 f) 0 r
      (znc c f.d.toNat (a + b) (decide (a.toNat + b.toNat ≥ 4294967296))))) ∧
  (∀ f, At s c (wordA 0x13 f) 0 r → Does (.mul c f) s (after s c (wordA 0x13 f) 0 r
    (clipped c f.d.toNat (scaledBy (m0 f) f.sh.toNat ((rd s c f.a.toNat).toInt * (rd s c f.b.toNat).toInt))))) ∧
  (∀ f, At s c (wordA 0x14 f) 0 r → Does (.neg c f) s (after s c (wordA 0x14 f) 0 r
    (if m0 f then plain c f.d.toNat (fneg (rd s c f.a.toNat)) else clipped c f.d.toNat (-(rd s c f.a.toNat).toInt)))) ∧
  (∀ f, At s c (wordA 0x15 f) 0 r → Does (.abs c f) s (after s c (wordA 0x15 f) 0 r
    (if m0 f then plain c f.d.toNat (fabs (rd s c f.a.toNat)) else clipped c f.d.toNat ((rd s c f.a.toNat).toInt.natAbs : Int)))) ∧
  (∀ f, At s c (wordA 0x16 f) 0 r →
    let a := rd s c f.a.toNat
    let b := rd s c f.b.toNat
    Does (.min c f) s (after s c (wordA 0x16 f) 0 r
      (if m0 f then plain c f.d.toNat (fmin a b)
       else result c f.d.toNat (if a.toInt ≤ b.toInt then a else b) true none none))) ∧
  (∀ f, At s c (wordA 0x17 f) 0 r →
    let a := rd s c f.a.toNat
    let b := rd s c f.b.toNat
    Does (.max c f) s (after s c (wordA 0x17 f) 0 r
      (if m0 f then plain c f.d.toNat (fmax a b)
       else result c f.d.toNat (if a.toInt ≤ b.toInt then b else a) true none none)))

/-- R70: AND, OR, XOR, SHL, ASR, LSR. -/
def Obligations.LogicAndShifts : Prop :=
  ∀ (s : State) (c : Ctx) (r : Rel),
  (∀ f, At s c (wordA 0x18 f) 0 r → Does (.andW c f) s (after s c (wordA 0x18 f) 0 r
    (result c f.d.toNat (rd s c f.a.toNat &&& rd s c f.b.toNat) true none none))) ∧
  (∀ f, At s c (wordA 0x19 f) 0 r → Does (.orW c f) s (after s c (wordA 0x19 f) 0 r
    (result c f.d.toNat (rd s c f.a.toNat ||| rd s c f.b.toNat) true none none))) ∧
  (∀ f, At s c (wordA 0x1A f) 0 r → Does (.xorW c f) s (after s c (wordA 0x1A f) 0 r
    (result c f.d.toNat (rd s c f.a.toNat ^^^ rd s c f.b.toNat) true none none))) ∧
  (∀ f, At s c (wordA 0x1B f) 0 r →
    let a := rd s c f.a.toNat
    let k := shBy s c f
    Does (.shl c f) s (after s c (wordA 0x1B f) 0 r
      (if f.md.getLsbD 1 then clipped c f.d.toNat (a.toInt * 2 ^ k)
       else znc c f.d.toNat (a <<< k) (decide (k ≠ 0) && a.getLsbD (32 - k))))) ∧
  (∀ f, At s c (wordA 0x1C f) 0 r →
    let a := rd s c f.a.toNat
    let k := shBy s c f
    Does (.asr c f) s (after s c (wordA 0x1C f) 0 r
      (znc c f.d.toNat (a.sshiftRight k) (decide (k ≠ 0) && a.getLsbD (k - 1))))) ∧
  (∀ f, At s c (wordA 0x1D f) 0 r →
    let a := rd s c f.a.toNat
    let k := shBy s c f
    Does (.lsr c f) s (after s c (wordA 0x1D f) 0 r
      (znc c f.d.toNat (a >>> k) (decide (k ≠ 0) && a.getLsbD (k - 1)))))

/-- R71: MAC, MSU, MCLR and MLD change their accumulator alone; MRD reads one. -/
def Obligations.Accumulators : Prop :=
  ∀ (s : State) (c : Ctx) (r : Rel),
  let acc := fun (d : Nat) (v : Acc) (x : Context) => { x with acc := vput x.acc d v }
  let m := fun (n : Nat) => vat (s.cx c.val).acc n 0
  let p := fun (f : AForm) => (rd s c f.a.toNat).toInt * (rd s c f.b.toNat).toInt
  (∀ f, At s c (wordA 0x20 f) 0 r → Does (.mac c f) s (after s c (wordA 0x20 f) 0 r
    (acc f.d.toNat (m f.d.toNat + BitVec.ofInt 72 (p f))))) ∧
  (∀ f, At s c (wordA 0x21 f) 0 r → Does (.msu c f) s (after s c (wordA 0x21 f) 0 r
    (acc f.d.toNat (m f.d.toNat - BitVec.ofInt 72 (p f))))) ∧
  (∀ f, At s c (wordA 0x22 f) 0 r → Does (.mclr c f) s (after s c (wordA 0x22 f) 0 r (acc f.d.toNat 0))) ∧
  (∀ f, At s c (wordA 0x24 f) 0 r → Does (.mld c f) s (after s c (wordA 0x24 f) 0 r
    (acc f.d.toNat (BitVec.ofInt 72 ((rd s c f.a.toNat).toInt * 2 ^ f.sh.toNat))))) ∧
  (∀ f, At s c (wordA 0x23 f) 0 r → Does (.mrd c f) s (after s c (wordA 0x23 f) 0 r
    (clipped c f.d.toNat (scaledBy (m0 f) f.sh.toNat (m f.a.toNat).toInt))))

/-- R72: binary32 arithmetic and conversions; only CVTI sets a flag, C. -/
def Obligations.FloatArithmetic : Prop :=
  ∀ (s : State) (c : Ctx) (r : Rel),
  let v := fun (n : BitVec 5) => rd s c n.toNat
  (∀ f, At s c (wordA 0x28 f) 0 r →
    Does (.fadd c f) s (after s c (wordA 0x28 f) 0 r (plain c f.d.toNat (fadd (v f.a) (v f.b))))) ∧
  (∀ f, At s c (wordA 0x29 f) 0 r →
    Does (.fsub c f) s (after s c (wordA 0x29 f) 0 r (plain c f.d.toNat (fsub (v f.a) (v f.b))))) ∧
  (∀ f, At s c (wordA 0x2A f) 0 r →
    Does (.fmul c f) s (after s c (wordA 0x2A f) 0 r (plain c f.d.toNat (Machine.fmul (v f.a) (v f.b))))) ∧
  (∀ f, At s c (wordA 0x2B f) 0 r →
    Does (.fma c f) s (after s c (wordA 0x2B f) 0 r (plain c f.d.toNat (ffma (v f.d) (v f.a) (v f.b))))) ∧
  (∀ f, At s c (wordA 0x2C f) 0 r →
    Does (.fdiv c f) s (after s c (wordA 0x2C f) 0 r (plain c f.d.toNat (fdiv (v f.a) (v f.b))))) ∧
  (∀ f, At s c (wordA 0x2D f) 0 r →
    Does (.fsqrt c f) s (after s c (wordA 0x2D f) 0 r (plain c f.d.toNat (fsqrt (v f.a))))) ∧
  (∀ f, At s c (wordA 0x2E f) 0 r →
    Does (.cvtf c f) s (after s c (wordA 0x2E f) 0 r (plain c f.d.toNat (cvtf (v f.a).toInt f.sh.toNat)))) ∧
  (∀ f, At s c (wordA 0x2F f) 0 r →
    let z := cvti (v f.a) f.sh.toNat
    Does (.cvti c f) s (after s c (wordA 0x2F f) 0 r
      (result c f.d.toNat (BitVec.ofInt 32 z.1) false (some z.2) none)))

/-- R74: SAT and CLAMP set S when they change their operand, and clear S otherwise. -/
def Obligations.SatAndClamp : Prop :=
  ∀ (s : State) (c : Ctx) (r : Rel),
  let v := fun (n : Nat) => rd s c n
  let i := fun (n : BitVec 5) => (rd s c n.toNat).toInt
  (∀ f, At s c (wordA 0x30 f) 0 r →
    let y : Int := max (-(2 ^ f.sh.toNat)) (min (i f.a) (2 ^ f.sh.toNat - 1))
    Does (.sat c f) s (after s c (wordA 0x30 f) 0 r
      (result c f.d.toNat (BitVec.ofInt 32 y) true none (some (y != i f.a))))) ∧
  (∀ f, At s c (wordA 0x31 f) 0 r → m0 f = false →
    let y : Int := min (max (i f.a) (i f.b)) (v (f.b.toNat + 1)).toInt
    Does (.clamp c f) s (after s c (wordA 0x31 f) 0 r
      (result c f.d.toNat (BitVec.ofInt 32 y) true none (some (y != i f.a))))) ∧
  (∀ f, At s c (wordA 0x31 f) 0 r → m0 f = true →
    let y := if isNan (v f.a.toNat) then v f.b.toNat else fmin (fmax (v f.a.toNat) (v f.b.toNat)) (v (f.b.toNat + 1))
    Does (.clamp c f) s (after s c (wordA 0x31 f) 0 r
      (result c f.d.toNat y false none (some (isNan (v f.a.toNat) || fcmp y (v f.a.toNat) != some .eq)))))

/-- R75, R76: INTG, DIFF, FILT1 and LIM. That a frozen INTG of the F form leaves C, and that LIM of the F form compares the exact
difference, are the model's readings (log entries 12 and 13). -/
def Obligations.ControlLaw : Prop :=
  ∀ (s : State) (c : Ctx) (r : Rel),
  let v := fun (n : Nat) => rd s c n
  let i := fun (n : BitVec 5) => (rd s c n.toNat).toInt
  (∀ f, At s c (wordA 0x32 f) 0 r → Does (.intg c f) s (after s c (wordA 0x32 f) 0 r
    (if m0 f then plain c f.d.toNat (if (s.cx c.val).fS then v f.d.toNat else ffma (v f.d.toNat) (v f.a.toNat) (v f.b.toNat))
     else if (s.cx c.val).fS then znc c f.d.toNat (v f.d.toNat) false
     else clipped c f.d.toNat (i f.d + (i f.a * i f.b) / 2 ^ f.sh.toNat)))) ∧
  (∀ f, At s c (wordA 0x33 f) 0 r → Does (.diff c f) s (after s c (wordA 0x33 f) 0 r fun x =>
    plain c f.b.toNat (v f.a.toNat)
      ((if m0 f then plain c f.d.toNat (fsub (v f.a.toNat) (v f.b.toNat)) else clipped c f.d.toNat (i f.a - i f.b)) x))) ∧
  (∀ f, At s c (wordA 0x34 f) 0 r → Does (.filt1 c f) s (after s c (wordA 0x34 f) 0 r
    (if m0 f then plain c f.d.toNat (ffma (v f.d.toNat) (fsub (v f.a.toNat) (v f.d.toNat)) (v f.b.toNat))
     else
       let y : Int := i f.d + ((i f.a - i f.d) * i f.b) / 2 ^ 31
       result c f.d.toNat (BitVec.ofInt 32 (max (-2147483648) (min y 2147483647))) true none none))) ∧
  (∀ f, At s c (wordA 0x35 f) 0 r → m0 f = false →
    let step : Int := max (i f.b) 0
    let e := i f.a - i f.d
    Does (.lim c f) s (after s c (wordA 0x35 f) 0 r
      (if e > step then result c f.d.toNat (BitVec.ofInt 32 (i f.d + step)) false (some true) none
       else if e < -step then result c f.d.toNat (BitVec.ofInt 32 (i f.d - step)) false (some true) none
       else result c f.d.toNat (v f.a.toNat) false (some false) none))) ∧
  (∀ f, At s c (wordA 0x35 f) 0 r → m0 f = true →
    let e := fvSum (f32 (v f.a.toNat)) (fvNeg (f32 (v f.d.toNat)))
    let step := fmax (v f.b.toNat) 0
    Does (.lim c f) s (after s c (wordA 0x35 f) 0 r
      (if isNan (v f.a.toNat) ∨ isNan (v f.d.toNat) ∨ e = .nan then result c f.d.toNat (v f.d.toNat) false (some true) none
       else if fvCmp e (f32 step) = some .gt then result c f.d.toNat (fadd (v f.d.toNat) step) false (some true) none
       else if fvCmp e (fvNeg (f32 step)) = some .lt then result c f.d.toNat (fsub (v f.d.toNat) step) false (some true) none
       else result c f.d.toNat (v f.a.toNat) false (some false) none)))

/-- R77, R78: RPT reads the entry of the lead and, unless S is 1, updates the entry of the phase. PLAUS counts violations in a row, sets N, Z
and the sticky P, and raises its event once, when the count reaches L. -/
def Obligations.TableAndPlausibility : Prop :=
  (∀ (s : State) (c : Ctx) (r : Rel) (f : AForm), At s c (wordA 0x36 f) 0 r →
    let x := s.cx c.val
    let lg := if m0 f then r.prog.t1Log2 else r.prog.t0Log2
    let tb := if m0 f then x.t1 else x.t0
    let i := x.ph.toNat >>> (32 - lg)
    let j := (i + (rd s c (f.b.toNat + 2)).toNat) % 2 ^ lg
    ∃ u, Does (.rpt c f) s u ∧
      (∀ n, n < 32 → n ≠ f.d.toNat → rd u c n = rd s c n) ∧
      (f.d.toNat ≠ 0 → rd u c f.d.toNat = Memory.readW tb.mem (4 * j)) ∧
      (x.fS = true → (u.cx c.val).t0 = x.t0 ∧ (u.cx c.val).t1 = x.t1) ∧
      (x.fS = false → (u.cx c.val).t0.n + (u.cx c.val).t1.n = x.t0.n + x.t1.n + 1) ∧
      (x.fS = false → Memory.wf tb.mem = true →
        let g := rptGain tb (if m0 f then r.prog.t1Ramp else r.prog.t0Ramp) (rd s c f.b.toNat)
        let y : Int := ((Memory.readW tb.mem (4 * i)).toInt * (rd s c (f.b.toNat + 1)).toInt) / 2 ^ 31 +
          ((rd s c f.a.toNat).toInt * g.toInt) / 2 ^ 31
        Memory.readW (if m0 f then (u.cx c.val).t1 else (u.cx c.val).t0).mem (4 * i) =
          BitVec.ofInt 32 (max (-2147483648) (min y 2147483647))) ∧
      (m0 f = true → (u.cx c.val).t0 = x.t0) ∧ (m0 f = false → (u.cx c.val).t1 = x.t1) ∧
      (u.cx c.val).fZ = x.fZ ∧ (u.cx c.val).fN = x.fN ∧ (u.cx c.val).fC = x.fC ∧ (u.cx c.val).fS = x.fS ∧
      u.shared = s.shared ∧ u.chan = s.chan) ∧
  (∀ (s : State) (c : Ctx) (r : Rel) (f : AForm) (d : CheckDecl), At s c (wordA 0x37 f) 0 r →
    r.prog.checks.find? (fun k => k.num == f.md.toNat % 4) = some d → d.num < 4 →
    let x := s.cx c.val
    let bad := plausBad (f.md.getLsbD 2) (if r.arming.any (·.val == d.ch) then d.widen else 0)
      (rd s c f.a.toNat) (rd s c f.b.toNat) (rd s c f.d.toNat)
    let old := vat x.chk d.num 0
    let cnt := if bad then min (old + 1) 15 else 0
    let hit := bad && cnt == d.lim && old + 1 == d.lim
    ∃ u, Does (.plaus c f) s u ∧
      vat (u.cx c.val).chk d.num 0 = cnt ∧ (u.cx c.val).fN = bad ∧ (u.cx c.val).fZ = decide (cnt = 0) ∧
      (u.cx c.val).fP = (x.fP || hit) ∧ (u.cx c.val).regs = x.regs ∧ (u.cx c.val).fC = x.fC ∧ (u.cx c.val).fS = x.fS ∧
      (hit = false → u.fcr = s.fcr ∧ u.chan = s.chan) ∧
      (hit = true → d.ch < 192 → srcKind (4 * d.ch) ≠ 2 →
        (u.ch d.ch).safeReq = ((s.ch d.ch).safeReq || d.safe && (s.ch d.ch).live) ∧ ∃ cl, raised u (4 * d.ch) cl (if d.safe then 0x1002 else 0x1001)))

/-- R79, R49: LD and ST in every space; LDX and STX in range, and out of range: 0 is loaded or the store suppressed, and 0x1003
raised. The stored bytes are those of the one word addressed. -/
def Obligations.LoadsAndStores : Prop :=
  ∀ (s : State) (c : Ctx) (r : Rel),
  let moved := fun (w : W) => s.modCx c.val fun x => { x with rel := some (past c w 0 r) }
  (∀ f, At s c (wordD 0x40 f) 0 r → Does (.ld c f) s (after s c (wordD 0x40 f) 0 r
    (plain c f.d.toNat (spaceRead s c.val r f.space.toNat f.addr.toNat)))) ∧
  (∀ f, At s c (wordD 0x41 f) 0 r →
    Does (.st c f) s (spaceWrite c.val r f.space.toNat f.addr.toNat (rd s c f.d.toNat) (moved (wordD 0x41 f)))) ∧
  (∀ f, At s c (wordA 0x42 f) 0 r →
    let a := (rd s c f.a.toNat + rd s c f.b.toNat).toNat
    (inSpace r.prog f.md.toNat a = true → Does (.ldx c f) s (after s c (wordA 0x42 f) 0 r
      (plain c f.d.toNat (spaceRead s c.val r f.md.toNat a)))) ∧
    (inSpace r.prog f.md.toNat a = false → Does (.ldx c f) s
      (outOfRange (after s c (wordA 0x42 f) 0 r (plain c f.d.toNat 0)) c.val (nw a)))) ∧
  (∀ f, At s c (wordA 0x43 f) 0 r →
    let a := (rd s c f.a.toNat + rd s c f.b.toNat).toNat
    (inSpace r.prog f.md.toNat a = true → Does (.stx c f) s
      (spaceWrite c.val r f.md.toNat a (rd s c f.d.toNat) (moved (wordA 0x43 f)))) ∧
    (inSpace r.prog f.md.toNat a = false → Does (.stx c f) s (outOfRange (moved (wordA 0x43 f)) c.val (nw a))))

/-- R44, R46, R50: what a store to a space changes: the bytes of its one word, in LOCAL or in shared task memory at the computed
address, and no other byte; the canonical form of the memories stands (the model's own invariant). -/
def Obligations.StoresTouchOneWord : Prop :=
  ∀ (s : State) (c : Nat) (r : Rel) (a : Nat) (v : W),
  let base := 4 * (r.prog.shBase + a)
  let pbase := 4 * (r.prog.paramAt + a)
  (Memory.wf s.shared = true →
    (∀ b, (b < base ∨ base + 4 ≤ b) → Memory.read (spaceWrite c r 3 a v s).shared b = Memory.read s.shared b) ∧
    (∀ b, (b < pbase ∨ pbase + 4 ≤ b) → Memory.read (spaceWrite c r 5 a v s).shared b = Memory.read s.shared b) ∧
    Memory.readW (spaceWrite c r 3 a v s).shared base = v ∧ Memory.readW (spaceWrite c r 5 a v s).shared pbase = v ∧
    Memory.wf (spaceWrite c r 3 a v s).shared = true ∧ Memory.wf (spaceWrite c r 5 a v s).shared = true) ∧
  (Memory.wf (s.cx c).loc = true →
    (∀ b, (b < 4 * a ∨ 4 * a + 4 ≤ b) → Memory.read ((spaceWrite c r 0 a v s).cx c).loc b = Memory.read (s.cx c).loc b) ∧
    (c < 512 → Memory.readW ((spaceWrite c r 0 a v s).cx c).loc (4 * a) = v) ∧
    Memory.wf ((spaceWrite c r 0 a v s).cx c).loc = true) ∧
  (spaceWrite c r 0 a v s).shared = s.shared ∧ (spaceWrite c r 3 a v s).ctx = s.ctx ∧ (spaceWrite c r 5 a v s).ctx = s.ctx

/-- R91, R95, R81: IN, OUT, EVT and REC. -/
def Obligations.PortsEventsAndNotes : Prop :=
  ∀ (s : State) (c : Ctx) (r : Rel),
  (∀ f, At s c (wordD 0x44 f) 0 r → ∃ u, Does (.inp c f) s u ∧
    (∃ r', (u.cx c.val).rel = some r' ∧ r'.pc = (past c (wordD 0x44 f) 0 r).pc) ∧
    (f.d.toNat ≠ 0 → rd u c f.d.toNat = lat r.ports f.addr.toNat 0 ∧ (u.cx c.val).fC = portStale r f.addr.toNat) ∧
    (∀ n, n < 32 → n ≠ f.d.toNat → rd u c n = rd s c n) ∧ u.chan = s.chan ∧ u.shared = s.shared) ∧
  (∀ f, At s c (wordD 0x45 f) 0 r → ∃ u, Does (.out c f) s u ∧ (u.cx c.val).regs = (s.cx c.val).regs ∧
    (r.shadow = true → u.chan = s.chan) ∧
    (r.shadow = false →
      let n := (lat r.prog.chans (f.addr.toNat / 16) (false, 0)).2
      n < 192 → f.addr.toNat % 16 = 8 →
        (u.ch n).stCmd = rd s c f.d.toNat ∧ (u.ch n).stMode = (s.ch n).stMode ∧
        ∃ g ∈ (u.ch n).staged, g.tick = r.tick + r.prog.deadline ∧ g.cmd = some (rd s c f.d.toNat))) ∧
  (∀ f, At s c (wordB 0x50 f) 0 r →
    Does (.evt c f) s ((after s c (wordB 0x50 f) 0 r id).raise
      (match r.prog.chans[f.a.toNat]? with
        | some x => 4 * x.2
        | none => taskSrc (engOfCtx c.val))
      (if f.imm.getLsbD 12 then .uc else .ce) (f.imm.toNat % 4096) (rd s c f.d.toNat) c.val r.prog.num)) ∧
  (∀ f, At s c (wordA 0x51 f) 0 r → ∃ u, Does (.recI c f) s u ∧ (u.cx c.val).regs = (s.cx c.val).regs ∧
    (u.cx c.val).loc = (s.cx c.val).loc ∧ u.shared = s.shared ∧ u.chan = s.chan ∧
    ∃ r', (u.cx c.val).rel = some r' ∧ r'.recWords = r.recWords + f.md.toNat % 8 + 1)

/-- R82, R84: BF, LOOPN, CALLF and END below depth 0. -/
def Obligations.ControlFlow : Prop :=
  ∀ (s : State) (c : Ctx) (r : Rel),
  (∀ f, At s c (wordC 0x60 f) 0 r → condTrue (s.cx c.val) f.cond.toNat = true → ∃ u, Does (.bf c f) s u ∧
    ∃ r', (u.cx c.val).rel = some r' ∧ r'.pc = r.pc + f.off.toNat ∧ r'.calls = r.calls ∧
      r'.cyc = issueAt (profOf c) (insnOf (wordC 0x60 f) 0) r + 3 ∧ (u.cx c.val).regs = (s.cx c.val).regs) ∧
  (∀ f, At s c (wordC 0x60 f) 0 r → condTrue (s.cx c.val) f.cond.toNat = false →
    Does (.bf c f) s (after s c (wordC 0x60 f) 0 r id)) ∧
  (∀ f, At s c (wordC 0x61 f) 0 r → ∃ u, Does (.loopn c f) s u ∧
    ∃ r', (u.cx c.val).rel = some r' ∧ r'.pc = r.pc + 1 ∧
      r'.loops = ⟨r.pc + 1, r.pc + 1 + f.off.toNat, f.cnt.toNat⟩ :: r.loops ∧ (u.cx c.val).regs = (s.cx c.val).regs) ∧
  (∀ f, At s c (wordC 0x62 f) 0 r → condTrue (s.cx c.val) f.cond.toNat = true → ∃ u, Does (.callf c f) s u ∧
    ∃ r', (u.cx c.val).rel = some r' ∧ r'.pc = r.pc + f.off.toNat ∧ r'.calls.length = r.calls.length + 1 ∧ r'.loops = []) ∧
  (∀ f k rest, At s c (wordC 0x63 f) 0 r → isS c.val = false → r.calls = k :: rest →
    condTrue (s.cx c.val) f.cond.toNat = true → ∃ u, Does (.endRel c f) s u ∧
    ∃ r', (u.cx c.val).rel = some r' ∧ r'.pc = k.ret ∧ r'.calls = rest ∧ r'.loops = k.bodies)

/-- R87, R56, R89: END at depth 0 ends the release; an illegal or uncorrectable word and the overrun of 6 + W abort it, with the
control-fault code and the task number. -/
def Obligations.EndsOfARelease : Prop :=
  ∀ (s : State) (c : Ctx) (r : Rel),
  (∀ f, At s c (wordC 0x63 f) 0 r → isS c.val = false → r.calls = [] → condTrue (s.cx c.val) f.cond.toNat = true →
    Does (.endRel c f) s (endRelease c.val
      (max (issueAt (profOf c) (insnOf (wordC 0x63 f) 0) r) (allReady r)) r (after s c (wordC 0x63 f) 0 r id))) ∧
  ((s.cx c.val).rel = some r → ∀ ecc, ∃ u, Does (.illegalInstruction c ecc) s u ∧ (u.cx c.val).rel = none ∧
    (u.cx c.val).regs = (s.cx c.val).regs ∧ u.shared = s.shared ∧ u.chan = s.chan ∧
    ∃ cl, raised u (ctrlSrc (engOfCtx c.val)) cl (if ecc then 0x0004 else 0x0003)) ∧
  ((s.cx c.val).rel = some r → ∃ u, Does (.releaseOverrun c) s u ∧ (u.cx c.val).rel = none ∧
    (u.cx c.val).regs = (s.cx c.val).regs ∧ u.shared = s.shared ∧ u.chan = s.chan ∧
    ∃ cl, raised u (ctrlSrc (engOfCtx c.val)) cl 0x0006)

/-- R38: a read of v0 returns 0; a write to v0 is discarded, along with the flag updates of the same instruction: of every
instruction of the L and U profiles that writes v[d], only the release moves on (DIFF, RPT and LIB keep their other effects). -/
def Obligations.ZeroRegister : Prop :=
  ∀ (s : State) (c : Ctx) (r : Rel), isS c.val = false →
  (∀ f, At s c (wordA 0x02 f) 0 r → f.a = 0 → Does (.mov c f) s (after s c (wordA 0x02 f) 0 r (plain c f.d.toNat 0))) ∧
  (∀ (i : Instr) (f : AForm) w ext, encodeInsn i = some (w, ext) → At s c w ext r → f.d = 0 →
    i ∈ [.mov c f, .sel c f, .add c f, .sub c f, .mul c f, .neg c f, .abs c f, .min c f, .max c f, .andW c f, .orW c f, .xorW c f,
      .shl c f, .asr c f, .lsr c f, .mrd c f, .fadd c f, .fsub c f, .fmul c f, .fma c f, .fdiv c f, .fsqrt c f, .cvtf c f,
      .cvti c f, .sat c f, .clamp c f, .intg c f, .filt1 c f, .lim c f] →
    Does i s (after s c w ext r id)) ∧
  (∀ (i : Instr) (f : BForm) w ext, encodeInsn i = some (w, ext) → At s c w ext r → f.d = 0 → i ∈ [.ldi c f, .addi c f, .jrd c f] →
    Does i s (after s c w ext r id)) ∧
  (∀ f, At s c (wordE 0x04 f) f.ext r → f.d = 0 → Does (.ldk c f) s (after s c (wordE 0x04 f) f.ext r id)) ∧
  (∀ f, At s c (wordD 0x40 f) 0 r → f.d = 0 → Does (.ld c f) s (after s c (wordD 0x40 f) 0 r id)) ∧
  (∀ f, At s c (wordA 0x42 f) 0 r → f.d = 0 →
    inSpace r.prog f.md.toNat (rd s c f.a.toNat + rd s c f.b.toNat).toNat = true →
    Does (.ldx c f) s (after s c (wordA 0x42 f) 0 r id)) ∧
  (∀ f, At s c (wordB 0x82 f) 0 r → f.d = 0 →
    (if f.a.toNat = 0 then f.imm.toNat / 64 else (rd s c f.a.toNat).toNat % 256) < 192 →
    Does (.tmur c f) s (after s c (wordB 0x82 f) 0 r id)) ∧
  (∀ (i : Instr) w ext, encodeInsn i = some (w, ext) → At s c w ext r →
    ((∃ f : BForm, f.d = 0 ∧ i ∈ [.ledg c f, .tmur c f]) ∨ (∃ f : AForm, f.d = 0 ∧ i = .ldx c f)) →
    ∃ u, Does i s u ∧ (u.cx c.val).regs = (s.cx c.val).regs) ∧
  (∀ f, At s c (wordA 0x33 f) 0 r → f.d = 0 → Does (.diff c f) s (after s c (wordA 0x33 f) 0 r
    (plain c f.b.toNat (rd s c f.a.toNat)))) ∧
  (∀ f, At s c (wordA 0x36 f) 0 r → f.d = 0 → ∃ u, Does (.rpt c f) s u ∧ (u.cx c.val).regs = (s.cx c.val).regs) ∧
  (∀ f, At s c (wordD 0x44 f) 0 r → f.d = 0 → ∃ u, Does (.inp c f) s u ∧ (u.cx c.val).regs = (s.cx c.val).regs ∧
    (u.cx c.val).fC = (s.cx c.val).fC) ∧
  (∀ f, At s c (wordE 0x80 f) f.ext r → f.d = 0 → ∃ u, Does (.lib c f) s u ∧ ∀ n, n < 32 → n ≠ 1 → rd u c n = rd s c n)

/-- R58 to R62: LIB, LEDG, TMUR, JRD, JWR and PERIOD. -/
def Obligations.SupervisoryInstructions : Prop :=
  ∀ (s : State) (c : Ctx) (r : Rel),
  (∀ f, At s c (wordE 0x80 f) f.ext r →
    let res := libService (f.ext.toNat % 65536) (fun k => rd s c (f.a.toNat + k)) r.prog s
    ∃ u, Does (.lib c f) s u ∧ u.shared = s.shared ∧ u.chan = s.chan ∧
      (∀ n, n < 32 → n ≠ f.d.toNat → n ≠ f.d.toNat + 1 → rd u c n = rd s c n) ∧
      (∀ v, res.1 = some v → res.2 = none → f.d.toNat ≠ 0 → rd u c f.d.toNat = v ∧ u.fresh = s.fresh) ∧
      (∀ v w, res.1 = some v → res.2 = some w → f.d.toNat ≠ 0 → rd u c f.d.toNat = v ∧ rd u c (f.d.toNat + 1) = w) ∧
      (res.1 = none → u.fresh = s.fresh + 1)) ∧
  (∀ f, At s c (wordB 0x81 f) 0 r →
    let k := if f.a.toNat = 0 then f.imm.toNat / 256 else (rd s c f.a.toNat).toNat % 64
    let g := vat s.clg k Ledger.init
    (r.prog.ledgers.contains k = true → ∃ u, Does (.ledg c f) s u ∧ u.clg = s.clg ∧
      (f.d.toNat ≠ 0 → rd u c f.d.toNat = ledgField (s.cx c.val) g (f.imm.toNat % 8)) ∧
      (u.cx c.val).ledgHi = (if f.imm.toNat % 8 = 0 then (g.q >>> 32).setWidth 32 else (s.cx c.val).ledgHi) ∧
      (∀ n, n < 32 → n ≠ f.d.toNat → rd u c n = rd s c n)) ∧
    (r.prog.ledgers.contains k = false →
      Does (.ledg c f) s (outOfRange (after s c (wordB 0x81 f) 0 r (plain c f.d.toNat 0)) c.val (nw k)))) ∧
  (∀ f, At s c (wordB 0x82 f) 0 r →
    let n := if f.a.toNat = 0 then f.imm.toNat / 64 else (rd s c f.a.toNat).toNat % 256
    (n < 192 → Does (.tmur c f) s (after s c (wordB 0x82 f) 0 r
      (plain c f.d.toNat (tmurItem (vat s.tmu.ch n Therm.init) (f.imm.toNat / 8 % 8))))) ∧
    (192 ≤ n → Does (.tmur c f) s (outOfRange (after s c (wordB 0x82 f) 0 r (plain c f.d.toNat 0)) c.val (nw n)))) ∧
  (∀ f, At s c (wordB 0x83 f) 0 r →
    let j := if f.a.toNat = 0 then f.imm.toNat / 16 else (rd s c f.a.toNat).toNat % 1024
    let (w0, w1, w2, age) := (assocGet r.jrx j).getD (0, 0, 0, 255)
    Does (.jrd c f) s (after s c (wordB 0x83 f) 0 r (plain c f.d.toNat
      (if f.imm.toNat % 4 = 1 then BitVec.ofNat 32 age
       else if f.imm.toNat / 4 % 4 = 0 then w0 else if f.imm.toNat / 4 % 4 = 1 then w1 else w2)))) ∧
  (∀ f, At s c (wordB 0x84 f) 0 r → ∃ u, Does (.jwr c f) s u ∧
    u.jnb = { s.jnb with slot := vput s.jnb.slot (f.imm.toNat / 4) (rd s c f.d.toNat) } ∧ (u.cx c.val).regs = (s.cx c.val).regs) ∧
  (∀ f, At s c (wordA 0x85 f) 0 r → ∃ u, Does (.period c f) s u ∧ (u.cx c.val).regs = (s.cx c.val).regs ∧
    (∀ n, n < 8 → (vat u.pg n PGen.init).inc = if n = f.md.toNat then rd s c f.a.toNat else (vat s.pg n PGen.init).inc) ∧
    (∀ n, n < 8 → (vat u.pg n PGen.init).acc = (vat s.pg n PGen.init).acc))

/-- R163, R165, R170: EN, DIS, SETREF and CHK on a rail of the sequence; a start or stop is asked for here and made at the next tick
start (R98, ChannelTimersAndShafts). The shared task memory is in canonical form, so that a word written reads back. -/
def Obligations.SequenceRails : Prop :=
  ∀ (s : State) (c : Ctx) (r : Rel), Memory.wf s.shared = true → isS c.val = true →
  let t := r.prog
  (∀ f, At s c (wordB 0x70 f) 0 r →
    let i := f.imm.toNat % 8
    let l := orderList (parm s t 8)
    ∃ u, Does (.en c f) s u ∧
      ((s.ch (railCh t i)).st = .off → railCh t i < 192 →
        u.ch (railCh t i) = { s.ch (railCh t i) with startReq := true }) ∧
      ((s.ch (railCh t i)).st = .safe → railCh t i < 192 →
        (u.ch (railCh t i)).restart = true ∧ (u.ch (railCh t i)).st = .safe) ∧
      ((s.ch (railCh t i)).st ≠ .off → (s.ch (railCh t i)).st ≠ .safe → u.chan = s.chan) ∧
      (l.contains i = false → parm u t 8 = orderWord (l ++ [i])) ∧
      (l.contains i = true → parm u t 8 = parm s t 8) ∧ (u.cx c.val).regs = (s.cx c.val).regs ∧
      ∀ m, m ≠ railCh t i → u.ch m = s.ch m) ∧
  (∀ f, At s c (wordB 0x71 f) 0 r → refAddr s t (f.imm.toNat % 8) = none →
    let i := f.imm.toNat % 8
    ∃ u, Does (.dis c f) s u ∧
      (railCh t i < 192 → u.ch (railCh t i) =
        { s.ch (railCh t i) with stopReq := (s.ch (railCh t i)).stoppable, startReq := false }) ∧
      parm u t 8 = orderWord ((orderList (parm s t 8)).filter (· != i)) ∧
      (railOf u c.val i).ramp = none ∧ (u.cx c.val).regs = (s.cx c.val).regs ∧
      ∀ m, m ≠ railCh t i → u.ch m = s.ch m) ∧
  (∀ f, At s c (wordE 0x72 f) f.ext r →
    let i := f.x.toNat % 8
    ∃ u, Does (.setref c f) s u ∧
      (rd s c f.a.toNat = 0 → (railOf u c.val i).ramp = none ∧
        (∀ a, refAddr s t i = some a → shWord u a = f.ext) ∧ (refAddr s t i = none → u.shared = s.shared)) ∧
      (rd s c f.a.toNat ≠ 0 → (railOf u c.val i).ramp = some (f.ext, rd s c f.a.toNat) ∧ u.shared = s.shared) ∧
      u.chan = s.chan) ∧
  (∀ f, At s c (wordE 0x74 f) f.ext r → f.x.toNat / 8192 = 0 →
    let i := f.x.toNat % 8
    (railStale s t i = true → ∃ u, Does (.chk c f) s u ∧ rd u c f.d.toNat = 3 ∧ u.fcr = s.fcr) ∧
    (railStale s t i = false → (railOf s c.val i).cls = .ok →
      ∃ u, Does (.chk c f) s u ∧ rd u c f.d.toNat = 0 ∧ u.fcr = s.fcr ∧ u.nvs = s.nvs) ∧
    (railStale s t i = false → (railOf s c.val i).cls = .fault →
      ((seqOf s c.val).st = .up ∨ (seqOf s c.val).st = .down) →
      ∃ u, Does (.chk c f) s u ∧ (seqOf u c.val).st = .unwind ∧ (seqOf u c.val).unwFault = true ∧ (u.cx c.val).rel = none ∧
        u.snapSeq = s.snapSeq + 1 ∧ (parm u t 1).bits 31 28 = 1 ∧ (parm u t 1).bits 23 16 = i))

/-- R169 to R172: WAIT, JMP, JC, CALL in S. A jump or call to an earlier word, and a wait that does not pass, are yields. -/
def Obligations.SequenceFlow : Prop :=
  ∀ (s : State) (c : Ctx) (r : Rel), isS c.val = true →
  let t := r.prog
  (∀ f, At s c (wordE 0x73 f) f.ext r → (seqOf s c.val).wait = .none →
    let kind := f.x.toNat / 1024
    (waitTest s c.val t kind (f.x.toNat % 8) (f.ext.extractLsb' 0 16).toInt = true →
      ∃ u, Does (.wait c f) s u ∧ rd u c f.d.toNat = 0 ∧ (seqOf u c.val).wait = .none ∧ (u.cx c.val).rel.isSome = true) ∧
    (waitTest s c.val t kind (f.x.toNat % 8) (f.ext.extractLsb' 0 16).toInt = false →
      ∃ u, Does (.wait c f) s u ∧ (u.cx c.val).rel = none ∧ (seqOf u c.val).resume = r.pc ∧ (seqOf u c.val).calls = r.calls ∧
        (seqOf u c.val).wait ≠ .none ∧ (u.cx c.val).regs = (s.cx c.val).regs)) ∧
  (∀ f, At s c (wordC 0x75 f) 0 r →
    let pc := ((r.pc : Int) + f.off.toInt).toNat
    (0 ≤ f.off.toInt → ∃ u, Does (.jmp c f) s u ∧ ∃ r', (u.cx c.val).rel = some r' ∧ r'.pc = pc ∧ r'.calls = r.calls) ∧
    (f.off.toInt < 0 → ∃ u, Does (.jmp c f) s u ∧ (u.cx c.val).rel = none ∧ (seqOf u c.val).resume = pc)) ∧
  (∀ f, At s c (wordC 0x76 f) 0 r →
    let pc := ((r.pc : Int) + f.off.toInt).toNat
    (condS s c.val t (insnOf (wordC 0x76 f) 0) = false → Does (.jc c f) s (after s c (wordC 0x76 f) 0 r id)) ∧
    (condS s c.val t (insnOf (wordC 0x76 f) 0) = true → 0 ≤ f.off.toInt →
      ∃ u, Does (.jc c f) s u ∧ ∃ r', (u.cx c.val).rel = some r' ∧ r'.pc = pc) ∧
    (condS s c.val t (insnOf (wordC 0x76 f) 0) = true → f.off.toInt < 0 →
      ∃ u, Does (.jc c f) s u ∧ (u.cx c.val).rel = none ∧ (seqOf u c.val).resume = pc)) ∧
  (∀ f, At s c (wordC 0x7C f) 0 r →
    let pc := ((r.pc : Int) + f.off.toInt).toNat
    (condS s c.val t (insnOf (wordC 0x7C f) 0) = false → Does (.call c f) s (after s c (wordC 0x7C f) 0 r id)) ∧
    (condS s c.val t (insnOf (wordC 0x7C f) 0) = true → 0 ≤ f.off.toInt →
      ∃ u, Does (.call c f) s u ∧ ∃ r', (u.cx c.val).rel = some r' ∧ r'.pc = pc ∧
        r'.calls = ⟨r.pc + 1, false, []⟩ :: r.calls) ∧
    (condS s c.val t (insnOf (wordC 0x7C f) 0) = true → f.off.toInt < 0 →
      ∃ u, Does (.call c f) s u ∧ (u.cx c.val).rel = none ∧ (seqOf u c.val).resume = pc ∧
        (seqOf u c.val).calls = ⟨r.pc + 1, false, []⟩ :: r.calls))

/-- R159, R161, R162, R166, R167, R170, R171, R175: RETRY, MARK, SEND, AWAIT and LOG; the events of a sequence. -/
def Obligations.SequenceRetryAndEvents : Prop :=
  (∀ (s : State) (c : Ctx) (r : Rel), isS c.val = true →
  let t := r.prog
  let q := seqOf s c.val
  (∀ f, At s c (wordE 0x77 f) f.ext r → Memory.wf s.shared = true →
    let from_ := (parm s t 1).bits 27 24
    (q.st = .fault → (from_ = 1 ∨ from_ = 2) → q.retries < f.x.toNat % 16 → ∃ u, Does (.retry c f) s u ∧
      (seqOf u c.val).st = .retryWait ∧ (seqOf u c.val).retries = q.retries + 1 ∧ (u.cx c.val).rel = none ∧
      (seqOf u c.val).retryLeft = (insnOf (wordE 0x77 f) f.ext).timeSteps ∧ (seqOf u c.val).runs = false) ∧
    ((q.st ≠ .fault ∨ (from_ ≠ 1 ∧ from_ ≠ 2) ∨ f.x.toNat % 16 ≤ q.retries) →
      Does (.retry c f) s (after s c (wordE 0x77 f) f.ext r id))) ∧
  (∀ f, At s c (wordB 0x78 f) 0 r →
    (q.st = .down → seqReqOn s t = true → seqSupPres s t = true → ∃ u, Does (.mark c f) s u ∧
      (seqOf u c.val).st = .paused ∧ (seqOf u c.val).resume = r.pc + 1 ∧ (seqOf u c.val).runs = false ∧ (u.cx c.val).rel = none) ∧
    (q.st ≠ .down ∨ seqReqOn s t = false ∨ seqSupPres s t = false → Does (.mark c f) s (after s c (wordB 0x78 f) 0 r id))) ∧
  (∀ f, At s c (wordE 0x79 f) f.ext r →
    let j := f.x.toNat % 1024
    (s.prl.role = .standby → Does (.send c f) s (after s c (wordE 0x79 f) f.ext r (plain c f.d.toNat 0))) ∧
    (s.prl.role ≠ .standby → jPresent s j = false →
      Does (.send c f) s (after s c (wordE 0x79 f) f.ext r (plain c f.d.toNat 1))) ∧
    (s.prl.role ≠ .standby → jPresent s j = true → ∃ u, Does (.send c f) s u ∧ rd u c f.d.toNat = 0 ∧
      ∃ p, u.jnb.outQ = s.jnb.outQ ++ [(0x10, BitVec.ofNat 10 j, p)])) ∧
  (∀ f, At s c (wordE 0x7A f) f.ext r →
    let want : SeqSt := if f.x.getLsbD 10 then .off else .on
    let dev : JAddr := BitVec.ofNat 10 (f.x.toNat % 1024)
    (slaveState s c.val dev (f.ext.toNat % 65536) = some want → ∃ u, Does (.await c f) s u ∧
      rd u c f.d.toNat = 0 ∧ (seqOf u c.val).wait = .none) ∧
    (slaveState s c.val dev (f.ext.toNat % 65536) = none → q.wait = .none → ∃ u, Does (.await c f) s u ∧
      (u.cx c.val).rel = none ∧ (seqOf u c.val).resume = r.pc ∧ (seqOf u c.val).wait ≠ .none)) ∧
  (∀ f, At s c (wordB 0x7B f) 0 r → ∃ u, Does (.log c f) s u ∧ (u.cx c.val).regs = (s.cx c.val).regs ∧
    u.shared = s.shared ∧ u.chan = s.chan ∧ u.nvs = s.nvs)) ∧
  (∀ (s : State) (c : Ctx) (t : Task), seqTask s c.val = some t → Memory.wf s.shared = true → isS c.val = true →
  let q := seqOf s c.val
  (∀ k : Fin 8, ∃ u, Does (.railClassChange c k) s u ∧ u.chan = s.chan ∧ (railOf u c.val k.val).cls =
    (if (railOf s c.val k.val).count + 1 < (railWord s t k.val 0).bits 15 12 then (railOf s c.val k.val).cls
     else (railOf s c.val k.val).cand)) ∧
  (∀ kind rail level d tf n, q.wait = .wait kind rail level d tf n → q.timer + 1 < n → Does (.waitTimeout c) s s) ∧
  (∀ kind rail level d tf n, q.wait = .wait kind rail level d tf n → n ≤ q.timer + 1 → d < 32 → (kind = 0 ∨ tf = false) →
    ∃ u, Does (.waitTimeout c) s u ∧ rd u c d = (if kind = 0 then 0 else 1) ∧ (seqOf u c.val).wait = .none) ∧
  (∀ kind rail level d n, q.wait = .wait kind rail level d true n → n ≤ q.timer + 1 → kind ≠ 0 → q.st = .up → rail < 8 →
    ∃ u, Does (.waitTimeout c) s u ∧ (seqOf u c.val).st = .unwind ∧ (parm u t 1).bits 31 28 = 3 ∧
      (parm u t 1).bits 23 16 = rail) ∧
  (∀ want dev tk d tf n, q.wait = .await want dev tk d tf n → q.timer + 1 < n → Does (.awaitTimeout c) s s) ∧
  (∀ want dev tk d n, q.wait = .await want dev tk d false n → n ≤ q.timer + 1 → d < 32 →
    ∃ u, Does (.awaitTimeout c) s u ∧ rd u c d = 1 ∧ (seqOf u c.val).wait = .none) ∧
  (∀ want dev tk d n, q.wait = .await want dev tk d true n → n ≤ q.timer + 1 → q.st = .up →
    ∃ u, Does (.awaitTimeout c) s u ∧ (seqOf u c.val).st = .unwind ∧ (parm u t 1).bits 31 28 = 4) ∧
  (q.st = .retryWait → 1 < q.retryLeft → Does (.retryDelayEnd c) s s) ∧
  (q.st = .retryWait → q.retryLeft ≤ 1 → seqTarget s t = true → ∃ u, Does (.retryDelayEnd c) s u ∧ (seqOf u c.val).st = .up ∧
    (seqOf u c.val).runs = true ∧ (seqOf u c.val).resume = (parm s t 2).bits 15 0) ∧
  (q.st = .unwind → q.unwLeft = 1 → q.unwFault = true → orderList (parm s t 8) = [] → ∃ u, Does (.unwindDelayEnd c) s u ∧
    (seqOf u c.val).st = .fault ∧ (seqOf u c.val).runs = true ∧ (seqOf u c.val).resume = (parm s t 3).bits 15 0) ∧
  (q.st = .unwind → q.unwLeft = 1 → q.unwFault = false → orderList (parm s t 8) = [] → ∃ u, Does (.unwindDelayEnd c) s u ∧
    (seqOf u c.val).st = .off ∧ (seqOf u c.val).retries = 0) ∧
  (q.st = .unwind → q.unwLeft ≠ 1 → Does (.unwindDelayEnd c) s s) ∧
  (seqSupUsed s t = true → (parm s t 6).bits 31 16 ≤ q.lossSteps + 1 → ∃ u, Does (.supplyLoss c) s u ∧ seqSupOk u t = false ∧
    seqReqOn u t = seqReqOn s t ∧ u.chan = s.chan) ∧
  (q.lossSteps + 1 < (parm s t 6).bits 31 16 → Does (.supplyLoss c) s s) ∧
  (seqSupUsed s t = true → (parm s t 6).bits 15 0 * 1000 ≤ q.returnSteps + 1 → ∃ u, Does (.supplyQualified c) s u ∧
    seqSupOk u t = true ∧ seqReqOn u t = seqReqOn s t ∧ u.chan = s.chan) ∧
  (q.returnSteps + 1 < (parm s t 6).bits 15 0 * 1000 → Does (.supplyQualified c) s s) ∧
  (q.st = .on → 100000 ≤ q.onSteps + 1 → ∃ u, Does (.retriesClear c) s u ∧ (seqOf u c.val).retries = 0 ∧
    (seqOf u c.val).st = .on) ∧
  (q.onSteps + 1 < 100000 → Does (.retriesClear c) s s))

/-- R141, R160, R161, R36, R85, R90, R97, R134, R135, R140. In RUN, on an engine that is not fenced, a sequence is served once in a step
of 20 ticks, after the engine's sequences of lower context: a request takes OFF to UP, its end ON to DOWN and LOCKED to OFF; a program
that runs resumes where it yielded. In RUN an idle engine starts the release that is due: at word 0, with its release tick, its port
words and a cleared start reason; a release that waits starts with the words fixed for it. That a service is no released task of
R27, so that it leaves `clk` as it is, is the model's reading (log entry 63). -/
def Obligations.ServiceAndDispatch : Prop :=
  (∀ (s : State) (c : Ctx) (t : Task), seqTask s c.val = some t →
  let q := seqOf s c.val
  let step := s.now - s.clk.tc.toNat % 20
  (s.clk.chip = .run → (s.engine (engOfCtx c.val)).fenced = false → q.served ≠ some step →
    (∀ k, k < c.val → engOfCtx k = engOfCtx c.val → seqTask s k ≠ none → (seqOf s k).served = some step) →
    ∃ u, Does (.seqService c) s u ∧ (seqOf u c.val).served = some step ∧ u.clk = s.clk ∧
      ((u.cx c.val).rel.isSome = (seqRuns (seqOf u c.val).st && (seqOf u c.val).runs)) ∧
      (∀ r, (u.cx c.val).rel = some r → r.pc = (seqOf u c.val).resume ∧ r.calls = (seqOf u c.val).calls ∧ r.tick = s.now ∧
        r.cyc = 0 ∧ (u.cx c.val).reason = 0) ∧
      (s.upe.back = [] → s.upe.old = none → Memory.wf s.shared = true → seqSupUsed s t = false → (s.cx c.val).rel = none →
        (∀ i, (railOf s c.val i).ramp = none) → (∀ i, i < t.chans.length → (railWord s t i 0).bit 0 = false) →
        (q.st = .off → seqReqOn s t = true → (seqOf u c.val).st = .up ∧ (u.cx c.val).rel.isSome = true ∧
          (seqOf u c.val).resume = (parm s t 2).bits 15 0) ∧
        (q.st = .off → seqReqOn s t = false → (seqOf u c.val).st = .off ∧ (u.cx c.val).rel = none) ∧
        (q.st = .up → seqReqOn s t = true → q.runs = true → (seqOf u c.val).st = .up ∧ (seqOf u c.val).resume = q.resume ∧
          (u.cx c.val).rel.isSome = true) ∧
        (q.st = .on → seqReqOn s t = true → (seqOf u c.val).st = .on ∧ (seqOf u c.val).onSteps = q.onSteps + 1) ∧
        (q.st = .on → seqReqOn s t = false → (seqOf u c.val).st = .down ∧ (u.cx c.val).rel.isSome = true ∧
          (seqOf u c.val).resume = (parm s t 2).bits 31 16) ∧
        (q.st = .locked → seqReqOn s t = false → (seqOf u c.val).st = .off ∧ (seqOf u c.val).retries = 0))) ∧
  (s.clk.chip ≠ .run ∨ (s.engine (engOfCtx c.val)).fenced = true ∨ q.served = some step → Does (.seqService c) s s)) ∧
  (∀ (s : State) (c : Ctx) (t : Task) (q : Place), taskAt s c.val = some t → t.profile ≠ .s → t.lib = none →
  let e := engOfCtx c.val
  let starts := ∃ u, Does (.releaseDispatch c) s u ∧ u.clk.released = true ∧ (u.cx c.val).reason = 0 ∧ u.chan = s.chan ∧
      (u.cx c.val).wait = none ∧ (u.cx c.val).lastTick = some s.now ∧
      ∃ r, (u.cx c.val).rel = some r ∧ r.pc = 0 ∧ r.tick = s.now ∧ r.cyc = 0 ∧ r.calls = [] ∧ r.staged = [] ∧
        r.prog.num = t.num ∧ r.ports.length = 16 * t.chans.length
  (s.clk.chip = .run → s.prl.halted = false → (s.engine e).fenced = false → (s.engine e).busy ≤ tickCycles e * s.now →
    (∀ k, k < 512 → engOfCtx k = e → (s.cx k).rel = none) →
    (placesOf s).filter (·.eng == e) = [q] → q.ctx = c.val → q.task = t.num →
    (s.cx c.val).wait = none → (s.cx c.val).lastTick ≠ some s.now → dispatchable s t = true →
    (t.profile = .l → 0 < t.period → s.clk.tc.toNat % t.period = (q.phase + 1) % t.period → starts) ∧
    (t.profile = .u → t.period = 0 → s.clk.tc.toNat % 200 = 0 → starts) ∧
    (t.profile = .u → 0 < t.period → s.clk.tc.toNat % 2000 = 200 * q.phase → s.epoch % t.period = 0 → starts)) ∧
  (mayDispatch s c.val = true → (s.cx c.val).wait = none → starts) ∧
  (∀ r, mayDispatch s c.val = true → (s.cx c.val).wait = some r → r.prog.lib = none → Does (.releaseDispatch c) s
    { s.modCx c.val (fun x => { x with wait := none, rel := some { r with start := startOf s e r.tick } }) with
      clk := { s.clk with released := true } })) ∧
  (∀ (s : State) (c : Ctx) (t : Task), taskAt s c.val = some t → t.lib ≠ none → mayDispatch s c.val = true →
    (s.cx c.val).wait = none → ∃ u, Does (.releaseDispatch c) s u ∧ u.clk.released = true ∧ (u.cx c.val).rel = none ∧
      (u.cx c.val).wait = none) ∧
  (∀ (s : State) (c : Ctx), mayDispatch s c.val = false → Does (.releaseDispatch c) s s) ∧
  (∀ (s : State) (c : Ctx), s.clk.chip ≠ .run ∨ (s.engine (engOfCtx c.val)).fenced = true ∨
    (∃ k, k < 512 ∧ engOfCtx k = engOfCtx c.val ∧ (s.cx k).rel ≠ none) → mayDispatch s c.val = false)

/-- R22, R24 to R29: the alignment of the CTU. An offset is the row's operand less the path delay; the average is taken where TC modulo
2,000 is 0. -/
def Obligations.ClockAlignment : Prop :=
  ∀ s : State, clockRuns s = true →
  let sum : Int := s.clk.offs.foldl (· + ·) 0
  (∀ (raw : Int) ref, s.clk.refsel ≠ .xtal → (raw + pathDelay s).natAbs ≤ 250000 → s.clk.notAligned = false →
    Does (.syncMeasure raw ref) s { s with clk := { s.clk with offs := (raw + pathDelay s) :: s.clk.offs } }) ∧
  (∀ (raw : Int) ref, s.clk.refsel ≠ .xtal → 250000 < (raw + pathDelay s).natAbs → s.clk.released = false →
    ∃ u, Does (.syncMeasure raw ref) s u ∧ u.clk.ts = 50 * ref ∧ u.clk.tc = ref.setWidth 48 ∧ u.clk.notAligned = false ∧
      u.clk.mon.getLsbD 6 = true ∧ ∃ code, raised u 972 .uc code) ∧
  (∀ (raw : Int) ref, s.clk.refsel ≠ .xtal → 250000 < (raw + pathDelay s).natAbs → s.clk.released = true → s.clk.notAligned = false →
    ∃ u, Does (.syncMeasure raw ref) s u ∧ u.clk.notAligned = true ∧ u.clk.ts = s.clk.ts ∧ u.clk.tc = s.clk.tc ∧
      u.clk.mon.getLsbD 5 = true ∧ ∃ code, raised u 972 .uc code) ∧
  (∀ (raw : Int) ref, s.clk.refsel = .xtal → Does (.syncMeasure raw ref) s s) ∧
  (s.clk.tc.toNat % 2000 = 0 → s.clk.offs ≠ [] → ∃ u, Does .alignNudge s u ∧ u.clk.offs = [] ∧ u.clk.alignValid = true ∧
    u.clk.nudges = (if 210 * s.clk.offs.length < sum.natAbs then s.clk.nudges + 1 else s.clk.nudges) ∧
    u.clk.nudgeDir = (if 210 * s.clk.offs.length < sum.natAbs then (if 0 < sum then -1 else 1) else 0) ∧
    u.clk.ts = s.clk.ts ∧ (sum.natAbs ≤ 40000 * s.clk.offs.length → u.clk.aligned = true ∧ u.clk.outEpochs = 0)) ∧
  (s.clk.tc.toNat % 2000 ≠ 0 → Does .alignNudge s s ∧ Does .alignFail s s) ∧
  (s.clk.tc.toNat % 2000 = 0 → s.clk.offs ≠ [] → s.clk.outEpochs = 9 → 40000 * s.clk.offs.length < sum.natAbs →
    s.clk.notAligned = false → ∃ u, Does .alignFail s u ∧ u.clk.aligned = false ∧ u.clk.mon.getLsbD 5 = true ∧
    ∃ code, raised u 972 .uc code) ∧
  (s.clk.refsel ≠ .xtal → ∃ u, Does .refLost s u ∧ u.clk.refsel = .xtal ∧ u.clk.holdover = true ∧ u.clk.mon.getLsbD 4 = true ∧
    u.clk.ts = s.clk.ts ∧ ∃ cl code, raised u 971 cl code) ∧
  (∀ src, src ≠ .xtal → refWanted s = src → ∃ u, Does (.refReturn src) s u ∧ u.clk.refsel = src ∧
    u.clk.holdover = false ∧ u.clk.ts = s.clk.ts) ∧
  (∀ src, refWanted s ≠ src → Does (.refReturn src) s s)

/-- R31 to R33, R333, Table 2.6: loss of lock, ratio error, crystal stop, the snapshot, ALIGN_EN, and waking from DORMANT. -/
def Obligations.ClockFaultsAndWake : Prop :=
  (∀ s : State,
  (s.clk.rootLock = true → ∃ u, Does .lockLoss s u ∧ u.clk.rootLock = false ∧ u.clk.mon.getLsbD 1 = true ∧
    ∃ code, raised u 968 .fe code) ∧
  (s.clk.tickRun = true → ∃ u, Does .ratioErr s u ∧ u.clk.mon.getLsbD 2 = true ∧ ∃ code, raised u 969 .fe code) ∧
  (s.clk.chip ≠ .reset → ∃ u, Does .xtalStop s u ∧ u.clk.mon.getLsbD 3 = true ∧ ∃ code, raised u 970 .fe code) ∧
  (s.clk.chip = .boot ∨ s.clk.chip = .run → s.prl.role ≠ .standby →
    Does .ctuSnap s { s with clk := { s.clk with snapTc := s.clk.tc, snapTs := s.clk.ts } }) ∧
  (s.clk.chip = .boot → s.prl.role = .solo → ∀ en, ∃ u, Does (.ctuAlignEnWrite en) s u ∧ u.clk.alignEn = en ∧
    u.clk.ts = s.clk.ts) ∧
  (s.clk.chip = .run → s.prl.role = .solo → ∀ en, Does (.ctuAlignEnWrite en) s s)) ∧
  (∀ s : State, s.clk.chip = .dormant →
  (∀ src, s.clk.wake.getLsbD (wakeBit src) = true → ∃ u, Does (.wakeEvent src) s u ∧ u.clk.waking = true ∧
    u.clk.chip = .dormant ∧ (∀ p, src = .tw p → ((vat u.twp p.val Twp.init).evt.getLsbD 0 = true))) ∧
  (∀ src, s.clk.wake.getLsbD (wakeBit src) = false → Does (.wakeEvent src) s s) ∧
  (s.clk.waking = true → ∃ u, Does .wakeDividersRestart s u ∧ u.clk.tickRun = true ∧ u.clk.rootLock = true ∧
    u.clk.waking = false ∧ (s.clk.ts.toNat + 100 < 2 ^ 64 → s.clk.ts.toNat % 2 = 0 → u.clk.ts.toNat % 50 = 0) ∧
    u.clk.tc = BitVec.ofNat 48 (u.clk.ts.toNat / 50)) ∧
  (s.clk.tickRun = true → ∃ u, Does .wakeMgpResume s u ∧ u.clk.chip = .run ∧ u.tmu.run = true))

/-- R98 to R101, R108 to R110, R116: transitions of a channel that fall due, its rows at a tick start, highest first, the fallback
table, and the edges of a shaft input: an edge counts once its pulse has lasted 200 ns. -/
def Obligations.ChannelTimersAndShafts : Prop :=
  (∀ (s : State) (n : Ch),
  ((s.ch n.val).st = .hold → (s.ch n.val).holdTick + holdLimit8 s n.val ≤ s.now → ∃ u, Does (.holdLimitExpiry n) s u ∧
    (u.ch n.val).st = .safe ∧ (u.ch n.val).restart = false ∧
    (∃ cl, raised u (4 * n.val + 1) cl 0x0102) ∧ ∀ m, m ≠ n.val → (u.ch m).st = (s.ch m).st) ∧
  ((s.ch n.val).st = .arming → (s.ch n.val).armLeft = 0 ∨ ownerOf s n.val = none → (s.ch n.val).armZero < s.now →
    ∃ u, Does (.armingComplete n) s u ∧ (u.ch n.val).st = .control ∧ ∀ m, m ≠ n.val → (u.ch m).st = (s.ch m).st) ∧
  ((s.ch n.val).st = .safe → (s.ch n.val).restart = true → 4000 ≤ (s.ch n.val).restartRun →
    ∃ u, Does (.restartCountDone n) s u ∧ (u.ch n.val).st = .arming ∧
    (u.ch n.val).restart = false ∧ (∀ d, chanDecl s n.val = some d → (u.ch n.val).armLeft = d.armSamples) ∧
    ∀ m, m ≠ n.val → (u.ch m).st = (s.ch m).st) ∧
  ((s.ch n.val).restartRun < 4000 → Does (.restartCountDone n) s s) ∧
  ((s.ch n.val).st ≠ .arming ∨ s.now ≤ (s.ch n.val).armZero → Does (.armingComplete n) s s) ∧
  ((s.ch n.val).st ≠ .hold ∨ s.now < (s.ch n.val).holdTick + holdLimit8 s n.val → Does (.holdLimitExpiry n) s s) ∧
  (∀ tk l r pl, s.adm.move = (tk, l) :: r → fallbackPlaces s l = some pl → assocGet s.adm.moveOld tk = none →
    ∃ u, Does .fallbackTableInForce s u ∧
    u.adm.place = pl ∧ u.adm.move = r ∧ u.adm.first = BitVec.ofNat 8 (lat (l.filter (· < 48)) 0 0xFF)) ∧
  (s.adm.move = [] → Does .fallbackTableInForce s s)) ∧
  (∀ (s : State) (n : Ch),
  let c := s.ch n.val
  let d := (chanTick n.val s).ch n.val
  (c.fenceReq = true → c.st ≠ .fenced → d.st = .fenced) ∧
  (c.fenceReq = false → c.readmitReq = true → c.st = .fenced → d.st = .safe ∧ d.restart = true) ∧
  (c.fenceReq = false → c.readmitReq = false → c.safeReq = true → c.live = true → d.st = .safe ∧ d.restart = false) ∧
  (c.fenceReq = false → c.readmitReq = false → (c.safeReq && c.live) = false →
    (c.st = .hold → s.now < c.holdTick + holdLimit8 s n.val) →
    (c.due = true ∨ c.st = .safe ∨ frameDue s (linkOf n.val) = false) →
    (c.stopReq = true → c.stoppable = true → d.st = .off ∧ d.mA = 0 ∧ d.mB = 0 ∧ d.mC = 0 ∧ d.mD = 0 ∧ d.mstat = 0) ∧
    (c.stopReq = false → c.startReq = true → c.st = .off → canStart s n.val = true → (chanDecl s n.val).isSome = true →
      d.st = .arming ∧ d.startReq = false) ∧
    (c.stopReq = false → c.startReq = true → canStart s n.val = false → d.st = c.st) ∧
    (c.stopReq = false → c.startReq = false → armed9 n.val s = true → d.st = .control))) ∧
  (∀ (s : State) (i : Fin 4), (∀ j, j < 4 → j ≠ i.val → (vat s.shaft j Shaft.init).pulse = none) →
  let x := vat s.shaft i.val Shaft.init
  (∀ rising ts t r, x.pulse = some (t, r) → (ts - t).toNat < 20 →
    ∃ u, Does (.shaftEdge i rising ts) s u ∧ vat u.shaft i.val Shaft.init = { x with pulse := none } ∧ u.fcr = s.fcr) ∧
  (∀ rising ts, x.pulse = none → ∃ u, Does (.shaftEdge i rising ts) s u ∧
    vat u.shaft i.val Shaft.init = { x with pulse := some (ts, rising) } ∧ u.fcr = s.fcr) ∧
  (∀ rising ts t r t0, x.pulse = some (t, r) → 20 ≤ (ts - t).toNat →
    x.cfg.bit 31 = true → x.cfg.bit 14 = false → x.cfg.bit 13 ≠ r → x.tsLast = some t0 →
    i.val % 2 = 0 → x.lock = true → x.interval ≠ 0 → x.interval ≤ 2 * (t - t0).toNat → 2 * (t - t0).toNat ≤ 3 * x.interval →
    1000 ≤ (t - t0).toNat → (t - t0).toNat ≤ 10000000 →
    ∃ u, Does (.shaftEdge i rising ts) s u ∧ (vat u.shaft i.val Shaft.init).lock = true ∧
      (vat u.shaft i.val Shaft.init).interval = (t - t0).toNat ∧ (vat u.shaft i.val Shaft.init).tsLast = some t ∧
      (vat u.shaft i.val Shaft.init).pulse = some (ts, rising) ∧
      (vat u.shaft i.val Shaft.init).k = (if x.cfg.bits 12 0 ≤ x.k + 1 then 0 else x.k + 1) ∧ u.fcr = s.fcr)) ∧
  (∀ (s : State) (i : Fin 4),
  let x := vat s.shaft i.val Shaft.init
  (∀ t, x.lock = true → x.tsLast = some t → 2 * x.interval < (s.clk.ts - t).toNat →
    ∃ u, Does (.shaftLockTimeout i) s u ∧ (vat u.shaft i.val Shaft.init).lock = false ∧
    (vat u.shaft i.val Shaft.init).lost = true ∧ ∃ cl, raised u 954 cl 3) ∧
  (∀ t, x.tsLast = some t → (s.clk.ts - t).toNat ≤ 2 * x.interval → Does (.shaftLockTimeout i) s s) ∧
  (x.lock = false → Does (.shaftLockTimeout i) s s))

/-- R188 to R194, Table 8.9 rows 1, 2, 3, 8, 9 and 10: the training and negotiation of a stage link. -/
def Obligations.LinkTraining : Prop :=
  ∀ (s : State) (l : LinkNo),
  let x := s.lk l.val
  (linksRun s = true → x.st = .down → x.enable = true → x.fenced = false → x.holdoff ≤ s.now →
    ∃ u, Does (.linkCommaAlign l) s u ∧ (u.lk l.val).st = .train ∧ (u.lk l.val).fast = false ∧ (u.lk l.val).tstep = 1 ∧
      (u.lk l.val).fullTrains = x.fullTrains + 1) ∧
  (∀ m, x.st = .train → x.tstep = 1 → ∃ u, Does (.trainStepEnd l m) s u ∧ (u.lk l.val) = { x with tstep := 2 }) ∧
  (∀ m : TrainMeas, x.st = .train → x.tstep = 2 →
    10 * (m.sOff + m.sReady + (m.tripNs - m.ta)) + (if 2 ≤ min 3 m.vmax then 1417 else 583) ≤ 4700 → m.tripNs - m.ta ≤ 240 →
    ∃ u, Does (.trainStepEnd l m) s u ∧ (u.lk l.val).tstep = 3 ∧ (u.lk l.val).rtt = m.tripNs - m.ta ∧ (u.lk l.val).ta = m.ta ∧
      (u.lk l.val).xEnd = 470 - (m.tripNs - m.ta) ∧ (u.lk l.val).st = .train) ∧
  (∀ m : TrainMeas, x.st = .train → x.tstep = 2 → 240 < m.tripNs - m.ta → ∃ u, Does (.trainStepEnd l m) s u ∧
    (u.lk l.val).st = .down ∧ (u.lk l.val).evt.getLsbD 2 = true ∧ (u.lk l.val).holdoff = s.now + 2000000) ∧
  (∀ m : TrainMeas, x.st = .train → x.tstep = 3 → x.fast = false → ∃ u, Does (.trainStepEnd l m) s u ∧
    (u.lk l.val).st = .negotiate ∧ (u.lk l.val).digest = m.digest ∧ (u.lk l.val).version = 0) ∧
  (∀ m : TrainMeas, x.st = .train → x.tstep = 3 → x.fast = true → x.digest = m.digest → s.now < x.resume →
    ∃ u, Does (.trainStepEnd l m) s u ∧ (u.lk l.val).st = .train ∧ (u.lk l.val).tstep = 4) ∧
  (x.st = .train → x.tstep ≠ 4 → x.since + (if x.fast then 32 else 2000) ≤ s.now → ∃ u, Does (.trainTimeout l) s u ∧
    (u.lk l.val).st = .down ∧ (u.lk l.val).evt.getLsbD 2 = true ∧ (u.lk l.val).holdoff = s.now + 2000000) ∧
  (s.now < x.since + (if x.fast then 32 else 2000) → Does (.trainTimeout l) s s) ∧
  (∀ ws : List W, ws.length = 18 → x.st = .negotiate → x.switchTick = none →
    (∀ v, commonVersion ((lat ws 1 0).bits 31 24) ((lat ws 1 0).bits 23 16) = some v → helloBad { x with hello := ws } ws = false →
      ∃ u, Does (.moduleHello l ws) s u ∧ (u.lk l.val).version = v ∧ (u.lk l.val).hello = ws ∧ (u.lk l.val).st = .negotiate ∧
        ∃ sw, (u.lk l.val).switchTick = some sw ∧ s.now + 32 < sw ∧ sw % 2 = 0) ∧
    (commonVersion ((lat ws 1 0).bits 31 24) ((lat ws 1 0).bits 23 16) = none →
      ∃ u, Does (.moduleHello l ws) s u ∧ (u.lk l.val).st = .down ∧ (u.lk l.val).evt.getLsbD 3 = true)) ∧
  (∀ ver crc, x.st = .negotiate → x.switchTick.isSome = true → ver.toNat = x.version → crc = crc32cW x.agree →
    ∃ u, Does (.ready l ver crc) s u ∧ (u.lk l.val) = { x with ready := true }) ∧
  (x.st = .negotiate → x.ready = false → x.since + 400 ≤ s.now → ∃ u, Does (.negotiateTimeout l) s u ∧
    (u.lk l.val).st = .down ∧ (u.lk l.val).evt.getLsbD 2 = true) ∧
  (s.now < x.since + 400 ∨ x.ready = true → Does (.negotiateTimeout l) s s) ∧
  (x.ready = false ∨ x.switchTick = none → Does (.linkSwitchTick l) s s) ∧
  (∀ sw, x.st = .negotiate → x.ready = true → x.switchTick = some sw → sw ≤ s.now → ∃ u, Does (.linkSwitchTick l) s u ∧ (u.lk l.val).st = .up ∧ (u.lk l.val).miss = 0 ∧
    (u.lk l.val).version = x.version) ∧
  (x.holdoff ≤ s.now → ∃ u, Does (.linkDownHoldoffEnd l) s u ∧ (u.lk l.val) = { x with holdoff := 0 }) ∧
  (s.now < x.holdoff → ∃ u, Does (.linkDownHoldoffEnd l) s u ∧ u.lk l.val = x) ∧
  (∃ u, Does (.receiverSignalLoss l) s u ∧ (u.lk l.val).st = .down)

/-- R91, R98, R181, R202: an outbound and an inbound frame of a link. -/
def Obligations.LinkFrames : Prop :=
  ∀ (s : State) (l : LinkNo), linksRun s = true →
  let x := s.lk l.val
  (x.st = .up → x.fenced = false → x.version = 3 → ∃ u, Does (.outboundFrame l) s u ∧
    (∃ f, (u.lk l.val).sent = some f ∧ f.tick = s.now) ∧ (u.lk l.val).st = .up ∧ (u.lk l.val).txIdle = false) ∧
  (x.st = .down → x.enable = false → ∃ u, Does (.outboundFrame l) s u ∧ (u.lk l.val).sent = none ∧ u.fcr = s.fcr) ∧
  (∀ g, x.st = .up → x.fenced = false → x.version = 3 → (s.ch (3 * l.val)).st = .control →
    (s.ch (3 * l.val)).staged = [g] → g.tick = s.now → ∃ u, Does (.outboundFrame l) s u ∧
    (∀ w, g.cmd = some w → (u.ch (3 * l.val)).cmd = w.setWidth 24) ∧
    (∀ w, g.mode = some w → (u.ch (3 * l.val)).mode = w.setWidth 8) ∧ (u.ch (3 * l.val)).staged = []) ∧
  (∀ f : InFrame, x.st = .up → x.enable = true → x.fenced = false → x.version = 2 → 0 < s.now →
    f.crcOk = true → f.itype = .run → f.onTime = true → f.tick.toNat = (s.now - 1) % 65536 →
    Does (.inboundFrame l (some f)) s (svcIn l.val f (frameValid l.val f s)) ∧
    (f.svc = [] → ∃ u, Does (.inboundFrame l (some f)) s u ∧ (u.lk l.val).miss = 0 ∧ (u.lk l.val).lastValid = true ∧
      (u.lk l.val).owner = f.owner ∧ (u.lk l.val).missed = x.missed ∧
      (chanDecl s (3 * l.val) = none → (u.ch (3 * l.val)).mA = (f.blk[0]).a ∧ (u.ch (3 * l.val)).mD = (f.blk[0]).d ∧
        (u.ch (3 * l.val)).mstat = (f.blk[0]).mstat))) ∧
  (x.st = .up → x.enable = true → x.fenced = false → x.version = 2 → 0 < s.now → x.resume < s.now → x.missRun < 7 → x.trainRun < 2 → x.miss = 0 →
    ∃ u, Does (.inboundFrame l none) s u ∧ (u.lk l.val).miss = 1 ∧ (u.lk l.val).missed = x.missed + 1 ∧
      (u.lk l.val).lastValid = false ∧ (u.lk l.val).st = .up ∧ (u.lk l.val).crcErr = x.crcErr) ∧
  (x.st = .up → x.enable = true → x.fenced = false → x.version = 2 → 0 < s.now → x.resume < s.now → x.missRun < 7 → x.trainRun < 2 → x.miss = 1 →
    ∃ u, Does (.inboundFrame l none) s u ∧ (u.lk l.val).st = .hold ∧ (u.lk l.val).evt.getLsbD 0 = true)

/-- R199 to R202, R207, R237, R298, Table 8.18: answers and timeouts of the service streams; ENABLE, RETRAIN and RESET of SLC_CTRL on a device alone, which a link with a channel in ARMING, CONTROL or HOLD ignores. -/
def Obligations.LinkServices : Prop :=
  (∀ (s : State) (l : LinkNo),
  let x := s.lk l.val
  (∀ st seq m, svcFind s l.val st seq = some m → m.tag = none →
    (∃ u, Does (.svcAck l st seq) s u ∧ svcFind u l.val st seq = none ∧ u.kio = s.kio ∧
      (m.kind = 0x02 → m.answered = false → (u.lk l.val).reads = x.reads ++ [(st == .host, m)])) ∧
    (∀ w, ∃ u, Does (.svcNak l st seq w) s u ∧ svcFind u l.val st seq = none ∧ u.kio = s.kio) ∧
    (m.queued = true ∨ s.now < m.sent + 64 → Does (.svcResendTimeout l st seq) s s) ∧
    (m.queued = false → m.sent + 64 ≤ s.now → m.resends < 4 → ∃ u, Does (.svcResendTimeout l st seq) s u ∧
      (u.lk l.val).st = x.st ∧ u.fcr = s.fcr ∧ svcOf u l.val st = (svcOf s l.val st).map fun y =>
        if y.seq == seq && !y.queued && svcReliable y.kind then { y with queued := true, resends := y.resends + 1 } else y) ∧
    (m.queued = false → m.sent + 64 ≤ s.now → 4 ≤ m.resends → x.st = .up → ∃ u, Does (.svcResendTimeout l st seq) s u ∧
      (u.lk l.val).st = .train ∧ (u.lk l.val).fast = true ∧ (u.lk l.val).evt.getLsbD 6 = true)) ∧
  (∀ st seq own ws, svcKnown s l.val st own = true → Does (.rdata l st ⟨seq, own⟩ ws) s (svcAnswer l.val st own s)) ∧
  (∀ st seq own ws m, svcKnown s l.val st own = false → x.reads = [(st == .host, m)] → m.seq = seq → m.tag = none →
    s.upe.phase = .idle → ∃ u, Does (.rdata l st ⟨seq, own⟩ ws) s u ∧ (u.lk l.val).rdata = ws ∧ (u.lk l.val).reads = [] ∧
      svcKnown u l.val st own = true ∧ u.kio = s.kio ∧ u.fresh = s.fresh ∧
      (st = .dev → ∃ a, (u.lk l.val).devQ.getLast? = some a ∧ a.kind = 0x04 ∧ a.arg = own)) ∧
  (∀ ws, x.st = .up → x.version = 3 → ∃ u, Does (.capture l ws) s u ∧ (u.lk l.val) = { x with capture := ws }) ∧
  (∀ ws, x.version = 1 → Does (.capture l ws) s s) ∧
  (∀ avg : Int, 466000 ≤ avg → avg ≤ 474000 → Does (.frameEndAdjust l avg) s s) ∧
  (∀ avg : Int, x.st = .up → 474000 < avg → 470 < (x.xEnd : Int) - (avg - 470000 + 500) / 1000 →
    ∃ u, Does (.frameEndAdjust l avg) s u ∧ (u.lk l.val).st = .train ∧ (u.lk l.val).fast = true) ∧
  (∀ (k : Fin 3) b, thermUsable b = true → ∃ u, Does (.thermalBlockRead l k (some b)) s u ∧
    (vat u.tmu.ch (3 * l.val + k.val) Therm.init).blk = some b ∧
    (vat u.tmu.ch (3 * l.val + k.val) Therm.init).noblock = false ∧ u.fcr = s.fcr) ∧
  (∀ k : Fin 3, ∃ u, Does (.thermalBlockRead l k none) s u ∧ (vat u.tmu.ch (3 * l.val + k.val) Therm.init).noblock = true ∧
    (vat u.tmu.ch (3 * l.val + k.val) Therm.init).run = false ∧
    (vat u.tmu.ch (3 * l.val + k.val) Therm.init).band = 1 ∧ ∃ cl, raised u (4 * (3 * l.val + k.val) + 2) cl 0x0205)) ∧
  (∀ (s : State) (l : LinkNo), s.clk.chip = .run → s.prl.role = .solo →
  let x := s.lk l.val
  (∃ u, Does (.slcEnable l true) s u ∧ (u.lk l.val).enable = true ∧ (u.lk l.val).st = x.st) ∧
  (linkLive s l.val = false → ∃ u, Does (.slcEnable l false) s u ∧ (u.lk l.val).enable = false ∧ (u.lk l.val).st = .down) ∧
  (linkLive s l.val = true → Does (.slcEnable l false) s s ∧ Does (.slcRetrain l) s s ∧ Does (.slcReset l) s s) ∧
  (linkLive s l.val = false → x.st = .up → ∃ u, Does (.slcRetrain l) s u ∧ (u.lk l.val).st = .train ∧
    (u.lk l.val).fast = true ∧ (u.lk l.val).fastTrains = x.fastTrains + 1 ∧ (u.lk l.val).evt.getLsbD 1 = true) ∧
  (linkLive s l.val = false → ∃ u, Does (.slcReset l) s u ∧ (u.lk l.val).st = .down))


/-- R277, R294, R299, R301, R305: a thermal evaluation, which begins where TC modulo 100 is 0 and whose results stand from the tick after;
TMU_TAMB, a ledger's gap after 64 ticks and the latching read of its QLO. -/
def Obligations.ThermalAndLedgers : Prop :=
  ∀ s : State,
  (tmuRuns s = true → s.clk.tc.toNat % 100 = 0 → s.tmu.due = none →
    Does .tmuEvaluation s { s with tmu := { s.tmu with due := some s.tmu.tamb } }) ∧
  (tmuRuns s = false ∨ s.clk.tc.toNat % 100 ≠ 0 → Does .tmuEvaluation s s) ∧
  (∀ amb, tmuRuns s = true → s.tmu.due = some amb →
    let u := tmuEvaluate s
    u.tmu.evals = s.tmu.evals + 1 ∧ u.tmu.run = true ∧ u.tmu.due = none ∧
    u.tmu.tamb = s.tmu.tamb ∧ u.ctx = s.ctx ∧ u.chan = s.chan ∧ u.link = s.link ∧ u.clg = s.clg ∧
    (∀ n : Ch, (th s n).blk = none → th u n = th s n) ∧
    (∀ (n : Ch) b, (th s n).blk = some b → (th s n).fresh = true → hasSensor s n = false →
      (∀ k : Fin 4, vat (th u n).t k.val 0 = amb) ∧ (th u n).run = true ∧ (th u n).fresh = false) ∧
    (∀ (n : Ch) b, (th s n).blk = some b → (th s n).fresh = false → (th s n).ds = [] →
      let t := fun k => vat (th s n).t k 0
      let g := fun k => lat b k 0
      let p := lossMean (th s n).reads
      (th u n).loss = p ∧
      vat (th u n).t 0 0 = fadd (t 0) (fmul (fdiv tmuDt (g 8)) (fsub p (fdiv (fsub (t 0) (t 1)) (g 4)))) ∧
      vat (th u n).t 3 0 = fadd (t 3) (fmul (fdiv tmuDt (g 11))
        (fsub (fdiv (fsub (t 2) (t 3)) (g 6)) (fdiv (fsub (t 3) amb) (g 7)))))) ∧
  (s.tmu.due = none → tmuEvaluate s = s) ∧
  (∀ v, s.clk.chip = .run → s.prl.role = .solo →
    (isFin v = true → Does (.tmuTambWrite v) s { s with tmu := { s.tmu with tamb := v } }) ∧
    (isFin v = false → Does (.tmuTambWrite v) s s)) ∧
  (∀ k : Fin 64,
    let x := vat s.clg k.val Ledger.init
    (x.chan.isSome = true → 64 ≤ x.missing → ∃ u, Does (.ledgerGap k) s u ∧
      vat u.clg k.val Ledger.init = { x with gap := true, gaps := x.gaps + 1 }) ∧
    (x.chan = none ∨ x.missing < 64 → ∃ u, Does (.ledgerGap k) s u ∧ u.clg = s.clg) ∧
    (s.clk.chip = .run → ∃ u, Does (.clgQloRead k) s u ∧ vat u.clg k.val Ledger.init = { x with qHi := hi32 x.q } ∧
      u.chan = s.chan ∧ u.ctx = s.ctx) ∧
    (s.clk.chip = .dormant → Does (.clgQloRead k) s s))

/-- R232, R235, R241, R248: a tick's espresso row, the close of a full block, the end of a window, and one slot of an export. -/
def Obligations.RecorderRows : Prop :=
  ∀ s : State,
  (recRuns s = true → s.bbr.esp.rowTick < s.now → s.bbr.esp.isOpen = true → s.bbr.esp.opn < s.bbr.esp.blks.length →
    (blkOf s.bbr 0 s.bbr.esp.opn).rows < rowsPer s.bbr 0 →
    ∃ u, Does .recorderRow s u ∧ u.bbr.esp.nrows = s.bbr.esp.nrows + 1 ∧ u.bbr.esp.opn = s.bbr.esp.opn ∧
      (blkOf u.bbr 0 s.bbr.esp.opn).rows = (blkOf s.bbr 0 s.bbr.esp.opn).rows + 1 ∧
      (blkOf u.bbr 0 s.bbr.esp.opn).last = s.now - 1 ∧ u.ctx = s.ctx ∧ u.chan = s.chan) ∧
  (recRuns s = false → Does .recorderRow s s ∧ ∀ t, Does (.blockClose t) s s) ∧
  (s.now ≤ s.bbr.esp.rowTick → Does .recorderRow s s) ∧
  (∀ (t : Tier) m, recRuns s = true →
    let x := s.bbr.tier (tierNo t)
    x.isOpen = true → x.opn < x.blks.length → rowsPer s.bbr (tierNo t) ≤ (blkOf s.bbr (tierNo t) x.opn).rows →
    nextBlk s.bbr (tierNo t) = some m → m ≠ x.opn →
    ∃ u, Does (.blockClose t) s u ∧ (u.bbr.tier (tierNo t)).opn = m ∧ (u.bbr.tier (tierNo t)).isOpen = true ∧
      (u.bbr.tier (tierNo t)).seq = x.seq + 1 ∧ (u.bbr.tier (tierNo t)).lastSeq = (blkOf s.bbr (tierNo t) x.opn).seq ∧
      (blkOf u.bbr (tierNo t) x.opn).closed = true ∧ (blkOf u.bbr (tierNo t) m).rows = 0) ∧
  (∀ i : Fin 32, (trg s i).st ≠ .fired ∨ (∃ t, t < 3 ∧ lat (trg s i).left t 0 ≠ 0) → Does (.triggerFrozen i) s s) ∧
  (∀ i : Fin 32, (trg s i).st = .fired → (∀ t, t < 3 → lat (trg s i).left t 0 = 0) → ∃ u, Does (.triggerFrozen i) s u ∧
    trg u i = { trg s i with st := .frozen } ∧ (∀ j : Fin 32, j ≠ i → trg u j = trg s j) ∧
    (∀ k : Fin 4, (stm s k).isOpen = true → (stm s k).tiers.getLsbD 3 = true →
      (stm u k).frozen = (stm s k).frozen ++ winItems (trg s i).f i.val (winBlks s.bbr i.val)) ∧ u.bbr.mem = s.bbr.mem) ∧
  (∀ k : Fin 4, (stm s k).isOpen = true → 0 < (stm s k).credit → s.clk.chip = .run →
    (nextItem s.bbr k.val = none → Does (.exportSlotWrite k) s s) ∧
    (∀ it, nextItem s.bbr k.val = some it → ∃ u, Does (.exportSlotWrite k) s u ∧ (stm u k).sent = (stm s k).sent + 1 ∧
      (stm u k).credit = (stm s k).credit - 1 ∧ u.bbr.mem = s.bbr.mem ∧ u.ctx = s.ctx ∧ u.kio = s.kio ∧
      (∀ g, it = .gap g → (stm u k).gaps = (stm s k).gaps.drop 1) ∧
      (∀ t n, it = .blk t n → n < (s.bbr.tier t).blks.length → (blkOf u.bbr t n).todo.getLsbD k.val = false))) ∧
  (∀ k : Fin 4, (stm s k).isOpen = false ∨ (stm s k).credit = 0 → Does (.exportSlotWrite k) s s)

/-- R228, R229, R376, R378: a fault that a hardware check finds, the end of a coalescing window, held records, and the end of
a block reset. -/
def Obligations.EventRecords : Prop :=
  ∀ s : State,
  (∀ (src : Fin 1024) cls (code : BitVec 16) p, srcOffers src.val cls = true → codeOffers src.val code.toNat = true →
    s.clk.chip ≠ .reset → engOfSrc src.val = none →
    ∃ u, Does (.hardwareFaultDetected src cls code p) s u ∧ raised u src.val (promoted s src.val cls) code.toNat ∧
      assocGet u.fcr.cnt src.val = some ((assocGet s.fcr.cnt src.val).getD 0 + 1) ∧ u.ctx = s.ctx ∧ u.chan = s.chan ∧
      (winOf s src.val (promoted s src.val cls) = none → mayWrite s (promoted s src.val cls) = true → s.fcr.held = [] →
        u.kio.eq.used = s.kio.eq.used + 1 ∧ u.kio.eq.tail = (s.kio.eq.tail + 1) % 4096 ∧ u.kio.evSeq = s.kio.evSeq + 1) ∧
      (∀ w, winOf s src.val (promoted s src.val cls) = some w → u.kio = s.kio ∧
        ∃ w', winOf u src.val (promoted s src.val cls) = some w' ∧ w'.count = w.count + 1 ∧ w'.ends = w.ends)) ∧
  (∀ (src : Fin 1024) cls (code : BitVec 16) p e, srcOffers src.val cls = true → 1 ≤ code.toNat → code.toNat ≤ 8 →
    s.clk.chip ≠ .reset → engOfSrc src.val = some e →
    ∃ u, Does (.hardwareFaultDetected src cls code p) s u ∧ raised u src.val .uc code.toNat ∧
      ∀ c, runningCtx s e = some c → code.toNat ≤ 6 → (u.cx c).rel = none) ∧
  (∀ (src : Fin 1024) cls code p, srcOffers src.val cls = false ∨ codeOffers src.val code.toNat = false → Does (.hardwareFaultDetected src cls code p) s s) ∧
  (∀ (src : Fin 1024) cls, winOf s src.val cls = none → Does (.eventWindowEnd src cls) s s) ∧
  (∀ (src : Fin 1024) cls w, winOf s src.val cls = some w → s.now < w.ends → Does (.eventWindowEnd src cls) s s) ∧
  (∀ (src : Fin 1024) cls w, winOf s src.val cls = some w → w.ends ≤ s.now →
    (w.count = 0 → ∃ u, Does (.eventWindowEnd src cls) s u ∧ winOf u src.val cls = none ∧ u.kio = s.kio) ∧
    (0 < w.count → ∃ u, Does (.eventWindowEnd src cls) s u ∧ (winOf u src.val cls).map (·.ends) = some (s.now + 200) ∧
      (winOf u src.val cls).map (·.count) = some 0 ∧
      (mayWrite s cls = true → s.fcr.held = [] → u.kio.eq.used = s.kio.eq.used + 1 ∧ u.fcr.held = []) ∧
      (mayWrite s cls = false → s.fcr.held = [] → u.kio = s.kio ∧
        ∃ h, u.fcr.held = [h] ∧ h.src = src.val ∧ h.cls = cls ∧ h.count = w.count ∧ h.code = w.code ∧ h.ts = w.ts))) ∧
  (s.fcr.held = [] → Does .heldRecordWrite s s) ∧
  (∀ h, s.fcr.held = [h] → mayWrite s h.cls = true → ∃ u, Does .heldRecordWrite s u ∧ u.fcr.held = [] ∧
    u.kio.eq.used = s.kio.eq.used + 1) ∧
  (∀ h, s.fcr.held = [h] → mayWrite s h.cls = false → s.kio.isOpen = true → ∃ u, Does .heldRecordWrite s u ∧
    u.fcr.held = [{ h with held := true }] ∧ u.kio = s.kio) ∧
  (∀ src : Fin 1024, assocGet s.fcr.brst src.val = none → Does (.brstResume src) s s) ∧
  (∀ src : Fin 1024, (assocGet s.fcr.brst src.val).isSome = true → offersBrst src.val = true →
    ∃ u, Does (.brstResume src) s u ∧ assocGet u.fcr.brst src.val = none ∧ ∃ cl, raised u src.val cl 0x00F0)

/-- R384 to R386, R388 to R390, R467 and Table 18.3: the collector's and the engines' self-tests, the monitors, the chip reset
that CRST starts, and the return of fenced units. -/
def Obligations.MonitorsAndReadmission : Prop :=
  ∀ s : State,
  (∀ z, s.fcr.crst = some z → z ≤ s.now → Does .chipResetTimer s (chipReset s) ∧ (chipReset s).clk.chip = .reset ∧
    (chipReset s).nvs.cells = s.nvs.cells ∧ (chipReset s).upe.flash = s.upe.flash ∧ (chipReset s).pending = s.pending) ∧
  (s.fcr.crst = none ∨ (∃ z, s.fcr.crst = some z ∧ s.now < z) → Does .chipResetTimer s s) ∧
  (s.clk.chip ≠ .reset →
    (∃ u, Does (.fcrRoutingSelftest true) s u ∧ u.fcr.selftests = s.fcr.selftests + 1 ∧ u.fcr.todo = s.fcr.todo ∧
      u.ctx = s.ctx ∧ u.kio = s.kio) ∧
    (∃ u code, Does (.fcrRoutingSelftest false) s u ∧ raised u 984 .fe code ∧ u.fcr.selftests = s.fcr.selftests) ∧
    (∃ u code, Does .scrubOverdue s u ∧ raised u 985 .uc code) ∧
    (∀ b, ∃ u code, Does (.pinReadbackMismatch b) s u ∧ raised u 990 .uc code) ∧
    (∃ u code, Does (.dieTemperature true) s u ∧ raised u 991 .uc code) ∧
    (∃ u code, Does (.dieTemperature false) s u ∧ raised u 991 (promoted s 991 .ce) code)) ∧
  (∀ e : Eng, s.clk.chip = .run → (s.engine (engOf e)).fenced = false →
    (∃ u, Does (.controlLogicSelftest e true) s u ∧ (vat u.eng (engIdx (engOf e)) EngStat.init).stpass =
      (vat s.eng (engIdx (engOf e)) EngStat.init).stpass + 1 ∧ u.ctx = s.ctx ∧ u.fcr = s.fcr) ∧
    (∃ u, Does (.controlLogicSelftest e false) s u ∧ raised u (ctrlSrc (engOf e)) .uc 0x0007 ∧ u.ctx = s.ctx)) ∧
  (∀ e b, (s.engine (engOf e)).fenced = true → Does (.controlLogicSelftest e b) s s) ∧
  (s.fcr.readmit = none → ∀ v b, Does (.readmitSelftestEnd v b) s s) ∧
  (∀ (k : Fin 48) tag cmd, s.fcr.readmit = some (.le k, tag) → s.prl.role = .solo → s.kio.isOpen = true →
    kByTag s tag = some cmd → cmd.mseq = none → cmd.mute = false →
    (∃ u, Does (.readmitSelftestEnd (.le k) true) s u ∧ (u.engine k.val).fenced = false ∧
      u.fcr.spareLe.getLsbD k.val = true ∧ u.fcr.readmit = none ∧ u.adm = s.adm ∧
      (vat u.kio.cq cmd.ring.val CplRing.init).used = (vat s.kio.cq cmd.ring.val CplRing.init).used + 1) ∧
    (∃ u, Does (.readmitSelftestEnd (.le k) false) s u ∧ u.fcr.readmit = none ∧ u.le = s.le ∧ u.adm = s.adm ∧
      (vat u.kio.cq cmd.ring.val CplRing.init).used = (vat s.kio.cq cmd.ring.val CplRing.init).used + 1)) ∧
  (s.adm.shadow = none → Does .rebalanceShadowStart s s ∧ Does .rebalanceSwitch s s) ∧
  (∀ e1 tag pl, s.adm.shadow = some (e1, tag, pl) → e1 ≠ s.now → Does .rebalanceShadowStart s s) ∧
  (∀ tag pl, s.adm.shadow = some (s.now, tag, pl) → ∃ u, Does .rebalanceShadowStart s u ∧ u.adm = s.adm ∧ u.fcr = s.fcr ∧
    u.chan = s.chan ∧ (∀ c, (∀ q ∈ pl, q.ctx ≠ c) → u.cx c = s.cx c) ∧
    (∀ q o t, pl = [q] → q.eng < 48 → q.ctx < 512 → placeOf s q.task = some o → taskNo s q.task = some t → o.ctx ≠ q.ctx →
      u.cx q.ctx = shadowInto s t o)) ∧
  (∀ e1 tag pl, s.adm.shadow = some (e1, tag, pl) → e1 = 0 ∨ s.now < e1 + 2000 → Does .rebalanceSwitch s s) ∧
  (∀ e1 tag pl, s.adm.shadow = some (e1, tag, pl) → e1 ≠ 0 → e1 + 2000 ≤ s.now → s.prl.role = .solo →
    ∃ u, Does .rebalanceSwitch s u ∧ u.adm.place = pl ∧ u.adm.shadow = none ∧ u.fcr.spareLe = 0 ∧ u.fcr.spareMisc = 0)


/-- R401 to R403, R433, R463: supplies, PFAIL and the reset. -/
def Obligations.SupplyAndReset : Prop :=
  ∀ s : State,
  (∀ i : Fin 7,
    let s1 := { s with boot := { s.boot with supplyOut := bitPut s.boot.supplyOut i.val true } }
    (s.clk.chip = .reset ∨ s.clk.chip = .store → Does (.supplyOutOfWindow i) s s1) ∧
    (s.clk.chip ≠ .reset → s.clk.chip ≠ .store → ∃ u code, Does (.supplyOutOfWindow i) s u ∧ u.boot = s1.boot ∧
      raised u (973 + i.val) .fe code)) ∧
  (s.clk.chip = .reset ∨ s.nvs.pfSeq = true →
    Does .pfailAssert s { s with nvs := { s.nvs with pfailIn := true, released := none } }) ∧
  (s.clk.chip ≠ .reset → s.nvs.pfSeq = false → s.nvs.recalling = true → ∃ u code, Does .pfailAssert s u ∧
    raised u 980 (promoted s 980 .ce) code ∧ u.clk.chip = .store ∧ u.nvs.recalling = false ∧ u.nvs.pfSeq = true ∧
    u.nvs.storing = s.nvs.storing ∧ u.nvs.cells = s.nvs.cells) ∧
  (s.clk.chip ≠ .reset → s.nvs.pfSeq = false → s.nvs.recalling = false → ∃ u code, Does .pfailAssert s u ∧
    raised u 980 (promoted s 980 .ce) code ∧ u.clk.chip = .store ∧ u.nvs.pfSeq = true ∧ u.nvs.storing = true ∧
    u.nvs.pfStore = true ∧ (∀ p ∈ s.nvs.dirty, p ∈ u.nvs.todo) ∧ u.fcr.alive = false ∧ u.fcr.aliveRun = false ∧
    u.jnb.ja.hop = .down ∧ u.jnb.jb.hop = .down ∧ u.prl.link = .down ∧ u.bbr.esp.isOpen = false ∧
    u.bbr.lun.isOpen = false ∧ u.bbr.car.isOpen = false ∧
    (∀ l : LinkNo, (s.lk l.val).st = .up ∨ (s.lk l.val).st = .hold → (u.lk l.val).finals = 4) ∧ u.chan = s.chan) ∧
  Does .pfailRelease s { s with nvs := { s.nvs with pfailIn := false, released := some s.now } } ∧
  (∃ u, Does .vnvLow s u ∧ u.nvs.vnvLow = true ∧ u.nvs.storing = false ∧ u.nvs.todo = [] ∧ u.nvs.win = s.nvs.win ∧
    (s.nvs.storing = false ∨ s.nvs.todo = [] → u.nvs.cells = s.nvs.cells)) ∧
  (∀ z, s.nvs.pfSeq = true → s.nvs.pfailIn = false → s.nvs.storing = false → s.nvs.released = some z → z + 20000 ≤ s.now →
    Does .storeExitReset s (chipReset s)) ∧
  (s.nvs.pfSeq = false ∨ s.nvs.pfailIn = true ∨ s.nvs.storing = true ∨ (∃ z, s.nvs.released = some z ∧ s.now < z + 20000) →
    Does .storeExitReset s s) ∧
  (∃ u, Does .rstNAssert s u ∧ u.clk = State.reset.clk ∧ u.ctx = State.reset.ctx ∧ u.chan = State.reset.chan ∧
    u.adm = State.reset.adm ∧ u.boot.rstLow = true ∧ u.nvs.cells = s.nvs.cells ∧ u.upe.flash = s.upe.flash ∧
    u.shared = [] ∧ u.nvs.win = [] ∧ u.pending = s.pending) ∧
  (s.clk.chip = .reset → ∃ u, Does .resetRelease s u ∧ u.clk.chip = .boot ∧ u.clk.tc = 0 ∧ u.clk.ts = 0 ∧
    u.clk.tickRun = true ∧ u.nvs.recalling = true ∧ (s.boot.latched = false → u.boot.stage = 1) ∧ u.chan = s.chan ∧
    u.ctx = s.ctx) ∧
  (s.clk.chip ≠ .reset → Does .resetRelease s s)

/-- R210, R434, R451: the straps are latched once, and the host link. -/
def Obligations.StrapsAndHostLink : Prop :=
  ∀ s : State,
  (∀ w : BitVec 24, s.clk.chip = .reset ∨ s.clk.chip = .boot → s.boot.latched = false → ∃ u, Does (.strapLatch w) s u ∧
    u.boot.straps = w.extractLsb' 0 16 ∧ u.boot.latched = true ∧
    u.boot.strapBad = ((w.getLsbD 1 && w.getLsbD 2) || (w.getLsbD 3 && w.getLsbD 4) || (w.getLsbD 5 && w.getLsbD 6)) ∧
    (w.getLsbD 1 ≠ w.getLsbD 2 → u.prl.role = .standby ∧ u.prl.pst = .seek ∧ u.prl.strapped = true ∧
      u.prl.side = w.getLsbD 2) ∧
    (w.getLsbD 1 = w.getLsbD 2 → u.prl = s.prl) ∧ u.nvs = s.nvs ∧ u.chan = s.chan) ∧
  (∀ w, s.boot.latched = true ∨ (s.clk.chip ≠ .reset ∧ s.clk.chip ≠ .boot) → Does (.strapLatch w) s s) ∧
  (let isReset (u : State) : Prop := u.ctx = s.ctx ∧ u.chan = s.chan ∧ u.kio.msixOn = false ∧ u.kio.msixPend = 0 ∧
    (s.clk.chip ≠ .boot → u.kio.isOpen = false ∧ u.kio.accepted = s.kio.accepted.map fun k => { k with mute := true }) ∧
    (s.clk.chip = .boot → u.kio.isOpen = s.kio.isOpen ∧ u.kio.accepted = s.kio.accepted)
   (∃ u, Does .perstAssert s u ∧ isReset u ∧ u.kio.perst = true ∧ u.kio.pcieLanes = 0 ∧ u.kio.pcieSpeed = 0 ∧ u.kio.d3 = false) ∧
   (s.clk.chip ≠ .reset →
    (∃ u, Does (.hostLinkEvent .hotReset) s u ∧ isReset u ∧ u.kio.perst = s.kio.perst ∧ u.kio.d3 = false ∧ u.kio.pcieLanes =
      if s.kio.perst = false ∧ s.boot.latched = true then strapLanes s.boot.straps else 0) ∧
    (∃ u, Does (.hostLinkEvent .d3hot) s u ∧ isReset u ∧ u.kio.d3 = true ∧ u.kio.perst = s.kio.perst ∧
      u.kio.pcieLanes = s.kio.pcieLanes ∧ u.kio.pcieSpeed = s.kio.pcieSpeed))) ∧
  (∃ u, Does .perstRelease s u ∧ u.kio.perst = false ∧ u.kio.isOpen = s.kio.isOpen ∧
    (s.boot.latched = true → s.clk.chip ≠ .reset → u.kio.pcieLanes = strapLanes s.boot.straps)) ∧
  (s.clk.chip ≠ .reset →
    (∃ u code, Does (.hostLinkEvent .aer) s u ∧ raised u 961 .uc code ∧ u.kio.pcieLanes = s.kio.pcieLanes) ∧
    (∀ sp w, ∃ u code, Does (.hostLinkEvent (.downtrain sp w)) s u ∧ raised u 961 .uc code ∧ u.kio.pcieSpeed = sp.val ∧
      u.kio.pcieLanes = w.toNat) ∧
    (∃ u code, Does (.hostLinkEvent .down) s u ∧ raised u 961 .uc code ∧ u.kio.pcieLanes = 0 ∧ u.kio.d3 = false ∧
      (s.clk.chip ≠ .boot → u.kio.isOpen = false)) ∧
    Does (.hostLinkEvent .d0) s { s with kio := { s.kio with d3 := false } } ∧
    (∀ on mask, ∃ u, Does (.hostLinkEvent (.msix on mask)) s u ∧ u.kio.msixOn = on ∧ u.kio.msixMask = mask ∧ u.fcr = s.fcr ∧
      (∀ v, 1 ≤ v → v < 64 →
        u.kio.msixPend.getLsbD v = (s.kio.msixPend.getLsbD v && !(on && !mask.getLsbD v))) ∧
      u.kio.msixPend.getLsbD 0 = s.kio.msixPend.getLsbD 0)) ∧
  (s.clk.chip = .reset → ∀ ev, Does (.hostLinkEvent ev) s s)

/-- R387, R397, R435 to R441: the boot ROM, the host's GO, recall, ALIVE, and the boot image. -/
def Obligations.BootChain : Prop :=
  ∀ s : State,
  (∀ p, s.clk.chip = .boot → s.kio.fwReady = false →
    s.boot.stage = 5 ∨ (1 ≤ s.boot.stage.toNat ∧ s.boot.stage.toNat ≤ 3 ∧ romCode s = 0) →
    ∃ u, Does (.firmwareStart p) s u ∧ u.kio.fwReady = true ∧ u.boot.stage = 6 ∧ u.boot.fwTick = s.now ∧
      (s.nvs.ready = false → u.clk.chip = .boot) ∧ (s.nvs.ready = true → u.clk.chip = .run ∧ u.tmu.run = true) ∧
      u.chan = s.chan ∧ u.ctx = s.ctx) ∧
  (∀ p, s.clk.chip ≠ .boot ∨ s.kio.fwReady = true ∨ (s.boot.stage ≠ 5 ∧ romCode s ≠ 0) → Does (.firmwareStart p) s s) ∧
  (∀ c : BitVec 8, s.clk.chip = .boot → s.kio.fwReady = false → 1 ≤ s.boot.stage.toNat → s.boot.stage.toNat ≤ 3 →
    (c = 1 ∨ (c ≠ 0 ∧ romCode s = c.toNat)) → ∃ u, Does (.bootFail c) s u ∧ u.boot.code = c ∧ u.boot.stage = (if strapSource s.boot.straps = 0 then 7 else 4) ∧
      u.clk = s.clk ∧ u.kio = s.kio) ∧
  (s.clk.chip = .boot → s.boot.stage = 4 →
    (goCode s = 0 → Does .bootGo s { s with boot := { s.boot with code := 0, fromHost := true, stage := 5 } }) ∧
    (goCode s ≠ 0 → Does .bootGo s { s with boot := { s.boot with code := BitVec.ofNat 8 (goCode s) } })) ∧
  (s.boot.stage ≠ 4 → Does .bootGo s s) ∧
  (s.kio.fwReady = true → s.fcr.aliveRun = false → s.fcr.fatal = false → s.clk.chip = .run → s.fcr.errn = 4 →
    ∃ u, Does .aliveStart s u ∧ u.fcr.aliveRun = true ∧ u.fcr.errn = 0 ∧ u.fcr.errnOut = false ∧
      (s.fcr.selftestTick = none → u.fcr.selftests = s.fcr.selftests + 1 ∧ u.fcr.selftestTick = some s.now) ∧
      (s.fcr.selftestTick ≠ none → u.fcr.selftests = s.fcr.selftests)) ∧
  (s.kio.fwReady = false ∨ s.fcr.fatal = true ∨ s.clk.chip ≠ .run → Does .aliveStart s s) ∧
  (s.nvs.recalling = false → ∀ l, Does (.nvRecallEnd l) s s) ∧
  (s.nvs.recalling = true → s.kio.fwReady = false → s.adm.run = none → ∃ u, Does (.nvRecallEnd []) s u ∧
    u.nvs.win = s.nvs.cells ∧ u.nvs.dirty = [] ∧ u.nvs.recalling = false ∧ u.nvs.ready = true ∧ u.clk = s.clk) ∧
  (s.nvs.recalling = true → s.kio.fwReady = false → ∀ a < 262144, ∃ u, Does (.nvRecallEnd [a]) s u ∧
    u.nvs.win = Memory.writeW s.nvs.cells (4 * a) 0 ∧ raised u 981 .uc 0x0904 ∧ u.nvs.evt.getLsbD 5 = true) ∧
  (s.prl.strapped = true → s.prl.role = .standby → s.prl.pst = .seek → s.prl.link ≠ .up → s.clk.chip = .run →
    s.boot.imageKept = false → s.boot.fwTick + (if s.prl.side then 2000000 else 200000) ≤ s.now → ∃ u,
    Does .pairSeekTimeout s u ∧ u.prl.role = .lead ∧ u.prl.pst = .seek ∧ u.chan = s.chan) ∧
  (s.prl.role ≠ .standby ∨ s.now < s.boot.fwTick + (if s.prl.side then 2000000 else 200000) → Does .pairSeekTimeout s s) ∧
  (∀ c, s.clk.chip = .run → s.boot.fromHost = false → s.boot.imageDone = false → s.boot.imageKept = false →
    (activePart s 2).isSome = true → s.adm.run = none → s.adm.img = none → s.upe.phase ≠ .confirming →
    bootJoinWaited s = true → bootImage s = .error c → ∃ u, Does .bootImageAdmit s u ∧ u.boot.imageDone = true ∧ raised u 982 .uc (0x0A00 + c) ∧
      u.adm = s.adm) ∧
  (∀ ws, s.clk.chip = .run → s.boot.fromHost = false → s.boot.imageDone = false → s.boot.imageKept = false →
    (activePart s 2).isSome = true → s.adm.run = none → s.adm.img = none → s.upe.phase ≠ .confirming →
    bootJoinWaited s = true → s.prl.role = .solo → (candOf ws none).img.links = [] → bootImage s = .ok ws → ∃ u, Does .bootImageAdmit s u ∧ u.adm.st = 1 ∧
      u.adm.run.isSome = true ∧ u.adm.img = none) ∧
  (s.clk.chip ≠ .run ∨ s.boot.imageDone = true ∨ bootLinksWaited s = false ∨ bootJoinWaited s = false →
    Does .bootImageAdmit s s) ∧
  (s.boot.fwTick + 10000 ≤ s.now → bootLinksWaited s = true) ∧
  (s.jnb.st = 3 ∨ s.jnb.st = 4 ∨ s.boot.fwTick + 200000 ≤ s.now → bootJoinWaited s = true)

/-- R399, R400, R406, R410: NV_STORE, the pages of a store, its end, and the increment of a counter. -/
def Obligations.StoreEngine : Prop :=
  ∀ s : State,
  (∀ p r, storeOk s = true → s.nvs.storing = true → s.nvs.todo = p :: r → ∃ u, Does .nvStoreRun s u ∧ u.nvs.todo = r ∧
    u.nvs.written = s.nvs.written + 1 ∧ p ∉ u.nvs.dirty ∧ (∀ q ∈ s.nvs.dirty, q ≠ p → q ∈ u.nvs.dirty) ∧
    u.nvs.win = s.nvs.win ∧
    (Memory.wf s.nvs.cells = true → ∀ a, Memory.read u.nvs.cells a =
      if 256 * p ≤ a ∧ a < 256 * p + 256 then Memory.read s.nvs.win a else Memory.read s.nvs.cells a)) ∧
  (storeOk s = false ∨ (s.nvs.storing = false ∧ s.nvs.pfSeq = true) → Does .nvStoreRun s s) ∧
  (∀ tag ps r, storeOk s = true → s.nvs.storing = false → s.nvs.pfSeq = false → s.nvs.waiting = (tag, ps) :: r →
    ∃ u, Does .nvStoreRun s u ∧ u.nvs.storing = true ∧ u.nvs.waiting = r ∧ u.nvs.tag = some tag ∧ u.nvs.pfStore = false) ∧
  (s.nvs.storing = true → storeOk s = true → s.nvs.tag = none → s.upe.confStep ≠ 2 → ∃ u, Does .nvStoreEnd s u ∧
    u.nvs.storing = false ∧ u.nvs.todo = [] ∧ u.nvs.stores = s.nvs.stores + 1 ∧ u.nvs.pfStore = false ∧
    (∀ p ∈ s.nvs.todo, p ∉ u.nvs.dirty)) ∧
  (s.nvs.storing = false → Does .nvStoreEnd s s) ∧
  (storeOk s = true → s.nvs.pendInc = [] → Does .counterIncrement s s) ∧
  (∀ id r, storeOk s = true → s.nvs.pendInc = id :: r → ∃ u, Does .counterIncrement s u ∧ u.nvs.pendInc = r ∧
    u.nvs.dirty = s.nvs.dirty) ∧
  (∀ tag k, Ready s 0x0601 tag k →
    ((k.arg 3).bit 0 = false → ∀ ps, ∃ u, Does (.nvStore tag ps) s u ∧ u.nvs.waiting = s.nvs.waiting ++ [(k.tag, [])] ∧
      u.nvs.win = s.nvs.win) ∧
    ((k.arg 3).bit 0 = true → ∃ u, Does (.nvStore tag none) s u ∧ Completed s u k 0x0025 0 0 0 ∧ u.nvs = s.nvs) ∧
    (∀ ps : List (BitVec 16), (k.arg 3).bit 0 = true → (∀ p ∈ ps, p.toNat ≤ 4095) → ∃ u l, Does (.nvStore tag (some ps)) s u ∧
      u.nvs.waiting = s.nvs.waiting ++ [(k.tag, l)] ∧ ∀ n, n ∈ l ↔ ∃ p ∈ ps, p.toNat = n))

/-- R130 to R132, R386, R113 and Table 9.5: the end of an admission's checks, of its preload, the activation of its plan, and
the ends of TABLE_SAVE and of a module command. -/
def Obligations.AdmissionRows : Prop :=
  ∀ s : State,
  (s.adm.run = none → Does .admissionEnd s s ∧ Does .planActivation s s) ∧
  (∀ r, s.adm.run = some r → s.adm.st = 1 → (finalReport s r).result = 0 →
    Does .admissionEnd s { s with adm := { s.adm with st := 2 } }) ∧
  (∀ r, s.adm.run = some r → s.adm.st = 1 → (finalReport s r).result ≠ 0 → r.tag = none → ∃ u, Does .admissionEnd s u ∧
    u.adm.st = 0 ∧ u.adm.run = none ∧ u.adm.img = s.adm.img ∧ u.adm.place = s.adm.place ∧
    u.adm.lastResult = BitVec.ofNat 8 (finalReport s r).result ∧ u.adm.lastStep = BitVec.ofNat 8 (finalReport s r).stepNo ∧
    raised u 982 .uc 0x0A08) ∧
  (∀ r, s.adm.run = some r → s.adm.st = 2 → r.epoch = none → s.nvs.ready = true → s.nvs.recalling = false →
    s.adm.shadow = none → ∃ u, Does .preloadEnd s u ∧
      u.adm.run = some { r with preloaded := true, epoch := some (s.epoch + 1) } ∧ u.nvs = s.nvs ∧ u.ctx = s.ctx) ∧
  (s.adm.run = none → s.adm.shadow = none → Does .preloadEnd s s) ∧
  (∀ tag pl, s.adm.run = none → s.adm.shadow = some (0, tag, pl) → ∃ u, Does .preloadEnd s u ∧
    u.adm.shadow = some (s.nextTc 2000 1, tag, pl)) ∧
  (∀ r e, s.adm.run = some r → r.epoch = some e → r.tag = none → s.epoch < e → Does .planActivation s s) ∧
  (∀ r e pl, s.adm.run = some r → r.epoch = some e → r.tag = none → e ≤ s.epoch → s.prl.role = .solo → s.adm.shadow = none →
    s.kio.accepted = [] → placesNow r.img r.place (fencedSet s) (fencedSU s) = some pl → ∃ u, Does .planActivation s u ∧
      u.adm.img = some r.img ∧ u.adm.nominal = r.place ∧ u.adm.st = 0 ∧ u.adm.run = none ∧ u.adm.lastResult = 0 ∧
      u.adm.lastStep = 0 ∧ u.adm.actEpoch = nw e) ∧
  (∀ tag, kBegun s 0x0208 tag = none → Does (.tableSaveEnd tag) s s) ∧
  (∀ tag k, kBegun s 0x0208 tag = some k → k.mseq = none → k.mute = false → s.kio.isOpen = true → Memory.wf s.host = true →
    taskNo s ((k.arg 3).bits 15 0) = none → ∃ u, Does (.tableSaveEnd tag) s u ∧ Completed s u k 0x0038 0 0 0 ∧ u.nvs = s.nvs) ∧
  (∀ tag k t id c, kBegun s 0x0208 tag = some k → k.mseq = none → k.mute = false → s.kio.isOpen = true → Memory.wf s.host = true →
    taskNo s ((k.arg 3).bits 15 0) = some t → tableRec t (if (k.arg 3).bit 16 then 1 else 0) = some id →
    ctxOf s t.num = some c → ∃ u st, Does (.tableSaveEnd tag) s u ∧ Completed s u k st 0 0 0 ∧ (st = 0 ∨ st = 0x003A)) ∧
  (∀ tag k, (s.kio.accepted.find? fun x => x.tag == tag && x.begun && x.cmd / 256 == 3) = some k → k.mseq = none → k.mute = false →
    s.kio.isOpen = true → Memory.wf s.host = true → ∃ u, Does (.moduleNoAnswer tag) s u ∧ Completed s u k 0x0037 0 0 0 ∧
      ∀ l : LinkNo, ∀ m ∈ (u.lk l.val).hostQ ++ (u.lk l.val).devQ, m.tag ≠ some k.tag) ∧
  (∀ tag, (s.kio.accepted.find? fun x => x.tag == tag && x.begun && x.cmd / 256 == 3) = none →
    Does (.moduleNoAnswer tag) s s)

/-- R211, R216 to R218, R229, R230, R474: the session, the doorbells and the fetch of one entry. -/
def Obligations.HostSession : Prop :=
  ∀ s : State,
  (∀ ma mi, s.clk.chip = .run → s.kio.isOpen = false → abiKnown ma.toNat mi.toNat = true → ringsOk s.kio = true →
    s.kio.fwReady = true → s.fcr.held = [] → ∃ u, Does (.kioSessionOpen ma mi) s u ∧ u.kio.isOpen = true ∧ u.kio.major = ma ∧
      u.kio.minor = mi ∧ u.kio.result = 1 ∧ u.kio.eq.used = 0 ∧ u.kio.eq.phase = true ∧
      (∀ q : Fin 4, (vat u.kio.sq q.val SubRing.init).head = 0 ∧ (vat u.kio.sq q.val SubRing.init).tail = 0 ∧
        (vat u.kio.cq q.val CplRing.init).used = 0 ∧ (vat u.kio.cq q.val CplRing.init).phase = true) ∧ u.fcr = s.fcr) ∧
  (∀ ma mi, s.clk.chip = .run → s.kio.isOpen = false → abiKnown ma.toNat mi.toNat = false → ∃ u, Does (.kioSessionOpen ma mi) s u ∧
    u.kio.isOpen = false ∧ u.kio.result = 2 ∧ u.kio.reason = 0) ∧
  (∀ ma mi, s.clk.chip = .run → s.kio.isOpen = false → abiKnown ma.toNat mi.toNat = true → ringsOk s.kio = false →
    ∃ u, Does (.kioSessionOpen ma mi) s u ∧ u.kio.isOpen = false ∧ u.kio.result = 2 ∧ u.kio.reason = 1) ∧
  (∀ ma mi, s.clk.chip = .run → s.kio.isOpen = false → abiKnown ma.toNat mi.toNat = true → ringsOk s.kio = true →
    s.kio.fwReady = false → ∃ u, Does (.kioSessionOpen ma mi) s u ∧ u.kio.isOpen = false ∧ u.kio.result = 2 ∧
      u.kio.reason = 2) ∧
  (s.clk.chip = .run → ∃ u, Does .kioSessionClose s u ∧ u.kio.isOpen = false ∧ u.kio.result = 0 ∧
    u.kio.reason = 0 ∧ u.kio.accepted = s.kio.accepted.map fun k => { k with mute := true }) ∧
  (∀ (q : Fin 4) v es, s.clk.chip = .run →
    let r := vat s.kio.sq q.val SubRing.init
    (2 ^ r.size.toNat ≤ v.bits 11 0 → Does (.kioSqTail q v es) s { s with kio := { s.kio with err := bitPut s.kio.err 1 true } }) ∧
    (v.bits 11 0 < 2 ^ r.size.toNat → s.kio.isOpen = false → Does (.kioSqTail q v es) s s)) ∧
  (∀ (q : Fin 4) v (w : List W), s.clk.chip = .run → s.clk.tickRun = true → s.kio.isOpen = true → w.length = 16 →
    (∀ q' : Fin 4, (vat s.kio.sq q'.val SubRing.init).entries = []) → cqRoom s q.val = true →
    let r := vat s.kio.sq q.val SubRing.init
    v.bits 11 0 < 2 ^ r.size.toNat → (v.bits 11 0 + 2 ^ r.size.toNat - r.tail) % 2 ^ r.size.toNat = 1 →
    ∃ u, Does (.kioSqTail q v [w]) s u ∧ (vat u.kio.sq q.val SubRing.init).tail = v.bits 11 0 ∧
      (vat u.kio.sq q.val SubRing.init).head = (r.head + 1) % 2 ^ r.size.toNat ∧
      (vat u.kio.sq q.val SubRing.init).entries = [] ∧
      (∀ st us, doorFails s q.val ((argW w 0).bits 31 16) w = some (st, us) → u.kio.accepted = s.kio.accepted ∧
        vat u.kio.refused q.val 0 = vat s.kio.refused q.val 0 + 1 ∧
        (vat u.kio.cq q.val CplRing.init).used = (vat s.kio.cq q.val CplRing.init).used + 1 ∧ u.kio.cred0 = s.kio.cred0 ∧
        u.kio.cred1 = s.kio.cred1) ∧
      (doorFails s q.val ((argW w 0).bits 31 16) w = none → (argW w 0).bits 31 16 ≠ 0x0202 →
        (∃ k, u.kio.accepted = s.kio.accepted ++ [k] ∧ k.cmd = (argW w 0).bits 31 16 ∧
          k.tag = (argW w 0).extractLsb' 0 16 ∧ k.words = w ∧ k.begun = false ∧
          k.mute = false) ∧
        u.kio.cred0 = (if q = 0 then s.kio.cred0 - 1 else s.kio.cred0) ∧
        u.kio.cred1 = (if q = 1 then s.kio.cred1 - 1 else s.kio.cred1))) ∧
  (∀ (q : Fin 4) v, s.clk.chip = .run → (∀ q' : Fin 4, (vat s.kio.sq q'.val SubRing.init).entries = []) →
    let c := vat s.kio.cq q.val CplRing.init
    (v.bits 11 0 < 2 ^ c.size.toNat → ∃ u, Does (.kioCqHead q v) s u ∧ vat u.kio.cq q.val CplRing.init =
        { c with head := v.bits 11 0, used := c.used - (v.bits 11 0 + 2 ^ c.size.toNat - c.head) % 2 ^ c.size.toNat } ∧
      (v.bit 31 = true → u.kio.armed.getLsbD (1 + q.val) = true) ∧ u.kio.accepted = s.kio.accepted) ∧
    (2 ^ c.size.toNat ≤ v.bits 11 0 → Does (.kioCqHead q v) s { s with kio := { s.kio with err := bitPut s.kio.err 1 true } })) ∧
  (∀ v, s.clk.chip = .run → s.fcr.held = [] → ∃ u, Does (.kioEqHead v) s u ∧ u.kio.eq.head = v.bits 11 0 ∧
    u.kio.eq.used = s.kio.eq.used - (v.bits 11 0 + 4096 - s.kio.eq.head) % 4096 ∧
    (v.bit 31 = true → ∀ i : Fin 59, u.kio.armed.getLsbD (5 + i.val) = true)) ∧
  (∀ (q : Fin 4) v es, s.clk.chip = .dormant → (∃ u, Does (.kioSqTail q v es) s u ∧ vat u.kio.keptSq q.val none = some (v, es) ∧
      u.kio.sq = s.kio.sq) ∧ (∃ u, Does (.kioCqHead q v) s u ∧ vat u.kio.keptCq q.val none = some v ∧ u.kio.cq = s.kio.cq) ∧
    (∃ u, Does (.kioEqHead v) s u ∧ u.kio.keptEq = some v ∧ u.kio.eq = s.kio.eq))

/-- R106, R209, R327, R366, R395, R436, R456, R460, R470, R471: host writes to BAR0 and BAR2 on a device alone. -/
def Obligations.HostWrites : Prop :=
  ∀ s : State, s.clk.chip = .run → s.prl.role = .solo →
  let ro : State := { s with kio := { s.kio with err := bitPut s.kio.err 2 true } }
  Does .prlYield s s ∧
  (∀ (n : Ch) (w : Fin 128) v t c, taskOfCh s n.val = some t → ctxOf s t.num = some c → c < 512 →
    ((s.cx c).armed.isSome = true → ∃ u, Does (.chBankwWrite n w v) s u ∧ (u.cx c).wdrop = true ∧ u.shared = s.shared) ∧
    ((s.cx c).armed = none → Memory.wf s.shared = true →
      Memory.wf (if (s.cx c).bankAct then (s.cx c).bank0 else (s.cx c).bank1) = true → ∃ u, Does (.chBankwWrite n w v) s u ∧
        Memory.readW (if (s.cx c).bankAct then (u.cx c).bank0 else (u.cx c).bank1) (4 * w.val) = v ∧
        (if (s.cx c).bankAct then (u.cx c).bank1 else (u.cx c).bank0) =
          (if (s.cx c).bankAct then (s.cx c).bank1 else (s.cx c).bank0) ∧
        Memory.readW u.shared (4 * (t.bankAt + (if (s.cx c).bankAct then 0 else 128) + w.val)) = v)) ∧
  (∀ (n : Ch) (w : Fin 128) v, taskOfCh s n.val = none → Does (.chBankwWrite n w v) s s) ∧
  (s.nvs.ready = true → ∀ off bs,
    (off + bs.length > 1048576 → Does (.nvWindowWrite off bs) s { s with nvs := { s.nvs with evt := bitPut s.nvs.evt 0 true } }) ∧
    (0xC0000 ≤ off → off + bs.length ≤ 0xF8000 → bs ≠ [] → Memory.wf s.nvs.win = true → ∃ u, Does (.nvWindowWrite off bs) s u ∧
      (∀ a, Memory.read u.nvs.win a = if off ≤ a ∧ a < off + bs.length then lat bs (a - off) 0 else Memory.read s.nvs.win a) ∧
      (∀ p, p ∈ u.nvs.dirty ↔ p ∈ s.nvs.dirty ∨ (off / 256 ≤ p ∧ p ≤ (off + bs.length - 1) / 256)) ∧
      u.nvs.cells = s.nvs.cells ∧ u.kio = s.kio) ∧
    (0xF8000 ≤ off ∨ off + bs.length ≤ 0xC0000 → off + bs.length ≤ 1048576 → bs ≠ [] → Does (.nvWindowWrite off bs) s ro)) ∧
  (∀ off ws, Does (.sharedWindowWrite off ws) s ro) ∧
  (∀ off bs, Does (.bar2Write off bs) s { s with kio := { s.kio with err := bitPut s.kio.err 3 true } }) ∧
  (∀ (p : Fin 4) v,
    let t := s.tw p.val
    let c := v &&& 0xFF13
    (xferOpen s p.val = false → twRefused c (t.addrNext.getD t.addr) = false → t.st ≠ 0 → ∃ u, Does (.twpCfgWrite p v) s u ∧
      u.tw p.val = { t with cfgNext := some c }) ∧
    (xferOpen s p.val = false → twRefused c (t.addrNext.getD t.addr) = false → t.st = 0 → ∃ u, Does (.twpCfgWrite p v) s u ∧
      (u.tw p.val).cfg = c ∧ (u.tw p.val).cfgNext = none) ∧
    (twRefused c (t.addrNext.getD t.addr) = true → ∃ u, Does (.twpCfgWrite p v) s u ∧ u.tw p.val = { t with evt := bitPut t.evt 7 true }) ∧
    (twRefused (t.cfgNext.getD t.cfg) v = true → ∃ u, Does (.twpAddrWrite p v) s u ∧
      u.tw p.val = { t with evt := bitPut t.evt 7 true }) ∧
    (twRefused (t.cfgNext.getD t.cfg) v = false → t.st ≠ 0 → ∃ u, Does (.twpAddrWrite p v) s u ∧
      u.tw p.val = { t with addrNext := some v })) ∧
  (∀ (i : Fin 18) v, ∃ u, Does (.trlLampWrite i v) s u ∧ u.trl.cfg = s.trl.cfg ∧
    (∀ q : Fin 144, q.val / 8 ≠ i.val → vat u.trl.lamp q.val 0 = vat s.trl.lamp q.val 0) ∧
    vat u.trl.lamp 0 0 = vat s.trl.lamp 0 0 ∧
    (∀ j : Fin 8, 8 * i.val + j.val ≠ 0 → v.bits (4 * j.val + 3) (4 * j.val) ≤ 4 → lampOwned s (8 * i.val + j.val) = false →
      vat u.trl.lamp (8 * i.val + j.val) 0 = BitVec.ofNat 4 (v.bits (4 * j.val + 3) (4 * j.val))) ∧
    (∀ j : Fin 8, lampOwned s (8 * i.val + j.val) = true → u.trl.evt.getLsbD 2 = true ∧
      vat u.trl.lamp (8 * i.val + j.val) 0 = vat s.trl.lamp (8 * i.val + j.val) 0)) ∧
  (∀ v, v.bits 3 0 ≠ 0 → Does (.trlCfgWrite v) s
    { s with trl := { s.trl with cfgNext := some (fld (v.bits 27 16) 16 ||| fld (v.bits 3 0) 0) } }) ∧
  (∀ v, Does (.registerWrite 0x50 4 v) s { s with boot := { s.boot with scratch := v } }) ∧
  (∀ v, Does (.registerWrite 0x1024 4 v) s { s with clk := { s.clk with wake := v.extractLsb' 0 6 } }) ∧
  (∀ v, Does (.registerWrite 0 4 v) s s) ∧
  (∀ v, Does (.registerWrite 0x58 4 v) s ro) ∧
  (∀ v size, size ≠ 4 → Does (.registerWrite 0x50 size v) s ro) ∧
  (∀ v, Does (.registerWrite 0x4C02C 4 v) s { s with upe := { s.upe with evt := s.upe.evt &&& ~~~(v.setWidth 6) } }) ∧
  (∀ v, Does (.registerWrite 0x48018 4 v) s { s with nvs := { s.nvs with evt := s.nvs.evt &&& ~~~(v.setWidth 7) } })

/-- R223, R358, R366, R470, R474: what becomes of a host's register write in RESET, in DORMANT, on a STANDBY and on the LEAD of
a pair; PRL_CTRL.YIELD; the shared window in BOOT. -/
def Obligations.HostWritesByRole : Prop :=
  ∀ (s : State) (v : W),
  (s.clk.chip = .reset → Does (.registerWrite 0x50 4 v) s s) ∧
  (s.clk.chip = .dormant → Does (.registerWrite 0x50 4 v) s { s with kio := { s.kio with err := bitPut s.kio.err 2 true } } ∧
    Does (.registerWrite 0x54004 4 v) s s ∧
    Does (.registerWrite 0x1024 4 v) s { s with clk := { s.clk with wake := v.extractLsb' 0 6 } }) ∧
  (s.clk.chip = .run → s.prl.role = .standby → Does (.registerWrite 0x50 4 v) s
    { s with kio := { s.kio with err := bitPut s.kio.err 2 true } }) ∧
  (s.clk.chip = .run → s.prl.role = .lead → pairFormed s = true → ∃ u x, Does (.registerWrite 0x50 4 v) s u ∧
    u.boot = s.boot ∧ u.prl.queue = s.prl.queue ++ [x] ∧ x.isReg = true ∧ x.words = [nw 0x50, nw 4, v] ∧
    x.apply = s.now + 2 ∧ x.mseq = s.prl.mseq ∧ u.prl.mseq = s.prl.mseq + 1) ∧
  (s.clk.chip = .run → s.prl.role = .lead → pairFormed s = false → Does (.registerWrite 0x50 4 v) s
    { s with boot := { s.boot with scratch := v } }) ∧
  (s.clk.chip = .run → s.prl.role = .lead → s.prl.pst = .inSync → s.prl.yieldReq = none → Does .prlYield s
    { s with prl := { s.prl with yieldReq := some .resync } }) ∧
  (∀ p, s.prl.role = .lead → s.prl.pst = .inSync → s.prl.yieldReq = some p → s.fcr.fenceAfter = [] →
    let u := yieldDue s
    u.prl.role = .standby ∧ u.prl.pst = p ∧ u.prl.yields = s.prl.yields + 1 ∧ u.prl.yieldNow = true ∧ u.prl.yieldReq = none ∧
    (∀ l : LinkNo, (u.lk l.val).own = false) ∧ u.chan = s.chan ∧ u.ctx = s.ctx) ∧
  (s.clk.chip = .boot → Memory.wf s.shared = true → ∀ off, off + 4 ≤ 0x400000 → ∃ u, Does (.sharedWindowWrite off [v]) s u ∧
    Memory.readW u.shared off = v ∧ (∀ a, a < off ∨ off + 4 ≤ a → Memory.read u.shared a = Memory.read s.shared a) ∧
    u.kio = s.kio)

/-- R221, R226 and Table 9.6: NOP, TIME, IDENT, CANCEL and ADMIT. A row whose command is not accepted does nothing. -/
def Obligations.KioskQueueCommands : Prop :=
  ∀ (s : State) (tag : BitVec 16),
  (kFind s 0x0001 tag = none → Does (.nopCmd tag) s s) ∧
  (∀ k, Ready s 0x0001 tag k → ∃ u, Does (.nopCmd tag) s u ∧ Completed s u k 0 0 0 0 ∧ u.ctx = s.ctx ∧ u.chan = s.chan ∧
    u.shared = s.shared) ∧
  (∀ k, Ready s 0x0002 tag k → ∃ u, Does (.time tag) s u ∧
    Completed s u k 0 (s.clk.tc.extractLsb' 0 32) (lo32 s.clk.ts) (hi32 s.clk.ts) ∧ u.ctx = s.ctx ∧ u.chan = s.chan) ∧
  (∀ k, Ready s 0x0003 tag k → ∃ u, Does (.ident tag) s u ∧
    Completed s u k 0 s.upe.fwAct (s.adm.img.elim 0 (·.id)) (s.adm.img.elim 0 (·.build)) ∧ u.ctx = s.ctx ∧ u.chan = s.chan) ∧
  (∀ k, Ready s 0x0004 tag k →
    (∀ x ∈ s.kio.accepted, x.handle ≠ k.arg 3 ∨ x.ring.val < 2 ∨ x.fixed = true) →
    ∃ u, Does (.cancel tag) s u ∧ Completed s u k 0x0024 0 0 0) ∧
  (∀ k t, Ready s 0x0004 tag k → k.ring = 0 →
    (s.kio.accepted.find? fun x => x.handle == k.arg 3 && 2 ≤ x.ring.val && x.foreign == k.foreign) = some t → t.fixed = false →
    t.begun = false → t.mseq = none → t.mute = false → ∃ u, Does (.cancel tag) s u ∧
      (∀ x ∈ u.kio.accepted, sameCmd x t = false ∧ sameCmd x k = false) ∧
      (vat u.kio.cq t.ring.val CplRing.init).used = (vat s.kio.cq t.ring.val CplRing.init).used + 1 ∧
      (vat u.kio.cq 0 CplRing.init).used = (vat s.kio.cq 0 CplRing.init).used + 1) ∧
  (∀ k img, Ready s 0x0101 tag k →
    (s.adm.run.isSome = true → ∃ u, Does (.admitImage tag img) s u ∧ Completed s u k 0x0013 0 0 0 ∧ u.adm = s.adm) ∧
    (s.adm.run = none → updBusy s = true → ∃ u, Does (.admitImage tag img) s u ∧ Completed s u k 0x0024 0 0 0 ∧ u.adm = s.adm)) ∧
  (∀ k, Ready s 0x0101 tag k → s.adm.run = none → updBusy s = false → (k.arg 3).bit 0 = false →
    (∃ u, Does (.admitImage tag none) s u ∧ Completed s u k 0x0025 0 0 0 ∧ u.adm = s.adm) ∧
    (∀ ws, framingOk ws (some (k.buf 4).2) = false → ∃ u, Does (.admitImage tag (some ws)) s u ∧ Completed s u k 0x0030 0 0 0 ∧
      u.adm = s.adm) ∧
    (∀ ws, framingOk ws (some (k.buf 4).2) = true → (lat ws 7 0).bit 4 = false → s.chan.all (·.st == .off) = false →
      ∃ u, Does (.admitImage tag (some ws)) s u ∧ Completed s u k 0x0024 0 0 0 ∧ u.adm = s.adm) ∧
    (∀ ws, framingOk ws (some (k.buf 4).2) = true → (lat ws 7 0).bit 4 = true ∨ s.chan.all (·.st == .off) = true →
      ∃ u, Does (.admitImage tag (some ws)) s u ∧ u.adm.st = 1 ∧ (∃ x ∈ u.kio.accepted, x.tag = tag ∧ x.begun = true ∧
        x.bound = (if (lat ws 7 0).bits 1 0 = 2 then 3000000 else 300000) + updSlack s) ∧ u.adm.img = s.adm.img ∧ u.adm.place = s.adm.place ∧
        ∃ r, u.adm.run = some r ∧ r.tag = some tag ∧ r.start = s.now ∧ r.epoch = none))

/-- R39, R46, R78, R104 to R106, R158, R159, R224, R480, Table 5.4 rows 4, 7 and 8: the commands on channels, tasks and
tables. -/
def Obligations.KioskChannelCommands : Prop :=
  ∀ (s : State) (tag : BitVec 16),
  (∀ k, Ready s 0x0201 tag k → k.chan < 192 →
    ((chanDecl s k.chan).isSome = true → isRail s k.chan = true → ∃ u, Does (.chStart tag) s u ∧ Completed s u k 0x0032 0 0 0 ∧
      u.chan = s.chan) ∧
    ((chanDecl s k.chan).isSome = true → isRail s k.chan = false → (s.ch k.chan).st = .off → canStart s k.chan = true →
      ∃ u, Does (.chStart tag) s u ∧ u.ch k.chan = { s.ch k.chan with startReq := true } ∧
        (∀ m : Ch, m.val ≠ k.chan → u.ch m.val = s.ch m.val) ∧ (∃ x ∈ u.kio.accepted, x.tag = k.tag ∧ x.begun = true)) ∧
    ((chanDecl s k.chan).isSome = true → isRail s k.chan = false → (s.ch k.chan).st ≠ .off ∨ canStart s k.chan = false →
      ∃ u, Does (.chStart tag) s u ∧ Completed s u k 0x0024 0 0 0 ∧ u.chan = s.chan)) ∧
  (∀ k, Ready s 0x0202 tag k → k.chan < 192 → (chanDecl s k.chan).isSome = true →
    ((s.ch k.chan).st = .control ∨ (s.ch k.chan).st = .arming ∨ (s.ch k.chan).st = .hold ∨ (s.ch k.chan).st = .safe →
      ∃ u, Does (.chStop tag) s u ∧ u.ch k.chan = { s.ch k.chan with stopReq := true, startReq := false } ∧
        (∃ x ∈ u.kio.accepted, x.tag = k.tag ∧ x.begun = true)) ∧
    ((s.ch k.chan).st = .off ∨ (s.ch k.chan).st = .fenced → ∃ u, Does (.chStop tag) s u ∧ Completed s u k 0 0 0 0 ∧
      u.ch k.chan = { s.ch k.chan with stopReq := false, startReq := false })) ∧
  (∀ (n : Ch) k, s.kio.accepted.filter (fun x => x.begun && x.chan == n.val) = [k] → k.mseq = none → k.mute = false →
    s.kio.isOpen = true → Memory.wf s.host = true →
    (k.cmd = 0x0201 → (s.ch n.val).startReq = false → (s.ch n.val).st = .arming →
      Completed s (chanCmdsEnd n.val s) k 0 (tc32 s.now) 0 0) ∧
    (k.cmd = 0x0201 → (s.ch n.val).startReq = false → (s.ch n.val).st ≠ .arming → Completed s (chanCmdsEnd n.val s) k 0x0024 0 0 0) ∧
    (k.cmd = 0x0202 → (s.ch n.val).stopReq = false → Completed s (chanCmdsEnd n.val s) k 0 0 0 0) ∧
    (chanCmdsEnd n.val s).chan = s.chan) ∧
  (∀ k, Ready s 0x0203 tag k → k.chan < 192 → (chanDecl s k.chan).isSome = true →
    ((s.ch k.chan).st = .safe → ∃ u, Does (.chRestart tag) s u ∧ Completed s u k 0 0 0 0 ∧ (u.ch k.chan).restart = true ∧
      (u.ch k.chan).st = .safe) ∧
    ((s.ch k.chan).st ≠ .safe → ∃ u, Does (.chRestart tag) s u ∧ Completed s u k 0x0024 0 0 0 ∧ u.chan = s.chan)) ∧
  (∀ k, Ready s 0x0204 tag k → (chanDecl s k.chan).isSome = true → ∃ u, Does (.plausReset tag) s u ∧ Completed s u k 0 0 0 0 ∧
    u.chan = s.chan ∧ ∀ (c : Ctx) t, taskAt s c.val = some t → t.chans.any (fun x => x.2 == k.chan) = true →
      (u.cx c.val).fP = false ∧
      (u.cx c.val).regs = (s.cx c.val).regs) ∧
  (∀ k t q, Ready s 0x0205 tag k → k.chan < 192 → taskOfCh s k.chan = some t → placeOf s t.num = some q → q.ctx < 512 →
    let x := s.cx q.ctx
    let live := bankCrc x x.bankAct = (if x.bankAct then x.crc1 else x.crc0)
    (x.armed.isSome = true → ∃ u, Does (.bankSwap tag) s u ∧ Completed s u k 0x0013 0 0 0 ∧ u.ctx = s.ctx) ∧
    (x.armed = none → bankCrc x (!x.bankAct) ≠ k.arg 4 → ∃ u, Does (.bankSwap tag) s u ∧ Completed s u k 0x0034 0 0 0 ∧
      u.ctx = s.ctx) ∧
    (x.armed = none → bankCrc x (!x.bankAct) = k.arg 4 → ¬live → ∃ u, Does (.bankSwap tag) s u ∧
      raised u (4 * k.chan) .uc 0x1004 ∧ u.ctx = s.ctx ∧ Completed s u k 0x0035 0 0 0) ∧
    (x.armed = none → bankCrc x (!x.bankAct) = k.arg 4 → live → dispatchable s t = true → ∃ u, Does (.bankSwap tag) s u ∧
      u.cx q.ctx = { x with armed := some s.now, applyTick := tc32 (nextRel s t q 1) } ∧
      Completed s u k 0 (tc32 (nextRel s t q 1)) 0 0) ∧
    (x.armed = none → bankCrc x (!x.bankAct) = k.arg 4 → live → dispatchable s t = false → ∃ u, Does (.bankSwap tag) s u ∧
      (u.cx q.ctx).bankAct = !x.bankAct ∧ (u.cx q.ctx).swaps = x.swaps + 1 ∧ (u.cx q.ctx).applyTick = tc32 s.now ∧ Completed s u k 0 (tc32 s.now) 0 0)) ∧
  (∀ k t, Ready s 0x0206 tag k → taskNo s ((k.arg 3).bits 15 0) = some t → (k.arg 4).toNat + (k.arg 5).toNat ≤ t.paramLen →
    (paramRefused s t (k.arg 4).toNat k.data = true → ∃ u, Does (.paramWrite tag) s u ∧ Completed s u k 0x0022 0 0 0 ∧
      u.shared = s.shared) ∧
    (paramRefused s t (k.arg 4).toNat k.data = false → ((ctxOf s t.num).bind fun c => (s.cx c).rel).isSome = true →
      Does (.paramWrite tag) s s) ∧
    (paramRefused s t (k.arg 4).toNat k.data = false → ((ctxOf s t.num).bind fun c => (s.cx c).rel) = none → t.lib = none →
      Memory.wf s.shared = true → ∃ u, Does (.paramWrite tag) s u ∧ Completed s u k 0 0 0 0 ∧
        (∀ i < (k.arg 5).toNat, shWord u (t.paramAt + (k.arg 4).toNat + i) = k.arg (6 + i)) ∧
        (∀ a, a < t.paramAt + (k.arg 4).toNat ∨ t.paramAt + (k.arg 4).toNat + (k.arg 5).toNat ≤ a → shWord u a = shWord s a))) ∧
  (∀ k, Ready s 0x0207 tag k → Memory.wf s.shared = true → ∃ u, Does (.sharedWrite tag) s u ∧ Completed s u k 0 0 0 0 ∧
    (∀ i < (k.arg 5).toNat, shWord u ((k.arg 3).toNat + i) = k.arg (6 + i)) ∧
    (∀ a, a < (k.arg 3).toNat ∨ (k.arg 3).toNat + (k.arg 5).toNat ≤ a → shWord u a = shWord s a) ∧ u.ctx = s.ctx) ∧
  (∀ k, Ready s 0x0208 tag k → (∀ t, taskNo s ((k.arg 3).bits 15 0) = some t →
      tableRec t (if (k.arg 3).bit 16 then 1 else 0) = none) → ∃ u, Does (.tableSave tag) s u ∧ Completed s u k 0x0038 0 0 0) ∧
  (∀ k t id, Ready s 0x0208 tag k → taskNo s ((k.arg 3).bits 15 0) = some t →
    tableRec t (if (k.arg 3).bit 16 then 1 else 0) = some id → ∃ u, Does (.tableSave tag) s u ∧
      (∃ x ∈ u.kio.accepted, x.tag = k.tag ∧ x.begun = true ∧ x.fixed = true) ∧ u.nvs = s.nvs ∧ u.ctx = s.ctx) ∧
  (∀ k, Ready s 0x0209 tag k → (taskNo s ((k.arg 3).bits 15 0) = none → ∃ u, Does (.seqRequest tag) s u ∧
      Completed s u k 0x0038 0 0 0 ∧ u.shared = s.shared) ∧
    (∀ t c, taskNo s ((k.arg 3).bits 15 0) = some t → ctxOf s ((k.arg 3).bits 15 0) = some c →
      ((parm s t 3).bit 30 = true → (k.arg 3).bit 16 = false → ∃ u, Does (.seqRequest tag) s u ∧ Completed s u k 0x0033 0 0 0 ∧
        u.shared = s.shared) ∧
      ((parm s t 3).bit 30 = false ∨ (k.arg 3).bit 16 = true → Memory.wf s.shared = true → ∃ u, Does (.seqRequest tag) s u ∧
        Completed s u k 0 0 0 0 ∧ (parm u t 0).bit 27 = !(k.arg 3).bit 16)))

/-- R194, R197 to R201, R240 to R242, R245, R247 and Table 10.6: the commands on modules, triggers and export streams. -/
def Obligations.KioskModuleAndRecorderCommands : Prop :=
  ∀ (s : State) (tag : BitVec 16),
  (∀ k, Ready s 0x0301 tag k → (k.arg 3).toNat < 64 → ∃ u m, Does (.modRead tag) s u ∧
    (u.lk (k.arg 3).toNat).hostQ = (s.lk (k.arg 3).toNat).hostQ ++ [m] ∧ m.kind = 0x02 ∧ m.tag = some k.tag ∧
    m.words = [fld ((k.arg 4).bits 23 16) 16 ||| fld ((k.arg 4).bits 15 0) 0] ∧ m.queued = true ∧ u.host = s.host) ∧
  (∀ k, Ready s 0x0302 tag k → (k.arg 3).toNat < 64 →
    (∃ u, Does (.modWrite tag none) s u ∧ Completed s u k 0x0025 0 0 0 ∧ u.link = s.link) ∧
    (∀ ws, ∃ u m, Does (.modWrite tag (some ws)) s u ∧ (u.lk (k.arg 3).toNat).hostQ = (s.lk (k.arg 3).toNat).hostQ ++ [m] ∧
      m.kind = 0x01 ∧ m.tag = some k.tag ∧ m.words.length = 1 + (k.arg 4).bits 23 16)) ∧
  (∀ k, Ready s 0x0303 tag k → k.chan < 192 → ∃ u m, Does (.modThresh tag) s u ∧
    (u.lk (k.chan / 3)).devQ = (s.lk (k.chan / 3)).devQ ++ [m] ∧ m.kind = 0x01 ∧ m.tag = some k.tag ∧
    lat m.words 0 0 = fld (16 * (k.chan % 3)) 0 ∧ lat m.words 1 0 = nw ((k.arg 4).bits 15 0) ∧
    lat m.words 2 0 = nw ((k.arg 4).bits 31 16) ∧ (m.words.length = if k.arg 5 = 0 then 3 else 4)) ∧
  (∀ k b, Ready s 0x0304 tag k → (s.lk k.chan).version ≠ 3 → ∃ u, Does (.modTable tag b) s u ∧ Completed s u k 0x0024 0 0 0 ∧
    u.link = s.link) ∧
  (∀ k b, Ready s 0x0304 tag k → k.chan < 64 → (s.lk k.chan).version = 3 → (s.lk k.chan).st = .up →
    helloWtbl (s.lk k.chan).hello = true → ∃ u m ms e, Does (.modTable tag (some b)) s u ∧
      (u.lk k.chan).devQ = (s.lk k.chan).devQ ++ [m] ++ ms ++ [e] ∧ m.kind = 0x10 ∧ e.kind = 0x12 ∧ (∀ x ∈ ms, x.kind = 0x11) ∧
      m.tag = some k.tag ∧ e.tag = some k.tag) ∧
  (∀ k (i : Fin 32), Ready s 0x0401 tag k → (k.arg 3).bits 4 0 = i.val →
    ((trg s i).decl = true → (trg s i).st = .idle → ∃ u win, Does (.trigArm tag) s u ∧ Completed s u k 0 0 0 0 ∧
      trg u i = { trg s i with pend := some (.arm win) } ∧ ∀ j : Fin 32, j ≠ i → trg u j = trg s j) ∧
    ((trg s i).decl = false ∨ (trg s i).st ≠ .idle → ∃ u, Does (.trigArm tag) s u ∧ Completed s u k 0x0024 0 0 0 ∧
      u.bbr = s.bbr)) ∧
  (∀ k (i : Fin 32), Ready s 0x0402 tag k → (k.arg 3).bits 4 0 = i.val →
    ((trg s i).st = .armed → (trg s i).armTick ≤ s.now → ∃ u, Does (.trigFire tag) s u ∧ Completed s u k 0 (tc32 s.now) 0 0 ∧
      trg u i = { trg s i with pend := some (.fire s.now) }) ∧
    ((trg s i).st ≠ .armed ∨ s.now < (trg s i).armTick → ∃ u, Does (.trigFire tag) s u ∧ Completed s u k 0x0024 0 0 0 ∧ u.bbr = s.bbr)) ∧
  (∀ k (i : Fin 32), Ready s 0x0403 tag k → (k.arg 3).bits 4 0 = i.val → (k.arg 3).bit 8 = false →
    ((trg s i).st ≠ .frozen → ∃ u, Does (.trigRelease tag) s u ∧ Completed s u k 0x0024 0 0 0 ∧ u.bbr = s.bbr) ∧
    ((trg s i).st = .frozen → ∃ u r0, Does (.trigRelease tag) s u ∧ Completed s u k 0 r0 0 0 ∧
      trg u i = { trg s i with pend := some (.release ((k.arg 3).bit 9 || (lat (trg s i).words 0 0).bit 22)) })) ∧
  (∀ i : Fin 32,
    (∀ win, (trg s i).pend = some (.arm win) → (trg s i).st = .idle → (trg s i).decl = true →
      trg (trigPend i.val s) i = { trg s i with pend := none, st := .armed, win := win, armTick := s.now, otherSide := false }) ∧
    (∀ f, (trg s i).pend = some (.fire f) → (trg s i).st = .armed → (trg s i).armTick ≤ s.now →
      (trg (trigPend i.val s) i).st = .fired ∧ (trg (trigPend i.val s) i).f = f ∧ (trg (trigPend i.val s) i).exported = 0) ∧
    ((trg s i).pend = some (.release false) → (trg s i).st = .frozen → (trg (trigPend i.val s) i).st = .idle) ∧
    ((trg s i).pend = some (.release true) → (trg s i).st = .frozen → (trg (trigPend i.val s) i).st = .armed ∧
      (trg (trigPend i.val s) i).armTick = s.now) ∧
    ((trg s i).pend = none → trigPend i.val s = s)) ∧
  (∀ k (i : Fin 4), Ready s 0x0404 tag k → (k.arg 3).bits 1 0 = i.val →
    (strmTiers s i.val = none → ∃ u, Does (.exportOpen tag) s u ∧ Completed s u k 0x0038 0 0 0 ∧ u.bbr = s.bbr) ∧
    (∀ n, strmTiers s i.val = some n → (stm s i).isOpen = true → ∃ u, Does (.exportOpen tag) s u ∧
      Completed s u k 0x0024 0 0 0 ∧ u.bbr = s.bbr) ∧
    (∀ n, strmTiers s i.val = some n → (stm s i).isOpen = false → ∃ u, Does (.exportOpen tag) s u ∧ Completed s u k 0 0 0 0 ∧
      (stm u i).isOpen = true ∧ (stm u i).size = (k.arg 6).bits 3 0 ∧ (stm u i).credit = 2 ^ (k.arg 6).bits 3 0 ∧
      (stm u i).sent = 0 ∧ (stm u i).tiers = BitVec.ofNat 4 n ∧ (stm u i).gaps = [])) ∧
  (∀ k (i : Fin 4), Ready s 0x0405 tag k → (k.arg 3).bits 1 0 = i.val →
    ((stm s i).isOpen = false → ∃ u, Does (.exportCredit tag) s u ∧ Completed s u k 0x0024 0 0 0 ∧ u.bbr = s.bbr) ∧
    ((stm s i).isOpen = true → 2 ^ (stm s i).size < (stm s i).credit + (k.arg 4).toNat → ∃ u, Does (.exportCredit tag) s u ∧
      Completed s u k 0x0022 0 0 0 ∧ u.bbr = s.bbr) ∧
    ((stm s i).isOpen = true → (stm s i).credit + (k.arg 4).toNat ≤ 2 ^ (stm s i).size → ∃ u, Does (.exportCredit tag) s u ∧
      Completed s u k 0 (nw ((stm s i).credit + (k.arg 4).toNat)) 0 0 ∧
      stm u i = { stm s i with credit := (stm s i).credit + (k.arg 4).toNat })) ∧
  (∀ k (i : Fin 4), Ready s 0x0406 tag k → (k.arg 3).bits 1 0 = i.val →
    ((stm s i).isOpen = false → ∃ u, Does (.exportClose tag) s u ∧ Completed s u k 0x0024 0 0 0 ∧ u.bbr = s.bbr) ∧
    ((stm s i).isOpen = true → ∃ u, Does (.exportClose tag) s u ∧ Completed s u k 0 ((stm s i).sent.extractLsb' 0 32) 0 0 ∧
      (stm u i).isOpen = false ∧ (stm u i).credit = 0 ∧ (stm u i).sent = (stm s i).sent ∧ (stm u i).gaps = []))

/-- R30, R31, R260, R279, R329, R380, R384, R386, R407 to R409: the commands on units, event sources, records, feeds, ledgers
and two-wire ports, and DORMANT. -/
def Obligations.KioskDeviceCommands : Prop :=
  ∀ (s : State) (tag : BitVec 16),
  (∀ k, Ready s 0x0501 tag k → (k.arg 3).bit 12 = false →
    (unitOf (k.arg 3) = none → ∃ u, Does (.readmit tag) s u ∧ Completed s u k 0x0022 0 0 0 ∧ u.fcr = s.fcr) ∧
    (∀ h, unitOf (k.arg 3) = some h → unitFenced s h = false → ∃ u, Does (.readmit tag) s u ∧ Completed s u k 0x0024 0 0 0 ∧
      u.fcr = s.fcr) ∧
    (∀ h, unitOf (k.arg 3) = some h → unitFenced s h = true → s.fcr.readmit = none → ∃ u, Does (.readmit tag) s u ∧
      u.fcr.readmit = some (h, k.tag) ∧ (∃ x ∈ u.kio.accepted, x.tag = k.tag ∧ x.begun = true ∧ x.fixed = true))) ∧
  (∀ k, Ready s 0x0502 tag k →
    (spareExists s = false → ∃ u, Does (.rebalance tag) s u ∧ Completed s u k 0x0024 0 0 0 ∧ u.adm = s.adm) ∧
    (∀ g pl, s.adm.img = some g → placesNow g s.adm.nominal ((fencedSet s).filter (fencedEng s ·))
        ((fencedSU s).filter (fencedEng s ·)) = some pl → spareExists s = true → updBusy s = false → s.adm.shadow = none →
      ∃ u, Does (.rebalance tag) s u ∧ u.adm = { s.adm with shadow := some (0, k.tag, pl) })) ∧
  (∀ k, Ready s 0x0503 tag k → ∃ u, Does (.eventCfg tag) s u ∧ Completed s u k 0 0 0 0 ∧
    u.fcr.cfgNext = s.fcr.cfgNext ++ [((k.arg 3).bits 9 0, (k.arg 3).bits 25 16, k.arg 4)] ∧ u.fcr.cfg = s.fcr.cfg) ∧
  (∀ k, Ready s 0x0602 tag k →
    let id := (k.arg 3).extractLsb' 0 16
    ∃ u, Does (.recRead tag) s u ∧ Completed s u k 0 (nw (recChoose id s).1) (nw (((recFind s id).map (·.len)).getD 0))
      (recChoose id s).2.2.1 ∧ u.nvs.win = s.nvs.win ∧ u.nvs.cells = s.nvs.cells) ∧
  (∀ k, Ready s 0x0603 tag k →
    let id := (k.arg 3).extractLsb' 0 16
    let n := (k.buf 4).2 / 4
    (0xF000 ≤ id.toNat ∨ n = 0 ∨ 8192 < n ∨ (k.buf 4).2 % 4 ≠ 0 → ∀ b, ∃ u, Does (.recWrite tag b) s u ∧
      Completed s u k 0x0022 0 0 0 ∧ u.nvs = s.nvs) ∧
    (∀ ws, id.toNat < 0xF000 → 1 ≤ n → n ≤ 8192 → (k.buf 4).2 % 4 = 0 → recFind s id = none → s.adm.img = none →
      updBusy s = false →
      let w := recUpdate id ((k.arg 3).extractLsb' 16 16) ((List.range n).map fun i => lat ws i 0) s
      ∃ u, Does (.recWrite tag (some ws)) s u ∧ Completed s u k (if w.1 then 0 else 0x003A) 0 0 0 ∧ u.nvs = w.2.nvs)) ∧
  (∀ k t, Ready s 0x0801 tag k → feedOfCh s k.chan = some t →
    (((ctxOf s t.num).bind fun c => (s.cx c).rel).isSome = true → Does (.feedToggle tag) s s) ∧
    (((ctxOf s t.num).bind fun c => (s.cx c).rel) = none → Memory.wf s.shared = true → (k.arg 4).bits 1 0 = 0 →
      ∃ u, Does (.feedToggle tag) s u ∧ Completed s u k 0 0 0 0 ∧ parm u t 13 = 0 ∧ (parm u t 18).bit 5 = true) ∧
    (((ctxOf s t.num).bind fun c => (s.cx c).rel) = none → Memory.wf s.shared = true → (k.arg 4).bits 1 0 = 1 →
      (parm s t 18).bit 2 = false → ∃ u, Does (.feedToggle tag) s u ∧ Completed s u k 0 0 0 0 ∧ parm u t 13 = 1 ∧
        parm u t 18 = parm s t 18)) ∧
  (∀ k, Ready s 0x0802 tag k → ∃ u, Does (.ledgerReset tag) s u ∧ Completed s u k 0 (tc32 (s.now + 1)) 0 0 ∧
    vat u.clg ((k.arg 3).bits 5 0) Ledger.init = { vat s.clg ((k.arg 3).bits 5 0) Ledger.init with
      pend := some ((k.arg 4).bit 0, (k.arg 4).bit 1) }) ∧
  (∀ k (p : Fin 4), Ready s 0x0803 tag k → xferPort k = p.val →
    (twController (s.tw p.val).cfg = false → ∀ b, ∃ u, Does (.twXfer tag b) s u ∧ Completed s u k 0x0024 0 0 0 ∧
      u.twp = s.twp) ∧
    (∀ b x, twController (s.tw p.val).cfg = true → (k.arg 3).bits 13 12 ≤ 1 →
      (k.arg 4).bits 15 8 + (k.arg 4).bits 23 16 ≤ (k.buf 5).2 → (s.tw p.val).xfer = some x →
      ∃ u, Does (.twXfer tag (some b)) s u ∧ (u.tw p.val).queue = (s.tw p.val).queue ++ [xferOf k b] ∧
        (u.tw p.val).xfer = some x) ∧
    (∀ b, twController (s.tw p.val).cfg = true → (k.arg 3).bits 13 12 ≤ 1 →
      (k.arg 4).bits 15 8 + (k.arg 4).bits 23 16 ≤ (k.buf 5).2 → (s.tw p.val).xfer = none → (s.tw p.val).st = 0 →
      twActs s p.val = true → ∃ u, Does (.twXfer tag (some b)) s u ∧ (u.tw p.val).st = 1 ∧
        (u.tw p.val).xfer = some { xferOf k b with attempts := 1 })) ∧
  (∀ k, Ready s 0x0804 tag k → s.prl.queue = [] →
    (s.chan.all (·.st == .off) = false → ∃ u, Does (.dormantEnter tag) s u ∧ Completed s u k 0x0024 0 0 0 ∧ u.clk = s.clk) ∧
    (s.chan.all (·.st == .off) = true → ∃ u, Does (.dormantEnter tag) s u ∧ u.clk.chip = .dormant ∧ u.clk.tickRun = false ∧
      u.clk.rootLock = false ∧ (∀ l : LinkNo, (u.lk l.val).st = .down) ∧ u.chan = s.chan ∧ u.shared = s.shared ∧
      (vat u.kio.cq k.ring.val CplRing.init).used = (vat s.kio.cq k.ring.val CplRing.init).used + 1))

/-- R451, R453 to R460: what the Trellis pins do in each phase, the start of a scan, what a scan reads, in the matrix and in direct
mode, and its checks of points, columns and rows. -/
def Obligations.TrellisScan : Prop :=
  ∀ s : State,
  (s.fcr.fatal = true → trlPhase s = 2) ∧
  (trlPhase s = 2 → trlLit s = 1 ∧
    (trlDirect s = true → trlDrive s 0 = .high ∧ ∀ i : Fin 24, i ≠ 0 → trlDrive s i.val = .hiZ) ∧
    (trlDirect s = false → trlDrive s 0 = .pulseHigh ∧ trlDrive s 12 = .pulseLow ∧
      ∀ i : Fin 24, i ≠ 0 → i ≠ 12 → trlDrive s i.val = .hiZ)) ∧
  (trlPhase s = 1 → ∀ i : Fin 24, trlDrive s i.val = .strap) ∧
  (trlPhase s = 0 → trlLit s = 0 ∧ ∀ i : Fin 24, trlDrive s i.val = .hiZ) ∧
  (trlPhase s = 4 → ∀ i : Fin 24, trlDrive s i.val = if s.trl.lit.getLsbD i.val then .high else .low) ∧
  (∀ r c : Fin 12, trlPhase s = 3 → 160 * r.val ≤ s.clk.tc.toNat % 2000 → s.clk.tc.toNat % 2000 < 160 * r.val + 120 →
    trlDrive s r.val = .high ∧ (∀ q : Fin 12, q ≠ r → trlDrive s q.val = .hiZ) ∧
    trlDrive s (12 + c.val) = if s.trl.lit.getLsbD (12 * r.val + c.val) then .low else .hiZ) ∧
  (∀ r c : Fin 12, trlPhase s = 3 → 160 * r.val + 130 ≤ s.clk.tc.toNat % 2000 → s.clk.tc.toNat % 2000 < 160 * r.val + 160 →
    trlDrive s r.val = .low ∧ trlDrive s (12 + c.val) = .pullUp) ∧
  (trlPhase s = 3 ∨ trlPhase s = 4 → (scanStart s).trl.cfg = s.trl.cfgNext.getD s.trl.cfg ∧ (scanStart s).trl.cfgNext = none ∧
    (scanStart s).trl.lit.getLsbD 0 = s.fcr.errnOut ∧ (scanStart s).trl.lamp = s.trl.lamp ∧
    (scanStart s).trl.scans = s.trl.scans ∧ (scanStart s).trl.sense = s.trl.sense) ∧
  (trlPhase s ≠ 3 → trlPhase s ≠ 4 → scanStart s = s) ∧
  (∀ se g low, trlPhase s = 3 → ∃ u, Does (.trlScan se g low) s u ∧ u.trl.scans = s.trl.scans + 1 ∧ u.trl.cfg = s.trl.cfg ∧
    u.trl.cfgNext = s.trl.cfgNext ∧ u.trl.lit = s.trl.lit ∧ u.trl.lamp = s.trl.lamp ∧ u.ctx = s.ctx ∧
    (∀ p : Fin 144, s.trl.cfg.bit (16 + p.val % 12) = true → u.trl.sense.getLsbD p.val = false ∧
      u.trl.svalid.getLsbD p.val = false)) ∧
  (∀ se g low, trlPhase s ≠ 3 → Does (.trlScan se g low) s s) ∧
  (∀ p : Fin 144, trlPhase s = 3 → pointRead s.trl p.val = true →
    (vat s.trl.last p.val (false, 0)).1 = !s.trl.sense.getLsbD p.val →
    (s.trl.cfg.bits 3 0 ≤ (vat s.trl.last p.val (false, 0)).2 + 1 → ∃ u, Does (.senseChange p) s u ∧
      u.trl.sense.getLsbD p.val = !s.trl.sense.getLsbD p.val ∧
      (∀ q : Fin 144, q ≠ p → u.trl.sense.getLsbD q.val = s.trl.sense.getLsbD q.val) ∧ u.trl.svalid = s.trl.svalid) ∧
    ((vat s.trl.last p.val (false, 0)).2 + 1 < s.trl.cfg.bits 3 0 → Does (.senseChange p) s s)) ∧
  (∀ p : Fin 144, trlPhase s ≠ 3 ∨ pointRead s.trl p.val = false → Does (.senseChange p) s s) ∧
  (∀ i : Fin 12, trlPhase s = 3 → s.trl.cfg.bit (16 + i.val) = false → s.trl.stuck.getLsbD i.val = false →
    vat s.trl.guard i.val 0 = 1 → ∃ u, Does (.columnStuck i) s u ∧ u.trl.stuck.getLsbD i.val = true ∧
    u.trl.evt.getLsbD 0 = true ∧ raised u 989 (promoted s 989 .ce) 0x0001 ∧
    (∀ p : Fin 144, p.val % 12 = i.val → u.trl.svalid.getLsbD p.val = false) ∧ u.trl.sense = s.trl.sense) ∧
  (∀ i : Fin 12, trlPhase s ≠ 3 ∨ s.trl.stuck.getLsbD i.val = true ∨ vat s.trl.guard i.val 0 ≠ 1 → Does (.columnStuck i) s s) ∧
  (∀ i : Fin 12, trlPhase s = 3 → vat s.trl.rowLow i.val 0 = 1 → ∃ u, Does (.rowShort i) s u ∧ u.trl.evt.getLsbD 1 = true ∧
    vat u.trl.rowLow i.val 0 = 2 ∧ raised u 989 (promoted s 989 .ce) 0x0002) ∧
  (∀ i : Fin 12, trlPhase s ≠ 3 ∨ vat s.trl.rowLow i.val 0 ≠ 1 → Does (.rowShort i) s s)

/-- R335 to R337, Tables 15.2 and 15.3: the PMBus target of a port whose one matched address is `a`. A read answers its bytes
and their PEC; a port that does not serve answers nothing. -/
def Obligations.TwoWireTarget : Prop :=
  ∀ (s : State) (p : Fin 4) (a : Nat), s.clk.chip = .run → twServes s p.val = true → twAddrs (s.tw p.val).cfg (s.tw p.val).addr = [a] →
  let t := s.tw p.val
  let pecR := fun (code : Nat) (bs : List Byte) =>
    crc8From 0 ([BitVec.ofNat 8 (2 * a), BitVec.ofNat 8 code, BitVec.ofNat 8 (2 * a + 1)] ++ bs)
  let ans := fun (i : Instr) (code : Nat) (bs : List Byte) => ∃ u, Does i s u ∧
    u.tw p.val = { t with acked := true, acks := t.acks + 1, out := bs ++ [pecR code bs] } ∧ u.chan = s.chan ∧ u.ctx = s.ctx
  ans (.capability p) 0x19 [0xD0] ∧ ans (.voutMode p) 0x20 [0x1A] ∧ ans (.pmbusRevision p) 0x98 [0x33] ∧
  ans (.mfrId p) 0x99 [7, 0x4B, 0x52, 0x4F, 0x56, 0x57, 0x59, 0x4E] ∧
  ans (.mfrModel p) 0x9A [6, 0x4B, 0x56, 0x37, 0x31, 0x39, 0x32] ∧ ans (.mfrRevision p) 0x9B [2, 0x42, 0x31] ∧
  (∀ pec, ans (.page p none pec) 0x00 [t.page]) ∧
  (∀ v pec, v.toNat < 192 ∨ v = 0xFF → t.cfg.bit 15 = false → ∃ u, Does (.page p (some v) pec) s u ∧
    u.tw p.val = { t with page := v, acked := true, acks := t.acks + 1, out := [] }) ∧
  (∀ v pec, t.cfg.bit 15 = true → v.toNat < 192 ∨ v = 0xFF →
    pec ≠ some (crc8From 0 [BitVec.ofNat 8 (2 * a), 0, v]) → ∃ u, Does (.page p (some v) pec) s u ∧
      (u.tw p.val).page = t.page ∧ (u.tw p.val).evt.getLsbD 5 = true) ∧
  (∀ v pec, 192 ≤ v.toNat → v ≠ 0xFF → ∃ u, Does (.page p (some v) pec) s u ∧ (u.tw p.val).page = t.page ∧
    (u.tw p.val).acked = false) ∧
  (∀ pec, t.cfg.bit 15 = false → t.page.toNat < 192 → ∃ u, Does (.clearFaults p pec) s u ∧
    vat (u.tw p.val).status t.page.toNat 0 = 0 ∧ vat (u.tw p.val).temp t.page.toNat 0 = 0 ∧
    (∀ n : Fin 192, n.val ≠ t.page.toNat → vat (u.tw p.val).status n.val 0 = vat t.status n.val 0)) ∧
  (∀ pec, t.cfg.bit 15 = false → t.page = 0xFF → ∃ u, Does (.clearFaults p pec) s u ∧
    (∀ n : Fin 192, vat (u.tw p.val).status n.val 0 = 0) ∧ (u.tw p.val).alertOut = false) ∧
  (∀ code, ∃ u, Does (.pmbusUnsupported p code) s u ∧ (u.tw p.val).acked = false ∧ (u.tw p.val).out = [] ∧
    (t.page.toNat < 192 → (vat (u.tw p.val).status t.page.toNat 0).getLsbD 1 = true)) ∧
  (t.page.toNat < 192 →
    let n := t.page.toNat
    let b := vat t.status n 0
    let num := fun (i : Instr) (code : Nat) (v : Option (BitVec 16)) => ∃ u w, Does i s u ∧ (∀ x, v = some x → w = x) ∧
      (u.tw p.val).out = word2 w ++ [pecR code (word2 w)] ∧ (u.tw p.val).acks = t.acks + 1 ∧ u.chan = s.chan
    ans (.statusByte p) 0x78 [statusByte s p.val n] ∧ ans (.statusWord p) 0x79 (word2 (statusWord s p.val n)) ∧
    ans (.statusVout p) 0x7A [if b.getLsbD 5 then 0x80 else 0] ∧ ans (.statusIout p) 0x7B [if b.getLsbD 4 then 0x80 else 0] ∧
    ans (.statusTemperature p) 0x7D [(vat t.temp n 0) ++ (0 : BitVec 6)] ∧
    num (.readVin p) 0x88 (linear11 (measured s n 2 (s.ch n).mC)) ∧
    num (.readVout p) 0x8B (linear16 (measured s n 0 (s.ch n).mA)) ∧
    num (.readIout p) 0x8C (linear11 (measured s n 1 (s.ch n).mB)) ∧
    num (.readTemperature1 p) 0x8D (linear11 (nodeOf s n 0)) ∧
    num (.readTemperature2 p) 0x8E (linear11 (nodeOf s n 2))) ∧
  (t.alertOut = true → ∃ u, Does (.alertResponse p) s u ∧ (u.tw p.val).out = [BitVec.ofNat 8 (2 * a)] ∧
    (u.tw p.val).alertOut = false ∧ (u.tw p.val).acks = t.acks + 1) ∧
  (t.alertOut = false → ∃ u, Does (.alertResponse p) s u ∧ u.tw p.val = { t with acked := false, out := [] }) ∧
  (∀ b, b = true ∨ t.cfg.bit 14 = true → ∃ u, Does (.twTargetTimeout p b) s u ∧ (u.tw p.val).out = [] ∧
    (u.tw p.val).st = (if t.st = 2 then 0 else t.st) ∧ (u.tw p.val).evt.getLsbD 3 = true) ∧
  (t.cfg.bit 14 = false → Does (.twTargetTimeout p false) s s)

/-- R329 to R331, R334: a port as controller: the end of a transfer, arbitration, bus clear, timeouts and Host Notify. No
command bears the transfer's tag. -/
def Obligations.TwoWireController : Prop :=
  ∀ (s : State) (p : Fin 4),
  let t := s.tw p.val
  (∀ x, t.st = 1 → t.xfer = some x → t.queue = [] → kByTag s x.tag = none → clockRuns s = true →
    (∀ res, ∃ u, Does (.twTransferEnd p res) s u ∧ (u.tw p.val).xfer = none ∧ (u.tw p.val).st = 0 ∧ u.host = s.host) ∧
    (x.losses < 3 → ∃ u, Does (.arbLost p none) s u ∧ (u.tw p.val).xfer = some { x with losses := x.losses + 1 } ∧
      (u.tw p.val).losses = t.losses + 1 ∧ (u.tw p.val).st = 3 ∧ (u.tw p.val).evt.getLsbD 1 = true) ∧
    (3 ≤ x.losses → ∃ u, Does (.arbLost p none) s u ∧ (u.tw p.val).xfer = none ∧ (u.tw p.val).losses = t.losses + 1 ∧
      (u.tw p.val).st = 3)) ∧
  (∀ res, t.st ≠ 1 ∨ t.xfer = none → Does (.twTransferEnd p res) s s) ∧
  (∀ x y, t.st = 1 → t.xfer = some x → t.queue = [y] → kByTag s x.tag = none → twActs s p.val = true → t.cfgNext = none →
    ∃ u, Does (.twTransferEnd p .nackAddr) s u ∧ (u.tw p.val).xfer = some { y with attempts := y.attempts + 1 } ∧
      (u.tw p.val).queue = [] ∧ (u.tw p.val).st = 1) ∧
  (twActs s p.val = true →
    (∀ k x, t.xfer = some x → ∃ u, Does (.twBusClear p (some k)) s u ∧ (u.tw p.val).st = 1 ∧
      (u.tw p.val).xfer = some { x with attempts := x.attempts + 1 } ∧ (u.tw p.val).evt.getLsbD 2 = true) ∧
    (∀ x, t.xfer = some x → t.queue = [] → kByTag s x.tag = none → ∃ u code, Does (.twBusClear p none) s u ∧
      (u.tw p.val).xfer = none ∧ (u.tw p.val).st = 3 ∧ (u.tw p.val).evt.getLsbD 4 = true ∧ raised u (955 + p.val) .uc code) ∧
    (∀ x, t.xfer = some x → t.queue = [] → kByTag s x.tag = none → t.st ≠ 1 → ∃ u, Does (.twControllerTimeout p) s u ∧
      (u.tw p.val).xfer = none ∧ (u.tw p.val).st = 3 ∧ (u.tw p.val).evt.getLsbD 3 = true)) ∧
  (twActs s p.val = false → ∀ n, Does (.twBusClear p n) s s) ∧
  (t.xfer = none → t.notify = none → Does (.twControllerTimeout p) s s) ∧
  (clockRuns s = true → t.st ≠ 1 → t.xfer = none → ∃ u, Does (.twBusIdle p) s u ∧ (u.tw p.val).st = 0 ∧
    (u.tw p.val).cfg = t.cfgNext.getD t.cfg ∧ (u.tw p.val).cfgNext = none ∧ (u.tw p.val).addrNext = none) ∧
  (t.st = 1 → Does (.twBusIdle p) s s) ∧
  (∀ w n k, twActs s p.val = true → t.notify = some (w, n, k) → t.notifyTick = none →
    let bytes : List Byte := [0x10, BitVec.ofNat 8 (2 * twLowest t), w.extractLsb' 0 8, w.extractLsb' 8 8]
    (∃ u, Does (.hostNotify p true) s u ∧ u.tw p.val = { t with notify := none, notifyTick := some s.now, out := bytes }) ∧
    (n < 3 → ∃ u, Does (.hostNotify p false) s u ∧
      u.tw p.val = { t with notify := some (w, n + 1, k), notifyTick := some s.now, out := bytes }) ∧
    (3 ≤ n → ∃ u, Does (.hostNotify p false) s u ∧ (u.tw p.val).notify = none ∧ (u.tw p.val).evt.getLsbD 6 = true) ∧
    (t.xfer = none → k < 3 → ∃ u, Does (.arbLost p none) s u ∧ (u.tw p.val).notify = some (w, n, k + 1) ∧
      (u.tw p.val).losses = t.losses + 1 ∧ (u.tw p.val).st = 3) ∧
    (t.xfer = none → 3 ≤ k → ∃ u, Does (.arbLost p none) s u ∧ (u.tw p.val).notify = none ∧
      (u.tw p.val).evt.getLsbD 6 = true)) ∧
  (∀ z b, t.notifyTick = some z → s.now < z + 2000 → Does (.hostNotify p b) s s) ∧
  (t.notify = none → ∀ b, Does (.hostNotify p b) s s)

/-- R307, R309 to R311, R313, R314, R316, R318 to R320, Table 14.7: the levels, beacons, timers and protections of a tie port that is
bound to channel `n`. 1 ms is 2,000 ticks. -/
def Obligations.TiePortStates : Prop :=
  ∀ (s : State) (p : Fin 8) (n : Nat), tieChan s p.val = some n → n < 192 →
  let x := s.tp p.val
  (s.prl.role = .standby ∨ x.st = .disabled ∨ x.st = .rest ↔ tieHiZ s p.val = true) ∧
  (∀ mv, inAttach mv = true → x.st = .search → ∃ u, Does (.attachLevelRead p mv) s u ∧ (u.tp p.val).st = .confirm ∧
    (u.tp p.val).stTick = s.now ∧ (u.tp p.val).beacon = false ∧ (u.tp p.val).level = mv ∧ (u.tp p.val).attachLvl = true ∧
    u.fcr = s.fcr) ∧
  (∀ mv, inAttach mv = false → x.st ≠ .disabled → ∃ u, Does (.attachLevelRead p mv) s u ∧
    u.tp p.val = { x with level := mv, attachLvl := false } ∧ u.shared = s.shared) ∧
  (x.st = .confirm → x.stTick + 30000 ≤ s.now → ∃ u cl, Does (.attachConfirm p) s u ∧ (u.tp p.val).st = .agree ∧
    (u.tp p.val).role = (if x.feedPres then 1 else 2) ∧ raised u (4 * n + 3) cl 0x0401 ∧
    (x.feedPres = true → ∃ m, (u.tp p.val).sent = some m ∧ m.op = 0x10 ∧ m.gen = 0 ∧ m.pay = [2, 1, 0, 0] ∧
      (u.tp p.val).waiting = some (m, 1, s.now))) ∧
  (x.st ≠ .confirm ∨ s.now < x.stTick + 30000 → Does (.attachConfirm p) s s) ∧
  (∀ mv, inAttach mv = false → x.st = .confirm → ∃ u, Does (.attachLevelLost p mv) s u ∧ (u.tp p.val).st = .search ∧
    (u.tp p.val).role = 0 ∧ (u.tp p.val).forced = false ∧ u.fcr = s.fcr) ∧
  (∀ mv, inAttach mv = false → x.st = .agree ∨ x.st = .lease ∨ x.st = .confirm → x.turning = false → ∃ u cl,
    Does (.detach p mv) s u ∧ (u.tp p.val).st = .search ∧ (u.tp p.val).forced = true ∧ (u.tp p.val).lease = false ∧
    (u.tp p.val).evt.getLsbD 0 = true ∧ raised u (4 * n + 3) cl 0x0402) ∧
  (∀ mv, x.turning = true → ∃ u, Does (.detach p mv) s u ∧ (u.tp p.val).st = x.st ∧ u.fcr = s.fcr) ∧
  (x.st = .search → tiePref s p.val = 0 → x.beacon = false → x.gap ≤ s.now → ∃ u, Does (.beaconStart p) s u ∧
    u.tp p.val = { x with beacon := true, beaconEnd := s.now + 50000, feedPres := true }) ∧
  (x.st = .search → x.beacon = true → x.beaconEnd ≤ s.now → ∃ u g, Does (.beaconEnd p) s u ∧
    u.tp p.val = { x with beacon := false, feedPres := false, gap := g } ∧
    s.now + 10000 * (tieParm s p.val 4).bits 15 8 ≤ g ∧ g ≤ s.now + 30000 * (tieParm s p.val 4).bits 15 8) ∧
  (x.st ≠ .search → Does (.beaconStart p) s s ∧ Does (.beaconEnd p) s s) ∧
  (s.now < x.gap → Does (.beaconStart p) s s) ∧ (s.now < x.beaconEnd → Does (.beaconEnd p) s s) ∧
  (∀ m k z, x.waiting = some (m, k, z) → s.now < z + 20000 → Does (.answerTimeout p) s s) ∧
  (∀ m k z, x.waiting = some (m, k, z) → z + 20000 ≤ s.now → k < 3 → ∃ u, Does (.answerTimeout p) s u ∧
    u.tp p.val = { x with sent := some m, waiting := some (m, k + 1, s.now) } ∧ u.fcr = s.fcr) ∧
  (∀ m k z, x.waiting = some (m, k, z) → z + 20000 ≤ s.now → 3 ≤ k → ∃ u cl, Does (.answerTimeout p) s u ∧
    (u.tp p.val).st = .rest ∧ (u.tp p.val).stTick = s.now ∧ (u.tp p.val).forced = true ∧ tieHiZ u p.val = true ∧
    (u.tp p.val).lease = false ∧ (u.tp p.val).restarts = x.restarts + 1 ∧
    (∃ q, (u.tp p.val).sent = some q ∧ q.op = 0x3F) ∧ raised u (4 * n + 3) cl 0x0405) ∧
  (x.waiting = none → Does (.answerTimeout p) s s) ∧
  (x.role = 2 → x.granted = true → x.grantTick + 200000 ≤ s.now → ∃ u cl, Does (.liveTimeout p) s u ∧ (u.tp p.val).st = .rest ∧
    raised u (4 * n + 3) cl 0x0405) ∧
  (x.role = 2 → x.turning = true → x.turnTick + (if x.st = .turn then 40000 else 20000) ≤ s.now → ∃ u cl,
    Does (.roleTurnTimeout p) s u ∧ (u.tp p.val).st = .rest ∧ raised u (4 * n + 3) cl 0x0405) ∧
  (x.role ≠ 2 → Does (.liveTimeout p) s s ∧ Does (.roleTurnTimeout p) s s) ∧
  (s.now < x.grantTick + 200000 → Does (.liveTimeout p) s s) ∧
  (s.now < x.turnTick + (if x.st = .turn then 40000 else 20000) → Does (.roleTurnTimeout p) s s) ∧
  (∀ d, x.defer = some d → d ≤ s.now → ∃ u m, Does (.deferExpiry p) s u ∧ (u.tp p.val).defer = none ∧
    (u.tp p.val).sent = some m ∧ m.op = 0x21 ∧ (u.tp p.val).waiting = some (m, 1, s.now)) ∧
  (∀ w, x.tieWait = some w → w ≤ s.now → tieMayTurn x = true → ∃ u m, Does (.turnTieWaitEnd p) s u ∧
    (u.tp p.val).tieWait = none ∧ (u.tp p.val).sent = some m ∧ m.op = 0x30 ∧ (u.tp p.val).draw.isSome = true) ∧
  (x.defer = none ∨ (∃ d, x.defer = some d ∧ s.now < d) → Does (.deferExpiry p) s s) ∧
  (x.tieWait = none ∨ (∃ w, x.tieWait = some w ∧ s.now < w) → Does (.turnTieWaitEnd p) s s) ∧
  (x.sent.isSome = true → ∃ u q, Does (.collide p) s u ∧ (u.tp p.val).evt.getLsbD 6 = true ∧
    600 ≤ q ∧ q ≤ 6000 ∧ (u.tp p.val).retry = some (s.now + q) ∧ (u.tp p.val).sent = x.sent ∧ u.fresh = s.fresh + 1) ∧
  (∀ z, x.retry = some z → z ≤ s.now → ∃ u, Does (.txRetry p) s u ∧ u.tp p.val = { x with retry := none }) ∧
  (x.retry = none ∨ (∃ z, x.retry = some z ∧ s.now < z) → Does (.txRetry p) s s) ∧
  (x.st = .rest → x.stTick + 1200000 ≤ s.now → ∃ u, Does (.restEnd p) s u ∧ (u.tp p.val).st = .search ∧
    (u.tp p.val).forced = false) ∧
  (x.st ≠ .rest ∨ s.now < x.stTick + 1200000 → Does (.restEnd p) s s) ∧
  (∀ z, x.st ≠ .disabled → x.prot = false → x.oc = some z → z + (tieParm s p.val 12).toNat ≤ s.now → ∃ u,
    Does (.tieOcTimer p) s u ∧ (u.tp p.val).st = .rest ∧ (u.tp p.val).prot = true ∧ (u.tp p.val).oc = none ∧
    (u.tp p.val).evt.getLsbD 5 = true ∧ raised u (4 * n + 3) .uc 0x0408) ∧
  (x.oc = none ∨ (∃ z, x.oc = some z ∧ s.now < z + (tieParm s p.val 12).toNat) → Does (.tieOcTimer p) s s)

/-- R312 to R319, Tables 14.3 and 14.4: the pilot messages that a tie port receives. The message is new: its TAG has not been
answered. -/
def Obligations.TiePortMessages : Prop :=
  ∀ (s : State) (p : Fin 8) (n : Nat) (h : PilotHead), tieChan s p.val = some n → n < 192 →
  let x := s.tp p.val
  (∀ ma mi of cu d r, x.st = .disabled → Does (.hail p h ma mi) s s ∧ Does (.terms p h of) s s ∧ Does (.claim p h ma cu) s s ∧
    Does (.pilotGrant p h cu) s s ∧ Does (.decline p h r) s s ∧ Does (.defer p h d) s s ∧ Does (.live p (some h) r) s s ∧
    Does (.pilotRestart p h) s s) ∧
  (∀ m ma mi, x.st ≠ .disabled → x.lastRx = some (h.tag, some m) → ∃ u, Does (.hail p h ma mi) s u ∧
    u.tp p.val = { x with msgs := x.msgs + 1, sent := some m } ∧ u.fcr = s.fcr) ∧
  (x.st ≠ .disabled → x.lastRx = none →
    (∀ ma mi g, x.st = .agree → x.role = 2 → sharedGen ma.toNat mi.toNat = some g → ∃ u m, Does (.hail p h ma mi) s u ∧
      (u.tp p.val).gen = BitVec.ofNat 2 g ∧ (u.tp p.val).hailed = true ∧ (u.tp p.val).sent = some m ∧ m.op = 0x10 ∧
      (u.tp p.val).msgs = x.msgs + 1 ∧ (u.tp p.val).lastRx = some (h.tag, some m)) ∧
    (∀ ma mi, x.st = .agree → x.role = 2 → sharedGen ma.toNat mi.toNat = none → ∃ u m cl, Does (.hail p h ma mi) s u ∧
      (u.tp p.val).st = .search ∧ (u.tp p.val).sent = some m ∧ m.op = 0x23 ∧ m.pay = [0, 0, 0, 1] ∧
      (u.tp p.val).evt.getLsbD 2 = true ∧ raised u (4 * n + 3) cl 0x0404) ∧
    (∀ of, x.st = .agree → x.role = 2 → x.hailed = true → x.turning = false → x.lease = false →
      (∃ u, Does (.terms p h of) s u ∧ (u.tp p.val).offers = of ∧ (u.tp p.val).lease = false ∧ (u.tp p.val).st = .agree) ∧
      (of = [] → ∃ u, Does (.terms p h of) s u ∧ (u.tp p.val).waiting = none ∧
        (u.tp p.val).sent = x.sent)) ∧
    (∀ ix cu, x.st = .agree → x.role = 1 → x.hailed = true → x.turning = false →
      (x.offers[ix.toNat]? = none → ∃ u m, Does (.claim p h ix cu) s u ∧ (u.tp p.val).sent = some m ∧ m.op = 0x23 ∧
        m.pay = [0, 0, 0, 2] ∧ (u.tp p.val).granted = x.granted) ∧
      (∀ o, x.offers[ix.toNat]? = some o → (s.ch n).st ≠ .control → ∃ u m, Does (.claim p h ix cu) s u ∧
        (u.tp p.val).sent = some m ∧ m.op = 0x24 ∧ (u.tp p.val).granted = x.granted) ∧
      (∀ o, x.offers[ix.toNat]? = some o → (s.ch n).st = .control → ∃ u m, Does (.claim p h ix cu) s u ∧
        (u.tp p.val).sent = some m ∧ m.op = 0x22 ∧ (u.tp p.val).granted = true ∧
        (u.tp p.val).grant = (if cu.toNat ≤ o.iMax.toNat then cu else o.iMax) ∧ (u.tp p.val).lease = false)) ∧
    (∀ cu m k z, x.role = 2 → x.waiting = some (m, k, z) → m.op = 0x21 → ∃ u, Does (.pilotGrant p h cu) s u ∧
      (u.tp p.val).granted = true ∧ (u.tp p.val).grantTick = s.now ∧ (u.tp p.val).grant = cu ∧ (u.tp p.val).waiting = none ∧ (u.tp p.val).st = x.st) ∧
    (∀ d m k z, x.waiting = some (m, k, z) → m.op = 0x21 → ∃ u, Does (.defer p h d) s u ∧
      u.tp p.val = { x with msgs := x.msgs + 1, waiting := none, defer := some (s.now + 2000 * d.toNat) }) ∧
    (x.st = .agree → ∃ u cl, Does (.decline p h 1) s u ∧ (u.tp p.val).st = .search ∧ raised u (4 * n + 3) cl 0x0404) ∧
    (∀ r, r ≠ 1 → x.draw = none → ∃ u, Does (.decline p h r) s u ∧ (u.tp p.val).waiting = none ∧ (u.tp p.val).st = x.st ∧
      u.shared = s.shared) ∧
    (x.role = 2 → x.st = .agree → x.granted = true → ∃ u cl, Does (.live p (some h) 0) s u ∧ (u.tp p.val).st = .lease ∧
      (u.tp p.val).lease = true ∧ (u.tp p.val).granted = false ∧ (u.tp p.val).grant = x.grant ∧
      raised u (4 * n + 3) cl 0x0403) ∧
    (x.role = 2 → x.st = .turn → ∃ u, Does (.live p (some h) 1) s u ∧ (u.tp p.val).st = .agree ∧ (u.tp p.val).role = 1 ∧
      (u.tp p.val).feedPres = true ∧ (u.tp p.val).lease = false) ∧
    (∃ u cl, Does (.pilotRestart p h) s u ∧ (u.tp p.val).st = .rest ∧ (u.tp p.val).forced = true ∧
      tieHiZ u p.val = true ∧ (u.tp p.val).restarts = x.restarts + 1 ∧ raised u (4 * n + 3) cl 0x0405)) ∧
  (∀ d, x.gen = 1 → ∃ u, Does (.turn p h d) s u ∧ u.tp p.val = { x with discarded := x.discarded + 1 } ∧ u.fcr = s.fcr) ∧
  (x.gen = 1 → ∃ u, Does (.turnOk p h) s u ∧ u.tp p.val = { x with discarded := x.discarded + 1 }) ∧
  (∀ d, x.st = .lease → x.gen = 2 → x.lastRx = none → x.turning = false → x.draw = none → x.role = 1 →
    (tiePref s p.val = 1 → ∃ u m, Does (.turn p h d) s u ∧ (u.tp p.val).sent = some m ∧ m.op = 0x23 ∧ m.pay = [0, 0, 0, 3] ∧
      (u.tp p.val).st = .lease) ∧
    (tiePref s p.val ≠ 1 → x.winding = true → ∃ u m, Does (.turn p h d) s u ∧ (u.tp p.val).sent = some m ∧ m.op = 0x23 ∧
      m.pay = [0, 0, 0, 4] ∧ (u.tp p.val).st = .lease) ∧
    (tiePref s p.val ≠ 1 → x.winding = false → x.granted = false → x.waiting = none → ∃ u m, Does (.turn p h d) s u ∧ (u.tp p.val).sent = some m ∧ m.op = 0x31 ∧
      (u.tp p.val).st = .turn ∧ (u.tp p.val).turning = true ∧ (u.tp p.val).turnTick = s.now)) ∧
  (∀ d, x.st = .lease → x.gen = 2 → x.lastRx = none → x.draw = some d → ∃ u, Does (.turnOk p h) s u ∧ (u.tp p.val).st = .turn ∧
    (u.tp p.val).turning = true ∧ (u.tp p.val).draw = none) ∧
  (x.role = 1 → x.granted = true → x.st = .agree → tieInWindow s p.val = false → Does (.live p none 0) s s) ∧
  (x.role = 1 → x.granted = true → x.st = .agree → tieInWindow s p.val = true → ∃ u m cl, Does (.live p none 0) s u ∧ (u.tp p.val).st = .lease ∧
    (u.tp p.val).sent = some m ∧ m.op = 0x25 ∧ raised u (4 * n + 3) cl 0x0403) ∧
  (x.role ≠ 1 → ∀ r, Does (.live p none r) s s)

/-- R257, R258, R260, R261, R265, R269, R271, R272, R285, R287, R288: the ends of the timers and windows of the library tasks. The
shared task memory is in canonical form; the blocks of a Hold-up instance's rectifiers lie apart from its own. A row acts only
when the time it stands for has passed (log entry 9). -/
def Obligations.LibraryTimers : Prop :=
  ∀ (s : State) (c : Ctx), Memory.wf s.shared = true →
  let x := libOf s c.val
  (∀ t, libAt s c.val libFeed = some t → libCh t < 192 →
    (∀ z, x.timer = some z → z + (parm s t 6).toNat ≤ s.now - 1 → libState s t = 1 ∨ libState s t = 2 → ∃ u, Does (.feedFaultTimerExpiry c) s u ∧ libState u t = 3 ∧
      libReason u t = 1 ∧ (parm u t 18).bit 2 = true ∧ (parm u t 18).bit 0 = false ∧ parm u t 19 = tc32 (s.now - 1) ∧
      (libOf u c.val).timer = none ∧ raised u (4 * libCh t + 3) .uc 1) ∧
    (libState s t = 1 → x.since + (parm s t 9).toNat * 2000 ≤ s.now - 1 → (parm s t 17).toInt < parmF s t 4 0 → ∃ u,
      Does (.feedRampTimeout c) s u ∧ libState u t = 3 ∧ libReason u t = 3 ∧
      (parm u t 18).bit 2 = true ∧ raised u (4 * libCh t + 3) .uc 3) ∧
    ((parm s t 18).bit 2 = true → (parm s t 7).toNat * 2000 ≤ s.now - 1 - x.latch → bandOf s (libCh t) ≤ (parm s t 8).toNat → ∃ u, Does (.feedCoolDownEnd c) s u ∧
      (parm u t 18).bit 4 = true ∧ parm u t 20 = 0 ∧ libState u t = libState s t) ∧
    (∀ t0, x.pres = some (false, t0) → t0 + (parm s t 11).toNat * 2000 ≤ s.now - 1 → ∃ u, Does (.feedPresenceAccepted c) s u ∧ libState u t = 4 ∧
      (parm u t 18).bit 3 = false ∧ (parm u t 18).bit 5 = true ∧ (libOf u c.val).pres = none)) ∧
  (libAt s c.val libFeed = none → Does (.feedFaultTimerExpiry c) s s ∧ Does (.feedRampTimeout c) s s ∧
    Does (.feedCoolDownEnd c) s s ∧ Does (.feedPresenceAccepted c) s s) ∧
  (∀ t, libAt s c.val libBatt = some t →
    (∀ z, libState s t = 3 → x.timer = some z → z + (parm s t 10).toNat * 2000 ≤ s.now - 1 → ∃ u, Does (.stringReinsTimer c) s u ∧ libState u t = 4 ∧ (libOf u c.val).timer = none ∧
      ∀ k, ledgerOf s (libCh t) = some k → (vat u.clg k Ledger.init).absent = false) ∧
    (libState s t ≠ 3 ∨ x.timer = none → Does (.stringReinsTimer c) s s)) ∧
  (∀ t, libAt s c.val libHold = some t →
    (∀ n v, memberTask s libRect n = some v → v.paramAt + 48 ≤ t.paramAt ∨ t.paramAt + 48 ≤ v.paramAt) →
    (libState s t = 1 → (parm s t 8).toNat ≤ (s.now - x.since) / 2000 → ∃ u, Does (.holdupHandTimer c) s u ∧ libState u t = 2 ∧ (libOf u c.val).since = s.now) ∧
    (libState s t = 3 → (parm s t 6).toNat ≤ (s.now - x.since) / 2000 → ∃ u, Does (.holdupQualEnd c) s u ∧ libState u t = 4 ∧ parm u t 33 = 0 ∧
      (libOf u c.val).since = s.now ∧ (libOf u c.val).limRet = 0) ∧
    (libState s t ≠ 1 ∨ (s.now - x.since) / 2000 < (parm s t 8).toNat → Does (.holdupHandTimer c) s s) ∧
    (libState s t ≠ 3 ∨ (s.now - x.since) / 2000 < (parm s t 6).toNat → Does (.holdupQualEnd c) s s)) ∧
  (∀ t, libAt s c.val libCap = some t → (parm s t 5).toNat = 1 →
    (x.phase = 1 → x.mark + (parm s t 9).toNat * 2000 ≤ s.now → capLimits s t = true → fge (fadd (parm s t 66) (parm s t 8)) (parm s t 6) = false →
      ∃ u, Does (.capSearchStep c) s u ∧ parm u t 66 = fadd (parm s t 66) (parm s t 8) ∧
        (libOf u c.val).lastOk = parm s t 66 ∧ (libOf u c.val).mark = s.now ∧ (libOf u c.val).phase = 1) ∧
    (x.phase = 1 → x.mark + (parm s t 9).toNat * 2000 ≤ s.now → capLimits s t = true → fge (fadd (parm s t 66) (parm s t 8)) (parm s t 6) = true →
      ∃ u, Does (.capSearchStep c) s u ∧ parm u t 66 = fmul 0x3F666666 (parm s t 6) ∧ (libOf u c.val).phase = 2) ∧
    (x.phase = 2 → fge (secsOf (s.now - x.mark)) (parm s t 13) = true → ∃ u, Does (.capResearchTimer c) s u ∧ (libOf u c.val).phase = 0 ∧ parm u t 66 = parm s t 7) ∧
    (x.phase ≠ 1 ∨ s.now < x.mark + (parm s t 9).toNat * 2000 → Does (.capSearchStep c) s s) ∧
    (x.phase ≠ 2 → Does (.capResearchTimer c) s s)) ∧
  (∀ t n p k r v, libAt s c.val libCap = some t → x.shed = (n, p, k) :: r → memberTask s libFeed n = some v →
    (10 ≤ k → ∃ u, Does (.feedRestore c) s u ∧ (libOf u c.val).shed = r ∧ parm u v 14 = 0) ∧
    (k < 10 → Does (.feedRestore c) s s)) ∧
  (libAt s c.val libCap = none → Does (.feedRestore c) s s) ∧
  (∀ t, libAt s c.val libEst = some t →
    (libState s t = 1 ∨ libState s t = 2 → estHas s t 0 = false → heldFor (heldNow s c.val x.taper) (parm s t 12) = true →
      ∃ u, Does (.estimateTaperFull c) s u ∧ parm u t 32 = 0x3F800000 ∧
      parm u t 33 = 0x3F800000 ∧ estHas u t 0 = true ∧ estHas u t 2 = true ∧ libState u t = 2 ∧ (libOf u c.val).blend = none) ∧
    (heldFor (heldNow s c.val x.taper) (parm s t 12) = false → Does (.estimateTaperFull c) s s) ∧
    (libState s t = 0 → (estLg s t).absent = false → heldFor (heldNow s c.val x.rest) (parm s t 22) = true → ∃ u, Does (.estimateRestHeld c) s u ∧ libState u t = 1 ∧
      libReason u t = 8) ∧
    (libState s t = 1 → x.blend = none → heldFor (heldNow s c.val x.rest) (parm s t 15) = true → ∃ u, Does (.estimateRestHeld c) s u ∧ (libOf u c.val).blend.isSome = true ∧
      estHas u t 6 = true ∧ libState u t = 1) ∧
    (x.rest = none → Does (.estimateRestHeld c) s s) ∧
    (∀ z z0 k, x.blend = some (z, z0, k) →
      let all := (cvti (fmul (parm s t 21) 0x49F42400) 0).1.toNat
      (k + (s.now - x.stepTick) < all → Does (.estimateBlendEnd c) s s) ∧
      (all ≤ k + (s.now - x.stepTick) → ∃ u, Does (.estimateBlendEnd c) s u ∧
      parm u t 33 = fadd (parm s t 33) (fdiv (fmul (fsub z z0) (secsOf (all - k))) (parm s t 21)) ∧
      (libOf u c.val).blend = none ∧ libState u t = (if libState s t = 1 then 2 else libState s t))) ∧
    (x.blend = none → Does (.estimateBlendEnd c) s s))

/-- R340 to R342, R344, R350 to R352: hops, the train that J0 starts, its passage and its return, and enumeration. -/
def Obligations.JoinTrain : Prop :=
  ∀ s : State, joinRuns s = true →
  (∀ (p : JPort) vmax vmin serial role, (s.jnb.port p).hop ≠ .up →
    (min 2 vmax < max 1 vmin → ∃ u, Does (.hopHello p vmax vmin serial role) s u ∧ (u.jnb.port p).hop = .down ∧
      u.jnb.evt.getLsbD 2 = true ∧ u.jnb.port (otherPort p) = s.jnb.port (otherPort p)) ∧
    (max 1 vmin ≤ min 2 vmax → ∃ u, Does (.hopHello p vmax vmin serial role) s u ∧ (u.jnb.port p).hop = .up ∧
      (u.jnb.port p).version = min 2 vmax ∧ (u.jnb.port p).serial = serial ∧ (u.jnb.port p).usable = false ∧
      (u.jnb.port p).upTick = s.now ∧ (u.jnb.port p).delay ≤ 16000 ∧ u.jnb.port (otherPort p) = s.jnb.port (otherPort p))) ∧
  (∀ p : JPort,
    ((s.jnb.port p).hop = .up → (s.jnb.port p).role ≠ 3 → (s.jnb.port p).upTick + 2000 ≤ s.now → ∃ u, Does (.hopUsable p) s u ∧ (u.jnb.port p).usable = true ∧ (u.jnb.port p).hop = .up ∧
      u.jnb.port (otherPort p) = s.jnb.port (otherPort p)) ∧
    ((s.jnb.port p).hop ≠ .up ∨ (s.jnb.port p).role = 3 ∨ s.now < (s.jnb.port p).upTick + 2000 → Does (.hopUsable p) s s) ∧
    ((s.jnb.port p).hop = .up → ∃ u code, Does (.hopDown p) s u ∧ (u.jnb.port p).hop = .down ∧
      (u.jnb.port p).usable = false ∧ u.jnb.evt.getLsbD 0 = true ∧ raised u 959 .uc code) ∧
    ((s.jnb.port p).hop ≠ .up → ∃ u, Does (.hopDown p) s u ∧ (u.jnb.port p).hop = .down ∧ u.fcr = s.fcr)) ∧
  (isMaster s = true → s.jnb.ja.usable = true ∨ s.jnb.jb.usable = true → s.clk.tc.toNat % 200 = 0 → s.jnb.passed = false →
    ∃ u t, Does .trainStart s u ∧ u.jnb.sent = some t ∧
    t.cycleTc = s.clk.tc ∧ t.syncOk = true ∧ t.slots.length = 8 * t.g ∧ t.enumF = (s.jnb.st != 3) ∧
    u.jnb.passed = true ∧ u.jnb.ended = false ∧ u.jnb.back = none ∧ u.chan = s.chan ∧ (s.jnb.st ≠ 3 → u.jnb.addr = some 0 ∧ u.jnb.st = 2 ∧ u.jnb.ndev = 0)) ∧
  (isMaster s = false ∨ (s.jnb.ja.usable = false ∧ s.jnb.jb.usable = false) ∨ s.clk.tc.toNat % 200 ≠ 0 ∨ s.jnb.passed = true →
    Does .trainStart s s) ∧
  (∀ p t, (s.jnb.port p).hop ≠ .up ∨ (s.jnb.port p).role = 3 → Does (.trainPassage p t) s s) ∧
  (∀ p t, (s.jnb.port p).hop = .up → (s.jnb.port p).role ≠ 3 →
    (t.syncOk = false → (∀ x ∈ t.cells, x.full = false) → ∃ u, Does (.trainPassage p t) s u ∧
      (isMaster s = true ∨ s.jnb.passed = true → u.jnb.sent = some t) ∧ (isMaster s = false → u.jnb.passed = true) ∧
      u.jnb.crcErr = s.jnb.crcErr + BitVec.ofNat 32 (t.badCells.length + t.badGroups.length + 1) ∧
      u.jnb.master = s.jnb.master ∧ u.jnb.g = s.jnb.g ∧ u.jnb.ndev = s.jnb.ndev) ∧
    (t.syncOk = true → (isMaster s = true ∧ t.mserial ≠ mySerial s) ∨ (isMaster s = false ∧ s.jnb.master.any (· != t.mserial) = true) →
      ∃ u code, Does (.trainPassage p t) s u ∧ (u.jnb.port p).role = 3 ∧ (u.jnb.port p).usable = false ∧
        u.jnb.evt.getLsbD 3 = true ∧ raised u 959 .uc code) ∧
    (t.syncOk = true → isMaster s = false → s.jnb.master = none → s.jnb.sent = none → t.badCells = [] →
      (∀ x ∈ t.cells, x.full = false) → t.enumF = false ∨ s.jnb.st ≠ 3 →
      ∃ u t', Does (.trainPassage p t) s u ∧ u.jnb.master = some t.mserial ∧ (u.jnb.port p).role = 1 ∧ u.jnb.g = t.g ∧
        u.jnb.c = cellsOf t.g ∧ u.jnb.ndev = t.ndev ∧ u.jnb.delay = BitVec.ofNat 32 t.delayAcc ∧ u.jnb.ring = t.ring ∧
        u.jnb.sent = some t' ∧ t'.slots.length = t.slots.length ∧ t.delayAcc ≤ t'.delayAcc ∧ u.jnb.addr = s.jnb.addr ∧
        (s.jnb.addr = none → s.jnb.st ≠ 4 → u.jnb.st = 2)) ∧
    (∀ x rest, t.syncOk = true → t.badCells = [] → t.cells = x :: rest → (∀ y ∈ rest, y.full = false) → x.full = true →
      x.kind = 1 →
      let next := (lat x.pay 0 0).bits 10 0
      (isMaster s = false → s.jnb.master = none → s.jnb.sent = none → s.jnb.addr = none →
        (if t.enumF then next < 1024 else next < 8 * t.g) →
        ∃ u t', Does (.trainPassage p t) s u ∧ u.jnb.addr = some (BitVec.ofNat 10 next) ∧ u.jnb.st = 3 ∧
          u.jnb.late = !t.enumF ∧ u.jnb.sent = some t' ∧ (lat t'.cells 0 Cell.empty).pay = [BitVec.ofNat 32 (next + 1)]) ∧
      (isMaster s = true → t.mserial = mySerial s → p = .ja → s.jnb.st = 2 → s.jnb.ended = false → ∃ u, Does (.trainPassage p t) s u ∧
        u.jnb.st = 3 ∧ u.jnb.ndev = max 1 next ∧ u.jnb.g = groupsOf (max 1 next) ∧ u.jnb.ring = !t.lineJa ∧
        u.jnb.cycles = s.jnb.cycles + 1 ∧ u.jnb.back.isSome = true))) ∧
  (∀ next : Nat,
    (s.jnb.addr.isSome = true ∨ isMaster s = true → Does (.enum next) s s) ∧
    (s.jnb.addr = none → isMaster s = false →
      (s.jnb.st = 1 ∨ s.jnb.st = 2 → next < 1024 → ∃ u, Does (.enum next) s u ∧ u.jnb.addr = some (BitVec.ofNat 10 next) ∧
        u.jnb.st = 3 ∧ u.jnb.late = false ∧ u.chan = s.chan) ∧
      (s.jnb.st ≠ 1 → s.jnb.st ≠ 2 → next < 8 * s.jnb.g → ∃ u, Does (.enum next) s u ∧
        u.jnb.addr = some (BitVec.ofNat 10 next) ∧ u.jnb.st = 3 ∧ u.jnb.late = true ∧ u.chan = s.chan) ∧
      (s.jnb.st ≠ 1 → s.jnb.st ≠ 2 → s.jnb.st ≠ 4 → 8 * s.jnb.g ≤ next → ∃ u code, Does (.enum next) s u ∧
        u.jnb.addr = none ∧ u.jnb.st = 4 ∧ raised u 959 .uc code)))

/-- R348, R175, R176, R240: reservations and grants of cells, the messages of sequences, and system triggers. -/
def Obligations.JoinMessages : Prop :=
  ∀ s : State, joinRuns s = true →
  (∀ (src : JAddr) cells,
    let n := cells % 1024
    let rest := s.jnb.grants.filter (·.1 != src)
    (isMaster s = false → Does (.reserve src cells) s s) ∧
    (isMaster s = true → n = 0 → Does (.reserve src cells) s { s with jnb := { s.jnb with grants := rest } }) ∧
    (isMaster s = true → 0 < n → ∀ a, grantRun s.jnb.c rest n = some a → 5 ≤ a ∧ a + n ≤ s.jnb.c ∧
      (∀ g ∈ rest, a + n ≤ g.2.1 ∨ g.2.1 + g.2.2.1 ≤ a) ∧
      Does (.reserve src cells) s { s with jnb := { s.jnb with
        grants := rest ++ [(src, a, n, s.jnb.cycles)], grantQ := s.jnb.grantQ ++ [(src, fld a 16 ||| fld n 0, 0)] } }) ∧
    (isMaster s = true → 0 < n → grantRun s.jnb.c rest n = none → ∃ w, Does (.reserve src cells) s { s with jnb := { s.jnb with
        grantQ := s.jnb.grantQ ++ [(src, 0, w)] } } ∧ w.bit 0 = true)) ∧
  (∀ first count refused,
    (onJoin s = false → Does (.joinGrant first count refused) s s) ∧
    (onJoin s = true → refused = true → ∃ u, Does (.joinGrant first count refused) s u ∧ u.jnb.evt.getLsbD 4 = true ∧
      u.jnb.reserve = none ∧ u.jnb.first = s.jnb.first ∧ u.jnb.count = s.jnb.count) ∧
    (onJoin s = true → refused = false → Does (.joinGrant first count refused) s { s with jnb := { s.jnb with
      reserve := none, first := first % 1024, count := count % 1024 } })) ∧
  (∀ holder : JAddr,
    (isMaster s = true → Does (.grantExpiry holder) s
      { s with jnb := { s.jnb with grants := s.jnb.grants.filter fun g => g.1 != holder || s.jnb.cycles < g.2.2.2 + 10000 } }) ∧
    (isMaster s = false → Does (.grantExpiry holder) s s)) ∧
  (∀ (src : JAddr) (task : BitVec 16) off,
    (ctxOf s task.toNat = none → Does (.seqReq src task off) s s) ∧
    (∀ c t, ctxOf s task.toNat = some c → taskNo s task.toNat = some t → t.profile = .s → c < 512 →
      ((parm s t 3).bit 30 = true → (parm s t 3).bits 25 16 = src.toNat → Memory.wf s.shared = true →
        ∃ u, Does (.seqReq src task off) s u ∧ seqReqOn u t = !off ∧ seqSupOk u t = seqSupOk s t ∧ u.ctx = s.ctx ∧
          u.chan = s.chan ∧ u.fcr = s.fcr) ∧
      ((parm s t 3).bit 30 = false ∨ (parm s t 3).bits 25 16 ≠ src.toNat →
        ∃ u code, Does (.seqReq src task off) s u ∧ raised u (taskSrc (engOfCtx c)) (promoted s (taskSrc (engOfCtx c)) .ce) code ∧
          u.shared = s.shared ∧ u.ctx = s.ctx))) ∧
  (∀ (src : JAddr) (task : BitVec 16) st (k : Fin 64) t, seqTask s (384 + k.val) = some t →
    (st ≠ .locked → ∃ u, Does (.seqState src task st) s u ∧ u.chan = s.chan ∧ u.shared = s.shared ∧
      (seqOf u (384 + k.val)).slaves =
        (seqOf s (384 + k.val)).slaves.filter (fun x => !(x.1 == src && x.2.1 == task)) ++ [(src, task, st)] ∧
      (seqOf u (384 + k.val)).st = (seqOf s (384 + k.val)).st) ∧
    (∀ want d tf n, st = .locked → (seqOf s (384 + k.val)).wait = .await want src task.toNat d tf n →
      canFault (seqOf s (384 + k.val)).st = true →
      ∃ u, Does (.seqState src task st) s u ∧ (seqOf u (384 + k.val)).st = .unwind ∧
        (seqOf u (384 + k.val)).unwFault = true ∧ (u.cx (384 + k.val)).rel = none)) ∧
  (∀ (src : JAddr) (sysnum : BitVec 8) (f : BitVec 48) (i : Fin 32), (trg s i).decl = true → trigSource (trg s i) = 3 →
    trigSys (trg s i) = sysnum.toNat →
    (∀ j : Fin 32, j ≠ i → (trg s j).decl = false ∨ trigSource (trg s j) ≠ 3 ∨ trigSys (trg s j) ≠ sysnum.toNat) →
    ((trg s i).st = .armed → (trg s i).armTick ≤ s.now → ∃ u, Does (.joinTrigger src sysnum f) s u ∧ (trg u i).st = .fired ∧
      (trg u i).f = tickOf48 s.now f ∧ u.jnb = s.jnb) ∧
    ((trg s i).st ≠ .armed → (trg s i).pend = none → ∃ u, Does (.joinTrigger src sysnum f) s u ∧
      trg u i = { trg s i with missed := (trg s i).missed + 1 } ∧ u.jnb = s.jnb))


/-- R419, R421 to R423, R425, R428, R429: verification, local preparation, votes, and the messages of another coordinator. -/
def Obligations.UpdateVotes : Prop :=
  ∀ s : State,
  (∀ mid mseq, ofUpdate s mid mseq = false → Does (.voteOpen mid mseq) s s ∧ Does (.voteConfirm mid mseq) s s ∧
    (∀ no code voter, Does (.vote mid mseq no code voter) s s) ∧ (∀ t, Does (.voteCommit mid mseq t) s s) ∧
    (∀ code orig, Does (.voteAbort mid mseq code orig) s s) ∧ ∀ t code orig, Does (.voteFallback mid mseq t code orig) s s) ∧
  (∀ mid mseq, ofUpdate s mid mseq = true →
    (s.upe.phase = .verified → ∃ u, Does (.voteOpen mid mseq) s u ∧ u.upe.phase = .preparing ∧ u.upe.preparing = true ∧
      u.upe.yes = [] ∧ u.upe.no = [] ∧ u.upe.openTick = s.now) ∧
    (∀ code voter, s.upe.coord = true → s.upe.phase = .preparing →
      (s.upe.yes.contains voter = false → Does (.vote mid mseq false code voter) s
        { s with upe := { s.upe with yes := s.upe.yes ++ [voter] } }) ∧
      (s.upe.yes.contains voter = true → Does (.vote mid mseq false code voter) s s)) ∧
    (∀ code voter k, s.upe.coord = true → s.upe.phase = .ready → s.upe.yes.contains voter = false →
      (s.upe.expected.all fun a => (s.upe.yes ++ [voter]).contains a) = true →
      s.kio.accepted.find? (fun x => x.cmd == 0x0704 && x.begun) = none →
      s.kio.accepted.find? (fun x => x.cmd == 0x0703 && x.begun) = some k → k.mseq = none → k.mute = false → s.kio.isOpen = true →
      Memory.wf s.host = true →
      ∃ u, Does (.vote mid mseq false code voter) s u ∧ Completed s u k 0 0 0 0 ∧ u.upe.phase = .ready) ∧
    (∀ code voter, s.upe.coord = true → (s.upe.phase = .preparing ∨ s.upe.phase = .ready) →
      ∃ u, Does (.vote mid mseq true code voter) s u ∧ u.upe.phase = .verified ∧ u.upe.coord = false ∧ u.upe.lastCode = code ∧
        u.upe.evt.getLsbD 3 = true ∧ raised u 982 .uc (0x0A00 + code.toNat)) ∧
    (∀ t, s.upe.phase = .ready → s.upe.coord = false → ∃ u, Does (.voteCommit mid mseq t) s u ∧ u.upe.phase = .armed ∧
      u.upe.commitTick = t ∧ u.fcr = s.fcr) ∧
    (∀ code orig, updOpen s.upe.phase = true → ∃ u, Does (.voteAbort mid mseq code orig) s u ∧ u.upe.phase = .verified ∧
      u.upe.coord = false ∧ u.upe.lastCode = 0x10 ∧ u.upe.evt.getLsbD 3 = true ∧ u.upe.newPlan = none ∧
      raised u 982 .uc 0x0A10) ∧
    (∀ t code orig, s.upe.phase = .trial ∨ s.upe.phase = .armed → ∃ u, Does (.voteFallback mid mseq t code orig) s u ∧
      u.upe.phase = s.upe.phase ∧
      (s.upe.fallTick = none → u.upe.fallTick = some t ∧ u.upe.lastCode = 0x10 ∧
        u.upe.fallLog = (code.toNat, orig.toNat)) ∧
      (∀ g, s.upe.fallTick = some g → u.upe.fallTick = some (if tickOf48 s.now g ≤ tickOf48 s.now t then g else t))) ∧
    (s.upe.phase = .trial → s.upe.coord = false → ∃ u, Does (.voteConfirm mid mseq) s u ∧ u.upe.phase = .confirming ∧
      u.upe.mseqConf = s.upe.mseqNew ∧ u.upe.manSlot = !s.upe.manSlot ∧ u.upe.fallTick = none)) ∧
  ((s.upe.coord = true → (s.upe.phase = .preparing ∨ s.upe.phase = .ready) →
      (s.upe.expected.all fun a => s.upe.yes.contains a) = false → s.upe.openTick + 20000000 ≤ s.now →
      ∃ u, Does .voteTimeout s u ∧ u.upe.phase = .verified ∧ u.upe.lastCode = 0x0A ∧ raised u 982 .uc 0x0A0A) ∧
    (s.upe.coord = false ∨ s.now < s.upe.openTick + 20000000 → Does .voteTimeout s s)) ∧
  (s.upe.phase ≠ .verifying → Does .updVerifyEnd s s) ∧
  (s.upe.phase = .verifying →
    ((verifyCode s).1 = 0 → ∃ u, Does .updVerifyEnd s u ∧ u.upe.phase = .verified ∧ u.upe.mseqNew = manWord s 4 ∧
      u.upe.trialS = (manWord s 5).toNat ∧ u.upe.lastCode = 0) ∧
    ((verifyCode s).1 ≠ 0 → ∃ u, Does .updVerifyEnd s u ∧ u.upe.phase = .staging ∧ u.upe.evt.getLsbD 1 = true ∧
      u.upe.lastCode = BitVec.ofNat 8 (verifyCode s).1 ∧ raised u 982 (promoted s 982 .ce) (0x0A00 + (verifyCode s).1))) ∧
  (s.upe.preparing = false → ∀ j, Does (.prepareDone j) s s) ∧
  (s.upe.phase = .preparing → s.upe.preparing = true → dripBefore s = false →
    ((prepResult s).1 = 0 → s.kio.accepted.find? (fun x => x.cmd == 0x0704 && x.begun) = none →
      ∃ u, Does (.prepareDone none) s u ∧ u.upe.phase = .ready ∧ u.upe.preparing = false ∧
        u.upe.newPlan = (prepResult s).2.2.2.1 ∧ u.upe.newFw = (prepResult s).2.2.2.2 ∧ u.adm.img = s.adm.img) ∧
    (∀ j, s.upe.coord = true → ∃ u, Does (.prepareDone (some j)) s u ∧ u.upe.phase = .verified ∧ u.upe.lastCode = 9 ∧
      u.upe.lastPart = j ∧ raised u 982 .uc 0x0A09))

/-- R420, R422, R425 to R429: staging and the other update commands of the kiosk, tick C, the handover, settings, tick F and the end of
the trial. -/
def Obligations.UpdateSteps : Prop :=
  ∀ s : State,
  (s.upe.phase ≠ .armed ∨ s.now < tickOf48 s.now s.upe.commitTick → Does .commitTick s s) ∧
  (s.upe.phase = .armed → tickOf48 s.now s.upe.commitTick ≤ s.now → ∃ u, Does .commitTick s u ∧ u.upe.phase = .trial ∧ u.upe.trialStart = s.now ∧ u.upe.newPlan = none ∧
    u.upe.old.isSome = true ∧
    (s.upe.newPlan = none → u.adm = s.adm) ∧
    (∀ g pl, s.upe.newPlan = some (g, pl) → (placesNow g pl (fencedSet s) (fencedSU s)).isSome = true →
      u.adm.img = some g ∧ u.adm.nominal = pl) ∧
    (∀ v, s.upe.newFw = some v → v ≠ s.upe.fwAct → u.upe.fwAct = v ∧ u.kio.handover = some (s.now + 4000) ∧
      u.boot.half = !s.boot.half ∧ u.boot.hand = some (handArea u) ∧ (handArea u).timers = [s.upe.openTick, s.now]) ∧
    (s.upe.newFw = none → u.upe.fwAct = s.upe.fwAct ∧ u.kio.handover = s.kio.handover)) ∧
  (s.kio.handover = none → Does .handoverEnd s s) ∧
  (s.kio.handover.isSome = true → ∃ u, Does .handoverEnd s u ∧ u.kio.handover = none ∧ u.upe = s.upe) ∧
  (s.upe.phase = .trial →
    (∀ l, 4 * (stagedWords l).length ≤ 11264 → ∃ u, Does (.settingsMigration (some l)) s u ∧ u.upe.settings = l ∧
      u.upe.fallTick = s.upe.fallTick) ∧
    (∀ l, (l = none ∨ ∃ l', l = some l' ∧ 11264 < 4 * (stagedWords l').length) → ∃ u, Does (.settingsMigration l) s u ∧
      u.upe.fallTick.isSome = true ∧ u.upe.evt.getLsbD 5 = true)) ∧
  (s.upe.phase ≠ .trial → s.upe.phase ≠ .confirming → ∀ l, Does (.settingsMigration l) s s) ∧
  (s.upe.fallTick = none ∨ (∃ f, s.upe.fallTick = some f ∧ s.now < tickOf48 s.now f) → Does .fallbackTick s s) ∧
  (∀ o f, s.upe.fallTick = some f → tickOf48 s.now f ≤ s.now → s.upe.phase = .trial → s.upe.old = some o → ∃ u, Does .fallbackTick s u ∧
    u.upe.phase = .idle ∧ u.upe.fwAct = o.fw ∧ u.upe.evt.getLsbD 4 = true ∧ u.upe.staged = 0 ∧
    raised u 982 .uc (0x0A00 + s.upe.lastCode.toNat)) ∧
  (s.upe.phase ≠ .trial ∨ s.now < s.upe.trialStart + 2000000 * s.upe.trialS → Does .trialEnd s s) ∧
  (s.upe.phase = .trial → s.upe.trialStart + 2000000 * s.upe.trialS ≤ s.now → s.upe.coord = false → Does .trialEnd s { s with upe := { s.upe with trialS := 0 } }) ∧
  (s.upe.phase = .trial → s.upe.trialStart + 2000000 * s.upe.trialS ≤ s.now → s.upe.coord = true → s.upe.auto = true → s.upe.fallTick = none → ∃ u, Does .trialEnd s u ∧
    u.upe.phase = .confirming ∧ u.upe.mseqConf = s.upe.mseqNew) ∧
  (∀ tag k,
    (∀ bs, Ready s 0x0701 tag k → s.upe.phase = .staging →
      let dest := (k.arg 3).bits 1 0
      let blocks := stageBlocks bs.length bs
      dest ≤ 2 → ∀ at_ len, stageDest s dest ((k.arg 3).bits 31 16) = some (at_, len) →
        (k.arg 4).toNat + sumNat (blocks.map (·.1.length)) ≤ len →
        let w := stageWrite blocks 0 (at_ + (k.arg 4).toNat) s.upe.flash
        ∃ u, Does (.updStage tag (some bs)) s u ∧ u.upe.flash = w.2.2 ∧ u.upe.staged = bitPut s.upe.staged dest true ∧
          Completed s u k 0 (if w.2.1 then 0 else 0x11) (if w.2.1 then 0 else BitVec.ofNat 32 w.1) (BitVec.ofNat 32 w.1)) ∧
    (Ready s 0x0701 tag k → s.upe.phase = .staging → ∃ u, Does (.updStage tag none) s u ∧ Completed s u k 0x0025 0 0 0 ∧
      u.kio.err.getLsbD 0 = true) ∧
    (∀ b, Ready s 0x0701 tag k → s.upe.phase = .ready ∨ s.upe.phase = .trial → ∃ u, Does (.updStage tag b) s u ∧
      Completed s u k 0x0024 0 0 0 ∧ u.upe = s.upe) ∧
    (Ready s 0x0702 tag k → s.upe.phase = .staging → ∃ u, Does (.updVerify tag) s u ∧ u.upe.phase = .verifying ∧
      u.kio.cq = s.kio.cq) ∧
    (Ready s 0x0702 tag k → s.upe.phase ≠ .staging → ∃ u, Does (.updVerify tag) s u ∧ Completed s u k 0x0024 0 0 0 ∧ u.upe = s.upe) ∧
    (Ready s 0x0703 tag k → s.upe.phase = .verified → k.foreign = false → ∃ u, Does (.updPrepare tag) s u ∧
      u.upe.phase = .preparing ∧ u.upe.coord = true ∧ u.upe.preparing = true ∧ u.kio.cq = s.kio.cq ∧
      (s.prl.role ≠ .standby → ∃ p, u.jnb.outQ = s.jnb.outQ ++ [(0x30, 0x3FF, p)])) ∧
    (Ready s 0x0703 tag k → s.upe.phase ≠ .verified → ∃ u, Does (.updPrepare tag) s u ∧ Completed s u k 0x0024 0 0 0 ∧
      u.upe = s.upe) ∧
    (Ready s 0x0704 tag k → s.upe.phase = .ready → s.upe.coord = true →
      (s.upe.expected.all fun a => s.upe.yes.contains a) = true → k.arg 3 = 0 → (k.arg 4).extractLsb' 0 16 = 0 →
      ∃ u, Does (.updCommit tag) s u ∧ u.upe.phase = .armed ∧ u.upe.commitTick = BitVec.ofNat 48 (earliestC s) ∧
        s.now + 100000 ≤ earliestC s ∧ u.kio.cq = s.kio.cq ∧ (s.prl.role ≠ .standby → ∃ p, u.jnb.outQ = s.jnb.outQ ++ [(0x32, 0x3FF, p)])) ∧
    (Ready s 0x0704 tag k → s.upe.phase ≠ .ready → s.upe.phase ≠ .verified → ∃ u, Does (.updCommit tag) s u ∧
      Completed s u k 0x0024 0 0 0 ∧ u.upe = s.upe) ∧
    (Ready s 0x0705 tag k → s.upe.phase = .trial → trialOver s = true → s.upe.fallTick = none → s.upe.coord = true →
      ∃ u, Does (.updConfirm tag) s u ∧ Completed s u k 0 0 0 0 ∧ u.upe.phase = .confirming ∧ u.upe.mseqConf = s.upe.mseqNew) ∧
    (Ready s 0x0705 tag k → s.upe.phase ≠ .trial ∨ trialOver s = false → ∃ u, Does (.updConfirm tag) s u ∧
      Completed s u k 0x0024 0 0 0 ∧ u.upe = s.upe) ∧
    (Ready s 0x0706 tag k → s.upe.phase = .trial → s.upe.fallTick = none → ∃ u, Does (.updFallback tag) s u ∧
      u.upe.fallTick = some (BitVec.ofNat 48 (nextFall s)) ∧ u.upe.lastCode = 0x0E ∧ u.upe.phase = .trial ∧ u.kio.cq = s.kio.cq) ∧
    (Ready s 0x0706 tag k → s.upe.phase ≠ .trial → ∃ u, Does (.updFallback tag) s u ∧ Completed s u k 0x0024 0 0 0 ∧
      u.upe = s.upe))


/-- R354, R355, R357, R364, R365, R367, R371, Tables 17.3, 17.4 and 17.7: the partner's HELLO, tick cells, disputes, takeover and the
end of a resynchronisation. -/
def Obligations.PairLink : Prop :=
  ∀ s : State,
  (∀ ws d,
    let w := fun (i : Nat) => lat ws i 0
    let v := if max 1 ((w 0).bits 23 16) ≤ min 2 ((w 0).bits 31 24) then min 2 ((w 0).bits 31 24) else 0
    let mine := s.prl.role == .lead && s.chan.any (·.st != .off)
    let theirs := (w 0).bit 0 && (w 0).bit 1
    let lead := if mine != theirs then mine else !s.prl.side
    (pairRuns s = false ∨ s.prl.link = .up → Does (.pairHello ws d) s s) ∧
    (pairRuns s = true → s.prl.link ≠ .up →
      (40 < d → Does (.pairHello ws d) s { s with prl := { s.prl with link := .down } }) ∧
      (d ≤ 40 → (w 0).bit 8 = s.prl.side → ∃ u code, Does (.pairHello ws d) s u ∧ u.prl.role = .standby ∧ u.prl.pst = .clash ∧
        u.prl.evt.getLsbD 5 = true ∧ raised u 960 .uc code) ∧
      (d ≤ 40 → (w 0).bit 8 ≠ s.prl.side → v = 0 ∨ firmwareFits v s.upe.fwAct s.prl.compat (w 3) (w 4) = false →
        ∃ u, Does (.pairHello ws d) s u ∧ u.prl.pst = .mismatch ∧ u.prl.role = (if s.prl.side then .standby else .solo) ∧
          u.prl.evt.getLsbD 4 = true ∧ u.chan = s.chan) ∧
      (d ≤ 40 → (w 0).bit 8 ≠ s.prl.side → v ≠ 0 → firmwareFits v s.upe.fwAct s.prl.compat (w 3) (w 4) = true →
        ∃ u, Does (.pairHello ws d) s u ∧ u.prl.link = .up ∧ u.prl.version = v ∧ u.prl.pst = .resync ∧
          u.prl.role = (if lead then .lead else .standby) ∧ u.prl.resyncTick = s.now ∧ u.prl.hello = ownHello s))) ∧
  (s.prl.link ≠ .up → Does .pairLinkDown s s) ∧
  (s.prl.link = .up → ∃ u, Does .pairLinkDown s u ∧ u.prl.link = .down ∧ u.prl.version = 0 ∧ u.prl.role = s.prl.role ∧
    u.prl.pst = lostState s.prl.role s.prl.pst) ∧
  (pairRuns s = true → s.prl.missing ≠ 1 → Does (.tickCell none) s { s with prl := { s.prl with missing := s.prl.missing + 1 } }) ∧
  (∀ x : TickCell, pairRuns s = true → s.prl.missing ≠ 1 → x.tc ≠ BitVec.ofNat 16 (s.now - 1) →
    Does (.tickCell (some x)) s { s with prl := { s.prl with missing := s.prl.missing + 1 } }) ∧
  (pairRuns s = true → s.prl.missing = 1 →
    (s.prl.role = .standby → s.prl.pst = .inSync → ∃ u, Does (.tickCell none) s u ∧ u.prl.role = .lead ∧
      u.prl.takeover = some s.now ∧ u.prl.takeovers = s.prl.takeovers + 1 ∧ u.prl.evt.getLsbD 0 = true ∧
      u.prl.evt.getLsbD 1 = true ∧ ∀ l : LinkNo, (s.lk l.val).inUse = true → (u.lk l.val).own = true) ∧
    (s.prl.role = .lead → s.prl.pst = .inSync → ∃ u, Does (.tickCell none) s u ∧ u.prl.pst = .alone ∧ u.prl.role = .lead ∧
      u.prl.evt.getLsbD 0 = true)) ∧
  (∀ x : TickCell, pairRuns s = true → s.prl.link = .up → x.tc = BitVec.ofNat 16 (s.now - 1) → x.takeover = false →
    x.yield = false → s.prl.pst = .inSync → x.pstate = .inSync → s.clk.notAligned = false →
    let same := x.odig = s.prl.odig ∧ (s.prl.version = 2 → x.sdig = s.prl.sdig)
    (x.mask = s.prl.mask → same → Does (.tickCell (some x)) s { s with prl := { s.prl with missing := 0, lastBad := false } }) ∧
    (x.mask ≠ s.prl.mask → ∃ u code, Does (.tickCell (some x)) s u ∧ u.prl.pst = .resync ∧
      u.prl.splits = s.prl.splits + 1 ∧ u.prl.evt.getLsbD 2 = true ∧ raised u 960 (promoted s 960 .ce) code) ∧
    (x.mask = s.prl.mask → ¬ same → s.prl.lastBad = false → ∃ u code, Does (.tickCell (some x)) s u ∧ u.prl.pst = .inSync ∧
      u.prl.mismatch = s.prl.mismatch + 1 ∧ u.prl.lastBad = true ∧ raised u 960 (promoted s 960 .ce) code) ∧
    (x.mask = s.prl.mask → ¬ same → s.prl.lastBad = true → ∃ u code, Does (.tickCell (some x)) s u ∧ u.prl.pst = .dispute ∧
      u.prl.check = .running ∧ u.prl.evt.getLsbD 3 = true ∧ raised u 960 .uc code)) ∧
  (s.prl.pst ≠ .dispute → ∀ b, Does (.selfCheckEnd b) s s ∧ Does .disputeTimeout s s) ∧
  (s.prl.pst = .dispute → s.prl.check = .running → s.prl.dispute.isSome = true →
    (∀ b, s.prl.partner ≠ .pass → s.prl.partner ≠ .fail → Does (.selfCheckEnd b) s
      { s with prl := { s.prl with check := if b then .pass else .fail } }) ∧
    (∀ d, s.prl.dispute = some d → s.now < d + 12 → Does .disputeTimeout s s) ∧
    (∀ d, s.prl.dispute = some d → d + 12 ≤ s.now → s.prl.partner ≠ .pass → Does .disputeTimeout s { s with prl := { s.prl with partner := .fail } }) ∧
    (s.prl.role = .lead → s.prl.partner = .pass →
      (∃ u, Does (.selfCheckEnd true) s u ∧ u.prl.pst = .resync ∧ u.prl.role = .lead ∧ u.prl.dispute = none) ∧
      (∃ u, Does (.selfCheckEnd false) s u ∧ u.prl.pst = .fenced ∧ u.prl.role = .standby ∧ u.prl.yields = s.prl.yields + 1)) ∧
    (s.prl.role = .lead → s.prl.partner = .fail →
      (∃ u, Does (.selfCheckEnd true) s u ∧ u.prl.pst = .alone ∧ u.prl.role = .lead) ∧
      (∃ u code, Does (.selfCheckEnd false) s u ∧ u.prl.pst = .alone ∧ raised u 960 .fe code)) ∧
    (s.prl.role = .standby → s.prl.partner = .pass →
      ∃ u, Does (.selfCheckEnd false) s u ∧ u.prl.pst = .fenced ∧ u.prl.role = .standby)) ∧
  (∀ d, s.prl.pst = .dispute → s.prl.check = .pass → s.prl.dispute = some d → d + 12 ≤ s.now → s.prl.role = .lead → s.prl.partner ≠ .pass →
    ∃ u, Does .disputeTimeout s u ∧ u.prl.pst = .alone ∧ u.prl.role = .lead ∧ u.prl.dispute = none) ∧
  (s.prl.takeover = none ∨ (∃ z, s.prl.takeover = some z ∧ s.now < z + 8) → Does .takeoverWindowEnd s s) ∧
  (∀ z, s.prl.takeover = some z → z + 8 ≤ s.now →
    (s.prl.takeMask ≠ 0 → Does .takeoverWindowEnd s { s with prl := { s.prl with takeover := none } }) ∧
    (s.prl.takeMask = 0 → s.prl.role = .lead → ∃ u code, Does .takeoverWindowEnd s u ∧ u.prl.role = .standby ∧
      u.prl.takeover = none ∧ u.prl.evt.getLsbD 6 = true ∧ raised u 960 .uc code ∧
      u.prl.pst = (if 2 ≤ s.prl.missing ∨ s.prl.link ≠ .up then .isolated else .resync))) ∧
  (inResync s = false ∨ s.clk.tc.toNat % 2000 ≠ 0 ∨ s.prl.converge = false ∨ s.prl.equalRun < 4000 → Does .inSyncEntry s s) ∧
  (inResync s = true → s.clk.tc.toNat % 2000 = 0 → s.prl.converge = true → 4000 ≤ s.prl.equalRun → ∃ u, Does .inSyncEntry s u ∧ u.prl.pst = .inSync ∧ u.prl.role = .standby ∧
    u.prl.syncTime = BitVec.ofNat 32 ((s.now - s.prl.resyncTick) / 2000) ∧ u.fcr = s.fcr) ∧
  (s.prl.link = .up → s.prl.pst = .resync →
    (s.prl.converge = true → s.prl.restartAt = none → s.prl.copyEnd + 2000000 ≤ s.now → ∃ u code, Does .resyncTimeout s u ∧
      u.prl.fails = s.prl.fails + 1 ∧ u.prl.evt.getLsbD 7 = true ∧ u.prl.restartAt = some (s.now + 2000000) ∧
      raised u 960 (if s.prl.fails = 2 then .uc else promoted s 960 .ce) code) ∧
    (∀ z, s.prl.restartAt = some z → z ≤ s.now → ∃ u, Does .resyncRestart s u ∧ u.prl.resyncTick = s.now ∧
      u.prl.converge = false ∧ u.prl.equalRun = 0 ∧ u.prl.pst = .resync ∧ u.prl.restartAt = none ∧ u.fcr = s.fcr) ∧
    (s.prl.converge = false ∨ s.now < s.prl.copyEnd + 2000000 → Does .resyncTimeout s s) ∧
    (s.prl.restartAt = none ∨ (∃ z, s.prl.restartAt = some z ∧ s.now < z) → Does .resyncRestart s s)) ∧
  (s.prl.link ≠ .up ∨ s.prl.pst ≠ .resync → Does .resyncTimeout s s ∧ Does .resyncRestart s s)

/-- R131, R356, R358 to R362, R371: the messages of the pair link, on the device that receives them; a mirrored command or write
takes effect once it is applied. -/
def Obligations.PairMessages : Prop :=
  ∀ s : State,
  (mirrorTakes s = false → (∀ m e, Does (.pairCmd m e) s s) ∧ ∀ a ws, Does (.regw a ws) s s) ∧
  (mirrorTakes s = true →
    (∀ m e n, s.prl.pst = .inSync → s.prl.rxMseq = some n → n ≠ m → ∃ u, Does (.pairCmd m e) s u ∧ u.prl.pst = .resync ∧
      u.prl.rxMseq = some (m + 1)) ∧
    (∀ m e, s.prl.rxMseq = none ∨ s.prl.rxMseq = some m → ∃ u, Does (.pairCmd m e) s u ∧ u.prl.pst = s.prl.pst ∧
      u.prl.rxMseq = some (m + 1)) ∧
    (∀ m e, ∃ u k x, Does (.pairCmd m e) s u ∧ u.kio.accepted = s.kio.accepted ++ [k] ∧ k.cmd = (lat e 0 0).bits 31 16 ∧
      k.tag = (lat e 0 0).extractLsb' 0 16 ∧ k.ring.val = (lat e 1 0).bits 31 30 ∧ k.mseq = some m ∧ k.applied = false ∧
      k.foreign = true ∧ u.prl.queue = s.prl.queue ++ [x] ∧ x.mseq = m ∧ x.apply = s.now + 2 ∧ x.applied = false ∧
      (∀ i, i < 16 → k.arg i = lat e i 0) ∧ u.kio.cq = s.kio.cq) ∧
    (∀ a ws, ∃ u x, Does (.regw a ws) s u ∧ u.prl.queue = s.prl.queue ++ [x] ∧ x.isReg = true ∧ x.apply = s.now + 2 ∧
      x.words = BitVec.ofNat 32 a :: BitVec.ofNat 32 (4 * ws.length) :: ws ∧ u.kio = s.kio)) ∧
  (mgpRuns s = true →
    (s.prl.queue.find? (!·.applied) = none ∨ (∃ x, s.prl.queue.find? (!·.applied) = some x ∧ s.now < x.apply) →
      Does .mirrorApply s s) ∧
    (∀ x, s.prl.queue.find? (!·.applied) = some x → x.apply ≤ s.now → x.isReg = true → Does .mirrorApply s
      (regApply (lat x.words 0 0).toNat (lat x.words 1 0).toNat (x.words.drop 2)
        { s with prl := { s.prl with queue := s.prl.queue.filter (·.mseq != x.mseq) } })) ∧
    (∀ x, s.prl.queue.find? (!·.applied) = some x → x.apply ≤ s.now → x.isReg = false →
      s.kio.accepted.find? (fun k => k.mseq == some x.mseq) = none →
      Does .mirrorApply s { s with prl := { s.prl with queue := s.prl.queue.filter (·.mseq != x.mseq) } }) ∧
    (∀ x k, s.prl.queue.find? (!·.applied) = some x → x.apply ≤ s.now → x.isReg = false →
      s.kio.accepted.find? (fun k => k.mseq == some x.mseq) = some k → k.foreign = true → k.cmd = 0x0001 →
      ∃ u, Does .mirrorApply s u ∧ u.prl.queue = s.prl.queue.filter (·.mseq != x.mseq) ∧
        ∃ k', k' ∈ u.kio.accepted ∧ k' = { k with applied := true })) ∧
  (s.prl.role ≠ .lead ∨ pairFormed s = false → ∀ m st r0, Does (.pairStatus m st r0) s s) ∧
  (∀ m st r0 x k, s.prl.role = .lead → pairFormed s = true → s.prl.queue.find? (·.mseq == m) = some x →
    s.kio.accepted.find? (fun k => k.mseq == some m && !k.foreign) = some k → k.mute = false →
    (k.cmd = 0x0501 → (k.arg 3).bit 12 = true → s.kio.isOpen = true → Memory.wf s.host = true →
      ∃ u, Does (.pairStatus m st r0) s u ∧ Completed s u k st.toNat r0 0 0 ∧ u.prl.pst = s.prl.pst) ∧
    (k.cmd ≠ 0x0501 ∨ (k.arg 3).bit 12 = false →
    (∀ r1 r2, x.own = some (st, r0, r1, r2) → s.kio.isOpen = true → Memory.wf s.host = true →
      ∃ u, Does (.pairStatus m st r0) s u ∧ Completed s u k st.toNat r0 r1 r2 ∧ u.prl.pst = s.prl.pst) ∧
    (∀ st' q r1 r2, x.own = some (st', q, r1, r2) → st' ≠ st ∨ q ≠ r0 → s.prl.pst ≠ .dispute →
      ∃ u code, Does (.pairStatus m st r0) s u ∧ u.prl.pst = .dispute ∧ u.prl.check = .running ∧ raised u 960 .uc code) ∧
    (x.own = none → k.cmd ≠ 0x0703 ∨ s.upe.coord = false → ∃ u, Does (.pairStatus m st r0) s u ∧ u.kio = s.kio ∧ u.fcr = s.fcr ∧
      u.prl.queue = s.prl.queue.map fun y => if y.mseq == m then { y with partner := some (st, r0) } else y) ∧
    (x.own = none → k.cmd = 0x0703 → s.upe.coord = true → updOpen s.upe.phase = true → r0 ≠ 0 → ∃ u,
      Does (.pairStatus m st r0) s u ∧ u.upe.phase = .verified ∧ raised u 982 .uc (0x0A00 + r0.toNat)))) ∧
  (∀ e, (pairFormed s = true → Does (.plan e) s { s with prl := { s.prl with planEpoch := some e } }) ∧
    (pairFormed s = false → Does (.plan e) s s)) ∧
  (∀ kind seq,
    (s.prl.link = .up → kind ≠ 0x02 → kind ≠ 0x03 → Does (.pairNak kind seq) s
      { s with prl := { s.prl with resend := s.prl.resend ++ [(kind, seq)] } }) ∧
    (s.prl.link ≠ .up ∨ kind = 0x02 ∨ kind = 0x03 → Does (.pairNak kind seq) s s)) ∧
  (∀ id ws,
    (s.prl.role = .standby → pairFormed s = true → Does (.nvval id ws) s
      { s with prl := { s.prl with nvval := s.prl.nvval.filter (·.1 != id) ++ [(id, ws)] } }) ∧
    (s.prl.role ≠ .standby ∨ pairFormed s = false → Does (.nvval id ws) s s)) ∧
  (inResync s = false → (∀ ws, Does (.image ws) s s) ∧ (∀ it, Does (.copy it) s s ∧ Does (.pairLog it) s s) ∧
    ∀ t r ws cs rs, Does (.handoff t r ws cs rs) s s) ∧
  (inResync s = true →
    (∀ ws, s.adm.run = none → ∃ u run, Does (.image ws) s u ∧ u.adm.run = some run ∧ run.start = s.now ∧ u.adm.st = 1) ∧
    (∀ ws, s.adm.run.isSome = true → Does (.image ws) s s) ∧
    (∀ it, Does (.copy it) s (copyItem it s) ∧ Does (.pairLog it) s (copyItem it s)) ∧
    (∀ a ws, Memory.wf s.shared = true → ∃ u, Does (.copy (.shared a ws)) s u ∧ Memory.readWs u.shared (4 * a) ws.length = ws ∧
      ∀ b, b < 4 * a ∨ 4 * (a + ws.length) ≤ b → Memory.read u.shared b = Memory.read s.shared b) ∧
    (∀ (c : Ctx) (i : Fin 4) n, ∃ u, Does (.pairLog (.check c i n)) s u ∧ vat (u.cx c.val).chk i.val 0 = n ∧ u.shared = s.shared) ∧
    (∀ t r ws cs rs c tk, ctxOf s t.toNat = some c → c < 512 → taskNo s t.toNat = some tk →
      ((s.cx c).rel.isSome = true → ∃ u, Does (.handoff t r ws cs rs) s u ∧ u.ctx = s.ctx ∧ u.prl.converge = true) ∧
      (tickOf48 s.now r + relPeriod tk < s.now → ∃ u, Does (.handoff t r ws cs rs) s u ∧ u.ctx = s.ctx ∧ u.prl.converge = true) ∧
      ((s.cx c).rel = none → (s.cx c).wait = none → s.now ≤ tickOf48 s.now r + relPeriod tk →
        (s.cx c).lastTick ≠ some (tickOf48 s.now r + relPeriod tk) →
        ∃ u, Does (.handoff t r ws cs rs) s u ∧ u.prl.converge = true ∧ u.prl.handNext = t.toNat + 1 ∧
          (∀ i, 0 < i → i < 32 → vat (u.cx c).regs i 0 = lat ws (i - 1) 0) ∧
          (∀ i, i < 4 → vat (u.cx c).chk i 0 = lat cs i 0) ∧ u.chan = s.chan)))
end

