-- ==== Sys2Proof/Laws/Insn.lean ====
section
/-!
SUPPORT. The fields of the words of Table 3.5, read back from the word that a form makes.
-/
namespace Sys2Proof

/-- A concatenation as a number. -/
theorem toNat_append_add {m n : Nat} (x : BitVec m) (y : BitVec n) : (x ++ y).toNat = x.toNat * 2 ^ n + y.toNat := by
  rw [BitVec.toNat_append, ← Nat.shiftLeft_add_eq_or_of_lt y.isLt, Nat.shiftLeft_eq]

/-- The A-form word as a number. -/
theorem wordA_toNat (op : BitVec 8) (f : AForm) : (wordA op f).toNat =
    op.toNat * 16777216 + f.d.toNat * 524288 + f.a.toNat * 16384 + f.b.toNat * 512 + f.sh.toNat * 16 + f.md.toNat := by
  simp only [wordA, toNat_append_add]
  omega

@[simp] theorem wordA_op (op : BitVec 8) (f : AForm) (ext : W) : (insnOf (wordA op f) ext).op = op.toNat := by
  have h0 := op.isLt
  have h1 := f.d.isLt
  have h2 := f.a.isLt
  have h3 := f.b.isLt
  have h4 := f.sh.isLt
  have h5 := f.md.isLt
  simp only [insnOf, W.bits, wordA_toNat, Nat.shiftRight_eq_div_pow]
  omega
@[simp] theorem wordA_d (op : BitVec 8) (f : AForm) (ext : W) : (insnOf (wordA op f) ext).d = f.d.toNat := by
  have h0 := op.isLt
  have h1 := f.d.isLt
  have h2 := f.a.isLt
  have h3 := f.b.isLt
  have h4 := f.sh.isLt
  have h5 := f.md.isLt
  simp only [insnOf, W.bits, wordA_toNat, Nat.shiftRight_eq_div_pow]
  omega
@[simp] theorem wordA_a (op : BitVec 8) (f : AForm) (ext : W) : (insnOf (wordA op f) ext).a = f.a.toNat := by
  have h0 := op.isLt
  have h1 := f.d.isLt
  have h2 := f.a.isLt
  have h3 := f.b.isLt
  have h4 := f.sh.isLt
  have h5 := f.md.isLt
  simp only [insnOf, W.bits, wordA_toNat, Nat.shiftRight_eq_div_pow]
  omega
@[simp] theorem wordA_b (op : BitVec 8) (f : AForm) (ext : W) : (insnOf (wordA op f) ext).b = f.b.toNat := by
  have h0 := op.isLt
  have h1 := f.d.isLt
  have h2 := f.a.isLt
  have h3 := f.b.isLt
  have h4 := f.sh.isLt
  have h5 := f.md.isLt
  simp only [insnOf, W.bits, wordA_toNat, Nat.shiftRight_eq_div_pow]
  omega
@[simp] theorem wordA_sh (op : BitVec 8) (f : AForm) (ext : W) : (insnOf (wordA op f) ext).sh = f.sh.toNat := by
  have h0 := op.isLt
  have h1 := f.d.isLt
  have h2 := f.a.isLt
  have h3 := f.b.isLt
  have h4 := f.sh.isLt
  have h5 := f.md.isLt
  simp only [insnOf, W.bits, wordA_toNat, Nat.shiftRight_eq_div_pow]
  omega
@[simp] theorem wordA_md (op : BitVec 8) (f : AForm) (ext : W) : (insnOf (wordA op f) ext).md = f.md.toNat := by
  have h0 := op.isLt
  have h1 := f.d.isLt
  have h2 := f.a.isLt
  have h3 := f.b.isLt
  have h4 := f.sh.isLt
  have h5 := f.md.isLt
  simp only [insnOf, W.bits, wordA_toNat, Nat.shiftRight_eq_div_pow]
  omega

/-- The B-form word as a number. -/
theorem wordB_toNat (op : BitVec 8) (f : BForm) : (wordB op f).toNat =
    op.toNat * 16777216 + f.d.toNat * 524288 + f.a.toNat * 16384 + f.imm.toNat := by
  simp only [wordB, toNat_append_add]
  omega

@[simp] theorem wordB_op (op : BitVec 8) (f : BForm) (ext : W) : (insnOf (wordB op f) ext).op = op.toNat := by
  have h0 := op.isLt
  have h1 := f.d.isLt
  have h2 := f.a.isLt
  have h3 := f.imm.isLt
  simp only [insnOf, W.bits, wordB_toNat, Nat.shiftRight_eq_div_pow]
  omega
@[simp] theorem wordB_d (op : BitVec 8) (f : BForm) (ext : W) : (insnOf (wordB op f) ext).d = f.d.toNat := by
  have h0 := op.isLt
  have h1 := f.d.isLt
  have h2 := f.a.isLt
  have h3 := f.imm.isLt
  simp only [insnOf, W.bits, wordB_toNat, Nat.shiftRight_eq_div_pow]
  omega
@[simp] theorem wordB_a (op : BitVec 8) (f : BForm) (ext : W) : (insnOf (wordB op f) ext).a = f.a.toNat := by
  have h0 := op.isLt
  have h1 := f.d.isLt
  have h2 := f.a.isLt
  have h3 := f.imm.isLt
  simp only [insnOf, W.bits, wordB_toNat, Nat.shiftRight_eq_div_pow]
  omega
@[simp] theorem wordB_imm (op : BitVec 8) (f : BForm) (ext : W) : (insnOf (wordB op f) ext).imm = f.imm.toNat := by
  have h0 := op.isLt
  have h1 := f.d.isLt
  have h2 := f.a.isLt
  have h3 := f.imm.isLt
  simp only [insnOf, W.bits, wordB_toNat, Nat.shiftRight_eq_div_pow]
  omega

/-- The C-form word as a number. -/
theorem wordC_toNat (op : BitVec 8) (f : CForm) : (wordC op f).toNat =
    op.toNat * 16777216 + f.cond.toNat * 1048576 + f.cnt.toNat * 16384 + f.off.toNat := by
  simp only [wordC, toNat_append_add]
  omega

@[simp] theorem wordC_op (op : BitVec 8) (f : CForm) (ext : W) : (insnOf (wordC op f) ext).op = op.toNat := by
  have h0 := op.isLt
  have h1 := f.cond.isLt
  have h2 := f.cnt.isLt
  have h3 := f.off.isLt
  simp only [insnOf, W.bits, wordC_toNat, Nat.shiftRight_eq_div_pow]
  omega
@[simp] theorem wordC_cond (op : BitVec 8) (f : CForm) (ext : W) : (insnOf (wordC op f) ext).cond = f.cond.toNat := by
  have h0 := op.isLt
  have h1 := f.cond.isLt
  have h2 := f.cnt.isLt
  have h3 := f.off.isLt
  simp only [insnOf, W.bits, wordC_toNat, Nat.shiftRight_eq_div_pow]
  omega
@[simp] theorem wordC_cnt (op : BitVec 8) (f : CForm) (ext : W) : (insnOf (wordC op f) ext).cnt = f.cnt.toNat := by
  have h0 := op.isLt
  have h1 := f.cond.isLt
  have h2 := f.cnt.isLt
  have h3 := f.off.isLt
  simp only [insnOf, W.bits, wordC_toNat, Nat.shiftRight_eq_div_pow]
  omega
@[simp] theorem wordC_off (op : BitVec 8) (f : CForm) (ext : W) : (insnOf (wordC op f) ext).off = f.off.toNat := by
  have h0 := op.isLt
  have h1 := f.cond.isLt
  have h2 := f.cnt.isLt
  have h3 := f.off.isLt
  simp only [insnOf, W.bits, wordC_toNat, Nat.shiftRight_eq_div_pow]
  omega

/-- The D-form word as a number. -/
theorem wordD_toNat (op : BitVec 8) (f : DForm) : (wordD op f).toNat =
    op.toNat * 16777216 + f.d.toNat * 524288 + f.space.toNat * 65536 + f.addr.toNat := by
  simp only [wordD, toNat_append_add]
  omega

@[simp] theorem wordD_op (op : BitVec 8) (f : DForm) (ext : W) : (insnOf (wordD op f) ext).op = op.toNat := by
  have h0 := op.isLt
  have h1 := f.d.isLt
  have h2 := f.space.isLt
  have h3 := f.addr.isLt
  simp only [insnOf, W.bits, wordD_toNat, Nat.shiftRight_eq_div_pow]
  omega
@[simp] theorem wordD_d (op : BitVec 8) (f : DForm) (ext : W) : (insnOf (wordD op f) ext).d = f.d.toNat := by
  have h0 := op.isLt
  have h1 := f.d.isLt
  have h2 := f.space.isLt
  have h3 := f.addr.isLt
  simp only [insnOf, W.bits, wordD_toNat, Nat.shiftRight_eq_div_pow]
  omega
@[simp] theorem wordD_space (op : BitVec 8) (f : DForm) (ext : W) : (insnOf (wordD op f) ext).space = f.space.toNat := by
  have h0 := op.isLt
  have h1 := f.d.isLt
  have h2 := f.space.isLt
  have h3 := f.addr.isLt
  simp only [insnOf, W.bits, wordD_toNat, Nat.shiftRight_eq_div_pow]
  omega
@[simp] theorem wordD_addr (op : BitVec 8) (f : DForm) (ext : W) : (insnOf (wordD op f) ext).addr = f.addr.toNat := by
  have h0 := op.isLt
  have h1 := f.d.isLt
  have h2 := f.space.isLt
  have h3 := f.addr.isLt
  simp only [insnOf, W.bits, wordD_toNat, Nat.shiftRight_eq_div_pow]
  omega

/-- The E-form word as a number. -/
theorem wordE_toNat (op : BitVec 8) (f : EForm) : (wordE op f).toNat =
    op.toNat * 16777216 + f.d.toNat * 524288 + f.a.toNat * 16384 + f.x.toNat := by
  simp only [wordE, toNat_append_add]
  omega

@[simp] theorem wordE_op (op : BitVec 8) (f : EForm) (ext : W) : (insnOf (wordE op f) ext).op = op.toNat := by
  have h0 := op.isLt
  have h1 := f.d.isLt
  have h2 := f.a.isLt
  have h3 := f.x.isLt
  simp only [insnOf, W.bits, wordE_toNat, Nat.shiftRight_eq_div_pow]
  omega
@[simp] theorem wordE_d (op : BitVec 8) (f : EForm) (ext : W) : (insnOf (wordE op f) ext).d = f.d.toNat := by
  have h0 := op.isLt
  have h1 := f.d.isLt
  have h2 := f.a.isLt
  have h3 := f.x.isLt
  simp only [insnOf, W.bits, wordE_toNat, Nat.shiftRight_eq_div_pow]
  omega
@[simp] theorem wordE_a (op : BitVec 8) (f : EForm) (ext : W) : (insnOf (wordE op f) ext).a = f.a.toNat := by
  have h0 := op.isLt
  have h1 := f.d.isLt
  have h2 := f.a.isLt
  have h3 := f.x.isLt
  simp only [insnOf, W.bits, wordE_toNat, Nat.shiftRight_eq_div_pow]
  omega
@[simp] theorem wordE_x (op : BitVec 8) (f : EForm) (ext : W) : (insnOf (wordE op f) ext).imm = f.x.toNat := by
  have h0 := op.isLt
  have h1 := f.d.isLt
  have h2 := f.a.isLt
  have h3 := f.x.isLt
  simp only [insnOf, W.bits, wordE_toNat, Nat.shiftRight_eq_div_pow]
  omega

@[simp] theorem insnOf_ext (w ext : W) : (insnOf w ext).ext = ext := rfl

end Sys2Proof
end

