-- ==== Sys2Proof/Laws/State.lean ====
section
/-!
SUPPORT. One lemma for each field of State under each named update, and what the updates do to the unit they name; later proofs
need unfold no record update.
-/
namespace Sys2Proof.Machine

/-! Vectors by number. -/

/-- Reading what was put. -/
@[simp] theorem vat_vput_self {α : Type} {n : Nat} (v : Vector α n) {i : Nat} (h : i < n) (x d : α) :
    vat (vput v i x) i d = x := by simp [vat, vput, h]

/-- Reading elsewhere. -/
@[simp] theorem vat_vput_ne {α : Type} {n : Nat} (v : Vector α n) {i j : Nat} (h : i ≠ j) (x d : α) :
    vat (vput v i x) j d = vat v j d := by
  unfold vat vput
  by_cases hj : j < n <;> by_cases hi : i < n <;> simp [hi, hj, h]

/-- Putting past the end changes nothing. -/
theorem vput_out {α : Type} {n : Nat} (v : Vector α n) {i : Nat} (h : ¬ i < n) (x : α) : vput v i x = v := by
  simp [vput, h]

/-- Changing past the end changes nothing. -/
theorem vmod_out {α : Type} {n : Nat} (v : Vector α n) {i : Nat} (h : ¬ i < n) (f : α → α) : vmod v i f = v := by
  simp [vmod, h]

/-- Reading what was changed. -/
@[simp] theorem vat_vmod_self {α : Type} {n : Nat} (v : Vector α n) {i : Nat} (h : i < n) (f : α → α) (d : α) :
    vat (vmod v i f) i d = f (vat v i d) := by simp [vat, vmod, h]

/-- Reading an element that was not changed. -/
@[simp] theorem vat_vmod_ne {α : Type} {n : Nat} (v : Vector α n) {i j : Nat} (h : i ≠ j) (f : α → α) (d : α) :
    vat (vmod v i f) j d = vat v j d := by
  unfold vat vmod
  by_cases hj : j < n <;> by_cases hi : i < n <;> simp [hi, hj, h]

/-- An update that leaves the element leaves the vector. -/
theorem vmod_id {α : Type} {n : Nat} (v : Vector α n) (i : Nat) (f : α → α) (d : α)
    (h : i < n → f (vat v i d) = vat v i d) : vmod v i f = v := by
  unfold vmod
  split
  · rename_i hi
    have := h hi
    simp only [vat, hi, dite_true] at this
    rw [this]
    apply Vector.ext
    intro j hj
    simp only [Vector.getElem_set]
    split
    · subst_vars; rfl
    · rfl
  · rfl

/-- Two updates of one element are one. -/
theorem vmod_vmod {α : Type} {n : Nat} (v : Vector α n) (i : Nat) (f g : α → α) :
    vmod (vmod v i f) i g = vmod v i fun x => g (f x) := by
  unfold vmod
  split
  · simp [Vector.set_set]
  · rfl

/-- Updates that agree on the element are equal. -/
theorem vmod_congr {α : Type} {n : Nat} (v : Vector α n) (i : Nat) (f g : α → α) (d : α)
    (h : f (vat v i d) = g (vat v i d)) : vmod v i f = vmod v i g := by
  unfold vmod
  split
  · rename_i hi
    simp only [vat, hi, dite_true] at h
    rw [h]
  · rfl

/-! Fields of State under the named updates. -/

@[simp] theorem State.modCh_pending (s : State) (n : Nat) (f : Chan → Chan) : (s.modCh n f).pending = s.pending := rfl
@[simp] theorem State.modCh_fresh (s : State) (n : Nat) (f : Chan → Chan) : (s.modCh n f).fresh = s.fresh := rfl
@[simp] theorem State.modCh_clk (s : State) (n : Nat) (f : Chan → Chan) : (s.modCh n f).clk = s.clk := rfl
@[simp] theorem State.modCh_ctx (s : State) (n : Nat) (f : Chan → Chan) : (s.modCh n f).ctx = s.ctx := rfl
@[simp] theorem State.modCh_le (s : State) (n : Nat) (f : Chan → Chan) : (s.modCh n f).le = s.le := rfl
@[simp] theorem State.modCh_se (s : State) (n : Nat) (f : Chan → Chan) : (s.modCh n f).se = s.se := rfl
@[simp] theorem State.modCh_ue (s : State) (n : Nat) (f : Chan → Chan) : (s.modCh n f).ue = s.ue := rfl
@[simp] theorem State.modCh_eng (s : State) (n : Nat) (f : Chan → Chan) : (s.modCh n f).eng = s.eng := rfl
@[simp] theorem State.modCh_shared (s : State) (n : Nat) (f : Chan → Chan) : (s.modCh n f).shared = s.shared := rfl
@[simp] theorem State.modCh_shaft (s : State) (n : Nat) (f : Chan → Chan) : (s.modCh n f).shaft = s.shaft := rfl
@[simp] theorem State.modCh_pg (s : State) (n : Nat) (f : Chan → Chan) : (s.modCh n f).pg = s.pg := rfl
@[simp] theorem State.modCh_adm (s : State) (n : Nat) (f : Chan → Chan) : (s.modCh n f).adm = s.adm := rfl
@[simp] theorem State.modCh_snapSeq (s : State) (n : Nat) (f : Chan → Chan) : (s.modCh n f).snapSeq = s.snapSeq := rfl
@[simp] theorem State.modCh_link (s : State) (n : Nat) (f : Chan → Chan) : (s.modCh n f).link = s.link := rfl
@[simp] theorem State.modCh_kio (s : State) (n : Nat) (f : Chan → Chan) : (s.modCh n f).kio = s.kio := rfl
@[simp] theorem State.modCh_host (s : State) (n : Nat) (f : Chan → Chan) : (s.modCh n f).host = s.host := rfl
@[simp] theorem State.modCh_bbr (s : State) (n : Nat) (f : Chan → Chan) : (s.modCh n f).bbr = s.bbr := rfl
@[simp] theorem State.modCh_clg (s : State) (n : Nat) (f : Chan → Chan) : (s.modCh n f).clg = s.clg := rfl
@[simp] theorem State.modCh_tmu (s : State) (n : Nat) (f : Chan → Chan) : (s.modCh n f).tmu = s.tmu := rfl
@[simp] theorem State.modCh_tpc (s : State) (n : Nat) (f : Chan → Chan) : (s.modCh n f).tpc = s.tpc := rfl
@[simp] theorem State.modCh_twp (s : State) (n : Nat) (f : Chan → Chan) : (s.modCh n f).twp = s.twp := rfl
@[simp] theorem State.modCh_jnb (s : State) (n : Nat) (f : Chan → Chan) : (s.modCh n f).jnb = s.jnb := rfl
@[simp] theorem State.modCh_prl (s : State) (n : Nat) (f : Chan → Chan) : (s.modCh n f).prl = s.prl := rfl
@[simp] theorem State.modCh_fcr (s : State) (n : Nat) (f : Chan → Chan) : (s.modCh n f).fcr = s.fcr := rfl
@[simp] theorem State.modCh_nvs (s : State) (n : Nat) (f : Chan → Chan) : (s.modCh n f).nvs = s.nvs := rfl
@[simp] theorem State.modCh_upe (s : State) (n : Nat) (f : Chan → Chan) : (s.modCh n f).upe = s.upe := rfl
@[simp] theorem State.modCh_boot (s : State) (n : Nat) (f : Chan → Chan) : (s.modCh n f).boot = s.boot := rfl
@[simp] theorem State.modCh_trl (s : State) (n : Nat) (f : Chan → Chan) : (s.modCh n f).trl = s.trl := rfl

@[simp] theorem State.modCx_pending (s : State) (c : Nat) (f : Context → Context) : (s.modCx c f).pending = s.pending := rfl
@[simp] theorem State.modCx_fresh (s : State) (c : Nat) (f : Context → Context) : (s.modCx c f).fresh = s.fresh := rfl
@[simp] theorem State.modCx_clk (s : State) (c : Nat) (f : Context → Context) : (s.modCx c f).clk = s.clk := rfl
@[simp] theorem State.modCx_le (s : State) (c : Nat) (f : Context → Context) : (s.modCx c f).le = s.le := rfl
@[simp] theorem State.modCx_se (s : State) (c : Nat) (f : Context → Context) : (s.modCx c f).se = s.se := rfl
@[simp] theorem State.modCx_ue (s : State) (c : Nat) (f : Context → Context) : (s.modCx c f).ue = s.ue := rfl
@[simp] theorem State.modCx_eng (s : State) (c : Nat) (f : Context → Context) : (s.modCx c f).eng = s.eng := rfl
@[simp] theorem State.modCx_shared (s : State) (c : Nat) (f : Context → Context) : (s.modCx c f).shared = s.shared := rfl
@[simp] theorem State.modCx_chan (s : State) (c : Nat) (f : Context → Context) : (s.modCx c f).chan = s.chan := rfl
@[simp] theorem State.modCx_shaft (s : State) (c : Nat) (f : Context → Context) : (s.modCx c f).shaft = s.shaft := rfl
@[simp] theorem State.modCx_pg (s : State) (c : Nat) (f : Context → Context) : (s.modCx c f).pg = s.pg := rfl
@[simp] theorem State.modCx_adm (s : State) (c : Nat) (f : Context → Context) : (s.modCx c f).adm = s.adm := rfl
@[simp] theorem State.modCx_snapSeq (s : State) (c : Nat) (f : Context → Context) : (s.modCx c f).snapSeq = s.snapSeq := rfl
@[simp] theorem State.modCx_link (s : State) (c : Nat) (f : Context → Context) : (s.modCx c f).link = s.link := rfl
@[simp] theorem State.modCx_kio (s : State) (c : Nat) (f : Context → Context) : (s.modCx c f).kio = s.kio := rfl
@[simp] theorem State.modCx_host (s : State) (c : Nat) (f : Context → Context) : (s.modCx c f).host = s.host := rfl
@[simp] theorem State.modCx_bbr (s : State) (c : Nat) (f : Context → Context) : (s.modCx c f).bbr = s.bbr := rfl
@[simp] theorem State.modCx_clg (s : State) (c : Nat) (f : Context → Context) : (s.modCx c f).clg = s.clg := rfl
@[simp] theorem State.modCx_tmu (s : State) (c : Nat) (f : Context → Context) : (s.modCx c f).tmu = s.tmu := rfl
@[simp] theorem State.modCx_tpc (s : State) (c : Nat) (f : Context → Context) : (s.modCx c f).tpc = s.tpc := rfl
@[simp] theorem State.modCx_twp (s : State) (c : Nat) (f : Context → Context) : (s.modCx c f).twp = s.twp := rfl
@[simp] theorem State.modCx_jnb (s : State) (c : Nat) (f : Context → Context) : (s.modCx c f).jnb = s.jnb := rfl
@[simp] theorem State.modCx_prl (s : State) (c : Nat) (f : Context → Context) : (s.modCx c f).prl = s.prl := rfl
@[simp] theorem State.modCx_fcr (s : State) (c : Nat) (f : Context → Context) : (s.modCx c f).fcr = s.fcr := rfl
@[simp] theorem State.modCx_nvs (s : State) (c : Nat) (f : Context → Context) : (s.modCx c f).nvs = s.nvs := rfl
@[simp] theorem State.modCx_upe (s : State) (c : Nat) (f : Context → Context) : (s.modCx c f).upe = s.upe := rfl
@[simp] theorem State.modCx_boot (s : State) (c : Nat) (f : Context → Context) : (s.modCx c f).boot = s.boot := rfl
@[simp] theorem State.modCx_trl (s : State) (c : Nat) (f : Context → Context) : (s.modCx c f).trl = s.trl := rfl

@[simp] theorem State.modLk_pending (s : State) (l : Nat) (f : Link → Link) : (s.modLk l f).pending = s.pending := rfl
@[simp] theorem State.modLk_fresh (s : State) (l : Nat) (f : Link → Link) : (s.modLk l f).fresh = s.fresh := rfl
@[simp] theorem State.modLk_clk (s : State) (l : Nat) (f : Link → Link) : (s.modLk l f).clk = s.clk := rfl
@[simp] theorem State.modLk_ctx (s : State) (l : Nat) (f : Link → Link) : (s.modLk l f).ctx = s.ctx := rfl
@[simp] theorem State.modLk_le (s : State) (l : Nat) (f : Link → Link) : (s.modLk l f).le = s.le := rfl
@[simp] theorem State.modLk_se (s : State) (l : Nat) (f : Link → Link) : (s.modLk l f).se = s.se := rfl
@[simp] theorem State.modLk_ue (s : State) (l : Nat) (f : Link → Link) : (s.modLk l f).ue = s.ue := rfl
@[simp] theorem State.modLk_eng (s : State) (l : Nat) (f : Link → Link) : (s.modLk l f).eng = s.eng := rfl
@[simp] theorem State.modLk_shared (s : State) (l : Nat) (f : Link → Link) : (s.modLk l f).shared = s.shared := rfl
@[simp] theorem State.modLk_chan (s : State) (l : Nat) (f : Link → Link) : (s.modLk l f).chan = s.chan := rfl
@[simp] theorem State.modLk_shaft (s : State) (l : Nat) (f : Link → Link) : (s.modLk l f).shaft = s.shaft := rfl
@[simp] theorem State.modLk_pg (s : State) (l : Nat) (f : Link → Link) : (s.modLk l f).pg = s.pg := rfl
@[simp] theorem State.modLk_adm (s : State) (l : Nat) (f : Link → Link) : (s.modLk l f).adm = s.adm := rfl
@[simp] theorem State.modLk_snapSeq (s : State) (l : Nat) (f : Link → Link) : (s.modLk l f).snapSeq = s.snapSeq := rfl
@[simp] theorem State.modLk_kio (s : State) (l : Nat) (f : Link → Link) : (s.modLk l f).kio = s.kio := rfl
@[simp] theorem State.modLk_host (s : State) (l : Nat) (f : Link → Link) : (s.modLk l f).host = s.host := rfl
@[simp] theorem State.modLk_bbr (s : State) (l : Nat) (f : Link → Link) : (s.modLk l f).bbr = s.bbr := rfl
@[simp] theorem State.modLk_clg (s : State) (l : Nat) (f : Link → Link) : (s.modLk l f).clg = s.clg := rfl
@[simp] theorem State.modLk_tmu (s : State) (l : Nat) (f : Link → Link) : (s.modLk l f).tmu = s.tmu := rfl
@[simp] theorem State.modLk_tpc (s : State) (l : Nat) (f : Link → Link) : (s.modLk l f).tpc = s.tpc := rfl
@[simp] theorem State.modLk_twp (s : State) (l : Nat) (f : Link → Link) : (s.modLk l f).twp = s.twp := rfl
@[simp] theorem State.modLk_jnb (s : State) (l : Nat) (f : Link → Link) : (s.modLk l f).jnb = s.jnb := rfl
@[simp] theorem State.modLk_prl (s : State) (l : Nat) (f : Link → Link) : (s.modLk l f).prl = s.prl := rfl
@[simp] theorem State.modLk_fcr (s : State) (l : Nat) (f : Link → Link) : (s.modLk l f).fcr = s.fcr := rfl
@[simp] theorem State.modLk_nvs (s : State) (l : Nat) (f : Link → Link) : (s.modLk l f).nvs = s.nvs := rfl
@[simp] theorem State.modLk_upe (s : State) (l : Nat) (f : Link → Link) : (s.modLk l f).upe = s.upe := rfl
@[simp] theorem State.modLk_boot (s : State) (l : Nat) (f : Link → Link) : (s.modLk l f).boot = s.boot := rfl
@[simp] theorem State.modLk_trl (s : State) (l : Nat) (f : Link → Link) : (s.modLk l f).trl = s.trl := rfl

@[simp] theorem State.modRel_pending (s : State) (c : Nat) (f : Rel → Rel) : (s.modRel c f).pending = s.pending := rfl
@[simp] theorem State.modRel_fresh (s : State) (c : Nat) (f : Rel → Rel) : (s.modRel c f).fresh = s.fresh := rfl
@[simp] theorem State.modRel_clk (s : State) (c : Nat) (f : Rel → Rel) : (s.modRel c f).clk = s.clk := rfl
@[simp] theorem State.modRel_le (s : State) (c : Nat) (f : Rel → Rel) : (s.modRel c f).le = s.le := rfl
@[simp] theorem State.modRel_se (s : State) (c : Nat) (f : Rel → Rel) : (s.modRel c f).se = s.se := rfl
@[simp] theorem State.modRel_ue (s : State) (c : Nat) (f : Rel → Rel) : (s.modRel c f).ue = s.ue := rfl
@[simp] theorem State.modRel_eng (s : State) (c : Nat) (f : Rel → Rel) : (s.modRel c f).eng = s.eng := rfl
@[simp] theorem State.modRel_shared (s : State) (c : Nat) (f : Rel → Rel) : (s.modRel c f).shared = s.shared := rfl
@[simp] theorem State.modRel_chan (s : State) (c : Nat) (f : Rel → Rel) : (s.modRel c f).chan = s.chan := rfl
@[simp] theorem State.modRel_shaft (s : State) (c : Nat) (f : Rel → Rel) : (s.modRel c f).shaft = s.shaft := rfl
@[simp] theorem State.modRel_pg (s : State) (c : Nat) (f : Rel → Rel) : (s.modRel c f).pg = s.pg := rfl
@[simp] theorem State.modRel_adm (s : State) (c : Nat) (f : Rel → Rel) : (s.modRel c f).adm = s.adm := rfl
@[simp] theorem State.modRel_snapSeq (s : State) (c : Nat) (f : Rel → Rel) : (s.modRel c f).snapSeq = s.snapSeq := rfl
@[simp] theorem State.modRel_link (s : State) (c : Nat) (f : Rel → Rel) : (s.modRel c f).link = s.link := rfl
@[simp] theorem State.modRel_kio (s : State) (c : Nat) (f : Rel → Rel) : (s.modRel c f).kio = s.kio := rfl
@[simp] theorem State.modRel_host (s : State) (c : Nat) (f : Rel → Rel) : (s.modRel c f).host = s.host := rfl
@[simp] theorem State.modRel_bbr (s : State) (c : Nat) (f : Rel → Rel) : (s.modRel c f).bbr = s.bbr := rfl
@[simp] theorem State.modRel_clg (s : State) (c : Nat) (f : Rel → Rel) : (s.modRel c f).clg = s.clg := rfl
@[simp] theorem State.modRel_tmu (s : State) (c : Nat) (f : Rel → Rel) : (s.modRel c f).tmu = s.tmu := rfl
@[simp] theorem State.modRel_tpc (s : State) (c : Nat) (f : Rel → Rel) : (s.modRel c f).tpc = s.tpc := rfl
@[simp] theorem State.modRel_twp (s : State) (c : Nat) (f : Rel → Rel) : (s.modRel c f).twp = s.twp := rfl
@[simp] theorem State.modRel_jnb (s : State) (c : Nat) (f : Rel → Rel) : (s.modRel c f).jnb = s.jnb := rfl
@[simp] theorem State.modRel_prl (s : State) (c : Nat) (f : Rel → Rel) : (s.modRel c f).prl = s.prl := rfl
@[simp] theorem State.modRel_fcr (s : State) (c : Nat) (f : Rel → Rel) : (s.modRel c f).fcr = s.fcr := rfl
@[simp] theorem State.modRel_nvs (s : State) (c : Nat) (f : Rel → Rel) : (s.modRel c f).nvs = s.nvs := rfl
@[simp] theorem State.modRel_upe (s : State) (c : Nat) (f : Rel → Rel) : (s.modRel c f).upe = s.upe := rfl
@[simp] theorem State.modRel_boot (s : State) (c : Nat) (f : Rel → Rel) : (s.modRel c f).boot = s.boot := rfl
@[simp] theorem State.modRel_trl (s : State) (c : Nat) (f : Rel → Rel) : (s.modRel c f).trl = s.trl := rfl

@[simp] theorem State.modTp_pending (s : State) (p : Nat) (f : Tpc → Tpc) : (s.modTp p f).pending = s.pending := rfl
@[simp] theorem State.modTp_fresh (s : State) (p : Nat) (f : Tpc → Tpc) : (s.modTp p f).fresh = s.fresh := rfl
@[simp] theorem State.modTp_clk (s : State) (p : Nat) (f : Tpc → Tpc) : (s.modTp p f).clk = s.clk := rfl
@[simp] theorem State.modTp_ctx (s : State) (p : Nat) (f : Tpc → Tpc) : (s.modTp p f).ctx = s.ctx := rfl
@[simp] theorem State.modTp_le (s : State) (p : Nat) (f : Tpc → Tpc) : (s.modTp p f).le = s.le := rfl
@[simp] theorem State.modTp_se (s : State) (p : Nat) (f : Tpc → Tpc) : (s.modTp p f).se = s.se := rfl
@[simp] theorem State.modTp_ue (s : State) (p : Nat) (f : Tpc → Tpc) : (s.modTp p f).ue = s.ue := rfl
@[simp] theorem State.modTp_eng (s : State) (p : Nat) (f : Tpc → Tpc) : (s.modTp p f).eng = s.eng := rfl
@[simp] theorem State.modTp_shared (s : State) (p : Nat) (f : Tpc → Tpc) : (s.modTp p f).shared = s.shared := rfl
@[simp] theorem State.modTp_chan (s : State) (p : Nat) (f : Tpc → Tpc) : (s.modTp p f).chan = s.chan := rfl
@[simp] theorem State.modTp_shaft (s : State) (p : Nat) (f : Tpc → Tpc) : (s.modTp p f).shaft = s.shaft := rfl
@[simp] theorem State.modTp_pg (s : State) (p : Nat) (f : Tpc → Tpc) : (s.modTp p f).pg = s.pg := rfl
@[simp] theorem State.modTp_adm (s : State) (p : Nat) (f : Tpc → Tpc) : (s.modTp p f).adm = s.adm := rfl
@[simp] theorem State.modTp_snapSeq (s : State) (p : Nat) (f : Tpc → Tpc) : (s.modTp p f).snapSeq = s.snapSeq := rfl
@[simp] theorem State.modTp_link (s : State) (p : Nat) (f : Tpc → Tpc) : (s.modTp p f).link = s.link := rfl
@[simp] theorem State.modTp_kio (s : State) (p : Nat) (f : Tpc → Tpc) : (s.modTp p f).kio = s.kio := rfl
@[simp] theorem State.modTp_host (s : State) (p : Nat) (f : Tpc → Tpc) : (s.modTp p f).host = s.host := rfl
@[simp] theorem State.modTp_bbr (s : State) (p : Nat) (f : Tpc → Tpc) : (s.modTp p f).bbr = s.bbr := rfl
@[simp] theorem State.modTp_clg (s : State) (p : Nat) (f : Tpc → Tpc) : (s.modTp p f).clg = s.clg := rfl
@[simp] theorem State.modTp_tmu (s : State) (p : Nat) (f : Tpc → Tpc) : (s.modTp p f).tmu = s.tmu := rfl
@[simp] theorem State.modTp_twp (s : State) (p : Nat) (f : Tpc → Tpc) : (s.modTp p f).twp = s.twp := rfl
@[simp] theorem State.modTp_jnb (s : State) (p : Nat) (f : Tpc → Tpc) : (s.modTp p f).jnb = s.jnb := rfl
@[simp] theorem State.modTp_prl (s : State) (p : Nat) (f : Tpc → Tpc) : (s.modTp p f).prl = s.prl := rfl
@[simp] theorem State.modTp_fcr (s : State) (p : Nat) (f : Tpc → Tpc) : (s.modTp p f).fcr = s.fcr := rfl
@[simp] theorem State.modTp_nvs (s : State) (p : Nat) (f : Tpc → Tpc) : (s.modTp p f).nvs = s.nvs := rfl
@[simp] theorem State.modTp_upe (s : State) (p : Nat) (f : Tpc → Tpc) : (s.modTp p f).upe = s.upe := rfl
@[simp] theorem State.modTp_boot (s : State) (p : Nat) (f : Tpc → Tpc) : (s.modTp p f).boot = s.boot := rfl
@[simp] theorem State.modTp_trl (s : State) (p : Nat) (f : Tpc → Tpc) : (s.modTp p f).trl = s.trl := rfl

@[simp] theorem State.modTw_pending (s : State) (p : Nat) (f : Twp → Twp) : (s.modTw p f).pending = s.pending := rfl
@[simp] theorem State.modTw_fresh (s : State) (p : Nat) (f : Twp → Twp) : (s.modTw p f).fresh = s.fresh := rfl
@[simp] theorem State.modTw_clk (s : State) (p : Nat) (f : Twp → Twp) : (s.modTw p f).clk = s.clk := rfl
@[simp] theorem State.modTw_ctx (s : State) (p : Nat) (f : Twp → Twp) : (s.modTw p f).ctx = s.ctx := rfl
@[simp] theorem State.modTw_le (s : State) (p : Nat) (f : Twp → Twp) : (s.modTw p f).le = s.le := rfl
@[simp] theorem State.modTw_se (s : State) (p : Nat) (f : Twp → Twp) : (s.modTw p f).se = s.se := rfl
@[simp] theorem State.modTw_ue (s : State) (p : Nat) (f : Twp → Twp) : (s.modTw p f).ue = s.ue := rfl
@[simp] theorem State.modTw_eng (s : State) (p : Nat) (f : Twp → Twp) : (s.modTw p f).eng = s.eng := rfl
@[simp] theorem State.modTw_shared (s : State) (p : Nat) (f : Twp → Twp) : (s.modTw p f).shared = s.shared := rfl
@[simp] theorem State.modTw_chan (s : State) (p : Nat) (f : Twp → Twp) : (s.modTw p f).chan = s.chan := rfl
@[simp] theorem State.modTw_shaft (s : State) (p : Nat) (f : Twp → Twp) : (s.modTw p f).shaft = s.shaft := rfl
@[simp] theorem State.modTw_pg (s : State) (p : Nat) (f : Twp → Twp) : (s.modTw p f).pg = s.pg := rfl
@[simp] theorem State.modTw_adm (s : State) (p : Nat) (f : Twp → Twp) : (s.modTw p f).adm = s.adm := rfl
@[simp] theorem State.modTw_snapSeq (s : State) (p : Nat) (f : Twp → Twp) : (s.modTw p f).snapSeq = s.snapSeq := rfl
@[simp] theorem State.modTw_link (s : State) (p : Nat) (f : Twp → Twp) : (s.modTw p f).link = s.link := rfl
@[simp] theorem State.modTw_kio (s : State) (p : Nat) (f : Twp → Twp) : (s.modTw p f).kio = s.kio := rfl
@[simp] theorem State.modTw_host (s : State) (p : Nat) (f : Twp → Twp) : (s.modTw p f).host = s.host := rfl
@[simp] theorem State.modTw_bbr (s : State) (p : Nat) (f : Twp → Twp) : (s.modTw p f).bbr = s.bbr := rfl
@[simp] theorem State.modTw_clg (s : State) (p : Nat) (f : Twp → Twp) : (s.modTw p f).clg = s.clg := rfl
@[simp] theorem State.modTw_tmu (s : State) (p : Nat) (f : Twp → Twp) : (s.modTw p f).tmu = s.tmu := rfl
@[simp] theorem State.modTw_tpc (s : State) (p : Nat) (f : Twp → Twp) : (s.modTw p f).tpc = s.tpc := rfl
@[simp] theorem State.modTw_jnb (s : State) (p : Nat) (f : Twp → Twp) : (s.modTw p f).jnb = s.jnb := rfl
@[simp] theorem State.modTw_prl (s : State) (p : Nat) (f : Twp → Twp) : (s.modTw p f).prl = s.prl := rfl
@[simp] theorem State.modTw_fcr (s : State) (p : Nat) (f : Twp → Twp) : (s.modTw p f).fcr = s.fcr := rfl
@[simp] theorem State.modTw_nvs (s : State) (p : Nat) (f : Twp → Twp) : (s.modTw p f).nvs = s.nvs := rfl
@[simp] theorem State.modTw_upe (s : State) (p : Nat) (f : Twp → Twp) : (s.modTw p f).upe = s.upe := rfl
@[simp] theorem State.modTw_boot (s : State) (p : Nat) (f : Twp → Twp) : (s.modTw p f).boot = s.boot := rfl
@[simp] theorem State.modTw_trl (s : State) (p : Nat) (f : Twp → Twp) : (s.modTw p f).trl = s.trl := rfl

@[simp] theorem State.modLg_pending (s : State) (k : Nat) (f : Ledger → Ledger) : (s.modLg k f).pending = s.pending := rfl
@[simp] theorem State.modLg_fresh (s : State) (k : Nat) (f : Ledger → Ledger) : (s.modLg k f).fresh = s.fresh := rfl
@[simp] theorem State.modLg_clk (s : State) (k : Nat) (f : Ledger → Ledger) : (s.modLg k f).clk = s.clk := rfl
@[simp] theorem State.modLg_ctx (s : State) (k : Nat) (f : Ledger → Ledger) : (s.modLg k f).ctx = s.ctx := rfl
@[simp] theorem State.modLg_le (s : State) (k : Nat) (f : Ledger → Ledger) : (s.modLg k f).le = s.le := rfl
@[simp] theorem State.modLg_se (s : State) (k : Nat) (f : Ledger → Ledger) : (s.modLg k f).se = s.se := rfl
@[simp] theorem State.modLg_ue (s : State) (k : Nat) (f : Ledger → Ledger) : (s.modLg k f).ue = s.ue := rfl
@[simp] theorem State.modLg_eng (s : State) (k : Nat) (f : Ledger → Ledger) : (s.modLg k f).eng = s.eng := rfl
@[simp] theorem State.modLg_shared (s : State) (k : Nat) (f : Ledger → Ledger) : (s.modLg k f).shared = s.shared := rfl
@[simp] theorem State.modLg_chan (s : State) (k : Nat) (f : Ledger → Ledger) : (s.modLg k f).chan = s.chan := rfl
@[simp] theorem State.modLg_shaft (s : State) (k : Nat) (f : Ledger → Ledger) : (s.modLg k f).shaft = s.shaft := rfl
@[simp] theorem State.modLg_pg (s : State) (k : Nat) (f : Ledger → Ledger) : (s.modLg k f).pg = s.pg := rfl
@[simp] theorem State.modLg_adm (s : State) (k : Nat) (f : Ledger → Ledger) : (s.modLg k f).adm = s.adm := rfl
@[simp] theorem State.modLg_snapSeq (s : State) (k : Nat) (f : Ledger → Ledger) : (s.modLg k f).snapSeq = s.snapSeq := rfl
@[simp] theorem State.modLg_link (s : State) (k : Nat) (f : Ledger → Ledger) : (s.modLg k f).link = s.link := rfl
@[simp] theorem State.modLg_kio (s : State) (k : Nat) (f : Ledger → Ledger) : (s.modLg k f).kio = s.kio := rfl
@[simp] theorem State.modLg_host (s : State) (k : Nat) (f : Ledger → Ledger) : (s.modLg k f).host = s.host := rfl
@[simp] theorem State.modLg_bbr (s : State) (k : Nat) (f : Ledger → Ledger) : (s.modLg k f).bbr = s.bbr := rfl
@[simp] theorem State.modLg_tmu (s : State) (k : Nat) (f : Ledger → Ledger) : (s.modLg k f).tmu = s.tmu := rfl
@[simp] theorem State.modLg_tpc (s : State) (k : Nat) (f : Ledger → Ledger) : (s.modLg k f).tpc = s.tpc := rfl
@[simp] theorem State.modLg_twp (s : State) (k : Nat) (f : Ledger → Ledger) : (s.modLg k f).twp = s.twp := rfl
@[simp] theorem State.modLg_jnb (s : State) (k : Nat) (f : Ledger → Ledger) : (s.modLg k f).jnb = s.jnb := rfl
@[simp] theorem State.modLg_prl (s : State) (k : Nat) (f : Ledger → Ledger) : (s.modLg k f).prl = s.prl := rfl
@[simp] theorem State.modLg_fcr (s : State) (k : Nat) (f : Ledger → Ledger) : (s.modLg k f).fcr = s.fcr := rfl
@[simp] theorem State.modLg_nvs (s : State) (k : Nat) (f : Ledger → Ledger) : (s.modLg k f).nvs = s.nvs := rfl
@[simp] theorem State.modLg_upe (s : State) (k : Nat) (f : Ledger → Ledger) : (s.modLg k f).upe = s.upe := rfl
@[simp] theorem State.modLg_boot (s : State) (k : Nat) (f : Ledger → Ledger) : (s.modLg k f).boot = s.boot := rfl
@[simp] theorem State.modLg_trl (s : State) (k : Nat) (f : Ledger → Ledger) : (s.modLg k f).trl = s.trl := rfl

@[simp] theorem State.modTh_pending (s : State) (n : Nat) (f : Therm → Therm) : (s.modTh n f).pending = s.pending := rfl
@[simp] theorem State.modTh_fresh (s : State) (n : Nat) (f : Therm → Therm) : (s.modTh n f).fresh = s.fresh := rfl
@[simp] theorem State.modTh_clk (s : State) (n : Nat) (f : Therm → Therm) : (s.modTh n f).clk = s.clk := rfl
@[simp] theorem State.modTh_ctx (s : State) (n : Nat) (f : Therm → Therm) : (s.modTh n f).ctx = s.ctx := rfl
@[simp] theorem State.modTh_le (s : State) (n : Nat) (f : Therm → Therm) : (s.modTh n f).le = s.le := rfl
@[simp] theorem State.modTh_se (s : State) (n : Nat) (f : Therm → Therm) : (s.modTh n f).se = s.se := rfl
@[simp] theorem State.modTh_ue (s : State) (n : Nat) (f : Therm → Therm) : (s.modTh n f).ue = s.ue := rfl
@[simp] theorem State.modTh_eng (s : State) (n : Nat) (f : Therm → Therm) : (s.modTh n f).eng = s.eng := rfl
@[simp] theorem State.modTh_shared (s : State) (n : Nat) (f : Therm → Therm) : (s.modTh n f).shared = s.shared := rfl
@[simp] theorem State.modTh_chan (s : State) (n : Nat) (f : Therm → Therm) : (s.modTh n f).chan = s.chan := rfl
@[simp] theorem State.modTh_shaft (s : State) (n : Nat) (f : Therm → Therm) : (s.modTh n f).shaft = s.shaft := rfl
@[simp] theorem State.modTh_pg (s : State) (n : Nat) (f : Therm → Therm) : (s.modTh n f).pg = s.pg := rfl
@[simp] theorem State.modTh_adm (s : State) (n : Nat) (f : Therm → Therm) : (s.modTh n f).adm = s.adm := rfl
@[simp] theorem State.modTh_snapSeq (s : State) (n : Nat) (f : Therm → Therm) : (s.modTh n f).snapSeq = s.snapSeq := rfl
@[simp] theorem State.modTh_link (s : State) (n : Nat) (f : Therm → Therm) : (s.modTh n f).link = s.link := rfl
@[simp] theorem State.modTh_kio (s : State) (n : Nat) (f : Therm → Therm) : (s.modTh n f).kio = s.kio := rfl
@[simp] theorem State.modTh_host (s : State) (n : Nat) (f : Therm → Therm) : (s.modTh n f).host = s.host := rfl
@[simp] theorem State.modTh_bbr (s : State) (n : Nat) (f : Therm → Therm) : (s.modTh n f).bbr = s.bbr := rfl
@[simp] theorem State.modTh_clg (s : State) (n : Nat) (f : Therm → Therm) : (s.modTh n f).clg = s.clg := rfl
@[simp] theorem State.modTh_tpc (s : State) (n : Nat) (f : Therm → Therm) : (s.modTh n f).tpc = s.tpc := rfl
@[simp] theorem State.modTh_twp (s : State) (n : Nat) (f : Therm → Therm) : (s.modTh n f).twp = s.twp := rfl
@[simp] theorem State.modTh_jnb (s : State) (n : Nat) (f : Therm → Therm) : (s.modTh n f).jnb = s.jnb := rfl
@[simp] theorem State.modTh_prl (s : State) (n : Nat) (f : Therm → Therm) : (s.modTh n f).prl = s.prl := rfl
@[simp] theorem State.modTh_fcr (s : State) (n : Nat) (f : Therm → Therm) : (s.modTh n f).fcr = s.fcr := rfl
@[simp] theorem State.modTh_nvs (s : State) (n : Nat) (f : Therm → Therm) : (s.modTh n f).nvs = s.nvs := rfl
@[simp] theorem State.modTh_upe (s : State) (n : Nat) (f : Therm → Therm) : (s.modTh n f).upe = s.upe := rfl
@[simp] theorem State.modTh_boot (s : State) (n : Nat) (f : Therm → Therm) : (s.modTh n f).boot = s.boot := rfl
@[simp] theorem State.modTh_trl (s : State) (n : Nat) (f : Therm → Therm) : (s.modTh n f).trl = s.trl := rfl

@[simp] theorem State.modStat_pending (s : State) (e : Nat) (f : EngStat → EngStat) : (s.modStat e f).pending = s.pending := rfl
@[simp] theorem State.modStat_fresh (s : State) (e : Nat) (f : EngStat → EngStat) : (s.modStat e f).fresh = s.fresh := rfl
@[simp] theorem State.modStat_clk (s : State) (e : Nat) (f : EngStat → EngStat) : (s.modStat e f).clk = s.clk := rfl
@[simp] theorem State.modStat_ctx (s : State) (e : Nat) (f : EngStat → EngStat) : (s.modStat e f).ctx = s.ctx := rfl
@[simp] theorem State.modStat_le (s : State) (e : Nat) (f : EngStat → EngStat) : (s.modStat e f).le = s.le := rfl
@[simp] theorem State.modStat_se (s : State) (e : Nat) (f : EngStat → EngStat) : (s.modStat e f).se = s.se := rfl
@[simp] theorem State.modStat_ue (s : State) (e : Nat) (f : EngStat → EngStat) : (s.modStat e f).ue = s.ue := rfl
@[simp] theorem State.modStat_shared (s : State) (e : Nat) (f : EngStat → EngStat) : (s.modStat e f).shared = s.shared := rfl
@[simp] theorem State.modStat_chan (s : State) (e : Nat) (f : EngStat → EngStat) : (s.modStat e f).chan = s.chan := rfl
@[simp] theorem State.modStat_shaft (s : State) (e : Nat) (f : EngStat → EngStat) : (s.modStat e f).shaft = s.shaft := rfl
@[simp] theorem State.modStat_pg (s : State) (e : Nat) (f : EngStat → EngStat) : (s.modStat e f).pg = s.pg := rfl
@[simp] theorem State.modStat_adm (s : State) (e : Nat) (f : EngStat → EngStat) : (s.modStat e f).adm = s.adm := rfl
@[simp] theorem State.modStat_snapSeq (s : State) (e : Nat) (f : EngStat → EngStat) : (s.modStat e f).snapSeq = s.snapSeq := rfl
@[simp] theorem State.modStat_link (s : State) (e : Nat) (f : EngStat → EngStat) : (s.modStat e f).link = s.link := rfl
@[simp] theorem State.modStat_kio (s : State) (e : Nat) (f : EngStat → EngStat) : (s.modStat e f).kio = s.kio := rfl
@[simp] theorem State.modStat_host (s : State) (e : Nat) (f : EngStat → EngStat) : (s.modStat e f).host = s.host := rfl
@[simp] theorem State.modStat_bbr (s : State) (e : Nat) (f : EngStat → EngStat) : (s.modStat e f).bbr = s.bbr := rfl
@[simp] theorem State.modStat_clg (s : State) (e : Nat) (f : EngStat → EngStat) : (s.modStat e f).clg = s.clg := rfl
@[simp] theorem State.modStat_tmu (s : State) (e : Nat) (f : EngStat → EngStat) : (s.modStat e f).tmu = s.tmu := rfl
@[simp] theorem State.modStat_tpc (s : State) (e : Nat) (f : EngStat → EngStat) : (s.modStat e f).tpc = s.tpc := rfl
@[simp] theorem State.modStat_twp (s : State) (e : Nat) (f : EngStat → EngStat) : (s.modStat e f).twp = s.twp := rfl
@[simp] theorem State.modStat_jnb (s : State) (e : Nat) (f : EngStat → EngStat) : (s.modStat e f).jnb = s.jnb := rfl
@[simp] theorem State.modStat_prl (s : State) (e : Nat) (f : EngStat → EngStat) : (s.modStat e f).prl = s.prl := rfl
@[simp] theorem State.modStat_fcr (s : State) (e : Nat) (f : EngStat → EngStat) : (s.modStat e f).fcr = s.fcr := rfl
@[simp] theorem State.modStat_nvs (s : State) (e : Nat) (f : EngStat → EngStat) : (s.modStat e f).nvs = s.nvs := rfl
@[simp] theorem State.modStat_upe (s : State) (e : Nat) (f : EngStat → EngStat) : (s.modStat e f).upe = s.upe := rfl
@[simp] theorem State.modStat_boot (s : State) (e : Nat) (f : EngStat → EngStat) : (s.modStat e f).boot = s.boot := rfl
@[simp] theorem State.modStat_trl (s : State) (e : Nat) (f : EngStat → EngStat) : (s.modStat e f).trl = s.trl := rfl

@[simp] theorem State.modEng_pending (s : State) (e : Nat) (f : Engine → Engine) : (s.modEng e f).pending = s.pending := by
  unfold State.modEng; split; rfl; split <;> rfl
@[simp] theorem State.modEng_fresh (s : State) (e : Nat) (f : Engine → Engine) : (s.modEng e f).fresh = s.fresh := by
  unfold State.modEng; split; rfl; split <;> rfl
@[simp] theorem State.modEng_clk (s : State) (e : Nat) (f : Engine → Engine) : (s.modEng e f).clk = s.clk := by
  unfold State.modEng; split; rfl; split <;> rfl
@[simp] theorem State.modEng_ctx (s : State) (e : Nat) (f : Engine → Engine) : (s.modEng e f).ctx = s.ctx := by
  unfold State.modEng; split; rfl; split <;> rfl
@[simp] theorem State.modEng_eng (s : State) (e : Nat) (f : Engine → Engine) : (s.modEng e f).eng = s.eng := by
  unfold State.modEng; split; rfl; split <;> rfl
@[simp] theorem State.modEng_shared (s : State) (e : Nat) (f : Engine → Engine) : (s.modEng e f).shared = s.shared := by
  unfold State.modEng; split; rfl; split <;> rfl
@[simp] theorem State.modEng_chan (s : State) (e : Nat) (f : Engine → Engine) : (s.modEng e f).chan = s.chan := by
  unfold State.modEng; split; rfl; split <;> rfl
@[simp] theorem State.modEng_shaft (s : State) (e : Nat) (f : Engine → Engine) : (s.modEng e f).shaft = s.shaft := by
  unfold State.modEng; split; rfl; split <;> rfl
@[simp] theorem State.modEng_pg (s : State) (e : Nat) (f : Engine → Engine) : (s.modEng e f).pg = s.pg := by
  unfold State.modEng; split; rfl; split <;> rfl
@[simp] theorem State.modEng_adm (s : State) (e : Nat) (f : Engine → Engine) : (s.modEng e f).adm = s.adm := by
  unfold State.modEng; split; rfl; split <;> rfl
@[simp] theorem State.modEng_snapSeq (s : State) (e : Nat) (f : Engine → Engine) : (s.modEng e f).snapSeq = s.snapSeq := by
  unfold State.modEng; split; rfl; split <;> rfl
@[simp] theorem State.modEng_link (s : State) (e : Nat) (f : Engine → Engine) : (s.modEng e f).link = s.link := by
  unfold State.modEng; split; rfl; split <;> rfl
@[simp] theorem State.modEng_kio (s : State) (e : Nat) (f : Engine → Engine) : (s.modEng e f).kio = s.kio := by
  unfold State.modEng; split; rfl; split <;> rfl
@[simp] theorem State.modEng_host (s : State) (e : Nat) (f : Engine → Engine) : (s.modEng e f).host = s.host := by
  unfold State.modEng; split; rfl; split <;> rfl
@[simp] theorem State.modEng_bbr (s : State) (e : Nat) (f : Engine → Engine) : (s.modEng e f).bbr = s.bbr := by
  unfold State.modEng; split; rfl; split <;> rfl
@[simp] theorem State.modEng_clg (s : State) (e : Nat) (f : Engine → Engine) : (s.modEng e f).clg = s.clg := by
  unfold State.modEng; split; rfl; split <;> rfl
@[simp] theorem State.modEng_tmu (s : State) (e : Nat) (f : Engine → Engine) : (s.modEng e f).tmu = s.tmu := by
  unfold State.modEng; split; rfl; split <;> rfl
@[simp] theorem State.modEng_tpc (s : State) (e : Nat) (f : Engine → Engine) : (s.modEng e f).tpc = s.tpc := by
  unfold State.modEng; split; rfl; split <;> rfl
@[simp] theorem State.modEng_twp (s : State) (e : Nat) (f : Engine → Engine) : (s.modEng e f).twp = s.twp := by
  unfold State.modEng; split; rfl; split <;> rfl
@[simp] theorem State.modEng_jnb (s : State) (e : Nat) (f : Engine → Engine) : (s.modEng e f).jnb = s.jnb := by
  unfold State.modEng; split; rfl; split <;> rfl
@[simp] theorem State.modEng_prl (s : State) (e : Nat) (f : Engine → Engine) : (s.modEng e f).prl = s.prl := by
  unfold State.modEng; split; rfl; split <;> rfl
@[simp] theorem State.modEng_fcr (s : State) (e : Nat) (f : Engine → Engine) : (s.modEng e f).fcr = s.fcr := by
  unfold State.modEng; split; rfl; split <;> rfl
@[simp] theorem State.modEng_nvs (s : State) (e : Nat) (f : Engine → Engine) : (s.modEng e f).nvs = s.nvs := by
  unfold State.modEng; split; rfl; split <;> rfl
@[simp] theorem State.modEng_upe (s : State) (e : Nat) (f : Engine → Engine) : (s.modEng e f).upe = s.upe := by
  unfold State.modEng; split; rfl; split <;> rfl
@[simp] theorem State.modEng_boot (s : State) (e : Nat) (f : Engine → Engine) : (s.modEng e f).boot = s.boot := by
  unfold State.modEng; split; rfl; split <;> rfl
@[simp] theorem State.modEng_trl (s : State) (e : Nat) (f : Engine → Engine) : (s.modEng e f).trl = s.trl := by
  unfold State.modEng; split; rfl; split <;> rfl

@[simp] theorem State.draw_pending (s : State) (lo hi : Nat) : (s.draw lo hi).2.pending = s.pending := rfl
@[simp] theorem State.draw_clk (s : State) (lo hi : Nat) : (s.draw lo hi).2.clk = s.clk := rfl
@[simp] theorem State.draw_ctx (s : State) (lo hi : Nat) : (s.draw lo hi).2.ctx = s.ctx := rfl
@[simp] theorem State.draw_le (s : State) (lo hi : Nat) : (s.draw lo hi).2.le = s.le := rfl
@[simp] theorem State.draw_se (s : State) (lo hi : Nat) : (s.draw lo hi).2.se = s.se := rfl
@[simp] theorem State.draw_ue (s : State) (lo hi : Nat) : (s.draw lo hi).2.ue = s.ue := rfl
@[simp] theorem State.draw_eng (s : State) (lo hi : Nat) : (s.draw lo hi).2.eng = s.eng := rfl
@[simp] theorem State.draw_shared (s : State) (lo hi : Nat) : (s.draw lo hi).2.shared = s.shared := rfl
@[simp] theorem State.draw_chan (s : State) (lo hi : Nat) : (s.draw lo hi).2.chan = s.chan := rfl
@[simp] theorem State.draw_shaft (s : State) (lo hi : Nat) : (s.draw lo hi).2.shaft = s.shaft := rfl
@[simp] theorem State.draw_pg (s : State) (lo hi : Nat) : (s.draw lo hi).2.pg = s.pg := rfl
@[simp] theorem State.draw_adm (s : State) (lo hi : Nat) : (s.draw lo hi).2.adm = s.adm := rfl
@[simp] theorem State.draw_snapSeq (s : State) (lo hi : Nat) : (s.draw lo hi).2.snapSeq = s.snapSeq := rfl
@[simp] theorem State.draw_link (s : State) (lo hi : Nat) : (s.draw lo hi).2.link = s.link := rfl
@[simp] theorem State.draw_kio (s : State) (lo hi : Nat) : (s.draw lo hi).2.kio = s.kio := rfl
@[simp] theorem State.draw_host (s : State) (lo hi : Nat) : (s.draw lo hi).2.host = s.host := rfl
@[simp] theorem State.draw_bbr (s : State) (lo hi : Nat) : (s.draw lo hi).2.bbr = s.bbr := rfl
@[simp] theorem State.draw_clg (s : State) (lo hi : Nat) : (s.draw lo hi).2.clg = s.clg := rfl
@[simp] theorem State.draw_tmu (s : State) (lo hi : Nat) : (s.draw lo hi).2.tmu = s.tmu := rfl
@[simp] theorem State.draw_tpc (s : State) (lo hi : Nat) : (s.draw lo hi).2.tpc = s.tpc := rfl
@[simp] theorem State.draw_twp (s : State) (lo hi : Nat) : (s.draw lo hi).2.twp = s.twp := rfl
@[simp] theorem State.draw_jnb (s : State) (lo hi : Nat) : (s.draw lo hi).2.jnb = s.jnb := rfl
@[simp] theorem State.draw_prl (s : State) (lo hi : Nat) : (s.draw lo hi).2.prl = s.prl := rfl
@[simp] theorem State.draw_fcr (s : State) (lo hi : Nat) : (s.draw lo hi).2.fcr = s.fcr := rfl
@[simp] theorem State.draw_nvs (s : State) (lo hi : Nat) : (s.draw lo hi).2.nvs = s.nvs := rfl
@[simp] theorem State.draw_upe (s : State) (lo hi : Nat) : (s.draw lo hi).2.upe = s.upe := rfl
@[simp] theorem State.draw_boot (s : State) (lo hi : Nat) : (s.draw lo hi).2.boot = s.boot := rfl
@[simp] theorem State.draw_trl (s : State) (lo hi : Nat) : (s.draw lo hi).2.trl = s.trl := rfl
@[simp] theorem State.draw_fresh (s : State) (lo hi : Nat) : (s.draw lo hi).2.fresh = s.fresh + 1 := rfl

/-! The units under the named updates. -/

@[simp] theorem State.modCh_ch_self (s : State) {n : Nat} (h : n < 192) (f : Chan → Chan) : (s.modCh n f).ch n = f (s.ch n) := by
  simp [State.modCh, State.ch, h]
@[simp] theorem State.modCh_ch_ne (s : State) {n m : Nat} (h : n ≠ m) (f : Chan → Chan) : (s.modCh n f).ch m = s.ch m := by
  simp [State.modCh, State.ch, h]
@[simp] theorem State.modCx_cx_self (s : State) {c : Nat} (h : c < 512) (f : Context → Context) :
    (s.modCx c f).cx c = f (s.cx c) := by simp [State.modCx, State.cx, h]
@[simp] theorem State.modCx_cx_ne (s : State) {c d : Nat} (h : c ≠ d) (f : Context → Context) : (s.modCx c f).cx d = s.cx d := by
  simp [State.modCx, State.cx, h]
@[simp] theorem State.modCx_cx_val (s : State) (c : Ctx) (f : Context → Context) : (s.modCx c.val f).cx c.val = f (s.cx c.val) :=
  State.modCx_cx_self s c.isLt f
@[simp] theorem State.modLk_lk_self (s : State) {l : Nat} (h : l < 64) (f : Link → Link) : (s.modLk l f).lk l = f (s.lk l) := by
  simp [State.modLk, State.lk, h]
@[simp] theorem State.modLk_lk_ne (s : State) {l m : Nat} (h : l ≠ m) (f : Link → Link) : (s.modLk l f).lk m = s.lk m := by
  simp [State.modLk, State.lk, h]
@[simp] theorem State.modLk_lk_val (s : State) (l : LinkNo) (f : Link → Link) : (s.modLk l.val f).lk l.val = f (s.lk l.val) :=
  State.modLk_lk_self s l.isLt f
@[simp] theorem State.modTp_tp_self (s : State) {p : Nat} (h : p < 8) (f : Tpc → Tpc) : (s.modTp p f).tp p = f (s.tp p) := by
  simp [State.modTp, State.tp, h]
@[simp] theorem State.modTp_tp_ne (s : State) {p q : Nat} (h : p ≠ q) (f : Tpc → Tpc) : (s.modTp p f).tp q = s.tp q := by
  simp [State.modTp, State.tp, h]

@[simp] theorem State.modCh_cx (s : State) (n : Nat) (f : Chan → Chan) (x : Nat) : (s.modCh n f).cx x = s.cx x := rfl
@[simp] theorem State.modCh_lk (s : State) (n : Nat) (f : Chan → Chan) (x : Nat) : (s.modCh n f).lk x = s.lk x := rfl
@[simp] theorem State.modCh_tp (s : State) (n : Nat) (f : Chan → Chan) (x : Nat) : (s.modCh n f).tp x = s.tp x := rfl
@[simp] theorem State.modCx_ch (s : State) (c : Nat) (f : Context → Context) (x : Nat) : (s.modCx c f).ch x = s.ch x := rfl
@[simp] theorem State.modCx_lk (s : State) (c : Nat) (f : Context → Context) (x : Nat) : (s.modCx c f).lk x = s.lk x := rfl
@[simp] theorem State.modCx_tp (s : State) (c : Nat) (f : Context → Context) (x : Nat) : (s.modCx c f).tp x = s.tp x := rfl
@[simp] theorem State.modLk_ch (s : State) (l : Nat) (f : Link → Link) (x : Nat) : (s.modLk l f).ch x = s.ch x := rfl
@[simp] theorem State.modLk_cx (s : State) (l : Nat) (f : Link → Link) (x : Nat) : (s.modLk l f).cx x = s.cx x := rfl
@[simp] theorem State.modLk_tp (s : State) (l : Nat) (f : Link → Link) (x : Nat) : (s.modLk l f).tp x = s.tp x := rfl
@[simp] theorem State.modRel_ch (s : State) (c : Nat) (f : Rel → Rel) (x : Nat) : (s.modRel c f).ch x = s.ch x := rfl
@[simp] theorem State.modRel_lk (s : State) (c : Nat) (f : Rel → Rel) (x : Nat) : (s.modRel c f).lk x = s.lk x := rfl
@[simp] theorem State.modRel_tp (s : State) (c : Nat) (f : Rel → Rel) (x : Nat) : (s.modRel c f).tp x = s.tp x := rfl
@[simp] theorem State.modTp_ch (s : State) (p : Nat) (f : Tpc → Tpc) (x : Nat) : (s.modTp p f).ch x = s.ch x := rfl
@[simp] theorem State.modTp_cx (s : State) (p : Nat) (f : Tpc → Tpc) (x : Nat) : (s.modTp p f).cx x = s.cx x := rfl
@[simp] theorem State.modTp_lk (s : State) (p : Nat) (f : Tpc → Tpc) (x : Nat) : (s.modTp p f).lk x = s.lk x := rfl
@[simp] theorem State.modTw_ch (s : State) (p : Nat) (f : Twp → Twp) (x : Nat) : (s.modTw p f).ch x = s.ch x := rfl
@[simp] theorem State.modTw_cx (s : State) (p : Nat) (f : Twp → Twp) (x : Nat) : (s.modTw p f).cx x = s.cx x := rfl
@[simp] theorem State.modTw_lk (s : State) (p : Nat) (f : Twp → Twp) (x : Nat) : (s.modTw p f).lk x = s.lk x := rfl
@[simp] theorem State.modTw_tp (s : State) (p : Nat) (f : Twp → Twp) (x : Nat) : (s.modTw p f).tp x = s.tp x := rfl
@[simp] theorem State.modLg_ch (s : State) (k : Nat) (f : Ledger → Ledger) (x : Nat) : (s.modLg k f).ch x = s.ch x := rfl
@[simp] theorem State.modLg_cx (s : State) (k : Nat) (f : Ledger → Ledger) (x : Nat) : (s.modLg k f).cx x = s.cx x := rfl
@[simp] theorem State.modLg_lk (s : State) (k : Nat) (f : Ledger → Ledger) (x : Nat) : (s.modLg k f).lk x = s.lk x := rfl
@[simp] theorem State.modLg_tp (s : State) (k : Nat) (f : Ledger → Ledger) (x : Nat) : (s.modLg k f).tp x = s.tp x := rfl
@[simp] theorem State.modTh_ch (s : State) (n : Nat) (f : Therm → Therm) (x : Nat) : (s.modTh n f).ch x = s.ch x := rfl
@[simp] theorem State.modTh_cx (s : State) (n : Nat) (f : Therm → Therm) (x : Nat) : (s.modTh n f).cx x = s.cx x := rfl
@[simp] theorem State.modTh_lk (s : State) (n : Nat) (f : Therm → Therm) (x : Nat) : (s.modTh n f).lk x = s.lk x := rfl
@[simp] theorem State.modTh_tp (s : State) (n : Nat) (f : Therm → Therm) (x : Nat) : (s.modTh n f).tp x = s.tp x := rfl
@[simp] theorem State.modStat_ch (s : State) (e : Nat) (f : EngStat → EngStat) (x : Nat) : (s.modStat e f).ch x = s.ch x := rfl
@[simp] theorem State.modStat_cx (s : State) (e : Nat) (f : EngStat → EngStat) (x : Nat) : (s.modStat e f).cx x = s.cx x := rfl
@[simp] theorem State.modStat_lk (s : State) (e : Nat) (f : EngStat → EngStat) (x : Nat) : (s.modStat e f).lk x = s.lk x := rfl
@[simp] theorem State.modStat_tp (s : State) (e : Nat) (f : EngStat → EngStat) (x : Nat) : (s.modStat e f).tp x = s.tp x := rfl
@[simp] theorem State.modCh_now (s : State) (n : Nat) (f : Chan → Chan) : (s.modCh n f).now = s.now := rfl
@[simp] theorem State.modCh_engine (s : State) (n : Nat) (f : Chan → Chan) (x : Nat) : (s.modCh n f).engine x = s.engine x := rfl
@[simp] theorem State.modCx_now (s : State) (c : Nat) (f : Context → Context) : (s.modCx c f).now = s.now := rfl
@[simp] theorem State.modCx_engine (s : State) (c : Nat) (f : Context → Context) (x : Nat) : (s.modCx c f).engine x = s.engine x := rfl
@[simp] theorem State.modLk_now (s : State) (l : Nat) (f : Link → Link) : (s.modLk l f).now = s.now := rfl
@[simp] theorem State.modLk_engine (s : State) (l : Nat) (f : Link → Link) (x : Nat) : (s.modLk l f).engine x = s.engine x := rfl
@[simp] theorem State.modRel_now (s : State) (c : Nat) (f : Rel → Rel) : (s.modRel c f).now = s.now := rfl
@[simp] theorem State.modRel_engine (s : State) (c : Nat) (f : Rel → Rel) (x : Nat) : (s.modRel c f).engine x = s.engine x := rfl
@[simp] theorem State.modTp_now (s : State) (p : Nat) (f : Tpc → Tpc) : (s.modTp p f).now = s.now := rfl
@[simp] theorem State.modTp_engine (s : State) (p : Nat) (f : Tpc → Tpc) (x : Nat) : (s.modTp p f).engine x = s.engine x := rfl
@[simp] theorem State.modTw_now (s : State) (p : Nat) (f : Twp → Twp) : (s.modTw p f).now = s.now := rfl
@[simp] theorem State.modTw_engine (s : State) (p : Nat) (f : Twp → Twp) (x : Nat) : (s.modTw p f).engine x = s.engine x := rfl
@[simp] theorem State.modLg_now (s : State) (k : Nat) (f : Ledger → Ledger) : (s.modLg k f).now = s.now := rfl
@[simp] theorem State.modLg_engine (s : State) (k : Nat) (f : Ledger → Ledger) (x : Nat) : (s.modLg k f).engine x = s.engine x := rfl
@[simp] theorem State.modTh_now (s : State) (n : Nat) (f : Therm → Therm) : (s.modTh n f).now = s.now := rfl
@[simp] theorem State.modTh_engine (s : State) (n : Nat) (f : Therm → Therm) (x : Nat) : (s.modTh n f).engine x = s.engine x := rfl
@[simp] theorem State.modStat_now (s : State) (e : Nat) (f : EngStat → EngStat) : (s.modStat e f).now = s.now := rfl
@[simp] theorem State.modStat_engine (s : State) (e : Nat) (f : EngStat → EngStat) (x : Nat) : (s.modStat e f).engine x = s.engine x := rfl
@[simp] theorem State.draw_now (s : State) (lo hi : Nat) : (s.draw lo hi).2.now = s.now := rfl
@[simp] theorem State.draw_ch (s : State) (lo hi n : Nat) : (s.draw lo hi).2.ch n = s.ch n := rfl
@[simp] theorem State.draw_cx (s : State) (lo hi c : Nat) : (s.draw lo hi).2.cx c = s.cx c := rfl
@[simp] theorem State.draw_lk (s : State) (lo hi l : Nat) : (s.draw lo hi).2.lk l = s.lk l := rfl

/-- A context's updates combine. -/
theorem State.modCx_modCx (s : State) (c : Nat) (f g : Context → Context) :
    (s.modCx c f).modCx c g = s.modCx c fun x => g (f x) := by simp [State.modCx, vmod_vmod]

/-- Updates that agree on the context are equal. -/
theorem State.modCx_congr (s : State) (c : Nat) (f g : Context → Context) (h : f (s.cx c) = g (s.cx c)) :
    s.modCx c f = s.modCx c g := by
  simp only [State.modCx]
  rw [vmod_congr s.ctx c f g Context.init h]

/-- An update of a context that leaves it changes nothing. -/
theorem State.modCx_id (s : State) (c : Nat) (f : Context → Context) (h : f (s.cx c) = s.cx c) : s.modCx c f = s := by
  simp only [State.modCx]
  rw [vmod_id s.ctx c f Context.init fun _ => h]

end Sys2Proof.Machine
end

