-- ==== Sys2Proof/Laws/Engine.lean ====
section
/-!
SUPPORT. What the shared operations of the engines do: `engine`, `alu` and `ctxOp` on a release whose instruction R55 allows, and
results in registers.
-/
namespace Sys2Proof.Machine

/-- The release after the instruction has issued. -/
def relAfter (c : Ctx) (w ext : W) (r : Rel) : Rel :=
  issueRel (profOf c) (insnOf w ext) (issueAt (profOf c) (insnOf w ext) r) (insnOf w ext).issue r

/-- An allowed instruction runs on the state in which its release has moved on. -/
theorem engine_runs {s : State} {c : Ctx} {w ext : W} {r : Rel} (op : Insn → Rel → State → State)
    (hr : (s.cx c.val).rel = some r) (h : insnOk (profOf c) (insnOf w ext) = true)
    (hg : grantsOk r.prog r.pc (insnOf w ext) = true) :
    engine c w ext op s =
      op (insnOf w ext) r (s.modCx c.val fun x => { x with rel := some (relAfter c w ext r) }) := by
  unfold engine
  rw [hr]
  simp only [h, hg, Bool.and_self, if_true]
  congr 1
  apply State.modCx_congr
  simp [hr, relAfter]

/-- An instruction that R55 would refuse aborts its release with code 0x0003. -/
theorem engine_illegal {s : State} {c : Ctx} {w ext : W} {r : Rel} (op : Insn → Rel → State → State)
    (hr : (s.cx c.val).rel = some r)
    (h : insnOk (profOf c) (insnOf w ext) = false ∨ grantsOk r.prog r.pc (insnOf w ext) = false) :
    engine c w ext op s = abortRelease c.val 0x0003 s := by
  unfold engine
  rw [hr]
  rcases h with h | h <;> simp [h, illegal]

/-- In a context without a release nothing runs. -/
theorem engine_idle {s : State} {c : Ctx} {w ext : W} (op : Insn → Rel → State → State) (hr : (s.cx c.val).rel = none) :
    engine c w ext op s = s := by
  unfold engine
  rw [hr]

/-- An instruction whose effect lies in its context alone. -/
theorem ctxOp_runs {s : State} {c : Ctx} {w ext : W} {r : Rel} (f : (Nat → W) → Insn → Context → Context)
    (hr : (s.cx c.val).rel = some r) (h : insnOk (profOf c) (insnOf w ext) = true)
    (hg : grantsOk r.prog r.pc (insnOf w ext) = true) :
    ctxOp c w ext f s = s.modCx c.val fun x =>
      let y := { x with rel := some (relAfter c w ext r) }
      f (reg c.val y) (insnOf w ext) y := by
  unfold ctxOp
  rw [engine_runs _ hr h hg, State.modCx_modCx]

/-- An instruction whose effect is a result and its flags. -/
theorem alu_runs {s : State} {c : Ctx} {w ext : W} {r : Rel} (f : (Nat → W) → Context → Insn → Res)
    (hr : (s.cx c.val).rel = some r) (h : insnOk (profOf c) (insnOf w ext) = true)
    (hg : grantsOk r.prog r.pc (insnOf w ext) = true) :
    alu c w ext f s = s.modCx c.val fun x =>
      let y := { x with rel := some (relAfter c w ext r) }
      setRes c.val (insnOf w ext).d (f (reg c.val y) y (insnOf w ext)) y := by
  unfold alu
  rw [engine_runs _ hr h hg, State.modCx_modCx]

/-- A register read does not look at the release. -/
@[simp] theorem reg_rel (c : Nat) (x : Context) (r : Option Rel) (n : Nat) : reg c { x with rel := r } n = reg c x n := rfl

/-- v0 of an L or U context reads 0 (R38). -/
theorem reg_zero {c : Nat} (h : isS c = false) (x : Context) : reg c x 0 = 0 := by simp [reg, h]

/-- A result for v0 of an L or U context changes nothing (R38). -/
theorem setRes_zero {c : Nat} (h : isS c = false) (r : Res) (x : Context) : setRes c 0 r x = x := by simp [setRes, h]

/-- A result leaves the release. -/
theorem setReg_rel (c n : Nat) (v : W) (x : Context) (r : Option Rel) :
    setReg c n v { x with rel := r } = { setReg c n v x with rel := r } := by
  unfold setReg; split <;> rfl

/-- A result leaves the release. -/
theorem setRes_rel (c d : Nat) (res : Res) (x : Context) (r : Option Rel) :
    setRes c d res { x with rel := r } = { setRes c d res x with rel := r } := by
  unfold setRes setFlags setZN
  simp only [setReg_rel]
  split
  · rfl
  · split
    · rfl
    · split <;> rfl

/-- A register after a result in it. -/
theorem vat_setReg_self {c n : Nat} (h : n < 32) (hn : ¬ (n = 0 ∧ isS c = false)) (v : W) (x : Context) :
    vat (setReg c n v x).regs n 0 = v := by
  unfold setReg
  rw [if_neg (by simpa using hn)]
  exact vat_vput_self _ h v 0

/-- Another register after a result. -/
theorem vat_setReg_ne {c n m : Nat} (h : n ≠ m) (v : W) (x : Context) : vat (setReg c n v x).regs m 0 = vat x.regs m 0 := by
  unfold setReg
  split
  · rfl
  · exact vat_vput_ne _ h v 0

end Sys2Proof.Machine
end

