-- ==== Sys2Proof/Laws/Events.lean ====
section
/-!
SUPPORT. What an occurrence of an event source changes: the fault collector's own state, the event ring with its vectors and
host memory, and the Host Notify of a two-wire port; and what `settle` is where nothing waits.
-/
namespace Sys2Proof.Machine

/-- A message changes the kiosk alone. -/
theorem msixSend_eq (v : Nat) (s : State) : ∃ k, msixSend v s = { s with kio := k } := by
  unfold msixSend
  dsimp only
  split
  · split
    · exact ⟨_, rfl⟩
    · exact ⟨s.kio, rfl⟩
  · split
    · split <;> exact ⟨_, rfl⟩
    · exact ⟨s.kio, rfl⟩

/-- A record changes the kiosk, host memory and the two-wire ports alone. -/
theorem recordWrite_eq (h : HeldRec) (s : State) :
    ∃ k m t, recordWrite h s = { s with kio := k, host := m, twp := t } := by
  unfold recordWrite
  dsimp only
  have e := fun v s => (msixSend_eq v s).choose_spec
  split
  · rw [e, e]
    exact ⟨_, _, _, rfl⟩
  · rw [e]
    exact ⟨_, _, _, rfl⟩

/-- A record, written or held. -/
theorem record_eq (h : HeldRec) (s : State) :
    ∃ k m t f, record h s = { s with kio := k, host := m, twp := t, fcr := { s.fcr with held := f } } := by
  unfold record
  dsimp only
  split
  · obtain ⟨k, m, t, e⟩ := recordWrite_eq h s
    exact ⟨k, m, t, s.fcr.held, e⟩
  · exact ⟨s.kio, s.host, s.twp, _, rfl⟩

/-- An occurrence changes the collector's counts, windows, held records and waiting reactions, the kiosk, host memory and the
two-wire ports, and nothing else. -/
theorem State.raise_eq (s : State) (src : Nat) (cls : EvClass) (code : Nat) (p : W) (ctx task : Nat) :
    ∃ k m t h c w r, s.raise src cls code p ctx task =
      { s with kio := k, host := m, twp := t, fcr := { s.fcr with held := h, cnt := c, win := w, todo := r } } := by
  unfold State.raise
  dsimp only
  split
  · exact ⟨_, _, _, _, _, _, _, rfl⟩
  · split
    · split
      · exact ⟨_, _, _, _, _, _, _, rfl⟩
      · obtain ⟨k, m, t, f, e⟩ := record_eq ⟨src, promoted s src cls, 1, BitVec.ofNat 16 code, s.clk.ts, p, ctx, task, false⟩
          { s with fcr := { s.fcr with
            cnt := assocPut s.fcr.cnt src ((assocGet s.fcr.cnt src).getD 0 + 1)
            todo := s.fcr.todo ++ [⟨src, promoted s src cls, cfgOf s src, BitVec.ofNat 16 code, p⟩]
            win := winPut s.fcr.win src (promoted s src cls) (some ⟨s.now + evWindow, 0, 0, 0, 0, 0, 0⟩) } }
        exact ⟨k, m, t, f, _, _, _, e⟩
    · exact ⟨_, _, _, _, _, _, _, rfl⟩

/-! Field by field. -/

@[simp] theorem State.raise_pending (s : State) (src : Nat) (cls : EvClass) (code : Nat) (p : W) (ctx task : Nat) :
    (s.raise src cls code p ctx task).pending = s.pending := by
  obtain ⟨_, _, _, _, _, _, _, e⟩ := s.raise_eq src cls code p ctx task; rw [e]
@[simp] theorem State.raise_clk (s : State) (src : Nat) (cls : EvClass) (code : Nat) (p : W) (ctx task : Nat) :
    (s.raise src cls code p ctx task).clk = s.clk := by
  obtain ⟨_, _, _, _, _, _, _, e⟩ := s.raise_eq src cls code p ctx task; rw [e]
@[simp] theorem State.raise_ctx (s : State) (src : Nat) (cls : EvClass) (code : Nat) (p : W) (ctx task : Nat) :
    (s.raise src cls code p ctx task).ctx = s.ctx := by
  obtain ⟨_, _, _, _, _, _, _, e⟩ := s.raise_eq src cls code p ctx task; rw [e]
@[simp] theorem State.raise_le (s : State) (src : Nat) (cls : EvClass) (code : Nat) (p : W) (ctx task : Nat) :
    (s.raise src cls code p ctx task).le = s.le := by
  obtain ⟨_, _, _, _, _, _, _, e⟩ := s.raise_eq src cls code p ctx task; rw [e]
@[simp] theorem State.raise_se (s : State) (src : Nat) (cls : EvClass) (code : Nat) (p : W) (ctx task : Nat) :
    (s.raise src cls code p ctx task).se = s.se := by
  obtain ⟨_, _, _, _, _, _, _, e⟩ := s.raise_eq src cls code p ctx task; rw [e]
@[simp] theorem State.raise_ue (s : State) (src : Nat) (cls : EvClass) (code : Nat) (p : W) (ctx task : Nat) :
    (s.raise src cls code p ctx task).ue = s.ue := by
  obtain ⟨_, _, _, _, _, _, _, e⟩ := s.raise_eq src cls code p ctx task; rw [e]
@[simp] theorem State.raise_eng (s : State) (src : Nat) (cls : EvClass) (code : Nat) (p : W) (ctx task : Nat) :
    (s.raise src cls code p ctx task).eng = s.eng := by
  obtain ⟨_, _, _, _, _, _, _, e⟩ := s.raise_eq src cls code p ctx task; rw [e]
@[simp] theorem State.raise_shared (s : State) (src : Nat) (cls : EvClass) (code : Nat) (p : W) (ctx task : Nat) :
    (s.raise src cls code p ctx task).shared = s.shared := by
  obtain ⟨_, _, _, _, _, _, _, e⟩ := s.raise_eq src cls code p ctx task; rw [e]
@[simp] theorem State.raise_chan (s : State) (src : Nat) (cls : EvClass) (code : Nat) (p : W) (ctx task : Nat) :
    (s.raise src cls code p ctx task).chan = s.chan := by
  obtain ⟨_, _, _, _, _, _, _, e⟩ := s.raise_eq src cls code p ctx task; rw [e]
@[simp] theorem State.raise_shaft (s : State) (src : Nat) (cls : EvClass) (code : Nat) (p : W) (ctx task : Nat) :
    (s.raise src cls code p ctx task).shaft = s.shaft := by
  obtain ⟨_, _, _, _, _, _, _, e⟩ := s.raise_eq src cls code p ctx task; rw [e]
@[simp] theorem State.raise_pg (s : State) (src : Nat) (cls : EvClass) (code : Nat) (p : W) (ctx task : Nat) :
    (s.raise src cls code p ctx task).pg = s.pg := by
  obtain ⟨_, _, _, _, _, _, _, e⟩ := s.raise_eq src cls code p ctx task; rw [e]
@[simp] theorem State.raise_adm (s : State) (src : Nat) (cls : EvClass) (code : Nat) (p : W) (ctx task : Nat) :
    (s.raise src cls code p ctx task).adm = s.adm := by
  obtain ⟨_, _, _, _, _, _, _, e⟩ := s.raise_eq src cls code p ctx task; rw [e]
@[simp] theorem State.raise_snapSeq (s : State) (src : Nat) (cls : EvClass) (code : Nat) (p : W) (ctx task : Nat) :
    (s.raise src cls code p ctx task).snapSeq = s.snapSeq := by
  obtain ⟨_, _, _, _, _, _, _, e⟩ := s.raise_eq src cls code p ctx task; rw [e]
@[simp] theorem State.raise_link (s : State) (src : Nat) (cls : EvClass) (code : Nat) (p : W) (ctx task : Nat) :
    (s.raise src cls code p ctx task).link = s.link := by
  obtain ⟨_, _, _, _, _, _, _, e⟩ := s.raise_eq src cls code p ctx task; rw [e]
@[simp] theorem State.raise_bbr (s : State) (src : Nat) (cls : EvClass) (code : Nat) (p : W) (ctx task : Nat) :
    (s.raise src cls code p ctx task).bbr = s.bbr := by
  obtain ⟨_, _, _, _, _, _, _, e⟩ := s.raise_eq src cls code p ctx task; rw [e]
@[simp] theorem State.raise_clg (s : State) (src : Nat) (cls : EvClass) (code : Nat) (p : W) (ctx task : Nat) :
    (s.raise src cls code p ctx task).clg = s.clg := by
  obtain ⟨_, _, _, _, _, _, _, e⟩ := s.raise_eq src cls code p ctx task; rw [e]
@[simp] theorem State.raise_tmu (s : State) (src : Nat) (cls : EvClass) (code : Nat) (p : W) (ctx task : Nat) :
    (s.raise src cls code p ctx task).tmu = s.tmu := by
  obtain ⟨_, _, _, _, _, _, _, e⟩ := s.raise_eq src cls code p ctx task; rw [e]
@[simp] theorem State.raise_tpc (s : State) (src : Nat) (cls : EvClass) (code : Nat) (p : W) (ctx task : Nat) :
    (s.raise src cls code p ctx task).tpc = s.tpc := by
  obtain ⟨_, _, _, _, _, _, _, e⟩ := s.raise_eq src cls code p ctx task; rw [e]
@[simp] theorem State.raise_jnb (s : State) (src : Nat) (cls : EvClass) (code : Nat) (p : W) (ctx task : Nat) :
    (s.raise src cls code p ctx task).jnb = s.jnb := by
  obtain ⟨_, _, _, _, _, _, _, e⟩ := s.raise_eq src cls code p ctx task; rw [e]
@[simp] theorem State.raise_prl (s : State) (src : Nat) (cls : EvClass) (code : Nat) (p : W) (ctx task : Nat) :
    (s.raise src cls code p ctx task).prl = s.prl := by
  obtain ⟨_, _, _, _, _, _, _, e⟩ := s.raise_eq src cls code p ctx task; rw [e]
@[simp] theorem State.raise_nvs (s : State) (src : Nat) (cls : EvClass) (code : Nat) (p : W) (ctx task : Nat) :
    (s.raise src cls code p ctx task).nvs = s.nvs := by
  obtain ⟨_, _, _, _, _, _, _, e⟩ := s.raise_eq src cls code p ctx task; rw [e]
@[simp] theorem State.raise_upe (s : State) (src : Nat) (cls : EvClass) (code : Nat) (p : W) (ctx task : Nat) :
    (s.raise src cls code p ctx task).upe = s.upe := by
  obtain ⟨_, _, _, _, _, _, _, e⟩ := s.raise_eq src cls code p ctx task; rw [e]
@[simp] theorem State.raise_boot (s : State) (src : Nat) (cls : EvClass) (code : Nat) (p : W) (ctx task : Nat) :
    (s.raise src cls code p ctx task).boot = s.boot := by
  obtain ⟨_, _, _, _, _, _, _, e⟩ := s.raise_eq src cls code p ctx task; rw [e]
@[simp] theorem State.raise_trl (s : State) (src : Nat) (cls : EvClass) (code : Nat) (p : W) (ctx task : Nat) :
    (s.raise src cls code p ctx task).trl = s.trl := by
  obtain ⟨_, _, _, _, _, _, _, e⟩ := s.raise_eq src cls code p ctx task; rw [e]
@[simp] theorem State.raise_fresh (s : State) (src : Nat) (cls : EvClass) (code : Nat) (p : W) (ctx task : Nat) :
    (s.raise src cls code p ctx task).fresh = s.fresh := by
  obtain ⟨_, _, _, _, _, _, _, e⟩ := s.raise_eq src cls code p ctx task; rw [e]

@[simp] theorem State.raiseP_pending (s : State) (src : Nat) (cls : EvClass) (code ctx task : Nat) :
    (s.raiseP src cls code ctx task).pending = s.pending := by simp [State.raiseP, State.draw]
@[simp] theorem State.raiseC_pending (s : State) (src : Nat) (cls : EvClass) (ctx task : Nat) :
    (s.raiseC src cls ctx task).pending = s.pending := by simp [State.raiseC, State.draw]
@[simp] theorem State.raiseP_clk (s : State) (src : Nat) (cls : EvClass) (code ctx task : Nat) :
    (s.raiseP src cls code ctx task).clk = s.clk := by simp [State.raiseP, State.draw]
@[simp] theorem State.raiseC_clk (s : State) (src : Nat) (cls : EvClass) (ctx task : Nat) :
    (s.raiseC src cls ctx task).clk = s.clk := by simp [State.raiseC, State.draw]
@[simp] theorem State.raiseP_ctx (s : State) (src : Nat) (cls : EvClass) (code ctx task : Nat) :
    (s.raiseP src cls code ctx task).ctx = s.ctx := by simp [State.raiseP, State.draw]
@[simp] theorem State.raiseC_ctx (s : State) (src : Nat) (cls : EvClass) (ctx task : Nat) :
    (s.raiseC src cls ctx task).ctx = s.ctx := by simp [State.raiseC, State.draw]
@[simp] theorem State.raiseP_le (s : State) (src : Nat) (cls : EvClass) (code ctx task : Nat) :
    (s.raiseP src cls code ctx task).le = s.le := by simp [State.raiseP, State.draw]
@[simp] theorem State.raiseC_le (s : State) (src : Nat) (cls : EvClass) (ctx task : Nat) :
    (s.raiseC src cls ctx task).le = s.le := by simp [State.raiseC, State.draw]
@[simp] theorem State.raiseP_se (s : State) (src : Nat) (cls : EvClass) (code ctx task : Nat) :
    (s.raiseP src cls code ctx task).se = s.se := by simp [State.raiseP, State.draw]
@[simp] theorem State.raiseC_se (s : State) (src : Nat) (cls : EvClass) (ctx task : Nat) :
    (s.raiseC src cls ctx task).se = s.se := by simp [State.raiseC, State.draw]
@[simp] theorem State.raiseP_ue (s : State) (src : Nat) (cls : EvClass) (code ctx task : Nat) :
    (s.raiseP src cls code ctx task).ue = s.ue := by simp [State.raiseP, State.draw]
@[simp] theorem State.raiseC_ue (s : State) (src : Nat) (cls : EvClass) (ctx task : Nat) :
    (s.raiseC src cls ctx task).ue = s.ue := by simp [State.raiseC, State.draw]
@[simp] theorem State.raiseP_eng (s : State) (src : Nat) (cls : EvClass) (code ctx task : Nat) :
    (s.raiseP src cls code ctx task).eng = s.eng := by simp [State.raiseP, State.draw]
@[simp] theorem State.raiseC_eng (s : State) (src : Nat) (cls : EvClass) (ctx task : Nat) :
    (s.raiseC src cls ctx task).eng = s.eng := by simp [State.raiseC, State.draw]
@[simp] theorem State.raiseP_shared (s : State) (src : Nat) (cls : EvClass) (code ctx task : Nat) :
    (s.raiseP src cls code ctx task).shared = s.shared := by simp [State.raiseP, State.draw]
@[simp] theorem State.raiseC_shared (s : State) (src : Nat) (cls : EvClass) (ctx task : Nat) :
    (s.raiseC src cls ctx task).shared = s.shared := by simp [State.raiseC, State.draw]
@[simp] theorem State.raiseP_chan (s : State) (src : Nat) (cls : EvClass) (code ctx task : Nat) :
    (s.raiseP src cls code ctx task).chan = s.chan := by simp [State.raiseP, State.draw]
@[simp] theorem State.raiseC_chan (s : State) (src : Nat) (cls : EvClass) (ctx task : Nat) :
    (s.raiseC src cls ctx task).chan = s.chan := by simp [State.raiseC, State.draw]
@[simp] theorem State.raiseP_shaft (s : State) (src : Nat) (cls : EvClass) (code ctx task : Nat) :
    (s.raiseP src cls code ctx task).shaft = s.shaft := by simp [State.raiseP, State.draw]
@[simp] theorem State.raiseC_shaft (s : State) (src : Nat) (cls : EvClass) (ctx task : Nat) :
    (s.raiseC src cls ctx task).shaft = s.shaft := by simp [State.raiseC, State.draw]
@[simp] theorem State.raiseP_pg (s : State) (src : Nat) (cls : EvClass) (code ctx task : Nat) :
    (s.raiseP src cls code ctx task).pg = s.pg := by simp [State.raiseP, State.draw]
@[simp] theorem State.raiseC_pg (s : State) (src : Nat) (cls : EvClass) (ctx task : Nat) :
    (s.raiseC src cls ctx task).pg = s.pg := by simp [State.raiseC, State.draw]
@[simp] theorem State.raiseP_adm (s : State) (src : Nat) (cls : EvClass) (code ctx task : Nat) :
    (s.raiseP src cls code ctx task).adm = s.adm := by simp [State.raiseP, State.draw]
@[simp] theorem State.raiseC_adm (s : State) (src : Nat) (cls : EvClass) (ctx task : Nat) :
    (s.raiseC src cls ctx task).adm = s.adm := by simp [State.raiseC, State.draw]
@[simp] theorem State.raiseP_snapSeq (s : State) (src : Nat) (cls : EvClass) (code ctx task : Nat) :
    (s.raiseP src cls code ctx task).snapSeq = s.snapSeq := by simp [State.raiseP, State.draw]
@[simp] theorem State.raiseC_snapSeq (s : State) (src : Nat) (cls : EvClass) (ctx task : Nat) :
    (s.raiseC src cls ctx task).snapSeq = s.snapSeq := by simp [State.raiseC, State.draw]
@[simp] theorem State.raiseP_link (s : State) (src : Nat) (cls : EvClass) (code ctx task : Nat) :
    (s.raiseP src cls code ctx task).link = s.link := by simp [State.raiseP, State.draw]
@[simp] theorem State.raiseC_link (s : State) (src : Nat) (cls : EvClass) (ctx task : Nat) :
    (s.raiseC src cls ctx task).link = s.link := by simp [State.raiseC, State.draw]
@[simp] theorem State.raiseP_bbr (s : State) (src : Nat) (cls : EvClass) (code ctx task : Nat) :
    (s.raiseP src cls code ctx task).bbr = s.bbr := by simp [State.raiseP, State.draw]
@[simp] theorem State.raiseC_bbr (s : State) (src : Nat) (cls : EvClass) (ctx task : Nat) :
    (s.raiseC src cls ctx task).bbr = s.bbr := by simp [State.raiseC, State.draw]
@[simp] theorem State.raiseP_clg (s : State) (src : Nat) (cls : EvClass) (code ctx task : Nat) :
    (s.raiseP src cls code ctx task).clg = s.clg := by simp [State.raiseP, State.draw]
@[simp] theorem State.raiseC_clg (s : State) (src : Nat) (cls : EvClass) (ctx task : Nat) :
    (s.raiseC src cls ctx task).clg = s.clg := by simp [State.raiseC, State.draw]
@[simp] theorem State.raiseP_tmu (s : State) (src : Nat) (cls : EvClass) (code ctx task : Nat) :
    (s.raiseP src cls code ctx task).tmu = s.tmu := by simp [State.raiseP, State.draw]
@[simp] theorem State.raiseC_tmu (s : State) (src : Nat) (cls : EvClass) (ctx task : Nat) :
    (s.raiseC src cls ctx task).tmu = s.tmu := by simp [State.raiseC, State.draw]
@[simp] theorem State.raiseP_tpc (s : State) (src : Nat) (cls : EvClass) (code ctx task : Nat) :
    (s.raiseP src cls code ctx task).tpc = s.tpc := by simp [State.raiseP, State.draw]
@[simp] theorem State.raiseC_tpc (s : State) (src : Nat) (cls : EvClass) (ctx task : Nat) :
    (s.raiseC src cls ctx task).tpc = s.tpc := by simp [State.raiseC, State.draw]
@[simp] theorem State.raiseP_jnb (s : State) (src : Nat) (cls : EvClass) (code ctx task : Nat) :
    (s.raiseP src cls code ctx task).jnb = s.jnb := by simp [State.raiseP, State.draw]
@[simp] theorem State.raiseC_jnb (s : State) (src : Nat) (cls : EvClass) (ctx task : Nat) :
    (s.raiseC src cls ctx task).jnb = s.jnb := by simp [State.raiseC, State.draw]
@[simp] theorem State.raiseP_prl (s : State) (src : Nat) (cls : EvClass) (code ctx task : Nat) :
    (s.raiseP src cls code ctx task).prl = s.prl := by simp [State.raiseP, State.draw]
@[simp] theorem State.raiseC_prl (s : State) (src : Nat) (cls : EvClass) (ctx task : Nat) :
    (s.raiseC src cls ctx task).prl = s.prl := by simp [State.raiseC, State.draw]
@[simp] theorem State.raiseP_nvs (s : State) (src : Nat) (cls : EvClass) (code ctx task : Nat) :
    (s.raiseP src cls code ctx task).nvs = s.nvs := by simp [State.raiseP, State.draw]
@[simp] theorem State.raiseC_nvs (s : State) (src : Nat) (cls : EvClass) (ctx task : Nat) :
    (s.raiseC src cls ctx task).nvs = s.nvs := by simp [State.raiseC, State.draw]
@[simp] theorem State.raiseP_upe (s : State) (src : Nat) (cls : EvClass) (code ctx task : Nat) :
    (s.raiseP src cls code ctx task).upe = s.upe := by simp [State.raiseP, State.draw]
@[simp] theorem State.raiseC_upe (s : State) (src : Nat) (cls : EvClass) (ctx task : Nat) :
    (s.raiseC src cls ctx task).upe = s.upe := by simp [State.raiseC, State.draw]
@[simp] theorem State.raiseP_boot (s : State) (src : Nat) (cls : EvClass) (code ctx task : Nat) :
    (s.raiseP src cls code ctx task).boot = s.boot := by simp [State.raiseP, State.draw]
@[simp] theorem State.raiseC_boot (s : State) (src : Nat) (cls : EvClass) (ctx task : Nat) :
    (s.raiseC src cls ctx task).boot = s.boot := by simp [State.raiseC, State.draw]
@[simp] theorem State.raiseP_trl (s : State) (src : Nat) (cls : EvClass) (code ctx task : Nat) :
    (s.raiseP src cls code ctx task).trl = s.trl := by simp [State.raiseP, State.draw]
@[simp] theorem State.raiseC_trl (s : State) (src : Nat) (cls : EvClass) (ctx task : Nat) :
    (s.raiseC src cls ctx task).trl = s.trl := by simp [State.raiseC, State.draw]

/-! `settle`. -/

/-- Where no reaction waits, a round has nothing to do. -/
theorem settleN_nil (n : Nat) {s : State} (h : s.fcr.todo = []) : settleN n s = s := by
  cases n with
  | zero =>
    obtain ⟨⟩ := s
    rename_i f _ _ _ _
    obtain ⟨⟩ := f
    simp only at h
    subst h
    rfl
  | succ n => simp [settleN, h]

/-- Where no reaction waits, `settle` changes nothing. -/
@[simp] theorem settle_nil {s : State} (h : s.fcr.todo = []) : settle s = s := settleN_nil 8 h

end Sys2Proof.Machine
end

