-- ==== Sys2Proof/Laws/Kiosk.lean ====
section
/-!
SUPPORT. What the kiosk's shared operations do: a row with and without its accepted command, and what a completion changes.
-/
namespace Sys2Proof.Machine

/-- A row carries out the accepted command it names. -/
theorem kiosk_accepted {cmd : Nat} {tag : BitVec 16} {k : KCmd} {s : State} (f : KCmd → State → State)
    (h : kFind s cmd tag = some k) (hr : mgpRuns s = true) (ht : kTurn s k = true) :
    kiosk cmd tag f s = f k s := by
  simp [kiosk, h, hr, ht]

/-- Without an accepted command a row does nothing. -/
theorem kiosk_none {cmd : Nat} {tag : BitVec 16} {s : State} (f : KCmd → State → State) (h : kFind s cmd tag = none) :
    kiosk cmd tag f s = s := by
  simp [kiosk, h]

/-- A completion entry changes the kiosk and host memory alone. -/
theorem cplWrite_eq (q cmd : Nat) (tag : BitVec 16) (st u r : Nat) (r0 r1 r2 : W) (s : State) :
    ∃ k m, cplWrite q cmd tag st u r r0 r1 r2 s = { s with kio := k, host := m } := by
  have e := fun v s => (msixSend_eq v s).choose_spec
  unfold cplWrite
  dsimp only
  split
  · rw [e]
    exact ⟨_, _, rfl⟩
  · exact ⟨s.kio, s.host, rfl⟩

/-- The final completion of a command that no pair mirrors: it leaves the accepted commands and its entry is written. -/
theorem kEnd_own {k : KCmd} (h : k.mseq = none) (st : Nat) (r0 r1 r2 : W) (s : State) :
    kEnd k st r0 r1 r2 s = kCpl k st r0 r1 r2 (kDrop k s) := by
  simp [kEnd, h]

/-- The completion of a command of the open session that carries no retry time. -/
theorem kCpl_plain {k : KCmd} (hm : k.mute = false) (hr : k.retry = 0) (st : Nat) (r0 r1 r2 : W) (s : State) :
    kCpl k st r0 r1 r2 s = cplWrite k.ring.val k.cmd k.tag st 0 0 r0 r1 r2 s := by
  simp [kCpl, hm, cplRetry, hr, retryOf]

/-- A completion changes the kiosk and host memory alone. -/
theorem kCpl_eq (k : KCmd) (st : Nat) (r0 r1 r2 : W) (s : State) :
    ∃ o m, kCpl k st r0 r1 r2 s = { s with kio := o, host := m } := by
  unfold kCpl cplRetry
  split
  · exact ⟨s.kio, s.host, rfl⟩
  · split; exact cplWrite_eq ..

@[simp] theorem cplWrite_pending (q cmd : Nat) (tag : BitVec 16) (st u r : Nat) (r0 r1 r2 : W) (s : State) :
    (cplWrite q cmd tag st u r r0 r1 r2 s).pending = s.pending := by
  obtain ⟨_, _, e⟩ := cplWrite_eq q cmd tag st u r r0 r1 r2 s; rw [e]
@[simp] theorem kCpl_pending (k : KCmd) (st : Nat) (r0 r1 r2 : W) (s : State) : (kCpl k st r0 r1 r2 s).pending = s.pending := by
  obtain ⟨_, _, e⟩ := kCpl_eq k st r0 r1 r2 s; rw [e]
@[simp] theorem kDrop_pending (k : KCmd) (s : State) : (kDrop k s).pending = s.pending := rfl
@[simp] theorem kMod_pending (k : KCmd) (f : KCmd → KCmd) (s : State) : (kMod k f s).pending = s.pending := rfl
@[simp] theorem cplWrite_fresh (q cmd : Nat) (tag : BitVec 16) (st u r : Nat) (r0 r1 r2 : W) (s : State) :
    (cplWrite q cmd tag st u r r0 r1 r2 s).fresh = s.fresh := by
  obtain ⟨_, _, e⟩ := cplWrite_eq q cmd tag st u r r0 r1 r2 s; rw [e]
@[simp] theorem kCpl_fresh (k : KCmd) (st : Nat) (r0 r1 r2 : W) (s : State) : (kCpl k st r0 r1 r2 s).fresh = s.fresh := by
  obtain ⟨_, _, e⟩ := kCpl_eq k st r0 r1 r2 s; rw [e]
@[simp] theorem kDrop_fresh (k : KCmd) (s : State) : (kDrop k s).fresh = s.fresh := rfl
@[simp] theorem kMod_fresh (k : KCmd) (f : KCmd → KCmd) (s : State) : (kMod k f s).fresh = s.fresh := rfl
@[simp] theorem cplWrite_clk (q cmd : Nat) (tag : BitVec 16) (st u r : Nat) (r0 r1 r2 : W) (s : State) :
    (cplWrite q cmd tag st u r r0 r1 r2 s).clk = s.clk := by
  obtain ⟨_, _, e⟩ := cplWrite_eq q cmd tag st u r r0 r1 r2 s; rw [e]
@[simp] theorem kCpl_clk (k : KCmd) (st : Nat) (r0 r1 r2 : W) (s : State) : (kCpl k st r0 r1 r2 s).clk = s.clk := by
  obtain ⟨_, _, e⟩ := kCpl_eq k st r0 r1 r2 s; rw [e]
@[simp] theorem kDrop_clk (k : KCmd) (s : State) : (kDrop k s).clk = s.clk := rfl
@[simp] theorem kMod_clk (k : KCmd) (f : KCmd → KCmd) (s : State) : (kMod k f s).clk = s.clk := rfl
@[simp] theorem cplWrite_ctx (q cmd : Nat) (tag : BitVec 16) (st u r : Nat) (r0 r1 r2 : W) (s : State) :
    (cplWrite q cmd tag st u r r0 r1 r2 s).ctx = s.ctx := by
  obtain ⟨_, _, e⟩ := cplWrite_eq q cmd tag st u r r0 r1 r2 s; rw [e]
@[simp] theorem kCpl_ctx (k : KCmd) (st : Nat) (r0 r1 r2 : W) (s : State) : (kCpl k st r0 r1 r2 s).ctx = s.ctx := by
  obtain ⟨_, _, e⟩ := kCpl_eq k st r0 r1 r2 s; rw [e]
@[simp] theorem kDrop_ctx (k : KCmd) (s : State) : (kDrop k s).ctx = s.ctx := rfl
@[simp] theorem kMod_ctx (k : KCmd) (f : KCmd → KCmd) (s : State) : (kMod k f s).ctx = s.ctx := rfl
@[simp] theorem cplWrite_le (q cmd : Nat) (tag : BitVec 16) (st u r : Nat) (r0 r1 r2 : W) (s : State) :
    (cplWrite q cmd tag st u r r0 r1 r2 s).le = s.le := by
  obtain ⟨_, _, e⟩ := cplWrite_eq q cmd tag st u r r0 r1 r2 s; rw [e]
@[simp] theorem kCpl_le (k : KCmd) (st : Nat) (r0 r1 r2 : W) (s : State) : (kCpl k st r0 r1 r2 s).le = s.le := by
  obtain ⟨_, _, e⟩ := kCpl_eq k st r0 r1 r2 s; rw [e]
@[simp] theorem kDrop_le (k : KCmd) (s : State) : (kDrop k s).le = s.le := rfl
@[simp] theorem kMod_le (k : KCmd) (f : KCmd → KCmd) (s : State) : (kMod k f s).le = s.le := rfl
@[simp] theorem cplWrite_se (q cmd : Nat) (tag : BitVec 16) (st u r : Nat) (r0 r1 r2 : W) (s : State) :
    (cplWrite q cmd tag st u r r0 r1 r2 s).se = s.se := by
  obtain ⟨_, _, e⟩ := cplWrite_eq q cmd tag st u r r0 r1 r2 s; rw [e]
@[simp] theorem kCpl_se (k : KCmd) (st : Nat) (r0 r1 r2 : W) (s : State) : (kCpl k st r0 r1 r2 s).se = s.se := by
  obtain ⟨_, _, e⟩ := kCpl_eq k st r0 r1 r2 s; rw [e]
@[simp] theorem kDrop_se (k : KCmd) (s : State) : (kDrop k s).se = s.se := rfl
@[simp] theorem kMod_se (k : KCmd) (f : KCmd → KCmd) (s : State) : (kMod k f s).se = s.se := rfl
@[simp] theorem cplWrite_ue (q cmd : Nat) (tag : BitVec 16) (st u r : Nat) (r0 r1 r2 : W) (s : State) :
    (cplWrite q cmd tag st u r r0 r1 r2 s).ue = s.ue := by
  obtain ⟨_, _, e⟩ := cplWrite_eq q cmd tag st u r r0 r1 r2 s; rw [e]
@[simp] theorem kCpl_ue (k : KCmd) (st : Nat) (r0 r1 r2 : W) (s : State) : (kCpl k st r0 r1 r2 s).ue = s.ue := by
  obtain ⟨_, _, e⟩ := kCpl_eq k st r0 r1 r2 s; rw [e]
@[simp] theorem kDrop_ue (k : KCmd) (s : State) : (kDrop k s).ue = s.ue := rfl
@[simp] theorem kMod_ue (k : KCmd) (f : KCmd → KCmd) (s : State) : (kMod k f s).ue = s.ue := rfl
@[simp] theorem cplWrite_eng (q cmd : Nat) (tag : BitVec 16) (st u r : Nat) (r0 r1 r2 : W) (s : State) :
    (cplWrite q cmd tag st u r r0 r1 r2 s).eng = s.eng := by
  obtain ⟨_, _, e⟩ := cplWrite_eq q cmd tag st u r r0 r1 r2 s; rw [e]
@[simp] theorem kCpl_eng (k : KCmd) (st : Nat) (r0 r1 r2 : W) (s : State) : (kCpl k st r0 r1 r2 s).eng = s.eng := by
  obtain ⟨_, _, e⟩ := kCpl_eq k st r0 r1 r2 s; rw [e]
@[simp] theorem kDrop_eng (k : KCmd) (s : State) : (kDrop k s).eng = s.eng := rfl
@[simp] theorem kMod_eng (k : KCmd) (f : KCmd → KCmd) (s : State) : (kMod k f s).eng = s.eng := rfl
@[simp] theorem cplWrite_shared (q cmd : Nat) (tag : BitVec 16) (st u r : Nat) (r0 r1 r2 : W) (s : State) :
    (cplWrite q cmd tag st u r r0 r1 r2 s).shared = s.shared := by
  obtain ⟨_, _, e⟩ := cplWrite_eq q cmd tag st u r r0 r1 r2 s; rw [e]
@[simp] theorem kCpl_shared (k : KCmd) (st : Nat) (r0 r1 r2 : W) (s : State) : (kCpl k st r0 r1 r2 s).shared = s.shared := by
  obtain ⟨_, _, e⟩ := kCpl_eq k st r0 r1 r2 s; rw [e]
@[simp] theorem kDrop_shared (k : KCmd) (s : State) : (kDrop k s).shared = s.shared := rfl
@[simp] theorem kMod_shared (k : KCmd) (f : KCmd → KCmd) (s : State) : (kMod k f s).shared = s.shared := rfl
@[simp] theorem cplWrite_chan (q cmd : Nat) (tag : BitVec 16) (st u r : Nat) (r0 r1 r2 : W) (s : State) :
    (cplWrite q cmd tag st u r r0 r1 r2 s).chan = s.chan := by
  obtain ⟨_, _, e⟩ := cplWrite_eq q cmd tag st u r r0 r1 r2 s; rw [e]
@[simp] theorem kCpl_chan (k : KCmd) (st : Nat) (r0 r1 r2 : W) (s : State) : (kCpl k st r0 r1 r2 s).chan = s.chan := by
  obtain ⟨_, _, e⟩ := kCpl_eq k st r0 r1 r2 s; rw [e]
@[simp] theorem kDrop_chan (k : KCmd) (s : State) : (kDrop k s).chan = s.chan := rfl
@[simp] theorem kMod_chan (k : KCmd) (f : KCmd → KCmd) (s : State) : (kMod k f s).chan = s.chan := rfl
@[simp] theorem cplWrite_shaft (q cmd : Nat) (tag : BitVec 16) (st u r : Nat) (r0 r1 r2 : W) (s : State) :
    (cplWrite q cmd tag st u r r0 r1 r2 s).shaft = s.shaft := by
  obtain ⟨_, _, e⟩ := cplWrite_eq q cmd tag st u r r0 r1 r2 s; rw [e]
@[simp] theorem kCpl_shaft (k : KCmd) (st : Nat) (r0 r1 r2 : W) (s : State) : (kCpl k st r0 r1 r2 s).shaft = s.shaft := by
  obtain ⟨_, _, e⟩ := kCpl_eq k st r0 r1 r2 s; rw [e]
@[simp] theorem kDrop_shaft (k : KCmd) (s : State) : (kDrop k s).shaft = s.shaft := rfl
@[simp] theorem kMod_shaft (k : KCmd) (f : KCmd → KCmd) (s : State) : (kMod k f s).shaft = s.shaft := rfl
@[simp] theorem cplWrite_pg (q cmd : Nat) (tag : BitVec 16) (st u r : Nat) (r0 r1 r2 : W) (s : State) :
    (cplWrite q cmd tag st u r r0 r1 r2 s).pg = s.pg := by
  obtain ⟨_, _, e⟩ := cplWrite_eq q cmd tag st u r r0 r1 r2 s; rw [e]
@[simp] theorem kCpl_pg (k : KCmd) (st : Nat) (r0 r1 r2 : W) (s : State) : (kCpl k st r0 r1 r2 s).pg = s.pg := by
  obtain ⟨_, _, e⟩ := kCpl_eq k st r0 r1 r2 s; rw [e]
@[simp] theorem kDrop_pg (k : KCmd) (s : State) : (kDrop k s).pg = s.pg := rfl
@[simp] theorem kMod_pg (k : KCmd) (f : KCmd → KCmd) (s : State) : (kMod k f s).pg = s.pg := rfl
@[simp] theorem cplWrite_adm (q cmd : Nat) (tag : BitVec 16) (st u r : Nat) (r0 r1 r2 : W) (s : State) :
    (cplWrite q cmd tag st u r r0 r1 r2 s).adm = s.adm := by
  obtain ⟨_, _, e⟩ := cplWrite_eq q cmd tag st u r r0 r1 r2 s; rw [e]
@[simp] theorem kCpl_adm (k : KCmd) (st : Nat) (r0 r1 r2 : W) (s : State) : (kCpl k st r0 r1 r2 s).adm = s.adm := by
  obtain ⟨_, _, e⟩ := kCpl_eq k st r0 r1 r2 s; rw [e]
@[simp] theorem kDrop_adm (k : KCmd) (s : State) : (kDrop k s).adm = s.adm := rfl
@[simp] theorem kMod_adm (k : KCmd) (f : KCmd → KCmd) (s : State) : (kMod k f s).adm = s.adm := rfl
@[simp] theorem cplWrite_snapSeq (q cmd : Nat) (tag : BitVec 16) (st u r : Nat) (r0 r1 r2 : W) (s : State) :
    (cplWrite q cmd tag st u r r0 r1 r2 s).snapSeq = s.snapSeq := by
  obtain ⟨_, _, e⟩ := cplWrite_eq q cmd tag st u r r0 r1 r2 s; rw [e]
@[simp] theorem kCpl_snapSeq (k : KCmd) (st : Nat) (r0 r1 r2 : W) (s : State) : (kCpl k st r0 r1 r2 s).snapSeq = s.snapSeq := by
  obtain ⟨_, _, e⟩ := kCpl_eq k st r0 r1 r2 s; rw [e]
@[simp] theorem kDrop_snapSeq (k : KCmd) (s : State) : (kDrop k s).snapSeq = s.snapSeq := rfl
@[simp] theorem kMod_snapSeq (k : KCmd) (f : KCmd → KCmd) (s : State) : (kMod k f s).snapSeq = s.snapSeq := rfl
@[simp] theorem cplWrite_link (q cmd : Nat) (tag : BitVec 16) (st u r : Nat) (r0 r1 r2 : W) (s : State) :
    (cplWrite q cmd tag st u r r0 r1 r2 s).link = s.link := by
  obtain ⟨_, _, e⟩ := cplWrite_eq q cmd tag st u r r0 r1 r2 s; rw [e]
@[simp] theorem kCpl_link (k : KCmd) (st : Nat) (r0 r1 r2 : W) (s : State) : (kCpl k st r0 r1 r2 s).link = s.link := by
  obtain ⟨_, _, e⟩ := kCpl_eq k st r0 r1 r2 s; rw [e]
@[simp] theorem kDrop_link (k : KCmd) (s : State) : (kDrop k s).link = s.link := rfl
@[simp] theorem kMod_link (k : KCmd) (f : KCmd → KCmd) (s : State) : (kMod k f s).link = s.link := rfl
@[simp] theorem cplWrite_bbr (q cmd : Nat) (tag : BitVec 16) (st u r : Nat) (r0 r1 r2 : W) (s : State) :
    (cplWrite q cmd tag st u r r0 r1 r2 s).bbr = s.bbr := by
  obtain ⟨_, _, e⟩ := cplWrite_eq q cmd tag st u r r0 r1 r2 s; rw [e]
@[simp] theorem kCpl_bbr (k : KCmd) (st : Nat) (r0 r1 r2 : W) (s : State) : (kCpl k st r0 r1 r2 s).bbr = s.bbr := by
  obtain ⟨_, _, e⟩ := kCpl_eq k st r0 r1 r2 s; rw [e]
@[simp] theorem kDrop_bbr (k : KCmd) (s : State) : (kDrop k s).bbr = s.bbr := rfl
@[simp] theorem kMod_bbr (k : KCmd) (f : KCmd → KCmd) (s : State) : (kMod k f s).bbr = s.bbr := rfl
@[simp] theorem cplWrite_clg (q cmd : Nat) (tag : BitVec 16) (st u r : Nat) (r0 r1 r2 : W) (s : State) :
    (cplWrite q cmd tag st u r r0 r1 r2 s).clg = s.clg := by
  obtain ⟨_, _, e⟩ := cplWrite_eq q cmd tag st u r r0 r1 r2 s; rw [e]
@[simp] theorem kCpl_clg (k : KCmd) (st : Nat) (r0 r1 r2 : W) (s : State) : (kCpl k st r0 r1 r2 s).clg = s.clg := by
  obtain ⟨_, _, e⟩ := kCpl_eq k st r0 r1 r2 s; rw [e]
@[simp] theorem kDrop_clg (k : KCmd) (s : State) : (kDrop k s).clg = s.clg := rfl
@[simp] theorem kMod_clg (k : KCmd) (f : KCmd → KCmd) (s : State) : (kMod k f s).clg = s.clg := rfl
@[simp] theorem cplWrite_tmu (q cmd : Nat) (tag : BitVec 16) (st u r : Nat) (r0 r1 r2 : W) (s : State) :
    (cplWrite q cmd tag st u r r0 r1 r2 s).tmu = s.tmu := by
  obtain ⟨_, _, e⟩ := cplWrite_eq q cmd tag st u r r0 r1 r2 s; rw [e]
@[simp] theorem kCpl_tmu (k : KCmd) (st : Nat) (r0 r1 r2 : W) (s : State) : (kCpl k st r0 r1 r2 s).tmu = s.tmu := by
  obtain ⟨_, _, e⟩ := kCpl_eq k st r0 r1 r2 s; rw [e]
@[simp] theorem kDrop_tmu (k : KCmd) (s : State) : (kDrop k s).tmu = s.tmu := rfl
@[simp] theorem kMod_tmu (k : KCmd) (f : KCmd → KCmd) (s : State) : (kMod k f s).tmu = s.tmu := rfl
@[simp] theorem cplWrite_tpc (q cmd : Nat) (tag : BitVec 16) (st u r : Nat) (r0 r1 r2 : W) (s : State) :
    (cplWrite q cmd tag st u r r0 r1 r2 s).tpc = s.tpc := by
  obtain ⟨_, _, e⟩ := cplWrite_eq q cmd tag st u r r0 r1 r2 s; rw [e]
@[simp] theorem kCpl_tpc (k : KCmd) (st : Nat) (r0 r1 r2 : W) (s : State) : (kCpl k st r0 r1 r2 s).tpc = s.tpc := by
  obtain ⟨_, _, e⟩ := kCpl_eq k st r0 r1 r2 s; rw [e]
@[simp] theorem kDrop_tpc (k : KCmd) (s : State) : (kDrop k s).tpc = s.tpc := rfl
@[simp] theorem kMod_tpc (k : KCmd) (f : KCmd → KCmd) (s : State) : (kMod k f s).tpc = s.tpc := rfl
@[simp] theorem cplWrite_twp (q cmd : Nat) (tag : BitVec 16) (st u r : Nat) (r0 r1 r2 : W) (s : State) :
    (cplWrite q cmd tag st u r r0 r1 r2 s).twp = s.twp := by
  obtain ⟨_, _, e⟩ := cplWrite_eq q cmd tag st u r r0 r1 r2 s; rw [e]
@[simp] theorem kCpl_twp (k : KCmd) (st : Nat) (r0 r1 r2 : W) (s : State) : (kCpl k st r0 r1 r2 s).twp = s.twp := by
  obtain ⟨_, _, e⟩ := kCpl_eq k st r0 r1 r2 s; rw [e]
@[simp] theorem kDrop_twp (k : KCmd) (s : State) : (kDrop k s).twp = s.twp := rfl
@[simp] theorem kMod_twp (k : KCmd) (f : KCmd → KCmd) (s : State) : (kMod k f s).twp = s.twp := rfl
@[simp] theorem cplWrite_jnb (q cmd : Nat) (tag : BitVec 16) (st u r : Nat) (r0 r1 r2 : W) (s : State) :
    (cplWrite q cmd tag st u r r0 r1 r2 s).jnb = s.jnb := by
  obtain ⟨_, _, e⟩ := cplWrite_eq q cmd tag st u r r0 r1 r2 s; rw [e]
@[simp] theorem kCpl_jnb (k : KCmd) (st : Nat) (r0 r1 r2 : W) (s : State) : (kCpl k st r0 r1 r2 s).jnb = s.jnb := by
  obtain ⟨_, _, e⟩ := kCpl_eq k st r0 r1 r2 s; rw [e]
@[simp] theorem kDrop_jnb (k : KCmd) (s : State) : (kDrop k s).jnb = s.jnb := rfl
@[simp] theorem kMod_jnb (k : KCmd) (f : KCmd → KCmd) (s : State) : (kMod k f s).jnb = s.jnb := rfl
@[simp] theorem cplWrite_nvs (q cmd : Nat) (tag : BitVec 16) (st u r : Nat) (r0 r1 r2 : W) (s : State) :
    (cplWrite q cmd tag st u r r0 r1 r2 s).nvs = s.nvs := by
  obtain ⟨_, _, e⟩ := cplWrite_eq q cmd tag st u r r0 r1 r2 s; rw [e]
@[simp] theorem kCpl_nvs (k : KCmd) (st : Nat) (r0 r1 r2 : W) (s : State) : (kCpl k st r0 r1 r2 s).nvs = s.nvs := by
  obtain ⟨_, _, e⟩ := kCpl_eq k st r0 r1 r2 s; rw [e]
@[simp] theorem kDrop_nvs (k : KCmd) (s : State) : (kDrop k s).nvs = s.nvs := rfl
@[simp] theorem kMod_nvs (k : KCmd) (f : KCmd → KCmd) (s : State) : (kMod k f s).nvs = s.nvs := rfl
@[simp] theorem cplWrite_upe (q cmd : Nat) (tag : BitVec 16) (st u r : Nat) (r0 r1 r2 : W) (s : State) :
    (cplWrite q cmd tag st u r r0 r1 r2 s).upe = s.upe := by
  obtain ⟨_, _, e⟩ := cplWrite_eq q cmd tag st u r r0 r1 r2 s; rw [e]
@[simp] theorem kCpl_upe (k : KCmd) (st : Nat) (r0 r1 r2 : W) (s : State) : (kCpl k st r0 r1 r2 s).upe = s.upe := by
  obtain ⟨_, _, e⟩ := kCpl_eq k st r0 r1 r2 s; rw [e]
@[simp] theorem kDrop_upe (k : KCmd) (s : State) : (kDrop k s).upe = s.upe := rfl
@[simp] theorem kMod_upe (k : KCmd) (f : KCmd → KCmd) (s : State) : (kMod k f s).upe = s.upe := rfl
@[simp] theorem cplWrite_boot (q cmd : Nat) (tag : BitVec 16) (st u r : Nat) (r0 r1 r2 : W) (s : State) :
    (cplWrite q cmd tag st u r r0 r1 r2 s).boot = s.boot := by
  obtain ⟨_, _, e⟩ := cplWrite_eq q cmd tag st u r r0 r1 r2 s; rw [e]
@[simp] theorem kCpl_boot (k : KCmd) (st : Nat) (r0 r1 r2 : W) (s : State) : (kCpl k st r0 r1 r2 s).boot = s.boot := by
  obtain ⟨_, _, e⟩ := kCpl_eq k st r0 r1 r2 s; rw [e]
@[simp] theorem kDrop_boot (k : KCmd) (s : State) : (kDrop k s).boot = s.boot := rfl
@[simp] theorem kMod_boot (k : KCmd) (f : KCmd → KCmd) (s : State) : (kMod k f s).boot = s.boot := rfl
@[simp] theorem cplWrite_trl (q cmd : Nat) (tag : BitVec 16) (st u r : Nat) (r0 r1 r2 : W) (s : State) :
    (cplWrite q cmd tag st u r r0 r1 r2 s).trl = s.trl := by
  obtain ⟨_, _, e⟩ := cplWrite_eq q cmd tag st u r r0 r1 r2 s; rw [e]
@[simp] theorem kCpl_trl (k : KCmd) (st : Nat) (r0 r1 r2 : W) (s : State) : (kCpl k st r0 r1 r2 s).trl = s.trl := by
  obtain ⟨_, _, e⟩ := kCpl_eq k st r0 r1 r2 s; rw [e]
@[simp] theorem kDrop_trl (k : KCmd) (s : State) : (kDrop k s).trl = s.trl := rfl
@[simp] theorem kMod_trl (k : KCmd) (f : KCmd → KCmd) (s : State) : (kMod k f s).trl = s.trl := rfl
@[simp] theorem cplWrite_prl (q cmd : Nat) (tag : BitVec 16) (st u r : Nat) (r0 r1 r2 : W) (s : State) :
    (cplWrite q cmd tag st u r r0 r1 r2 s).prl = s.prl := by
  obtain ⟨_, _, e⟩ := cplWrite_eq q cmd tag st u r r0 r1 r2 s; rw [e]
@[simp] theorem kCpl_prl (k : KCmd) (st : Nat) (r0 r1 r2 : W) (s : State) : (kCpl k st r0 r1 r2 s).prl = s.prl := by
  obtain ⟨_, _, e⟩ := kCpl_eq k st r0 r1 r2 s; rw [e]
@[simp] theorem kDrop_prl (k : KCmd) (s : State) : (kDrop k s).prl = s.prl := rfl
@[simp] theorem kMod_prl (k : KCmd) (f : KCmd → KCmd) (s : State) : (kMod k f s).prl = s.prl := rfl
@[simp] theorem cplWrite_fcr (q cmd : Nat) (tag : BitVec 16) (st u r : Nat) (r0 r1 r2 : W) (s : State) :
    (cplWrite q cmd tag st u r r0 r1 r2 s).fcr = s.fcr := by
  obtain ⟨_, _, e⟩ := cplWrite_eq q cmd tag st u r r0 r1 r2 s; rw [e]
@[simp] theorem kCpl_fcr (k : KCmd) (st : Nat) (r0 r1 r2 : W) (s : State) : (kCpl k st r0 r1 r2 s).fcr = s.fcr := by
  obtain ⟨_, _, e⟩ := kCpl_eq k st r0 r1 r2 s; rw [e]
@[simp] theorem kDrop_fcr (k : KCmd) (s : State) : (kDrop k s).fcr = s.fcr := rfl
@[simp] theorem kMod_fcr (k : KCmd) (f : KCmd → KCmd) (s : State) : (kMod k f s).fcr = s.fcr := rfl

end Sys2Proof.Machine
end

