-- ==== Sys2Proof/Laws/Memory.lean ====
section
/-!
SUPPORT. Memories: a read after a write, and the canonical form that every write keeps.
-/
namespace Sys2Proof.Machine

/-! The canonical form. -/

/-- A lower bound can be weakened. -/
theorem Memory.above_mono {m : List Host.Cell} {lo lo' : Nat} (hl : lo' ≤ lo) (h : Memory.above lo m = true) :
    Memory.above lo' m = true := by
  cases m with
  | nil => rfl
  | cons c r =>
    simp only [Memory.above, Bool.and_eq_true, decide_eq_true_eq] at h ⊢
    exact ⟨⟨Nat.le_trans hl h.1.1, h.1.2⟩, h.2⟩

/-- Below its first address a memory reads 0. -/
theorem Memory.read_above {m : List Host.Cell} {lo a : Nat} (h : Memory.above lo m = true) (ha : a < lo) : Memory.read m a = 0 := by
  cases m with
  | nil => rfl
  | cons c r =>
    simp only [Memory.above, Bool.and_eq_true, decide_eq_true_eq] at h
    have : a < c.1 := Nat.lt_of_lt_of_le ha h.1.1
    simp only [Memory.read]
    rw [if_neg (Nat.ne_of_lt this), if_pos this]

/-- A write keeps the canonical form. -/
theorem Memory.above_write {m : List Host.Cell} {lo a : Nat} (b : Byte) (h : Memory.above lo m = true) (ha : lo ≤ a) :
    Memory.above lo (Memory.write m a b) = true := by
  induction m generalizing lo with
  | nil =>
    simp only [Memory.write]
    split <;> simp_all [Memory.above]
  | cons c r ih =>
    obtain ⟨k, v⟩ := c
    have h0 := h
    simp only [Memory.above, Bool.and_eq_true, decide_eq_true_eq] at h
    simp only [Memory.write]
    split
    · split
      · exact h0
      · simp only [Memory.above, Bool.and_eq_true, decide_eq_true_eq]
        refine ⟨⟨ha, by simpa using ‹¬ b = 0›⟩, ⟨by omega, h.1.2⟩, h.2⟩
    · split
      · split
        · exact Memory.above_mono (by omega) h.2
        · simp only [Memory.above, Bool.and_eq_true, decide_eq_true_eq]
          refine ⟨⟨ha, by simpa using ‹¬ b = 0›⟩, ?_⟩
          have : a = k := by assumption
          subst this
          exact h.2
      · simp only [Memory.above, Bool.and_eq_true, decide_eq_true_eq]
        exact ⟨h.1, ih h.2 (by omega)⟩

/-- A write keeps the canonical form. -/
@[simp] theorem Memory.wf_write {m : List Host.Cell} (a : Nat) (b : Byte) (h : Memory.wf m = true) :
    Memory.wf (Memory.write m a b) = true := Memory.above_write b h (Nat.zero_le a)

/-- Writes of bytes keep the canonical form. -/
@[simp] theorem Memory.wf_writeN {m : List Host.Cell} (a : Nat) (bs : List Byte) (h : Memory.wf m = true) :
    Memory.wf (Memory.writeN m a bs) = true := by
  induction bs generalizing m a with
  | nil => exact h
  | cons b r ih => exact ih (a + 1) (Memory.wf_write a b h)

/-- Writes of a word keep the canonical form. -/
@[simp] theorem Memory.wf_writeW {m : List Host.Cell} (a : Nat) (w : W) (h : Memory.wf m = true) :
    Memory.wf (Memory.writeW m a w) = true := Memory.wf_writeN a _ h

/-- Writes of words keep the canonical form. -/
@[simp] theorem Memory.wf_writeWs {m : List Host.Cell} (a : Nat) (ws : List W) (h : Memory.wf m = true) :
    Memory.wf (Memory.writeWs m a ws) = true := by
  induction ws generalizing m a with
  | nil => exact h
  | cons w r ih => exact ih (a + 4) (Memory.wf_writeW a w h)

/-! A read after a write. -/

/-- A byte that was written, and every other byte, where the form holds from some address on. -/
theorem Memory.read_write_above {m : List Host.Cell} {lo a : Nat} (x : Nat) (b : Byte) (h : Memory.above lo m = true) :
    Memory.read (Memory.write m a b) x = if x = a then b else Memory.read m x := by
  induction m generalizing lo with
  | nil =>
    simp only [Memory.write]
    split
    · subst_vars; simp [Memory.read]
    · simp only [Memory.read]
      split
      · rfl
      · split <;> rfl
  | cons c r ih =>
    obtain ⟨k, v⟩ := c
    have h0 := h
    simp only [Memory.above, Bool.and_eq_true, decide_eq_true_eq] at h
    simp only [Memory.write]
    split
    · rename_i hak
      split
      · by_cases hx : x = a
        · subst hx; simp only [if_pos, Memory.read]; rw [if_neg (by omega), if_pos hak]; exact (‹b = 0›).symm
        · rw [if_neg hx]
      · by_cases hx : x = a
        · subst hx; simp [Memory.read]
        · rw [if_neg hx]
          simp only [Memory.read]
          rw [if_neg hx]
          split
          · rw [if_neg (by omega), if_pos (by omega)]
          · rfl
    · split
      · have hk : a = k := by assumption
        subst hk
        split
        · by_cases hx : x = a
          · subst hx
            rw [if_pos rfl, Memory.read_above h.2 (by omega)]
            exact (‹b = 0›).symm
          · rw [if_neg hx]
            simp only [Memory.read]
            rw [if_neg hx]
            split
            · rw [Memory.read_above h.2 (by omega)]
            · rfl
        · by_cases hx : x = a
          · subst hx; simp [Memory.read]
          · simp only [Memory.read, hx, if_false]
      · simp only [Memory.read]
        by_cases hx : x = k
        · subst hx
          rw [if_pos rfl, if_pos rfl, if_neg (by omega)]
        · rw [if_neg hx, if_neg hx]
          split
          · rw [if_neg (by omega)]
          · exact ih h.2

/-- A byte after one write. -/
theorem Memory.read_write {m : List Host.Cell} (a x : Nat) (b : Byte) (h : Memory.wf m = true) :
    Memory.read (Memory.write m a b) x = if x = a then b else Memory.read m x := Memory.read_write_above x b h

/-- The byte just written. -/
@[simp] theorem Memory.read_write_self {m : List Host.Cell} (a : Nat) (b : Byte) (h : Memory.wf m = true) :
    Memory.read (Memory.write m a b) a = b := by simp [Memory.read_write a a b h]

/-- A byte outside those written. -/
theorem Memory.read_writeN_ne {m : List Host.Cell} (a x : Nat) (bs : List Byte) (h : Memory.wf m = true)
    (hx : x < a ∨ a + bs.length ≤ x) : Memory.read (Memory.writeN m a bs) x = Memory.read m x := by
  induction bs generalizing m a with
  | nil => rfl
  | cons b r ih =>
    simp only [List.length_cons] at hx
    rw [Memory.writeN, ih (a + 1) (Memory.wf_write a b h) (by omega), Memory.read_write a x b h, if_neg (by omega)]

/-- A byte among those written. -/
theorem Memory.read_writeN {m : List Host.Cell} (a i : Nat) (bs : List Byte) (h : Memory.wf m = true) (hi : i < bs.length) :
    Memory.read (Memory.writeN m a bs) (a + i) = bs[i] := by
  induction bs generalizing m a i with
  | nil => simp at hi
  | cons b r ih =>
    rw [Memory.writeN]
    cases i with
    | zero =>
      rw [Memory.read_writeN_ne (a + 1) (a + 0) r (Memory.wf_write a b h) (by omega)]
      simp [h]
    | succ i =>
      have : a + (i + 1) = (a + 1) + i := by omega
      rw [this, ih (a + 1) i (Memory.wf_write a b h) (by simpa using hi)]
      rfl

/-- The bytes of a word put together again. -/
theorem wordOf_bytesOf (w : W) :
    wordOf (w.extractLsb' 0 8) (w.extractLsb' 8 8) (w.extractLsb' 16 8) (w.extractLsb' 24 8) = w := by
  unfold wordOf
  apply BitVec.eq_of_getLsbD_eq
  intro i hi
  simp only [BitVec.getLsbD_append, BitVec.getLsbD_extractLsb', Nat.zero_add]
  split
  · simp [*]
  · split
    · simp only [show i - 8 < 8 by omega, decide_true, Bool.true_and]; congr 1; omega
    · split
      · simp only [show i - 8 - 8 < 8 by omega, decide_true, Bool.true_and]; congr 1; omega
      · simp only [show i - 8 - 8 - 8 < 8 by omega, decide_true, Bool.true_and]; congr 1; omega

/-- The word just written. -/
@[simp] theorem Memory.readW_writeW {m : List Host.Cell} (a : Nat) (w : W) (h : Memory.wf m = true) :
    Memory.readW (Memory.writeW m a w) a = w := by
  have hb : (bytesOf w).length = 4 := rfl
  have r := fun i (hi : i < 4) => Memory.read_writeN a i (bytesOf w) h (by omega)
  unfold Memory.readW Memory.writeW
  have r0 := r 0 (by omega)
  rw [Nat.add_zero] at r0
  rw [r0, r 1 (by omega), r 2 (by omega), r 3 (by omega)]
  exact wordOf_bytesOf w

/-- A byte outside the word written. -/
theorem Memory.read_writeW_ne {m : List Host.Cell} (a x : Nat) (w : W) (h : Memory.wf m = true) (hx : x < a ∨ a + 4 ≤ x) :
    Memory.read (Memory.writeW m a w) x = Memory.read m x := Memory.read_writeN_ne a x (bytesOf w) h hx

/-- A word that does not meet the one written. -/
theorem Memory.readW_writeW_ne {m : List Host.Cell} (a x : Nat) (w : W) (h : Memory.wf m = true) (hx : x + 4 ≤ a ∨ a + 4 ≤ x) :
    Memory.readW (Memory.writeW m a w) x = Memory.readW m x := by
  unfold Memory.readW
  rw [Memory.read_writeW_ne a x w h (by omega), Memory.read_writeW_ne a (x + 1) w h (by omega),
    Memory.read_writeW_ne a (x + 2) w h (by omega), Memory.read_writeW_ne a (x + 3) w h (by omega)]

/-- A byte outside the words written. -/
theorem Memory.read_writeWs_ne {m : List Host.Cell} (a x : Nat) (ws : List W) (h : Memory.wf m = true)
    (hx : x < a ∨ a + 4 * ws.length ≤ x) : Memory.read (Memory.writeWs m a ws) x = Memory.read m x := by
  induction ws generalizing m a with
  | nil => rfl
  | cons w r ih =>
    simp only [List.length_cons] at hx
    rw [Memory.writeWs, ih (a + 4) (Memory.wf_writeW a w h) (by omega), Memory.read_writeW_ne a x w h (by omega)]

/-- A word that does not meet the words written. -/
theorem Memory.readW_writeWs_ne {m : List Host.Cell} (a x : Nat) (ws : List W) (h : Memory.wf m = true)
    (hx : x + 4 ≤ a ∨ a + 4 * ws.length ≤ x) : Memory.readW (Memory.writeWs m a ws) x = Memory.readW m x := by
  unfold Memory.readW
  rw [Memory.read_writeWs_ne a x ws h (by omega), Memory.read_writeWs_ne a (x + 1) ws h (by omega),
    Memory.read_writeWs_ne a (x + 2) ws h (by omega), Memory.read_writeWs_ne a (x + 3) ws h (by omega)]

/-- A word among those written. -/
theorem Memory.readW_writeWs {m : List Host.Cell} (a i : Nat) (ws : List W) (h : Memory.wf m = true) (hi : i < ws.length) :
    Memory.readW (Memory.writeWs m a ws) (a + 4 * i) = ws[i] := by
  induction ws generalizing m a i with
  | nil => simp at hi
  | cons w r ih =>
    rw [Memory.writeWs]
    cases i with
    | zero =>
      show Memory.readW (Memory.writeWs (Memory.writeW m a w) (a + 4) r) a = w
      rw [Memory.readW_writeWs_ne (a + 4) a r (Memory.wf_writeW a w h) (by omega), Memory.readW_writeW a w h]
    | succ i =>
      have : a + 4 * (i + 1) = (a + 4) + 4 * i := by omega
      rw [this, ih (a + 4) i (Memory.wf_writeW a w h) (by simpa using hi)]
      rfl

/-- The words written read back. -/
theorem Memory.readWs_writeWs {m : List Host.Cell} (a : Nat) (ws : List W) (h : Memory.wf m = true) :
    Memory.readWs (Memory.writeWs m a ws) a ws.length = ws := by
  induction ws generalizing m a with
  | nil => rfl
  | cons w r ih =>
    rw [List.length_cons, Memory.readWs, Memory.writeWs, ih (a + 4) (Memory.wf_writeW a w h),
      Memory.readW_writeWs_ne (a + 4) a r (Memory.wf_writeW a w h) (by omega), Memory.readW_writeW a w h]

/-- Reset's memories have the canonical form. -/
theorem State.reset_wf : Memory.wf State.reset.shared = true ∧ Memory.wf State.reset.host = true ∧
    Memory.wf State.reset.nvs.win = true ∧ Memory.wf State.reset.nvs.cells = true ∧ Memory.wf State.reset.upe.flash = true ∧
    Memory.wf State.reset.bbr.mem = true := ⟨rfl, rfl, rfl, rfl, rfl, rfl⟩

end Sys2Proof.Machine
end

