-- ==== Sys2Proof/Tests/Slice0.lean ====
section
/-!
SUPPORT. The model's own tests: words of the spec's encodings, the checks of WellFormed, and for every obligation states and
operands that meet its hypotheses, clause by clause, with what the command then does there. Expected values come from the spec's
rules.
-/
namespace Sys2Proof.Tests
open Sys2Proof Sys2Proof.Machine Sys2Proof.Claims
set_option Elab.async false

/-- The state that a command answers. -/
def go (i : Instr) (s : State) : State :=
  match exec i s with
  | .next t => t
  | .fault _ => s
  | .refused _ => s

/-- The command leaves the parts of the state that the tests look at as they were. -/
def still (i : Instr) (s : State) : Bool :=
  let t := go i s
  decide (t.fresh = s.fresh) && decide (t.clk = s.clk) && decide (t.shaft = s.shaft) && decide (t.fcr.cnt = s.fcr.cnt) &&
  decide (t.adm.place = s.adm.place) && decide (t.adm.move = s.adm.move) &&
  [0, 4].all (fun n => decide (t.ch n = s.ch n)) && decide (t.lk 0 = s.lk 0) &&
  [0, 384, 448].all fun c => decide ((t.cx c).seq = (s.cx c).seq) && decide ((t.cx c).rel.isSome = (s.cx c).rel.isSome) &&
    decide ((t.cx c).wait = (s.cx c).wait)

/-- The command has raised an occurrence of a source: its counter shows it. -/
def rz (t : State) (src : Nat) (_cls : EvClass) (_code : Nat) : Bool := (assocGet t.fcr.cnt src).isSome

/-- The same, whatever the code. -/
def rs (t : State) (src : Nat) (_cls : EvClass) : Bool := (assocGet t.fcr.cnt src).isSome

/-- The device in RUN, with the clock running at tick 3,000. -/
def s0 : State := { State.reset with
  clk := { State.reset.clk with chip := .run, ts := 150000, tc := 3000, rootLock := true, tickRun := true }
  nvs := { State.reset.nvs with ready := true }
  kio := { State.reset.kio with fwReady := true, isOpen := true, perst := false } }

/-- The state at tick n. -/
def tm (n : Nat) (s : State) : State :=
  { s with clk := { s.clk with ts := BitVec.ofNat 64 (50 * n), tc := BitVec.ofNat 48 n } }

/-- A task of a profile, with two grants of channels. -/
def tk (p : Profile) : Task where
  num := 5
  profile := p
  lib := none
  pin := false
  deadline := 2
  period := 1
  codeRef := 0
  code := List.replicate 20 0x01000000
  paramLen := 64
  localLen := 64
  localInit := []
  paramInit := []
  banks := []
  shBase := 0x8000
  shLen := 16
  t0Log2 := 4
  t1Log2 := 0
  t0Ramp := 8
  t1Ramp := 8
  phaseSrc := 0
  wcetMax := 100
  pinPhase := 0
  pinEngine := 0
  chans := [(true, 0), (false, 4)]
  checks := [⟨1, 0, 3, true, 10⟩, ⟨0, 0, 1, false, 0⟩]
  mirror := []
  ledgers := [2]
  jwr := [0, 1, 2]
  pgens := [1]
  recw := some 4
  recMax := 0
  codeImg := 0
  tblrec := []
  paramAt := 0x100
  bankAt := 0x200
  w := 100

/-- A release at a word of a task of a profile. -/
def rl (p : Profile) : Rel where
  prog := tk p
  tick := 2999
  start := 0
  cyc := 0
  newIter := false
  pc := 10
  calls := []
  loops := []
  rv := Vector.replicate 32 0
  rm := Vector.replicate 4 0
  rmac := Vector.replicate 4 0
  rf := Vector.replicate 5 0
  ports := [7, 8, 9]
  stale := [false, true]
  fresh := []
  arming := []
  bank := false
  staged := []
  recWords := 0
  jrx := [(3, 11, 12, 13, 0)]
  shadow := false

/-- A state in which a release of the profile runs in a context, with register n holding the values given. -/
def run (c : Nat) (p : Profile) (regs : List (Nat × W)) (f : Context → Context := id) : State :=
  s0.modCx c fun x => f { x with
    task := some 5
    rel := some (rl p)
    regs := regs.foldl (fun v y => vput v y.1 y.2) x.regs }

/-- Register n of a context. -/
def rg (s : State) (c n : Nat) : W := vat (s.cx c).regs n 0

/-- An image with these tasks and channels. -/
def im (ts : List Task) (chs : List ChanDecl) : Image where
  id := 77
  build := 88
  crc := 0
  fw := 0
  sis := 0
  fmt := 0
  delta := false
  pair := false
  suReserve := false
  fenceK := 0
  baseId := 0
  tasks := ts
  chans := chs
  links := []
  shaft := []
  recorder := []
  exports := []
  join := []
  remove := []
  words := []

/-- A channel declaration with its hold limit. -/
def cd (n : Nat) : ChanDecl := ⟨n, 0, 10, 0, 2, 5⟩

/-- An image in force, its tasks in the contexts given. -/
def inForce (ts : List (Task × Nat)) (chs : List ChanDecl) (s : State) : State :=
  let pl : List Place := ts.map fun x => ⟨x.1.num, engOfCtx x.2, x.2, 0, false⟩
  let s1 : State := { s with adm := { s.adm with img := some (im (ts.map (·.1)) chs), nominal := pl, place := pl } }
  ts.foldl (fun s x => s.modCx x.2 fun y => { y with task := some (BitVec.ofNat 16 x.1.num) }) s1

/-- The module's HELLO of version 1 to 3 with its timing. -/
def hello : List W := [0x40000000, 0x03010000, 0, 0x00000000, 0, 0, 0, 0, 0, 0, 0, 0, 0, 0, 0, 0, 0, 0]

/-- Link l is UP at version 3 with a module of two channels, its last frame valid. -/
def upLink (l : Nat) (s : State) : State :=
  s.modLk l fun x => { x with
    st := .up, enable := true, lastValid := true, version := 3, txIdle := false, hello := hello.set 5 0x80000000 }

/-- Words of shared task memory set. -/
def shared (l : List (Nat × W)) (s : State) : State := l.foldl (fun s x => shPut x.1 x.2 s) s

/-- The hypotheses of the statements on one instruction, for the words it is spelled by: `At`. -/
def fits (s : State) (c : Ctx) (r : Rel) (i : Instr) : Bool :=
  match encodeInsn i with
  | some (w, e) => (s.cx c.val).rel == some r && insnOk (profOf c) (insnOf w e) && grantsOk r.prog r.pc (insnOf w e)
  | none => false

/-- `fits` is `At`. -/
theorem fits_at (s : State) (c : Ctx) (r : Rel) (i : Instr) (w e : W) (h : encodeInsn i = some (w, e))
    (hf : fits s c r i = true) : At s c w e r := by
  simp [fits, h] at hf
  exact ⟨hf.1.1, hf.1.2, hf.2⟩

/-- `fits` for several instructions. -/
def fitsAll (s : State) (c : Ctx) (r : Rel) (l : List Instr) : Bool := l.all (fits s c r)

/-- An accepted command of an ID on a ring, with tag 9 and these argument words. -/
def kc (cmd : Nat) (ring : Fin 4) (args : List (Nat × W)) : KCmd where
  cmd := cmd
  tag := 9
  ring := ring
  words := args.foldl (fun l x => l.set x.1 x.2) ((fld cmd 16 ||| 9) :: List.replicate 15 0)
  ts := 149000
  bound := 100
  handle := 4
  fixed := false
  begun := false
  work := []
  mseq := none
  applied := false
  foreign := false
  mute := false
  retry := 0

/-- Commands are accepted. -/
def acc (ks : List KCmd) (s : State) : State := { s with kio := { s.kio with accepted := ks } }

/-- A command has completed with a status and its first result. -/
def cpl (s u : State) (k : KCmd) (st : Nat) (r0 : W) : Bool :=
  let c := vat s.kio.cq k.ring.val CplRing.init
  let a := c.base.toNat + 32 * c.tail
  (vat u.kio.cq k.ring.val CplRing.init).used == c.used + 1 && Memory.readW u.host a == (fld k.cmd 16 ||| k.tag.setWidth 32) &&
  (Memory.readW u.host (a + 4)).bits 27 0 == st && Memory.readW u.host (a + 12) == r0 &&
  u.kio.accepted.all fun x => !(x.tag == k.tag && x.handle == k.handle)

/-! The words of the spec's encodings (Tables 3.5, 3.7, 3.8, 3.10, 4.11). -/

/-- MAC m1, v4, v9 and SETREF with its time (Table 3.7); CLAMP, INTG and BF of Table 4.11's law. -/
theorem test_words_written :
    encodeInsn (.mac 0 ⟨1, 4, 9, 0, 0⟩) = some (0x20091200, 0) ∧
    encodeInsn (.clamp 0 ⟨15, 14, 20, 0, 0⟩) = some (0x317BA800, 0) ∧
    encodeInsn (.bf 0 ⟨5, 0, 22⟩) = some (0x60500016, 0) := by decide +kernel

/-- One word of each family, field by field from Tables 3.5 and 3.8: `op` in 31:24, `d` in 23:19, `a` in 18:14, `b` in 13:9, SH
in 8:4, MOD in 3:0. -/
theorem test_words_decode :
    decodeInsn 0 0x20091200 0 = some (.mac 0 ⟨1, 4, 9, 0, 0⟩) ∧
    decodeInsn 0 0x10108601 0 = some (.add 0 ⟨2, 2, 3, 0, 1⟩) ∧
    decodeInsn 0 0x03083FFF 0 = some (.ldi 0 ⟨1, 0, 0x3FFF⟩) ∧
    decodeInsn 0 0x04200000 0xDEADBEEF = some (.ldk 0 ⟨4, 0, 0, 0xDEADBEEF⟩) ∧
    decodeInsn 0 0x40180005 0 = some (.ld 0 ⟨3, 0, 5⟩) ∧
    decodeInsn 0 0x60500016 0 = some (.bf 0 ⟨5, 0, 22⟩) ∧
    decodeInsn 0 0x32A308F0 0 = some (.intg 0 ⟨20, 12, 4, 15, 0⟩) ∧
    decodeInsn 448 0x82100008 0 = some (.tmur 448 ⟨2, 0, 8⟩) ∧
    decodeInsn 384 0x70000003 0 = some (.en 384 ⟨0, 0, 3⟩) ∧
    decodeInsn 0 0x00000000 0 = none := by decide +kernel

/-! WellFormed: a term that each check refuses. -/

theorem test_ill_formed :
    (Instr.add 0 ⟨2, 2, 3, 4, 0⟩).wf = false ∧ (Instr.en 0 ⟨0, 0, 3⟩).wf = false ∧ (Instr.mac 0 ⟨4, 4, 9, 0, 0⟩).wf = false ∧
    (Instr.st 0 ⟨3, 6, 0⟩).wf = false ∧ (Instr.kioSqTail 0 1 [[0]]).wf = false ∧ (Instr.registerWrite 0x50 0 1).wf = false ∧
    (Instr.registerWrite 0x800000 4 1).wf = false ∧ (Instr.regw 0 []).wf = false ∧ (Instr.pairCmd 1 [0]).wf = false ∧
    (Instr.handoff 1 1 [] [] []).wf = false ∧ (Instr.moduleHello 0 [1]).wf = false ∧ (Instr.pairHello [] 1).wf = false ∧
    (Instr.thermalBlockRead 0 0 (some [1])).wf = false ∧
    (Instr.terms 0 ⟨1, true, 0⟩ (List.replicate 5 ⟨0, 0, 0⟩)).wf = false ∧ (Instr.defer 0 ⟨1, true, 0⟩ 49).wf = false ∧
    (Instr.decline 0 ⟨1, true, 0⟩ 0).wf = false ∧ (Instr.live 0 none 2).wf = false ∧ (Instr.trlScan [] 0 0).wf = false ∧
    (Instr.enum 1024).wf = false ∧
    (Instr.trainPassage .ja ⟨0, false, false, false, 1, 0, 0, 0, true, [], [], [], []⟩).wf = false := by decide +kernel

theorem test_well_formed :
    (Instr.add 0 ⟨2, 2, 3, 0, 1⟩).wf = true ∧ (Instr.en 384 ⟨0, 0, 3⟩).wf = true ∧ (Instr.enum 1023).wf = true ∧
    (Instr.defer 0 ⟨1, true, 0⟩ 1000).wf = true ∧ Instr.tmuEvaluation.wf = true := by decide +kernel

/-! Engine instructions: (command, registers before, register read, its value after). -/

/-- Each line's instruction fits its state, and leaves the value in the register. -/
def gives (p : Profile) (c : Ctx) (l : List (Instr × List (Nat × W) × Nat × W)) : Bool :=
  l.all fun (i, rs, d, v) => fits (run c.val p rs) c (rl p) i && rg (go i (run c.val p rs)) c.val d == v

theorem test_moves : gives .l 0 [
    (.nop 0 ⟨0, 0, 0, 0, 0⟩, [(1, 5)], 1, 5),
    (.mov 0 ⟨2, 1, 0, 0, 0⟩, [(1, 5)], 2, 5),
    (.ldi 0 ⟨1, 0, 0x3FFF⟩, [], 1, 0xFFFFFFFF),
    (.ldi 0 ⟨1, 0, 0x1FFF⟩, [], 1, 0x1FFF),
    (.ldk 0 ⟨4, 0, 0, 0xDEADBEEF⟩, [], 4, 0xDEADBEEF),
    (.sel 0 ⟨3, 1, 2, 0, 0⟩, [(1, 7), (2, 9)], 3, 7),
    (.sel 0 ⟨3, 1, 2, 0, 1⟩, [(1, 7), (2, 9)], 3, 9)] = true := by decide +kernel

theorem test_fixed : gives .l 0 [
    (.add 0 ⟨3, 1, 2, 0, 0⟩, [(1, 0x7FFFFFFF), (2, 1)], 3, 0x80000000),
    (.add 0 ⟨3, 1, 2, 0, 1⟩, [(1, 0x7FFFFFFF), (2, 1)], 3, 0x7FFFFFFF),
    (.add 0 ⟨1, 1, 1, 0, 0⟩, [(1, 6)], 1, 12),
    (.sub 0 ⟨3, 1, 2, 0, 0⟩, [(1, 0x80000000), (2, 1)], 3, 0x7FFFFFFF),
    (.sub 0 ⟨3, 1, 2, 0, 1⟩, [(1, 0x80000000), (2, 1)], 3, 0x80000000),
    (.addi 0 ⟨3, 1, 0x3FFE⟩, [(1, 1)], 3, 0xFFFFFFFF),
    (.mul 0 ⟨3, 1, 2, 1, 1⟩, [(1, 3), (2, 3)], 3, 5),
    (.mul 0 ⟨3, 1, 2, 1, 0⟩, [(1, 0xFFFFFFFD), (2, 3)], 3, 0xFFFFFFFB),
    (.mul 0 ⟨3, 1, 2, 0, 0⟩, [(1, 0x80000000), (2, 0x80000000)], 3, 0x7FFFFFFF),
    (.neg 0 ⟨3, 1, 0, 0, 0⟩, [(1, 0x80000000)], 3, 0x7FFFFFFF),
    (.neg 0 ⟨3, 1, 0, 0, 1⟩, [(1, 0x3F800000)], 3, 0xBF800000),
    (.abs 0 ⟨3, 1, 0, 0, 0⟩, [(1, 0xFFFFFFFB)], 3, 5),
    (.abs 0 ⟨3, 1, 0, 0, 1⟩, [(1, 0xBF800000)], 3, 0x3F800000),
    (.min 0 ⟨3, 1, 2, 0, 0⟩, [(1, 0xFFFFFFFF), (2, 1)], 3, 0xFFFFFFFF),
    (.max 0 ⟨3, 1, 2, 0, 0⟩, [(1, 0xFFFFFFFF), (2, 1)], 3, 1),
    (.min 0 ⟨3, 1, 2, 0, 1⟩, [(1, 0x3F800000), (2, 0x40000000)], 3, 0x3F800000),
    (.max 0 ⟨3, 1, 2, 0, 1⟩, [(1, 0x3F800000), (2, 0x40000000)], 3, 0x40000000)] = true := by decide +kernel

theorem test_logic : gives .l 0 [
    (.andW 0 ⟨3, 1, 2, 0, 0⟩, [(1, 0xC), (2, 0xA)], 3, 8),
    (.orW 0 ⟨3, 1, 2, 0, 0⟩, [(1, 0xC), (2, 0xA)], 3, 0xE),
    (.xorW 0 ⟨3, 1, 2, 0, 0⟩, [(1, 0xC), (2, 0xA)], 3, 6),
    (.shl 0 ⟨3, 1, 0, 31, 0⟩, [(1, 3)], 3, 0x80000000),
    (.shl 0 ⟨3, 1, 0, 31, 2⟩, [(1, 3)], 3, 0x7FFFFFFF),
    (.shl 0 ⟨3, 1, 2, 0, 1⟩, [(1, 3), (2, 33)], 3, 6),
    (.asr 0 ⟨3, 1, 0, 4, 0⟩, [(1, 0x80000000)], 3, 0xF8000000),
    (.lsr 0 ⟨3, 1, 0, 4, 0⟩, [(1, 0x80000000)], 3, 0x08000000)] = true := by decide +kernel

theorem test_float : gives .l 0 [
    (.fadd 0 ⟨3, 1, 2, 0, 0⟩, [(1, 0x3F800000), (2, 0x3F800000)], 3, 0x40000000),
    (.fsub 0 ⟨3, 1, 2, 0, 0⟩, [(1, 0x40000000), (2, 0x3F800000)], 3, 0x3F800000),
    (.fmul 0 ⟨3, 1, 2, 0, 0⟩, [(1, 0x40000000), (2, 0x40400000)], 3, 0x40C00000),
    (.fma 0 ⟨3, 1, 2, 0, 0⟩, [(1, 0x40000000), (2, 0x40400000), (3, 0x3F800000)], 3, 0x40E00000),
    (.fdiv 0 ⟨3, 1, 2, 0, 0⟩, [(1, 0x40C00000), (2, 0x40000000)], 3, 0x40400000),
    (.fdiv 0 ⟨3, 1, 2, 0, 0⟩, [(1, 0x3F800000), (2, 0)], 3, 0x7F800000),
    (.fsqrt 0 ⟨3, 1, 0, 0, 0⟩, [(1, 0x40800000)], 3, 0x40000000),
    (.cvtf 0 ⟨3, 1, 0, 1, 0⟩, [(1, 3)], 3, 0x3FC00000),
    (.cvti 0 ⟨3, 1, 0, 1, 0⟩, [(1, 0x3FC00000)], 3, 3)] = true := by decide +kernel

theorem test_law : gives .l 0 [
    (.sat 0 ⟨3, 1, 0, 7, 0⟩, [(1, 300)], 3, 127),
    (.sat 0 ⟨3, 1, 0, 7, 0⟩, [(1, 0xFFFFFED4)], 3, 0xFFFFFF80),
    (.clamp 0 ⟨3, 1, 4, 0, 0⟩, [(1, 9), (4, 2), (5, 6)], 3, 6),
    (.clamp 0 ⟨3, 1, 4, 0, 1⟩, [(1, 0x3F800000), (4, 0x40000000), (5, 0x40400000)], 3, 0x40000000),
    (.intg 0 ⟨3, 1, 2, 1, 0⟩, [(1, 3), (2, 4), (3, 10)], 3, 16),
    (.intg 0 ⟨3, 1, 2, 0, 1⟩, [(1, 0x40000000), (2, 0x40000000), (3, 0x3F800000)], 3, 0x40A00000),
    (.diff 0 ⟨3, 1, 2, 0, 0⟩, [(1, 9), (2, 4)], 3, 5),
    (.diff 0 ⟨3, 1, 2, 0, 0⟩, [(1, 9), (2, 4)], 2, 9),
    (.filt1 0 ⟨3, 1, 2, 0, 0⟩, [(1, 9), (2, 0x40000000), (3, 1)], 3, 5),
    (.lim 0 ⟨3, 1, 2, 0, 0⟩, [(1, 100), (2, 7), (3, 10)], 3, 17),
    (.lim 0 ⟨3, 1, 2, 0, 0⟩, [(1, 0), (2, 7), (3, 10)], 3, 3),
    (.lim 0 ⟨3, 1, 2, 0, 0⟩, [(1, 12), (2, 7), (3, 10)], 3, 12),
    (.lim 0 ⟨3, 1, 2, 0, 1⟩, [(1, 0x40400000), (2, 0x3F800000), (3, 0x3F800000)], 3, 0x40000000)] = true := by decide +kernel

/-- R75: INTG while S is 1 leaves its register. -/
theorem test_intg_saturated :
    rg (go (.intg 0 ⟨3, 1, 2, 1, 0⟩) (run 0 .l [(1, 3), (2, 4), (3, 10)] fun x => { x with fS := true })) 0 3 = 10 := by
  decide +kernel

/-- R68, R69: the flags of CMP, ADD and FCMP. -/
theorem test_flags :
    (let x := (go (.cmp 0 ⟨0, 1, 2, 0, 0⟩) (run 0 .l [(1, 0xFFFFFFFF), (2, 1)])).cx 0
     x.fZ = false ∧ x.fN = true ∧ x.fC = true) ∧
    (let x := (go (.cmpi 0 ⟨0, 1, 5⟩) (run 0 .l [(1, 5)])).cx 0
     x.fZ = true ∧ x.fN = false ∧ x.fC = true) ∧
    (let x := (go (.fcmp 0 ⟨0, 1, 2, 0, 0⟩) (run 0 .l [(1, 0x7FC00000)])).cx 0
     x.fZ = false ∧ x.fN = true ∧ x.fC = true) ∧
    (let x := (go (.add 0 ⟨3, 1, 2, 0, 0⟩) (run 0 .l [(1, 0xFFFFFFFF), (2, 1)])).cx 0
     x.fZ = true ∧ x.fN = false ∧ x.fC = true) ∧
    fits (run 0 .l []) 0 (rl .l) (.cmp 0 ⟨0, 1, 2, 0, 0⟩) = true ∧ fits (run 0 .l []) 0 (rl .l) (.cmpi 0 ⟨0, 1, 5⟩) = true ∧
    fits (run 0 .l []) 0 (rl .l) (.fcmp 0 ⟨0, 1, 2, 0, 0⟩) = true := by decide +kernel

/-- R168: in S, CMP and CMPI write -1, 0 or +1. -/
theorem test_compare_s : gives .s 384 [
    (.cmp 384 ⟨3, 1, 2, 0, 0⟩, [(1, 0xFFFFFFFF), (2, 1)], 3, 0xFFFFFFFF),
    (.cmp 384 ⟨3, 1, 2, 0, 0⟩, [(1, 2), (2, 1)], 3, 1),
    (.cmpi 384 ⟨0, 1, 5⟩, [(1, 5)], 0, 0),
    (.add 384 ⟨0, 1, 2, 0, 1⟩, [(1, 0x7FFFFFFF), (2, 1)], 0, 0x7FFFFFFF)] = true := by decide +kernel

/-- R38: nothing is written to v0, and no flag. -/
theorem test_zero_register : fits (run 0 .l [(1, 0xFFFFFFFF), (2, 1)]) 0 (rl .l) (.add 0 ⟨0, 1, 2, 0, 0⟩) = true ∧
    (let x := (go (.add 0 ⟨0, 1, 2, 0, 0⟩) (run 0 .l [(1, 0xFFFFFFFF), (2, 1)])).cx 0
     vat x.regs 0 0 = 0 ∧ x.fZ = false ∧ x.fC = false) ∧
    gives .l 0 [(.mov 0 ⟨2, 0, 0, 0, 0⟩, [(2, 5)], 2, 0), (.sub 0 ⟨0, 1, 2, 0, 1⟩, [(1, 7)], 0, 0), (.mul 0 ⟨0, 1, 2, 0, 0⟩, [], 0, 0),
      (.ldi 0 ⟨0, 0, 5⟩, [], 0, 0), (.addi 0 ⟨0, 1, 5⟩, [], 0, 0), (.ldk 0 ⟨0, 0, 0, 5⟩, [], 0, 0), (.ld 0 ⟨0, 0, 5⟩, [], 0, 0),
      (.ldx 0 ⟨0, 1, 2, 0, 0⟩, [], 0, 0), (.diff 0 ⟨0, 1, 2, 0, 0⟩, [(1, 9)], 2, 9), (.rpt 0 ⟨0, 1, 2, 0, 0⟩, [], 0, 0),
      (.inp 0 ⟨0, 4, 1⟩, [], 0, 0)] = true ∧
    gives .u 448 [(.tmur 448 ⟨0, 0, 8⟩, [], 0, 0), (.jrd 448 ⟨0, 0, 48⟩, [], 0, 0)] = true ∧
    (let s := run 448 .u [(5, 200), (6, 2)]
     fitsAll s 448 (rl .u) [.ledg 448 ⟨0, 0, 512⟩, .ledg 448 ⟨0, 5, 0⟩, .ledg 448 ⟨0, 6, 0⟩, .tmur 448 ⟨0, 5, 8⟩] = true ∧
     [Instr.ledg 448 ⟨0, 0, 512⟩, .ledg 448 ⟨0, 5, 0⟩, .ledg 448 ⟨0, 6, 0⟩, .tmur 448 ⟨0, 5, 8⟩].all
       (fun i => decide (((go i s).cx 448).regs = (s.cx 448).regs)) = true) := by decide +kernel

/-- R71: the accumulators. -/
theorem test_accumulators :
    (let s := run 0 .l [(1, 0x80000000), (2, 0x80000000)] fun x => { x with acc := vput x.acc 1 5 }
     vat ((go (.mac 0 ⟨1, 1, 2, 0, 0⟩) s).cx 0).acc 1 0 = 0x4000000000000005 ∧
     vat ((go (.msu 0 ⟨1, 1, 2, 0, 0⟩) s).cx 0).acc 1 0 = 0xFFC000000000000005 ∧
     vat ((go (.mclr 0 ⟨1, 0, 0, 0, 0⟩) s).cx 0).acc 1 7 = 0 ∧
     vat ((go (.mld 0 ⟨1, 1, 0, 1, 0⟩) s).cx 0).acc 1 7 = 0xFFFFFFFFFF00000000 ∧
     rg (go (.mrd 0 ⟨3, 1, 0, 1, 1⟩) s) 0 3 = 3 ∧
     fitsAll s 0 (rl .l) [.mac 0 ⟨1, 1, 2, 0, 0⟩, .msu 0 ⟨1, 1, 2, 0, 0⟩, .mclr 0 ⟨1, 0, 0, 0, 0⟩, .mld 0 ⟨1, 1, 0, 1, 0⟩, .mrd 0 ⟨3, 1, 0, 1, 1⟩] = true) := by decide +kernel

/-- R77: RPT with lead 1 at phase 2 of 16 entries reads entry 3 and updates entry 2. -/
theorem test_rpt :
    let tb := { RptTable.init with mem := Memory.writeW [] 12 77, n := 100 }
    let s := run 0 .l [(1, 0x40000000), (4, 0x40000000), (5, 0), (6, 1)] fun x => { x with ph := 0x20000000, t0 := tb }
    fits s 0 (rl .l) (.rpt 0 ⟨3, 1, 4, 0, 0⟩) = true ∧ rg (go (.rpt 0 ⟨3, 1, 4, 0, 0⟩) s) 0 3 = 77 ∧
    ((go (.rpt 0 ⟨3, 1, 4, 0, 0⟩) s).cx 0).t0.n = 101 ∧
    (let s1 := s.modCx 0 fun x => { x with fS := true }
     fits s1 0 (rl .l) (.rpt 0 ⟨3, 1, 4, 0, 0⟩) = true ∧
     ((go (.rpt 0 ⟨3, 1, 4, 0, 0⟩) s1).cx 0).t0.n = 100) := by decide +kernel

/-- R78: the third violation in a row of check 1 sets P and asks for SAFE; of the first, nothing yet. -/
theorem test_plaus :
    let s := fun (n : Nat) =>
      (run 0 .l [(1, 100), (2, 0), (3, 5)] fun x => { x with chk := vput x.chk 1 n }).modCh 0 fun x => { x with st := .control }
    fits (s 2) 0 (rl .l) (.plaus 0 ⟨3, 1, 2, 0, 1⟩) = true ∧
    (let t := go (.plaus 0 ⟨3, 1, 2, 0, 1⟩) (s 2)
     vat (t.cx 0).chk 1 0 = 3 ∧ (t.cx 0).fP = true ∧ (t.cx 0).fN = true ∧ (t.ch 0).safeReq = true ∧ rz t 0 .uc 0x1002 = true) ∧
    (let t := go (.plaus 0 ⟨3, 1, 2, 0, 1⟩) (s 0)
     vat (t.cx 0).chk 1 0 = 1 ∧ (t.cx 0).fP = false ∧ (t.ch 0).safeReq = false) ∧
    (let t := go (.plaus 0 ⟨3, 1, 2, 0, 1⟩) (s 3)
     vat (t.cx 0).chk 1 0 = 4 ∧ (t.cx 0).fP = false ∧ rz t 0 .uc 0x1002 = false) := by decide +kernel

/-- R79, R49, R46: loads, stores, and an index out of range. -/
theorem test_memory :
    (let s1 := run 0 .l [(1, 3), (2, 2), (4, 0xAABBCCDD)] fun x => { x with loc := Memory.writeW [] 20 99 }
     let s : State := { s1 with shared := Memory.writeW [] 0x20014 55 }
     gives .l 0 [(.ld 0 ⟨3, 0, 5⟩, [], 3, 0)] = true ∧ rg (go (.ld 0 ⟨3, 0, 5⟩) s) 0 3 = 99 ∧
     rg (go (.ldx 0 ⟨3, 1, 2, 0, 0⟩) s) 0 3 = 99 ∧ rg (go (.ld 0 ⟨3, 3, 5⟩) s) 0 3 = 55 ∧
     Memory.readW (go (.st 0 ⟨4, 5, 6⟩) s).shared (4 * 0x106) = 0xAABBCCDD ∧
     Memory.read (go (.st 0 ⟨4, 3, 5⟩) s).shared 0x20014 = 0xDD ∧ Memory.read (go (.st 0 ⟨4, 3, 5⟩) s).shared 0x20018 = 0 ∧
     Memory.readW ((go (.stx 0 ⟨4, 1, 2, 0, 0⟩) s).cx 0).loc 20 = 0xAABBCCDD ∧
     fitsAll s 0 (rl .l) [.ld 0 ⟨3, 3, 5⟩, .ldx 0 ⟨3, 1, 2, 0, 0⟩, .st 0 ⟨4, 5, 6⟩, .st 0 ⟨4, 3, 5⟩, .stx 0 ⟨4, 1, 2, 0, 0⟩] = true) ∧
    (let s := run 0 .l [(1, 64), (3, 5)]
     fits s 0 (rl .l) (.ldx 0 ⟨3, 1, 2, 0, 0⟩) = true ∧ inSpace (tk .l) 0 64 = false ∧ inSpace (tk .l) 0 63 = true ∧
     rg (go (.ldx 0 ⟨3, 1, 2, 0, 0⟩) s) 0 3 = 0 ∧ rz (go (.ldx 0 ⟨3, 1, 2, 0, 0⟩) s) 816 .uc 0x1003 = true ∧
     ((go (.stx 0 ⟨3, 1, 2, 0, 0⟩) s).cx 0).loc = [] ∧ rz (go (.stx 0 ⟨3, 1, 2, 0, 0⟩) s) 816 .uc 0x1003 = true) := by
  decide +kernel

/-- R91, R95, R81: ports, EVT and REC. -/
theorem test_ports :
    let s := run 0 .l [(3, 0x123456), (4, 7)]
    fitsAll s 0 (rl .l) [.inp 0 ⟨3, 4, 1⟩, .out 0 ⟨3, 4, 8⟩, .evt 0 ⟨3, 0, 0x1123⟩, .recI 0 ⟨0, 3, 0, 0, 1⟩] = true ∧
    rg (go (.inp 0 ⟨3, 4, 1⟩) s) 0 3 = 8 ∧ ((go (.inp 0 ⟨3, 4, 1⟩) s).cx 0).fC = false ∧
    ((go (.inp 0 ⟨3, 4, 16⟩) s).cx 0).fC = true ∧
    ((go (.out 0 ⟨3, 4, 8⟩) s).ch 0).stCmd = 0x123456 ∧
    ((go (.out 0 ⟨3, 4, 8⟩) s).ch 0).staged.map (fun g => (g.tick, g.cmd)) = [(3001, some 0x123456)] ∧
    rz (go (.evt 0 ⟨3, 0, 0x1123⟩) s) 0 .uc 0x123 = true ∧
    ((go (.recI 0 ⟨0, 3, 0, 0, 1⟩) s).cx 0).rel.map (·.recWords) = some 2 := by decide +kernel

/-- R82, R84, R87: branches, loops, calls and the end of a release. -/
theorem test_flow :
    let s := run 0 .l [] fun x => { x with fC := true }
    let r := fun (i : Instr) => ((go i s).cx 0).rel
    fitsAll s 0 (rl .l) [.bf 0 ⟨5, 0, 6⟩, .bf 0 ⟨6, 0, 6⟩, .loopn 0 ⟨0, 3, 2⟩, .callf 0 ⟨0, 0, 4⟩, .endRel 0 ⟨0, 0, 0⟩] = true ∧
    (r (.bf 0 ⟨5, 0, 6⟩)).map (fun x => (x.pc, x.cyc)) = some (16, 3) ∧
    (r (.bf 0 ⟨6, 0, 6⟩)).map (fun x => (x.pc, x.cyc)) = some (11, 1) ∧
    (r (.loopn 0 ⟨0, 3, 2⟩)).map (·.loops) = some [⟨11, 13, 3⟩] ∧
    (r (.callf 0 ⟨0, 0, 4⟩)).map (fun x => (x.pc, x.calls.map (·.ret))) = some (14, [11]) ∧
    r (.endRel 0 ⟨0, 0, 0⟩) = none ∧
    (let s1 := s.modRel 0 fun x => { x with calls := [⟨7, false, []⟩] }
     ((go (.endRel 0 ⟨0, 0, 0⟩) s1).cx 0).rel.map (fun x => (x.pc, x.calls)) = some (7, []) ∧
     fits s1 0 { rl .l with calls := [⟨7, false, []⟩] } (.endRel 0 ⟨0, 0, 0⟩) = true) := by decide +kernel

/-- R56, R89: an illegal word and an overrun abort the release. -/
theorem test_aborts :
    let s := run 0 .l []
    ((go (.illegalInstruction 0 false) s).cx 0).rel = none ∧ rz (go (.illegalInstruction 0 false) s) 768 .uc 3 = true ∧
    ((go (.releaseOverrun 0) s).cx 0).rel = none ∧ rz (go (.releaseOverrun 0) s) 768 .uc 6 = true ∧
    insnOk (profOf 0) (insnOf (wordB 0x70 ⟨0, 0, 3⟩) 0) = false ∧
    ((go (.en 0 ⟨0, 0, 3⟩) s).cx 0).rel = none ∧ rz (go (.en 0 ⟨0, 0, 3⟩) s) 768 .uc 3 = true := by decide +kernel

/-- R58 to R62: the supervisory instructions. -/
theorem test_supervisory :
    let s : State := { run 448 .u [(1, 0x40800000), (3, 0x777)] with
      clg := vmod s0.clg 2 fun x => { x with q := 0x100000005, ticks := 9 } }
    fitsAll s 448 (rl .u) [.lib 448 ⟨4, 1, 0, 0x0001⟩, .ledg 448 ⟨4, 0, 512⟩, .tmur 448 ⟨4, 0, 8⟩, .jrd 448 ⟨4, 0, 52⟩, .jwr 448 ⟨3, 0, 4⟩,
      .period 448 ⟨0, 3, 0, 0, 1⟩] = true ∧
    rg (go (.ledg 448 ⟨4, 0, 512⟩) s) 448 4 = 5 ∧ ((go (.ledg 448 ⟨4, 0, 512⟩) s).cx 448).ledgHi = 1 ∧
    rg (go (.jrd 448 ⟨4, 0, 52⟩) s) 448 4 = 12 ∧ rg (go (.jrd 448 ⟨4, 0, 64⟩) s) 448 4 = 0 ∧
    rg (go (.jrd 448 ⟨4, 0, 65⟩) s) 448 4 = 255 ∧
    vat (go (.jwr 448 ⟨3, 0, 4⟩) s).jnb.slot 1 0 = 0x777 ∧
    (vat (go (.period 448 ⟨0, 3, 0, 0, 1⟩) s).pg 1 PGen.init).inc = 0x777 ∧
    (let s2 := run 448 .u [(5, 200)]
     fits s2 448 (rl .u) (.tmur 448 ⟨4, 5, 8⟩) = true ∧ rg (go (.tmur 448 ⟨4, 5, 8⟩) s2) 448 4 = 0 ∧
     rz (go (.tmur 448 ⟨4, 5, 8⟩) s2) 876 .uc 0x1003 = true ∧
     fits s2 448 (rl .u) (.ledg 448 ⟨4, 5, 0⟩) = true ∧
     rz (go (.ledg 448 ⟨4, 5, 0⟩) s2) 876 .uc 0x1003 = true) := by decide +kernel

/-! Sequences: task 5 in context 384, its PARAM block at word 0x100, rails ch0 and ch4 with no REF_ADDR, ENABLE_ORDER empty. -/

/-- A state whose sequence has the record that f makes, with a release of its program running. -/
def sq (regs : List (Nat × W)) (f : SeqRec → SeqRec) (words : List (Nat × W)) : State :=
  let s1 := run 384 .s regs fun x => { x with seq := f x.seq }
  shared ([(0x108, 0xFFFFFFFF), (0x113, 0xFFFFFFFF), (0x117, 0xFFFFFFFF)] ++ words)
    (upLink 0 (upLink 1 (inForce [(tk .s, 384)] [cd 0, cd 4] s1)))

/-- R170, R98: EN of rail 1 asks for the start of ch4 and appends rail 1. -/
theorem test_en :
    let s := sq [] id [(0x108, 0xFFFFFFF0)]
    Memory.wf s.shared = true ∧ fits s 384 (rl .s) (.en 384 ⟨0, 0, 1⟩) = true ∧ (s.ch 4).st = .off ∧
    railCh (tk .s) 1 = 4 ∧ (orderList (parm s (tk .s) 8)).contains 1 = false ∧
    (let t := go (.en 384 ⟨0, 0, 1⟩) s
     (t.ch 4).st = .off ∧ (t.ch 4).startReq = true ∧ parm t (tk .s) 8 = 0xFFFFFF10) ∧
    (let s1 := s.modCh 0 fun x => { x with st := .safe }
     let t := go (.en 384 ⟨0, 0, 0⟩) s1
     (t.ch 0).restart = true ∧ (t.ch 0).st = .safe ∧ parm t (tk .s) 8 = 0xFFFFFFF0) ∧
    (let s1 := s.modCh 0 fun x => { x with st := .control }
     ((go (.en 384 ⟨0, 0, 0⟩) s1).ch 0).st = .control) := by decide +kernel

/-- R170, R98: DIS of rail 0 asks for the stop of ch0 and takes it out of the order; SETREF ramps, or writes at once. -/
theorem test_dis_setref :
    let s0 := sq [(2, 3)] id [(0x108, 0xFFFFFF10), (0x117, 0x9000)]
    let s := s0.modCh 0 fun x => { x with st := .control, mA := 5 }
    refAddr s (tk .s) 0 = none ∧ refAddr s (tk .s) 1 = some 0x9000 ∧
    fitsAll s 384 (rl .s) [.dis 384 ⟨0, 0, 0⟩, .setref 384 ⟨0, 1, 1, 500⟩, .setref 384 ⟨0, 2, 1, 500⟩] = true ∧
    (let t := go (.dis 384 ⟨0, 0, 0⟩) s
     (t.ch 0).st = .control ∧ (t.ch 0).stopReq = true ∧ (t.ch 0).mA = 5 ∧ parm t (tk .s) 8 = 0xFFFFFFF1 ∧ (railOf t 384 0).ramp = none) ∧
    (let t := go (.setref 384 ⟨0, 1, 1, 500⟩) s
     shWord t 0x9000 = 500 ∧ (railOf t 384 1).ramp = none) ∧
    (let t := go (.setref 384 ⟨0, 1, 0, 500⟩) s
     t.shared = s.shared) ∧
    (let t := go (.setref 384 ⟨0, 2, 1, 500⟩) s
     shWord t 0x9000 = 0 ∧ (railOf t 384 1).ramp = some (500, 3)) := by decide +kernel

/-- R170, R165: CHK reads OK, STALE and, in UP, starts the reaction of a FAULT. -/
theorem test_chk :
    let s := sq [(2, 9)] (fun q => { q with st := .up }) []
    fits s 384 (rl .s) (.chk 384 ⟨2, 0, 1, 0⟩) = true ∧ railStale s (tk .s) 1 = false ∧ (railOf s 384 1).cls = .ok ∧
    rg (go (.chk 384 ⟨2, 0, 1, 0⟩) s) 384 2 = 0 ∧
    (let s1 := s.modLk 1 fun x => { x with miss := 2 }
     railStale s1 (tk .s) 1 = true ∧ rg (go (.chk 384 ⟨2, 0, 1, 0⟩) s1) 384 2 = 3) ∧
    (let s1 := modRail 384 1 (fun x => { x with cls := .fault }) s
     let t := go (.chk 384 ⟨2, 0, 1, 0⟩) s1
     (seqOf t 384).st = .unwind ∧ (seqOf t 384).unwFault = true ∧ (t.cx 384).rel = none ∧ t.snapSeq = 1 ∧
     (parm t (tk .s) 1).bits 31 28 = 1 ∧ (parm t (tk .s) 1).bits 23 16 = 1) := by decide +kernel

/-- R171, R172: WAIT passes or yields; jumps and calls. -/
theorem test_seq_flow :
    let s := sq [(2, 9)] (fun q => { q with st := .up }) []
    let r := fun (i : Instr) => ((go i s).cx 384).rel
    fitsAll s 384 (rl .s) [.wait 384 ⟨2, 0, 1025, 0x00010000⟩, .wait 384 ⟨2, 0, 0, 0x00010000⟩, .jmp 384 ⟨0, 0, 5⟩, .jmp 384 ⟨0, 0, 0x3FFE⟩,
      .jc 384 ⟨0, 0, 5⟩, .jc 384 ⟨0, 0, 0x3FFE⟩, .call 384 ⟨0, 0, 5⟩, .call 384 ⟨0, 0, 0x3FFE⟩] = true ∧
    (seqOf s 384).wait = .none ∧ waitTest s 384 (tk .s) 1 1 0 = true ∧
    (let t := go (.wait 384 ⟨2, 0, 1025, 0x00010000⟩) s
     rg t 384 2 = 0 ∧ (t.cx 384).rel.isSome = true) ∧
    (let t := go (.wait 384 ⟨2, 0, 0, 0x00010000⟩) s
     rg t 384 2 = 9 ∧ (t.cx 384).rel = none ∧ (seqOf t 384).resume = 10 ∧ (seqOf t 384).wait = .wait 0 0 0 2 false 1) ∧
    (r (.jmp 384 ⟨0, 0, 5⟩)).map (·.pc) = some 15 ∧
    (let t := go (.jmp 384 ⟨0, 0, 0x3FFE⟩) s
     (t.cx 384).rel = none ∧ (seqOf t 384).resume = 8) ∧
    condS s 384 (tk .s) (insnOf (wordC 0x76 ⟨0, 0, 5⟩) 0) = true ∧ (r (.jc 384 ⟨0, 0, 5⟩)).map (·.pc) = some 15 ∧
    (seqOf (go (.jc 384 ⟨0, 0, 0x3FFE⟩) s) 384).resume = 8 ∧
    (r (.call 384 ⟨0, 0, 5⟩)).map (fun x => (x.pc, x.calls.map (·.ret))) = some (15, [11]) ∧
    (let t := go (.call 384 ⟨0, 0, 0x3FFE⟩) s
     (seqOf t 384).resume = 8 ∧ (seqOf t 384).calls.map (·.ret) = [11]) ∧
    (∃ cond : BitVec 4, condS s 384 (tk .s) (insnOf (wordC 0x76 ⟨cond, 0, 5⟩) 0) = false ∧
      fits s 384 (rl .s) (.jc 384 ⟨cond, 0, 5⟩) = true ∧ fits s 384 (rl .s) (.call 384 ⟨cond, 0, 5⟩) = true ∧
      (r (.jc 384 ⟨cond, 0, 5⟩)).map (·.pc) = some 11 ∧ (r (.call 384 ⟨cond, 0, 5⟩)).map (·.pc) = some 11) := by
  decide +kernel

/-- R167, R161, R175: RETRY, MARK, SEND, AWAIT and LOG. -/
theorem test_seq_messages :
    let s := sq [] (fun q => { q with st := .fault, retries := 2 }) [(0x101, 0x11010000)]
    fitsAll s 384 (rl .s) [.retry 384 ⟨0, 0, 3, 0x00050000⟩, .retry 384 ⟨0, 0, 2, 0x00050000⟩, .mark 384 ⟨0, 0, 7⟩, .send 384 ⟨1, 0, 3, 9⟩, .send 384 ⟨1, 0, 4, 9⟩,
      .await 384 ⟨1, 0, 3, 0x00050009⟩, .log 384 ⟨0, 1, 0x23⟩] = true ∧
    (parm s (tk .s) 1).bits 27 24 = 1 ∧
    (let t := go (.retry 384 ⟨0, 0, 3, 0x00050000⟩) s
     (seqOf t 384).st = .retryWait ∧ (seqOf t 384).retries = 3 ∧ (seqOf t 384).retryLeft = 5 ∧ (t.cx 384).rel = none) ∧
    (let t := go (.retry 384 ⟨0, 0, 2, 0x00050000⟩) s
     (seqOf t 384).st = .fault ∧ (t.cx 384).rel.map (·.pc) = some 12) ∧
    (let s1 := sq [] (fun q => { q with st := .down }) [(0x100, 0x0A000000)]
     seqReqOn s1 (tk .s) = true ∧ seqSupPres s1 (tk .s) = true ∧
     (seqOf (go (.mark 384 ⟨0, 0, 7⟩) s1) 384).st = .paused ∧ (seqOf (go (.mark 384 ⟨0, 0, 7⟩) s1) 384).resume = 11 ∧
     ((go (.mark 384 ⟨0, 0, 7⟩) s).cx 384).rel.map (·.pc) = some 11) ∧
    (let s1 : State := { s with jnb := { s.jnb with rx := [(3, 0, 0, 0, 1)] } }
     jPresent s1 3 = true ∧ jPresent s1 4 = false ∧ rg (go (.send 384 ⟨1, 0, 3, 9⟩) s1) 384 1 = 0 ∧
     ((go (.send 384 ⟨1, 0, 3, 9⟩) s1).jnb.outQ.map fun x => (x.1, x.2.1)) = [(0x10, 3)] ∧
     rg (go (.send 384 ⟨1, 0, 4, 9⟩) s1) 384 1 = 1 ∧
     (let s2 : State := { s1 with prl := { s1.prl with role := .standby } }
      rg (go (.send 384 ⟨1, 0, 3, 9⟩) s2) 384 1 = 0 ∧ (go (.send 384 ⟨1, 0, 3, 9⟩) s2).jnb.outQ = [])) ∧
    (let s1 := modSeq 384 (fun q => { q with slaves := [(3, 9, .on)] }) s
     slaveState s1 384 3 9 = some .on ∧ rg (go (.await 384 ⟨1, 0, 3, 0x00050009⟩) s1) 384 1 = 0 ∧
     (let t := go (.await 384 ⟨1, 0, 3, 0x00050009⟩) s
      (t.cx 384).rel = none ∧ (seqOf t 384).wait = .await .on 3 9 1 false 5 ∧ (seqOf t 384).resume = 10)) ∧
    ((go (.log 384 ⟨0, 1, 0x23⟩) s).cx 384).rel.map (·.pc) = some 11 := by decide +kernel

/-- R159, R161, R162, R166, R167, R171, R175: the events of a sequence, in the last step before they are due and in the step where
they are. -/
theorem test_seq_events :
    let s := fun (f : SeqRec → SeqRec) (w : List (Nat × W)) => sq [(2, 9)] f w
    seqTask (s id []) 384 = some (tk .s) ∧ Memory.wf (s id [(0x103, 0x1234)]).shared = true ∧
    (let rc := fun (n : Nat) => go (.railClassChange 384 1) (modRail 384 1 (fun x => { x with cand := .warning, count := n })
       (s id [(0x114, 0x3000)]))
     (railWord (s id [(0x114, 0x3000)]) (tk .s) 1 0).bits 15 12 = 3 ∧ (railOf (rc 2) 384 1).cls = .warning ∧
     (railOf (rc 1) 384 1).cls = .ok) ∧
    (let w := fun (k : Nat) (tf : Bool) (n : Nat) => s (fun q => { q with st := .up, wait := .wait k 0 0 2 tf 5, timer := n }) []
     rg (go (.waitTimeout 384) (w 0 true 4)) 384 2 = 0 ∧ rg (go (.waitTimeout 384) (w 1 false 4)) 384 2 = 1 ∧
     (seqOf (go (.waitTimeout 384) (w 1 false 4)) 384).wait = .none ∧ still (.waitTimeout 384) (w 1 false 3) = true ∧
     (seqOf (go (.waitTimeout 384) (w 1 true 4)) 384).st = .unwind ∧
     (parm (go (.waitTimeout 384) (w 1 true 4)) (tk .s) 1).bits 31 28 = 3 ∧
     (parm (go (.waitTimeout 384) (w 1 true 4)) (tk .s) 1).bits 23 16 = 0) ∧
    (let w := fun (tf : Bool) (n : Nat) => s (fun q => { q with st := .up, wait := .await .on 3 9 2 tf 5, timer := n }) []
     rg (go (.awaitTimeout 384) (w false 4)) 384 2 = 1 ∧ (seqOf (go (.awaitTimeout 384) (w true 4)) 384).st = .unwind ∧
     (parm (go (.awaitTimeout 384) (w true 4)) (tk .s) 1).bits 31 28 = 4 ∧ still (.awaitTimeout 384) (w true 3) = true) ∧
    (let s1 := fun (n : Nat) => s (fun q => { q with st := .retryWait, retryLeft := n }) [(0x100, 0x0C000000), (0x102, 0x00000021)]
     seqTarget (s1 1) (tk .s) = true ∧ (seqOf (go (.retryDelayEnd 384) (s1 1)) 384).st = .up ∧
     (seqOf (go (.retryDelayEnd 384) (s1 1)) 384).resume = 0x21 ∧ still (.retryDelayEnd 384) (s1 2) = true) ∧
    (let s1 := fun (b : Bool) (n : Nat) =>
       s (fun q => { q with st := .unwind, unwLeft := n, unwFault := b, retries := 3 }) [(0x103, 0x00000033)]
     orderList (parm (s1 true 1) (tk .s) 8) = [] ∧ (seqOf (go (.unwindDelayEnd 384) (s1 true 1)) 384).st = .fault ∧
     (seqOf (go (.unwindDelayEnd 384) (s1 true 1)) 384).resume = 0x33 ∧
     (seqOf (go (.unwindDelayEnd 384) (s1 false 1)) 384).st = .off ∧
     (seqOf (go (.unwindDelayEnd 384) (s1 false 1)) 384).retries = 0 ∧ still (.unwindDelayEnd 384) (s1 true 2) = true) ∧
    (let s1 := fun (n m : Nat) => s (fun q => { q with lossSteps := n, returnSteps := m })
       [(0x100, 0x0C000000), (0x104, 0x80000000), (0x106, 0x00030001)]
     seqSupUsed (s1 2 999) (tk .s) = true ∧ (parm (s1 2 999) (tk .s) 6).bits 31 16 = 3 ∧
     (parm (s1 2 999) (tk .s) 6).bits 15 0 = 1 ∧ seqSupOk (go (.supplyLoss 384) (s1 2 999)) (tk .s) = false ∧
     seqReqOn (go (.supplyLoss 384) (s1 2 999)) (tk .s) = true ∧ still (.supplyLoss 384) (s1 1 999) = true ∧
     seqSupOk (go (.supplyQualified 384) (go (.supplyLoss 384) (s1 2 999))) (tk .s) = true ∧
     still (.supplyQualified 384) (s1 2 998) = true) ∧
    (let s1 := fun (n : Nat) => s (fun q => { q with st := .on, retries := 3, onSteps := n }) []
     (seqOf (go (.retriesClear 384) (s1 99999)) 384).retries = 0 ∧ (seqOf (go (.retriesClear 384) (s1 99999)) 384).st = .on ∧
     still (.retriesClear 384) (s1 99998) = true) := by decide +kernel

/-- R141, R160, R161: a sequence is served once in the step of its tick, here 3,000. -/
theorem test_service :
    let s := fun (f : SeqRec → SeqRec) (w : List (Nat × W)) => (sq [] f w).modCx 384 fun x => { x with rel := none }
    let on : List (Nat × W) := [(0x100, 0x0C000000), (0x102, 0x00310021)]
    let q := fun (f : SeqRec → SeqRec) (w : List (Nat × W)) => seqOf (go (.seqService 384) (s f w)) 384
    let r := fun (f : SeqRec → SeqRec) (w : List (Nat × W)) => ((go (.seqService 384) (s f w)).cx 384).rel.map (·.pc)
    seqTask (s id on) 384 = some (tk .s) ∧ (s id on).clk.chip = .run ∧ ((s id on).engine (engOfCtx 384)).fenced = false ∧
    (s id on).now - (s id on).clk.tc.toNat % 20 = 3000 ∧ (s id on).upe.back = [] ∧ (s id on).upe.old = none ∧
    Memory.wf (s id on).shared = true ∧ seqSupUsed (s id on) (tk .s) = false ∧ seqReqOn (s id on) (tk .s) = true ∧
    seqReqOn (s id []) (tk .s) = false ∧ (∀ i : Fin 8, (railOf (s id on) 384 i.val).ramp = none) ∧
    (∀ i : Fin 2, (railWord (s id on) (tk .s) i.val 0).bit 0 = false) ∧
    (List.range 384).all (fun k => engOfCtx k != engOfCtx 384 || (seqTask (s id on) k).isNone) = true ∧
    ((q id on).st, (q id on).resume, r id on, (q id on).served) = (.up, 0x21, some 0x21, some 3000) ∧
    ((q id []).st, r id []) = (.off, none) ∧
    (let f := fun (x : SeqRec) => { x with st := .up, runs := true, resume := 0x25 }
     ((q f on).st, (q f on).resume, r f on) = (.up, 0x25, some 0x25)) ∧
    (let f := fun (x : SeqRec) => { x with st := .on, onSteps := 7, retries := 1 }
     ((q f on).st, (q f on).onSteps) = (.on, 8) ∧
     (let w : List (Nat × W) := [(0x102, 0x00310021)]
      ((q f w).st, (q f w).resume, r f w) = (.down, 0x31, some 0x31))) ∧
    (let f := fun (x : SeqRec) => { x with st := .locked, retries := 1 }
     ((q f []).st, (q f []).retries) = (.off, 0)) ∧
    (let s1 := s (fun x => { x with served := some 3000 }) on
     still (.seqService 384) s1 = true) ∧
    (let s1 := (s id on).modCx 385 fun x => { x with task := some 5 }
     still (.seqService 385) s1 = true ∧ (seqTask s1 385).isSome = true) := by decide +kernel

/-- R90, R134, R135, R140: the dispatch of the release of tick 3,000, at word 0. -/
theorem test_dispatch :
    let s0 := inForce [(tk .l, 0)] [cd 0, cd 4] s0
    let s := (s0.modCh 0 fun x => { x with st := .control }).modCx 0 fun x => { x with reason := 2 }
    taskAt s 0 = some (tk .l) ∧ s.clk.chip = .run ∧ s.prl.halted = false ∧ (s.engine 0).fenced = false ∧
    (s.engine 0).busy ≤ tickCycles 0 * s.now ∧ (s.cx 0).wait = none ∧ (s.cx 0).lastTick ≠ some s.now ∧
    (List.range 512).all (fun k => engOfCtx k != 0 || (s.cx k).rel.isNone) = true ∧ dispatchable s (tk .l) = true ∧
    (placesOf s).filter (·.eng == 0) = [⟨5, 0, 0, 0, false⟩] ∧ s.clk.tc.toNat % 1 = (0 + 1) % 1 ∧
    mayDispatch s 0 = true ∧
    (let t := go (.releaseDispatch 0) s
     (t.cx 0).rel.map (fun r => (r.pc, r.tick, r.ports.length, r.prog.num)) = some (0, 3000, 32, 5) ∧ (t.cx 0).reason = 0 ∧
     t.clk.released = true ∧ (t.cx 0).lastTick = some 3000 ∧ (t.cx 0).wait = none ∧ t.chan = s.chan) ∧
    (let s1 := s.modCx 0 fun x => { x with wait := some { rl .l with pc := 0 } }
     mayDispatch s1 0 = true ∧ ((go (.releaseDispatch 0) s1).cx 0).rel.map (·.tick) = some 2999 ∧
     ((go (.releaseDispatch 0) s1).cx 0).wait = none) ∧
    (let s1 := s.modCx 0 fun x => { x with lastTick := some 3000 }
     mayDispatch s1 0 = false ∧ still (.releaseDispatch 0) s1 = true) ∧
    (let s1 := s.modCx 0 fun x => { x with rel := some (rl .l) }
     mayDispatch s1 0 = false ∧ still (.releaseDispatch 0) s1 = true) ∧
    (let s1 : State := { s with clk := { s.clk with chip := .boot } }
     mayDispatch s1 0 = false) := by decide +kernel

/-- R140: a U release starts at every window (PERIOD 0), or at its window of the epochs that PERIOD divides. -/
theorem test_dispatch_u :
    let s := fun (p w tc : Nat) =>
      let b := inForce [({ tk .u with period := p }, 448)] [cd 0, cd 4] s0
      let b1 := b.modCh 0 fun x => { x with st := .control }
      { b1 with clk := { b1.clk with tc := BitVec.ofNat 48 tc, ts := BitVec.ofNat 64 (50 * tc) },
                adm := { b1.adm with place := [⟨5, 72, 448, w, false⟩] } }
    let d := fun (p w tc : Nat) => (((go (.releaseDispatch 448) (s p w tc)).cx 448).rel.map (·.tick))
    engOfCtx 448 = 72 ∧ (placesOf (s 0 0 3000)).filter (·.eng == 72) = [⟨5, 72, 448, 0, false⟩] ∧
    dispatchable (s 0 0 3000) { tk .u with period := 0 } = true ∧ (s 0 0 3000).clk.tc.toNat % 200 = 0 ∧
    ((s 0 0 3000).engine 72).busy ≤ tickCycles 72 * (s 0 0 3000).now ∧
    d 0 0 3000 = some 3000 ∧ d 0 0 3001 = none ∧
    (s 2 3 4600).clk.tc.toNat % 2000 = 200 * 3 ∧ (s 2 3 4600).epoch % 2 = 0 ∧ d 2 3 4600 = some 4600 ∧ d 2 3 2600 = none ∧
    d 2 2 4600 = none := by decide +kernel

/-- R57, R254: the release of a library task is done in its dispatch. -/
theorem test_dispatch_lib :
    let tl : Task := { tk .l with lib := some (1, 1, 0) }
    let s := (inForce [(tl, 0)] [cd 0, cd 4] s0).modCh 0 fun x => { x with st := .control }
    taskAt s 0 = some tl ∧ mayDispatch s 0 = true ∧ (s.cx 0).wait = none ∧
    (let t := go (.releaseDispatch 0) s
     t.clk.released = true ∧ (t.cx 0).rel = none ∧ (t.cx 0).wait = none) := by decide +kernel

/-! The clock. -/

/-- R24 to R28: a sync word before the first release jumps TC and TS; later it sets NOT_ALIGNED; inside 250 ns it is kept. -/
theorem test_sync :
    let s : State := { s0 with clk := { s0.clk with refsel := .ja } }
    let s1 : State := { s with clk := { s.clk with released := true } }
    let s2 : State := { s with jnb := { s.jnb with delay := 1000 } }
    clockRuns s = true ∧ pathDelay s = 0 ∧ pathDelay s2 = 1000 ∧ (go (.syncMeasure 249000 4000) s2).clk.offs = [250000] ∧
    (go (.syncMeasure 249001 4000) s2).clk.ts = 200000 ∧ still (.syncMeasure 0 4000) s0 = true ∧
    (go (.syncMeasure 250000 4000) s).clk.offs = [250000] ∧
    (go (.syncMeasure (-250001) 4000) s).clk.ts = 200000 ∧ (go (.syncMeasure (-250001) 4000) s).clk.tc = 4000 ∧
    (go (.syncMeasure (-250001) 4000) s).clk.mon.getLsbD 6 = true ∧ rs (go (.syncMeasure (-250001) 4000) s) 972 .uc = true ∧
    (go (.syncMeasure 250001 4000) s1).clk.notAligned = true ∧ (go (.syncMeasure 250001 4000) s1).clk.ts = 150000 ∧
    (go (.syncMeasure 250001 4000) s1).clk.mon.getLsbD 5 = true ∧ rs (go (.syncMeasure 250001 4000) s1) 972 .uc = true := by
  decide +kernel

/-- R25, R26, R28, R29: the nudge at an epoch's end, the failure to align, the loss of the reference and its return. -/
theorem test_align :
    let s : State := { s0 with clk := { s0.clk with refsel := .ja, offs := [50000, 30001], outEpochs := 9, tc := 4000, ts := 200000 } }
    let s1 : State := { s with clk := { s.clk with tc := 4001, ts := 200050 } }
    (let c := (go .alignNudge s).clk
     c.offs = [] ∧ c.alignValid = true ∧ c.nudges = 1 ∧ c.nudgeDir = -1 ∧ c.ts = 200000) ∧
    still .alignNudge s1 = true ∧ still .alignFail s1 = true ∧
    (let c := (go .alignNudge { s with clk := { s.clk with offs := [50000, 30000] } }).clk
     c.aligned = true ∧ c.outEpochs = 0) ∧
    (let c := (go .alignNudge { s with clk := { s.clk with offs := [-210] } }).clk
     c.nudges = 0 ∧ c.nudgeDir = 0 ∧ c.alignValid = true) ∧
    (let t := go .alignFail s
     t.clk.aligned = false ∧ t.clk.mon.getLsbD 5 = true ∧ rs t 972 .uc = true) ∧
    (let t := go .refLost s
     t.clk.refsel = .xtal ∧ t.clk.holdover = true ∧ t.clk.mon.getLsbD 4 = true ∧ t.clk.ts = 200000 ∧
     (rs t 971 .ce || rs t 971 .uc) = true) ∧
    (let s1 : State := { s0 with clk := { s0.clk with holdover := true }, prl := { s0.prl with role := .standby, link := .up } }
     refWanted s1 = .pair ∧ (go (.refReturn .pair) s1).clk.refsel = .pair ∧ (go (.refReturn .pair) s1).clk.holdover = false ∧
     still (.refReturn .ja) s1 = true ∧ refWanted s0 = .xtal) := by
  decide +kernel

/-- R31, R33, Table 2.6, R32: faults of the clock, the snapshot, ALIGN_EN, and waking. -/
theorem test_clock_faults :
    (let t := go .lockLoss s0
     t.clk.rootLock = false ∧ t.clk.mon.getLsbD 1 = true ∧ rs t 968 .fe = true) ∧
    (let t := go .ratioErr s0
     t.clk.mon.getLsbD 2 = true ∧ rs t 969 .fe = true) ∧
    (let t := go .xtalStop s0
     t.clk.mon.getLsbD 3 = true ∧ rs t 970 .fe = true) ∧
    (go .ctuSnap s0).clk.snapTc = 3000 ∧ (go .ctuSnap s0).clk.snapTs = 150000 ∧
    s0.prl.role = .solo ∧ (go (.ctuAlignEnWrite false) s0).clk.alignEn = true ∧
    (go (.ctuAlignEnWrite false) { s0 with clk := { s0.clk with chip := .boot } }).clk.alignEn = false ∧
    (let d : State := { s0 with clk := { s0.clk with chip := .dormant, tickRun := false, rootLock := false, wake := 0b000011, ts := 150006 } }
     (go (.wakeEvent (.tw 1)) d).clk.waking = true ∧ (vat (go (.wakeEvent (.tw 1)) d).twp 1 Twp.init).evt.getLsbD 0 = true ∧
     (go (.wakeEvent .pcie) d).clk.waking = false ∧
     (let w := go .wakeDividersRestart (go (.wakeEvent (.tw 0)) d)
      w.clk.tickRun = true ∧ w.clk.rootLock = true ∧ w.clk.ts.toNat % 50 = 0 ∧
      w.clk.tc = BitVec.ofNat 48 (w.clk.ts.toNat / 50) ∧
      (go .wakeMgpResume w).clk.chip = .run ∧ (go .wakeMgpResume w).tmu.run = true)) := by decide +kernel

/-- R99 to R101, R116: a channel's transitions that fall due at tick 3,000, and the fallback table. -/
theorem test_channel_timers :
    let s := (inForce [(tk .l, 0)] [cd 0, cd 4] s0)
    let ch := fun (st : ChanSt) (h r a : Nat) =>
      s.modCh 0 fun x => { x with st := st, restart := true, holdTick := h, restartRun := r, armZero := a }
    holdLimit8 s 0 = 10 ∧ s.now = 3000 ∧
    (let t := go (.holdLimitExpiry 0) (ch .hold 2990 0 0)
     (t.ch 0).st = .safe ∧ (t.ch 0).restart = false ∧ (rz t 1 .uc 0x0102 || rz t 1 .ce 0x0102) = true) ∧
    still (.holdLimitExpiry 0) (ch .hold 2991 0 0) = true ∧
    ((go (.armingComplete 0) (ch .arming 0 0 2999)).ch 0).st = .control ∧
    still (.armingComplete 0) (ch .arming 0 0 3000) = true ∧
    still (.armingComplete 0) (ch .hold 0 0 2999) = true ∧
    (let t := go (.restartCountDone 0) (ch .safe 0 4000 0)
     (t.ch 0).st = .arming ∧ (t.ch 0).restart = false ∧ (t.ch 0).armLeft = 5) ∧
    still (.restartCountDone 0) (ch .safe 0 3999 0) = true ∧
    (let m : State := { s with adm := { s.adm with move := [(3001, [7]), (3003, [7, 9])] } }
     (fallbackPlaces m [7]).isSome = true ∧ assocGet m.adm.moveOld 3001 = none ∧
     (go .fallbackTableInForce m).adm.move = [(3003, [7, 9])] ∧ (go .fallbackTableInForce m).adm.first = 7 ∧
     some (go .fallbackTableInForce m).adm.place = fallbackPlaces m [7]) := by decide +kernel

/-- R98, R99: the rows of a channel at a tick start, highest first. -/
theorem test_channel_rows :
    let s := upLink 0 (inForce [(tk .l, 0)] [cd 0, cd 4] s0)
    let t := fun (f : Chan → Chan) => (chanTick 0 (s.modCh 0 f)).ch 0
    (t fun c => { c with st := .control, fenceReq := true, safeReq := true }).st = .fenced ∧
    (let d := t fun c => { c with st := .fenced, readmitReq := true, stopReq := true }
     d.st = .safe ∧ d.restart = true) ∧
    (let d := t fun c => { c with st := .arming, safeReq := true, stopReq := true, due := true }
     d.st = .safe ∧ d.restart = false ∧ d.stopReq = true) ∧
    (let d := t fun c => { c with st := .control, stopReq := true, startReq := true, due := true, mA := 5 }
     d.st = .off ∧ d.mA = 0) ∧
    (let d := t fun c => { c with st := .control, stopReq := true, mA := 5 }
     frameDue s 0 = true ∧ d.st = .control ∧ d.due = true) ∧
    (let d := t fun c => { c with st := .safe, stopReq := true, safeReq := true }
     d.st = .off) ∧
    canStart s 0 = true ∧
    (let d := t fun c => { c with startReq := true, due := true }
     d.st = .arming ∧ d.startReq = false) ∧
    (let d := (chanTick 0 ((s.modLk 0 fun x => { x with lastValid := false }).modCh 0 fun c => { c with startReq := true, due := true })).ch 0
     d.st = .off ∧ d.startReq = false) ∧
    (let c := fun (c : Chan) => { c with st := .arming, armLeft := 0, armZero := 2999, due := true }
     armed9 0 (s.modCh 0 c) = true ∧ (t c).st = .control) := by decide +kernel

/-- R108 to R110: a pulse shorter than 2 HCLK cycles counts no edge; a counted edge in lock; the loss of lock. -/
theorem test_shaft :
    let x : Shaft := { Shaft.init with cfg := 0x8000003B, lock := true, tsLast := some 10000, interval := 2000, k := 58 }
    let s := fun (f : Shaft → Shaft) => ({ s0 with clk := { s0.clk with ts := 14000 }, shaft := vput s0.shaft 0 (f x) } : State)
    let y := fun (i : Instr) (f : Shaft → Shaft) => vat (go i (s f)).shaft 0 Shaft.init
    (x.cfg.bit 31 = true ∧ x.cfg.bit 14 = false ∧ x.cfg.bit 13 = false ∧ x.cfg.bits 12 0 = 59) ∧
    (y (.shaftEdge 0 true 11000) id = { x with pulse := some (11000, true) }) ∧
    (y (.shaftEdge 0 false 11019) (fun x => { x with pulse := some (11000, true) }) = x) ∧
    (let z := y (.shaftEdge 0 false 11020) fun x => { x with pulse := some (11000, true) }
     z.lock = true ∧ z.interval = 1000 ∧ z.tsLast = some 11000 ∧ z.k = 0 ∧ z.pulse = some (11020, false)) ∧
    (let z := y (.shaftEdge 0 false 14000) fun x => { x with pulse := some (13000, true), k := 57 }
     z.lock = true ∧ z.interval = 3000 ∧ z.k = 58) ∧
    (let t := go (.shaftLockTimeout 0) (s fun x => { x with interval := 1999 })
     (vat t.shaft 0 Shaft.init).lock = false ∧ (vat t.shaft 0 Shaft.init).lost = true ∧
     (rz t 954 .ce 3 || rz t 954 .uc 3) = true) ∧
    still (.shaftLockTimeout 0) (s id) = true ∧ still (.shaftLockTimeout 1) (s id) = true := by decide +kernel

/-! Links. -/

/-- Link 0 as f makes it. -/
def lk (f : Link → Link) : State := s0.modLk 0 f

/-- Rows 10, 8, 2 and the training steps (R189, R191, R192). -/
theorem test_training :
    (let s := lk fun x => { x with enable := true }
     linksRun s = true ∧ ((go (.linkCommaAlign 0) s).lk 0).st = .train ∧ ((go (.linkCommaAlign 0) s).lk 0).fullTrains = 1 ∧
     ((go (.linkCommaAlign 0) (lk id)).lk 0).st = .down) ∧
    (let m : TrainMeas := ⟨300, 3, 60, 20, 38, 0xABC⟩
     let s := fun (k : Nat) => lk fun x => { x with st := .train, tstep := k, enable := true }
     10 * (m.sOff + m.sReady + (m.tripNs - m.ta)) + 1417 ≤ 4700 ∧
     ((go (.trainStepEnd 0 m) (s 1)).lk 0).tstep = 2 ∧
     (let y := (go (.trainStepEnd 0 m) (s 2)).lk 0
      y.tstep = 3 ∧ y.rtt = 240 ∧ y.ta = 60 ∧ y.xEnd = 230 ∧ y.st = .train) ∧
     (let y := (go (.trainStepEnd 0 ⟨301, 3, 60, 0, 0, 0⟩) (s 2)).lk 0
      y.st = .down ∧ y.evt.getLsbD 2 = true ∧ y.holdoff = 2003000) ∧
     (let y := (go (.trainStepEnd 0 m) (s 3)).lk 0
      y.st = .negotiate ∧ y.digest = 0xABC ∧ y.version = 0) ∧
     (let s1 := lk fun x => { x with st := .train, tstep := 3, fast := true, digest := 0xABC, resume := 3001 }
      ((go (.trainStepEnd 0 m) s1).lk 0).tstep = 4 ∧ ((go (.trainStepEnd 0 m) s1).lk 0).st = .train) ∧
     (let w := fun (fast : Bool) (n : Nat) => lk fun x => { x with st := .train, tstep := 2, fast := fast, since := n }
      ((go (.trainTimeout 0) (w false 1000)).lk 0).st = .down ∧ ((go (.trainTimeout 0) (w false 1000)).lk 0).evt.getLsbD 2 = true ∧
      still (.trainTimeout 0) (w false 1001) = true ∧ ((go (.trainTimeout 0) (w true 2968)).lk 0).holdoff = 2003000 ∧
      still (.trainTimeout 0) (w true 2969) = true)) := by
  decide +kernel

/-- R193, R194, rows 1, 3 and 9: HELLO, READY, the switch to UP, and the ends of a negotiation. -/
theorem test_negotiation :
    let s := lk fun x => { x with st := .negotiate, enable := true }
    hello.length = 18 ∧ commonVersion 3 1 = some 3 ∧ commonVersion 3 4 = none ∧
    (let t := go (.moduleHello 0 (hello.set 1 0x03040000)) s
     (t.lk 0).st = .down ∧ (t.lk 0).evt.getLsbD 3 = true) ∧
    (let s1 := lk fun x => { x with st := .negotiate, switchTick := some 3040, version := 3, agree := [1, 2] }
     ((go (.ready 0 3 (crc32cW [1, 2])) s1).lk 0).ready = true ∧ ((go (.ready 0 2 (crc32cW [1, 2])) s1).lk 0).ready = false) ∧
    (let w := fun (r : Bool) (n : Nat) => lk fun x => { x with st := .negotiate, ready := r, since := n }
     ((go (.negotiateTimeout 0) (w false 2600)).lk 0).st = .down ∧ ((go (.negotiateTimeout 0) (w false 2600)).lk 0).evt.getLsbD 2 = true ∧
     still (.negotiateTimeout 0) (w false 2601) = true ∧ still (.negotiateTimeout 0) (w true 2600) = true) ∧
    (let s1 := lk fun x => { x with st := .negotiate, ready := true, version := 2, miss := 1, switchTick := some 3000 }
     still (.linkSwitchTick 0) (s1.modLk 0 fun x => { x with ready := false }) = true ∧
     ((go (.linkSwitchTick 0) s1).lk 0).st = .up ∧ ((go (.linkSwitchTick 0) s1).lk 0).miss = 0 ∧
     ((go (.linkSwitchTick 0) s1).lk 0).version = 2) ∧
    ((go (.linkDownHoldoffEnd 0) (lk fun x => { x with holdoff := 3000 })).lk 0).holdoff = 0 ∧
    ((go (.linkDownHoldoffEnd 0) (lk fun x => { x with holdoff := 3001 })).lk 0).holdoff = 3001 ∧
    ((go (.receiverSignalLoss 0) s).lk 0).st = .down := by decide +kernel

/-- R193: a HELLO that the device takes: the switch tick is even and more than 32 ticks ahead. -/
theorem test_hello_taken :
    let h := (hello.set 4 0x142600C8).set 5 0x40000000
    let s := lk fun x => { x with st := .negotiate, enable := true, sOff := 20, sReady := 38 }
    h.length = 18 ∧ helloBad { s.lk 0 with hello := h } h = false ∧
    (let y := (go (.moduleHello 0 h) s).lk 0
     y.version = 3 ∧ y.hello = h ∧ y.st = .negotiate ∧ y.switchTick.any (fun k => decide (3032 < k) && k % 2 == 0) = true) := by
  decide +kernel

/-- R91, R181: an outbound RUN frame moves what is staged for its tick; a link that is down and not enabled sends nothing. -/
theorem test_outbound :
    let s := (upLink 0 s0).modCh 0 fun x => { x with st := .control, staged := [⟨3000, some 0x01ABCDEF, some 0x102⟩] }
    linksRun s = true ∧
    (let t := go (.outboundFrame 0) s
     (t.lk 0).sent.map (·.tick) = some 3000 ∧ (t.lk 0).txIdle = false ∧ (t.lk 0).st = .up ∧ (t.ch 0).cmd = 0xABCDEF ∧
     (t.ch 0).mode = 2 ∧ (t.ch 0).staged = []) ∧
    ((go (.outboundFrame 0) s0).lk 0).sent = none := by decide +kernel

/-- R95, R98, R202: a valid inbound frame; the first and the second miss. -/
theorem test_inbound :
    let s := (upLink 0 s0).modLk 0 fun x => { x with version := 2 }
    let b : ChBlock := ⟨11, 12, 13, 14, 0x20⟩
    let f : InFrame := ⟨.run, 1, false, 2999, 0, Vector.replicate 3 b, true, true, 0, []⟩
    linksRun s = true ∧ chanDecl s 0 = none ∧
    (let t := go (.inboundFrame 0 (some f)) s
     (t.lk 0).miss = 0 ∧ (t.lk 0).lastValid = true ∧ (t.lk 0).owner = 1 ∧ (t.ch 0).mA = 11 ∧ (t.ch 0).mD = 14 ∧
     (t.ch 2).mstat = 0x20) ∧
    (let t := go (.inboundFrame 0 none) s
     (t.lk 0).miss = 1 ∧ (t.lk 0).missed = 1 ∧ (t.lk 0).lastValid = false ∧ (t.lk 0).st = .up) ∧
    (let t := go (.inboundFrame 0 none) (s.modLk 0 fun x => { x with miss := 1 })
     (t.lk 0).st = .hold ∧ (t.lk 0).evt.getLsbD 0 = true) := by decide +kernel

/-- R197 to R199: the service words of a frame end a message: an ACK of SEQ 7 takes the WRITE of the device stream off its queue; a
missed frame drops the part that has come. -/
theorem test_stream :
    let msg : SvcMsg := ⟨0x01, 7, 0, [0x10, 5], 2900, 0, false, none, false⟩
    let s := (upLink 0 s0).modLk 0 fun x => { x with version := 2, devQ := [msg] }
    let b : ChBlock := ⟨11, 12, 13, 14, 0x20⟩
    let f := fun (som : BitVec 3) (ws : List W) => (⟨.run, 1, false, 2999, 0, Vector.replicate 3 b, true, true, som, ws⟩ : InFrame)
    let r := svcHeader ⟨0x03, 9, 7, [1, 2, 3], 0, 0, false, none, false⟩
    svcFind s 0 .dev 7 = some msg ∧
    ((go (.inboundFrame 0 (some (f 0b100 [svcHeader ⟨0x04, 0, 7, [], 0, 0, false, none, false⟩, 0]))) s).lk 0).devQ = [] ∧
    (((go (.inboundFrame 0 (some (f 0b100 [r, 1]))) s).lk 0).rxDev.isSome = true) ∧
    ((go (.inboundFrame 0 none) (go (.inboundFrame 0 (some (f 0b100 [r, 1]))) s)).lk 0).rxDev = none := by decide +kernel

/-- R199: the answers and timeouts of service messages; R202: a drift inside and outside 4 ns; R298: the thermal block. -/
theorem test_services :
    let msg : SvcMsg := ⟨0x01, 7, 0, [0x10, 5], 2936, 0, false, none, false⟩
    let s := (upLink 0 s0).modLk 0 fun x => { x with devQ := [msg], xEnd := 300, sOff := 20, sReady := 38 }
    let read := { msg with kind := 0x02, words := [0x10010] }
    svcFind s 0 .dev 7 = some msg ∧ ((go (.svcAck 0 .dev 7) s).lk 0).devQ = [] ∧ ((go (.svcNak 0 .dev 7 3) s).lk 0).devQ = [] ∧
    ((go (.svcResendTimeout 0 .dev 7) s).lk 0).devQ = [{ msg with queued := true, resends := 1 }] ∧
    (let s1 := s.modLk 0 fun x => { x with devQ := [{ msg with sent := 2937 }] }
     still (.svcResendTimeout 0 .dev 7) s1 = true) ∧
    (let s1 := s.modLk 0 fun x => { x with devQ := [{ msg with resends := 4 }] }
     let t := go (.svcResendTimeout 0 .dev 7) s1
     (t.lk 0).st = .train ∧ (t.lk 0).fast = true ∧ (t.lk 0).evt.getLsbD 6 = true) ∧
    (let s1 := s.modLk 0 fun x => { x with devQ := [read] }
     ((go (.svcAck 0 .dev 7) s1).lk 0).reads = [(false, read)] ∧ ((go (.svcAck 0 .dev 7) s1).lk 0).devQ = []) ∧
    (let s1 := s.modLk 0 fun x => { x with devQ := [], reads := [(false, read)] }
     let t := go (.rdata 0 .dev ⟨7, 33⟩ [99]) s1
     svcKnown s1 0 .dev 33 = false ∧ s1.upe.phase = .idle ∧ (t.lk 0).rdata = [99] ∧ (t.lk 0).reads = [] ∧
     svcKnown t 0 .dev 33 = true ∧ (t.lk 0).devQ.map (fun m => (m.kind, m.arg)) = [(0x04, 33)] ∧
     ((go (.rdata 0 .dev ⟨7, 33⟩ [98]) t).lk 0).devQ.map (fun m => (m.kind, m.arg)) = [(0x04, 33), (0x04, 33)] ∧
     ((go (.rdata 0 .dev ⟨7, 33⟩ [98]) t).lk 0).rdata = [99]) ∧
    ((go (.capture 0 [1, 2]) s).lk 0).capture = [1, 2] ∧
    ((go (.capture 0 [1, 2]) (s.modLk 0 fun x => { x with version := 1 })).lk 0).capture = [] ∧
    ((go (.frameEndAdjust 0 474000) s).lk 0).xEnd = 300 ∧
    (let s1 := s.modLk 0 fun x => { x with xEnd := 600 }
     ((go (.frameEndAdjust 0 474001) s1).lk 0).st = .train ∧ ((go (.frameEndAdjust 0 474001) s1).lk 0).fast = true) ∧
    (let t := go (.thermalBlockRead 0 1 none) s
     (vat t.tmu.ch 1 Therm.init).noblock = true ∧ (vat t.tmu.ch 1 Therm.init).band = 1 ∧
     (rz t 6 .ce 0x0205 || rz t 6 .uc 0x0205) = true) := by
  decide +kernel

/-- R297: a thermal block that the device can use: resistances, capacities, weights, limits and thresholds in order. -/
def blk : List W :=
  (List.range 32).map fun k =>
    if k < 4 then 0x3F800000 else if k < 12 then 0x3F800000 else if k = 12 then 0x3F800000 else if k = 13 then 0x3F000000
    else if k = 14 then 0x3F400000 else if k = 15 then 0x3F800000 else if k < 20 then 0x42C80000 else if k < 24 then 0x42F00000
    else if k < 28 then 0x43020000 else 0x43160000

theorem test_block :
    thermUsable blk = true ∧
    (let t := go (.thermalBlockRead 0 1 (some blk)) (upLink 0 s0)
     (vat t.tmu.ch 1 Therm.init).blk = some blk ∧ (vat t.tmu.ch 1 Therm.init).noblock = false) := by decide +kernel

/-- R207: SLC_CTRL on a device alone, and with a channel of the link live. -/
theorem test_slc_ctrl :
    let s := upLink 0 s0
    let v := s.modCh 2 fun x => { x with st := .hold }
    s.clk.chip = .run ∧ s.prl.role = .solo ∧ linkLive s 0 = false ∧ linkLive v 0 = true ∧
    ((go (.slcEnable 0 true) s0).lk 0).enable = true ∧
    ((go (.slcEnable 0 false) s).lk 0).enable = false ∧ ((go (.slcEnable 0 false) s).lk 0).st = .down ∧
    ((go (.slcEnable 0 false) v).lk 0).enable = true ∧ ((go (.slcRetrain 0) v).lk 0).st = .up ∧
    ((go (.slcReset 0) v).lk 0).st = .up ∧
    ((go (.slcRetrain 0) s).lk 0).st = .train ∧ ((go (.slcRetrain 0) s).lk 0).fastTrains = 1 ∧
    ((go (.slcReset 0) s).lk 0).st = .down := by decide +kernel

/-! Thermal model, ledgers, recorder, events. -/

/-- R299, R301, R303: an evaluation begins with TAMB where TC modulo 100 is 0 and stands from the tick after; it starts the model of a
channel with a block at TAMB; then the nodes move by their flows. -/
theorem test_tmu :
    let put := fun (x : Therm) => { s0 with tmu := { s0.tmu with ch := vput s0.tmu.ch 5 x } }
    let s : State := put { Therm.init with blk := some blk }
    let hot : Therm := { Therm.init with blk := some blk, fresh := false, run := true, t := Vector.replicate 4 0x42480000 }
    s.clk.chip = .run ∧ hasSensor s 5 = true ∧
    hasSensor (s.modLk 1 fun x => { x with hello := hello.set 5 0x00FF0000 }) 5 = false ∧
    tmuRuns s = true ∧ s.clk.tc.toNat % 100 = 0 ∧ (go .tmuEvaluation s0).tmu.due = some 0x42200000 ∧
    (go .tmuEvaluation s0).tmu.evals = 0 ∧ tmuRuns (tmuEvaluate s0) = true ∧ (tmuEvaluate s0).tmu.evals = 0 ∧
    (go .tmuEvaluation { s0 with clk := { s0.clk with tc := 3001 } }).tmu.due = none ∧
    (let u := tmuEvaluate (go .tmuEvaluation (s.modLk 1 fun x => { x with hello := hello.set 5 0x00FF0000 }))
     u.tmu.evals = 1 ∧ u.tmu.run = true ∧ u.tmu.due = none ∧ vat (vat u.tmu.ch 5 Therm.init).t 3 0 = 0x42200000 ∧
     (vat u.tmu.ch 5 Therm.init).run = true ∧ (vat u.tmu.ch 5 Therm.init).fresh = false) ∧
    (let u := tmuEvaluate (go .tmuEvaluation (put hot))
     vat (vat u.tmu.ch 5 Therm.init).t 3 0 =
       fadd 0x42480000 (fmul (fdiv tmuDt 0x3F800000) (fsub (fdiv 0 0x3F800000) (fdiv 0x41200000 0x3F800000)))) ∧
    (go (.tmuTambWrite 0x41A00000) s0).tmu.tamb = 0x41A00000 ∧ (go (.tmuTambWrite 0x7F800000) s0).tmu.tamb = 0x42200000 := by
  decide +kernel

/-- R277, R294: a gap, and the latching read of QLO. -/
theorem test_ledger :
    let m := fun (n : Nat) =>
      ({ s0 with clg := vmod s0.clg 63 fun x => { x with chan := some 4, q := 0x500000007, missing := n } } : State)
    let s := m 64
    (let x := vat (go (.ledgerGap 63) s).clg 63 Ledger.init
     x.gap = true ∧ x.gaps = 1 ∧ x.missing = 64) ∧
    (vat (go (.ledgerGap 63) (m 63)).clg 63 Ledger.init).gap = false ∧
    (vat (go (.ledgerGap 0) s).clg 0 Ledger.init).gap = false ∧
    (vat (go (.clgQloRead 63) s).clg 63 Ledger.init).qHi = 5 ∧
    (vat (go (.clgQloRead 63) { s with clk := { s.clk with chip := .dormant } }).clg 63 Ledger.init).qHi = 0 := by decide +kernel

/-- The recorder in use with two blocks of espresso, n rows in block 0, and stream 1 open. -/
def rec_ (n : Nat) : State :=
  let b := s0.bbr
  { s0 with bbr := { b with
    run := true
    esp := { b.esp with blks := [{ Blk.init with rows := n, seq := 4 }, Blk.init], isOpen := true, opn := 0, seq := 4, nrows := n }
    strm := vput b.strm 1 { Strm.init with isOpen := true, credit := 1, gaps := [⟨0, 1, 2, 3, 0⟩], tiers := 9 } } }

/-- R232, R235: a row; the close of a full block. -/
theorem test_recorder_row :
    let s := rec_ 63
    recRuns s = true ∧ rowsPer s.bbr 0 = 64 ∧
    (let u := go .recorderRow s
     u.bbr.esp.nrows = 64 ∧ (blkOf u.bbr 0 0).rows = 64 ∧ (blkOf u.bbr 0 0).last = 2999 ∧ u.bbr.esp.opn = 0) ∧
    (let s1 := rec_ 64
     nextBlk s1.bbr 0 = some 1 ∧
     (let u := go (.blockClose .espresso) s1
      u.bbr.esp.opn = 1 ∧ u.bbr.esp.isOpen = true ∧ u.bbr.esp.seq = 5 ∧ u.bbr.esp.lastSeq = 4 ∧
      (blkOf u.bbr 0 0).closed = true ∧
      (blkOf u.bbr 0 1).rows = 0)) ∧
    (go (.blockClose .espresso) s).bbr.esp.opn = 0 ∧ recRuns s0 = false ∧
    (go .recorderRow { s with bbr := { s.bbr with esp := { s.bbr.esp with rowTick := 3000 } } }).bbr.esp.nrows = 63 ∧
    (go .recorderRow { s with bbr := { s.bbr with esp := { s.bbr.esp with rowTick := 2999 } } }).bbr.esp.nrows = 64 := by decide +kernel

/-- R241, R248: a window that is complete; the slot of a gap record, and no slot without credit. -/
theorem test_windows :
    let s1 := rec_ 5
    let s : State := { s1 with bbr := { s1.bbr with trig := vmod s1.bbr.trig 31 fun g => { g with st := .fired, decl := true } } }
    let w : State := { s with bbr := { s.bbr with trig := vmod s.bbr.trig 31 fun g => { g with left := [0, 1, 0] } } }
    (trg (go (.triggerFrozen 31) s) 31).st = .frozen ∧ (trg (go (.triggerFrozen 31) w) 31).st = .fired ∧ (trg (go (.triggerFrozen 30) s) 30).st = .idle ∧
    nextItem s.bbr 1 = some (.gap ⟨0, 1, 2, 3, 0⟩) ∧
    (let u := go (.exportSlotWrite 1) s
     (stm u 1).sent = 1 ∧ (stm u 1).credit = 0 ∧ (stm u 1).gaps = []) ∧
    (stm (go (.exportSlotWrite 0) s) 0).sent = 0 ∧ (stm (go (.exportSlotWrite 1) (go (.exportSlotWrite 1) s)) 1).sent = 1 := by
  decide +kernel

/-- R228, R376: an occurrence writes its record; the next in its window is counted; the window's end writes the count. -/
theorem test_events :
    let s1 := go (.hardwareFaultDetected 4 .uc 0x21 7) s0
    let s2 := go (.hardwareFaultDetected 4 .uc 0x21 7) s1
    let late : State := { s2 with clk := { s2.clk with ts := 160000, tc := 3200 } }
    let late1 : State := { s1 with clk := late.clk }
    codeOffers 4 0x21 = true ∧ codeOffers 768 2 = true ∧ (winOf s2 4 .uc).map (·.ends) = some 3200 ∧
    srcOffers 4 .uc = true ∧ engOfSrc 4 = none ∧ winOf s0 4 (promoted s0 4 .uc) = none ∧
    mayWrite s0 (promoted s0 4 .uc) = true ∧
    s0.fcr.held = [] ∧ rz s1 4 .uc 0x21 = true ∧ s1.kio.eq.used = 1 ∧ s1.kio.evSeq = 1 ∧ s2.kio.eq.used = 1 ∧
    (winOf s2 4 .uc).map (·.count) = some 1 ∧
    (go (.eventWindowEnd 4 .uc) late).kio.eq.used = 2 ∧ (winOf (go (.eventWindowEnd 4 .uc) late) 4 .uc).map (·.ends) = some 3400 ∧
    winOf (go (.eventWindowEnd 4 .uc) late1) 4 .uc = none ∧
    (go (.eventWindowEnd 4 .uc) { s2 with clk := { s2.clk with ts := 159950, tc := 3199 } }).kio.eq.used = 1 ∧
    srcOffers 4 .fe = false ∧ rz (go (.hardwareFaultDetected 4 .fe 0 0) s0) 4 .fe 0 = false ∧
    (let s3 := run 0 .l []
     engOfSrc 768 = some 0 ∧ runningCtx s3 0 = some 0 ∧ ((go (.hardwareFaultDetected 768 .uc 2 0) s3).cx 0).rel = none ∧
     rz (go (.hardwareFaultDetected 768 .uc 2 0) s3) 768 .uc 2 = true) := by decide +kernel

/-- R229, R378: a record is held while there is no session or no room, and written when there is; the end of a block reset. -/
theorem test_held :
    let h : HeldRec := ⟨4, .uc, 2, 0x21, 100, 0, 0x1FF, 0xFFFF, false⟩
    let s : State := { s0 with fcr := { s0.fcr with held := [h] } }
    let f : State := { s with kio := { s.kio with eq := { s.kio.eq with used := 4032 } } }
    let w : State := { s0 with fcr := { s0.fcr with win := [(4, .uc, ⟨3000, 2, 0x21, 100, 0, 0x1FF, 0xFFFF⟩)] } }
    let wf : State := { w with kio := f.kio }
    (mayWrite s .uc = true ∧ (go .heldRecordWrite s).fcr.held = [] ∧ (go .heldRecordWrite s).kio.eq.used = 1) ∧
    (mayWrite f .uc = false ∧ (go .heldRecordWrite f).fcr.held = [{ h with held := true }]) ∧
    (mayWrite wf .uc = false ∧ ((go (.eventWindowEnd 4 .uc) wf).fcr.held.map fun x => (x.src, x.count)) = [(4, 2)]) ∧
    (go .heldRecordWrite s0).kio.eq.used = 0 ∧
    (let b : State := { s0 with fcr := { s0.fcr with brst := [(953, 1)] } }
     offersBrst 953 = true ∧ (assocGet b.fcr.brst 953).isSome = true ∧ assocGet (go (.brstResume 953) b).fcr.brst 953 = none ∧
     rz (go (.brstResume 953) b) 953 .ce 0xF0 = true ∧
     assocGet (go (.brstResume 952) b).fcr.brst 953 = some 1) := by decide +kernel

/-- R384 to R390: the chip reset that CRST starts, self-tests and monitors. -/
theorem test_monitors :
    let c : State := { s0 with fcr := { s0.fcr with crst := some 3000 }, nvs := { s0.nvs with cells := [(5, 1)] } }
    (go .chipResetTimer { c with fcr := { c.fcr with crst := some 3001 } }).clk.chip = .run ∧ ((go .chipResetTimer c).clk.chip = .reset ∧ (go .chipResetTimer c).nvs.cells = [(5, 1)]) ∧
    (go .chipResetTimer s0).clk.chip = .run ∧
    (go (.fcrRoutingSelftest true) s0).fcr.selftests = 1 ∧ rs (go (.fcrRoutingSelftest false) s0) 984 .fe = true ∧
    rs (go .scrubOverdue s0) 985 .uc = true ∧ rs (go (.pinReadbackMismatch true) s0) 990 .uc = true ∧
    rs (go (.dieTemperature true) s0) 991 .uc = true ∧ rs (go (.dieTemperature false) s0) 991 .ce = true ∧
    (vat (go (.controlLogicSelftest (.le 47) true) s0).eng 47 EngStat.init).stpass = 1 ∧
    rz (go (.controlLogicSelftest (.ue 3) false) s0) 871 .uc 7 = true ∧
    (let f := s0.modEng 0 fun x => { x with fenced := true }
     (f.engine (engOf (.le 0))).fenced = true ∧
     (vat (go (.controlLogicSelftest (.le 0) true) f).eng 0 EngStat.init).stpass = 0) := by
  decide +kernel

/-- R385, R386: a unit that READMIT tests comes back, or not; REBALANCE shadows the plan and switches. -/
theorem test_readmit :
    let k := { kc 0x0501 2 [] with begun := true }
    let s : State := (acc [k] s0).modEng 7 fun x => { x with fenced := true }
    let r : State := { s with fcr := { s.fcr with readmit := some (.le 7, 9) } }
    kByTag r 9 = some k ∧ r.prl.role = .solo ∧
    (let u := go (.readmitSelftestEnd (.le 7) true) r
     (u.engine 7).fenced = false ∧ u.fcr.spareLe.getLsbD 7 = true ∧ u.fcr.readmit = none ∧ cpl r u k 0 0 = true) ∧
    (let u := go (.readmitSelftestEnd (.le 7) false) r
     (u.engine 7).fenced = true ∧ u.fcr.readmit = none ∧ cpl r u k 0x39 0 = true) ∧
    (go (.readmitSelftestEnd (.le 7) true) s).fcr.readmit = none ∧
    (let pl : List Place := [⟨5, 1, 8, 0, false⟩]
     let s0 := (inForce [(tk .l, 0)] [cd 0, cd 4] s0).modCx 0 fun x => { x with loc := Memory.writeW [] 8 77 }
     let sh := fun (e : Nat) => { s0 with adm := { s0.adm with shadow := some (e, 9, pl) }, fcr := { s0.fcr with spareLe := 2 } }
     s0.prl.role = .solo ∧ (placeOf s0 5).map (·.ctx) = some 0 ∧ taskNo s0 5 = some (tk .l) ∧
     Memory.readW ((go .rebalanceShadowStart (sh 3000)).cx 8).loc 8 = 77 ∧
     (go .rebalanceShadowStart (sh 3000)).adm.place = s0.adm.place ∧ still .rebalanceShadowStart (sh 2999) = true ∧
     (go .rebalanceSwitch (sh 1000)).adm.place = pl ∧ (go .rebalanceSwitch (sh 1000)).adm.shadow = none ∧
     (go .rebalanceSwitch (sh 1000)).fcr.spareLe = 0 ∧ still .rebalanceSwitch (sh 1001) = true ∧
     still .rebalanceSwitch (sh 0) = true ∧ still .rebalanceSwitch s0 = true) := by decide +kernel

/-! Updates: a signed manifest of one firmware part of length 0 for every device (Tables 20.2 and 20.3). The signature has
u1 = u2 = 1 (FIPS 186-4): the key is the point of x-coordinate z less the base point. -/

/-- The manifest's words. -/
def manifest : List W :=
  [0x4B564D46, 0x01000001, 0x000000E0, 0x00000000, 0x00000001, 0x0000000A, 0x00000001, 0x00000000,
   0x00000000, 0x00000000, 0x00000000, 0x00000000, 0x00000000, 0x00000000, 0x00000000, 0x00000000,
   0x010003FF, 0x00000000, 0x02030007, 0x00000000, 0xA760B038, 0x3896AC51, 0x7E32D94C, 0x6AE3B1B1,
   0x11B7FD21, 0x4307BE14, 0xBFC70C4C, 0xDAE1F663, 0xBFDE4E27, 0xFB656FE7, 0xF1D21AD5, 0x5BB99848]
  ++ [0x6246DA7D, 0x16399B8F, 0x1F650BD1, 0x3AA80AC6, 0x302DD0F0, 0xF933E026, 0x6E7FADA0, 0x8F95A1A3,
   0xFAB00883, 0x26E65CA7, 0x6B5389A1, 0x02951ACA, 0x6246DA7D, 0x16399B8F, 0x1F650BD1, 0x3AA80AC6,
   0x302DD0F0, 0xF933E026, 0x6E7FADA0, 0x8F95A1A3, 0xFAB00883, 0x26E65CA7, 0x6B5389A1, 0x02951ACA]

/-- The public key in OTP. -/
def key0 : Nat × Nat :=
  (0x8D95F20C6C4792D81C2B858720D92AC0347E706FE27AE6D7C1B28A4B0D20E94DAC01AACA995B436801896E44B9A1EDA4,
   0x667AC57BF6F1D13FE5356AFB334CD9965750CB2DDDEB357249DCA7B590713A46636C7E1A8D35F383CF39AA0B2DB6514C)

/-- The device with that key, its manifest staged in the inactive slot. -/
def upd (f : Upe → Upe) : State :=
  { s0 with upe := f { s0.upe with
    otpKeys := vput s0.upe.otpKeys 0 key0, flash := Memory.writeWs [] 0x80000 manifest, staged := 3 } }

/-! Supplies, start-up, the store engine and admission. -/

/-- The device with its store engine as f makes it. -/
def nv (f : Nvs → Nvs) : State := { s0 with nvs := f s0.nvs }

/-- The device in a chip state. -/
def chip (c : ChipSt) (s : State) : State := { s with clk := { s.clk with chip := c } }

/-- R401, R403, R463: a supply, PFAIL in RUN, during a recall and in the sequence, its release. -/
theorem test_supply :
    let s := upLink 4 (nv fun x => { x with dirty := [3, 9], cells := [(5, 1)], win := [(5, 2)] })
    let d := nv fun x => { x with recalling := true }
    ((go (.supplyOutOfWindow 3) State.reset).boot.supplyOut = 8 ∧ rs (go (.supplyOutOfWindow 3) State.reset) 976 .fe = false) ∧
    ((go (.supplyOutOfWindow 3) s0).boot.supplyOut = 8 ∧ rs (go (.supplyOutOfWindow 3) s0) 976 .fe = true) ∧
    (let u := go .pfailAssert State.reset
     u.nvs.pfailIn = true ∧ u.clk.chip = .reset ∧ u.nvs.pfSeq = false) ∧
    (let u := go .pfailAssert d
     rs u 980 (promoted d 980 .ce) = true ∧ u.clk.chip = .store ∧ u.nvs.recalling = false ∧ u.nvs.pfSeq = true ∧
     u.nvs.storing = false) ∧
    (let u := go .pfailAssert s
     rs u 980 (promoted s 980 .ce) = true ∧ u.clk.chip = .store ∧ u.nvs.storing = true ∧ u.nvs.pfStore = true ∧
     u.nvs.todo.contains 3 = true ∧ u.nvs.todo.contains 9 = true ∧ u.fcr.alive = false ∧ u.jnb.ja.hop = .down ∧
     u.prl.link = .down ∧ u.bbr.esp.isOpen = false ∧ (s.lk 4).st = .up ∧ (u.lk 4).finals = 4) ∧
    (go .pfailRelease s).nvs.released = some 3000 ∧
    (let v := go .vnvLow { s with nvs := { s.nvs with storing := true } }
     v.nvs.vnvLow = true ∧ v.nvs.storing = false ∧ v.nvs.cells = [(5, 1)] ∧ v.nvs.win = [(5, 2)]) := by decide +kernel

/-- R402, R433: the store's exit, RST_N and the release of the reset. -/
theorem test_reset_rows :
    let at_ := fun (t : Nat) (s : State) => { s with clk := { s.clk with ts := BitVec.ofNat 64 (50 * t), tc := BitVec.ofNat 48 t } }
    let s := nv fun x => { x with pfSeq := true, cells := [(5, 1)], released := some 3000 }
    (go .storeExitReset (at_ 23000 s)).clk.chip = .reset ∧ (go .storeExitReset (at_ 23000 s)).nvs.cells = [(5, 1)] ∧
    (go .storeExitReset (at_ 22999 s)).clk.chip = .run ∧
    (go .storeExitReset (at_ 23000 { s with nvs := { s.nvs with pfailIn := true } })).clk.chip = .run ∧
    (go .storeExitReset (at_ 23000 { s with nvs := { s.nvs with storing := true } })).clk.chip = .run ∧
    (go .storeExitReset s0).clk.chip = .run ∧
    (let u := go .rstNAssert (shared [(0, 5)] { s with pending := [.resetRelease] })
     u.clk = State.reset.clk ∧ (u.cx 5).task = none ∧ (u.ch 5).st = .off ∧ u.adm.img = none ∧ u.boot.rstLow = true ∧
     u.nvs.cells = [(5, 1)] ∧ u.shared = [] ∧ u.nvs.win = [] ∧ u.pending = [.resetRelease]) ∧
    (let u := go .resetRelease State.reset
     u.clk.chip = .boot ∧ u.clk.tickRun = true ∧ u.nvs.recalling = true ∧ u.boot.stage = 1 ∧ u.clk.tc = 0) ∧
    (go .resetRelease s0).clk.chip = .run := by decide +kernel

/-- R210, R434: the straps; PERST# and the host link. -/
theorem test_straps :
    let s : State := { s0 with boot := { s0.boot with latched := true } }
    (let u := go (.strapLatch 0x000105) (chip .boot s0)
     u.boot.straps = 0x0105 ∧ u.boot.latched = true ∧ u.boot.strapBad = false ∧ u.prl.role = .standby ∧ u.prl.pst = .seek ∧
     u.prl.strapped = true ∧ u.prl.side = true) ∧
    (let u := go (.strapLatch 0x000006) State.reset
     u.boot.strapBad = true ∧ u.prl = State.reset.prl) ∧
    (go (.strapLatch 7) s).boot.straps = 0 ∧ (go (.strapLatch 7) s0).boot.latched = false ∧
    (let u := go .perstAssert s
     u.kio.perst = true ∧ u.kio.pcieLanes = 0 ∧ u.kio.isOpen = false ∧ u.kio.msixOn = false) ∧
    (let u := go (.hostLinkEvent .hotReset) s
     u.kio.perst = false ∧ u.kio.pcieLanes = strapLanes 0 ∧ u.kio.isOpen = false) ∧
    (let u := go (.hostLinkEvent .d3hot) s
     u.kio.d3 = true ∧ u.kio.perst = false ∧ u.kio.isOpen = false ∧ (go (.hostLinkEvent .d0) u).kio.d3 = false) ∧
    (go .perstAssert (chip .boot s)).kio.isOpen = true ∧
    (let u := go (.hostLinkEvent (.msix true 4)) { s with kio := { s.kio with msixPend := 6 } }
     u.kio.msixOn = true ∧ u.kio.msixMask = 4 ∧ u.kio.msixPend = 4) ∧
    (let u := go .perstRelease { s with kio := { s.kio with perst := true } }
     u.kio.perst = false ∧ u.kio.isOpen = true ∧ u.kio.pcieLanes = strapLanes 0) ∧
    rs (go (.hostLinkEvent .aer) s) 961 .uc = true ∧
    (let u := go (.hostLinkEvent (.downtrain 1 2)) s
     rs u 961 .uc = true ∧ u.kio.pcieSpeed = 1 ∧ u.kio.pcieLanes = 2) ∧
    (let u := go (.hostLinkEvent .down) s
     rs u 961 .uc = true ∧ u.kio.pcieLanes = 0 ∧ u.kio.isOpen = false) ∧
    rs (go (.hostLinkEvent .aer) State.reset) 961 .uc = false := by decide +kernel

/-- The device in BOOT at a stage, its firmware not yet started. -/
def bt (stage : BitVec 4) : State :=
  let s := chip .boot s0
  { s with boot := { s.boot with stage := stage, latched := true }, kio := { s.kio with fwReady := false } }

/-- R435, R436: the start of the firmware, a failure of the ROM, and a GO whose parts are not there. -/
theorem test_boot :
    let n : State := { bt 5 with nvs := { s0.nvs with ready := false } }
    (let u := go (.firmwareStart 7) (bt 5)
     u.kio.fwReady = true ∧ u.boot.stage = 6 ∧ u.boot.fwTick = 3000 ∧ u.clk.chip = .run ∧ u.tmu.run = true) ∧
    (go (.firmwareStart 7) n).clk.chip = .boot ∧ (go (.firmwareStart 7) n).kio.fwReady = true ∧
    (go (.firmwareStart 7) (bt 4)).kio.fwReady = false ∧ (go (.firmwareStart 7) s0).boot.stage = 0 ∧
    romCode (bt 2) = 2 ∧ (go (.firmwareStart 7) (bt 2)).kio.fwReady = false ∧
    (let u := go (.bootFail 2) (bt 2)
     u.boot.code = 2 ∧ u.boot.stage = 7) ∧
    (let u := go (.bootFail 1) (bt 3)
     u.boot.code = 1 ∧ u.boot.stage = 7) ∧
    (let b := bt 1
     let u := go (.bootFail 2) { b with boot := { b.boot with straps := 0x0008 } }
     strapSource 0x0008 ≠ 0 ∧ u.boot.code = 2 ∧ u.boot.stage = 4) ∧
    goCode (bt 4) = 7 ∧ (go .bootGo (bt 4)).boot.stage = 4 ∧ (go .bootGo (bt 4)).boot.code = 7 := by decide +kernel

/-- R436: the checks of GO pass on the signed manifest and its empty firmware part. -/
theorem test_go :
    let b := bt 4
    let s : State := { b with shared := Memory.writeWs [] 0 manifest, upe := { b.upe with otpKeys := vput b.upe.otpKeys 0 key0 } }
    goCode s = 0 ∧ (go .bootGo s).boot.stage = 5 ∧ (go .bootGo s).boot.fromHost = true := by decide +kernel

/-- Table 21.1, R415: the checks of the boot ROM pass on a directory and the same manifest in flash, and the firmware starts. -/
theorem test_rom :
    let b := bt 3
    let s := dirWrite { b with upe := { b.upe with
      flash := Memory.writeWs [] (flashMan b.upe.manSlot) manifest, otpKeys := vput b.upe.otpKeys 0 key0 } }
    romCode s = 0 ∧ (go (.firmwareStart 7) s).boot.stage = 6 := by decide +kernel

/-- R387, R388, R397, R398, R439: ALIVE, the recall, and the pair without its partner. -/
theorem test_alive_recall :
    let a : State := { s0 with fcr := { s0.fcr with errn := 4, errnOut := true } }
    let r : State := { bt 2 with nvs := { s0.nvs with recalling := true, ready := false, cells := [(40, 7), (300, 9)], dirty := [2] } }
    let p : State := { s0 with
      prl := { s0.prl with strapped := true, role := .standby, pst := .seek, link := .train }
      clk := { s0.clk with ts := 10000000, tc := 200000 } }
    ((go .aliveStart a).fcr.aliveRun = true ∧ (go .aliveStart a).fcr.errn = 0 ∧ (go .aliveStart a).fcr.errnOut = false) ∧
    (go .aliveStart (bt 2)).fcr.aliveRun = false ∧
    (let u := go (.nvRecallEnd []) r
     u.nvs.win = [(40, 7), (300, 9)] ∧ u.nvs.dirty = [] ∧ u.nvs.recalling = false ∧ u.nvs.ready = true ∧ u.clk = r.clk) ∧
    (let u := go (.nvRecallEnd [10]) r
     u.nvs.win = [(300, 9)] ∧ rz u 981 .uc 0x0904 = true ∧ u.nvs.evt.getLsbD 5 = true) ∧
    (go (.nvRecallEnd []) s0).nvs = s0.nvs ∧
    (let u := go .pairSeekTimeout p
     u.prl.role = .lead ∧ u.prl.pst = .seek) ∧
    (go .pairSeekTimeout { p with clk := { p.clk with ts := 9999950, tc := 199999 } }).prl.role = .standby ∧
    (go .pairSeekTimeout { p with prl := { p.prl with side := true } }).prl.role = .standby ∧
    (let a1 := go .aliveStart { a with fcr := { a.fcr with selftests := 5 } }
     a.fcr.selftestTick = none ∧ a1.fcr.selftests = 6 ∧ a1.fcr.selftestTick = some 3000 ∧
     (go .aliveStart { a with fcr := { a.fcr with selftestTick := some 7 } }).fcr.selftests = 0) ∧ (go .pairSeekTimeout s0).prl.role = .solo := by decide +kernel

/-- An empty image: its header, its plan section of no tasks and its CRC (Table 6.1). -/
def image0 : List W :=
  [0x4B565049, 1, 80, 0x8A756C0F, 1, 2, 3, 4, 0, 0, 0, 0, 0, 0, 0, 0, 0x01000000, 80, 0, 0]

/-- Its SHA-384 as words. -/
def image0Hash : List W :=
  [0xDB2E678F, 0xAC6B0D49, 0xE705269D, 0x1416F66A, 0x17282AB9, 0xA157CC67, 0xF71D6878, 0x18579BD8, 0x7BB22E14, 0x89D6C514, 0xC934D93F, 0x40F24948]

/-- The device that boots from its flash: a manifest with the image as its part. -/
def fl (h : List W) : State :=
  let m := ([0x4B564D46, 0x01000001] ++ List.replicate 14 0) ++ [0x02000000, 0, 1, 80] ++ h
  { s0 with upe := { s0.upe with
    flash := Memory.writeWs (Memory.writeWs [] (flashMan s0.upe.manSlot) m) (flashImg s0.upe.imgSlot) image0 } }

/-- Its IMAGE_CRC, 20 bytes at a time. -/
theorem image0_crc : imgCrc image0 = 0x8A756C0F := by
  have h : bytesOfWords (image0.take 3 ++ 0 :: image0.drop 4) = bytesOfWords (image0.take 3 ++ [0, 1]) ++
      bytesOfWords [2, 3, 4, 0, 0] ++ bytesOfWords [0, 0, 0, 0, 0] ++ bytesOfWords [0, 0x01000000, 80, 0, 0] := by decide +kernel
  have h1 : (bytesOfWords (image0.take 3 ++ [0, 1])).foldl crc32cByte 0xFFFFFFFF = 0xAD0E9741 := by decide +kernel
  have h2 : (bytesOfWords [2, 3, 4, 0, 0]).foldl crc32cByte 0xAD0E9741 = 0x599C90C7 := by decide +kernel
  have h3 : (bytesOfWords [0, 0, 0, 0, 0]).foldl crc32cByte 0x599C90C7 = 0x64C51BD7 := by decide +kernel
  have h4 : ~~~((bytesOfWords [0, 0x01000000, 80, 0, 0]).foldl crc32cByte 0x64C51BD7) = 0x8A756C0F := by decide +kernel
  unfold imgCrc crc32cW crc32c
  rw [h, List.foldl_append, List.foldl_append, List.foldl_append, h1, h2, h3, h4]

/-- The flash with the right hash. -/
def goodFlash : State := fl image0Hash

/-- R440: the boot image that is there passes the checks of step 1. -/
theorem test_boot_image_good : bootImage goodFlash = .ok image0 ∧ (activePart goodFlash 2).isSome = true ∧
    (candOf image0 none).img.links = [] := by
  have h1 : activePart goodFlash 2 = some ⟨2, 0, 0, 1, 80, image0Hash⟩ := by decide +kernel
  have h2 : (wordsOfBytes (sha384 (flashBytes goodFlash (flashImg goodFlash.upe.imgSlot) 80)) != image0Hash) = false := by
    decide +kernel
  have h3 : flashWords goodFlash (flashImg goodFlash.upe.imgSlot) (80 / 4) = image0 := by decide +kernel
  have h4 : framingOk image0 (some 80) = true := by
    unfold framingOk
    rw [image0_crc]
    decide +kernel
  refine ⟨?_, by rw [h1]; rfl, by decide +kernel⟩
  unfold bootImage
  rw [h1]
  simp [h2, h3, h4]

/-- R441: a wrong hash is refused; outside RUN nothing is admitted. -/
theorem test_boot_image :
    let b := fl (List.replicate 12 0)
    let bad : State := { b with jnb := { b.jnb with st := 4 } }
    let late := fun (n : Nat) => { b with clk := { b.clk with ts := BitVec.ofNat 64 (50 * n), tc := BitVec.ofNat 48 n } }
    bootJoinWaited bad = true ∧ bootJoinWaited b = false ∧ bootLinksWaited (late 10000) = true ∧
    bootJoinWaited (late 19999) = false ∧ bootJoinWaited (late 200000) = true ∧
    (go .bootImageAdmit b).boot.imageDone = false ∧ bad.upe.phase = .idle ∧
    (activePart bad 2).isSome = true ∧ (match bootImage bad with | .ok _ => false | .error c => c == 5) = true ∧
    (go .bootImageAdmit bad).boot.imageDone = true ∧ rz (go .bootImageAdmit bad) 982 .uc 0x0A05 = true ∧
    (go .bootImageAdmit (chip .boot bad)).adm.st = 0 := by decide +kernel

/-- R399, R400, R406, R410: a page of a store, its start and its end; a counter; NV_STORE. -/
theorem test_store :
    let s := nv fun x => { x with storing := true, todo := [1, 2], dirty := [1, 2, 3], win := [(256, 7), (512, 8)], cells := [(260, 9)] }
    let w := nv fun x => { x with waiting := [(9, [1]), (8, [])], dirty := [1] }
    let k := kc 0x0601 2 [(3, 1)]
    let a := acc [k] s0
    storeOk s = true ∧
    (let u := go .nvStoreRun s
     u.nvs.todo = [2] ∧ u.nvs.written = 1 ∧ u.nvs.dirty = [2, 3] ∧ u.nvs.win = s.nvs.win ∧ u.nvs.cells = [(256, 7)]) ∧
    (let u := go .nvStoreRun w
     u.nvs.storing = true ∧ u.nvs.waiting = [(8, [])] ∧ u.nvs.tag = some 9 ∧ u.nvs.pfStore = false) ∧
    (go .nvStoreRun { s with nvs := { s.nvs with vnvLow := true } }).nvs.todo = [1, 2] ∧
    (let u := go .nvStoreEnd s
     u.nvs.storing = false ∧ u.nvs.todo = [] ∧ u.nvs.stores = 1 ∧ u.nvs.dirty = [3]) ∧
    (go .nvStoreEnd s0).nvs.stores = 0 ∧
    (let u := go .counterIncrement (nv fun x => { x with pendInc := [4, 5], dirty := [1] })
     u.nvs.pendInc = [5] ∧ u.nvs.dirty = [1]) ∧ (go .counterIncrement s0).nvs = s0.nvs ∧
    kFind a 0x0601 9 = some k ∧ mgpRuns a = true ∧ (k.arg 3).bit 0 = true ∧
    cpl a (go (.nvStore 9 none) a) k 0x25 0 = true ∧ (go (.nvStore 9 (some [3, 4095])) a).nvs.waiting = [(9, [3, 4095])] ∧
    (let k0 := kc 0x0601 2 []
     let a := acc [k0] s0
     (k0.arg 3).bit 0 = false ∧ (go (.nvStore 9 none) a).nvs.waiting = [(9, [])]) := by decide +kernel

/-- A report of the checks with a result. -/
def rep (r : Nat) : Report := ⟨r, 0, 0, 0, 0, 0, 0, 0, 0, 0⟩

/-- An admission of an image with tasks, with its report. -/
def admR (ts : List Task) (r : Nat) (e : Option Nat) (st : BitVec 2) : State :=
  { s0 with adm := { s0.adm with st := st, run := some ⟨none, im ts [], [], rep r, 2900, e.isSome, e⟩ } }

/-- R130 to R132: the ends of an admission's checks and preload, and the activation. -/
theorem test_admission :
    let ok := admR [] 0 none 1
    let no := admR [] 0x41 none 1
    let pre := admR [] 0 none 2
    let wait := admR [] 0 (some 2) 2
    let act := admR [] 0 (some 1) 2
    let bare := fun (s : State) => { s with nvs := { s.nvs with recalling := false } }
    (ok.adm.run.elim false fun r => (finalReport ok r).result == 0) = true ∧ (go .admissionEnd ok).adm.st = 2 ∧
    (no.adm.run.elim false fun r => (finalReport no r).result != 0) = true ∧
    (let u := go .admissionEnd no
     u.adm.st = 0 ∧ u.adm.run = none ∧ u.adm.lastResult = 0x41 ∧ rz u 982 .uc 0x0A08 = true) ∧
    ((go .preloadEnd (bare pre)).adm.run.map fun r => (r.preloaded, r.epoch)) = some (true, some 2) ∧ pre.epoch = 1 ∧ act.epoch = 1 ∧ act.kio.accepted = [] ∧
    (go .planActivation wait).adm.st = 2 ∧
    (let sh : State := { s0 with adm := { s0.adm with shadow := some (0, 9, []) } }
     (go .preloadEnd sh).adm.shadow = some (4000, 9, [])) ∧
    placesNow (im [] []) [] (fencedSet act) (fencedSU act) = some [] ∧
    (let u := go .planActivation act
     u.adm.img = some (im [] []) ∧ u.adm.st = 0 ∧ u.adm.run = none ∧ u.adm.actEpoch = 1) := by decide +kernel

/-- Table 9.5 and R113: TABLE_SAVE of a task that is not there and of one that has a record; a module that does not answer. -/
theorem test_ends_of_commands :
    let b := fun (cmd : Nat) (n : W) => { kc cmd 2 [(3, n)] with begun := true }
    let t : Task := { tk .l with tblrec := [(false, 0x1234), (true, 0x1235)] }
    let s := inForce [(t, 3)] [] s0
    let u := go (.tableSaveEnd 9) (acc [b 0x0208 6] s)
    let m := acc [b 0x0301 0] (upLink 5 s0)
    kBegun (acc [b 0x0208 6] s) 0x0208 9 = some (b 0x0208 6) ∧ taskNo (acc [b 0x0208 6] s) 6 = none ∧
    cpl (acc [b 0x0208 6] s) u (b 0x0208 6) 0x38 0 = true ∧
    ((((b 0x0208 5).arg 3).bits 15 0 = 5 ∧ taskNo s 5 = some t ∧ tableRec t 0 = some 0x1234 ∧ ctxOf s 5 = some 3) ∧
     (cpl (acc [b 0x0208 5] s) (go (.tableSaveEnd 9) (acc [b 0x0208 5] s)) (b 0x0208 5) 0 0 = true ∨
      cpl (acc [b 0x0208 5] s) (go (.tableSaveEnd 9) (acc [b 0x0208 5] s)) (b 0x0208 5) 0x3A 0 = true)) ∧
    cpl m (go (.moduleNoAnswer 9) m) (b 0x0301 0) 0x37 0 = true ∧ (go (.moduleNoAnswer 9) s0).kio.accepted = [] := by
  decide +kernel

/-! The host: session, doorbells, writes to the registers and windows. -/

/-- The device in RUN with its session closed, and one with it open at version 2.3. -/
def shut : State := { s0 with kio := { s0.kio with isOpen := false } }
def sess (f : Kio → Kio := id) : State := { s0 with kio := f { s0.kio with major := 2, minor := 3 } }

/-- R211, Table 9.10: OPEN and its refusals; CLOSE. -/
theorem test_session :
    (let u := go (.kioSessionOpen 2 3) shut
     abiKnown 2 3 = true ∧ ringsOk shut.kio = true ∧ u.kio.isOpen = true ∧ u.kio.major = 2 ∧ u.kio.minor = 3 ∧
     u.kio.result = 1 ∧
     (vat u.kio.cq 3 CplRing.init).phase = true ∧ u.fcr = s0.fcr) ∧
    (let u := go (.kioSessionOpen 3 0) shut
     abiKnown 3 0 = false ∧ u.kio.isOpen = false ∧ u.kio.result = 2 ∧ u.kio.reason = 0) ∧
    (let b : State := { shut with kio := { shut.kio with sq := vmod shut.kio.sq 2 fun r => { r with base := 4097 } } }
     let u := go (.kioSessionOpen 1 0) b
     ringsOk b.kio = false ∧ u.kio.isOpen = false ∧ u.kio.result = 2 ∧ u.kio.reason = 1) ∧
    (let b : State := { shut with kio := { shut.kio with fwReady := false } }
     let u := go (.kioSessionOpen 1 0) b
     u.kio.isOpen = false ∧ u.kio.result = 2 ∧ u.kio.reason = 2) ∧
    ((go .kioSessionClose (acc [kc 1 0 []] s0)).kio.accepted.map (·.mute) = [true]) ∧
    ((go .kioSessionClose s0).kio.isOpen = false ∧ (go .kioSessionClose s0).kio.result = 0) := by decide +kernel

/-- An entry with a command ID, tag 9 and a class (Table 9.3). -/
def entry (cmd cls : Nat) : List W := [fld cmd 16 ||| 9, fld cls 30] ++ List.replicate 14 0

/-- R216 to R219: a doorbell whose entry is accepted, one whose entry is refused, an index out of range, a closed session. -/
theorem test_doorbell :
    let s := sess
    cqRoom s 0 = true ∧ (entry 1 0).length = 16 ∧ doorFails s 0 1 (entry 1 0) = none ∧
    (let u := go (.kioSqTail 0 1 [entry 1 0]) s
     (vat u.kio.sq 0 SubRing.init).head = 1 ∧ (vat u.kio.sq 0 SubRing.init).tail = 1 ∧
     (u.kio.accepted.map fun k => (k.cmd, k.tag, k.begun)) = [(1, 9, false)] ∧ u.kio.cred0 = s.kio.cred0 - 1 ∧
     u.kio.cred1 = s.kio.cred1 ∧ (vat u.kio.cq 0 CplRing.init).used = 0) ∧
    (doorFails s 0 1 (entry 1 1)).isSome = true ∧
    (let u := go (.kioSqTail 0 1 [entry 1 1]) s
     u.kio.accepted = [] ∧ vat u.kio.refused 0 0 = 1 ∧ (vat u.kio.cq 0 CplRing.init).used = 1 ∧
     (Memory.readW u.host 4).bits 27 0 = 0x21 ∧ u.kio.cred0 = s.kio.cred0) ∧
    (let u := go (.kioSqTail 1 1 [entry 3 1]) s
     (u.kio.accepted.map (·.cmd)) = [3] ∧ u.kio.cred1 = s.kio.cred1 - 1) ∧
    (go (.kioSqTail 0 16 []) s).kio.err.getLsbD 1 = true ∧ (go (.kioSqTail 0 15 []) shut).kio = shut.kio := by decide +kernel

/-- R216, R230, R474: heads of the rings; a write kept in DORMANT. -/
theorem test_heads :
    let s := sess fun k => { k with cq := vmod k.cq 2 fun c => { c with tail := 3, used := 5, head := 14 }, eq := { k.eq with used := 9 } }
    let d : State := { s0 with clk := { s0.clk with chip := .dormant } }
    (let u := go (.kioCqHead 2 0x80000002) s
     (vat u.kio.cq 2 CplRing.init).head = 2 ∧ (vat u.kio.cq 2 CplRing.init).used = 1 ∧ u.kio.armed.getLsbD 3 = true) ∧
    (go (.kioCqHead 2 16) s).kio.err.getLsbD 1 = true ∧
    (let u := go (.kioEqHead 0x80000004) s
     u.kio.eq.head = 4 ∧ u.kio.eq.used = 5 ∧ u.kio.armed.getLsbD 5 = true ∧ u.kio.armed.getLsbD 63 = true) ∧
    vat (go (.kioSqTail 3 7 []) d).kio.keptSq 3 none = some (7, []) ∧ vat (go (.kioCqHead 3 7) d).kio.keptCq 3 none = some 7 ∧
    (go (.kioEqHead 7) d).kio.keptEq = some 7 := by decide +kernel

/-- R106, R209, R395, R436: bank words, the store's window, the shared window and BAR2. -/
theorem test_windows_writes :
    let t := tk .l
    let s := inForce [(t, 3)] [] s0
    let a := s.modCx 3 fun x => { x with armed := some 1 }
    taskOfCh s 0 = some t ∧ ctxOf s 5 = some 3 ∧ taskOfCh s 4 = none ∧
    (let u := go (.chBankwWrite 0 127 42) s
     Memory.readW (u.cx 3).bank1 508 = 42 ∧ (u.cx 3).bank0 = [] ∧ Memory.readW u.shared (4 * (0x200 + 128 + 127)) = 42) ∧
    ((go (.chBankwWrite 0 127 42) a).cx 3).wdrop = true ∧ (go (.chBankwWrite 0 127 42) a).shared = [] ∧
    (go (.chBankwWrite 4 0 42) s).shared = [] ∧
    (let u := go (.nvWindowWrite 0xC00FE [1, 2, 3]) s
     Memory.read u.nvs.win 0xC0100 = 3 ∧ u.nvs.dirty = [0xC00, 0xC01] ∧ u.nvs.cells = []) ∧
    (go (.nvWindowWrite 0xFFFFF [1, 2]) s).nvs.evt.getLsbD 0 = true ∧
    (go (.nvWindowWrite 0xF8000 [1]) s).kio.err.getLsbD 2 = true ∧
    (go (.nvWindowWrite 0xBFFFF [1]) s).nvs.win = [] ∧
    (go (.sharedWindowWrite 0 [1]) s).kio.err.getLsbD 2 = true ∧ (go (.bar2Write 0 [1]) s).kio.err.getLsbD 3 = true := by
  decide +kernel

/-- R327, R456, R460, R470, R471: configuration registers, lamps, the scratch register, read-only and write-one-to-clear ones. -/
theorem test_register_writes :
    let w (f : Twp → Twp) : State := { s0 with twp := vmod s0.twp 2 f }
    (xferOpen s0 2 = false ∧ twRefused 0x0103 (s0.tw 2).addr = false ∧
     ((go (.twpCfgWrite 2 0x0103) s0).tw 2).cfg = 0x0103 ∧
     ((go (.twpCfgWrite 2 0x0103) (w fun t => { t with st := 3 })).tw 2).cfgNext = some 0x0103) ∧
    (twRefused (s0.tw 2).cfg 0x00008081 = true ∧ ((go (.twpAddrWrite 2 0x00008081) s0).tw 2).evt.getLsbD 7 = true) ∧
    (twRefused (s0.tw 2).cfg 0x0000A0B0 = false ∧
     ((go (.twpAddrWrite 2 0x0000A0B0) (w fun t => { t with st := 3 })).tw 2).addrNext = some 0x0000A0B0) ∧
    (let u := go (.trlLampWrite 17 0x43210043) s0
     vat u.trl.lamp 143 0 = 4 ∧ vat u.trl.lamp 136 0 = 3 ∧ vat u.trl.lamp 0 0 = 0 ∧ lampOwned s0 136 = false) ∧
    (go (.trlCfgWrite 0x0FFF0001) s0).trl.cfgNext = some 0x0FFF0001 ∧
    (go (.registerWrite 0x50 4 7) s0).boot.scratch = 7 ∧ (go (.registerWrite 0x1024 4 0x7F) s0).clk.wake = 0x3F ∧
    (go (.registerWrite 0 4 7) s0).kio.err = 0 ∧ (go (.registerWrite 0x58 4 7) s0).kio.err.getLsbD 2 = true ∧ (go (.registerWrite 0x50 2 7) s0).kio.err.getLsbD 2 = true ∧
    (go (.registerWrite 0x4C02C 4 0x11) { s0 with upe := { s0.upe with evt := 0x33 } }).upe.evt = 0x22 ∧
    (go (.registerWrite 0x48018 4 0x7F) (nv fun x => { x with evt := 0x41 })).nvs.evt = 0 := by decide +kernel

/-- A point that a Charge instance names is not the host's (R456). -/
theorem test_lamp_owned :
    let t : Task := { tk .u with lib := some (libCharge, 1, 0) }
    let s := shared [(0x100 + 12, 0x00000009)] (inForce [(t, 500)] [] s0)
    lampOwned s 9 = true ∧ (go (.trlLampWrite 1 0x22222222) s).trl.evt.getLsbD 2 = true ∧
    vat (go (.trlLampWrite 1 0x22222222) s).trl.lamp 9 0 = 0 ∧ vat (go (.trlLampWrite 1 0x22222222) s).trl.lamp 8 0 = 2 := by
  decide +kernel

/-- The device in a pair. -/
def pr (f : Prl → Prl) : State := { s0 with prl := f { s0.prl with link := .up, pst := .inSync } }

/-- R223, R358, R366, R470, R474: a write in RESET, in DORMANT, on a STANDBY and on a LEAD; YIELD; the shared window in BOOT. -/
theorem test_writes_by_role :
    let d := chip .dormant s0
    let l := pr fun p => { p with role := .lead }
    let y0 := go .prlYield (l.modLk 3 fun x => { x with own := true })
    let y := yieldDue y0
    (y0.prl.yieldReq = some .resync ∧ y0.prl.role = .lead ∧ (y0.lk 3).own = true ∧ y0.fcr.fenceAfter = []) ∧
    (go (.registerWrite 0x50 4 7) State.reset).boot.scratch = 0 ∧
    ((go (.registerWrite 0x50 4 7) d).boot.scratch = 0 ∧ (go (.registerWrite 0x50 4 7) d).kio.err.getLsbD 2 = true) ∧
    (go (.registerWrite 0x54004 4 7) d).trl.lamp = d.trl.lamp ∧ (go (.registerWrite 0x54004 4 7) d).kio.err = 0 ∧
    (go (.registerWrite 0x1024 4 7) d).clk.wake = 7 ∧
    (let u := go (.registerWrite 0x50 4 7) (pr fun p => { p with role := .standby })
     u.boot.scratch = 0 ∧ u.kio.err.getLsbD 2 = true) ∧
    (let u := go (.registerWrite 0x50 4 7) l
     pairFormed l = true ∧ u.boot.scratch = 0 ∧
     (u.prl.queue.map fun x => (x.isReg, x.words, x.apply)) = [(true, [0x50, 4, 7], 3002)] ∧
     u.prl.mseq = 1) ∧
    (let e := pr fun p => { p with role := .lead, link := .down, pst := .alone }
     pairFormed e = false ∧ (go (.registerWrite 0x50 4 7) e).boot.scratch = 7) ∧
    (y.prl.role = .standby ∧ y.prl.pst = .resync ∧ y.prl.yields = 1 ∧ y.prl.yieldNow = true ∧ (y.lk 3).own = false ∧
     y.prl.yieldReq = none) ∧
    (go .prlYield s0).prl.role = .solo ∧
    (let b := go (.sharedWindowWrite 0x3FFFFC [5]) (shared [(0xFFFFE, 6)] (chip .boot s0))
     Memory.readW b.shared 0x3FFFFC = 5 ∧ Memory.readW b.shared 0x3FFFF8 = 6 ∧ b.kio = s0.kio) := by decide +kernel

/-! Kiosk commands. -/

/-- A command is ready to be carried out. -/
def rdy (s : State) (k : KCmd) : Bool :=
  kFind s k.cmd k.tag == some k && mgpRuns s && k.mseq.isNone && !k.mute && kTurn s k && s.kio.isOpen &&
    decide (Memory.wf s.host = true)

/-- `rdy` is `Ready`. -/
theorem rdy_ready (s : State) (k : KCmd) (h : rdy s k = true) : Ready s k.cmd k.tag k := by
  simp [rdy] at h
  obtain ⟨⟨⟨⟨⟨⟨a, b⟩, c⟩, d⟩, e⟩, f⟩, g⟩ := h
  exact ⟨a, b, c, d, e, f, g⟩

/-- The command is ready on the state, and its row completes it with a status and a result. -/
def ends (s : State) (k : KCmd) (i : Instr) (st : Nat) (r0 : W := 0) : Bool :=
  rdy (acc [k] s) k && cpl (acc [k] s) (go i (acc [k] s)) k st r0

/-- R221, R226 and Table 9.6: NOP, TIME, IDENT, CANCEL, and ADMIT's refusals. -/
theorem test_queue_commands :
    ends s0 (kc 1 0 []) (.nopCmd 9) 0 = true ∧ (go (.nopCmd 8) (acc [kc 1 0 []] s0)).kio.accepted = [kc 1 0 []] ∧
    kFind (acc [kc 1 0 []] s0) 1 8 = none ∧
    ends s0 (kc 2 0 []) (.time 9) 0 3000 = true ∧
    ends { s0 with upe := { s0.upe with fwAct := 0x10203 } } (kc 3 1 []) (.ident 9) 0 0x10203 = true ∧
    ends s0 (kc 4 0 [(3, 7)]) (.cancel 9) 0x24 = true ∧
    (let t := { kc 0x0601 2 [] with handle := 7, tag := 3 }
     let k := { kc 4 0 [(3, 7)] with handle := 0 }
     let s := acc [t, k] s0
     let u := go (.cancel 9) s
     rdy s k = true ∧ u.kio.accepted = [] ∧ (vat u.kio.cq 2 CplRing.init).used = 1 ∧ (vat u.kio.cq 0 CplRing.init).used = 1) ∧
    (let a := admR [] 0 none 1
     ends a (kc 0x0101 2 []) (.admitImage 9 none) 0x13 = true) ∧
    ends { s0 with upe := { s0.upe with phase := .trial } } (kc 0x0101 2 []) (.admitImage 9 none) 0x24 = true ∧
    updBusy s0 = false ∧ ends s0 (kc 0x0101 2 []) (.admitImage 9 none) 0x25 = true ∧
    framingOk [1, 2] (some 80) = false ∧ ends s0 (kc 0x0101 2 [(6, 80)]) (.admitImage 9 (some [1, 2])) 0x30 = true := by
  decide +kernel

/-- R122: the framing of the empty image. -/
theorem image0_framing : framingOk image0 (some 80) = true := by
  unfold framingOk
  rw [image0_crc]
  decide +kernel

/-- The hypotheses of ADMIT's acceptance, of a full image with every channel OFF, and with a channel that is not. -/
theorem test_admit_fits :
    let k := kc 0x0101 2 [(6, 80)]
    let s := acc [k] s0
    let v := s.modCh 4 fun x => { x with st := .safe }
    rdy s k = true ∧ s.adm.run = none ∧ updBusy s = false ∧ (k.arg 3).bit 0 = false ∧ (k.buf 4).2 = 80 ∧
    (lat image0 7 0).bit 4 = false ∧ (s.chan.all (·.st == .off)) = true ∧
    (v.chan.all (·.st == .off)) = false := by decide +kernel

/-- A device whose task 5 on context 3 binds channel 0; channel 4 is the other. -/
def own : State := upLink 0 (inForce [(tk .l, 3)] [cd 0, cd 4] s0)
/-- A rail of a sequencer task. -/
def rail : State := inForce [({ tk .s with chans := [(true, 4)] }, 510)] [cd 4] s0

/-- R39, R158, Table 5.4 rows 4, 7 and 8: CH_START, CH_STOP, CH_RESTART and PLAUS_RESET. -/
theorem test_channel_commands :
    (isRail rail 4 = true ∧ ends rail (kc 0x0201 1 [(3, 4)]) (.chStart 9) 0x32 = true) ∧
    (let k := kc 0x0201 1 [(3, 0)]
     let u := go (.chStart 9) (acc [k] own)
     isRail own 0 = false ∧ canStart own 0 = true ∧ rdy (acc [k] own) k = true ∧
     u.ch 0 = { own.ch 0 with startReq := true } ∧ u.ch 4 = own.ch 4 ∧ (u.kio.accepted.map fun x => (x.tag, x.begun)) = [(9, true)] ∧
     (let b := { k with begun := true }
      let a := fun (st : ChanSt) => acc [b] (own.modCh 0 fun x => { x with st := st })
      cpl (a .arming) (chanCmdsEnd 0 (a .arming)) b 0 3000 = true ∧ cpl (a .off) (chanCmdsEnd 0 (a .off)) b 0x24 0 = true)) ∧
    ends (own.modCh 0 fun x => { x with st := .hold }) (kc 0x0201 1 []) (.chStart 9) 0x24 = true ∧
    (let k := kc 0x0202 0 [(3, 0)]
     let s := own.modCh 0 fun x => { x with st := .control, mA := 5, mstat := 3 }
     let u := go (.chStop 9) (acc [k] s)
     rdy (acc [k] s) k = true ∧ u.ch 0 = { s.ch 0 with stopReq := true } ∧
     (u.kio.accepted.map fun x => (x.tag, x.begun)) = [(9, true)] ∧
     (let b := { k with begun := true }
      cpl (acc [b] s) (chanCmdsEnd 0 (acc [b] s)) b 0 0 = true) ∧
     ends own k (.chStop 9) 0 = true ∧ ((go (.chStop 9) (acc [k] (own.modCh 0 fun x => { x with startReq := true }))).ch 0).startReq = false) ∧
    (let k := kc 0x0203 1 [(3, 0)]
     let s := own.modCh 0 fun x => { x with st := .safe }
     ends s k (.chRestart 9) 0 = true ∧ ((go (.chRestart 9) (acc [k] s)).ch 0).restart = true ∧
     ends own k (.chRestart 9) 0x24 = true) ∧
    (let k := kc 0x0204 0 [(3, 0)]
     let s := own.modCx 3 fun x => { x with fP := true }
     ends s k (.plausReset 9) 0 = true ∧ (taskAt s 3).bind boundCh = some 0 ∧
     ((go (.plausReset 9) (acc [k] s)).cx 3).fP = false) := by decide +kernel

/-- R46, R106, R224, R480: PARAM_WRITE, SHARED_WRITE, TABLE_SAVE, SEQ_REQUEST; BANK_SWAP with a swap armed. -/
theorem test_task_commands :
    (let k := kc 0x0206 1 [(3, 5), (4, 62), (5, 2), (6, 8), (7, 9)]
     let u := go (.paramWrite 9) (acc [k] own)
     taskNo own 5 = some (tk .l) ∧ paramRefused own (tk .l) 62 k.data = false ∧ ends own k (.paramWrite 9) 0 = true ∧
     shWord u (0x100 + 62) = 8 ∧ shWord u (0x100 + 63) = 9 ∧ shWord u (0x100 + 61) = 0 ∧
     (let b := own.modCx 3 fun x => { x with rel := some (rl .l) }
      rdy (acc [k] b) k = true ∧ (go (.paramWrite 9) (acc [k] b)).kio.accepted = [k])) ∧
    (let t : Task := { tk .l with lib := some (libFeed, 1, 0) }
     let s := inForce [(t, 3)] [] s0
     let k := kc 0x0206 1 [(3, 5), (4, 0), (5, 1), (6, 8)]
     paramRefused s t 0 k.data = true ∧ ends s k (.paramWrite 9) 0x22 = true) ∧
    (let k := kc 0x0207 0 [(3, 0xFFFFF), (5, 1), (6, 77)]
     ends s0 k (.sharedWrite 9) 0 = true ∧ shWord (go (.sharedWrite 9) (acc [k] s0)) 0xFFFFF = 77) ∧
    (tableRec (tk .l) 0 = none ∧ ends own (kc 0x0208 2 [(3, 5)]) (.tableSave 9) 0x38 = true) ∧
    (let s := inForce [({ tk .l with tblrec := [(true, 0x1234)] }, 3)] [] s0
     let k := kc 0x0208 2 [(3, 0x10005)]
     ((go (.tableSave 9) (acc [k] s)).kio.accepted.map fun x => (x.tag, x.begun, x.fixed)) = [(9, true, true)]) ∧
    (let q := fun (w : W) => kc 0x0209 0 [(3, w)]
     let f := shared [(0x103, 0x40000000)] rail
     ends rail (q 6) (.seqRequest 9) 0x38 = true ∧ ends f (q 5) (.seqRequest 9) 0x33 = true ∧
     ends rail (q 5) (.seqRequest 9) 0 = true ∧ (parm (go (.seqRequest 9) (acc [q 5] rail)) (tk .s) 0).bit 27 = true ∧
     ends f (q 0x10005) (.seqRequest 9) 0 = true) ∧
    (let s := own.modCx 3 fun x => { x with armed := some 2999 }
     ends s (kc 0x0205 1 [(3, 0)]) (.bankSwap 9) 0x13 = true) := by decide +kernel

/-- R104, R105: the CRCs that BANK_SWAP compares, of banks of zeros. -/
theorem test_bank_swap_fits :
    let z := crc32cW (Memory.readWs [] 0 128)
    let x : Context := { Context.init with crc0 := z, crc1 := z }
    bankCrc x x.bankAct = (if x.bankAct then x.crc1 else x.crc0) ∧ bankCrc x (!x.bankAct) = z ∧ x.armed = none := by
  simp [bankCrc, Context.init]

/-- The channel of BANK_SWAP has its task, which may be dispatched in ARMING and not in OFF. -/
theorem test_bank_swap_tasks :
    taskOfCh own 0 = some (tk .l) ∧ placeOf own 5 = some ⟨5, 0, 3, 0, false⟩ ∧ dispatchable own (tk .l) = false ∧
    dispatchable (own.modCh 0 fun x => { x with st := .arming }) (tk .l) = true := by decide +kernel

/-- R197 to R201, Table 8.15: the service messages that module commands queue. -/
theorem test_module_commands :
    let s := upLink 5 s0
    (let k := kc 0x0301 2 [(3, 5), (4, 0x00020100)]
     let u := go (.modRead 9) (acc [k] s)
     rdy (acc [k] s) k = true ∧
     ((u.lk 5).hostQ.map fun m => (m.kind, m.tag, m.words, m.queued)) = [(0x02, some 9, [0x00020100], true)]) ∧
    (let k := kc 0x0302 2 [(3, 5), (4, 0x00020100)]
     ends s k (.modWrite 9 none) 0x25 = true ∧
     (((go (.modWrite 9 (some [7, 8])) (acc [k] s)).lk 5).hostQ.map fun m => (m.kind, m.tag, m.words.length)) = [(0x01, some 9, 3)]) ∧
    (let k := fun (h : W) => kc 0x0303 2 [(3, 17), (4, 0xAAAA5555), (5, h)]
     (((go (.modThresh 9) (acc [k 0] s)).lk 5).devQ.map fun m => (m.kind, m.words)) = [(0x01, [0x20, 0x5555, 0xAAAA])] ∧
     (((go (.modThresh 9) (acc [k 9] s)).lk 5).devQ.map fun m => m.words.length) = [4]) ∧
    (let k := kc 0x0304 3 [(3, 5), (4, 3)]
     let w := s.modLk 5 fun x => { x with hello := hello.set 5 0x10000000 }
     ends (s.modLk 5 fun x => { x with version := 2 }) k (.modTable 9 (some [1, 2, 3])) 0x24 = true ∧
     helloWtbl (w.lk 5).hello = true ∧
     (((go (.modTable 9 (some [1, 2, 3])) (acc [k] w)).lk 5).devQ.map fun m => (m.kind, m.tag)) =
       [(0x10, some 9), (0x11, some 9), (0x12, some 9)]) := by decide +kernel

/-- A trigger as f makes it. -/
def tg (f : Trig → Trig) : State := { s0 with bbr := { s0.bbr with trig := vmod s0.bbr.trig 31 f } }

/-- An export section in force that declares stream 1 with tiers 5 (Table 6.10). -/
def strmS (f : Strm → Strm) : State :=
  { s0 with
    adm := { s0.adm with img := some { im [] [] with exports := [1, 0x50000001, 64] } }
    bbr := { s0.bbr with strm := vmod s0.bbr.strm 1 f } }

/-- R240 to R242: the trigger commands, and what they ask for at the next tick start. -/
theorem test_trigger_commands :
    (let s := tg fun g => { g with decl := true }
     let k := kc 0x0401 1 [(3, 31)]
     let u := go (.trigArm 9) (acc [k] s)
     ends s k (.trigArm 9) 0 = true ∧ (trg u 31).pend.isSome = true ∧ (trg u 31).st = .idle ∧
     (trg (trigPend 31 u) 31).st = .armed ∧ (trg (trigPend 31 u) 31).armTick = 3000 ∧ (trg (trigPend 31 u) 31).pend = none ∧
     ends s0 k (.trigArm 9) 0x24 = true) ∧
    (let s := fun (n : Nat) => tg fun g => { g with decl := true, st := .armed, armTick := n }
     let k := kc 0x0402 0 [(3, 31)]
     let u := go (.trigFire 9) (acc [k] (s 3000))
     ends (s 3000) k (.trigFire 9) 0 3000 = true ∧ (trg u 31).st = .armed ∧ (trg u 31).pend = some (.fire 3000) ∧
     (trg (trigPend 31 u) 31).st = .fired ∧ (trg (trigPend 31 u) 31).f = 3000 ∧
     ends (s 3001) k (.trigFire 9) 0x24 = true ∧ ends s0 k (.trigFire 9) 0x24 = true) ∧
    (let s := tg fun g => { g with decl := true, st := .frozen }
     let k := fun (w : W) => kc 0x0403 1 [(3, w)]
     let u := fun (w : W) => go (.trigRelease 9) (acc [k w] s)
     ends s0 (k 31) (.trigRelease 9) 0x24 = true ∧ rdy (acc [k 31] s) (k 31) = true ∧
     (u 31).kio.accepted = [] ∧ (trg (u 31) 31).pend = some (.release false) ∧
     (trg (trigPend 31 (u 31)) 31).st = .idle ∧
     (trg (trigPend 31 (u 0x21F)) 31).st = .armed ∧ (trg (trigPend 31 (u 0x21F)) 31).armTick = 3000) := by
  decide +kernel

/-- R245, R247: the export commands. -/
theorem test_export_commands :
    let o := strmS fun x => { x with isOpen := true, size := 4, credit := 10, sent := 77 }
    (strmTiers (strmS id) 1 = some 5 ∧ strmTiers (strmS id) 2 = none ∧
     ends (strmS id) (kc 0x0404 1 [(3, 2)]) (.exportOpen 9) 0x38 = true) ∧
    (let k := kc 0x0404 1 [(3, 1), (6, 5)]
     let u := go (.exportOpen 9) (acc [k] (strmS id))
     ends o k (.exportOpen 9) 0x24 = true ∧ ends (strmS id) k (.exportOpen 9) 0 = true ∧ (stm u 1).isOpen = true ∧
     (stm u 1).size = 5 ∧ (stm u 1).credit = 32 ∧ (stm u 1).tiers = 5) ∧
    (let k := fun (n : W) => kc 0x0405 0 [(3, 1), (4, n)]
     ends (strmS id) (k 1) (.exportCredit 9) 0x24 = true ∧ ends o (k 7) (.exportCredit 9) 0x22 = true ∧
     ends o (k 6) (.exportCredit 9) 0 16 = true ∧ (stm (go (.exportCredit 9) (acc [k 6] o)) 1).credit = 16) ∧
    (let k := kc 0x0406 1 [(3, 1)]
     ends (strmS id) k (.exportClose 9) 0x24 = true ∧ ends o k (.exportClose 9) 0 77 = true ∧
     (stm (go (.exportClose 9) (acc [k] o)) 1).isOpen = false) := by decide +kernel

/-- R380, R384, R386: READMIT, REBALANCE and EVENT_CFG. -/
theorem test_unit_commands :
    (let f := s0.modEng 47 fun x => { x with fenced := true }
     let k := fun (w : W) => kc 0x0501 2 [(3, w)]
     unitOf 0x30 = none ∧ ends s0 (k 0x30) (.readmit 9) 0x22 = true ∧ unitOf 0x2F = some (.le 47) ∧
     unitFenced s0 (.le 47) = false ∧ ends s0 (k 0x2F) (.readmit 9) 0x24 = true ∧ rdy (acc [k 0x2F] f) (k 0x2F) = true ∧
     (go (.readmit 9) (acc [k 0x2F] f)).fcr.readmit = some (.le 47, 9)) ∧
    (let k := kc 0x0502 2 []
     let s := inForce [] [] { s0 with fcr := { s0.fcr with spareLe := 2 } }
     ends s0 k (.rebalance 9) 0x24 = true ∧ spareExists s = true ∧ placesNow (im [] []) [] [] [] = some [] ∧
     (go (.rebalance 9) (acc [k] s)).adm.shadow = some (0, 9, [])) ∧
    (let k := kc 0x0503 1 [(3, 0x00040003), (4, 0x90000)]
     ends s0 k (.eventCfg 9) 0 = true ∧ (go (.eventCfg 9) (acc [k] s0)).fcr.cfgNext = [(3, 4, 0x90000)]) := by decide +kernel

/-- R260, R279, R407 to R409: records, feeds and ledgers. -/
theorem test_record_commands :
    (let k := kc 0x0602 2 [(3, 0x1234)]
     (recChoose 0x1234 s0).1 = 3 ∧ ends s0 k (.recRead 9) 0 3 = true) ∧
    (let k := fun (w n : W) => kc 0x0603 2 [(3, w), (6, n)]
     ends s0 (k 0xF000 4) (.recWrite 9 (some [1])) 0x22 = true ∧ ends s0 (k 0x1234 0) (.recWrite 9 none) 0x22 = true ∧
     ends s0 (k 0x1234 6) (.recWrite 9 none) 0x22 = true ∧ recFind s0 0x1234 = none) ∧
    (let t : Task := { tk .l with lib := some (libFeed, 1, 0) }
     let s := inForce [(t, 3)] [cd 0] s0
     let k := fun (w : W) => kc 0x0801 1 [(3, 0), (4, w)]
     feedOfCh s 0 = some t ∧ ends (shared [(0x100 + 13, 1)] s) (k 0) (.feedToggle 9) 0 = true ∧
     parm (go (.feedToggle 9) (acc [k 0] (shared [(0x100 + 13, 1)] s))) t 13 = 0 ∧ ends s (k 1) (.feedToggle 9) 0 = true ∧
     parm (go (.feedToggle 9) (acc [k 1] s)) t 13 = 1 ∧
     (let b := s.modCx 3 fun x => { x with rel := some (rl .l) }
      (go (.feedToggle 9) (acc [k 1] b)).kio.accepted = [k 1])) ∧
    (let k := kc 0x0802 1 [(3, 63), (4, 1)]
     ends s0 k (.ledgerReset 9) 0 3001 = true ∧
     (vat (go (.ledgerReset 9) (acc [k] s0)).clg 63 Ledger.init).pend = some (true, false)) := by decide +kernel

/-- R30, R31, R329: TW_XFER and DORMANT. -/
theorem test_device_commands :
    (let k := kc 0x0803 2 [(3, 3), (4, 0x00000150), (7, 8)]
     let c (f : Twp → Twp) : State := { s0 with twp := vmod s0.twp 3 fun t => f { t with cfg := 1 } }
     let u := go (.twXfer 9 (some [0xAB])) (acc [k] (c id))
     twController (s0.tw 3).cfg = false ∧ ends s0 k (.twXfer 9 (some [0xAB])) 0x24 = true ∧ twActs (acc [k] (c id)) 3 = true ∧
     (u.tw 3).st = 1 ∧ (u.tw 3).xfer.map (·.attempts) = some 1 ∧
     (let q := c fun t => { t with xfer := some (xferOf k []) }
      ((go (.twXfer 9 (some [0xAB])) (acc [k] q)).tw 3).queue = [xferOf k [0xAB]])) ∧
    (let k := kc 0x0804 2 []
     let u := go (.dormantEnter 9) (acc [k] (upLink 4 s0))
     ends (s0.modCh 9 fun x => { x with st := .fenced }) k (.dormantEnter 9) 0x24 = true ∧ rdy (acc [k] s0) k = true ∧
     u.clk.chip = .dormant ∧ u.clk.tickRun = false ∧ u.clk.rootLock = false ∧ (u.lk 4).st = .down ∧
     (vat u.kio.cq 2 CplRing.init).used = 1) := by decide +kernel

/-! Trellis, two-wire ports and tie ports. -/

/-- ALIVE toggles. -/
def sa : State := { s0 with fcr := { s0.fcr with errn := 0, errnOut := false } }

/-- Its pin controller as f makes it. -/
def trl (f : Trl → Trl) : State := { sa with trl := f sa.trl }

/-- R451, R453 to R455, R459: the phases, and what the pins do in each; the lamps are judged and TRL_CFG taken as a scan starts. -/
theorem test_trellis_pins :
    let d : State := { sa with boot := { sa.boot with straps := 0x80 } }
    let m := trl fun x => { x with lit := 1 <<< 24, cfgNext := some 0x00010001 }
    let fatal := fun (s : State) => { s with fcr := { s.fcr with fatal := true } }
    let drive := fun (s : State) => (List.range 24).map (trlDrive s)
    trlPhase sa = 3 ∧ trlPhase d = 4 ∧ trlPhase State.reset = 1 ∧ trlPhase (fatal sa) = 2 ∧ trlPhase (chip .dormant sa) = 0 ∧
    trlLit (fatal m) = 1 ∧ trlLit (chip .store m) = 0 ∧
    drive (fatal m) = (.pulseHigh :: List.replicate 11 .hiZ) ++ (.pulseLow :: List.replicate 11 .hiZ) ∧
    drive (fatal d) = .high :: List.replicate 23 .hiZ ∧ drive State.reset = List.replicate 24 .strap ∧
    drive (chip .store m) = List.replicate 24 .hiZ ∧
    drive { d with trl := { d.trl with lit := 2 } } = .low :: .high :: List.replicate 22 .low ∧
    drive (tm 2320 m) = List.replicate 2 .hiZ ++ (.high :: List.replicate 9 .hiZ) ++ (.low :: List.replicate 11 .hiZ) ∧
    drive (tm 2439 m) = List.replicate 2 .hiZ ++ (.high :: List.replicate 9 .hiZ) ++ (.low :: List.replicate 11 .hiZ) ∧
    drive (tm 2440 m) = List.replicate 24 .hiZ ∧
    drive (tm 2450 m) = List.replicate 2 .hiZ ++ (.low :: List.replicate 9 .hiZ) ++ List.replicate 12 .pullUp ∧
    drive (tm 3999 m) = List.replicate 12 .hiZ ++ List.replicate 12 .pullUp ∧
    (let u := scanStart m
     u.trl.cfg = 0x00010001 ∧ u.trl.cfgNext = none ∧ u.trl.lit.getLsbD 0 = false ∧
     (scanStart { m with fcr := { m.fcr with errnOut := true } }).trl.lit.getLsbD 0 = true ∧
     (scanStart (chip .store m)).trl.cfg = 4) := by decide +kernel

/-- R455 to R459: the readings of a scan of the matrix and in direct mode; a point, a column, a row. -/
theorem test_trellis :
    let d : State := { sa with boot := { sa.boot with straps := 0x80 } }
    let c := trl fun x => { x with cfg := 0x00010001, sense := 3, svalid := 3 }
    (let u := go (.trlScan [0xFFF, 1] 0 0) c
     u.trl.scans = 1 ∧ u.trl.cfg = 0x00010001 ∧ u.trl.sense.getLsbD 0 = false ∧
     u.trl.svalid.getLsbD 12 = false ∧ u.trl.sense.getLsbD 11 = true ∧ u.trl.lit = 0) ∧
    ((go (.trlScan [0xFFF] 0 0) d).trl.scans = 0 ∧ (go (.trlScan [0xFFF] 0 0) d).trl.sense = 0) ∧
    (go (.trlScan [0xFFF] 0 0) State.reset).trl.scans = 0 ∧
    (let p := fun (n : Nat) => trl fun x => { x with last := vput x.last 143 (true, n) }
     pointRead (p 3).trl 143 = true ∧ sa.trl.cfg.bits 3 0 = 4 ∧ (go (.senseChange 143) (p 3)).trl.sense.getLsbD 143 = true ∧
     (go (.senseChange 143) (p 2)).trl.sense.getLsbD 143 = false) ∧
    (let x := trl fun x => { x with stuck := 0x800, last := vput x.last 143 (true, 9), guard := vput x.guard 11 1 }
     pointRead x.trl 143 = false ∧ (go (.senseChange 143) x).trl.sense.getLsbD 143 = false ∧
     (go (.columnStuck 11) x).trl.evt = 0 ∧ (go (.columnStuck 11) sa).trl.evt = 0) ∧
    (let u := go (.columnStuck 11) (trl fun x => { x with svalid := 1 <<< 143, sense := 1 <<< 143, guard := vput x.guard 11 1 })
     u.trl.stuck.getLsbD 11 = true ∧ u.trl.evt.getLsbD 0 = true ∧ rz u 989 (promoted sa 989 .ce) 1 = true ∧
     u.trl.svalid.getLsbD 143 = false ∧ u.trl.sense.getLsbD 143 = true) ∧
    (let u := go (.rowShort 11) (trl fun x => { x with rowLow := vput x.rowLow 11 1 })
     u.trl.evt.getLsbD 1 = true ∧ vat u.trl.rowLow 11 0 = 2 ∧ rz u 989 (promoted sa 989 .ce) 2 = true ∧
     (go (.rowShort 11) { u with trl := { u.trl with evt := 0 } }).trl.evt = 0 ∧ (go (.rowShort 11) sa).trl.evt = 0) := by
  decide +kernel

/-- Port 3 as a target at address 0x40, as f makes it. -/
def tw (f : Twp → Twp) : State := { s0 with twp := vmod s0.twp 3 fun t => f { t with cfg := 0x4002, addr := 0xC0 } }

/-- R335, R336, Table 15.2: fixed answers with their PEC, PAGE, CLEAR_FAULTS and unsupported commands. The PEC bytes are CRC-8 of
0x80, the code, 0x81 and the data. -/
theorem test_pmbus :
    let s := tw id
    twServes s 3 = true ∧ twAddrs (s.tw 3).cfg (s.tw 3).addr = [0x40] ∧
    (let u := go (.capability 3) s
     (u.tw 3).out = [0xD0, crc8From 0 [0x80, 0x19, 0x81, 0xD0]] ∧ (u.tw 3).acked = true ∧ (u.tw 3).acks = 1) ∧
    crc8From 0 [0x80, 0x20, 0x81, 0x1A] = 0x97 ∧ ((go (.voutMode 3) s).tw 3).out = [0x1A, 0x97] ∧
    ((go (.pmbusRevision 3) s).tw 3).out.head? = some 0x33 ∧ ((go (.mfrRevision 3) s).tw 3).out.take 3 = [2, 0x42, 0x31] ∧
    ((go (.mfrId 3) s).tw 3).out.length = 9 ∧ ((go (.mfrModel 3) s).tw 3).out.take 3 = [6, 0x4B, 0x56] ∧
    ((go (.page 3 none none) s).tw 3).out.head? = some 0 ∧ ((go (.page 3 (some 191) none) s).tw 3).page = 191 ∧
    ((go (.page 3 (some 192) none) s).tw 3).page = 0 ∧ ((go (.page 3 (some 192) none) s).tw 3).acked = false ∧
    (let p := tw fun t => { t with cfg := 0xC002 }
     twAddrs (p.tw 3).cfg (p.tw 3).addr = [0x40] ∧ ((go (.page 3 (some 5) none) p).tw 3).evt.getLsbD 5 = true ∧
     ((go (.page 3 (some 5) (some (crc8From 0 [0x80, 0, 5]))) p).tw 3).page = 5) ∧
    (let c := fun (pg : BitVec 8) => tw fun t => { t with page := pg, status := Vector.replicate 192 0x30, alertOut := true }
     (vat ((go (.clearFaults 3 none) (c 7)).tw 3).status 7 0 = 0 ∧
     vat ((go (.clearFaults 3 none) (c 7)).tw 3).status 8 0 = 0x30) ∧
     vat ((go (.clearFaults 3 none) (c 0xFF)).tw 3).status 191 0 = 0 ∧
     ((go (.clearFaults 3 none) (c 0xFF)).tw 3).alertOut = false) ∧
    (let u := go (.pmbusUnsupported 3 0x55) s
     (u.tw 3).acked = false ∧ (vat (u.tw 3).status 0 0).getLsbD 1 = true) := by decide +kernel

/-- Table 15.2: the status bytes and readings of a channel; the alert response; a timeout. -/
theorem test_pmbus_status :
    let s0' := tw fun t => { t with page := 4, status := vput t.status 4 0x34, temp := vput t.temp 4 2, alertOut := true, st := 2 }
    let s := s0'.modCh 4 fun x => { x with st := .hold, mC := 100 }
    ((go (.statusByte 3) s).tw 3).out.head? = some 0x75 ∧ ((go (.statusWord 3) s).tw 3).out.take 2 = [0x75, 0xC8] ∧
    ((go (.statusVout 3) s).tw 3).out.head? = some 0x80 ∧ ((go (.statusIout 3) s).tw 3).out.head? = some 0x80 ∧
    ((go (.statusTemperature 3) s).tw 3).out.head? = some 0x80 ∧ ((go (.readVin 3) s).tw 3).out.length = 3 ∧
    ((go (.readVout 3) s).tw 3).acks = 1 ∧ ((go (.readIout 3) s).tw 3).acks = 1 ∧ ((go (.readTemperature1 3) s).tw 3).acks = 1 ∧
    ((go (.readTemperature2 3) s).tw 3).acks = 1 ∧
    (let u := go (.alertResponse 3) s
     (u.tw 3).out = [0x80] ∧ (u.tw 3).alertOut = false ∧ (u.tw 3).acks = 1) ∧
    ((go (.alertResponse 3) (tw id)).tw 3).acked = false ∧
    (let u := go (.twTargetTimeout 3 false) s
     (u.tw 3).out = [] ∧ (u.tw 3).st = 0 ∧ (u.tw 3).evt.getLsbD 3 = true) ∧
    ((go (.twTargetTimeout 3 false) (tw fun t => { t with cfg := 2 })).tw 3).evt = 0 := by decide +kernel

/-- A transfer. -/
def xf : TwXfer := ⟨9, 0x50, 1, 0, false, false, [0xAB], 1, 0⟩
/-- Port 3 as a controller, as f makes it. -/
def tc (f : Twp → Twp) : State := { s0 with twp := vmod s0.twp 3 fun t => f { t with cfg := 0x4001, addr := 0xC0 } }

/-- R329 to R331, R334: a controller port. -/
theorem test_controller :
    let s := tc fun t => { t with st := 1, xfer := some xf }
    kByTag s 9 = none ∧ clockRuns s = true ∧ twActs s 3 = true ∧
    (((go (.twTransferEnd 3 (.done [])) s).tw 3).xfer = none ∧ ((go (.twTransferEnd 3 .nackAddr) s).tw 3).st = 0) ∧
    (let u := go (.arbLost 3 none) s
     (u.tw 3).xfer = some { xf with losses := 1 } ∧ (u.tw 3).losses = 1 ∧ (u.tw 3).st = 3 ∧ (u.tw 3).evt.getLsbD 1 = true) ∧
    (let u := go (.arbLost 3 none) (tc fun t => { t with st := 1, xfer := some { xf with losses := 3 } })
     (u.tw 3).xfer = none ∧ (u.tw 3).losses = 1 ∧ (u.tw 3).st = 3) ∧
    (let u := go (.twTransferEnd 3 .nackAddr) (tc fun t => { t with st := 1, xfer := some xf, queue := [{ xf with tag := 8, attempts := 0 }] })
     (u.tw 3).xfer = some { xf with tag := 8 } ∧ (u.tw 3).queue = [] ∧ (u.tw 3).st = 1) ∧
    (let u := go (.twBusClear 3 (some 4)) (tc fun t => { t with st := 3, xfer := some xf })
     (u.tw 3).st = 1 ∧ (u.tw 3).xfer = some { xf with attempts := 2 } ∧ (u.tw 3).evt.getLsbD 2 = true) ∧
    (let u := busClear 3 none s
     (u.tw 3).xfer = none ∧ (u.tw 3).st = 3 ∧ (u.tw 3).evt.getLsbD 4 = true ∧ rs (go (.twBusClear 3 none) s) 958 .uc = true) ∧
    (let u := go (.twControllerTimeout 3) (tc fun t => { t with st := 3, xfer := some xf })
     (u.tw 3).xfer = none ∧ (u.tw 3).st = 3 ∧ (u.tw 3).evt.getLsbD 3 = true) ∧
    (go (.twBusClear 3 none) s0).twp = s0.twp ∧ (go (.twControllerTimeout 3) (tc id)).twp = (tc id).twp ∧
    (let u := go (.twBusIdle 3) (tc fun t => { t with st := 3, cfgNext := some 0x2, addrNext := some 0xC1 })
     (u.tw 3).st = 0 ∧ (u.tw 3).cfg = 2 ∧ (u.tw 3).cfgNext = none ∧ (u.tw 3).addr = 0xC1) ∧
    ((go (.twBusIdle 3) s).tw 3).st = 1 := by decide +kernel

/-- R330, R334: Host Notify. -/
theorem test_host_notify :
    let n := fun (k l : Nat) => tc fun t => { t with notify := some (0xBEEF, k, l) }
    twActs (n 2 0) 3 = true ∧
    (((go (.hostNotify 3 true) (n 2 0)).tw 3).notify = none ∧ ((go (.hostNotify 3 true) (n 2 0)).tw 3).out = [0x10, 0x80, 0xEF, 0xBE] ∧
     ((go (.hostNotify 3 false) (n 2 1)).tw 3).notify = some (0xBEEF, 3, 1) ∧
     ((go (.hostNotify 3 false) (n 2 1)).tw 3).notifyTick = some 3000 ∧
     (let f := go (.hostNotify 3 false) (n 3 0)
      (f.tw 3).notify = none ∧ (f.tw 3).evt.getLsbD 6 = true) ∧
     (let a := go (.arbLost 3 none) (n 1 2)
      (a.tw 3).notify = some (0xBEEF, 1, 3) ∧ (a.tw 3).losses = 1 ∧ (a.tw 3).st = 3) ∧
     (let a := go (.arbLost 3 none) (n 1 3)
      (a.tw 3).notify = none ∧ (a.tw 3).evt.getLsbD 6 = true) ∧
     (let w := fun (z : Nat) => tc fun t => { t with notify := some (0xBEEF, 0, 0), notifyTick := some z }
      ((go (.hostNotify 3 true) (w 1001)).tw 3).notify = some (0xBEEF, 0, 0) ∧
      ((go (.hostNotify 3 true) (n 0 0)).tw 3).notify = none)) := by decide +kernel

/-- Channel 7 is a TIE channel on port 2, with a Tie instance whose PREF is given. -/
def tie (pref : W) (f : Tpc → Tpc) : State :=
  let t : Task := { tk .l with lib := some (libTie, 1, 0), chans := [(true, 7)] }
  let s := shared [(0x104, pref)] (inForce [(t, 3)] [⟨7, 4, 10, 2, 2, 5⟩] s0)
  { s with tpc := vmod s.tpc 2 f }

/-- E31 has been raised, of whatever class. -/
def rt (u : State) : Bool := (assocGet u.fcr.cnt 31).isSome || u.fcr.todo.any (·.src == 31)

/-- R309 to R311, Table 14.7: attach, confirm, detach and the beacons. -/
theorem test_tie_attach :
    let at_ (st : TpSt) (f : Tpc → Tpc := id) : State := tie 0 fun x => f { x with st := st }
    tieChan (at_ .search) 2 = some 7 ∧ tiePref (at_ .search) 2 = 0 ∧ tiePref (tie 2 id) 2 = 2 ∧
    inAttach 2000 = true ∧ inAttach 2500 = true ∧ inAttach 2501 = false ∧
    (let u := go (.attachLevelRead 2 2000) (at_ .search fun x => { x with beacon := true })
     (u.tp 2).st = .confirm ∧ (u.tp 2).beacon = false ∧ (u.tp 2).level = 2000 ∧ (u.tp 2).attachLvl = true) ∧
    ((go (.attachLevelRead 2 1999) (at_ .search)).tp 2).st = .search ∧
    (let u := go (.attachConfirm 2) (tm 30000 (at_ .confirm fun x => { x with feedPres := true }))
     (u.tp 2).st = .agree ∧ (u.tp 2).role = 1 ∧ rt u = true ∧
     ((u.tp 2).sent.map fun m => (m.op, m.pay)) = some (0x10, [2, 1, 0, 0]) ∧
     ((u.tp 2).waiting.map (·.2)) = some (1, 30000)) ∧
    ((go (.attachConfirm 2) (tm 29999 (at_ .confirm))).tp 2).st = .confirm ∧
    ((go (.attachConfirm 2) (tm 30000 (at_ .confirm))).tp 2).role = 2 ∧
    ((go (.attachConfirm 2) (tm 30000 (at_ .search))).tp 2).st = .search ∧
    (let u := go (.attachLevelLost 2 0) (at_ .confirm)
     (u.tp 2).st = .search ∧ (u.tp 2).role = 0 ∧ rt u = false) ∧
    (let u := go (.detach 2 0) (at_ .lease fun x => { x with lease := true })
     (u.tp 2).st = .search ∧ (u.tp 2).forced = true ∧ (u.tp 2).lease = false ∧ (u.tp 2).evt.getLsbD 0 = true ∧ rt u = true) ∧
    (rt (go (.detach 2 0) (at_ .confirm)) = true ∧ ((go (.detach 2 0) (at_ .confirm)).tp 2).forced = true) ∧
    ((go (.detach 2 0) (at_ .turn fun x => { x with turning := true })).tp 2).st = .turn ∧
    (((go (.beaconStart 2) (at_ .search)).tp 2).beacon = true ∧ ((go (.beaconStart 2) (at_ .search)).tp 2).feedPres = true) ∧
    ((go (.beaconEnd 2) (at_ .search fun x => { x with beacon := true, feedPres := true, beaconEnd := 3000 })).tp 2).feedPres = false ∧
    ((go (.beaconEnd 2) (at_ .search fun x => { x with beacon := true, feedPres := true, beaconEnd := 3001 })).tp 2).feedPres = true ∧
    ((go (.beaconStart 2) (at_ .search fun x => { x with gap := 3001 })).tp 2).beacon = false ∧
    ((go (.beaconStart 2) (at_ .confirm)).tp 2).beacon = false ∧
    ((go (.beaconStart 2) (at_ .search)).tp 2).beaconEnd = 53000 ∧
    (tieHiZ (at_ .disabled) 2 = true ∧ tieHiZ (at_ .rest) 2 = true ∧ tieHiZ (at_ .search) 2 = false) := by decide +kernel

/-- R312 to R314, R316, R318 to R320: answers, timeouts, retries, the REST end and the protection. -/
theorem test_tie_timers :
    let m : PMsg := ⟨0x21, 3, 2, false, [0, 0, 0, 0]⟩
    let at_ (f : Tpc → Tpc) : State := tie 0 fun x => f { x with st := .agree, role := 2, hailed := true, gen := 2 }
    let rest := fun (u : State) => (u.tp 2).st == .rest && rt u
    (let u := go (.answerTimeout 2) (tm 20001 (at_ fun x => { x with waiting := some (m, 2, 1) }))
     (u.tp 2).sent = some m ∧ (u.tp 2).waiting = some (m, 3, 20001) ∧ rt u = false) ∧
    ((go (.answerTimeout 2) (tm 20000 (at_ fun x => { x with waiting := some (m, 2, 1) }))).tp 2).waiting = some (m, 2, 1) ∧
    ((go (.answerTimeout 2) (tm 20000 (at_ id))).tp 2).sent = none ∧
    (let u := go (.answerTimeout 2) (tm 20001 (at_ fun x => { x with waiting := some (m, 3, 1), lease := true }))
     rest u = true ∧ (u.tp 2).forced = true ∧ tieHiZ u 2 = true ∧ (u.tp 2).lease = false ∧ (u.tp 2).restarts = 1 ∧
     (u.tp 2).sent.map (·.op) = some 0x3F) ∧
    rest (go (.liveTimeout 2) (tm 200001 (at_ fun x => { x with granted := true, grantTick := 1 }))) = true ∧
    rest (go (.liveTimeout 2) (tm 200000 (at_ fun x => { x with granted := true, grantTick := 1 }))) = false ∧
    rest (go (.roleTurnTimeout 2) (tm 20001 (at_ fun x => { x with turning := true, turnTick := 1 }))) = true ∧
    rest (go (.roleTurnTimeout 2) (tm 20000 (at_ fun x => { x with turning := true, turnTick := 1 }))) = false ∧
    rest (go (.roleTurnTimeout 2) (tm 40001 (at_ fun x => { x with st := .turn, turning := true, turnTick := 1 }))) = true ∧
    rest (go (.roleTurnTimeout 2) (tm 40000 (at_ fun x => { x with st := .turn, turning := true, turnTick := 1 }))) = false ∧
    ((go (.liveTimeout 2) (tm 200001 (at_ fun x => { x with role := 1, granted := true }))).tp 2).st = .agree ∧
    (let u := go (.deferExpiry 2) (at_ fun x => { x with defer := some 3000 })
     (u.tp 2).defer = none ∧ (u.tp 2).sent.map (·.op) = some 0x21 ∧ ((u.tp 2).waiting.map (·.2)) = some (1, 3000)) ∧
    ((go (.deferExpiry 2) (at_ fun x => { x with defer := some 3001 })).tp 2).defer = some 3001 ∧
    (let s := at_ fun x => { x with tieWait := some 3000 }
     let u := go (.turnTieWaitEnd 2) s
     tieMayTurn (s.tp 2) = true ∧ (u.tp 2).tieWait = none ∧ (u.tp 2).sent.map (·.op) = some 0x30 ∧
     (u.tp 2).draw.isSome = true ∧
     ((go (.turnTieWaitEnd 2) (at_ fun x => { x with tieWait := some 3001 })).tp 2).sent = none) ∧
    (let u := go (.collide 2) (at_ fun x => { x with sent := some m })
     (u.tp 2).evt.getLsbD 6 = true ∧ (u.tp 2).retry.isSome = true ∧ (u.tp 2).sent = some m ∧ u.fresh = 1) ∧
    ((go (.txRetry 2) (at_ fun x => { x with retry := some 3000 })).tp 2).retry = none ∧
    ((go (.txRetry 2) (at_ fun x => { x with retry := some 3001 })).tp 2).retry = some 3001 ∧
    (let r := at_ fun x => { x with st := .rest, stTick := 1, forced := true }
     let u := go (.restEnd 2) (tm 1200001 r)
     (u.tp 2).st = .search ∧ (u.tp 2).forced = false ∧ ((go (.restEnd 2) (tm 1200000 r)).tp 2).st = .rest) ∧
    (let o := fun (n : Nat) => shared [(0x10C, 10)] (at_ fun x => { x with oc := some n })
     let u := go (.tieOcTimer 2) (o 2990)
     (tieParm (o 2990) 2 12).toNat = 10 ∧ (u.tp 2).st = .rest ∧ (u.tp 2).prot = true ∧ (u.tp 2).oc = none ∧
     (u.tp 2).evt.getLsbD 5 = true ∧ rz u 31 .uc 0x0408 = true ∧ ((go (.tieOcTimer 2) (o 2991)).tp 2).st = .agree) ∧
    ((go (.tieOcTimer 2) (at_ id)).tp 2).st = .agree := by decide +kernel

/-- R312, R315 to R317, Tables 14.3 and 14.4: the messages of an agreement. -/
theorem test_tie_messages :
    let h : PilotHead := ⟨2, true, 3⟩
    let m : PMsg := ⟨0x21, 3, 2, false, [0, 0, 0, 0]⟩
    let o : Offer := ⟨480, 400, 100⟩
    let tk2 (f : Tpc → Tpc) : State := tie 0 fun x => f { x with st := .agree, role := 2 }
    let fd (f : Tpc → Tpc) : State := tie 0 fun x => f { x with st := .agree, role := 1, hailed := true, offers := [o] }
    let ops := fun (u : State) => (u.tp 2).sent.map fun q => (q.op, q.pay)
    ((go (.hail 2 h 2 1) (tie 0 id)).tp 2).msgs = 0 ∧
    (let u := go (.hail 2 h 2 1) (tk2 fun x => { x with lastRx := some (3, some m) })
     (u.tp 2).sent = some m ∧ (u.tp 2).msgs = 1 ∧ (u.tp 2).hailed = false) ∧
    (let u := go (.hail 2 h 2 1) (tk2 id)
     sharedGen 2 1 = some 2 ∧ (u.tp 2).gen = 2 ∧ (u.tp 2).hailed = true ∧ (u.tp 2).sent.map (·.op) = some 0x10 ∧
     (u.tp 2).lastRx = some (3, (u.tp 2).sent)) ∧
    (let u := go (.hail 2 h 5 3) (tk2 id)
     sharedGen 5 3 = none ∧ (u.tp 2).st = .search ∧ ops u = some (0x23, [0, 0, 0, 1]) ∧ (u.tp 2).evt.getLsbD 2 = true ∧
     rt u = true) ∧
    (let s := tk2 fun x => { x with hailed := true, waiting := some (m, 1, 2990) }
     ((go (.terms 2 h []) s).tp 2).offers = [] ∧ ((go (.terms 2 h []) s).tp 2).waiting = none ∧
     ((go (.terms 2 h [o]) s).tp 2).offers = [o]) ∧
    (ops (go (.claim 2 h 1 50) (fd id)) = some (0x23, [0, 0, 0, 2]) ∧
    ((go (.claim 2 h 0 50) (fd id)).tp 2).sent.map (·.op) = some 0x24 ∧
     (let u := go (.claim 2 h 0 150) ((fd id).modCh 7 fun x => { x with st := .control })
      (u.tp 2).sent.map (·.op) = some 0x22 ∧ (u.tp 2).granted = true ∧ (u.tp 2).grant = 100 ∧ (u.tp 2).lease = false)) := by decide +kernel

/-- R314 to R316: the answers to a CLAIM, LIVE, RESTART. -/
theorem test_tie_answers :
    let h : PilotHead := ⟨2, true, 3⟩
    let m : PMsg := ⟨0x21, 3, 2, false, [0, 0, 0, 0]⟩
    let tk2 (f : Tpc → Tpc) : State := tie 0 fun x => f { x with st := .agree, role := 2 }
    let fd (f : Tpc → Tpc) : State := tie 0 fun x => f { x with st := .agree, role := 1, hailed := true, offers := [⟨480, 400, 100⟩] }
    (let s := tk2 fun x => { x with hailed := true, waiting := some (m, 1, 2990) }
     (((go (.pilotGrant 2 h 77) s).tp 2).granted = true ∧ ((go (.pilotGrant 2 h 77) s).tp 2).grant = 77 ∧
      ((go (.pilotGrant 2 h 77) s).tp 2).st = .agree) ∧
     ((go (.defer 2 h 6) s).tp 2).defer = some 15000 ∧ ((go (.defer 2 h 6) s).tp 2).waiting = none ∧
     (((go (.decline 2 h 1) s).tp 2).st = .search ∧ rt (go (.decline 2 h 1) s) = true) ∧
     ((go (.decline 2 h 2) s).tp 2).st = .agree ∧ ((go (.decline 2 h 2) s).tp 2).waiting = none) ∧
    (let u := go (.live 2 (some h) 0) (tk2 fun x => { x with granted := true, grant := 77 })
     (u.tp 2).st = .lease ∧ (u.tp 2).lease = true ∧ (u.tp 2).granted = false ∧ (u.tp 2).grant = 77 ∧ rt u = true) ∧
    (let u := go (.live 2 (some h) 1) (tk2 fun x => { x with st := .turn, turning := true })
     (u.tp 2).st = .agree ∧ (u.tp 2).role = 1 ∧ (u.tp 2).feedPres = true) ∧
    (let u := go (.pilotRestart 2 h) (tk2 id)
     (u.tp 2).st = .rest ∧ tieHiZ u 2 = true ∧ (u.tp 2).restarts = 1 ∧ rt u = true) ∧
    (let out := fd fun x => { x with granted := true }
     let s := shared [(0x106, 0xFFFF0001)] out
     tieInWindow s 2 = false ∧ ((go (.live 2 none 0) s).tp 2).st = .agree) ∧
    (let u := go (.live 2 none 0) (fd fun x => { x with granted := true })
     tieInWindow (fd id) 2 = true ∧ (u.tp 2).st = .lease ∧ (u.tp 2).sent.map (·.op) = some 0x25 ∧ rt u = true) := by decide +kernel

/-- R318, R319: TURN and TURN_OK. -/
theorem test_tie_turn :
    let h : PilotHead := ⟨2, true, 3⟩
    let t (pref : W) (f : Tpc → Tpc) : State := tie pref fun x => f { x with st := .lease, gen := 2, role := 1 }
    let ops := fun (u : State) => (u.tp 2).sent.map fun q => (q.op, q.pay)
    (let g := t 0 fun x => { x with gen := 1 }
     ((go (.turn 2 h 5) g).tp 2).discarded = 1 ∧ ((go (.turnOk 2 h) g).tp 2).discarded = 1) ∧
    (ops (go (.turn 2 h 5) (t 1 id)) = some (0x23, [0, 0, 0, 3]) ∧
    ops (go (.turn 2 h 5) (t 0 fun x => { x with winding := true })) =
      some (0x23, [0, 0, 0, 4])) ∧
    (let u := go (.turn 2 h 5) (t 0 id)
     (u.tp 2).sent.map (·.op) = some 0x31 ∧ (u.tp 2).st = .turn ∧ (u.tp 2).turning = true ∧ (u.tp 2).turnTick = 3000) ∧
    (let u := go (.turnOk 2 h) (t 0 fun x => { x with draw := some 5 })
     (u.tp 2).st = .turn ∧ (u.tp 2).turning = true ∧ (u.tp 2).draw = none) := by decide +kernel

/-! Library tasks. -/

/-- A library instance on context 3 that owns channels, with words of its block and its library state. -/
def lb (lid : Nat) (chs : List Nat) (ws : List (Nat × W)) (f : LibSt → LibSt := id) : State :=
  let t : Task := { tk .l with lib := some (lid, 1, 0), chans := chs.map fun n => (true, n) }
  let s := shared (ws.map fun x => (0x100 + x.1, x.2)) (inForce [(t, 3)] [cd 0, ⟨9, 1, 10, 5, 2, 5⟩] s0)
  s.modCx 3 fun x => { x with lib := f x.lib }

/-- The instance's task. -/
def lt (id : Nat) (chs : List Nat) : Task := { tk .l with lib := some (id, 1, 0), chans := chs.map fun n => (true, n) }

/-- R257, R258, R260, R261: the timers of a Feed instance. -/
theorem test_feed :
    let s (st : W) (ws : List (Nat × W)) (f : LibSt → LibSt := id) : State := lb libFeed [0] ((3, st <<< 24) :: ws) f
    let t := lt libFeed [0]
    libAt (s 1 []) 3 libFeed = some t ∧ libCh t = 0 ∧ libAt s0 3 libFeed = none ∧
    (let w := fun (n : Nat) => s 2 [(18, 1), (6, 10)] fun x => { x with timer := some n }
     libState (go (.feedFaultTimerExpiry 3) (w 2990)) t = 2) ∧
    (let u := go (.feedFaultTimerExpiry 3) (s 2 [(18, 1), (6, 10)] fun x => { x with timer := some 2989 })
     libState u t = 3 ∧ libReason u t = 1 ∧ (parm u t 18).bit 2 = true ∧ (parm u t 18).bit 0 = false ∧ parm u t 19 = 2999 ∧
     (libOf u 3).timer = none ∧ rz u 3 .uc 1 = true) ∧
    (let w := fun (n : Nat) => s 1 [(4, 100), (9, 1)] fun x => { x with since := n }
     let u := go (.feedRampTimeout 3) (w 999)
     (parm (w 999) t 17).toInt < parmF (w 999) t 4 0 ∧ libState (go (.feedRampTimeout 3) (w 1000)) t = 1 ∧ libState u t = 3 ∧ libReason u t = 3 ∧ (parm u t 18).bit 2 = true ∧ rz u 3 .uc 3 = true) ∧
    (let g := s 3 [(18, 4), (8, 1), (20, 5), (7, 1)] fun x => { x with latch := 1000 }
     (parm (go (.feedCoolDownEnd 3) g) t 18).bit 4 = false) ∧
    (let f := s 3 [(18, 4), (8, 1), (20, 5), (7, 1)] fun x => { x with latch := 999 }
     let u := go (.feedCoolDownEnd 3) f
     (parm f t 18).bit 2 = true ∧ bandOf f 0 ≤ (parm f t 8).toNat ∧ (parm u t 18).bit 4 = true ∧ parm u t 20 = 0 ∧
     libState u t = 3) ∧
    libState (go (.feedPresenceAccepted 3) (s 1 [(18, 8), (11, 1)] fun x => { x with pres := some (false, 1000) })) t = 1 ∧
    (let u := go (.feedPresenceAccepted 3) (s 1 [(18, 8), (11, 1)] fun x => { x with pres := some (false, 999) })
     libState u t = 4 ∧ (parm u t 18).bit 3 = false ∧ (parm u t 18).bit 5 = true ∧ (libOf u 3).pres = none) ∧
    rz (go (.feedRampTimeout 3) s0) 3 .uc 3 = false := by decide +kernel

/-- R265, R269: the timers of a Battery string and of a Hold-up instance. -/
theorem test_string_holdup :
    let b := lb libBatt [9] [(3, 0x03000000), (10, 1)] fun x => { x with timer := some 999 }
    let h (st : W) : State := lb libHold [9] [(3, st <<< 24), (6, 1), (8, 1)] fun x => { x with since := 1000 }
    let e (st : W) : State := lb libHold [9] [(3, st <<< 24), (6, 1), (8, 1)] fun x => { x with since := 1001 }
    libState (go (.holdupHandTimer 3) (e 1)) (lt libHold [9]) = 1 ∧ libState (go (.holdupQualEnd 3) (e 3)) (lt libHold [9]) = 3 ∧
    libAt b 3 libBatt = some (lt libBatt [9]) ∧ ledgerOf b 9 = some 5 ∧
    (let u := go (.stringReinsTimer 3) b
     libState u (lt libBatt [9]) = 4 ∧ (libOf u 3).timer = none ∧ (vat u.clg 5 Ledger.init).absent = false) ∧
    libState (go (.stringReinsTimer 3) (lb libBatt [9] [(3, 0x03000000), (10, 1)] fun x => { x with timer := some 1000 }))
      (lt libBatt [9]) = 3 ∧
    libState (go (.stringReinsTimer 3) (lb libBatt [9] [(3, 0x02000000)])) (lt libBatt [9]) = 2 ∧
    libAt (h 1) 3 libHold = some (lt libHold [9]) ∧ memberTask (h 1) libRect 9 = none ∧
    (let u := go (.holdupHandTimer 3) (h 1)
     libState u (lt libHold [9]) = 2 ∧ (libOf u 3).since = 3000) ∧
    (let u := go (.holdupQualEnd 3) (h 3)
     libState u (lt libHold [9]) = 4 ∧ parm u (lt libHold [9]) 33 = 0 ∧ (libOf u 3).since = 3000) ∧
    libState (go (.holdupHandTimer 3) (h 4)) (lt libHold [9]) = 4 := by decide +kernel

/-- R271, R272: the search of a Cap instance, and a feed that it restores. The rectifier of channel 0 says that it limits. -/
theorem test_cap :
    let r : Task := { tk .l with num := 6, lib := some (libRect, 1, 0), chans := [(true, 0)], paramAt := 0x400 }
    let fd : Task := { tk .l with num := 7, lib := some (libFeed, 1, 0), chans := [(true, 9)], paramAt := 0x500 }
    let c : Task := { lt libCap [] with paramLen := 96 }
    let s (ws : List (Nat × W)) (f : LibSt → LibSt) : State :=
      let s1 := inForce [(c, 3), (r, 4), (fd, 5)] [cd 0, ⟨9, 1, 10, 5, 2, 5⟩] s0
      (shared ((0x400 + 18, 4) :: (0x500 + 14, 1) :: (0x105, 1) :: (0x110, 0x0001FFFF) :: ws.map fun x => (0x100 + x.1, x.2)) s1).modCx 3
        fun x => { x with lib := f x.lib }
    let go_ := s [(66, 0x41200000), (8, 0x40000000), (6, 0x42C80000), (16, 0x00FFFFFF)] fun x => { x with phase := 1 }
    let top := s [(66, 0x42C60000), (8, 0x40000000), (6, 0x42C80000), (16, 0x00FFFFFF)] fun x => { x with phase := 1 }
    let wait := s [(66, 0x41200000), (9, 1)] fun x => { x with phase := 1, mark := 1001 }
    let two := fun (n : Nat) => s [(7, 0x41000000), (13, 0x3A83126F)] fun x => { x with phase := 2, mark := n }
    let shd := fun (k : Nat) => s [] fun x => { x with shed := [(9, 0x3F800000, k)] }
    parm (go (.capSearchStep 3) wait) c 66 = 0x41200000 ∧
    libAt go_ 3 libCap = some c ∧ (parm go_ c 5).toNat = 1 ∧
    (capLimits go_ c = true ∧ fge (fadd (parm go_ c 66) (parm go_ c 8)) (parm go_ c 6) = false ∧
     parm (go (.capSearchStep 3) go_) c 66 = 0x41400000 ∧ (libOf (go (.capSearchStep 3) go_) 3).lastOk = 0x41200000) ∧
    (capLimits top c = true ∧ fge (fadd (parm top c 66) (parm top c 8)) (parm top c 6) = true ∧
     parm (go (.capSearchStep 3) top) c 66 = 0x42B40000 ∧ (libOf (go (.capSearchStep 3) top) 3).phase = 2) ∧
    ((libOf (go (.capResearchTimer 3) (two 0)) 3).phase = 0 ∧ parm (go (.capResearchTimer 3) (two 0)) c 66 = 0x41000000 ∧
     (libOf (go (.capResearchTimer 3) (two 2000)) 3).phase = 2) ∧
    (memberTask (shd 10) libFeed 9 = some fd ∧ (libOf (go (.feedRestore 3) (shd 10)) 3).shed = [] ∧
     parm (go (.feedRestore 3) (shd 10)) fd 14 = 0 ∧ (libOf (go (.feedRestore 3) (shd 9)) 3).shed = [(9, 0x3F800000, 9)]) ∧
    (go (.feedRestore 3) s0).shared = [] := by decide +kernel

/-- An OCV table of two points, 3 V and 4 V, at one temperature (R282). -/
def ocv : List (Nat × W) :=
  [(0x800, 0x00020001), (0x801, 0x41C80000), (0x803, 0x3F800000), (0x804, 0x40400000), (0x805, 0x40800000)]

/-- R285, R287, R288: the ends of an Estimate instance. -/
theorem test_estimate :
    let t := lt libEst []
    let s (st : W) (f : LibSt → LibSt := id) : State :=
      let s1 := shared ocv (lb libEst [] [(3, st <<< 24), (2, 5), (6, 0x800), (37, 0x40600000), (12, 0x3A83126F), (15, 0x3A83126F),
        (21, 0x3A83126F), (22, 0x3A83126F)] f)
      { s1 with clg := vmod s1.clg 5 fun x => { x with absent := false } }
    libAt (s 1) 3 libEst = some t ∧ (estLg (s 0) t).absent = false ∧
    (let h := fun (n : Nat) => s 1 fun x => { x with taper := some n, stepTick := 3000 }
     let u := go (.estimateTaperFull 3) (h 2000)
     estHas (h 2000) t 0 = false ∧ heldFor (heldNow (h 2000) 3 (some 2000)) (parm (h 2000) t 12) = true ∧
     heldFor (heldNow (h 1999) 3 (some 1999)) (parm (h 1999) t 12) = false ∧
     parm u t 32 = 0x3F800000 ∧ parm u t 33 = 0x3F800000 ∧ estHas u t 0 = true ∧ estHas u t 2 = true ∧ libState u t = 2 ∧
     (libOf u 3).blend = none ∧ libState (go (.estimateTaperFull 3) (h 1999)) t = 1) ∧
    (let h := fun (st : W) (n : Nat) => s st fun x => { x with rest := some n, stepTick := 3000 }
     (let u := go (.estimateRestHeld 3) (h 0 2000)
      libState u t = 1 ∧ libReason u t = 8 ∧ parm u t 33 = 0x3F000000 ∧ libState (go (.estimateRestHeld 3) (h 0 1999)) t = 0) ∧
     (let u := go (.estimateRestHeld 3) (h 1 2000)
      (libOf u 3).blend.isSome = true ∧ estHas u t 6 = true ∧ libState u t = 1 ∧
      (libOf (go (.estimateRestHeld 3) (h 1 1999)) 3).blend = none)) ∧
    libState (go (.estimateRestHeld 3) (s 0)) t = 0 ∧
    (let b := fun (n k : Nat) => s 1 fun x => { x with blend := some (0x3F000000, 0, k), stepTick := n }
     (cvti (fmul (parm (b 0 0) t 21) 0x49F42400) 0).1.toNat = 2000 ∧
     (let u := go (.estimateBlendEnd 3) (b 3000 2000)
      parm u t 33 = 0 ∧ (libOf u 3).blend = none ∧ libState u t = 2) ∧
     (let u := go (.estimateBlendEnd 3) (b 3000 1000)
      (libOf u 3).blend.isSome = true) ∧
     (let u := go (.estimateBlendEnd 3) (b 2000 1000)
      parm u t 33 = fadd 0 (fdiv (fmul 0x3F000000 (secsOf 1000)) (parm (b 0 0) t 21)) ∧ (libOf u 3).blend = none)) ∧
    libState (go (.estimateBlendEnd 3) (s 1)) t = 1 := by decide +kernel

/-! The join bus. -/

/-- The device on the join bus as f makes it, on a device that is J0 or not. -/
def jn (m : Bool) (f : Jnb → Jnb) : State :=
  { s0 with jnb := f s0.jnb, boot := { s0.boot with straps := if m then 1 else 0 } }

/-- A hop that is UP. -/
def hop (f : JPortSt → JPortSt := id) : JPortSt := f { s0.jnb.ja with hop := .up, version := 2 }

/-- R340: HELLO, use and loss of a hop. -/
theorem test_hops :
    let s := jn false id
    let up := jn false fun j => { j with jb := hop }
    joinRuns s = true ∧
    (let u := go (.hopHello .ja 9 3 7 .solo) s
     (u.jnb.port .ja).hop = .down ∧ u.jnb.evt.getLsbD 2 = true) ∧
    (let u := go (.hopHello .ja 2 1 7 .solo) s
     (u.jnb.port .ja).hop = .up ∧ (u.jnb.port .ja).version = 2 ∧ (u.jnb.port .ja).serial = 7 ∧ (u.jnb.port .ja).usable = false ∧
     u.jnb.jb = s.jnb.jb) ∧
    ((go (.hopUsable .jb) up).jnb.jb.usable = true ∧ (go (.hopUsable .ja) up).jnb.ja.usable = false) ∧
    ((go (.hopUsable .jb) (jn false fun j => { j with jb := hop fun x => { x with upTick := 1000 } })).jnb.jb.usable = true ∧
     (go (.hopUsable .jb) (jn false fun j => { j with jb := hop fun x => { x with upTick := 1001 } })).jnb.jb.usable = false ∧
     (go (.hopUsable .jb) (jn false fun j => { j with jb := hop fun x => { x with role := 3 } })).jnb.jb.usable = false) ∧
    (let u := go (.hopDown .jb) up
     u.jnb.jb.hop = .down ∧ u.jnb.evt.getLsbD 0 = true ∧ rs u 959 .uc = true) ∧
    (rs (go (.hopDown .ja) up) 959 .uc = false ∧ (go (.hopDown .ja) up).jnb.ja.hop = .down) := by decide +kernel

/-- R342, R344, R350: J0 starts the enumerating train. -/
theorem test_train_start :
    let s := jn true fun j => { j with ja := hop fun x => { x with usable := true } }
    let u := go .trainStart s
    isMaster s = true ∧ u.jnb.sent.map (fun t => (t.cycleTc, t.syncOk, t.enumF, t.lineJa)) = some (3000, true, true, true) ∧
    u.jnb.sent.map (fun t => (t.g, t.slots.length)) = some (2, 16) ∧ u.jnb.passed = true ∧ u.jnb.addr = some 0 ∧ u.jnb.st = 2 ∧
    (u.jnb.ended = false ∧ u.jnb.back = none) ∧
    (go .trainStart (jn true fun j => { j with ja := hop })).jnb.sent = none ∧
    (go .trainStart (tm 3199 s)).jnb.sent = none ∧ (go .trainStart u).jnb.sent = u.jnb.sent ∧
    (go .trainStart (jn false id)).jnb.sent = none := by decide +kernel

/-- A train of one group with one cell. -/
def train (f : Train → Train) : Train :=
  f ⟨3000, true, true, false, 1, 4, 500, 0x77, true, [Cell.empty], [], List.replicate 8 ⟨false, false, 0, 0, 0⟩, []⟩

/-- An ENUM cell with its next address. -/
def enumCell (n : W) : Cell := ⟨true, false, 1, 0, 0, 0x3FF, [n]⟩

/-- R341, R343, R350, R351: a train passes a device: a bad SYNC, a second master, an empty one, one that enumerates, its return. -/
theorem test_passage :
    let s := jn false fun j => { j with ja := hop }
    let m := jn true fun j => { j with ja := hop, st := 2, addr := some 0 }
    ((go (.trainPassage .jb (train id)) s).jnb = s.jnb) ∧
    (let u := go (.trainPassage .ja (train fun t => { t with syncOk := false, badCells := [0] })) s
     u.jnb.sent.isSome = true ∧ u.jnb.crcErr = 2 ∧ u.jnb.rx = []) ∧
    (let u := go (.trainPassage .ja (train id)) (jn false fun j => { j with ja := hop, master := some 0x78 })
     (u.jnb.port .ja).role = 3 ∧ (u.jnb.port .ja).usable = false ∧ u.jnb.evt.getLsbD 3 = true ∧ rs u 959 .uc = true) ∧
    (let u := go (.trainPassage .ja (train id)) s
     u.jnb.master = some 0x77 ∧ (u.jnb.port .ja).role = 1 ∧ u.jnb.g = 1 ∧ u.jnb.c = cellsOf 1 ∧ u.jnb.ndev = 4 ∧
     u.jnb.delay = 500 ∧
     u.jnb.ring = true ∧ u.jnb.sent.map (·.slots.length) = some 8 ∧ u.jnb.addr = none ∧ u.jnb.st = 2) ∧
    (let u := go (.trainPassage .ja (train fun t => { t with cells := [enumCell 5] })) s
     u.jnb.addr = some 5 ∧ u.jnb.st = 3 ∧ u.jnb.late = false ∧
     u.jnb.sent.map (fun t => (lat t.cells 0 Cell.empty).pay) = some [6]) ∧
    (let u := go (.trainPassage .ja (train fun t => { t with enumF := false, cells := [enumCell 7] })) s
     u.jnb.addr = some 7 ∧ u.jnb.late = true) ∧
    (let u := go (.trainPassage .ja (train fun t => { t with mserial := mySerial m, cells := [enumCell 9] })) m
     u.jnb.st = 3 ∧ u.jnb.ndev = 9 ∧ u.jnb.g = groupsOf 9 ∧ u.jnb.ring = true ∧ u.jnb.cycles = m.jnb.cycles + 1 ∧
     u.jnb.back.isSome = true) := by decide +kernel

/-- R350: ENUM on a device without an address. -/
theorem test_enum :
    let s (st : BitVec 4) : State := jn false fun j => { j with st := st, g := 2 }
    ((go (.enum 1023) (s 2)).jnb.addr = some 1023 ∧ (go (.enum 1023) (s 2)).jnb.late = false) ∧
    ((go (.enum 15) (s 3)).jnb.addr = some 15 ∧ (go (.enum 15) (s 3)).jnb.late = true) ∧
    (let u := go (.enum 16) (s 3)
     u.jnb.addr = none ∧ u.jnb.st = 4 ∧ rs u 959 .uc = true) ∧
    (go (.enum 3) (jn true id)).jnb.addr = none := by decide +kernel

/-- R348: reservations, grants and their expiry. -/
theorem test_reserve :
    let m := jn true fun j => { j with c := 40, grants := [(7, 5, 10, 0)], addr := some 0 }
    grantRun 40 [(7, 5, 10, 0)] 25 = some 15 ∧ grantRun 40 [(7, 5, 10, 0)] 26 = none ∧
    ((go (.reserve 9 25) m).jnb.grants = [(7, 5, 10, 0), (9, 15, 25, 0)] ∧
     (go (.reserve 9 25) m).jnb.grantQ = [(9, 0x000F0019, 0)]) ∧
    ((go (.reserve 9 26) m).jnb.grants = [(7, 5, 10, 0)] ∧
    ((go (.reserve 9 26) m).jnb.grantQ.map fun x => (x.1, x.2.2.bit 0)) = [(9, true)]) ∧
    (go (.reserve 7 0) m).jnb.grants = [] ∧ (go (.reserve 9 5) (jn false id)).jnb.grants = [] ∧
    (let d := jn false fun j => { j with addr := some 3, reserve := some 2990, first := 1, count := 2 }
     (go (.joinGrant 6 7 false) d).jnb.first = 6 ∧ (go (.joinGrant 6 7 false) d).jnb.count = 7 ∧
     (go (.joinGrant 6 7 true) d).jnb.count = 2 ∧ (go (.joinGrant 6 7 true) d).jnb.evt.getLsbD 4 = true) ∧
    (go (.grantExpiry 7) { m with jnb := { m.jnb with cycles := 9999 } }).jnb.grants = [(7, 5, 10, 0)] ∧
    (go (.grantExpiry 7) { m with jnb := { m.jnb with cycles := 10000 } }).jnb.grants = [] ∧
    (go (.grantExpiry 7) { m with boot := s0.boot, jnb := { m.jnb with cycles := 10000 } }).jnb.grants = [(7, 5, 10, 0)] := by
  decide +kernel

/-- R175, R176: SEQ_REQ and SEQ_STATE of another device. -/
theorem test_join_seq :
    let s := inForce [(tk .s, 400)] [] s0
    let a := shared [(0x103, 0x40070000)] s
    let w : State := s.modCx 400 fun x => { x with
      rel := some (rl .s), seq := { x.seq with st := .up, wait := .await .on 7 8 5 false 2 } }
    ctxOf s 5 = some 400 ∧ taskNo s 5 = some (tk .s) ∧ (parm a (tk .s) 3).bits 25 16 = 7 ∧
    (let u := go (.seqReq 7 5 false) a
     seqReqOn u (tk .s) = true ∧ seqSupOk u (tk .s) = false) ∧
    (rs (go (.seqReq 8 5 false) a) (taskSrc (engOfCtx 400)) (promoted a (taskSrc (engOfCtx 400)) .ce) = true ∧
     seqReqOn (go (.seqReq 8 5 false) a) (tk .s) = false) ∧
    (seqTask s 400 = some (tk .s) ∧ (seqOf (go (.seqState 7 8 .on) s) 400).slaves = [(7, 8, .on)]) ∧
    (let u := go (.seqState 7 8 .locked) w
     canFault .up = true ∧ (seqOf u 400).st = .unwind ∧ (seqOf u 400).unwFault = true ∧ (u.cx 400).rel = none) ∧
    (go (.seqReq 7 6 false) s).shared = [] := by decide +kernel

/-- R240: a system trigger that another device announces. -/
theorem test_join_trigger :
    let g (st : TrigSt) : State := tg fun x => { x with decl := true, words := [0x30004200], st := st, armTick := 2000 }
    trigSource (trg (g .armed) 31) = 3 ∧ trigSys (trg (g .armed) 31) = 0x42 ∧
    ((trg (go (.joinTrigger 5 0x42 2995) (g .armed)) 31).st = .fired ∧
    (trg (go (.joinTrigger 5 0x42 2995) (g .armed)) 31).f = 2995) ∧
    (trg (go (.joinTrigger 5 0x42 2995) (tm 1999 (g .armed))) 31).st = .armed ∧
    (trg (go (.joinTrigger 5 0x42 2995) (g .fired)) 31).missed = 1 := by decide +kernel

/-! Updates: votes and steps. -/

/-- The update unit in a phase. -/
def up (p : UpdPhase) (f : Upe → Upe := id) : State := { s0 with upe := f { s0.upe with phase := p, mid := 7, mseqNew := 8 } }

/-- R422: what the signed manifest verifies to, and a manifest that is not there. -/
theorem test_verify_code : (verifyCode (upd fun x => { x with phase := .verifying })).1 = 0 := by decide +kernel

/-- R422: a verification that fails. -/
theorem test_verify_end :
    let s := up .verifying
    (verifyCode s).1 ≠ 0 ∧ (go .updVerifyEnd s).upe.phase = .staging ∧ (go .updVerifyEnd s).upe.evt.getLsbD 1 = true ∧
    rz (go .updVerifyEnd s) 982 (promoted s 982 .ce) (0x0A00 + (verifyCode s).1) = true ∧
    (go .updVerifyEnd (up .idle)).upe.phase = .idle := by decide +kernel

/-- R419, R421 to R423, R425, R428, R429: the messages of an update, of this one and of another. -/
theorem test_votes :
    let c (p : UpdPhase) (f : Upe → Upe := id) : State := up p fun x => f { x with coord := true, expected := [1, 2], yes := [1] }
    let k := { kc 0x0703 2 [] with begun := true }
    ofUpdate (up .verified) 7 8 = true ∧ ofUpdate (up .verified) 7 9 = false ∧
    (go (.voteOpen 7 9) (up .verified)).upe.phase = .verified ∧
    (let u := go (.voteOpen 7 8) (up .verified)
     u.upe.phase = .preparing ∧ u.upe.preparing = true ∧ u.upe.yes = [] ∧ u.upe.openTick = 3000) ∧
    ((go (.vote 7 8 false 0 2) (c .preparing)).upe.yes = [1, 2] ∧ (go (.vote 7 8 false 0 1) (c .preparing)).upe.yes = [1]) ∧
    (let s := acc [k] (c .ready)
     let u := go (.vote 7 8 false 0 2) s
     (s.upe.expected.all fun a => (s.upe.yes ++ [2]).contains a) = true ∧ cpl s u k 0 0 = true ∧ u.upe.phase = .ready) ∧
    (let u := go (.vote 7 8 true 5 2) (c .preparing)
     u.upe.phase = .verified ∧ u.upe.coord = false ∧ u.upe.lastCode = 5 ∧ u.upe.evt.getLsbD 3 = true ∧
     rz u 982 .uc 0x0A05 = true) ∧
    (let u := go (.voteCommit 7 8 9000) (up .ready)
     u.upe.phase = .armed ∧ u.upe.commitTick = 9000) ∧
    (let u := go (.voteAbort 7 8 5 3) (up .armed)
     updOpen .armed = true ∧ u.upe.phase = .verified ∧ u.upe.lastCode = 0x10 ∧ rz u 982 .uc 0x0A10 = true) ∧
    (let u := go (.voteFallback 7 8 6000 5 3) (up .trial)
     u.upe.fallTick = some 6000 ∧ u.upe.phase = .trial) ∧
    (let f := up .trial fun x => { x with fallTick := some 4000 }
     (go (.voteFallback 7 8 6000 5 3) f).upe.fallTick = some 4000 ∧
     (go (.voteFallback 7 8 3500 5 3) f).upe.fallTick = some 3500) ∧
    (let u := go (.voteConfirm 7 8) (up .trial)
     u.upe.phase = .confirming ∧ u.upe.mseqConf = 8 ∧ u.upe.manSlot = true) ∧
    ((go .voteTimeout (tm 20000999 (c .preparing fun x => { x with openTick := 1000 }))).upe.phase = .preparing) ∧
    (let u := go .voteTimeout (tm 20001000 (c .preparing fun x => { x with openTick := 1000 }))
     u.upe.phase = .verified ∧ u.upe.lastCode = 0x0A ∧ rz u 982 .uc 0x0A0A = true) ∧
    (go .voteTimeout (tm 20001000 (up .preparing))).upe.phase = .preparing := by decide +kernel

/-- R423: the end of the local preparation. -/
theorem test_prepare :
    let p (b : Bool) : State := up .preparing fun x => { x with preparing := true, coord := b }
    dripBefore (p false) = false ∧ (prepResult (p false)).1 = 0 ∧
    (let u := go (.prepareDone none) (p false)
     u.upe.phase = .ready ∧ u.upe.preparing = false ∧ u.upe.newPlan = none ∧ u.upe.newFw = none) ∧
    (let u := go (.prepareDone (some 4)) (p true)
     u.upe.phase = .verified ∧ u.upe.lastCode = 9 ∧ u.upe.lastPart = 4 ∧ rz u 982 .uc 0x0A09 = true) ∧
    (go (.prepareDone none) (up .preparing)).upe.phase = .preparing := by decide +kernel

/-- R425 to R429: tick C, the handover, settings, tick F and the trial's end. -/
theorem test_steps :
    let old : OldParts := ⟨none, [], [], [], 0x55, 0⟩
    (let u := go .commitTick (up .armed fun x => { x with newFw := some 0x99 })
     u.upe.phase = .trial ∧ u.upe.trialStart = 3000 ∧ u.upe.old.isSome = true ∧ u.upe.fwAct = 0x99 ∧
     u.kio.handover = some 7000 ∧
     u.adm = s0.adm) ∧
    (let g := im [] []
     let s := up .armed fun x => { x with newPlan := some (g, []) }
     let u := go .commitTick s
     placesNow g [] (fencedSet s) (fencedSU s) = some [] ∧ u.adm.img = some g ∧ u.adm.nominal = [] ∧ u.upe.newPlan = none ∧
     u.kio.handover = none) ∧
    (go .commitTick (up .ready)).upe.phase = .ready ∧
    (go .handoverEnd { s0 with kio := { s0.kio with handover := some 3000 } }).kio.handover = none ∧
    ((go (.settingsMigration (some [(0x1000, [1, 2])])) (up .trial)).upe.settings = [(0x1000, [1, 2])] ∧
     (let u := go (.settingsMigration none) (up .trial)
      u.upe.fallTick.isSome = true ∧ u.upe.evt.getLsbD 5 = true) ∧
     (let u := go (.settingsMigration (some [(0x1000, List.replicate 2816 1)])) (up .trial)
      u.upe.fallTick.isSome = true ∧ u.upe.settings = []) ∧
     (go (.settingsMigration none) (up .ready)).upe.fallTick = none) ∧
    (let u := go .fallbackTick (up .trial fun x => { x with fallTick := some 3000, old := some old, lastCode := 0x0E })
     u.upe.phase = .idle ∧ u.upe.fwAct = 0x55 ∧ u.upe.evt.getLsbD 4 = true ∧ rz u 982 .uc 0x0A0E = true) ∧
    ((go .commitTick (up .armed fun x => { x with commitTick := 3001 })).upe.phase = .armed ∧
     (go .commitTick (up .armed fun x => { x with commitTick := 3000 })).upe.phase = .trial ∧
     (let u := go .commitTick (up .armed fun x => { x with newFw := some 0x99 })
      u.boot.half = !s0.boot.half ∧ u.boot.hand = some (handArea u) ∧ (handArea u).timers = [0, 3000]) ∧
     (go .fallbackTick (up .trial fun x => { x with fallTick := some 3001, old := some old })).upe.phase = .trial) := by decide +kernel

/-- R428: the end of the trial, at its tick and one before. -/
theorem test_trial_end :
    let t (f : Upe → Upe) : State := tm 10001000 (up .trial fun x => f { x with trialStart := 1000, trialS := 5 })
    (go .trialEnd (t id)).upe.trialS = 0 ∧ (go .trialEnd (tm 10000999 (t id))).upe.trialS = 5 ∧
    (let u := go .trialEnd (t fun x => { x with coord := true, auto := true })
     u.upe.phase = .confirming ∧ u.upe.mseqConf = 8) := by decide +kernel

/-- R419, R420, R425, R428: the update commands. Four bytes of data and their CRC-32C make a block. -/
theorem test_update_commands :
    (let k := kc 0x0701 3 [(3, 0), (4, 0x100)]
     let b : List Byte := [1, 2, 3, 4] ++ bytesOfWords [crc32c [1, 2, 3, 4]]
     let u := go (.updStage 9 (some b)) (acc [k] (up .staging))
     stageDest (up .staging) 0 0 = some (stageMan s0, 0x40000) ∧ rdy (acc [k] (up .staging)) k = true ∧
     cpl (acc [k] (up .staging)) u k 0 0 = true ∧ Memory.readW u.upe.flash (stageMan s0 + 0x100) = 0x04030201 ∧
     u.upe.staged = 1 ∧ Memory.readW u.host 28 = 1 ∧
     ends (up .staging) k (.updStage 9 (some [1, 2, 3, 4, 0, 0, 0, 0])) 0 0x11 = true ∧
     ends (up .staging) k (.updStage 9 none) 0x25 = true ∧ ends (up .trial) k (.updStage 9 (some b)) 0x24 = true) ∧
    (let k := kc 0x0702 2 []
     (go (.updVerify 9) (acc [k] (up .staging))).upe.phase = .verifying ∧ ends (up .idle) k (.updVerify 9) 0x24 = true) ∧
    (let k := kc 0x0703 2 []
     let u := go (.updPrepare 9) (acc [k] (up .verified))
     u.upe.phase = .preparing ∧ u.upe.coord = true ∧ (u.jnb.outQ.map fun x => (x.1, x.2.1)) = [(0x30, 0x3FF)] ∧
     ends (up .ready) k (.updPrepare 9) 0x24 = true) ∧
    (let k := kc 0x0704 2 []
     let s := up .ready fun x => { x with coord := true, expected := [1], yes := [1] }
     let u := go (.updCommit 9) (acc [k] s)
     earliestC s = 104000 ∧ u.upe.phase = .armed ∧ u.upe.commitTick = 104000 ∧ (u.jnb.outQ.map (·.1)) = [0x32] ∧
     ends (up .trial) k (.updCommit 9) 0x24 = true) ∧
    (let k := kc 0x0705 1 []
     let s := up .trial fun x => { x with coord := true }
     let l := up .trial fun x => { x with coord := true, trialS := 5 }
     trialOver s = true ∧ ends s k (.updConfirm 9) 0 = true ∧ (go (.updConfirm 9) (acc [k] s)).upe.phase = .confirming ∧
     trialOver l = false ∧ ends l k (.updConfirm 9) 0x24 = true) ∧
    (let k := kc 0x0706 2 []
     let u := go (.updFallback 9) (acc [k] (up .trial))
     u.upe.fallTick = some 4000 ∧ u.upe.lastCode = 0x0E ∧ u.upe.phase = .trial ∧
     ends (up .ready) k (.updFallback 9) 0x24 = true) := by
  decide +kernel

/-! The pair. -/

/-- The device on a side of a pair, as f makes it. -/
def pd (f : Prl → Prl) : State := { s0 with prl := f { s0.prl with strapped := true, side := false, link := .up, pst := .inSync } }

/-- E960 has been raised. -/
def r960 (u : State) : Bool := (assocGet u.fcr.cnt 960).isSome || u.fcr.todo.any (·.src == 960)

/-- R354, R355, R357, Tables 17.3 and 17.4: the partner's HELLO, and the loss of the link. -/
theorem test_pair_hello :
    let s := pd fun p => { p with link := .down, pst := .seek }
    let h (w0 w3 w4 : W) : List W := [w0, 0, 0, w3, w4, 0, 0]
    pairRuns s = true ∧ firmwareFits 2 s.upe.fwAct s.prl.compat 0 0 = true ∧
    firmwareFits 2 s.upe.fwAct s.prl.compat 5 0 = false ∧
    (go (.pairHello (h 0x02010100 0 0) 41) s).prl.link = .down ∧
    (let u := go (.pairHello (h 0x02010000 0 0) 10) s
     u.prl.role = .standby ∧ u.prl.pst = .clash ∧ u.prl.evt.getLsbD 5 = true ∧ r960 u = true) ∧
    (let u := go (.pairHello (h 0x03030100 0 0) 10) s
     u.prl.pst = .mismatch ∧ u.prl.role = .solo ∧ u.prl.evt.getLsbD 4 = true) ∧
    (go (.pairHello (h 0x02010100 5 0) 10) s).prl.pst = .mismatch ∧
    (let u := go (.pairHello (h 0x02010100 0 0) 10) s
     u.prl.link = .up ∧ u.prl.version = 2 ∧ u.prl.pst = .resync ∧ u.prl.role = .lead ∧ u.prl.resyncTick = 3000) ∧
    (go (.pairHello (h 0x02010103 0 0) 10) s).prl.role = .standby ∧
    (go (.pairHello (h 0x02010000 0 0) 10) (pd id)).prl.pst = .inSync ∧
    (let u := go .pairLinkDown (pd fun p => { p with role := .standby })
     u.prl.link = .down ∧ u.prl.version = 0 ∧ u.prl.pst = .inSync) ∧
    (go .pairLinkDown (pd fun p => { p with role := .lead })).prl.pst = .seek := by decide +kernel

/-- A tick cell of the last tick that agrees with the device. -/
def cell (f : TickCell → TickCell := id) : TickCell := f ⟨.standby, true, false, false, .none, .inSync, 2999, 0, 0, 0⟩

/-- R364, R365, R367, Table 17.7: tick cells, missing and differing. -/
theorem test_tick_cells :
    let l (f : Prl → Prl := id) : State := pd fun p => f { p with role := .lead, version := 2 }
    let s (f : Prl → Prl := id) : State := pd fun p => f { p with role := .standby, version := 2 }
    ((go (.tickCell none) (l id)).prl.missing = 1 ∧
    (go (.tickCell (some (cell fun x => { x with tc := 2998 }))) (l id)).prl.missing = 1) ∧
    (let u := go (.tickCell none) ((s fun p => { p with missing := 1 }).modLk 3 fun x => { x with st := .up })
     u.prl.role = .lead ∧ u.prl.takeover = some 3000 ∧ u.prl.takeovers = 1 ∧ u.prl.evt.getLsbD 0 = true ∧
     u.prl.evt.getLsbD 1 = true ∧
     (u.lk 3).own = true) ∧
    (let u := go (.tickCell none) (l fun p => { p with missing := 1 })
     u.prl.pst = .alone ∧ u.prl.role = .lead ∧ u.prl.evt.getLsbD 0 = true) ∧
    (l id).clk.notAligned = false ∧
    (go (.tickCell (some cell)) (l fun p => { p with missing := 1, lastBad := true })).prl.missing = 0 ∧
    (let u := go (.tickCell (some (cell fun x => { x with mask := 4 }))) (l id)
     u.prl.pst = .resync ∧ u.prl.splits = 1 ∧ u.prl.evt.getLsbD 2 = true ∧ r960 u = true) ∧
    (let u := go (.tickCell (some (cell fun x => { x with odig := 4 }))) (l id)
     u.prl.pst = .inSync ∧ u.prl.mismatch = 1 ∧ u.prl.lastBad = true ∧ r960 u = true) ∧
    (let u := go (.tickCell (some (cell fun x => { x with sdig := 4 }))) (l fun p => { p with lastBad := true })
     u.prl.pst = .dispute ∧ u.prl.check = .running ∧ u.prl.evt.getLsbD 3 = true ∧ r960 u = true) := by decide +kernel

/-- R365, R367: disputes and the takeover window; R371: the end of a resynchronisation. -/
theorem test_disputes :
    let d (r : PairRole) (p : CheckRes) (c : CheckRes := .running) : State :=
      pd fun x => { x with role := r, pst := .dispute, check := c, partner := p, dispute := some 2988 }
    (go (.selfCheckEnd true) (d .lead .running)).prl.check = .pass ∧
    (go .disputeTimeout (d .lead .running)).prl.partner = .fail ∧
    (let u := go (.selfCheckEnd true) (d .lead .pass)
     u.prl.pst = .resync ∧ u.prl.role = .lead ∧ u.prl.dispute = none) ∧
    (let u := go (.selfCheckEnd false) (d .lead .pass)
     u.prl.pst = .fenced ∧ u.prl.role = .standby ∧ u.prl.yields = 1) ∧
    (go (.selfCheckEnd true) (d .lead .fail)).prl.pst = .alone ∧
    ((go (.selfCheckEnd false) (d .lead .fail)).prl.pst = .alone ∧
    rs (go (.selfCheckEnd false) (d .lead .fail)) 960 .fe = true) ∧
    ((go (.selfCheckEnd false) (d .standby .pass)).prl.pst = .fenced) ∧
    (go .disputeTimeout (d .lead .running .pass)).prl.pst = .alone ∧ (go (.selfCheckEnd true) (pd id)).prl.check = .none ∧
    (go .disputeTimeout (tm 2999 (d .lead .running .pass))).prl.pst = .dispute ∧
    (let t (m : BitVec 64) : State := pd fun x => { x with role := .lead, takeover := some 2992, takeMask := m, pst := .alone }
     (go .takeoverWindowEnd (t 4)).prl.role = .lead ∧ (go .takeoverWindowEnd (t 4)).prl.takeover = none ∧
     (go .takeoverWindowEnd (tm 2999 (t 0))).prl.role = .lead ∧
     (let u := go .takeoverWindowEnd (t 0)
      u.prl.role = .standby ∧ u.prl.evt.getLsbD 6 = true ∧ u.prl.pst = .resync ∧ r960 u = true)) := by decide +kernel

/-- R371: IN_SYNC at an epoch boundary after 4,000 equal ticks, a RESYNC that fails 1 s after COPY, and its restart. -/
theorem test_sync_entry :
    let s (n : Nat) (f : Prl → Prl := id) : State := tm n (pd fun x =>
      f { x with role := .standby, pst := .resync, resyncTick := 1000, converge := true, equalRun := 4000, copyEnd := 1000 })
    inResync (s 4000) = true ∧ (go .inSyncEntry (s 4000)).prl.pst = .inSync ∧ (go .inSyncEntry (s 4000)).prl.syncTime = 1 ∧
    (go .inSyncEntry (s 4001)).prl.pst = .resync ∧
    (go .inSyncEntry (s 4000 fun x => { x with equalRun := 3999 })).prl.pst = .resync ∧
    (go .inSyncEntry (s 4000 fun x => { x with converge := false })).prl.pst = .resync ∧
    (let u := go .resyncTimeout (s 2001000)
     u.prl.fails = 1 ∧ u.prl.evt.getLsbD 7 = true ∧ u.prl.restartAt = some 4001000 ∧ r960 u = true) ∧
    (go .resyncTimeout (s 2000999)).prl.fails = 0 ∧
    rs (go .resyncTimeout (s 2001000 fun x => { x with fails := 2 })) 960 .uc = true ∧
    (go .resyncRestart (s 3000 fun x => { x with restartAt := some 3000 })).prl.resyncTick = 3000 ∧
    (go .resyncRestart (s 3000 fun x => { x with restartAt := some 3001 })).prl.resyncTick = 1000 := by decide +kernel

/-- R356, R358 to R362: commands and writes that are mirrored, their application and status. -/
theorem test_mirroring :
    let s := pd fun p => { p with role := .standby }
    let l := pd fun p => { p with role := .lead }
    let e : List W := [0x00010009, 0] ++ List.replicate 14 0
    (mirrorTakes s = true ∧ mirrorTakes l = false) ∧
    (let u := go (.pairCmd 5 e) s
     (u.kio.accepted.map fun k => (k.cmd, k.tag, k.mseq, k.foreign)) = [(1, 9, some 5, true)] ∧
     (u.prl.queue.map fun x => (x.mseq, x.apply, x.applied)) = [(5, 3002, false)] ∧
     (go .mirrorApply (tm 3001 u)).prl.queue = u.prl.queue ∧
     (let v := go .mirrorApply (tm 3002 u)
      v.prl.queue = [] ∧ (v.kio.accepted.map (·.applied)) = [true])) ∧
    (let u := go (.regw 0x50 [77]) s
     (u.prl.queue.map fun x => (x.isReg, x.words)) = [(true, [0x50, 4, 77])] ∧ (go .mirrorApply (tm 3002 u)).boot.scratch = 77 ∧
     (go .mirrorApply (tm 3002 u)).prl.queue = []) ∧
    (let n := pd fun p => { p with role := .standby, rxMseq := some 4 }
     (go (.pairCmd 5 e) n).prl.pst = .resync ∧ (go (.pairCmd 4 e) n).prl.pst = .inSync ∧
     (go (.pairCmd 5 e) n).prl.rxMseq = some 6 ∧ (go (.pairCmd 4 e) s).prl.pst = .inSync) := by decide +kernel

/-- R131, R360, R362, R371: the partner's status of a mirrored command, the plan's epoch, NAK and NV values. -/
theorem test_pair_status :
    let s := pd fun p => { p with role := .standby }
    let l := pd fun p => { p with role := .lead }
    (let x : Mirrored := ⟨5, false, [], 3002, none, true, some (0, 7, 0, 0), none⟩
     let k := { kc 0x0601 2 [] with mseq := some 5 }
     let q (x : Mirrored) (k : KCmd) : State := acc [k] { l with prl := { l.prl with queue := [x] } }
     cpl (q x k) (go (.pairStatus 5 0 7) (q x k)) k 0 7 = true ∧
     (let u := go (.pairStatus 5 0 8) (q x k)
      u.prl.pst = .dispute ∧ u.prl.check = .running ∧ r960 u = true) ∧
     ((go (.pairStatus 5 0 8) (q { x with own := none } k)).prl.queue.map (·.partner)) = [some (0, 8)] ∧
     (let r := { kc 0x0501 2 [(3, 0x1000)] with mseq := some 5 }
      cpl (q x r) (go (.pairStatus 5 0x39 8) (q x r)) r 0x39 8 = true) ∧
     (let p := { kc 0x0703 2 [] with mseq := some 5 }
      let y : State := q { x with own := none } p
      let z : State := { y with upe := { y.upe with phase := .preparing, coord := true } }
      updOpen .preparing = true ∧ (go (.pairStatus 5 0 8) z).upe.phase = .verified ∧
      rz (go (.pairStatus 5 0 8) z) 982 .uc 0x0A08 = true)) ∧
    (go (.plan 4) l).prl.planEpoch = some 4 ∧ (go (.plan 4) s0).prl.planEpoch = none ∧
    ((go (.pairNak 0x10 3) l).prl.resend = [(0x10, 3)] ∧ (go (.pairNak 0x02 3) l).prl.resend = []) ∧
    ((go (.nvval 7 [1]) s).prl.nvval = [(7, [1])] ∧ (go (.nvval 7 [1]) l).prl.nvval = []) := by decide +kernel

/-- R131, R371: the copy set, the image and the handoff of a resynchronisation. -/
theorem test_resync :
    let r (s : State) : State := { s with prl := { (pd id).prl with role := .standby, pst := .resync } }
    let s := r s0
    let t := r (inForce [(tk .l, 3)] [] s0)
    (go (.image [1, 2]) s0).adm.st = 0 ∧ (go (.image [1, 2]) s).adm.st = 1 ∧
    ((go (.image [1, 2]) s).adm.run.map (·.start)) = some 3000 ∧
    (let u := go (.copy (.shared 0x10 [5, 6])) (shared [(0x12, 9)] s)
     Memory.readWs u.shared 0x40 2 = [5, 6] ∧ Memory.readW u.shared 0x48 = 9) ∧
    vat ((go (.pairLog (.check 3 2 11)) s).cx 3).chk 2 0 = 11 ∧
    (let u := go (.handoff 5 3000 [101] [4, 5] []) t
     placeOf t 5 = some ⟨5, 0, 3, 0, false⟩ ∧ relPeriod (tk .l) = 1 ∧
     u.prl.handNext = 6 ∧
     rg u 3 1 = 101 ∧ rg u 3 31 = 0 ∧ vat (u.cx 3).chk 1 0 = 5 ∧ u.prl.converge = true ∧ ctxOf t 5 = some 3 ∧
     taskNo t 5 = some (tk .l) ∧ (t.cx 3).rel = none) ∧
    (let b := t.modCx 3 fun x => { x with rel := some (rl .l) }
     rg (go (.handoff 5 3000 [101] [] []) b) 3 1 = 0) ∧
    rg (go (.handoff 5 2999 [101] [] []) t) 3 1 = 101 ∧
    (let v := go (.handoff 5 2998 [101] [] []) t
     rg v 3 1 = 0 ∧ v.prl.converge = true) := by decide +kernel

/-! The step, and the reactions of R377. -/

/-- A step runs the front of the queue; with none it is a tick, 50 TS counts later. -/
theorem test_step :
    let s : State := { s0 with pending := [.registerWrite 0x50 4 7, .registerWrite 0x50 4 8] }
    (match step s with
     | .next t => t.boot.scratch == 7 && t.pending == [.registerWrite 0x50 4 8] && t.clk.ts == s.clk.ts
     | _ => false) = true ∧
    (match step s0 with
     | .next t => t.clk.tc == 3001 && t.clk.ts == 150050 && t.fcr.todo == []
     | _ => false) = true := by decide +kernel

/-- One occurrence waits: its source, class and configuration word. -/
def wait1 (src : Nat) (cls : EvClass) (cfg : W) (s : State := s0) : State :=
  { s with fcr := { s.fcr with todo := [⟨src, cls, cfg, 5, 0⟩] } }

/-- R377 to R381, R388, Table 18.3: ERRN, CRST, SAFE and FENCE, and the fatal path; no trigger watches events and no tie port is
bound. -/
theorem test_reactions :
    let v := s0.modCh 2 fun x => { x with st := .control }
    let r := run 376 .l []
    (s0.bbr.trig.all fun g => !g.decl) = true ∧ s0.adm.img = none ∧
    (settle (wait1 9 .ce 0)).fcr = s0.fcr ∧ (settle (wait1 9 .uc 0)).fcr = s0.fcr ∧ (settle s0).fcr = s0.fcr ∧
    (let u := settle (wait1 9 .uc 0x200000)
     (0x200000 : W).bits 24 18 = 8 ∧ u.fcr.errn = s0.fcr.errn ||| 1 ∧ u.fcr.errnOut = true ∧ (u.ch 2).st = .off) ∧
    ((0x400000 : W).bits 24 18 = 16 ∧ (settle (wait1 9 .uc 0x400000)).fcr.crst = some 3200) ∧
    ((0x80000 : W).bits 24 18 = 2 ∧ ((settle (wait1 9 .uc 0x80000 v)).ch 2).safeReq = true ∧
      ((settle (wait1 9 .uc 0x80000)).ch 2).safeReq = false) ∧
    (let u := settle (wait1 (768 + 47) .uc 0x100000 r)
     (0x100000 : W).bits 24 18 = 4 ∧ (u.engine 47).fenced = true ∧ engOfCtx 376 = 47 ∧ (u.cx 376).rel = none ∧
     (u.engine 46).fenced = false) ∧
    (let u := settle (wait1 9 .fe 0 v)
     leadInSync v = false ∧ u.fcr.fatal = true ∧ u.fcr.errn = v.fcr.errn ||| 2 ∧ (u.ch 2).safeReq = true ∧ (u.ch 3).safeReq = false ∧
     u.fcr.nmt = v.fcr.nmt + 1 ∧ u.fcr.crst = none) ∧
    (settle (wait1 9 .fe 0x400000 v)).fcr.crst = some 3200 ∧
    (settle (wait1 963 .fe 0 v)).fcr.nmt = v.fcr.nmt := by decide +kernel

/-- The step leaves no reaction: reset. -/
theorem test_reset : State.reset.fcr.todo = [] ∧ State.reset.pending = [] ∧
Memory.wf State.reset.shared = true := by decide +kernel

/-- R54, R55: a word that its profile does not have, in a release that stands at it. -/
theorem test_illegal :
    let i : Instr := .fadd 0 ⟨1, 2, 3, 0, 0⟩
    let s := run 0 .l []
    let bad : Instr := .add 0 ⟨1, 2, 3, 0, 8⟩
    (encodeInsn i).isSome = true ∧ engineCtx bad = some 0 ∧ (s.cx 0).rel = some (rl .l) ∧
    (match encodeInsn bad with | some (w, e) => insnOk (profOf 0) (insnOf w e) | none => true) = false ∧
    ((go bad s).cx 0).rel = none ∧ rz (go bad s) 768 .uc 3 = true := by decide +kernel

/-- R44, R46, R50: words at the end of LOCAL, in the shared block and in PARAM; the memories are in canonical form. -/
theorem test_store_one_word :
    let s := shared [(0x8000, 1), (0x8002, 2)] s0
    Memory.wf s.shared = true ∧
    (let u := spaceWrite 0 (rl .l) 3 1 7 s
     Memory.readW u.shared (4 * 0x8000) = 1 ∧ Memory.readW u.shared (4 * 0x8001) = 7 ∧ Memory.readW u.shared (4 * 0x8002) = 2) ∧
    Memory.readW (spaceWrite 0 (rl .l) 5 3 7 s).shared (4 * 0x103) = 7 ∧
    Memory.readW ((spaceWrite 0 (rl .l) 0 63 7 s).cx 0).loc 252 = 7 := by decide +kernel

end Sys2Proof.Tests
end

section
/-!
PROOF. Instructions of the L and U profiles in the terms of the statements: what an allowed instruction does to the state `after`
its release has moved on, and register 0 (R38).
-/
namespace Sys2Proof.Claims
open Sys2Proof Sys2Proof.Machine

section
variable {s : State} {c : Ctx} {w ext : W} {r : Rel} {i : Instr}

/-! The state `after` an instruction. -/

/-- The context of the instruction after it. -/
@[simp] theorem after_cx (s : State) (c : Ctx) (w ext : W) (r : Rel) (g : Context → Context) :
    (after s c w ext r g).cx c.val = { g (s.cx c.val) with rel := some (past c w ext r) } := State.modCx_cx_val s c _

/-- The model's register read is the statements' read. -/
theorem reg_eq_rd (s : State) (c : Ctx) (n : Nat) : reg c.val (s.cx c.val) n = rd s c n := by simp [reg, rd]

/-- A later update of the context joins the instruction's own. -/
theorem after_modCx {f g : Context → Context}
    (h : f { s.cx c.val with rel := some (past c w ext r) } = { g (s.cx c.val) with rel := some (past c w ext r) }) :
    (after s c w ext r id).modCx c.val f = after s c w ext r g := by
  rw [after, State.modCx_modCx]
  exact State.modCx_congr _ _ _ _ h

/-! Results. -/

/-- The model's write of a result is the statements' result. -/
theorem setRes_eq_result (c : Ctx) (d : Nat) (res : Res) (x : Context) :
    setRes c.val d res x = result c d res.v res.zn res.c res.s x := by
  unfold setRes result setFlags setZN setReg
  by_cases hs : isS c.val = true
  · simp [hs]
  · by_cases hd : d = 0
    · simp [hs, hd]
    · cases hz : res.zn <;> simp [hs, hd]

/-- A result for v0 of an L or U context changes nothing (R38). -/
theorem result_zero (hs : isS c.val = false) (v : W) (zn : Bool) (cy sf : Option Bool) : result c 0 v zn cy sf = id := by
  funext x
  simp [result, hs]

/-- A write to v0 of an L or U context changes nothing (R38). -/
theorem setReg_zero {n : Nat} (hs : isS n = false) (v : W) (x : Context) : setReg n 0 v x = x := by simp [setReg, hs]

/-- A write to v0 of an L or U context leaves the state (R38). -/
theorem modCx_setReg_zero {n : Nat} (hs : isS n = false) (s : State) (v : W) : (s.modCx n fun x => setReg n 0 v x) = s :=
  State.modCx_id s n _ (setReg_zero hs v _)

/-- A register written without flags. -/
theorem setReg_eq_plain (hs : isS c.val = false) (d : Nat) (v : W) (x : Context) : setReg c.val d v x = plain c d v x := by
  by_cases hd : d = 0 <;> simp [setReg, plain, result, hs, hd]

/-! Allowed instructions. -/

/-- An allowed instruction has its operation on the state in which its release has moved on. -/
theorem does_of_engine {op : Insn → Rel → State → State} (h : At s c w ext r) (hi : exec i s = done (engine c w ext op s)) :
    Does i s (op (insnOf w ext) r (after s c w ext r id)) := by
  obtain ⟨hr, hok, hg⟩ := h
  rw [Does, hi, engine_runs op hr hok hg]
  rfl

/-- An allowed instruction whose operation has nothing left to do only moves its release on. -/
theorem does_of_engine_same {op : Insn → Rel → State → State} (h : At s c w ext r)
    (hi : exec i s = done (engine c w ext op s))
    (hop : op (insnOf w ext) r (after s c w ext r id) = after s c w ext r id) : Does i s (after s c w ext r id) :=
  hop ▸ does_of_engine h hi

/-- An allowed instruction whose effect is a result and its flags. -/
theorem does_of_alu {f : (Nat → W) → Context → Insn → Res} {res : Res} (h : At s c w ext r)
    (hi : exec i s = done (alu c w ext f s))
    (hf : f (rd s c) { s.cx c.val with rel := some (past c w ext r) } (insnOf w ext) = res) :
    Does i s (after s c w ext r (result c (insnOf w ext).d res.v res.zn res.c res.s)) := by
  have hrd : reg c.val { s.cx c.val with rel := some (past c w ext r) } = rd s c := funext (reg_eq_rd s c)
  refine after_modCx ?_ ▸ does_of_engine h hi
  rw [hrd, hf, setRes_rel, setRes_eq_result]

/-- A result for v0 is discarded with its flags: only the release moves on (R38). -/
theorem does_of_alu_zero {f : (Nat → W) → Context → Insn → Res} (hs : isS c.val = false) (h : At s c w ext r)
    (hd : (insnOf w ext).d = 0) (hi : exec i s = done (alu c w ext f s)) : Does i s (after s c w ext r id) := by
  have := does_of_alu h hi rfl
  rwa [hd, result_zero hs] at this

/-! The instructions by their operation. -/

/-- The A-form instructions of L and U whose whole effect is a result in v[d] with its flags. -/
def resultForms (c : Ctx) (f : AForm) : List Instr :=
  [.mov c f, .sel c f, .add c f, .sub c f, .mul c f, .neg c f, .abs c f, .min c f, .max c f, .andW c f, .orW c f, .xorW c f,
    .shl c f, .asr c f, .lsr c f, .mrd c f, .fadd c f, .fsub c f, .fmul c f, .fma c f, .fdiv c f, .fsqrt c f, .cvtf c f,
    .cvti c f, .sat c f, .clamp c f, .intg c f, .filt1 c f, .lim c f]

/-- Each of them runs through `alu`, on its own word. -/
theorem exec_resultForms {f : AForm} (hi : i ∈ resultForms c f) (s : State) :
    ∃ op g, encodeInsn i = some (wordA op f, 0) ∧ exec i s = done (alu c (wordA op f) 0 g s) := by
  revert i
  simp only [resultForms, List.forall_mem_cons]
  repeat refine ⟨⟨_, _, rfl, rfl⟩, ?_⟩
  exact fun _ h => absurd h List.not_mem_nil

/-- An out-of-range access leaves every context. -/
@[simp] theorem outOfRange_cx (s : State) (n : Nat) (what : W) (m : Nat) : (outOfRange s n what).cx m = s.cx m := by
  simp [outOfRange, raiseCtx, State.cx]

/-- Registers that stand whether or not an access is out of range. -/
theorem regs_ite_outOfRange {p : Prop} [Decidable p] {u v : State} {x : Vector W 32} {what : W} {n m : Nat}
    (hu : (u.cx n).regs = x) (hv : (v.cx n).regs = x) : ((if p then u else outOfRange v m what).cx n).regs = x := by
  split
  · exact hu
  · rwa [outOfRange_cx]

/-- A free value leaves every context. -/
@[simp] theorem orFree_cx (v : Option W) (s : State) (n : Nat) : (orFree v s).2.cx n = s.cx n := by
  cases v <;> rfl

/-! Register 0, instruction by instruction (R38). -/

/-- MOV from v0 moves 0. -/
theorem does_mov_from_zero (hs : isS c.val = false) {f : AForm} (h : At s c (wordA 0x02 f) 0 r) (ha : f.a = 0) :
    Does (.mov c f) s (after s c (wordA 0x02 f) 0 r (plain c f.d.toNat 0)) := by
  have := does_of_alu (i := .mov c f) (res := resPlain 0) h rfl (by simp [ha, rd, hs])
  rwa [wordA_d] at this

/-- The instructions of `resultForms` into v0. -/
theorem does_resultForms_zero (hs : isS c.val = false) {f : AForm} (hi : i ∈ resultForms c f)
    (henc : encodeInsn i = some (w, ext)) (h : At s c w ext r) (hd : f.d.toNat = 0) : Does i s (after s c w ext r id) := by
  obtain ⟨op, g, hop, hex⟩ := exec_resultForms hi s
  obtain ⟨rfl, rfl⟩ : wordA op f = w ∧ 0 = ext := by simpa [hop] using henc
  exact does_of_alu_zero hs h (by simp [hd]) hex

/-- LDI, ADDI and JRD into v0. -/
theorem does_immediate_zero (hs : isS c.val = false) {f : BForm} (hi : i ∈ [.ldi c f, .addi c f, .jrd c f])
    (henc : encodeInsn i = some (w, ext)) (h : At s c w ext r) (hd : f.d.toNat = 0) : Does i s (after s c w ext r id) := by
  simp only [List.mem_cons, List.not_mem_nil, or_false] at hi
  rcases hi with rfl | rfl | rfl <;> cases henc
  case inl => exact does_of_alu_zero hs h (by simp [hd]) rfl
  case inr.inl => exact does_of_alu_zero hs h (by simp [hd]) rfl
  case inr.inr => exact does_of_engine_same h rfl (by simp only [wordB_d, hd, modCx_setReg_zero hs])

/-- LDK into v0. -/
theorem does_ldk_zero (hs : isS c.val = false) {f : EForm} (h : At s c (wordE 0x04 f) f.ext r) (hd : f.d.toNat = 0) :
    Does (.ldk c f) s (after s c (wordE 0x04 f) f.ext r id) := does_of_alu_zero hs h (by simp [hd]) rfl

/-- LD into v0. -/
theorem does_ld_zero (hs : isS c.val = false) {f : DForm} (h : At s c (wordD 0x40 f) 0 r) (hd : f.d.toNat = 0) :
    Does (.ld c f) s (after s c (wordD 0x40 f) 0 r id) :=
  does_of_engine_same h rfl (by simp only [wordD_d, hd, modCx_setReg_zero hs])

/-- LDX into v0 has no effect but the event of an address out of range (R49). -/
theorem does_ldx_zero (hs : isS c.val = false) {f : AForm} (h : At s c (wordA 0x42 f) 0 r) (hd : f.d.toNat = 0) :
    let a := (rd s c f.a.toNat + rd s c f.b.toNat).toNat
    let u := after s c (wordA 0x42 f) 0 r id
    Does (.ldx c f) s (if inSpace r.prog f.md.toNat a then u else outOfRange u c.val (nw a)) := by
  have ha : xAddr c (insnOf (wordA 0x42 f) 0) (after s c (wordA 0x42 f) 0 r id) =
      (rd s c f.a.toNat + rd s c f.b.toNat).toNat := by simp [xAddr, reg_eq_rd]
  have := does_of_engine (i := .ldx c f) h rfl
  simpa only [ha, wordA_md, wordA_d, hd, modCx_setReg_zero hs] using this

/-- The channel that TMUR reads (R60). -/
def tmurChannel (s : State) (c : Ctx) (f : BForm) : Nat :=
  if f.a.toNat = 0 then f.imm.toNat / 64 else (rd s c f.a.toNat).toNat % 256

/-- TMUR into v0 has no effect but the event of a channel out of range (R60). -/
theorem does_tmur_zero (hs : isS c.val = false) {f : BForm} (h : At s c (wordB 0x82 f) 0 r) (hd : f.d.toNat = 0) :
    let u := after s c (wordB 0x82 f) 0 r id
    Does (.tmur c f) s (if tmurChannel s c f < 192 then u else outOfRange u c.val (nw (tmurChannel s c f))) := by
  have hn : (if f.a.toNat = 0 then f.imm.toNat / 64 else (rd s c f.a.toNat).bits 7 0) = tmurChannel s c f := by
    simp [tmurChannel, W.bits]
  have := does_of_engine (i := .tmur c f) h rfl
  simpa only [wordB_a, wordB_imm, wordB_d, hd, after_cx, id, reg_rel, reg_eq_rd, hn, modCx_setReg_zero hs] using this

/-- LEDG into v0 leaves the registers, whether or not the task has the ledger; a read of QLO still holds QHI (R59). -/
theorem does_ledg_zero (hs : isS c.val = false) {f : BForm} (h : At s c (wordB 0x81 f) 0 r) (hd : f.d.toNat = 0) :
    ∃ u, Does (.ledg c f) s u ∧ (u.cx c.val).regs = (s.cx c.val).regs := by
  refine ⟨_, does_of_engine h rfl, regs_ite_outOfRange ?_ ?_⟩
  · simp only [wordB_d, hd, setReg_zero hs, State.modCx_cx_val, after_cx]
    split <;> rfl
  · simp only [wordB_d, hd, modCx_setReg_zero hs, after_cx, id]

/-- LEDG, TMUR and LDX into v0 leave the registers, in range or not. -/
theorem does_ranged_zero (hs : isS c.val = false) (henc : encodeInsn i = some (w, ext)) (h : At s c w ext r)
    (hi : (∃ f : BForm, f.d.toNat = 0 ∧ i ∈ [.ledg c f, .tmur c f]) ∨ (∃ f : AForm, f.d.toNat = 0 ∧ i = .ldx c f)) :
    ∃ u, Does i s u ∧ (u.cx c.val).regs = (s.cx c.val).regs := by
  simp only [List.mem_cons, List.not_mem_nil, or_false] at hi
  rcases hi with ⟨f, hd, rfl | rfl⟩ | ⟨f, hd, rfl⟩ <;> cases henc
  case inl.inl => exact does_ledg_zero hs h hd
  case inl.inr => exact ⟨_, does_tmur_zero hs h hd, regs_ite_outOfRange (by simp) (by simp)⟩
  case inr => exact ⟨_, does_ldx_zero hs h hd, regs_ite_outOfRange (by simp) (by simp)⟩

/-- DIFF into v0: the history register follows, and no flag changes. -/
theorem does_diff_zero (hs : isS c.val = false) {f : AForm} (h : At s c (wordA 0x33 f) 0 r) (hd : f.d.toNat = 0) :
    Does (.diff c f) s (after s c (wordA 0x33 f) 0 r (plain c f.b.toNat (rd s c f.a.toNat))) := by
  refine after_modCx ?_ ▸ does_of_engine (i := .diff c f) h rfl
  simp only [wordA_d, wordA_a, wordA_b, hd, setRes_zero hs, reg_rel, reg_eq_rd]
  rw [setReg_rel, setReg_eq_plain hs]

/-- RPT into v0 leaves the registers: its table alone learns. -/
theorem does_rpt_zero (hs : isS c.val = false) {f : AForm} (h : At s c (wordA 0x36 f) 0 r) (hd : f.d.toNat = 0) :
    ∃ u, Does (.rpt c f) s u ∧ (u.cx c.val).regs = (s.cx c.val).regs := by
  refine ⟨_, does_of_engine h rfl, ?_⟩
  simp only [State.modCx_cx_val, rptOp, wordA_d, hd, setReg_zero hs, after_cx]
  split <;> rfl

/-- IN into v0 leaves the registers and C: a fresh word is noted in the release alone. -/
theorem does_inp_zero (hs : isS c.val = false) {f : DForm} (h : At s c (wordD 0x44 f) 0 r) (hd : f.d.toNat = 0) :
    ∃ u, Does (.inp c f) s u ∧ (u.cx c.val).regs = (s.cx c.val).regs ∧ (u.cx c.val).fC = (s.cx c.val).fC := by
  refine ⟨_, does_of_engine h rfl, ?_⟩
  simp only [wordD_d, hd, setRes_zero hs]
  split <;> simp [State.modRel]

/-- LIB into v0 leaves every register but v1, where the second result of SINCOS goes (R58). -/
theorem does_lib_zero (hs : isS c.val = false) {f : EForm} (h : At s c (wordE 0x80 f) f.ext r) (hd : f.d.toNat = 0) :
    ∃ u, Does (.lib c f) s u ∧ ∀ n, n < 32 → n ≠ 1 → rd u c n = rd s c n := by
  refine ⟨_, does_of_engine h rfl, fun n _ hn => ?_⟩
  simp only [wordE_d, hd, Nat.zero_add, modCx_setReg_zero hs]
  split
  · simp only [rd, State.modCx_cx_val, vat_setReg_ne hn.symm, orFree_cx, after_cx, id]
  · simp only [rd, orFree_cx, after_cx, id]

/-- Register 0 as a number. -/
theorem toNat_of_eq_zero {n : Nat} {d : BitVec n} (h : d = 0) : d.toNat = 0 := by simp [h]

end

/-- Settles O21: each clause is one of the lemmas above, the ranges of LDX and TMUR being given. -/
theorem zeroRegister : Obligations.ZeroRegister := by
  intro s c r hs
  refine ⟨fun _ h ha => does_mov_from_zero hs h ha,
    fun _ _ _ _ henc h hd hi => does_resultForms_zero hs hi henc h (toNat_of_eq_zero hd),
    fun _ _ _ _ henc h hd hi => does_immediate_zero hs hi henc h (toNat_of_eq_zero hd),
    fun _ h hd => does_ldk_zero hs h (toNat_of_eq_zero hd),
    fun _ h hd => does_ld_zero hs h (toNat_of_eq_zero hd), ?ldx, ?tmur, ?ranged,
    fun _ h hd => does_diff_zero hs h (toNat_of_eq_zero hd),
    fun _ h hd => does_rpt_zero hs h (toNat_of_eq_zero hd),
    fun _ h hd => does_inp_zero hs h (toNat_of_eq_zero hd),
    fun _ h hd => does_lib_zero hs h (toNat_of_eq_zero hd)⟩
  case ldx =>
    intro f h hd hin
    simpa only [if_pos hin] using does_ldx_zero hs h (toNat_of_eq_zero hd)
  case tmur =>
    intro f h hd hin
    have hn : tmurChannel s c f < 192 := hin
    simpa only [if_pos hn] using does_tmur_zero hs h (toNat_of_eq_zero hd)
  case ranged =>
    intro i w ext henc h hi
    refine does_ranged_zero hs henc h (hi.imp ?_ ?_) <;> exact fun ⟨f, hd, hf⟩ => ⟨f, toNat_of_eq_zero hd, hf⟩

end Sys2Proof.Claims
end

section
/-!
PROOF. SAT and CLAMP (R74): the model's results in the form the statement writes them, then the instructions.
-/
namespace Sys2Proof.Claims
open Sys2Proof Sys2Proof.Machine

/-- Bit 0 of MOD, as the model reads it from the decoded word. -/
theorem wordA_md_odd (op : BitVec 8) (f : AForm) (ext : W) : ((insnOf (wordA op f) ext).md % 2 == 1) = m0 f := by
  rw [wordA_md, m0, BitVec.getLsbD, Nat.testBit_zero]
  rfl

/-- Clipping to a signed range of k + 1 bits, which is not empty: its two bounds apply in either order. -/
theorem min_max_signed_range (x : Int) (k : Nat) :
    min (max x (-(2 ^ k))) (2 ^ k - 1) = max (-(2 ^ k)) (min x (2 ^ k - 1)) := by
  have hk : (0 : Int) < 2 ^ k := Int.pow_pos (by decide)
  omega

/-- SAT to w = k + 1 bits. -/
theorem resSatW_succ (a : W) (k : Nat) :
    let y : Int := max (-(2 ^ k)) (min a.toInt (2 ^ k - 1))
    resSatW a (k + 1) = ⟨BitVec.ofInt 32 y, true, none, some (y != a.toInt)⟩ := by
  rw [resSatW, Nat.add_sub_cancel, min_max_signed_range]
  rfl

/-- CLAMP in fixed form: S tells that the clipped value differs from the operand. -/
theorem resClamp_fixed (a lo hi : W) :
    let y : Int := min (max a.toInt lo.toInt) hi.toInt
    resClamp false a lo hi = ⟨BitVec.ofInt 32 y, true, none, some (y != a.toInt)⟩ := rfl

/-- CLAMP in F form: a NaN operand becomes lo; S tells a NaN or a change of value. -/
theorem resClamp_float (a lo hi : W) :
    let y := if isNan a then lo else fmin (fmax a lo) hi
    resClamp true a lo hi = ⟨y, false, none, some (isNan a || fcmp y a != some .eq)⟩ := by
  cases h : isNan a <;> simp [resClamp, h]

section
variable {s : State} {c : Ctx} {r : Rel} {f : AForm} {v : W} {zn : Bool} {cy sf : Option Bool}

/-- SAT writes the result of `resSatW`. -/
theorem does_sat (h : At s c (wordA 0x30 f) 0 r)
    (hres : resSatW (rd s c f.a.toNat) (f.sh.toNat + 1) = ⟨v, zn, cy, sf⟩) :
    Does (.sat c f) s (after s c (wordA 0x30 f) 0 r (result c f.d.toNat v zn cy sf)) := by
  have := does_of_alu (i := .sat c f) h rfl (by rw [wordA_a, wordA_sh, hres])
  rwa [wordA_d] at this

/-- CLAMP writes the result of `resClamp`, in the form that bit 0 of MOD names. -/
theorem does_clamp (h : At s c (wordA 0x31 f) 0 r)
    (hres : resClamp (m0 f) (rd s c f.a.toNat) (rd s c f.b.toNat) (rd s c (f.b.toNat + 1)) = ⟨v, zn, cy, sf⟩) :
    Does (.clamp c f) s (after s c (wordA 0x31 f) 0 r (result c f.d.toNat v zn cy sf)) := by
  have := does_of_alu (i := .clamp c f) h rfl (by rw [wordA_md_odd, wordA_a, wordA_b, hres])
  rwa [wordA_d] at this

end

/-- Settles O13: SAT, CLAMP in fixed form and CLAMP in F form, each by the result of its own lemma. -/
theorem satAndClamp : Obligations.SatAndClamp := by
  intro s c r
  refine ⟨?sat, ?fixed, ?float⟩
  case sat => exact fun f h => does_sat h (resSatW_succ _ _)
  case fixed => exact fun f h hm => does_clamp h (hm ▸ resClamp_fixed _ _ _)
  case float => exact fun f h hm => does_clamp h (hm ▸ resClamp_float _ _ _)

end Sys2Proof.Claims
end

section
/-!
PROOF. A word gives its form and its opcode back, and every engine instruction that has words decodes from them (Tables 3.5, 3.8).
-/
namespace Sys2Proof.Claims
open Sys2Proof Sys2Proof.Machine

/-- A field of a word, read as a bit vector, is its number. -/
theorem extractLsb'_eq_of_toNat {w : W} {lo n : Nat} {x : BitVec n} (h : w.toNat / 2 ^ lo % 2 ^ n = x.toNat) :
    w.extractLsb' lo n = x := by
  apply BitVec.eq_of_toNat_eq
  rwa [BitVec.extractLsb'_toNat, Nat.shiftRight_eq_div_pow]

/-! The forms. -/

@[simp] theorem formA_wordA (op : BitVec 8) (f : AForm) : formA (wordA op f) = f := by
  obtain ⟨d, a, b, sh, md⟩ := f
  simp only [formA, AForm.mk.injEq]
  refine ⟨?_, ?_, ?_, ?_, ?_⟩ <;> apply extractLsb'_eq_of_toNat <;> rw [wordA_toNat] <;> dsimp only <;> omega

@[simp] theorem formB_wordB (op : BitVec 8) (f : BForm) : formB (wordB op f) = f := by
  obtain ⟨d, a, imm⟩ := f
  simp only [formB, BForm.mk.injEq]
  refine ⟨?_, ?_, ?_⟩ <;> apply extractLsb'_eq_of_toNat <;> rw [wordB_toNat] <;> dsimp only <;> omega

@[simp] theorem formC_wordC (op : BitVec 8) (f : CForm) : formC (wordC op f) = f := by
  obtain ⟨cond, cnt, off⟩ := f
  simp only [formC, CForm.mk.injEq]
  refine ⟨?_, ?_, ?_⟩ <;> apply extractLsb'_eq_of_toNat <;> rw [wordC_toNat] <;> dsimp only <;> omega

@[simp] theorem formD_wordD (op : BitVec 8) (f : DForm) : formD (wordD op f) = f := by
  obtain ⟨d, space, addr⟩ := f
  simp only [formD, DForm.mk.injEq]
  refine ⟨?_, ?_, ?_⟩ <;> apply extractLsb'_eq_of_toNat <;> rw [wordD_toNat] <;> dsimp only <;> omega

@[simp] theorem formE_wordE (op : BitVec 8) (f : EForm) : formE (wordE op f) f.ext = f := by
  obtain ⟨d, a, x, ext⟩ := f
  simp only [formE, EForm.mk.injEq, and_true]
  refine ⟨?_, ?_, ?_⟩ <;> apply extractLsb'_eq_of_toNat <;> rw [wordE_toNat] <;> dsimp only <;> omega

/-! The opcodes. -/

@[simp] theorem opcode_wordA (op : BitVec 8) (f : AForm) : (wordA op f).extractLsb' 24 8 = op :=
  extractLsb'_eq_of_toNat (by rw [wordA_toNat]; omega)
@[simp] theorem opcode_wordB (op : BitVec 8) (f : BForm) : (wordB op f).extractLsb' 24 8 = op :=
  extractLsb'_eq_of_toNat (by rw [wordB_toNat]; omega)
@[simp] theorem opcode_wordC (op : BitVec 8) (f : CForm) : (wordC op f).extractLsb' 24 8 = op :=
  extractLsb'_eq_of_toNat (by rw [wordC_toNat]; omega)
@[simp] theorem opcode_wordD (op : BitVec 8) (f : DForm) : (wordD op f).extractLsb' 24 8 = op :=
  extractLsb'_eq_of_toNat (by rw [wordD_toNat]; omega)
@[simp] theorem opcode_wordE (op : BitVec 8) (f : EForm) : (wordE op f).extractLsb' 24 8 = op :=
  extractLsb'_eq_of_toNat (by rw [wordE_toNat]; omega)

/-! Decoding by the opcode. -/

theorem decodeInsn_wordA {op : BitVec 8} {k : AForm → Instr} (c : Ctx) (f : AForm) (ext : W)
    (h : ∀ w : W, w.extractLsb' 24 8 = op → decodeInsn c w ext = some (k (formA w))) :
    decodeInsn c (wordA op f) ext = some (k f) := by rw [h _ (opcode_wordA op f), formA_wordA]
theorem decodeInsn_wordB {op : BitVec 8} {k : BForm → Instr} (c : Ctx) (f : BForm) (ext : W)
    (h : ∀ w : W, w.extractLsb' 24 8 = op → decodeInsn c w ext = some (k (formB w))) :
    decodeInsn c (wordB op f) ext = some (k f) := by rw [h _ (opcode_wordB op f), formB_wordB]
theorem decodeInsn_wordC {op : BitVec 8} {k : CForm → Instr} (c : Ctx) (f : CForm) (ext : W)
    (h : ∀ w : W, w.extractLsb' 24 8 = op → decodeInsn c w ext = some (k (formC w))) :
    decodeInsn c (wordC op f) ext = some (k f) := by rw [h _ (opcode_wordC op f), formC_wordC]
theorem decodeInsn_wordD {op : BitVec 8} {k : DForm → Instr} (c : Ctx) (f : DForm) (ext : W)
    (h : ∀ w : W, w.extractLsb' 24 8 = op → decodeInsn c w ext = some (k (formD w))) :
    decodeInsn c (wordD op f) ext = some (k f) := by rw [h _ (opcode_wordD op f), formD_wordD]
theorem decodeInsn_wordE {op : BitVec 8} {k : EForm → Instr} (c : Ctx) (f : EForm)
    (h : ∀ w : W, w.extractLsb' 24 8 = op → decodeInsn c w f.ext = some (k (formE w f.ext))) :
    decodeInsn c (wordE op f) f.ext = some (k f) := by rw [h _ (opcode_wordE op f), formE_wordE]

/-- Settles O4: the instructions of Table 3.8 by their form; each word gives its opcode and its form back. -/
theorem decodeOfEncode : Obligations.DecodeOfEncode := by
  intro i c w ext hc hw
  cases i <;> cases hc <;> cases hw
  case nop | mov | sel | cmp | fcmp | add | sub | mul | neg | abs | min | max | andW | orW | xorW | shl | asr | lsr
      | mac | msu | mclr | mrd | mld | fadd | fsub | fmul | fma | fdiv | fsqrt | cvtf | cvti | sat | clamp | intg
      | diff | filt1 | lim | rpt | plaus | ldx | stx | recI | period =>
    exact decodeInsn_wordA c _ _ fun w h => by unfold decodeInsn; rw [h]; rfl
  case ldi | cmpi | addi | evt | en | dis | mark | log | ledg | tmur | jrd | jwr =>
    exact decodeInsn_wordB c _ _ fun w h => by unfold decodeInsn; rw [h]; rfl
  case bf | loopn | callf | endRel | jmp | jc | call =>
    exact decodeInsn_wordC c _ _ fun w h => by unfold decodeInsn; rw [h]; rfl
  case ld | st | inp | out =>
    exact decodeInsn_wordD c _ _ fun w h => by unfold decodeInsn; rw [h]; rfl
  case ldk | setref | wait | chk | retry | send | await | lib =>
    exact decodeInsn_wordE c _ fun w h => by unfold decodeInsn; rw [h]; rfl

end Sys2Proof.Claims
end

section
/-!
PROOF. A step: every command ends in `done`, and what ends in `done` leaves no reaction waiting.
-/
namespace Sys2Proof.Claims
open Sys2Proof Sys2Proof.Machine

/-- A register of the KIO block takes a write by a row that completes. -/
theorem kioEffect_completes {a : Nat} {v : W} {f : State → Host.Outcome State Fault Refusal} (h : kioEffect a v = some f)
    (s : State) : ∃ u, f s = done u := by
  unfold kioEffect at h
  dsimp only at h
  split at h
  · cases h; exact ⟨_, rfl⟩
  · split at h
    · cases h; exact ⟨_, rfl⟩
    · split at h
      · cases h; exact ⟨_, rfl⟩
      · split at h
        · cases h; exact ⟨_, rfl⟩
        · obtain ⟨g, _, rfl⟩ := Option.map_eq_some_iff.1 h
          exact ⟨_, rfl⟩

/-- A register write is a write to a window or to the register at its address, and each of them completes. -/
theorem registerWrite_completes (a n : Nat) (v : W) (s : State) : ∃ u, execRegisterWrite a n v s = done u := by
  unfold execRegisterWrite
  split
  · exact ⟨_, rfl⟩
  · split
    · split <;> exact ⟨_, rfl⟩
    · split
      · exact ⟨_, rfl⟩
      · split
        · exact kioEffect_completes (by assumption) s
        · exact ⟨_, rfl⟩

/-- Every command completes (log entry 8). -/
theorem exec_completes (i : Instr) (s : State) : ∃ u, exec i s = done u := by
  cases i
  case registerWrite a n v => exact registerWrite_completes a n v s
  all_goals exact ⟨_, rfl⟩

/-- Rounds of reactions leave none waiting. -/
theorem settleN_todo (n : Nat) (s : State) : (settleN n s).fcr.todo = [] := by
  induction n generalizing s with
  | zero => rfl
  | succ n ih =>
    rw [settleN]
    split
    · assumption
    · exact ih _

/-- After `settle` no reaction waits. -/
@[simp] theorem settle_todo (s : State) : (settle s).fcr.todo = [] := settleN_todo 8 s

/-- A tick leaves no reaction waiting where none waited: it settles, or it stands still, or a crystal cycle passes. -/
theorem tick_todo {s : State} (h : s.fcr.todo = []) : (tick s).fcr.todo = [] := by
  unfold tick
  split
  · exact h
  · split
    · exact settle_todo _
    · exact h
  · exact settle_todo _
  · exact settle_todo _

/-- Settles O1: `step` is defined so. -/
theorem stepRunsFront : Obligations.StepRunsFront :=
  ⟨fun c q s h => by rw [step, h], fun s h => by rw [step, h]⟩

/-- Settles O2. -/
theorem everyCommandCompletes : Obligations.EveryCommandCompletes := exec_completes

/-- Settles O6: a step is a tick or a command, which ends in `done`. -/
theorem stepLeavesNoReaction : Obligations.StepLeavesNoReaction := by
  intro s s' h hs
  unfold step at hs
  split at hs
  · cases hs
    exact tick_todo h
  · rename_i i rest _
    obtain ⟨u, hu⟩ := exec_completes i { s with pending := rest }
    rw [hu] at hs
    cases hs
    exact settle_todo u

/-- Settles O7. -/
theorem resetHasNoReaction : Obligations.ResetHasNoReaction := ⟨rfl, rfl⟩

end Sys2Proof.Claims
end

section
/-!
PROOF. Registers and flags of the engines (R68 to R72, R75, R76): the model's results in the form the statements write them, then the
instructions that have no other effect.
-/
namespace Sys2Proof.Claims
open Sys2Proof Sys2Proof.Machine

/-- The two equality tests of numbers agree. -/
theorem natBeq_eq_decide (a b : Nat) : (a == b) = decide (a = b) := by
  rw [Bool.eq_iff_iff, beq_iff_eq, decide_eq_true_eq]

/-- A register after an instruction that gave the model's result `res`. -/
def resultOf (c : Ctx) (d : Nat) (res : Res) : Context → Context := result c d res.v res.zn res.c res.s

/-! The model's results. -/

theorem sat32_eq_clip (x : Int) : sat32 x = max (-2147483648) (min x 2147483647) := by
  unfold sat32 min32 max32
  split
  · omega
  · split <;> omega

theorem resultOf_resPlain (c : Ctx) (d : Nat) (v : W) : resultOf c d (resPlain v) = plain c d v := rfl
theorem resultOf_resZN (c : Ctx) (d : Nat) (v : W) : resultOf c d (resZN v) = result c d v true none none := rfl
theorem resultOf_resC (c : Ctx) (d : Nat) (v : W) (cy : Bool) : resultOf c d (resC v cy) = znc c d v cy := rfl

theorem resultOf_resSat (c : Ctx) (d : Nat) (x : Int) : resultOf c d (resSat x) = clipped c d x := by
  rw [resSat, sat32_eq_clip]
  rfl

theorem resultOf_resAdd (c : Ctx) (d : Nat) (sat : Bool) (a b : W) : resultOf c d (resAdd sat a b) =
    if sat then clipped c d (a.toInt + b.toInt) else znc c d (a + b) (decide (a.toNat + b.toNat ≥ 4294967296)) := by
  cases sat
  · rfl
  · exact resultOf_resSat c d _

theorem resultOf_resSub (c : Ctx) (d : Nat) (sat : Bool) (a b : W) : resultOf c d (resSub sat a b) =
    if sat then clipped c d (a.toInt - b.toInt) else znc c d (a - b) (decide (b.toNat ≤ a.toNat)) := by
  cases sat
  · rfl
  · exact resultOf_resSat c d _

/-- The rounding of R70 is that of the statements. -/
theorem asr_rndTerm (rnd : Bool) (k : Nat) (x : Int) : Sys2Proof.asr (x + rndTerm rnd k) k = scaledBy rnd k x := by
  cases rnd <;> simp [Sys2Proof.asr, rndTerm, scaledBy]

theorem resultOf_resMul (c : Ctx) (d : Nat) (rnd : Bool) (k : Nat) (a b : W) :
    resultOf c d (resMul rnd k a b) = clipped c d (scaledBy rnd k (a.toInt * b.toInt)) := by
  rw [resMul, asr_rndTerm, resultOf_resSat]

theorem resultOf_resMrd (c : Ctx) (d : Nat) (rnd : Bool) (k : Nat) (m : Acc) :
    resultOf c d (resMrd rnd k m) = clipped c d (scaledBy rnd k m.toInt) := by
  rw [resMrd, asr_rndTerm, resultOf_resSat]

theorem resultOf_resNeg (c : Ctx) (d : Nat) (f : Bool) (a : W) :
    resultOf c d (resNeg f a) = if f then plain c d (fneg a) else clipped c d (-a.toInt) := by
  cases f
  · exact resultOf_resSat c d _
  · rfl

theorem resultOf_resAbs (c : Ctx) (d : Nat) (f : Bool) (a : W) :
    resultOf c d (resAbs f a) = if f then plain c d (fabs a) else clipped c d (a.toInt.natAbs : Int) := by
  cases f
  · exact resultOf_resSat c d _
  · rfl

theorem resultOf_resMin (c : Ctx) (d : Nat) (f : Bool) (a b : W) : resultOf c d (resMin f a b) =
    if f then plain c d (fmin a b) else result c d (if a.toInt ≤ b.toInt then a else b) true none none := by
  cases f <;> rfl

theorem resultOf_resMax (c : Ctx) (d : Nat) (f : Bool) (a b : W) : resultOf c d (resMax f a b) =
    if f then plain c d (fmax a b) else result c d (if a.toInt ≤ b.toInt then b else a) true none none := by
  cases f <;> rfl

theorem resultOf_resShl (c : Ctx) (d : Nat) (sat : Bool) (a : W) (k : Nat) : resultOf c d (resShl sat a k) =
    if sat then clipped c d (a.toInt * 2 ^ k) else znc c d (a <<< k) (decide (k ≠ 0) && a.getLsbD (32 - k)) := by
  cases sat
  · simp [resShl, resultOf_resC, bne, decide_not, natBeq_eq_decide]
  · exact resultOf_resSat c d _

theorem resultOf_resAsr (c : Ctx) (d : Nat) (a : W) (k : Nat) : resultOf c d (resAsr a k) =
    znc c d (a.sshiftRight k) (decide (k ≠ 0) && a.getLsbD (k - 1)) := by
  have h : iw (Sys2Proof.asr a.toInt k) = a.sshiftRight k := by
    simp [iw, Sys2Proof.asr, BitVec.sshiftRight, Int.shiftRight_eq_div_pow]
  simp [resAsr, resultOf_resC, h, bne, decide_not, natBeq_eq_decide]

theorem resultOf_resLsr (c : Ctx) (d : Nat) (a : W) (k : Nat) : resultOf c d (resLsr a k) =
    znc c d (a >>> k) (decide (k ≠ 0) && a.getLsbD (k - 1)) := by
  simp [resLsr, resultOf_resC, bne, decide_not, natBeq_eq_decide]

theorem resultOf_resIntg (c : Ctx) (d : Nat) (f s : Bool) (k : Nat) (v a b : W) : resultOf c d (resIntg f s k v a b) =
    if f then plain c d (if s then v else ffma v a b)
    else if s then znc c d v false else clipped c d (v.toInt + (a.toInt * b.toInt) / 2 ^ k) := by
  cases f <;> cases s
  · exact resultOf_resSat c d _
  all_goals rfl

theorem resultOf_resDiff (c : Ctx) (d : Nat) (f : Bool) (a b : W) : resultOf c d (resDiff f a b) =
    if f then plain c d (fsub a b) else clipped c d (a.toInt - b.toInt) := by
  cases f
  · exact resultOf_resSat c d _
  · rfl

theorem resultOf_resFilt1 (c : Ctx) (d : Nat) (f : Bool) (v a b : W) : resultOf c d (resFilt1 f v a b) =
    if f then plain c d (ffma v (fsub a v) b)
    else result c d (BitVec.ofInt 32 (max (-2147483648) (min (v.toInt + ((a.toInt - v.toInt) * b.toInt) / 2 ^ 31) 2147483647)))
      true none none := by
  cases f
  · rw [resFilt1, sat32_eq_clip]
    rfl
  · rfl

theorem resultOf_resLim_fixed (c : Ctx) (d : Nat) (v a b : W) :
    let step : Int := max b.toInt 0
    let e := a.toInt - v.toInt
    resultOf c d (resLim false v a b) =
      if e > step then result c d (BitVec.ofInt 32 (v.toInt + step)) false (some true) none
      else if e < -step then result c d (BitVec.ofInt 32 (v.toInt - step)) false (some true) none
      else result c d a false (some false) none := by
  simp only [resLim, Bool.false_eq_true, if_false]
  split
  · rfl
  · split <;> rfl

theorem resultOf_resLim_float (c : Ctx) (d : Nat) (v a b : W) :
    let e := fvSum (f32 a) (fvNeg (f32 v))
    let step := fmax b 0
    resultOf c d (resLim true v a b) =
      if isNan a ∨ isNan v ∨ e = .nan then result c d v false (some true) none
      else if fvCmp e (f32 step) = some .gt then result c d (fadd v step) false (some true) none
      else if fvCmp e (fvNeg (f32 step)) = some .lt then result c d (fsub v step) false (some true) none
      else result c d a false (some false) none := by
  simp only [resLim, if_true, Bool.or_eq_true, beq_iff_eq, or_assoc]
  split
  · rfl
  · split
    · rfl
    · split <;> rfl

/-! Operands. -/

/-- imm14 of a B-form word, sign-extended (R51). -/
theorem iw_simm_wordB (op : BitVec 8) (f : BForm) (ext : W) : iw (insnOf (wordB op f) ext).simm = f.imm.signExtend 32 := by
  have h : (insnOf (wordB op f) ext).simm = f.imm.toInt := by
    rw [Insn.simm, wordB_imm, BitVec.toInt_eq_toNat_cond]
    split <;> split <;> omega
  rw [h]
  rfl

/-- The count of a shift of R70 is that of the statements. -/
theorem shiftCount_wordA (s : State) (c : Ctx) (op : BitVec 8) (f : AForm) (ext : W) :
    shiftCount (rd s c) (insnOf (wordA op f) ext) = shBy s c f := by
  have h := wordA_md_odd op f ext
  simp only [natBeq_eq_decide] at h
  simp only [shiftCount, shBy, wordA_b, wordA_sh, W.bits, ← h, decide_eq_true_eq]
  rfl

/-- Bit 1 of MOD, where R51 leaves MOD below 4. -/
theorem wordA_md_half {op : BitVec 8} {f : AForm} {ext : W} (h : f.md.toNat ≤ 3) :
    ((insnOf (wordA op f) ext).md / 2 == 1) = f.md.getLsbD 1 := by
  rw [wordA_md, BitVec.getLsbD, Nat.testBit_succ, Nat.testBit_zero, natBeq_eq_decide]
  congr 1
  apply propext
  omega

section
variable {s : State} {c : Ctx} {w ext : W} {r : Rel} {i : Instr}

/-! The instructions. -/

/-- An allowed instruction whose effect is the result `res`. -/
theorem does_of_alu_resultOf {g : (Nat → W) → Context → Insn → Res} {k : Context → Context} (h : At s c w ext r)
    (hi : exec i s = done (alu c w ext g s))
    (hk : resultOf c (insnOf w ext).d (g (rd s c) { s.cx c.val with rel := some (past c w ext r) } (insnOf w ext)) = k) :
    Does i s (after s c w ext r k) := hk ▸ does_of_alu h hi rfl

/-- An allowed instruction whose effect lies in its context alone. -/
theorem does_of_ctxOp {g : (Nat → W) → Insn → Context → Context} {k : Context → Context} (h : At s c w ext r)
    (hi : exec i s = done (ctxOp c w ext g s))
    (hk : g (rd s c) (insnOf w ext) { s.cx c.val with rel := some (past c w ext r) } =
      { k (s.cx c.val) with rel := some (past c w ext r) }) : Does i s (after s c w ext r k) := by
  have hrd : reg c.val { s.cx c.val with rel := some (past c w ext r) } = rd s c := funext (reg_eq_rd s c)
  refine after_modCx ?_ ▸ does_of_engine h hi
  rw [hrd, hk]

/-- What a comparison leaves: flags in L and U (R69), −1, 0 or +1 in S (R168). -/
theorem compare2_eq (c : Ctx) (i : Insn) (a b : W) (x : Context) : compare2 c i a b x =
    if isS c.val then { x with regs := vput x.regs i.d (if a.toInt < b.toInt then 0xFFFFFFFF else if a = b then 0 else 1) }
    else { x with fZ := a == b, fN := decide (a.toInt < b.toInt), fC := decide (b.toNat ≤ a.toNat) } := by
  unfold compare2
  split
  · rename_i hs
    simp only [setReg, hs, Bool.not_true, Bool.and_false, Bool.false_eq_true, if_false, cmpSign]
    rfl
  · rfl

/-- The flags of FCMP (R69). -/
theorem fcmpFlags_eq (a b : W) :
    fcmpFlags a b = (fcmp a b == some .eq, fcmp a b == some .lt || fcmp a b == none, fcmp a b == none) := by
  unfold fcmpFlags
  split <;> simp [*]

end

/-- Settles O8. -/
theorem movesAndCompares : Obligations.MovesAndCompares := by
  refine ⟨fun s c r => ⟨?nop, ?mov, ?ldi, ?ldk, ?sel⟩, fun s c r => ⟨?cmp, ?cmpi, ?fcmp⟩⟩
  case nop => exact fun f h => does_of_engine_same h rfl rfl
  case mov => exact fun f h => does_of_alu_resultOf h rfl (by simp only [wordA_d, wordA_a, resultOf_resPlain])
  case ldi => exact fun f h => does_of_alu_resultOf h rfl (by simp only [wordB_d, iw_simm_wordB, resultOf_resPlain])
  case ldk => exact fun f h => does_of_alu_resultOf h rfl (by simp only [wordE_d, insnOf_ext, resultOf_resPlain])
  case sel =>
    exact fun f h => does_of_alu_resultOf h rfl (by simp only [wordA_d, wordA_a, wordA_b, wordA_md, resultOf_resPlain]; rfl)
  case cmp =>
    intro f h
    refine does_of_ctxOp h rfl ?_
    simp only [compare2_eq, wordA_d, wordA_a, wordA_b]
    split <;> rfl
  case cmpi =>
    intro f h
    refine does_of_ctxOp h rfl ?_
    simp only [compare2_eq, wordB_d, wordB_a, iw_simm_wordB]
    split <;> rfl
  case fcmp =>
    intro f h
    refine does_of_ctxOp h rfl ?_
    simp only [fcmpFlags_eq, wordA_a, wordA_b]

/-- Settles O9. -/
theorem integerArithmetic : Obligations.IntegerArithmetic := by
  refine fun s c r => ⟨?add, ?sub, ?addi, ?mul, ?neg, ?abs, ?min, ?max⟩
  case add => exact fun f h => does_of_alu_resultOf h rfl (by simp only [wordA_d, wordA_a, wordA_b, wordA_md_odd, resultOf_resAdd])
  case sub => exact fun f h => does_of_alu_resultOf h rfl (by simp only [wordA_d, wordA_a, wordA_b, wordA_md_odd, resultOf_resSub])
  case addi =>
    exact fun f h => does_of_alu_resultOf h rfl (by
      simp only [wordB_d, wordB_a, iw_simm_wordB, resultOf_resAdd, Bool.false_eq_true, if_false])
  case mul =>
    exact fun f h => does_of_alu_resultOf h rfl (by simp only [wordA_d, wordA_a, wordA_b, wordA_sh, wordA_md_odd, resultOf_resMul])
  case neg => exact fun f h => does_of_alu_resultOf h rfl (by simp only [wordA_d, wordA_a, wordA_md_odd, resultOf_resNeg])
  case abs => exact fun f h => does_of_alu_resultOf h rfl (by simp only [wordA_d, wordA_a, wordA_md_odd, resultOf_resAbs])
  case min => exact fun f h => does_of_alu_resultOf h rfl (by simp only [wordA_d, wordA_a, wordA_b, wordA_md_odd, resultOf_resMin])
  case max => exact fun f h => does_of_alu_resultOf h rfl (by simp only [wordA_d, wordA_a, wordA_b, wordA_md_odd, resultOf_resMax])

/-- R51 leaves MOD of SHL below 4. -/
theorem shl_md_le {s : State} {c : Ctx} {r : Rel} {f : AForm} (h : At s c (wordA 0x1B f) 0 r) : f.md.toNat ≤ 3 := by
  obtain ⟨_, hok, _⟩ := h
  have hop : (insnOf (wordA 0x1B f) 0).op = 0x1B := wordA_op 0x1B f 0
  simp only [insnOk, fieldsOk, hop, wordA_md, Bool.and_eq_true, decide_eq_true_eq] at hok
  exact hok.1.2.1

/-- Settles O10. -/
theorem logicAndShifts : Obligations.LogicAndShifts := by
  refine fun s c r => ⟨?and, ?or, ?xor, ?shl, ?asr, ?lsr⟩
  case and => exact fun f h => does_of_alu_resultOf h rfl (by simp only [wordA_d, wordA_a, wordA_b, resultOf_resZN])
  case or => exact fun f h => does_of_alu_resultOf h rfl (by simp only [wordA_d, wordA_a, wordA_b, resultOf_resZN])
  case xor => exact fun f h => does_of_alu_resultOf h rfl (by simp only [wordA_d, wordA_a, wordA_b, resultOf_resZN])
  case shl =>
    exact fun f h => does_of_alu_resultOf h rfl (by
      simp only [wordA_d, wordA_a, shiftCount_wordA, wordA_md_half (shl_md_le h), resultOf_resShl])
  case asr => exact fun f h => does_of_alu_resultOf h rfl (by simp only [wordA_d, wordA_a, shiftCount_wordA, resultOf_resAsr])
  case lsr => exact fun f h => does_of_alu_resultOf h rfl (by simp only [wordA_d, wordA_a, shiftCount_wordA, resultOf_resLsr])

/-- Settles O11. -/
theorem accumulators : Obligations.Accumulators := by
  refine fun s c r => ⟨?mac, ?msu, ?mclr, ?mld, ?mrd⟩
  case mac => exact fun f h => does_of_ctxOp h rfl (by simp only [wordA_d, wordA_a, wordA_b]; rfl)
  case msu => exact fun f h => does_of_ctxOp h rfl (by simp only [wordA_d, wordA_a, wordA_b]; rfl)
  case mclr => exact fun f h => does_of_ctxOp h rfl (by simp only [wordA_d]; rfl)
  case mld => exact fun f h => does_of_ctxOp h rfl (by simp only [wordA_d, wordA_a, wordA_sh]; rfl)
  case mrd =>
    exact fun f h => does_of_alu_resultOf h rfl (by simp only [wordA_d, wordA_a, wordA_sh, wordA_md_odd, resultOf_resMrd])

/-- Settles O12. -/
theorem floatArithmetic : Obligations.FloatArithmetic := by
  refine fun s c r => ⟨?fadd, ?fsub, ?fmul, ?fma, ?fdiv, ?fsqrt, ?cvtf, ?cvti⟩
  case fadd | fsub | fmul | fdiv =>
    exact fun f h => does_of_alu_resultOf h rfl (by simp only [wordA_d, wordA_a, wordA_b, resultOf_resPlain])
  case fma => exact fun f h => does_of_alu_resultOf h rfl (by simp only [wordA_d, wordA_a, wordA_b, resultOf_resPlain])
  case fsqrt => exact fun f h => does_of_alu_resultOf h rfl (by simp only [wordA_d, wordA_a, resultOf_resPlain])
  case cvtf => exact fun f h => does_of_alu_resultOf h rfl (by simp only [wordA_d, wordA_a, wordA_sh, resultOf_resPlain])
  case cvti => exact fun f h => does_of_alu_resultOf h rfl (by simp only [wordA_d, wordA_a, wordA_sh]; rfl)

/-- A result after one that the release does not see. -/
theorem setReg_setRes_rel (c : Ctx) (b d : Nat) (v : W) (res : Res) (x : Context) (q : Option Rel) (hs : isS c.val = false) :
    setReg c.val b v (setRes c.val d res { x with rel := q }) = { plain c b v (resultOf c d res x) with rel := q } := by
  rw [setRes_rel, setReg_rel, setReg_eq_plain hs, setRes_eq_result]
  rfl

/-- A sequence's context is one of the S profile (Table 3.1). -/
theorem profOf_of_isS {c : Ctx} (hs : isS c.val = true) : profOf c = .s := by
  obtain ⟨h1, h2⟩ : 384 ≤ c.val ∧ c.val < 448 := by simpa [isS] using hs
  simp only [profOf, if_neg (Nat.not_lt.2 h1), if_pos h2]

/-- DIFF is no instruction of the S profile (Table 3.8). -/
theorem diff_not_S {s : State} {c : Ctx} {r : Rel} {f : AForm} (h : At s c (wordA 0x33 f) 0 r) : isS c.val = false := by
  obtain ⟨_, hok, _⟩ := h
  refine Bool.eq_false_iff.2 fun hs => ?_
  simp [insnOk, profOf_of_isS hs, opLegal, wordA_op] at hok

/-- Settles O14. -/
theorem controlLaw : Obligations.ControlLaw := by
  refine fun s c r => ⟨?intg, ?diff, ?filt1, ?limFixed, ?limFloat⟩
  case intg =>
    exact fun f h => does_of_alu_resultOf h rfl (by simp only [wordA_d, wordA_a, wordA_b, wordA_sh, wordA_md_odd, resultOf_resIntg])
  case diff =>
    intro f h
    refine does_of_ctxOp h rfl ?_
    simp only [wordA_d, wordA_a, wordA_b, wordA_md_odd]
    rw [setReg_setRes_rel c _ _ _ _ _ _ (diff_not_S h), resultOf_resDiff]
  case filt1 =>
    exact fun f h => does_of_alu_resultOf h rfl (by simp only [wordA_d, wordA_a, wordA_b, wordA_md_odd, resultOf_resFilt1])
  case limFixed =>
    exact fun f h hm => does_of_alu_resultOf h rfl (by
      simp only [wordA_d, wordA_a, wordA_b, wordA_md_odd, hm, resultOf_resLim_fixed])
  case limFloat =>
    exact fun f h hm => does_of_alu_resultOf h rfl (by
      simp only [wordA_d, wordA_a, wordA_b, wordA_md_odd, hm, resultOf_resLim_float])

end Sys2Proof.Claims
end

section
/-!
PROOF. An occurrence of an event source (R377): it waits for its reactions with its code and its promoted class, and it is counted.
-/
namespace Sys2Proof.Claims
open Sys2Proof Sys2Proof.Machine

/-- A record changes neither the waiting occurrences nor the counts. -/
theorem record_fcr (h : HeldRec) (s : State) : ∃ f, (record h s).fcr = { s.fcr with held := f } := by
  obtain ⟨k, m, t, f, e⟩ := record_eq h s
  exact ⟨f, by rw [e]⟩

/-- What an occurrence does to the collector: it waits, it is counted, and the held records and windows follow. -/
theorem raise_fcr {src : Nat} (hk : srcKind src ≠ 2) (s : State) (cls : EvClass) (code : Nat) (p : W) (ctx task : Nat) :
    ∃ h w, (s.raise src cls code p ctx task).fcr = { s.fcr with
      held := h, win := w
      cnt := assocPut s.fcr.cnt src ((assocGet s.fcr.cnt src).getD 0 + 1)
      todo := s.fcr.todo ++ [⟨src, promoted s src cls, cfgOf s src, BitVec.ofNat 16 code, p⟩] } := by
  unfold State.raise
  rw [if_neg hk]
  dsimp only
  split
  · split
    · exact ⟨_, _, rfl⟩
    · exact (record_fcr _ _).elim fun f e => ⟨f, _, e⟩
  · exact ⟨_, _, rfl⟩

/-- The occurrences that wait after one more. -/
theorem raise_todo {src : Nat} (hk : srcKind src ≠ 2) (s : State) (cls : EvClass) (code : Nat) (p : W) (ctx task : Nat) :
    (s.raise src cls code p ctx task).fcr.todo =
      s.fcr.todo ++ [⟨src, promoted s src cls, cfgOf s src, BitVec.ofNat 16 code, p⟩] := by
  obtain ⟨_, _, e⟩ := raise_fcr hk s cls code p ctx task
  rw [e]

/-- The class of an uncorrectable or fatal occurrence stands: only CE is promoted. -/
@[simp] theorem promoted_uc (s : State) (src : Nat) : promoted s src .uc = .uc := rfl
@[simp] theorem promoted_fe (s : State) (src : Nat) : promoted s src .fe = .fe := rfl

/-- An occurrence has been raised, in its promoted class. -/
theorem raised_raise {src : Nat} (hk : srcKind src ≠ 2) (s : State) (cls : EvClass) (code : Nat) (p : W) (ctx task : Nat) :
    raised (s.raise src cls code p ctx task) src (promoted s src cls) code :=
  ⟨_, by rw [raise_todo hk]; exact List.mem_append_right _ (List.mem_singleton_self _), rfl, rfl, rfl⟩

/-- What has been raised depends on the waiting occurrences alone. -/
theorem raised_congr {u v : State} {src : Nat} {cls : EvClass} {code : Nat} (e : v.fcr.todo = u.fcr.todo)
    (h : raised u src cls code) : raised v src cls code := by
  unfold raised
  rwa [e]

/-- The control-fault source of an engine can be raised (Table 18.1). -/
theorem srcKind_ctrlSrc (c : Ctx) : srcKind (ctrlSrc (engOfCtx c.val)) ≠ 2 := by
  have hc := c.isLt
  have h : ctrlSrc (engOfCtx c.val) < 992 := by
    simp only [ctrlSrc, engOfCtx]
    repeat' split
    all_goals omega
  unfold srcKind
  repeat' split
  all_goals omega

end Sys2Proof.Claims
end

section
/-!
PROOF. Of an instruction that R55 refuses nothing executes (R54 to R56).
-/
namespace Sys2Proof.Claims
open Sys2Proof Sys2Proof.Machine

/-- Every command that spells an instruction runs on the engine of its context, on its own words. -/
theorem exec_engine {i : Instr} {c : Ctx} {w ext : W} (hc : engineCtx i = some c) (hw : encodeInsn i = some (w, ext)) :
    ∃ op, ∀ s, exec i s = done (engine c w ext op s) := by
  cases i <;> cases hc <;> cases hw <;> exact ⟨_, fun _ => rfl⟩

/-- The figures of an engine leave every context. -/
@[simp] theorem engDone_ctx (e start cost : Nat) (s : State) : (engDone e start cost s).ctx = s.ctx := by
  simp [engDone, State.modStat]
@[simp] theorem engDone_fcr (e start cost : Nat) (s : State) : (engDone e start cost s).fcr = s.fcr := by
  simp [engDone, State.modStat]

/-- An aborted release leaves its context without a release and all else of it as it was (R56). -/
theorem abortRelease_cx (c : Ctx) (code : Nat) (s : State) :
    (abortRelease c.val code s).cx c.val = { s.cx c.val with rel := none } := by
  unfold abortRelease
  dsimp only
  simp only [State.cx, State.raise_ctx]
  split <;> simp [State.modCx]

/-- An aborted release raises the control fault of its engine (R376). -/
theorem raised_abortRelease (c : Ctx) (code : Nat) (s : State) :
    raised (abortRelease c.val code s) (ctrlSrc (engOfCtx c.val)) .uc code := raised_raise (srcKind_ctrlSrc c) ..

/-- Settles O5. -/
theorem illegalWordsEndTheRelease : Obligations.IllegalWordsEndTheRelease := by
  intro s i c w ext r hc hw hr h
  obtain ⟨op, hop⟩ := exec_engine hc hw
  exact ⟨by rw [Does, hop, engine_illegal op hr h]; rfl, abortRelease_cx c _ s, fun _ => raised_abortRelease c _ s⟩

end Sys2Proof.Claims
end

section
/-!
PROOF. Tables, plausibility, memory, ports, events and flow of a release (R44 to R49, R77 to R84, R91, R95).
-/
namespace Sys2Proof.Claims
open Sys2Proof Sys2Proof.Machine

section
variable {s u : State} {c : Ctx} {r : Rel}

/-! Registers after a write. -/

/-- A written register reads back. -/
theorem rd_of_setReg_self {d : Nat} {v : W} {x : Context} (h : (u.cx c.val).regs = (setReg c.val d v x).regs) (hd : d < 32)
    (h0 : d ≠ 0) : rd u c d = v := by
  rw [rd, if_neg (fun e => h0 e.1), h]
  exact vat_setReg_self hd (fun e => h0 e.1) v x

/-- Every other register stands. -/
theorem rd_of_setReg_ne {d n : Nat} {v : W} {x : Context} (h : (u.cx c.val).regs = (setReg c.val d v x).regs)
    (hx : x.regs = (s.cx c.val).regs) (hn : n ≠ d) : rd u c n = rd s c n := by
  rw [rd, rd, h, vat_setReg_ne hn.symm, hx]

/-- A write of a register and a result that leaves every flag are one. -/
theorem setReg_plain (c : Ctx) (d : Nat) (v : W) (x : Context) : setReg c.val d v x = plain c d v x := by
  cases hs : isS c.val
  · exact setReg_eq_plain hs d v x
  · simp [setReg, plain, result, hs]

/-- Registers depend on the context alone. -/
theorem rd_congr (h : (u.cx c.val).regs = (s.cx c.val).regs) (n : Nat) : rd u c n = rd s c n := by rw [rd, rd, h]

/-- Registers of the state in which the release has moved on. -/
@[simp] theorem rd_after_id (s : State) (c : Ctx) (w ext : W) (r : Rel) (n : Nat) : rd (after s c w ext r id) c n = rd s c n :=
  rd_congr (by simp) n

/-- The model's register read in the state in which the release has moved on. -/
theorem reg_after_id (s : State) (c : Ctx) (w ext : W) (r : Rel) (n : Nat) :
    reg c.val ((after s c w ext r id).cx c.val) n = rd s c n := by rw [reg_eq_rd, rd_after_id]

theorem bit_of_toNat_div {n : Nat} (x : BitVec n) (k : Nat) : (x.toNat / 2 ^ k % 2 == 1) = x.getLsbD k := by
  rw [BitVec.getLsbD, Nat.testBit_eq_decide_div_mod_eq, natBeq_eq_decide]

/-! RPT (R77). -/

/-- The table that MOD names. -/
theorem wordA_md_table (op : BitVec 8) (f : AForm) (ext : W) : ((insnOf (wordA op f) ext).md % 2 = 0) ↔ m0 f = false := by
  have h := wordA_md_odd op f ext
  rw [← h, beq_eq_false_iff_ne]
  omega

/-- An update of a table counts, and leaves the entry the statement gives (R77, R111). -/
theorem readW_rptLearn {tb : RptTable} (hw : Memory.wf tb.mem = true) (ramp i : Nat) (a g fg : W) :
    Memory.readW (rptLearn tb ramp i a g fg).mem (4 * i) = BitVec.ofInt 32 (max (-2147483648) (min
      (((Memory.readW tb.mem (4 * i)).toInt * fg.toInt) / 2 ^ 31 + (a.toInt * (rptGain tb ramp g).toInt) / 2 ^ 31) 2147483647)) := by
  rw [rptLearn, Memory.readW_writeW _ _ hw, rptUpdate, sat32_eq_clip]
  rfl

/-- What RPT leaves: the entry of the lead in v[d], and the table of MOD updated unless S is 1. -/
theorem rptOp_eq (c : Ctx) (r : Rel) (v : Nat → W) (i : Insn) (x : Context) :
    let tb := if i.md % 2 = 0 then x.t0 else x.t1
    let lg := if i.md % 2 = 0 then r.prog.t0Log2 else r.prog.t1Log2
    let ramp := if i.md % 2 = 0 then r.prog.t0Ramp else r.prog.t1Ramp
    let e := x.ph.toNat >>> (32 - lg)
    let tb1 := if x.fS then tb else rptLearn tb ramp e (v i.a) (v i.b) (v (i.b + 1))
    rptOp c.val r v i x = setReg c.val i.d (Memory.readW tb.mem (4 * ((e + (v (i.b + 2)).toNat) % 2 ^ lg)))
      { x with t0 := if i.md % 2 = 0 then tb1 else x.t0, t1 := if i.md % 2 = 0 then x.t1 else tb1 } := by
  by_cases hk : i.md % 2 = 0 <;> simp only [rptOp, hk, if_true, if_false]

/-- A write of a register leaves the tables, the flags and the rest of its context. -/
theorem setReg_eq_regs (n d : Nat) (v : W) (x : Context) : ∃ g, setReg n d v x = { x with regs := g } := by
  unfold setReg
  split
  · exact ⟨x.regs, rfl⟩
  · exact ⟨_, rfl⟩

@[simp] theorem setReg_t0 (n d : Nat) (v : W) (x : Context) : (setReg n d v x).t0 = x.t0 := by
  obtain ⟨_, e⟩ := setReg_eq_regs n d v x; rw [e]
@[simp] theorem setReg_t1 (n d : Nat) (v : W) (x : Context) : (setReg n d v x).t1 = x.t1 := by
  obtain ⟨_, e⟩ := setReg_eq_regs n d v x; rw [e]
@[simp] theorem setReg_fZ (n d : Nat) (v : W) (x : Context) : (setReg n d v x).fZ = x.fZ := by
  obtain ⟨_, e⟩ := setReg_eq_regs n d v x; rw [e]
@[simp] theorem setReg_fN (n d : Nat) (v : W) (x : Context) : (setReg n d v x).fN = x.fN := by
  obtain ⟨_, e⟩ := setReg_eq_regs n d v x; rw [e]
@[simp] theorem setReg_fC (n d : Nat) (v : W) (x : Context) : (setReg n d v x).fC = x.fC := by
  obtain ⟨_, e⟩ := setReg_eq_regs n d v x; rw [e]
@[simp] theorem setReg_fS (n d : Nat) (v : W) (x : Context) : (setReg n d v x).fS = x.fS := by
  obtain ⟨_, e⟩ := setReg_eq_regs n d v x; rw [e]
@[simp] theorem setReg_fP (n d : Nat) (v : W) (x : Context) : (setReg n d v x).fP = x.fP := by
  obtain ⟨_, e⟩ := setReg_eq_regs n d v x; rw [e]

/-- RPT in the terms of the statement, the fields of the word read. -/
theorem does_rpt {f : AForm} (h : At s c (wordA 0x36 f) 0 r) :
    let x := s.cx c.val
    let tb := if m0 f then x.t1 else x.t0
    let lg := if m0 f then r.prog.t1Log2 else r.prog.t0Log2
    let ramp := if m0 f then r.prog.t1Ramp else r.prog.t0Ramp
    let e := x.ph.toNat >>> (32 - lg)
    let tb1 := if x.fS then tb else rptLearn tb ramp e (rd s c f.a.toNat) (rd s c f.b.toNat) (rd s c (f.b.toNat + 1))
    ∃ u, Does (.rpt c f) s u ∧ u.shared = s.shared ∧ u.chan = s.chan ∧
      u.cx c.val = setReg c.val f.d.toNat (Memory.readW tb.mem (4 * ((e + (rd s c (f.b.toNat + 2)).toNat) % 2 ^ lg)))
        { x with rel := some (past c (wordA 0x36 f) 0 r), t0 := if m0 f then x.t0 else tb1, t1 := if m0 f then tb1 else x.t1 } := by
  refine ⟨_, does_of_engine h rfl, rfl, rfl, ?_⟩
  have hrd : reg c.val { s.cx c.val with rel := some (past c (wordA 0x36 f) 0 r) } = rd s c := funext (reg_eq_rd s c)
  simp only [State.modCx_cx_val, after_cx, rptOp_eq, id, hrd, wordA_md_table, wordA_d, wordA_a, wordA_b]
  cases m0 f <;> rfl

/-- RPT (R77). -/
theorem rpt_effect {f : AForm} (h : At s c (wordA 0x36 f) 0 r) :
    let x := s.cx c.val
    let lg := if m0 f then r.prog.t1Log2 else r.prog.t0Log2
    let tb := if m0 f then x.t1 else x.t0
    let i := x.ph.toNat >>> (32 - lg)
    let j := (i + (rd s c (f.b.toNat + 2)).toNat) % 2 ^ lg
    ∃ u, Does (.rpt c f) s u ∧
      (∀ n, n < 32 → n ≠ f.d.toNat → rd u c n = rd s c n) ∧
      (f.d.toNat ≠ 0 → rd u c f.d.toNat = Memory.readW tb.mem (4 * j)) ∧
      (x.fS = true → (u.cx c.val).t0 = x.t0 ∧ (u.cx c.val).t1 = x.t1) ∧
      (x.fS = false → (u.cx c.val).t0.n + (u.cx c.val).t1.n = x.t0.n + x.t1.n + 1) ∧
      (x.fS = false → Memory.wf tb.mem = true →
        let g := rptGain tb (if m0 f then r.prog.t1Ramp else r.prog.t0Ramp) (rd s c f.b.toNat)
        let y : Int := ((Memory.readW tb.mem (4 * i)).toInt * (rd s c (f.b.toNat + 1)).toInt) / 2 ^ 31 +
          ((rd s c f.a.toNat).toInt * g.toInt) / 2 ^ 31
        Memory.readW (if m0 f then (u.cx c.val).t1 else (u.cx c.val).t0).mem (4 * i) =
          BitVec.ofInt 32 (max (-2147483648) (min y 2147483647))) ∧
      (m0 f = true → (u.cx c.val).t0 = x.t0) ∧ (m0 f = false → (u.cx c.val).t1 = x.t1) ∧
      (u.cx c.val).fZ = x.fZ ∧ (u.cx c.val).fN = x.fN ∧ (u.cx c.val).fC = x.fC ∧ (u.cx c.val).fS = x.fS ∧
      u.shared = s.shared ∧ u.chan = s.chan := by
  obtain ⟨u, hu, hsh, hch, hx⟩ := does_rpt h
  dsimp only
  refine ⟨u, hu, ?others, ?lead, ?frozen, ?counted, ?learned, ?t0, ?t1, ?fZ, ?fN, ?fC, ?fS, hsh, hch⟩
  case others => exact fun n _ hn => rd_of_setReg_ne (congrArg Context.regs hx) rfl hn
  case lead => exact fun hd => rd_of_setReg_self (congrArg Context.regs hx) f.d.isLt hd
  case frozen =>
    intro hf
    rw [hx, hf]
    cases m0 f <;> simp
  case counted =>
    intro hf
    rw [hx, hf]
    cases m0 f <;> simp [rptLearn] <;> omega
  case learned =>
    intro hf hw
    rw [hx, hf]
    revert hw
    cases m0 f <;> simpa using fun hw => readW_rptLearn hw ..
  case t0 => intro hm; simp [hx, hm]
  case t1 => intro hm; simp [hx, hm]
  all_goals simp [hx]

/-! PLAUS (R78). -/

/-- What a plausibility check leaves in its context. -/
def checked (d : CheckDecl) (cnt : Nat) (bad hit : Bool) (x : Context) : Context :=
  { x with chk := vput x.chk d.num cnt, fZ := cnt == 0, fN := bad, fP := x.fP || hit }

/-- The event of a check that has reached its limit: it is raised, and SAFE is asked for where the check says so. -/
def checkEvent (d : CheckDecl) (c task : Nat) (u : State) : State :=
  let u1 := u.raise (4 * d.ch) (if d.safe then .uc else .ce) (if d.safe then 0x1002 else 0x1001) (nw d.num) c task
  if d.safe then askSafe d.ch u1 else u1

/-- PLAUS with its check's declaration found. -/
theorem plausOp_eq {i : Insn} {d : CheckDecl} (hd : checkOf r.prog (i.md % 4) = some d) :
    let x := s.cx c.val
    let v := reg c.val x
    let bad := plausBad (i.md / 4 % 2 == 1) (if r.arming.any (·.val == d.ch) then d.widen else 0) (v i.a) (v i.b) (v i.d)
    let cnt := if bad then min (vat x.chk d.num 0 + 1) 15 else 0
    let hit := bad && cnt == d.lim && vat x.chk d.num 0 + 1 == d.lim
    let s1 := s.modCx c.val (checked d cnt bad hit)
    plausOp c i r s = if hit then checkEvent d c.val r.prog.num s1 else s1 := by
  unfold plausOp
  rw [hd]
  rfl

/-- The event leaves every context. -/
theorem checkEvent_ctx (d : CheckDecl) (c task : Nat) (u : State) : (checkEvent d c task u).ctx = u.ctx := by
  cases hs : d.safe <;> simp [checkEvent, askSafe, hs]

/-- The event is raised, and the channel is asked for SAFE where the check says so. -/
theorem checkEvent_effect {d : CheckDecl} (hch : d.ch < 192) (hk : srcKind (4 * d.ch) ≠ 2) (c task : Nat) (u : State) :
    ((checkEvent d c task u).ch d.ch).safeReq = ((u.ch d.ch).safeReq || d.safe && (u.ch d.ch).live) ∧
      ∃ cl, raised (checkEvent d c task u) (4 * d.ch) cl (if d.safe then 0x1002 else 0x1001) := by
  have hr := raised_raise hk u (if d.safe then .uc else .ce) (if d.safe then 0x1002 else 0x1001) (nw d.num) c task
  cases hs : d.safe <;> simp only [checkEvent, hs, Bool.false_eq_true, if_false, if_true] at hr ⊢
  · exact ⟨by simp [State.ch], _, hr⟩
  · exact ⟨by simp [askSafe, hch, State.ch, State.modCh], _, hr⟩

/-- PLAUS in the terms of the statement. -/
theorem plaus_effect {f : AForm} {d : CheckDecl} (h : At s c (wordA 0x37 f) 0 r)
    (hd : r.prog.checks.find? (fun k => k.num == f.md.toNat % 4) = some d) (hn : d.num < 4) :
    let x := s.cx c.val
    let bad := plausBad (f.md.getLsbD 2) (if r.arming.any (·.val == d.ch) then d.widen else 0)
      (rd s c f.a.toNat) (rd s c f.b.toNat) (rd s c f.d.toNat)
    let old := vat x.chk d.num 0
    let cnt := if bad then min (old + 1) 15 else 0
    let hit := bad && cnt == d.lim && old + 1 == d.lim
    ∃ u, Does (.plaus c f) s u ∧
      vat (u.cx c.val).chk d.num 0 = cnt ∧ (u.cx c.val).fN = bad ∧ (u.cx c.val).fZ = decide (cnt = 0) ∧
      (u.cx c.val).fP = (x.fP || hit) ∧ (u.cx c.val).regs = x.regs ∧ (u.cx c.val).fC = x.fC ∧ (u.cx c.val).fS = x.fS ∧
      (hit = false → u.fcr = s.fcr ∧ u.chan = s.chan) ∧
      (hit = true → d.ch < 192 → srcKind (4 * d.ch) ≠ 2 →
        (u.ch d.ch).safeReq = ((s.ch d.ch).safeReq || d.safe && (s.ch d.ch).live) ∧
          ∃ cl, raised u (4 * d.ch) cl (if d.safe then 0x1002 else 0x1001)) := by
  intro x bad old cnt hit
  have hd' : checkOf r.prog ((insnOf (wordA 0x37 f) 0).md % 4) = some d := by rw [wordA_md]; exact hd
  have hbit : ((insnOf (wordA 0x37 f) 0).md / 4 % 2 == 1) = f.md.getLsbD 2 := by rw [wordA_md]; exact bit_of_toNat_div f.md 2
  have hu := does_of_engine (i := .plaus c f) h rfl
  rw [plausOp_eq hd'] at hu
  simp only [hbit, reg_rel, reg_eq_rd, wordA_a, wordA_b, wordA_d, after_cx, id] at hu
  have hcx : ∀ v : State, v.ctx = ((after s c (wordA 0x37 f) 0 r id).modCx c.val (checked d cnt bad hit)).ctx →
      v.cx c.val = checked d cnt bad hit { x with rel := some (past c (wordA 0x37 f) 0 r) } := by
    intro v hv
    simp only [State.cx, hv]
    exact (State.modCx_cx_val _ c _).trans (by rw [after_cx]; rfl)
  change Does _ _ (if hit then checkEvent d c.val r.prog.num ((after s c (wordA 0x37 f) 0 r id).modCx c.val
    (checked d cnt bad hit)) else (after s c (wordA 0x37 f) 0 r id).modCx c.val (checked d cnt bad hit)) at hu
  by_cases hh : hit = true
  · rw [if_pos hh] at hu
    refine ⟨_, hu, ?_⟩
    rw [hcx _ (checkEvent_ctx ..)]
    exact ⟨vat_vput_self _ hn _ _, rfl, rfl, rfl, rfl, rfl, rfl, by simp [hh], fun _ hc hk => checkEvent_effect hc hk ..⟩
  · rw [if_neg hh] at hu
    refine ⟨_, hu, ?_⟩
    rw [hcx _ rfl]
    exact ⟨vat_vput_self _ hn _ _, rfl, rfl, rfl, rfl, rfl, rfl, fun _ => ⟨rfl, rfl⟩, fun h => absurd h hh⟩

end

/-- Settles O15. -/
theorem tableAndPlausibility : Obligations.TableAndPlausibility :=
  ⟨fun _ _ _ _ h => rpt_effect h, fun _ _ _ _ _ h hd hn => plaus_effect h hd hn⟩

end Sys2Proof.Claims
end

section
/-!
PROOF. Loads and stores, ports, events, notes and the flow of a release (R44 to R50, R79 to R84, R91, R95).
-/
namespace Sys2Proof.Claims
open Sys2Proof Sys2Proof.Machine

section
variable {s : State} {c : Ctx} {w ext : W} {r : Rel} {i : Instr}

/-! The release after an instruction. -/

/-- A result's r(x) is one of the release's times (R86). -/
theorem resPut_eq (x t : Nat) (r : Rel) : ∃ rv rm rmac rf, resPut x t r = { r with rv := rv, rm := rm, rmac := rmac, rf := rf } := by
  unfold resPut
  split
  · exact ⟨_, _, _, _, rfl⟩
  · split <;> exact ⟨_, _, _, _, rfl⟩

/-- The results' r(x) change the release's times alone. -/
theorem foldl_resPut_eq (l : List Nat) (t : Nat) (r : Rel) :
    ∃ rv rm rmac rf, l.foldl (fun r x => resPut x t r) r = { r with rv := rv, rm := rm, rmac := rmac, rf := rf } := by
  induction l generalizing r with
  | nil => exact ⟨_, _, _, _, rfl⟩
  | cons x l ih =>
    obtain ⟨_, _, _, _, e⟩ := resPut_eq x t r
    obtain ⟨_, _, _, _, e'⟩ := ih (resPut x t r)
    exact ⟨_, _, _, _, by rw [List.foldl_cons, e', e]⟩

/-- An instruction that issues moves its release on: times, place and bodies alone change (R84, R86). -/
theorem past_eq (c : Ctx) (w ext : W) (r : Rel) : ∃ rv rm rmac rf cyc again pc loops, past c w ext r =
    { r with rv := rv, rm := rm, rmac := rmac, rf := rf, cyc := cyc, newIter := again, pc := pc, loops := loops } := by
  unfold past issueRel
  dsimp only
  obtain ⟨_, _, _, _, e⟩ := foldl_resPut_eq ((insnOf w ext).writes (profOf c))
    (issueAt (profOf c) (insnOf w ext) r + (insnOf w ext).latency (profOf c)) r
  rw [e]
  split <;> exact ⟨_, _, _, _, _, _, _, _, rfl⟩

@[simp] theorem past_prog (c : Ctx) (w ext : W) (r : Rel) : (past c w ext r).prog = r.prog := by
  obtain ⟨_, _, _, _, _, _, _, _, e⟩ := past_eq c w ext r; rw [e]
@[simp] theorem past_tick (c : Ctx) (w ext : W) (r : Rel) : (past c w ext r).tick = r.tick := by
  obtain ⟨_, _, _, _, _, _, _, _, e⟩ := past_eq c w ext r; rw [e]
@[simp] theorem past_calls (c : Ctx) (w ext : W) (r : Rel) : (past c w ext r).calls = r.calls := by
  obtain ⟨_, _, _, _, _, _, _, _, e⟩ := past_eq c w ext r; rw [e]
@[simp] theorem past_recWords (c : Ctx) (w ext : W) (r : Rel) : (past c w ext r).recWords = r.recWords := by
  obtain ⟨_, _, _, _, _, _, _, _, e⟩ := past_eq c w ext r; rw [e]

/-! Loads and stores. -/

/-- Memory is read as it stood before the release moved on. -/
@[simp] theorem spaceRead_after_id (s : State) (c : Ctx) (w ext : W) (r : Rel) (sp a : Nat) :
    spaceRead (after s c w ext r id) c.val r sp a = spaceRead s c.val r sp a := by
  have hcx := after_cx s c w ext r id
  unfold spaceRead
  rw [hcx]
  rfl

/-- An instruction that writes one register. -/
theorem after_modCx_setReg (s : State) (c : Ctx) (w ext : W) (r : Rel) (d : Nat) (v : W) :
    ((after s c w ext r id).modCx c.val fun x => setReg c.val d v x) = after s c w ext r (plain c d v) :=
  after_modCx (by rw [setReg_rel, setReg_plain])

/-- An instruction that writes the result of `setReg` has a plain result. -/
theorem does_of_setReg {op : Insn → Rel → State → State} {d : Nat} {v : W} (h : At s c w ext r)
    (hi : exec i s = done (engine c w ext op s))
    (hop : op (insnOf w ext) r (after s c w ext r id) = (after s c w ext r id).modCx c.val fun x => setReg c.val d v x) :
    Does i s (after s c w ext r (plain c d v)) := by
  rw [← after_modCx_setReg, ← hop]
  exact does_of_engine h hi

/-- The address of LDX and STX. -/
theorem xAddr_after (s : State) (c : Ctx) (op : BitVec 8) (f : AForm) (w ext : W) (r : Rel) :
    xAddr c (insnOf (wordA op f) 0) (after s c w ext r id) = (rd s c f.a.toNat + rd s c f.b.toNat).toNat := by
  simp [xAddr, reg_eq_rd]

end

/-- Settles O16. -/
theorem loadsAndStores : Obligations.LoadsAndStores := by
  refine fun s c r => ⟨?ld, ?st, ?ldx, ?stx⟩
  case ld =>
    intro f h
    exact does_of_setReg h rfl (by simp only [wordD_d, wordD_space, wordD_addr, spaceRead_after_id])
  case st =>
    intro f h
    have hu := does_of_engine (i := .st c f) h rfl
    simp only [wordD_d, wordD_space, wordD_addr, reg_after_id] at hu
    exact hu
  case ldx =>
    intro f h
    have hu := does_of_engine (i := .ldx c f) h rfl
    simp only [xAddr_after, wordA_d, wordA_md, spaceRead_after_id, after_modCx_setReg] at hu
    exact ⟨fun hin => by rwa [if_pos hin] at hu, fun hin => by rwa [hin, if_neg Bool.false_ne_true] at hu⟩
  case stx =>
    intro f h
    have hu := does_of_engine (i := .stx c f) h rfl
    simp only [xAddr_after, wordA_d, wordA_md, reg_after_id] at hu
    exact ⟨fun hin => by rwa [if_pos hin] at hu, fun hin => by rwa [hin, if_neg Bool.false_ne_true] at hu⟩

/-- LOCAL after a store to it: the word is written where the context exists. -/
theorem spaceWrite_loc (s : State) (c : Nat) (r : Rel) (a : Nat) (v : W) :
    ((spaceWrite c r 0 a v s).cx c).loc = if c < 512 then Memory.writeW (s.cx c).loc (4 * a) v else (s.cx c).loc := by
  by_cases hc : c < 512 <;> simp [spaceWrite, State.modCx, State.cx, hc, vmod_out]

/-- Settles O17. -/
theorem storesTouchOneWord : Obligations.StoresTouchOneWord := by
  intro s c r a v base pbase
  refine ⟨fun hw => ⟨?_, ?_, ?_, ?_, ?_, ?_⟩, fun hw => ⟨?_, ?_, ?_⟩, rfl, rfl, rfl⟩
  · exact fun b hb => Memory.read_writeW_ne base b v hw hb
  · exact fun b hb => Memory.read_writeW_ne pbase b v hw hb
  · exact Memory.readW_writeW base v hw
  · exact Memory.readW_writeW pbase v hw
  · exact Memory.wf_writeW base v hw
  · exact Memory.wf_writeW pbase v hw
  · intro b hb
    rw [spaceWrite_loc]
    split
    · exact Memory.read_writeW_ne _ b v hw hb
    · rfl
  · intro hc
    rw [spaceWrite_loc, if_pos hc]
    exact Memory.readW_writeW _ v hw
  · rw [spaceWrite_loc]
    split
    · exact Memory.wf_writeW _ v hw
    · exact hw

section
variable {s : State} {c : Ctx} {w ext : W} {r : Rel} {i : Instr}

/-- An instruction of the L profile alone runs in an L context (Table 3.8). -/
theorem not_S_of_At (h : At s c w ext r) (hop : opLegal .s (insnOf w ext).op = false) : isS c.val = false := by
  obtain ⟨_, hok, _⟩ := h
  refine Bool.eq_false_iff.2 fun hs => ?_
  simp [insnOk, profOf_of_isS hs, hop] at hok

/-- The release of a state in which it has moved on, changed again. -/
theorem modRel_after (s : State) (c : Ctx) (w ext : W) (r : Rel) (f : Rel → Rel) :
    (((after s c w ext r id).modRel c.val f).cx c.val) = { s.cx c.val with rel := some (f (past c w ext r)) } := by
  rw [State.modRel, State.modCx_cx_val, after_cx]
  rfl

/-- A value staged at a tick is among those staged (R91). -/
theorem exists_mem_stagePut_cmd (t : Nat) (v : W) (l : List Staged) : ∃ g ∈ stagePut t false v l, g.tick = t ∧ g.cmd = some v := by
  unfold stagePut
  split
  · rename_i h
    obtain ⟨g, hg, ht⟩ := List.any_eq_true.1 h
    exact ⟨_, List.mem_map_of_mem hg, by rw [if_pos ht]; exact ⟨beq_iff_eq.1 ht, rfl⟩⟩
  · exact ⟨_, List.mem_append_right _ (List.mem_singleton_self _), rfl, rfl⟩

/-- A channel after a CMD was staged for it (R91). -/
theorem stageOut_cmd {n : Nat} (hn : n < 192) (rt d : Nat) (v : W) (u : State) :
    ((stageOut n rt d false v u).ch n).stCmd = v ∧ ((stageOut n rt d false v u).ch n).stMode = (u.ch n).stMode ∧
      ∃ g ∈ ((stageOut n rt d false v u).ch n).staged, g.tick = rt + d ∧ g.cmd = some v := by
  rw [stageOut, State.modCh_ch_self _ hn]
  exact ⟨rfl, rfl, exists_mem_stagePut_cmd ..⟩

/-- What IN leaves: the port word with C as STALE, and in the release at most a note of a fresh word (R95, R101). -/
theorem does_in {f : DForm} (h : At s c (wordD 0x44 f) 0 r) : ∃ u q, Does (.inp c f) s u ∧
    u.cx c.val = { setRes c.val f.d.toNat ⟨lat r.ports f.addr.toNat 0, false, some (portStale r f.addr.toNat), none⟩ (s.cx c.val)
      with rel := some q } ∧ q.pc = (past c (wordD 0x44 f) 0 r).pc ∧ u.chan = s.chan ∧ u.shared = s.shared := by
  have hu := does_of_engine (i := .inp c f) h rfl
  simp only [wordD_d, wordD_addr] at hu
  refine ⟨_, ?q, hu, ?_⟩
  case q => exact if f.addr.toNat % 16 ≤ 4 && !portStale r f.addr.toNat then
      { past c (wordD 0x44 f) 0 r with fresh := (past c (wordD 0x44 f) 0 r).fresh ++ [f.addr.toNat / 16] }
    else past c (wordD 0x44 f) 0 r
  split
  · simp only [State.modRel, State.modCx_cx_val, after_cx, id, setRes_rel, Option.map_some]
    exact ⟨trivial, trivial, rfl, rfl⟩
  · simp only [State.modCx_cx_val, after_cx, id, setRes_rel]
    exact ⟨trivial, trivial, rfl, rfl⟩

/-- IN (R95). -/
theorem in_effect {f : DForm} (h : At s c (wordD 0x44 f) 0 r) : ∃ u, Does (.inp c f) s u ∧
    (∃ r', (u.cx c.val).rel = some r' ∧ r'.pc = (past c (wordD 0x44 f) 0 r).pc) ∧
    (f.d.toNat ≠ 0 → rd u c f.d.toNat = lat r.ports f.addr.toNat 0 ∧ (u.cx c.val).fC = portStale r f.addr.toNat) ∧
    (∀ n, n < 32 → n ≠ f.d.toNat → rd u c n = rd s c n) ∧ u.chan = s.chan ∧ u.shared = s.shared := by
  have hs : isS c.val = false := not_S_of_At h (by rw [wordD_op]; rfl)
  obtain ⟨u, q, hu, hq, hpc, hch, hsh⟩ := does_in h
  have hregs : (u.cx c.val).regs = (setReg c.val f.d.toNat (lat r.ports f.addr.toNat 0) (s.cx c.val)).regs := by
    rw [hq]
    by_cases hd : f.d.toNat = 0 <;> simp [setRes, setReg, hs, hd, setFlags]
  refine ⟨u, hu, ⟨q, by rw [hq], hpc⟩, fun hd => ⟨rd_of_setReg_self hregs f.d.isLt hd, ?_⟩,
    fun n _ hn => rd_of_setReg_ne hregs rfl hn, hch, hsh⟩
  rw [hq]
  simp [setRes, hs, hd, setFlags]

/-- OUT (R91). -/
theorem out_effect {f : DForm} (h : At s c (wordD 0x45 f) 0 r) : ∃ u, Does (.out c f) s u ∧
    (u.cx c.val).regs = (s.cx c.val).regs ∧ (r.shadow = true → u.chan = s.chan) ∧
    (r.shadow = false →
      let n := (lat r.prog.chans (f.addr.toNat / 16) (false, 0)).2
      n < 192 → f.addr.toNat % 16 = 8 →
        (u.ch n).stCmd = rd s c f.d.toNat ∧ (u.ch n).stMode = (s.ch n).stMode ∧
        ∃ g ∈ (u.ch n).staged, g.tick = r.tick + r.prog.deadline ∧ g.cmd = some (rd s c f.d.toNat)) := by
  have hu := does_of_engine (i := .out c f) h rfl
  simp only [wordD_d, wordD_addr, reg_after_id] at hu
  refine ⟨_, hu, ?_⟩
  cases hsh : r.shadow
  · refine ⟨by simp [stageOut, State.modRel], by simp, ?_⟩
    · intro _ n hn ha
      simp only [Bool.false_eq_true, if_false, ha]
      exact stageOut_cmd hn r.tick r.prog.deadline _ _
  · exact ⟨by simp [State.modRel], fun _ => rfl, by simp⟩

/-- The class bit of EVT, where R51 leaves bit 13 of imm14 0. -/
theorem evt_class {f : BForm} (h : At s c (wordB 0x50 f) 0 r) : (f.imm.toNat / 0x1000 % 4 = 1) ↔ f.imm.getLsbD 12 = true := by
  obtain ⟨_, hok, _⟩ := h
  have hop : (insnOf (wordB 0x50 f) 0).op = 0x50 := wordB_op 0x50 f 0
  simp only [insnOk, fieldsOk, hop, wordB_imm, Bool.and_eq_true, decide_eq_true_eq] at hok
  obtain ⟨⟨_, _, himm⟩, _⟩ := hok
  have hbit := bit_of_toNat_div f.imm 12
  rw [← hbit, beq_iff_eq]
  omega

/-- EVT (R81). -/
theorem evt_effect {f : BForm} (h : At s c (wordB 0x50 f) 0 r) :
    Does (.evt c f) s ((after s c (wordB 0x50 f) 0 r id).raise
      (match r.prog.chans[f.a.toNat]? with
        | some x => 4 * x.2
        | none => taskSrc (engOfCtx c.val))
      (if f.imm.getLsbD 12 then .uc else .ce) (f.imm.toNat % 4096) (rd s c f.d.toNat) c.val r.prog.num) := by
  have hu := does_of_engine (i := .evt c f) h rfl
  simp only [wordB_d, wordB_a, wordB_imm, reg_after_id, evt_class h] at hu
  exact hu

/-- REC (R81). -/
theorem rec_effect {f : AForm} (h : At s c (wordA 0x51 f) 0 r) : ∃ u, Does (.recI c f) s u ∧
    (u.cx c.val).regs = (s.cx c.val).regs ∧ (u.cx c.val).loc = (s.cx c.val).loc ∧ u.shared = s.shared ∧ u.chan = s.chan ∧
    ∃ r', (u.cx c.val).rel = some r' ∧ r'.recWords = r.recWords + f.md.toNat % 8 + 1 := by
  refine ⟨_, does_of_engine h rfl, ?_⟩
  simp only [State.modRel, State.modCx_cx_val, wordA_md]
  have hcx : ∀ (low : Nat) (data : List W) (u : State) (n : Nat), (noteUser low data u).cx n = u.cx n := fun _ _ _ _ => rfl
  simp only [hcx, after_cx]
  refine ⟨rfl, rfl, rfl, rfl, _, rfl, ?_⟩
  dsimp only
  rw [past_recWords, Nat.add_assoc]

end

/-- Settles O18. -/
theorem portsEventsAndNotes : Obligations.PortsEventsAndNotes := fun _ _ _ =>
  ⟨fun _ h => in_effect h, fun _ h => out_effect h, fun _ h => evt_effect h, fun _ h => rec_effect h⟩

section
variable {s : State} {c : Ctx} {w ext : W} {r : Rel} {i : Instr}

/-- A flow instruction replaces its release. -/
theorem does_of_flow {op : Insn → Rel → State → State} {q : Rel} (h : At s c w ext r)
    (hi : exec i s = done (engine c w ext op s))
    (hop : op (insnOf w ext) r (after s c w ext r id) = (after s c w ext r id).modRel c.val fun _ => q) :
    ∃ u, Does i s u ∧ (u.cx c.val).rel = some q ∧ (u.cx c.val).regs = (s.cx c.val).regs :=
  ⟨_, does_of_engine h hi, by rw [hop, modRel_after], by rw [hop, modRel_after]⟩

/-- The conditions of Table 3.6 do not look at the release. -/
theorem condTrue_after (s : State) (c : Ctx) (w ext : W) (r : Rel) (k : Nat) :
    condTrue ((after s c w ext r id).cx c.val) k = condTrue (s.cx c.val) k := by
  rw [after_cx]
  rfl

/-- BF, taken (R82, R84). -/
theorem bf_taken {f : CForm} (h : At s c (wordC 0x60 f) 0 r) (ht : condTrue (s.cx c.val) f.cond.toNat = true) :
    ∃ u, Does (.bf c f) s u ∧ ∃ r', (u.cx c.val).rel = some r' ∧ r'.pc = r.pc + f.off.toNat ∧ r'.calls = r.calls ∧
      r'.cyc = issueAt (profOf c) (insnOf (wordC 0x60 f) 0) r + 3 ∧ (u.cx c.val).regs = (s.cx c.val).regs := by
  obtain ⟨u, hu, hrel, hregs⟩ := does_of_flow (i := .bf c f) h rfl (by rw [condTrue_after, wordC_cond, if_pos ht])
  exact ⟨u, hu, _, hrel, by rw [branchTaken, wordC_off], rfl, rfl, hregs⟩

/-- LOOPN (R82). -/
theorem loopn_effect {f : CForm} (h : At s c (wordC 0x61 f) 0 r) : ∃ u, Does (.loopn c f) s u ∧
    ∃ r', (u.cx c.val).rel = some r' ∧ r'.pc = r.pc + 1 ∧
      r'.loops = ⟨r.pc + 1, r.pc + 1 + f.off.toNat, f.cnt.toNat⟩ :: r.loops ∧ (u.cx c.val).regs = (s.cx c.val).regs := by
  obtain ⟨u, hu, hrel, hregs⟩ := does_of_flow (i := .loopn c f) h rfl rfl
  exact ⟨u, hu, _, hrel, rfl, by simp only [wordC_off, wordC_cnt], hregs⟩

/-- CALLF, taken (R82, R84). -/
theorem callf_taken {f : CForm} (h : At s c (wordC 0x62 f) 0 r) (ht : condTrue (s.cx c.val) f.cond.toNat = true) :
    ∃ u, Does (.callf c f) s u ∧
      ∃ r', (u.cx c.val).rel = some r' ∧ r'.pc = r.pc + f.off.toNat ∧ r'.calls.length = r.calls.length + 1 ∧ r'.loops = [] := by
  obtain ⟨u, hu, hrel, _⟩ := does_of_flow (i := .callf c f) h rfl (by rw [condTrue_after, wordC_cond, if_pos ht])
  exact ⟨u, hu, _, hrel, by rw [callTaken, wordC_off], rfl, rfl⟩

/-- END below depth 0 (R82, R84). -/
theorem end_returns {f : CForm} {k : CallFrame} {rest : List CallFrame} (h : At s c (wordC 0x63 f) 0 r) (hs : isS c.val = false)
    (hk : r.calls = k :: rest) (ht : condTrue (s.cx c.val) f.cond.toNat = true) :
    ∃ u, Does (.endRel c f) s u ∧ ∃ r', (u.cx c.val).rel = some r' ∧ r'.pc = k.ret ∧ r'.calls = rest ∧ r'.loops = k.bodies := by
  obtain ⟨u, hu, hrel, _⟩ := does_of_flow (i := .endRel c f) (q := returnRel (issueAt (profOf c) (insnOf (wordC 0x63 f) 0) r) k rest r)
    h rfl (by simp only [hs, hk, condTrue_after, wordC_cond, ht, Bool.false_eq_true, if_false, if_true])
  exact ⟨u, hu, _, hrel, rfl, rfl, rfl⟩

end

/-- Settles O19. -/
theorem controlFlow : Obligations.ControlFlow := by
  refine fun s c r => ⟨fun f h ht => bf_taken h ht, ?notTaken, fun f h => loopn_effect h, fun f h ht => callf_taken h ht,
    fun f k rest h hs hk ht => end_returns h hs hk ht⟩
  case notTaken =>
    exact fun f h ht => does_of_engine_same h rfl (by simp only [condTrue_after, wordC_cond, ht, Bool.false_eq_true, if_false])

section
variable {s : State} {c : Ctx} {w ext : W} {r : Rel} {i : Instr}

/-- The registers of the state in which the release has moved on. -/
theorem after_id_regs (s : State) (c : Ctx) (w ext : W) (r : Rel) :
    ((after s c w ext r id).cx c.val).regs = (s.cx c.val).regs := by rw [after_cx]; rfl

/-! The U profile (R58 to R62). -/

/-- A library service looks at shared task memory alone (R58). -/
theorem libService_congr {u : State} (h : u.shared = s.shared) (svc : Nat) (arg : Nat → W) (t : Task) :
    Machine.libService svc arg t u = Machine.libService svc arg t s := by
  simp only [Machine.libService, ocvIn, winRd, h]
  rfl

/-- The second result of a service has a register: R51 keeps d + 1 below 32 (R58, Table 3.10). -/
theorem lib_second_result {f : EForm} (h : At s c (wordE 0x80 f) f.ext r) {arg : Nat → W} {t : Task} {v : W}
    (hv : (Machine.libService (f.ext.toNat % 65536) arg t s).2 = some v) : f.d.toNat + 1 < 32 := by
  obtain ⟨_, hok, _⟩ := h
  have hop : (insnOf (wordE 0x80 f) f.ext).op = 0x80 := wordE_op 0x80 f f.ext
  have hbits : f.ext.bits 15 0 = f.ext.toNat % 65536 := rfl
  simp only [insnOk, fieldsOk, hop, insnOf_ext, wordE_d, wordE_a, hbits] at hok
  have hsvc : f.ext.toNat % 65536 = 3 := by
    revert hv
    unfold Machine.libService
    split <;> simp_all
  rw [hsvc] at hok
  simp only [Sys2Proof.libService, Bool.and_eq_true, decide_eq_true_eq] at hok
  omega

/-- A value or a free one: a value draws nothing. -/
@[simp] theorem orFree_some (v : W) (u : State) : orFree (some v) u = (v, u) := rfl

theorem orFree_shared (v : Option W) (u : State) : (orFree v u).2.shared = u.shared := by cases v <;> rfl
theorem orFree_chan (v : Option W) (u : State) : (orFree v u).2.chan = u.chan := by cases v <;> rfl

/-- LIB (R58). -/
theorem lib_effect {f : EForm} (h : At s c (wordE 0x80 f) f.ext r) :
    let res := Machine.libService (f.ext.toNat % 65536) (fun k => rd s c (f.a.toNat + k)) r.prog s
    ∃ u, Does (.lib c f) s u ∧ u.shared = s.shared ∧ u.chan = s.chan ∧
      (∀ n, n < 32 → n ≠ f.d.toNat → n ≠ f.d.toNat + 1 → rd u c n = rd s c n) ∧
      (∀ v, res.1 = some v → res.2 = none → f.d.toNat ≠ 0 → rd u c f.d.toNat = v ∧ u.fresh = s.fresh) ∧
      (∀ v w, res.1 = some v → res.2 = some w → f.d.toNat ≠ 0 → rd u c f.d.toNat = v ∧ rd u c (f.d.toNat + 1) = w) ∧
      (res.1 = none → u.fresh = s.fresh + 1) := by
  intro res
  have hres : Machine.libService (f.ext.bits 15 0) (fun k => rd s c (f.a.toNat + k)) r.prog (after s c (wordE 0x80 f) f.ext r id) =
      res := libService_congr rfl ..
  have hu := does_of_engine (i := .lib c f) h rfl
  simp only [insnOf_ext, wordE_d, wordE_a, reg_after_id, hres] at hu
  have h2 := fun v => lib_second_result h (v := v) (arg := fun k => rd s c (f.a.toNat + k)) (t := r.prog)
  change ∀ v, res.2 = some v → _ at h2
  have hfresh : res.1 = none → (orFree res.1 (after s c (wordE 0x80 f) f.ext r id)).2.fresh = s.fresh + 1 := by
    intro e; rw [e]; rfl
  have hvalue : ∀ v, res.1 = some v → orFree res.1 (after s c (wordE 0x80 f) f.ext r id) = (v, after s c (wordE 0x80 f) f.ext r id) := by
    intro v e; rw [e]; rfl
  obtain ⟨r0, r1⟩ := res
  dsimp only at hu h2 hfresh hvalue ⊢
  cases r1 with
  | none =>
    dsimp only at hu
    refine ⟨_, hu, orFree_shared .., orFree_chan .., fun n _ hd _ => ?_, fun v e _ h0 => ⟨?_, ?_⟩, by simp, hfresh⟩
    · exact rd_of_setReg_ne (congrArg Context.regs (State.modCx_cx_val ..)) (by simp) hd
    · refine (rd_of_setReg_self (congrArg Context.regs (State.modCx_cx_val ..)) f.d.isLt h0).trans ?_
      rw [hvalue v e]
    · rw [hvalue v e]; rfl
  | some w =>
    dsimp only at hu
    have hd1 := h2 w rfl
    refine ⟨_, hu, orFree_shared .., orFree_chan .., fun n _ hd hd' => ?_, by simp, fun v w' e ew h0 => ⟨?_, ?_⟩, hfresh⟩
    · rw [rd_of_setReg_ne (congrArg Context.regs (State.modCx_cx_val ..)) rfl hd']
      exact rd_of_setReg_ne (congrArg Context.regs (State.modCx_cx_val ..)) (by simp) hd
    · rw [rd_of_setReg_ne (congrArg Context.regs (State.modCx_cx_val ..)) rfl (Nat.ne_of_lt (Nat.lt_succ_self _))]
      refine (rd_of_setReg_self (congrArg Context.regs (State.modCx_cx_val ..)) f.d.isLt h0).trans ?_
      rw [hvalue v e]
    · cases ew
      exact rd_of_setReg_self (congrArg Context.regs (State.modCx_cx_val ..)) hd1 (Nat.succ_ne_zero _)

@[simp] theorem setReg_ledgHi (n d : Nat) (v : W) (x : Context) : (setReg n d v x).ledgHi = x.ledgHi := by
  obtain ⟨_, e⟩ := setReg_eq_regs n d v x; rw [e]

/-- LEDG (R59). -/
theorem ledg_effect {f : BForm} (h : At s c (wordB 0x81 f) 0 r) :
    let k := if f.a.toNat = 0 then f.imm.toNat / 256 else (rd s c f.a.toNat).toNat % 64
    let g := vat s.clg k Ledger.init
    (r.prog.ledgers.contains k = true → ∃ u, Does (.ledg c f) s u ∧ u.clg = s.clg ∧
      (f.d.toNat ≠ 0 → rd u c f.d.toNat = ledgField (s.cx c.val) g (f.imm.toNat % 8)) ∧
      (u.cx c.val).ledgHi = (if f.imm.toNat % 8 = 0 then (g.q >>> 32).setWidth 32 else (s.cx c.val).ledgHi) ∧
      (∀ n, n < 32 → n ≠ f.d.toNat → rd u c n = rd s c n)) ∧
    (r.prog.ledgers.contains k = false →
      Does (.ledg c f) s (outOfRange (after s c (wordB 0x81 f) 0 r (plain c f.d.toNat 0)) c.val (nw k))) := by
  intro k g
  have hk : (if f.a.toNat = 0 then f.imm.toNat / 256 else (rd s c f.a.toNat).bits 5 0) = k := by
    simp [k, W.bits]
  have hu := does_of_engine (i := .ledg c f) h rfl
  simp only [wordB_a, wordB_d, wordB_imm, reg_after_id, hk, after_modCx_setReg] at hu
  refine ⟨fun hin => ?_, fun hin => ?_⟩
  · rw [if_pos hin] at hu
    have hregs : ∀ x : Context, (if f.imm.toNat % 8 = 0
        then { setReg c.val f.d.toNat (ledgField x g (f.imm.toNat % 8)) x with ledgHi := hi32 g.q }
        else setReg c.val f.d.toNat (ledgField x g (f.imm.toNat % 8)) x).regs =
        (setReg c.val f.d.toNat (ledgField x g (f.imm.toNat % 8)) x).regs := by intro x; split <;> rfl
    refine ⟨_, hu, rfl, fun h0 => ?_, ?_, fun n _ hn => ?_⟩
    · rw [rd_of_setReg_self ((congrArg Context.regs (State.modCx_cx_val ..)).trans (hregs _)) f.d.isLt h0, after_cx]
      rfl
    · rw [State.modCx_cx_val, after_cx]
      dsimp only [id]
      split
      · rfl
      · exact setReg_ledgHi ..
    · exact rd_of_setReg_ne ((congrArg Context.regs (State.modCx_cx_val ..)).trans (hregs _)) (by simp) hn
  · rw [hin, if_neg Bool.false_ne_true] at hu
    exact hu

/-- TMUR (R60). -/
theorem tmur_effect {f : BForm} (h : At s c (wordB 0x82 f) 0 r) :
    let n := tmurChannel s c f
    (n < 192 → Does (.tmur c f) s (after s c (wordB 0x82 f) 0 r
      (plain c f.d.toNat (tmurItem (vat s.tmu.ch n Therm.init) (f.imm.toNat / 8 % 8))))) ∧
    (192 ≤ n → Does (.tmur c f) s (outOfRange (after s c (wordB 0x82 f) 0 r (plain c f.d.toNat 0)) c.val (nw n))) := by
  have hn : (if f.a.toNat = 0 then f.imm.toNat / 64 else (rd s c f.a.toNat).bits 7 0) = tmurChannel s c f := by
    simp [tmurChannel, W.bits]
  have hu := does_of_engine (i := .tmur c f) h rfl
  simp only [wordB_a, wordB_d, wordB_imm, reg_after_id, hn, after_modCx_setReg] at hu
  exact ⟨fun hin => by rwa [if_pos hin] at hu, fun hin => by rwa [if_neg (Nat.not_lt.2 hin)] at hu⟩

/-- JRD (R61). -/
theorem jrd_effect {f : BForm} (h : At s c (wordB 0x83 f) 0 r) :
    let j := if f.a.toNat = 0 then f.imm.toNat / 16 else (rd s c f.a.toNat).toNat % 1024
    let x := (assocGet r.jrx j).getD (0, 0, 0, 255)
    Does (.jrd c f) s (after s c (wordB 0x83 f) 0 r (plain c f.d.toNat
      (if f.imm.toNat % 4 = 1 then BitVec.ofNat 32 x.2.2.2
       else if f.imm.toNat / 4 % 4 = 0 then x.1 else if f.imm.toNat / 4 % 4 = 1 then x.2.1 else x.2.2.1))) := by
  intro j x
  have hj : (if f.a.toNat = 0 then f.imm.toNat / 16 else (rd s c f.a.toNat).bits 9 0) = j := by simp [j, W.bits]
  refine does_of_setReg h rfl ?_
  simp only [wordB_a, wordB_d, wordB_imm, reg_after_id, hj]
  rfl

/-- PERIOD sets the increment of its generator (R62). -/
theorem period_effect {f : AForm} (h : At s c (wordA 0x85 f) 0 r) : ∃ u, Does (.period c f) s u ∧
    (u.cx c.val).regs = (s.cx c.val).regs ∧
    (∀ n, n < 8 → (vat u.pg n PGen.init).inc = if n = f.md.toNat then rd s c f.a.toNat else (vat s.pg n PGen.init).inc) ∧
    (∀ n, n < 8 → (vat u.pg n PGen.init).acc = (vat s.pg n PGen.init).acc) := by
  have hu := does_of_engine (i := .period c f) h rfl
  simp only [wordA_md, wordA_a, reg_after_id] at hu
  refine ⟨_, hu, after_id_regs s c (wordA 0x85 f) 0 r, fun n hn => ?_, fun n hn => ?_⟩
  all_goals
    by_cases e : n = f.md.toNat
    · subst e
      simp [vat_vmod_self _ hn, after, State.modCx]
    · simp [vat_vmod_ne _ (Ne.symm e), e, after, State.modCx]

end

/-- Settles O22. -/
theorem supervisoryInstructions : Obligations.SupervisoryInstructions := by
  refine fun s c r => ⟨fun f h => lib_effect h, fun f h => ledg_effect h, fun f h => tmur_effect h, fun f h => jrd_effect h,
    fun f h => ?jwr, fun f h => period_effect h⟩
  case jwr =>
    have hu := does_of_engine (i := .jwr c f) h rfl
    simp only [wordB_imm, wordB_d, reg_after_id] at hu
    exact ⟨_, hu, rfl, after_id_regs s c (wordB 0x84 f) 0 r⟩

end Sys2Proof.Claims
end

section
/-!
PROOF. The reactions to the one occurrence that waits (R377 to R381, Table 18.3).
-/
namespace Sys2Proof.Claims
open Sys2Proof Sys2Proof.Machine

/-! Bits of the configuration word. -/

/-- A bit of a field of a word. -/
theorem testBit_bits {w : W} {hi lo k : Nat} (h : lo + k ≤ hi) : (w.bits hi lo).testBit k = w.bit (lo + k) := by
  rw [W.bits, Nat.testBit_mod_two_pow, Nat.testBit_shiftRight, W.bit, BitVec.getLsbD]
  simp [show k < hi + 1 - lo by omega]

/-- The reactions configured, bit by bit, where bits 24:18 are `n`. -/
theorem cfg_bits {w : W} {n : Nat} (h : w.bits 24 18 = n) :
    w.bit 18 = n.testBit 0 ∧ w.bit 19 = n.testBit 1 ∧ w.bit 20 = n.testBit 2 ∧ w.bit 21 = n.testBit 3 ∧
      w.bit 22 = n.testBit 4 ∧ w.bit 23 = n.testBit 5 ∧ w.bit 24 = n.testBit 6 := by
  subst h
  refine ⟨?_, ?_, ?_, ?_, ?_, ?_, ?_⟩ <;> rw [testBit_bits (by omega)]

/-! One round. -/

/-- A fold of steps that change nothing. -/
theorem foldl_eq_self {α β : Type} (f : α → β → α) (a : α) (l : List β) (h : ∀ b ∈ l, f a b = a) : l.foldl f a = a := by
  induction l with
  | nil => rfl
  | cons b l ih =>
    rw [List.foldl_cons, h b List.mem_cons_self]
    exact ih fun b hb => h b (List.mem_cons_of_mem _ hb)

/-- An occurrence hits no trigger where none is declared for events (R240). -/
theorem trigEvents_quiet {s : State} (h : ∀ i : Fin 32, (trg s i).decl = false ∨ trigSource (trg s i) ≠ 1) (src : Nat)
    (cls : EvClass) : trigEvents src cls s = s := by
  refine foldl_eq_self _ _ _ fun i hi => if_neg ?_
  rcases h ⟨i, List.mem_range.1 hi⟩ with h | h <;> simp only [trg] at h <;> simp [h]

/-- The state from which the one occurrence that waits is taken up. -/
def takenUp (s : State) : State := { s with fcr := { s.fcr with todo := [] } }

/-- One waiting occurrence: its reaction, where that raises nothing. -/
theorem settle_one {s u : State} {x : React} (h : s.fcr.todo = [x]) (hu : react (takenUp s) x = u) (ht : u.fcr.todo = []) :
    settle s = u := by
  have hround : settleRound s = u := by rw [settleRound, h]; exact hu
  rw [settle, settleN, if_neg (by simp [h]), hround]
  exact settleN_nil 7 ht

/-- The reaction to an uncorrectable occurrence, where no trigger is declared for events. -/
theorem react_uc {s : State} {x : React} (h : ∀ i : Fin 32, (trg s i).decl = false ∨ trigSource (trg s i) ≠ 1)
    (hc : x.cls = .uc) : react s x = reactUc x s := by
  rw [react, hc]
  exact congrArg (reactUc x) (trigEvents_quiet h _ _)

/-! The reaction that the configuration word of an uncorrectable occurrence sets (Table 18.3). -/

theorem reactUc_none {x : React} (h : x.cfg.bits 24 18 = 0) (s : State) : reactUc x s = s := by
  obtain ⟨b18, b19, b20, b21, b22, b23, b24⟩ := cfg_bits h
  simp only [reactUc, b18, b19, b20, b21, b22, b23, b24]
  rfl

theorem reactUc_safe {x : React} (h : x.cfg.bits 24 18 = 2) (s : State) : reactUc x s = safeSrc x.src s := by
  obtain ⟨b18, b19, b20, b21, b22, b23, b24⟩ := cfg_bits h
  simp only [reactUc, b18, b19, b20, b21, b22, b23, b24]
  rfl

theorem reactUc_fence {x : React} (h : x.cfg.bits 24 18 = 4) (s : State) : reactUc x s = fenceSrc x.src s := by
  obtain ⟨b18, b19, b20, b21, b22, b23, b24⟩ := cfg_bits h
  simp only [reactUc, b18, b19, b20, b21, b22, b23, b24]
  rfl

theorem reactUc_errn {x : React} (h : x.cfg.bits 24 18 = 8) (s : State) : reactUc x s = errnPut 0 s := by
  obtain ⟨b18, b19, b20, b21, b22, b23, b24⟩ := cfg_bits h
  simp only [reactUc, b18, b19, b20, b21, b22, b23, b24]
  rfl

theorem reactUc_crst {x : React} (h : x.cfg.bits 24 18 = 16) (s : State) : reactUc x s = chipResetDue s := by
  obtain ⟨b18, b19, b20, b21, b22, b23, b24⟩ := cfg_bits h
  simp only [reactUc, b18, b19, b20, b21, b22, b23, b24]
  rfl

/-! FENCE of a loop engine (R116, R382). -/

section
variable {s : State}

/-- An engine's figures after a change to it. -/
theorem modEng_engine {k n : Nat} (hk : k < 48) (f : Engine → Engine) (hn : n ≠ k) :
    (s.modEng k f).engine n = s.engine n := by
  rw [State.modEng, if_pos hk]
  unfold State.engine
  split
  · exact vat_vmod_ne _ hn.symm _ _
  · rfl

theorem modEng_engine_self {k : Nat} (hk : k < 48) (f : Engine → Engine) : (s.modEng k f).engine k = f (s.engine k) := by
  rw [State.modEng, if_pos hk, State.engine, State.engine, if_pos hk, if_pos hk]
  exact vat_vmod_self _ hk _ _

/-- The values a release staged lie in the channels. -/
theorem discardStaged_eq (r : Rel) (s : State) : ∃ h, discardStaged r s = { s with chan := h } := by
  unfold discardStaged
  split
  · exact ⟨s.chan, rfl⟩
  · induction List.range r.prog.chans.length generalizing s with
    | nil => exact ⟨s.chan, rfl⟩
    | cons k l ih =>
      rw [List.foldl_cons]
      split
      · exact ih _
      · exact ih _

/-- An abandoned release leaves its context and the channels changed, and nothing else (R116). -/
theorem abandon_eq (c : Nat) (s : State) : ∃ x h, abandon c s = { s with ctx := x, chan := h } := by
  unfold abandon
  dsimp only
  split
  · exact ⟨_, s.chan, rfl⟩
  · rename_i r _
    obtain ⟨h, e⟩ := discardStaged_eq r (s.modCx c fun x => { x with wait := none })
    exact ⟨_, h, by rw [e]; rfl⟩

/-- After `abandon` its context runs no release. -/
theorem abandon_rel (c : Nat) (s : State) : ((abandon c s).cx c).rel = none := by
  by_cases hc : c < 512
  · unfold abandon
    dsimp only
    split
    · rename_i h
      rw [State.modCx_cx_self _ hc]
      exact h
    · rw [State.modCx_cx_self _ hc]
  · simp only [State.cx, vat, hc, dite_false]
    rfl

/-- Another context is as before. -/
theorem abandon_cx_ne {c d : Nat} (h : d ≠ c) (s : State) : (abandon c s).cx d = s.cx d := by
  unfold abandon
  dsimp only
  split
  · exact State.modCx_cx_ne _ h.symm _
  · rename_i r _
    rw [State.modCx_cx_ne _ h.symm]
    obtain ⟨g, e⟩ := discardStaged_eq r (s.modCx c fun x => { x with wait := none })
    rw [e]
    exact State.modCx_cx_ne _ h.symm _

/-- Abandoned contexts change contexts and channels alone. -/
theorem foldl_abandon_eq (b : Nat) (l : List Nat) (s : State) :
    ∃ x h, l.foldl (fun s k => abandon (b + k) s) s = { s with ctx := x, chan := h } := by
  induction l generalizing s with
  | nil => exact ⟨s.ctx, s.chan, rfl⟩
  | cons k l ih =>
    obtain ⟨x, h, e⟩ := ih (abandon (b + k) s)
    obtain ⟨x', h', e'⟩ := abandon_eq (b + k) s
    exact ⟨x, h, by rw [List.foldl_cons, e, e']⟩

/-- A context without a release stays so, and every context in the list becomes so. -/
theorem foldl_abandon_rel (b c : Nat) (l : List Nat) (s : State) (h : (s.cx c).rel = none ∨ ∃ k ∈ l, b + k = c) :
    ((l.foldl (fun s k => abandon (b + k) s) s).cx c).rel = none := by
  induction l generalizing s with
  | nil => simpa using h
  | cons k l ih =>
    refine ih _ ?_
    by_cases hk : b + k = c
    · exact .inl (hk ▸ abandon_rel (b + k) s)
    · rcases h with h | ⟨j, hj, e⟩
      · exact .inl (by rw [abandon_cx_ne (Ne.symm hk)]; exact h)
      · rcases List.mem_cons.1 hj with rfl | hj
        · exact absurd e hk
        · exact .inr ⟨j, hj, e⟩

/-- The releases of an engine's contexts are abandoned; contexts and channels alone change. -/
theorem abandonEng_eq (e : Nat) (s : State) : ∃ x h, abandonEng e s = { s with ctx := x, chan := h } :=
  foldl_abandon_eq _ _ s

/-- No context of a loop engine runs a release after `abandonEng`. -/
theorem abandonEng_rel {k : Nat} (hk : k < 48) {c : Ctx} (hc : engOfCtx c.val = k) (s : State) :
    ((abandonEng k s).cx c.val).rel = none := by
  have hcl : c.val < 384 ∧ c.val / 8 = k := by
    unfold engOfCtx at hc
    repeat' split at hc
    all_goals omega
  simp only [abandonEng, ctxBase, if_pos hk]
  exact foldl_abandon_rel _ _ _ _ (.inr ⟨c.val % 8, List.mem_range.2 (by omega), by omega⟩)

/-- The fence of a loop engine on a device alone without an image and without an update: its releases are abandoned, and no
fallback follows. -/
theorem fenceLE_alone {k : Nat} (hf : (s.engine k).fenced = false) (hr : s.prl.role = .solo)
    (himg : s.adm.img = none) (hsh : s.adm.shadow = none) (hacc : s.kio.accepted = []) (hu : s.upe.phase = .idle) :
    ∃ sp, fenceLE k s =
      let u := abandonEng k (s.modEng k fun g => { g with fenced := true })
      { u with fcr := { u.fcr with spareLe := sp } } := by
  have h1 : fenceUpdate (fenceCancel (fencePair s)) = s := by
    simp [fencePair, fenceCancel, dropShadow, fenceUpdate, updCause, causeStatus, updAbort, updAbortR, updOpen, hr, hsh, hacc, hu]
  obtain ⟨x, h, e⟩ := abandonEng_eq k (s.modEng k fun g => { g with fenced := true })
  unfold fenceLE
  rw [hf, if_neg Bool.false_ne_true, h1]
  dsimp only
  split
  · exact ⟨_, rfl⟩
  · rw [if_pos (by rw [e]; simp [himg])]
    exact ⟨_, rfl⟩

end

/-! The fatal path (R379). -/

/-- What the fatal path leaves where the device is not a LEAD in sync (R379). -/
theorem fatal_effect {s : State} {x : React} (hl : leadInSync s = false) :
    ∃ n t m f, fatal x s = { s with
        fcr := { s.fcr with fatal := true, aliveRun := false, errn := s.fcr.errn ||| 2, errnOut := true, nmt := m, lastFe := f }
        trl := t, nvs := n, chan := s.chan.map fun c => { c with safeReq := c.safeReq || c.live } } ∧
      (x.src ≠ 963 → m = s.fcr.nmt + 1 ∧ (s.fcr.fatal = false → f = lastFeWord x)) := by
  have hl' : leadInSync (errnPut 1 { s with fcr := { s.fcr with fatal := true, aliveRun := false }, trl := { s.trl with lit := 1 } }) =
      false := hl
  unfold fatal
  dsimp only
  rw [hl', if_neg Bool.false_ne_true]
  split
  · exact ⟨_, _, _, _, rfl, fun h => absurd ‹_› h⟩
  · split
    · rename_i hf
      exact ⟨_, _, _, _, rfl, fun _ => ⟨rfl, fun _ => rfl⟩⟩
    · rename_i hf
      exact ⟨_, _, _, _, rfl, fun _ => ⟨rfl, fun h => by simp [h] at hf⟩⟩

/-- Settles O3. -/
theorem reactions : Obligations.Reactions := by
  refine ⟨fun s h => settle_nil h, fun s x h htrig => ?_⟩
  have hq : ∀ i : Fin 32, (trg (takenUp s) i).decl = false ∨ trigSource (trg (takenUp s) i) ≠ 1 := htrig
  have huc : ∀ hc : x.cls = .uc, ∀ u, reactUc x (takenUp s) = u → u.fcr.todo = [] → settle s = u :=
    fun hc u hu ht => settle_one h ((react_uc hq hc).trans hu) ht
  refine ⟨?ce, ?none, ?errn, ?crst, ?safe, ?fence, ?fe⟩
  case ce =>
    intro hc
    exact settle_one h (by rw [react, hc]; exact trigEvents_quiet hq _ _) rfl
  case none => exact fun hc hb => huc hc _ (reactUc_none hb _) rfl
  case errn => exact fun hc hb => huc hc _ (reactUc_errn hb _) rfl
  case crst =>
    intro hc hb hn
    refine huc hc _ (reactUc_crst hb _) rfl |>.trans ?_
    simp only [chipResetDue, takenUp, hn]
    rfl
  case safe =>
    intro hc hb hsrc n
    rw [huc hc (askSafe (x.src / 4) (takenUp s)) ((reactUc_safe hb _).trans (if_pos hsrc)) rfl]
    split
    · rename_i e
      rw [askSafe, ← e, State.modCh_ch_self _ n.isLt]
      rfl
    · rename_i e
      rw [askSafe, State.modCh_ch_ne _ (Ne.symm e)]
      rfl
  case fence =>
    intro k hc hb hsrc hk hr himg hsh hacc hu hf
    have hsrc' : fenceSrc x.src (takenUp s) = fenceLE k (takenUp s) := by
      have hl : leadInSync (takenUp s) = false := by simp [leadInSync, takenUp, hr]
      simp [fenceSrc, hl, fenceUnit, hsrc, show 768 + k < 816 by omega]
    obtain ⟨sp, e⟩ := fenceLE_alone (s := takenUp s) hf hr himg hsh hacc hu
    obtain ⟨cx, ch, ea⟩ := abandonEng_eq k ((takenUp s).modEng k fun g => { g with fenced := true })
    have hu : settle s = fenceLE k (takenUp s) :=
      huc hc _ ((reactUc_fence hb _).trans hsrc') (by rw [e]; simp only [ea]; simp [takenUp])
    have hrel := fun c : Ctx => abandonEng_rel hk (c := c) (s := (takenUp s).modEng k fun g => { g with fenced := true })
    rw [hu, e]
    dsimp only
    refine ⟨?_, hrel, fun n _ hn => ?_⟩
    · rw [ea]
      exact congrArg Engine.fenced (modEng_engine_self hk _)
    · rw [ea]
      exact congrArg Engine.fenced (modEng_engine hk _ hn)
  case fe =>
    intro hc hl
    obtain ⟨t, ht⟩ : ∃ t, t = if x.cfg.bit 22 then chipResetDue (takenUp s) else takenUp s := ⟨_, rfl⟩
    have hreact : react (takenUp s) x = fatal x t := by
      rw [react, hc, ht]
      exact congrArg (fun u => fatal x (if x.cfg.bit 22 then chipResetDue u else u)) (trigEvents_quiet hq _ _)
    have hcrst : ∃ z, t = { takenUp s with fcr := { (takenUp s).fcr with crst := z } } ∧
        (x.cfg.bit 22 = true → z = some (s.fcr.crst.getD (s.now + 200))) ∧ (x.cfg.bit 22 = false → z = s.fcr.crst) := by
      rw [ht]
      cases x.cfg.bit 22
      · exact ⟨s.fcr.crst, rfl, by simp, fun _ => rfl⟩
      · refine ⟨_, rfl, fun _ => ?_, by simp⟩
        cases hz : s.fcr.crst <;> simp [takenUp, hz]
        rfl
    obtain ⟨z, hz, hz1, hz2⟩ := hcrst
    subst hz
    obtain ⟨n, tr, m, f, e, hm⟩ := fatal_effect (x := x) (s := { takenUp s with fcr := { (takenUp s).fcr with crst := z } }) hl
    rw [settle_one h (hreact.trans e) rfl]
    refine ⟨rfl, rfl, rfl, rfl, hz1, hz2, hm, fun n => ?_⟩
    simp [State.ch, vat, takenUp]

end Sys2Proof.Claims
end

section
/-!
PROOF. The flow of a sequence: jumps, waits and yields (R169 to R172).
-/
namespace Sys2Proof.Claims
open Sys2Proof Sys2Proof.Machine

section
variable {s u : State} {c : Ctx} {w ext : W} {r : Rel} {i : Instr}

/-! The sequence record. -/

@[simp] theorem seqOf_modSeq (s : State) (c : Ctx) (f : SeqRec → SeqRec) :
    seqOf (modSeq c.val f s) c.val = f (seqOf s c.val) := by
  rw [seqOf, modSeq, State.modCx_cx_val]
  rfl

@[simp] theorem modSeq_rel (s : State) (c : Ctx) (f : SeqRec → SeqRec) :
    ((modSeq c.val f s).cx c.val).rel = (s.cx c.val).rel := by rw [modSeq, State.modCx_cx_val]
@[simp] theorem modSeq_regs (s : State) (c : Ctx) (f : SeqRec → SeqRec) :
    ((modSeq c.val f s).cx c.val).regs = (s.cx c.val).regs := by rw [modSeq, State.modCx_cx_val]

/-- An instruction leaves the sequence record to its operation. -/
@[simp] theorem seqOf_after (s : State) (c : Ctx) (w ext : W) (r : Rel) :
    seqOf (after s c w ext r id) c.val = seqOf s c.val := by
  rw [seqOf, after_cx]
  rfl

/-- Every register of an S context reads what it holds (R38). -/
theorem rd_S (hs : isS c.val = true) (u : State) (n : Nat) : rd u c n = vat (u.cx c.val).regs n 0 := by simp [rd, hs]

/-! A yield. -/

/-- The context after a yield (R172). -/
theorem seqYield_cx (h : (s.cx c.val).rel = some r) (pc : Nat) : (seqYield c.val pc s).cx c.val =
    { s.cx c.val with rel := none, seq := { seqOf s c.val with resume := pc, calls := r.calls } } := by
  unfold seqYield
  simp only [h]
  rw [State.modCx_cx_val]
  have hcx : ∀ (u : State) (p : Prl), ({ u with prl := p } : State).cx c.val = u.cx c.val := fun _ _ => rfl
  have hd : ∀ e start cost, (engDone e start cost s).cx c.val = s.cx c.val := fun e start cost => by
    rw [State.cx, engDone_ctx]; rfl
  rw [hcx, hd]
  rfl

theorem seqYield_rel (h : (s.cx c.val).rel = some r) (pc : Nat) : ((seqYield c.val pc s).cx c.val).rel = none := by
  rw [seqYield_cx h]
theorem seqOf_seqYield (h : (s.cx c.val).rel = some r) (pc : Nat) :
    seqOf (seqYield c.val pc s) c.val = { seqOf s c.val with resume := pc, calls := r.calls } := by
  rw [seqOf, seqYield_cx h]

/-! Jumps. -/

/-- The signed offset of a C-form instruction (Table 3.5). -/
@[simp] theorem wordC_soff (op : BitVec 8) (f : CForm) (ext : W) : (insnOf (wordC op f) ext).soff = f.off.toInt := by
  rw [Insn.soff, wordC_off, BitVec.toInt_eq_toNat_cond]
  split <;> split <;> omega

/-- A jump forward goes on at its target (R170). -/
theorem seqJump_forward {q : Insn} (h : (s.cx c.val).rel = some r) (p : Rel) (hoff : 0 ≤ q.soff) :
    ((seqJump c.val q p s).cx c.val).rel =
      some { r with pc := ((p.pc : Int) + q.soff).toNat, cyc := issueAt .s q p + 3 } := by
  rw [seqJump, if_neg (Int.not_lt.2 hoff), State.modRel, State.modCx_cx_val, h]
  rfl

/-- A jump back is a yield (R172). -/
theorem seqJump_back {q : Insn} (h : (s.cx c.val).rel = some r) (p : Rel) (hoff : q.soff < 0) :
    ((seqJump c.val q p s).cx c.val).rel = none ∧
    seqOf (seqJump c.val q p s) c.val =
      { seqOf s c.val with resume := ((p.pc : Int) + q.soff).toNat, calls := r.calls } := by
  have hrel : ((s.modRel c.val fun x => { x with pc := ((p.pc : Int) + q.soff).toNat, cyc := issueAt .s q p + 3 }).cx c.val).rel =
      some { r with pc := ((p.pc : Int) + q.soff).toNat, cyc := issueAt .s q p + 3 } := by
    rw [State.modRel, State.modCx_cx_val, h]
    rfl
  rw [seqJump, if_pos hoff]
  refine ⟨seqYield_rel hrel _, ?_⟩
  rw [seqOf_seqYield hrel, seqOf, State.modRel, State.modCx_cx_val]
  rfl

/-- The running release after an instruction that only moved on. -/
theorem after_id_rel (s : State) (c : Ctx) (w ext : W) (r : Rel) :
    ((after s c w ext r id).cx c.val).rel = some (past c w ext r) := by rw [after_cx]

/-- JMP (R170, R172). -/
theorem jmp_effect {f : CForm} (h : At s c (wordC 0x75 f) 0 r) :
    (0 ≤ f.off.toInt → ∃ u, Does (.jmp c f) s u ∧
      ∃ r', (u.cx c.val).rel = some r' ∧ r'.pc = ((r.pc : Int) + f.off.toInt).toNat ∧ r'.calls = r.calls) ∧
    (f.off.toInt < 0 → ∃ u, Does (.jmp c f) s u ∧ (u.cx c.val).rel = none ∧
      (seqOf u c.val).resume = ((r.pc : Int) + f.off.toInt).toNat) := by
  have hrel := after_id_rel s c (wordC 0x75 f) 0 r
  have hu := does_of_engine (i := .jmp c f) h rfl
  rw [← wordC_soff 0x75 f 0]
  refine ⟨fun ho => ⟨_, hu, _, seqJump_forward hrel _ ho, rfl, past_calls ..⟩, fun ho => ⟨_, hu, (seqJump_back hrel _ ho).1, ?_⟩⟩
  rw [(seqJump_back hrel _ ho).2]

/-- The conditions of Table 7.5 do not look at the release. -/
theorem condS_after (s : State) (c : Ctx) (w ext : W) (r : Rel) (t : Task) (q : Insn) :
    condS (after s c w ext r id) c.val t q = condS s c.val t q := by
  unfold condS
  rw [after_id_regs, seqOf_after]
  rfl

/-- JC, taken (R170, R172). -/
theorem jc_taken {f : CForm} (h : At s c (wordC 0x76 f) 0 r) (ht : condS s c.val r.prog (insnOf (wordC 0x76 f) 0) = true) :
    (0 ≤ f.off.toInt → ∃ u, Does (.jc c f) s u ∧
      ∃ r', (u.cx c.val).rel = some r' ∧ r'.pc = ((r.pc : Int) + f.off.toInt).toNat) ∧
    (f.off.toInt < 0 → ∃ u, Does (.jc c f) s u ∧ (u.cx c.val).rel = none ∧
      (seqOf u c.val).resume = ((r.pc : Int) + f.off.toInt).toNat) := by
  have hrel := after_id_rel s c (wordC 0x76 f) 0 r
  have hu := does_of_engine (i := .jc c f) h rfl
  rw [condS_after, if_pos ht] at hu
  rw [← wordC_soff 0x76 f 0]
  refine ⟨fun ho => ⟨_, hu, _, seqJump_forward hrel _ ho, rfl⟩, fun ho => ⟨_, hu, (seqJump_back hrel _ ho).1, ?_⟩⟩
  rw [(seqJump_back hrel _ ho).2]

/-- CALL, taken (R170, R172). -/
theorem call_taken {f : CForm} (h : At s c (wordC 0x7C f) 0 r) (ht : condS s c.val r.prog (insnOf (wordC 0x7C f) 0) = true) :
    (0 ≤ f.off.toInt → ∃ u, Does (.call c f) s u ∧
      ∃ r', (u.cx c.val).rel = some r' ∧ r'.pc = ((r.pc : Int) + f.off.toInt).toNat ∧
        r'.calls = ⟨r.pc + 1, false, []⟩ :: r.calls) ∧
    (f.off.toInt < 0 → ∃ u, Does (.call c f) s u ∧ (u.cx c.val).rel = none ∧
      (seqOf u c.val).resume = ((r.pc : Int) + f.off.toInt).toNat ∧
      (seqOf u c.val).calls = ⟨r.pc + 1, false, []⟩ :: r.calls) := by
  have hrel := congrArg Context.rel (modRel_after s c (wordC 0x7C f) 0 r fun q => { q with calls := ⟨r.pc + 1, false, []⟩ :: r.calls })
  have hu := does_of_engine (i := .call c f) h rfl
  rw [condS_after, if_pos ht] at hu
  rw [← wordC_soff 0x7C f 0]
  refine ⟨fun ho => ⟨_, hu, _, seqJump_forward hrel _ ho, rfl, rfl⟩, fun ho => ⟨_, hu, (seqJump_back hrel _ ho).1, ?_⟩⟩
  rw [(seqJump_back hrel _ ho).2]
  exact ⟨rfl, rfl⟩

/-! Waits. -/

/-- The test of a WAIT looks at the rails of the sequence, at channels, links and the parameters alone. -/
theorem waitTest_congr (hr : (seqOf u c.val).rails = (seqOf s c.val).rails) (hsh : u.shared = s.shared) (hch : u.chan = s.chan)
    (hl : u.link = s.link) (t : Task) (kind rail : Nat) (level : Int) :
    waitTest u c.val t kind rail level = waitTest s c.val t kind rail level := by
  unfold waitTest railOf railMeas railStale railWord parm shWord State.ch State.lk
  rw [hr, hsh, hch, hl]

/-- A wait that passes answers its outcome and goes on (R171). -/
theorem waitPass_effect (hs : isS c.val = true) {d : Nat} (hd : d < 32) (v : W) (u : State) :
    rd (waitPass c.val d v u) c d = v ∧ (seqOf (waitPass c.val d v u) c.val).wait = .none ∧
      ((waitPass c.val d v u).cx c.val).rel = (u.cx c.val).rel := by
  unfold waitPass seqOut
  rw [rd_S hs, seqOf, State.modCx_cx_val]
  refine ⟨?_, ?_, ?_⟩
  · simp [setReg, hs, vat_vput_self, hd]
  · obtain ⟨_, e⟩ := setReg_eq_regs c.val d v ((modSeq c.val (fun q => { q with wait := .none, timer := 0 }) u).cx c.val)
    rw [e]
    exact congrArg SeqRec.wait (seqOf_modSeq u c _)
  · obtain ⟨_, e⟩ := setReg_eq_regs c.val d v ((modSeq c.val (fun q => { q with wait := .none, timer := 0 }) u).cx c.val)
    rw [e]
    exact modSeq_rel u c _

/-- A program that yields at the instruction it stands at (R172). -/
theorem seqStay_effect {p : Rel} (h : (u.cx c.val).rel = some p) (wt : SWait) (r : Rel) :
    ((seqStay c.val wt r u).cx c.val).rel = none ∧ ((seqStay c.val wt r u).cx c.val).regs = (u.cx c.val).regs ∧
      seqOf (seqStay c.val wt r u) c.val = { seqOf u c.val with resume := r.pc, calls := p.calls, wait := wt } := by
  have hrel : ((u.modRel c.val fun q => { q with pc := r.pc }).cx c.val).rel = some { p with pc := r.pc } := by
    rw [State.modRel, State.modCx_cx_val, h]
    rfl
  unfold seqStay
  rw [modSeq_rel, modSeq_regs, seqOf_modSeq, seqOf_seqYield hrel, seqYield_cx hrel, seqOf, State.modRel, State.modCx_cx_val]
  exact ⟨rfl, rfl, rfl⟩

/-- A WAIT or AWAIT that comes to wait starts its step timer; else it runs on (R171). -/
theorem startTimer_eq (c : Ctx) (s : State) : ∃ n,
    (if (seqOf s c.val).wait = .none then modSeq c.val (fun q => { q with timer := 0 }) s else s) =
      modSeq c.val (fun q => { q with timer := n }) s := by
  split
  · exact ⟨0, rfl⟩
  · exact ⟨(seqOf s c.val).timer, (State.modCx_id s c.val _ rfl).symm⟩

/-- WAIT of a program that waited for nothing (R171, R172). -/
theorem wait_effect {f : EForm} (hs : isS c.val = true) (h : At s c (wordE 0x73 f) f.ext r) (hw : (seqOf s c.val).wait = .none) :
    (waitTest s c.val r.prog (f.x.toNat / 1024) (f.x.toNat % 8) (f.ext.extractLsb' 0 16).toInt = true →
      ∃ u, Does (.wait c f) s u ∧ rd u c f.d.toNat = 0 ∧ (seqOf u c.val).wait = .none ∧ (u.cx c.val).rel.isSome = true) ∧
    (waitTest s c.val r.prog (f.x.toNat / 1024) (f.x.toNat % 8) (f.ext.extractLsb' 0 16).toInt = false →
      ∃ u, Does (.wait c f) s u ∧ (u.cx c.val).rel = none ∧ (seqOf u c.val).resume = r.pc ∧ (seqOf u c.val).calls = r.calls ∧
        (seqOf u c.val).wait ≠ .none ∧ (u.cx c.val).regs = (s.cx c.val).regs) := by
  obtain ⟨n, hn⟩ := startTimer_eq c (after s c (wordE 0x73 f) f.ext r id)
  have hu := does_of_engine (i := .wait c f) h rfl
  simp only [hn] at hu
  rw [waitTest_congr (u := modSeq c.val (fun q => { q with timer := n }) (after s c (wordE 0x73 f) f.ext r id)) (s := s)
    (by rw [seqOf_modSeq, seqOf_after]) rfl rfl rfl, seqOf_modSeq, seqOf_after] at hu
  simp only [wordE_d, wordE_x, insnOf_ext, sField, hw] at hu
  have hrel : ((modSeq c.val (fun q => { q with timer := n }) (after s c (wordE 0x73 f) f.ext r id)).cx c.val).rel =
      some (past c (wordE 0x73 f) f.ext r) := by rw [modSeq_rel, after_id_rel]
  constructor
  · intro ht
    obtain ⟨hd, hwt, hr⟩ := waitPass_effect hs f.d.isLt 0
      (modSeq c.val (fun q => { q with timer := n }) (after s c (wordE 0x73 f) f.ext r id))
    rw [if_pos ht] at hu
    exact ⟨_, hu, hd, hwt, by rw [hr, hrel]; rfl⟩
  · intro ht
    simp only [ht, Bool.false_eq_true, if_false, ne_eq, not_true_eq_false, false_and] at hu
    obtain ⟨hr, hregs, hq⟩ := seqStay_effect hrel (.wait (f.x.toNat / 1024) (f.x.toNat % 8) (f.ext.extractLsb' 0 16).toInt f.d.toNat
      (f.x.toNat / 512 % 2 == 1) (insnOf (wordE 0x73 f) f.ext).timeSteps) r
    exact ⟨_, hu, hr, by rw [hq], by rw [hq]; exact past_calls .., by rw [hq]; exact SWait.noConfusion,
      by rw [hregs, modSeq_regs, after_id_regs]⟩

end

/-- Settles O24. -/
theorem sequenceFlow : Obligations.SequenceFlow := by
  intro s c r hs t
  refine ⟨fun f h hw => wait_effect hs h hw, fun f h => jmp_effect h, ?jc, ?call⟩
  case jc =>
    intro f h
    refine ⟨fun ht => does_of_engine_same h rfl ?_, fun ht => (jc_taken h ht).1, fun ht => (jc_taken h ht).2⟩
    simp only [condS_after]
    rw [ht, if_neg Bool.false_ne_true]
  case call =>
    intro f h
    refine ⟨fun ht => does_of_engine_same h rfl ?_, fun ht => (call_taken h ht).1, fun ht => (call_taken h ht).2⟩
    simp only [condS_after]
    rw [ht, if_neg Bool.false_ne_true]

end Sys2Proof.Claims
end

section
/-!
PROOF. The sequence block, state changes and the fault reaction (R156, R159, R161, R165), and the rails of a sequence (R163, R170).
-/
namespace Sys2Proof.Claims
open Sys2Proof Sys2Proof.Machine

section
variable {s u : State} {c : Ctx} {w ext : W} {r : Rel} {i : Instr} {t : Task}

/-! Words made of fields. -/

/-- A field above the bits of a word adds to it. -/
theorem fld_or_toNat {a lo : Nat} {x : W} (ha : a * 2 ^ lo < 2 ^ 32) (hx : x.toNat < 2 ^ lo) :
    (fld a lo ||| x).toNat = a * 2 ^ lo + x.toNat := by
  rw [BitVec.toNat_or, fld, BitVec.toNat_ofNat, Nat.shiftLeft_eq, Nat.mod_eq_of_lt ha, ← Nat.shiftLeft_eq,
    ← Nat.shiftLeft_add_eq_or_of_lt hx]

/-- A field alone. -/
theorem fld_toNat {a lo : Nat} (ha : a * 2 ^ lo < 2 ^ 32) : (fld a lo).toNat = a * 2 ^ lo := by
  rw [fld, BitVec.toNat_ofNat, Nat.shiftLeft_eq, Nat.mod_eq_of_lt ha]

/-- A flag is a field of one bit. -/
theorem flag_eq_fld (b : Bool) (lo : Nat) : flag b lo = fld (b2n b) lo := by cases b <;> simp [flag, b2n, fld]

/-- Word 1 of a sequence block (Table 7.1). -/
def faultWord (cause from_ rail jaddr : Nat) : W := fld cause 28 ||| fld from_ 24 ||| fld rail 16 ||| fld jaddr 0

theorem faultWord_toNat {cause from_ rail jaddr : Nat} (hc : cause < 16) (hf : from_ < 16) (hr : rail < 256) (hj : jaddr < 65536) :
    (faultWord cause from_ rail jaddr).toNat = cause * 2 ^ 28 + (from_ * 2 ^ 24 + (rail * 2 ^ 16 + jaddr * 2 ^ 0)) := by
  have h0 : (fld jaddr 0).toNat = jaddr * 2 ^ 0 := fld_toNat (by omega)
  have h1 : (fld rail 16 ||| fld jaddr 0).toNat = rail * 2 ^ 16 + jaddr * 2 ^ 0 := by
    rw [fld_or_toNat (by omega) (by omega), h0]
  have h2 : (fld from_ 24 ||| (fld rail 16 ||| fld jaddr 0)).toNat = from_ * 2 ^ 24 + (rail * 2 ^ 16 + jaddr * 2 ^ 0) := by
    rw [fld_or_toNat (by omega) (by omega), h1]
  rw [faultWord, BitVec.or_assoc, BitVec.or_assoc, fld_or_toNat (by omega) (by omega), h2]

/-- Word 0 of a sequence block (Table 7.1). -/
def requestWord (q : SeqRec) (req ok pres : Bool) : W :=
  fld (seqCode q.st) 28 ||| flag req 27 ||| flag ok 26 ||| flag pres 25 ||| flag (req && pres) 24 ||| fld (min q.retries 15) 20

/-- A bit of a field. -/
theorem fld_bit (v lo k : Nat) : (fld v lo).bit k = (decide (k < 32) && decide (lo ≤ k) && v.testBit (k - lo)) := by
  rw [fld, W.bit, BitVec.getLsbD_ofNat, Nat.testBit_shiftLeft, Bool.and_assoc]

theorem flag_bit (b : Bool) (lo k : Nat) : (flag b lo).bit k = (b && decide (k = lo ∧ k < 32)) := by
  cases b
  · simp [flag, W.bit]
  · rw [flag, if_pos rfl, fld_bit, Bool.eq_iff_iff]
    simp only [Bool.and_eq_true, decide_eq_true_eq, Bool.true_and, Nat.testBit_one_eq_true_iff_self_eq_zero]
    omega

theorem or_bit (x y : W) (k : Nat) : (x ||| y).bit k = (x.bit k || y.bit k) := BitVec.getLsbD_or

/-- Bits 24 to 27 of a field of four bits below them. -/
theorem min15_testBit (n : Nat) {k : Nat} (hk : 4 ≤ k) : (min n 15).testBit k = false :=
  Nat.testBit_lt_two_pow (Nat.lt_of_lt_of_le (by omega : min n 15 < 2 ^ 4) (Nat.pow_le_pow_right (by omega) hk))

theorem requestWord_req (q : SeqRec) (req ok pres : Bool) : (requestWord q req ok pres).bit 27 = req := by
  simp [requestWord, or_bit, fld_bit, flag_bit, min15_testBit]
theorem requestWord_ok (q : SeqRec) (req ok pres : Bool) : (requestWord q req ok pres).bit 26 = ok := by
  simp [requestWord, or_bit, fld_bit, flag_bit, min15_testBit]
theorem requestWord_pres (q : SeqRec) (req ok pres : Bool) : (requestWord q req ok pres).bit 25 = pres := by
  simp [requestWord, or_bit, fld_bit, flag_bit, min15_testBit]

/-! Words of shared task memory. -/

/-- A parameter word read back. -/
theorem parm_parmPut (hw : Memory.wf s.shared = true) (t : Task) (a : Nat) (v : W) : parm (parmPut t a v s) t a = v :=
  Memory.readW_writeW _ v hw

/-- A write to one parameter word leaves the others. -/
theorem parm_parmPut_ne (hw : Memory.wf s.shared = true) (t : Task) {a b : Nat} (h : b ≠ a) (v : W) :
    parm (parmPut t a v s) t b = parm s t b :=
  Memory.readW_writeW_ne _ _ v hw (by omega)

theorem wf_parmPut (hw : Memory.wf s.shared = true) (t : Task) (a : Nat) (v : W) :
    Memory.wf (parmPut t a v s).shared = true := Memory.wf_writeW _ v hw

theorem parm_congr (h : u.shared = s.shared) (t : Task) (a : Nat) : parm u t a = parm s t a := by rw [parm, shWord, h]; rfl

/-- The request and supply bits are bits of word 0. -/
theorem seqWord0_eq (c : Nat) (t : Task) (req ok pres : Bool) (s : State) :
    seqWord0 c t req ok pres s = parmPut t 0 (requestWord (seqOf s c) req ok pres) s := rfl

/-! State changes of a sequence. -/

/-- The record of a sequence after a state change (R161). -/
def entered (st : SeqSt) (q : SeqRec) : SeqRec := { q with st := st, onSteps := 0, wait := .none, timer := 0 }

/-- A state change rewrites word 0 and leaves a note and a message; of the context it changes the record alone (R161, R175). -/
theorem seqSet_eq (c : Nat) (t : Task) (st : SeqSt) (mark : Nat) (s : State) : ∃ b j, seqSet c t st mark s =
    { parmPut t 0 (requestWord (seqOf (modSeq c (entered st) s) c) (seqReqOn s t) (seqSupOk s t) (seqSupPres s t))
        (modSeq c (entered st) s) with bbr := b, jnb := j } := by
  unfold seqSet
  dsimp only
  split
  · exact ⟨_, _, rfl⟩
  · exact ⟨_, s.jnb, rfl⟩

theorem seqOf_seqSet (c : Ctx) (t : Task) (st : SeqSt) (mark : Nat) (s : State) :
    seqOf (seqSet c.val t st mark s) c.val = entered st (seqOf s c.val) := by
  obtain ⟨b, j, e⟩ := seqSet_eq c.val t st mark s
  rw [e]
  exact seqOf_modSeq s c _

theorem seqSet_rel (c : Ctx) (t : Task) (st : SeqSt) (mark : Nat) (s : State) :
    ((seqSet c.val t st mark s).cx c.val).rel = (s.cx c.val).rel := by
  obtain ⟨b, j, e⟩ := seqSet_eq c.val t st mark s
  rw [e]
  exact modSeq_rel s c _

theorem seqSet_snapSeq (c : Nat) (t : Task) (st : SeqSt) (mark : Nat) (s : State) :
    (seqSet c t st mark s).snapSeq = s.snapSeq := by
  obtain ⟨b, j, e⟩ := seqSet_eq c t st mark s
  rw [e]
  rfl

/-- A state change writes no parameter word but word 0. -/
theorem parm_seqSet (hw : Memory.wf s.shared = true) (c : Nat) (t : Task) (st : SeqSt) (mark : Nat) {a : Nat} (ha : a ≠ 0) :
    parm (seqSet c t st mark s) t a = parm s t a := by
  obtain ⟨b, j, e⟩ := seqSet_eq c t st mark s
  rw [e]
  exact parm_parmPut_ne (s := modSeq c (entered st) s) hw t ha _

/-! The fault reaction. -/

theorem seqCode_le (st : SeqSt) : seqCode st ≤ 8 := by cases st <;> decide

/-- A counter's increment is asked of the nonvolatile store (R174). -/
theorem counterAsk_eq (id : BitVec 16) (s : State) : ∃ n, counterAsk id s = { s with nvs := n } := by
  unfold counterAsk
  split
  · exact ⟨s.nvs, rfl⟩
  · exact ⟨_, rfl⟩

/-- The occurrence of a fault reaction: with a rail its counter and its channel's source, else the task-fault source (R165, R174). -/
def faultRaise (rail : Option Nat) (c : Nat) (t : Task) (s : State) : State :=
  match rail with
  | some i => (counterAsk (railCounter s t i 0) s).raiseC (4 * railCh t i + 3) .uc c t.num
  | none => s.raiseC (taskSrc (engOfCtx c)) .uc c t.num

theorem faultRaise_frame (rail : Option Nat) (c : Nat) (t : Task) (s : State) : (faultRaise rail c t s).shared = s.shared ∧
    (faultRaise rail c t s).ctx = s.ctx ∧ (faultRaise rail c t s).snapSeq = s.snapSeq := by
  cases rail with
  | none => exact ⟨State.raiseC_shared .., State.raiseC_ctx .., State.raiseC_snapSeq ..⟩
  | some i =>
    obtain ⟨n, e⟩ := counterAsk_eq (railCounter s t i 0) s
    rw [faultRaise, e]
    exact ⟨State.raiseC_shared .., State.raiseC_ctx .., State.raiseC_snapSeq ..⟩

/-- The fault reaction (R165): UNWIND for cause FAULT, word 1 and a snapshot; the program stops. -/
theorem faultReact_effect (hw : Memory.wf s.shared = true) {cause jaddr : Nat} {rail : Option Nat} (hc : cause < 16)
    (hr : rail.getD 0xFF < 256) (hj : jaddr < 65536) (c : Ctx) (t : Task) :
    let u := faultReact c.val t cause rail jaddr s
    (seqOf u c.val).st = .unwind ∧ (seqOf u c.val).unwFault = true ∧ (u.cx c.val).rel = none ∧ u.snapSeq = s.snapSeq + 1 ∧
      (parm u t 1).bits 31 28 = cause ∧ (parm u t 1).bits 23 16 = rail.getD 0xFF := by
  intro u
  have hf := seqCode_le (seqOf s c.val).st
  have hword := faultWord_toNat (from_ := seqCode (seqOf s c.val).st) hc (by omega) hr hj
  obtain ⟨v, hv⟩ : ∃ v, v = faultRaise rail c.val t
    (snapshot c.val t (parmPut t 1 (faultWord cause (seqCode (seqOf s c.val).st) (rail.getD 0xFF) jaddr) s)) := ⟨_, rfl⟩
  obtain ⟨hsh, hcx, hsn⟩ := faultRaise_frame rail c.val t
    (snapshot c.val t (parmPut t 1 (faultWord cause (seqCode (seqOf s c.val).st) (rail.getD 0xFF) jaddr) s))
  rw [← hv] at hsh hcx hsn
  have hu : u = (modSeq c.val (fun q => { q with
      unwFault := true, runs := false, unwLeft := 0, rails := q.rails.map fun x => { x with ramp := none } })
      (seqSet c.val t .unwind 0xFF v)).modCx c.val fun x => { x with rel := none } := by rw [hv]; cases rail <;> rfl
  have hparm : parm u t 1 = faultWord cause (seqCode (seqOf s c.val).st) (rail.getD 0xFF) jaddr := by
    have hwf : Memory.wf v.shared = true := by rw [hsh]; exact wf_parmPut hw t 1 _
    calc parm u t 1 = parm (seqSet c.val t .unwind 0xFF v) t 1 := by rw [hu]; rfl
      _ = parm v t 1 := parm_seqSet hwf _ _ _ _ (by omega)
      _ = parm (parmPut t 1 (faultWord cause (seqCode (seqOf s c.val).st) (rail.getD 0xFF) jaddr) s) t 1 := parm_congr hsh t 1
      _ = _ := parm_parmPut hw t 1 _
  refine ⟨?_, ?_, ?_, ?_, ?_, ?_⟩
  · rw [hu, seqOf, State.modCx_cx_val]
    exact (congrArg SeqRec.st (seqOf_modSeq ..)).trans (congrArg SeqRec.st (seqOf_seqSet c t .unwind 0xFF v))
  · rw [hu, seqOf, State.modCx_cx_val]
    exact congrArg SeqRec.unwFault (seqOf_modSeq ..)
  · rw [hu, State.modCx_cx_val]
  · rw [hu]
    exact (seqSet_snapSeq ..).trans hsn
  · rw [hparm, W.bits, hword, Nat.shiftRight_eq_div_pow]
    omega
  · rw [hparm, W.bits, hword, Nat.shiftRight_eq_div_pow]
    omega

end
end Sys2Proof.Claims
end

section
/-!
PROOF. The rails of a sequence (R163, R165, R170).
-/
namespace Sys2Proof.Claims
open Sys2Proof Sys2Proof.Machine

section
variable {s u : State} {c : Ctx} {w ext : W} {r : Rel} {i : Instr} {t : Task}

/-! Requests to a channel. -/

/-- What EN asks of its channel: a start in OFF, a restart in SAFE (R170). -/
def enabled (n : Nat) (s : State) : State :=
  match (s.ch n).st with
  | .off => askStart n s
  | .safe => restartChan n s
  | _ => s

theorem railEnable_eq (t : Task) (i : Nat) (s : State) : railEnable t i s =
    if (orderList (parm (enabled (railCh t i) s) t 8)).contains i then enabled (railCh t i) s
    else parmPut t 8 (orderWord (orderList (parm (enabled (railCh t i) s) t 8) ++ [i])) (enabled (railCh t i) s) := rfl

/-- EN changes its channel alone. -/
theorem enabled_eq (n : Nat) (s : State) : ∃ f : Chan → Chan, enabled n s = s.modCh n f := by
  have hid : s = s.modCh n id := by rw [State.modCh, vmod_id _ _ _ Chan.init fun _ => rfl]
  unfold enabled
  split
  · exact ⟨_, rfl⟩
  · unfold restartChan
    dsimp only
    split
    · exact ⟨_, rfl⟩
    · exact ⟨id, hid⟩
  · exact ⟨id, hid⟩

theorem enabled_off {n : Nat} (h : (s.ch n).st = .off) : enabled n s = askStart n s := by simp only [enabled, h]
theorem enabled_safe {n : Nat} (h : (s.ch n).st = .safe) : enabled n s = restartChan n s := by simp only [enabled, h]
theorem enabled_live {n : Nat} (h : (s.ch n).st ≠ .off) (h' : (s.ch n).st ≠ .safe) : enabled n s = s := by
  unfold enabled
  split
  · contradiction
  · contradiction
  · rfl

/-- A restart request is in force after it is made (R480). -/
theorem restartChan_restart {n : Nat} (hn : n < 192) (h : (s.ch n).st = .safe) :
    ((restartChan n s).ch n).restart = true ∧ ((restartChan n s).ch n).st = .safe := by
  unfold restartChan
  cases hr : (s.ch n).restart
  · simp [h, hr, State.modCh_ch_self _ hn]
  · simp [h, hr]

/-- The channels after EN. -/
theorem railEnable_chan (t : Task) (i : Nat) (s : State) : (railEnable t i s).chan = (enabled (railCh t i) s).chan := by
  rw [railEnable_eq]
  split <;> rfl

theorem railEnable_ctx (t : Task) (i : Nat) (s : State) : (railEnable t i s).ctx = s.ctx := by
  obtain ⟨f, e⟩ := enabled_eq (railCh t i) s
  rw [railEnable_eq, e]
  split <;> rfl

/-- ENABLE_ORDER after EN (R170). -/
theorem railEnable_order (hw : Memory.wf s.shared = true) (t : Task) (i : Nat) : parm (railEnable t i s) t 8 =
    if (orderList (parm s t 8)).contains i then parm s t 8 else orderWord (orderList (parm s t 8) ++ [i]) := by
  obtain ⟨f, e⟩ := enabled_eq (railCh t i) s
  have hp : parm (s.modCh (railCh t i) f) t 8 = parm s t 8 := rfl
  rw [railEnable_eq, e, hp]
  split
  · exact hp
  · exact parm_parmPut (s := s.modCh (railCh t i) f) hw t 8 _

/-- What EN does to its channel and to ENABLE_ORDER (R170). -/
theorem railEnable_effect (hw : Memory.wf s.shared = true) (t : Task) (i : Nat) :
    let u := railEnable t i s
    let l := orderList (parm s t 8)
    ((s.ch (railCh t i)).st = .off → railCh t i < 192 → u.ch (railCh t i) = { s.ch (railCh t i) with startReq := true }) ∧
    ((s.ch (railCh t i)).st = .safe → railCh t i < 192 → (u.ch (railCh t i)).restart = true ∧ (u.ch (railCh t i)).st = .safe) ∧
    ((s.ch (railCh t i)).st ≠ .off → (s.ch (railCh t i)).st ≠ .safe → u.chan = s.chan) ∧
    (l.contains i = false → parm u t 8 = orderWord (l ++ [i])) ∧ (l.contains i = true → parm u t 8 = parm s t 8) ∧
    u.ctx = s.ctx ∧ ∀ m, m ≠ railCh t i → u.ch m = s.ch m := by
  intro u l
  have horder := railEnable_order hw t i
  have hch : ∀ n, u.ch n = (enabled (railCh t i) s).ch n := fun n => congrArg (vat · n Chan.init) (railEnable_chan t i s)
  refine ⟨fun ho hn => ?_, fun hsf hn => ?_, fun h1 h2 => ?_, fun hc => ?_, fun hc => ?_, railEnable_ctx t i s, fun m hm => ?_⟩
  · rw [hch, enabled_off ho, askStart, State.modCh_ch_self _ hn]
  · rw [hch, enabled_safe hsf]
    exact restartChan_restart hn hsf
  · rw [railEnable_chan, enabled_live h1 h2]
  · exact horder.trans (if_neg (by rw [hc]; decide))
  · exact horder.trans (if_pos hc)
  · obtain ⟨g, e⟩ := enabled_eq (railCh t i) s
    rw [hch, e, State.modCh_ch_ne _ (Ne.symm hm)]

/-- EN (R170). -/
theorem en_effect {f : BForm} (hw : Memory.wf s.shared = true) (h : At s c (wordB 0x70 f) 0 r) :
    let t := r.prog
    let i := f.imm.toNat % 8
    let l := orderList (parm s t 8)
    ∃ u, Does (.en c f) s u ∧
      ((s.ch (railCh t i)).st = .off → railCh t i < 192 →
        u.ch (railCh t i) = { s.ch (railCh t i) with startReq := true }) ∧
      ((s.ch (railCh t i)).st = .safe → railCh t i < 192 →
        (u.ch (railCh t i)).restart = true ∧ (u.ch (railCh t i)).st = .safe) ∧
      ((s.ch (railCh t i)).st ≠ .off → (s.ch (railCh t i)).st ≠ .safe → u.chan = s.chan) ∧
      (l.contains i = false → parm u t 8 = orderWord (l ++ [i])) ∧
      (l.contains i = true → parm u t 8 = parm s t 8) ∧ (u.cx c.val).regs = (s.cx c.val).regs ∧
      ∀ m, m ≠ railCh t i → u.ch m = s.ch m := by
  intro t i l
  have hu := does_of_engine (i := .en c f) h rfl
  simp only [wordB_imm] at hu
  obtain ⟨hoff, hsafe, hlive, hnew, hold, hctx, hne⟩ :=
    railEnable_effect (s := after s c (wordB 0x70 f) 0 r id) hw t i
  exact ⟨_, hu, hoff, hsafe, hlive, hnew, hold, by rw [State.cx, hctx]; exact after_id_regs .., hne⟩

/-! Rails. -/

/-- A rail changed. -/
theorem railOf_modRail (c : Ctx) {i : Nat} (hi : i < 8) (f : Rail → Rail) (s : State) :
    railOf (modRail c.val i f s) c.val i = f (railOf s c.val i) := by
  rw [railOf, modRail, seqOf_modSeq, vat_vmod_self _ hi]
  rfl

/-- The rails of a sequence are a part of its record. -/
theorem railOf_congr (h : seqOf u c.val = seqOf s c.val) (i : Nat) : railOf u c.val i = railOf s c.val i := by
  rw [railOf, railOf, h]

/-- REF_ADDR is a parameter word. -/
theorem refAddr_congr {i : Nat} (h : parm u t (16 + 4 * i + 3) = parm s t (16 + 4 * i + 3)) :
    refAddr u t i = refAddr s t i := by
  unfold refAddr railWord
  rw [h]

/-- What DIS does to its channel, to ENABLE_ORDER and to the ramp of a rail without a reference word (R170). -/
theorem railDisable_effect (hw : Memory.wf s.shared = true) {i : Nat} (hi : i < 8) (hr : refAddr s t i = none) (c : Ctx) :
    let u := railDisable c.val t i s
    (railCh t i < 192 → u.ch (railCh t i) =
      { s.ch (railCh t i) with stopReq := (s.ch (railCh t i)).stoppable, startReq := false }) ∧
    parm u t 8 = orderWord ((orderList (parm s t 8)).filter (· != i)) ∧
    (railOf u c.val i).ramp = none ∧ (u.cx c.val).regs = (s.cx c.val).regs ∧ ∀ m, m ≠ railCh t i → u.ch m = s.ch m := by
  intro u
  obtain ⟨v, hv⟩ : ∃ v, v = orderWord ((orderList (parm (askStop (railCh t i) s) t 8)).filter (· != i)) := ⟨_, rfl⟩
  have hu : u = modRail c.val i (fun x => { x with ramp := none }) (parmPut t 8 v (askStop (railCh t i) s)) := by
    have href : refAddr (modRail c.val i (fun x => { x with ramp := none }) (parmPut t 8 v (askStop (railCh t i) s))) t i = none :=
      (refAddr_congr (s := s) (parm_parmPut_ne (s := askStop (railCh t i) s) hw t (by omega) v)).trans hr
    calc u = refPut t i 0 (modRail c.val i (fun x => { x with ramp := none }) (parmPut t 8 v (askStop (railCh t i) s))) := by
          rw [hv]; rfl
      _ = _ := by rw [refPut, href]
  rw [hu]
  refine ⟨fun hn => ?_, ?_, by rw [railOf_modRail c hi], ?_, fun m hm => ?_⟩
  · exact State.modCh_ch_self s hn _
  · exact (parm_parmPut (s := askStop (railCh t i) s) hw t 8 v).trans hv
  · rw [modRail, modSeq_regs]
    rfl
  · exact State.modCh_ch_ne s (Ne.symm hm) _

/-- DIS (R170). -/
theorem dis_effect {f : BForm} (hw : Memory.wf s.shared = true) (h : At s c (wordB 0x71 f) 0 r)
    (hr : refAddr s r.prog (f.imm.toNat % 8) = none) :
    let t := r.prog
    let i := f.imm.toNat % 8
    ∃ u, Does (.dis c f) s u ∧
      (railCh t i < 192 → u.ch (railCh t i) =
        { s.ch (railCh t i) with stopReq := (s.ch (railCh t i)).stoppable, startReq := false }) ∧
      parm u t 8 = orderWord ((orderList (parm s t 8)).filter (· != i)) ∧
      (railOf u c.val i).ramp = none ∧ (u.cx c.val).regs = (s.cx c.val).regs ∧
      ∀ m, m ≠ railCh t i → u.ch m = s.ch m := by
  intro t i
  have hu := does_of_engine (i := .dis c f) h rfl
  simp only [wordB_imm] at hu
  obtain ⟨hch, hord, hramp, hregs, hne⟩ := railDisable_effect (s := after s c (wordB 0x71 f) 0 r id) (t := t) (i := i) hw
    (Nat.mod_lt _ (by decide)) hr c
  exact ⟨_, hu, hch, hord, hramp, hregs.trans (after_id_regs ..), hne⟩

/-- The register SETREF reads. -/
theorem regs_after_S (hs : isS c.val = true) (s : State) (w ext : W) (r : Rel) (n : Nat) :
    vat ((after s c w ext r id).cx c.val).regs n 0 = rd s c n := by rw [after_id_regs, rd_S hs]

/-- SETREF (R170). -/
theorem setref_effect {f : EForm} (hs : isS c.val = true) (hw : Memory.wf s.shared = true)
    (h : At s c (wordE 0x72 f) f.ext r) :
    let t := r.prog
    let i := f.x.toNat % 8
    ∃ u, Does (.setref c f) s u ∧
      (rd s c f.a.toNat = 0 → (railOf u c.val i).ramp = none ∧
        (∀ a, refAddr s t i = some a → shWord u a = f.ext) ∧ (refAddr s t i = none → u.shared = s.shared)) ∧
      (rd s c f.a.toNat ≠ 0 → (railOf u c.val i).ramp = some (f.ext, rd s c f.a.toNat) ∧ u.shared = s.shared) ∧
      u.chan = s.chan := by
  intro t i
  have hu := does_of_engine (i := .setref c f) h rfl
  simp only [wordE_x, wordE_a, insnOf_ext, regs_after_S hs] at hu
  have hi : i < 8 := Nat.mod_lt _ (by decide)
  obtain ⟨s1, hs1⟩ : ∃ s1, s1 = modRail c.val i (fun x => { x with ramp := none }) (after s c (wordE 0x72 f) f.ext r id) := ⟨_, rfl⟩
  have href : refAddr s1 t i = refAddr s t i := by rw [hs1]; rfl
  have hsh : s1.shared = s.shared := by rw [hs1]; rfl
  have hramp : (railOf s1 c.val i).ramp = none := by rw [hs1, railOf_modRail c hi]
  by_cases hz : rd s c f.a.toNat = 0
  · rw [if_pos hz, ← hs1] at hu
    refine ⟨_, hu, fun _ => ⟨?_, fun a ha => ?_, fun hn => ?_⟩, fun hne => absurd hz hne, ?_⟩
    · unfold refPut
      split
      · exact hramp
      · exact hramp
    · rw [refPut, href, ha]
      exact Memory.readW_writeW _ _ (by rw [hsh]; exact hw)
    · rw [refPut, href, hn]
      exact hsh
    · unfold refPut
      split <;> rw [hs1] <;> rfl
  · rw [if_neg hz] at hu
    exact ⟨_, hu, fun h0 => absurd h0 hz, fun _ => ⟨by rw [railOf_modRail c hi], rfl⟩, rfl⟩

/-- CHK of a rail without an override (R163, R165, R170). -/
theorem chk_effect {f : EForm} (hs : isS c.val = true) (hw : Memory.wf s.shared = true) (h : At s c (wordE 0x74 f) f.ext r)
    (hx : f.x.toNat / 8192 = 0) :
    let t := r.prog
    let i := f.x.toNat % 8
    (railStale s t i = true → ∃ u, Does (.chk c f) s u ∧ rd u c f.d.toNat = 3 ∧ u.fcr = s.fcr) ∧
    (railStale s t i = false → (railOf s c.val i).cls = .ok →
      ∃ u, Does (.chk c f) s u ∧ rd u c f.d.toNat = 0 ∧ u.fcr = s.fcr ∧ u.nvs = s.nvs) ∧
    (railStale s t i = false → (railOf s c.val i).cls = .fault →
      ((seqOf s c.val).st = .up ∨ (seqOf s c.val).st = .down) →
      ∃ u, Does (.chk c f) s u ∧ (seqOf u c.val).st = .unwind ∧ (seqOf u c.val).unwFault = true ∧ (u.cx c.val).rel = none ∧
        u.snapSeq = s.snapSeq + 1 ∧ (parm u t 1).bits 31 28 = 1 ∧ (parm u t 1).bits 23 16 = i) := by
  intro t i
  have hi : i < 8 := Nat.mod_lt _ (by decide)
  have hu := does_of_engine (i := .chk c f) h rfl
  have hst : ∀ k, railStale (after s c (wordE 0x74 f) f.ext r id) r.prog k = railStale s r.prog k := fun _ => rfl
  have hrail : ∀ k, railOf (after s c (wordE 0x74 f) f.ext r id) c.val k = railOf s c.val k := railOf_congr (seqOf_after ..)
  simp only [wordE_x, wordE_d, insnOf_ext, hx, Nat.reduceEqDiff, decide_false, Bool.false_and, Bool.false_eq_true, if_false,
    classCode, hst, hrail, seqOf_after] at hu
  have hrd : ∀ v, rd (seqOut c.val f.d.toNat v (after s c (wordE 0x74 f) f.ext r id)) c f.d.toNat = v := fun v => by
    rw [rd_S hs, seqOut, State.modCx_cx_val]
    exact vat_setReg_self f.d.isLt (by simp [hs]) v _
  refine ⟨fun ht => ?_, fun ht hok => ?_, fun ht hflt hud => ?_⟩
  · simp only [show railStale s r.prog (f.x.toNat % 8) = true from ht, if_true] at hu
    exact ⟨_, hu, hrd _, rfl⟩
  · simp only [show railStale s r.prog (f.x.toNat % 8) = false from ht, show (railOf s c.val (f.x.toNat % 8)).cls = .ok from hok,
      Bool.false_eq_true, if_false] at hu
    exact ⟨_, hu, hrd _, rfl, rfl⟩
  · have hd : ((seqOf s c.val).st == .up || (seqOf s c.val).st == .down) = true := by
      rcases hud with h | h <;> rw [h] <;> rfl
    simp only [show railStale s r.prog (f.x.toNat % 8) = false from ht, show (railOf s c.val (f.x.toNat % 8)).cls = .fault from hflt,
      hd, Bool.false_eq_true, if_false, decide_true, Bool.true_and, if_true] at hu
    exact ⟨_, hu, faultReact_effect (s := after s c (wordE 0x74 f) f.ext r id) (rail := some i) hw (by decide)
      (Nat.lt_trans hi (by decide)) (by decide) c r.prog⟩

end

/-- Settles O23. -/
theorem sequenceRails : Obligations.SequenceRails := fun _ _ _ hw hs =>
  ⟨fun _ h => en_effect hw h, fun _ h hr => dis_effect hw h hr, fun _ h => setref_effect hs hw h,
    fun _ h hx => chk_effect hs hw h hx⟩

end Sys2Proof.Claims
end

section
/-!
PROOF. RETRY, MARK, SEND, AWAIT and LOG, and the events of a sequence (R159, R161, R162, R166, R167, R170, R171, R175).
-/
namespace Sys2Proof.Claims
open Sys2Proof Sys2Proof.Machine

section
variable {s u : State} {c : Ctx} {w ext : W} {r : Rel} {i : Instr} {t : Task}

/-! Instructions. -/

/-- RETRY in FAULT with a retry left (R167). -/
theorem retry_taken {f : EForm} (h : At s c (wordE 0x77 f) f.ext r)
    (hst : (seqOf s c.val).st = .fault) (hfrom : (parm s r.prog 1).bits 27 24 = 1 ∨ (parm s r.prog 1).bits 27 24 = 2)
    (hleft : (seqOf s c.val).retries < f.x.toNat % 16) : ∃ u, Does (.retry c f) s u ∧
      (seqOf u c.val).st = .retryWait ∧ (seqOf u c.val).retries = (seqOf s c.val).retries + 1 ∧ (u.cx c.val).rel = none ∧
      (seqOf u c.val).retryLeft = (insnOf (wordE 0x77 f) f.ext).timeSteps ∧ (seqOf u c.val).runs = false := by
  have hu := does_of_engine (i := .retry c f) h rfl
  have hp : parm (after s c (wordE 0x77 f) f.ext r id) r.prog 1 = parm s r.prog 1 := rfl
  have hf : ((parm s r.prog 1).bits 27 24 == 1 || (parm s r.prog 1).bits 27 24 == 2) = true := by
    rcases hfrom with h | h <;> rw [h] <;> rfl
  simp only [wordE_x, seqOf_after, hp, hst, hf, hleft, decide_true, Bool.and_true, if_true] at hu
  obtain ⟨v, hv⟩ : ∃ v, v = (if (parm s r.prog 1).bits 23 16 < 8 then
      counterAsk (railCounter (modSeq c.val (fun q => { q with retries := q.retries + 1 }) (after s c (wordE 0x77 f) f.ext r id))
        r.prog ((parm s r.prog 1).bits 23 16) 2)
        (modSeq c.val (fun q => { q with retries := q.retries + 1 }) (after s c (wordE 0x77 f) f.ext r id))
      else modSeq c.val (fun q => { q with retries := q.retries + 1 }) (after s c (wordE 0x77 f) f.ext r id)) := ⟨_, rfl⟩
  have hvcx : v.ctx = (modSeq c.val (fun q => { q with retries := q.retries + 1 }) (after s c (wordE 0x77 f) f.ext r id)).ctx := by
    rw [hv]
    split
    · obtain ⟨n, e⟩ := counterAsk_eq (railCounter (modSeq c.val (fun q => { q with retries := q.retries + 1 })
        (after s c (wordE 0x77 f) f.ext r id)) r.prog ((parm s r.prog 1).bits 23 16) 2)
        (modSeq c.val (fun q => { q with retries := q.retries + 1 }) (after s c (wordE 0x77 f) f.ext r id))
      rw [e]
    · rfl
  have hvc : v.cx c.val = (modSeq c.val (fun q => { q with retries := q.retries + 1 }) (after s c (wordE 0x77 f) f.ext r id)).cx c.val :=
    congrArg (vat · c.val Context.init) hvcx
  have hvrel : (v.cx c.val).rel = some (past c (wordE 0x77 f) f.ext r) := by rw [hvc, modSeq_rel, after_id_rel]
  have hvq : seqOf v c.val = { seqOf s c.val with retries := (seqOf s c.val).retries + 1 } := by
    rw [seqOf, hvc]
    exact (seqOf_modSeq ..).trans (by rw [seqOf_after])
  rw [← hv] at hu
  refine ⟨_, hu, ?_, ?_, ?_, ?_, ?_⟩
  · rw [seqOf_modSeq, seqOf_seqSet]; rfl
  · rw [seqOf_modSeq, seqOf_seqSet, seqOf_seqYield hvrel, hvq]; rfl
  · rw [modSeq_rel, seqSet_rel, seqYield_rel hvrel]
  · rw [seqOf_modSeq]
  · rw [seqOf_modSeq]

/-- MARK in DOWN with RESUME = 1 (R161). -/
theorem mark_taken {f : BForm} (h : At s c (wordB 0x78 f) 0 r) (hst : (seqOf s c.val).st = .down)
    (hreq : seqReqOn s r.prog = true) (hpres : seqSupPres s r.prog = true) : ∃ u, Does (.mark c f) s u ∧
      (seqOf u c.val).st = .paused ∧ (seqOf u c.val).resume = r.pc + 1 ∧ (seqOf u c.val).runs = false ∧
      (u.cx c.val).rel = none := by
  have hu := does_of_engine (i := .mark c f) h rfl
  have h1 : seqReqOn (after s c (wordB 0x78 f) 0 r id) r.prog = true := hreq
  have h2 : seqSupPres (after s c (wordB 0x78 f) 0 r id) r.prog = true := hpres
  have hrel := after_id_rel s c (wordB 0x78 f) 0 r
  simp only [seqOf_after, hst, h1, h2, decide_true, Bool.and_true, if_true] at hu
  refine ⟨_, hu, ?_, ?_, ?_, ?_⟩
  · rw [seqOf_modSeq, seqOf_seqSet]; rfl
  · rw [seqOf_modSeq, seqOf_seqSet, seqOf_seqYield hrel]; rfl
  · rw [seqOf_modSeq]
  · rw [modSeq_rel, seqSet_rel, seqYield_rel hrel]

/-- SEND (R175, R176, R348). -/
theorem send_effect {f : EForm} (hs : isS c.val = true) (h : At s c (wordE 0x79 f) f.ext r) :
    let j := f.x.toNat % 1024
    (s.prl.role = .standby → Does (.send c f) s (after s c (wordE 0x79 f) f.ext r (plain c f.d.toNat 0))) ∧
    (s.prl.role ≠ .standby → jPresent s j = false →
      Does (.send c f) s (after s c (wordE 0x79 f) f.ext r (plain c f.d.toNat 1))) ∧
    (s.prl.role ≠ .standby → jPresent s j = true → ∃ u, Does (.send c f) s u ∧ rd u c f.d.toNat = 0 ∧
      ∃ p, u.jnb.outQ = s.jnb.outQ ++ [(0x10, BitVec.ofNat 10 j, p)]) := by
  intro j
  have hu := does_of_engine (i := .send c f) h rfl
  have hj : jPresent (after s c (wordE 0x79 f) f.ext r id) (f.x.toNat % 1024) = jPresent s j := rfl
  have hrole : (after s c (wordE 0x79 f) f.ext r id).prl.role = s.prl.role := rfl
  simp only [wordE_x, wordE_d, hj, hrole, seqOut, after_modCx_setReg] at hu
  refine ⟨fun hst => ?_, fun hst hno => ?_, fun hst hyes => ?_⟩
  · rwa [if_pos hst] at hu
  · rwa [if_neg hst, hno, if_neg Bool.false_ne_true] at hu
  · rw [if_neg hst, if_pos hyes] at hu
    refine ⟨_, hu, ?_, _, rfl⟩
    rw [rd_S hs, State.modCx_cx_val]
    exact vat_setReg_self f.d.isLt (by simp [hs]) 0 _

/-- The state that AWAIT waits for, where R51 leaves bit 11 of its field 0. -/
theorem await_want {f : EForm} (h : At s c (wordE 0x7A f) f.ext r) : (f.x.toNat / 1024 % 4 = 1) ↔ f.x.getLsbD 10 = true := by
  obtain ⟨_, hok, _⟩ := h
  have hop : (insnOf (wordE 0x7A f) f.ext).op = 0x7A := wordE_op 0x7A f f.ext
  simp only [insnOk, fieldsOk, hop, wordE_x, Bool.and_eq_true, decide_eq_true_eq] at hok
  obtain ⟨⟨_, ⟨_, hx⟩, _⟩, _⟩ := hok
  rw [← bit_of_toNat_div f.x 10, beq_iff_eq]
  omega

/-- AWAIT (R175). -/
theorem await_effect {f : EForm} (hs : isS c.val = true) (h : At s c (wordE 0x7A f) f.ext r) :
    let want : SeqSt := if f.x.getLsbD 10 then .off else .on
    let dev : JAddr := BitVec.ofNat 10 (f.x.toNat % 1024)
    (slaveState s c.val dev (f.ext.toNat % 65536) = some want → ∃ u, Does (.await c f) s u ∧
      rd u c f.d.toNat = 0 ∧ (seqOf u c.val).wait = .none) ∧
    (slaveState s c.val dev (f.ext.toNat % 65536) = none → (seqOf s c.val).wait = .none → ∃ u, Does (.await c f) s u ∧
      (u.cx c.val).rel = none ∧ (seqOf u c.val).resume = r.pc ∧ (seqOf u c.val).wait ≠ .none) := by
  intro want dev
  obtain ⟨n, hn⟩ := startTimer_eq c (after s c (wordE 0x7A f) f.ext r id)
  have hu := does_of_engine (i := .await c f) h rfl
  have hbits : f.ext.bits 15 0 = f.ext.toNat % 65536 := rfl
  have hslave : slaveState (modSeq c.val (fun q => { q with timer := n }) (after s c (wordE 0x7A f) f.ext r id)) c.val dev
      (f.ext.toNat % 65536) = slaveState s c.val dev (f.ext.toNat % 65536) := by
    unfold slaveState
    rw [seqOf_modSeq, seqOf_after]
  have hwant : (if f.x.toNat / 1024 % 4 = 1 then SeqSt.off else SeqSt.on) = want := by simp only [await_want h]; rfl
  simp only [hn] at hu
  simp only [wordE_d, wordE_x, insnOf_ext, hbits, hwant] at hu
  rw [hslave, seqOf_modSeq, seqOf_after] at hu
  constructor
  · intro hg
    obtain ⟨hd, hwt, _⟩ := waitPass_effect hs f.d.isLt 0
      (modSeq c.val (fun q => { q with timer := n }) (after s c (wordE 0x7A f) f.ext r id))
    rw [if_pos hg] at hu
    exact ⟨_, hu, hd, hwt⟩
  · intro hg hw
    have hrel : ((modSeq c.val (fun q => { q with timer := n }) (after s c (wordE 0x7A f) f.ext r id)).cx c.val).rel =
        some (past c (wordE 0x7A f) f.ext r) := by rw [modSeq_rel, after_id_rel]
    simp only [hg, hw, reduceCtorEq, if_false, decide_false, Bool.false_and, Bool.false_eq_true, ne_eq, not_true_eq_false,
      false_and] at hu
    obtain ⟨hr, _, hq⟩ := seqStay_effect hrel (.await want dev (f.ext.toNat % 65536) f.d.toNat
      (f.x.toNat / 4096 % 2 == 1) (insnOf (wordE 0x7A f) f.ext).timeSteps) r
    exact ⟨_, hu, hr, by rw [hq], by rw [hq]; exact SWait.noConfusion⟩

/-- LOG (R170). -/
theorem log_effect {f : BForm} (h : At s c (wordB 0x7B f) 0 r) : ∃ u, Does (.log c f) s u ∧
    (u.cx c.val).regs = (s.cx c.val).regs ∧ u.shared = s.shared ∧ u.chan = s.chan ∧ u.nvs = s.nvs := by
  refine ⟨_, does_of_engine h rfl, ?_, rfl, rfl, rfl⟩
  rw [State.modRel, State.modCx_cx_val]
  exact after_id_regs ..

/-! Events. -/

/-- An event acts on the task of its context. -/
theorem seqEvent_some (h : seqTask s c.val = some t) (f : Task → State → State) : seqEvent c f s = f t s := by
  simp only [seqEvent, h]

/-- RAIL_CLASS_CHANGE (R162). -/
theorem railClassChange_effect (h : seqTask s c.val = some t) (k : Fin 8) : ∃ u, Does (.railClassChange c k) s u ∧
    u.chan = s.chan ∧ (railOf u c.val k.val).cls =
      (if (railOf s c.val k.val).count + 1 < (railWord s t k.val 0).bits 15 12 then (railOf s c.val k.val).cls
       else (railOf s c.val k.val).cand) := by
  refine ⟨seqEvent c _ s, rfl, ?_⟩
  rw [seqEvent_some h]
  refine ⟨rfl, ?_⟩
  rw [railOf_modRail c k.isLt]
  by_cases hc : (railOf s c.val k.val).cand = (railOf s c.val k.val).cls
  · simp [hc]
  · by_cases hn : (railOf s c.val k.val).count + 1 < (railWord s t k.val 0).bits 15 12 <;> simp [hc, hn, railReport]

/-- WAIT_TIMEOUT at the end of its time (R165, R171). -/
theorem waitTimeout_effect (hs : isS c.val = true) (hm : Memory.wf s.shared = true) (h : seqTask s c.val = some t)
    {kind rail d n : Nat} {level : Int} {tf : Bool} (hw : (seqOf s c.val).wait = .wait kind rail level d tf n) :
    ((seqOf s c.val).timer + 1 < n → Does (.waitTimeout c) s s) ∧
    (n ≤ (seqOf s c.val).timer + 1 → d < 32 → (kind = 0 ∨ tf = false) →
      ∃ u, Does (.waitTimeout c) s u ∧ rd u c d = (if kind = 0 then 0 else 1) ∧ (seqOf u c.val).wait = .none) ∧
    (n ≤ (seqOf s c.val).timer + 1 → kind ≠ 0 → tf = true → (seqOf s c.val).st = .up → rail < 8 →
      ∃ u, Does (.waitTimeout c) s u ∧ (seqOf u c.val).st = .unwind ∧ (parm u t 1).bits 31 28 = 3 ∧
        (parm u t 1).bits 23 16 = rail) := by
  have hu : Does (.waitTimeout c) s (seqEvent c _ s) := rfl
  rw [seqEvent_some h] at hu
  simp only [hw] at hu
  refine ⟨fun hlt => by rwa [if_pos hlt] at hu, fun hge hd hno => ?_, fun hge hk htf hup hr => ?_⟩
  · have hc : (kind != 0 && tf && canFault (seqOf s c.val).st) = false := by rcases hno with h | h <;> simp [h]
    rw [if_neg (Nat.not_lt.2 hge), hc, if_neg Bool.false_ne_true] at hu
    obtain ⟨hrd, hwt, _⟩ := waitPass_effect hs hd (if kind = 0 then 0 else 1) (seqSkip c.val s)
    exact ⟨_, hu, hrd, hwt⟩
  · have hc : (kind != 0 && tf && canFault (seqOf s c.val).st) = true := by simp [hk, htf, hup, canFault]
    rw [if_neg (Nat.not_lt.2 hge), hc, if_pos rfl] at hu
    obtain ⟨hst, _, _, _, hcause, hrail⟩ := faultReact_effect (cause := 3) (jaddr := 0) (rail := some rail) hm (by decide)
      (Nat.lt_trans hr (by decide)) (by decide) c t
    exact ⟨_, hu, hst, hcause, hrail⟩

/-- AWAIT_TIMEOUT at the end of its time (R165, R175). -/
theorem awaitTimeout_effect (hs : isS c.val = true) (hm : Memory.wf s.shared = true) (h : seqTask s c.val = some t)
    {want : SeqSt} {dev : JAddr} {tk d n : Nat} {tf : Bool} (hw : (seqOf s c.val).wait = .await want dev tk d tf n) :
    ((seqOf s c.val).timer + 1 < n → Does (.awaitTimeout c) s s) ∧
    (n ≤ (seqOf s c.val).timer + 1 → d < 32 → tf = false →
      ∃ u, Does (.awaitTimeout c) s u ∧ rd u c d = 1 ∧ (seqOf u c.val).wait = .none) ∧
    (n ≤ (seqOf s c.val).timer + 1 → tf = true → (seqOf s c.val).st = .up →
      ∃ u, Does (.awaitTimeout c) s u ∧ (seqOf u c.val).st = .unwind ∧ (parm u t 1).bits 31 28 = 4) := by
  have hu : Does (.awaitTimeout c) s (seqEvent c _ s) := rfl
  rw [seqEvent_some h] at hu
  simp only [hw] at hu
  refine ⟨fun hlt => by rwa [if_pos hlt] at hu, fun hge hd hno => ?_, fun hge htf hup => ?_⟩
  · rw [if_neg (Nat.not_lt.2 hge), hno, Bool.false_and, if_neg Bool.false_ne_true] at hu
    obtain ⟨hrd, hwt, _⟩ := waitPass_effect hs hd 1 (seqSkip c.val s)
    exact ⟨_, hu, hrd, hwt⟩
  · have hc : (tf && canFault (seqOf s c.val).st) = true := by simp [htf, hup, canFault]
    rw [if_neg (Nat.not_lt.2 hge), hc, if_pos rfl] at hu
    obtain ⟨hst, _, _, _, hcause, _⟩ := faultReact_effect (cause := 4) (jaddr := dev.toNat) (rail := none) hm (by decide)
      (by decide) (Nat.lt_trans dev.isLt (by decide)) c t
    exact ⟨_, hu, hst, hcause⟩

/-- RETRY_DELAY_END (R161 row 13). -/
theorem retryDelayEnd_effect (h : seqTask s c.val = some t) (hst : (seqOf s c.val).st = .retryWait) :
    (1 < (seqOf s c.val).retryLeft → Does (.retryDelayEnd c) s s) ∧
    ((seqOf s c.val).retryLeft ≤ 1 → seqTarget s t = true → ∃ u, Does (.retryDelayEnd c) s u ∧ (seqOf u c.val).st = .up ∧
      (seqOf u c.val).runs = true ∧ (seqOf u c.val).resume = (parm s t 2).bits 15 0) := by
  have hu : Does (.retryDelayEnd c) s (seqEvent c _ s) := rfl
  rw [seqEvent_some h] at hu
  have htgt : seqTarget (modSeq c.val (fun q => { q with retryLeft := 0 }) s) t = seqTarget s t := rfl
  simp only [hst, true_and, htgt] at hu
  refine ⟨fun hgt => by rwa [if_neg (Nat.not_le.2 hgt)] at hu, fun hle ht => ?_⟩
  rw [if_pos hle, if_pos ht, seqUp, seqEntry] at hu
  refine ⟨_, hu, ?_, ?_, ?_⟩
  · rw [seqOf_modSeq, seqOf_seqSet]; rfl
  · rw [seqOf_modSeq]
  · rw [seqOf_modSeq]; rfl

/-- OFF entered with RETRIES cleared (R161). -/
theorem seqOf_seqOffClear (c : Ctx) (t : Task) (s : State) :
    seqOf (seqOffClear c.val t s) c.val = { entered .off (seqOf s c.val) with retries := 0, runs := false } := by
  rw [seqOffClear]
  calc seqOf (seqSync c.val t (modSeq c.val (fun q => { q with retries := 0, runs := false }) (seqSet c.val t .off 0xFF s))) c.val =
      seqOf (modSeq c.val (fun q => { q with retries := 0, runs := false }) (seqSet c.val t .off 0xFF s)) c.val := rfl
    _ = _ := by rw [seqOf_modSeq, seqOf_seqSet]

/-- Unwinding with no rail left ends (R166). -/
theorem unwindEnd_effect (h : seqTask s c.val = some t) (hst : (seqOf s c.val).st = .unwind) (hl : (seqOf s c.val).unwLeft = 1)
    (ho : orderList (parm s t 8) = []) :
    ((seqOf s c.val).unwFault = true → ∃ u, Does (.unwindDelayEnd c) s u ∧ (seqOf u c.val).st = .fault ∧
      (seqOf u c.val).runs = true ∧ (seqOf u c.val).resume = (parm s t 3).bits 15 0) ∧
    ((seqOf s c.val).unwFault = false → ∃ u, Does (.unwindDelayEnd c) s u ∧ (seqOf u c.val).st = .off ∧
      (seqOf u c.val).retries = 0) := by
  have hu : Does (.unwindDelayEnd c) s (seqEvent c _ s) := rfl
  have hp : ∀ a, parm (modSeq c.val (fun q => { q with unwLeft := q.unwLeft - 1 }) s) t a = parm s t a := fun _ => rfl
  have hwork : unwindWork c.val t s = modSeq c.val (fun q => { q with unwLeft := q.unwLeft - 1 }) s := by
    simp only [unwindWork, hst, if_true, seqOf_modSeq, hl, hp, ho]
    rfl
  have hdone : unwound (modSeq c.val (fun q => { q with unwLeft := q.unwLeft - 1 }) s) c.val t = true := by
    simp only [unwound, seqOf_modSeq, hst, hp, ho, hl]
    rfl
  rw [seqEvent_some h] at hu
  simp only [hst, hl, decide_true, Bool.and_true, if_true, hwork, unwindEnd, hdone, seqOf_modSeq] at hu
  refine ⟨fun hf => ?_, fun hf => ?_⟩
  · rw [hf, if_pos rfl, seqEntry] at hu
    refine ⟨_, hu, ?_, ?_, ?_⟩
    · rw [seqOf_modSeq, seqOf_seqSet]; rfl
    · rw [seqOf_modSeq]
    · rw [seqOf_modSeq]; rfl
  · rw [hf, if_neg Bool.false_ne_true] at hu
    exact ⟨_, hu, by rw [seqOf_seqOffClear]; rfl, by rw [seqOf_seqOffClear]⟩

/-- UNWIND_DELAY_END before the end (log entry 9). -/
theorem unwindDelayEnd_early (h : seqTask s c.val = some t) (hl : (seqOf s c.val).unwLeft ≠ 1) : Does (.unwindDelayEnd c) s s := by
  have hu : Does (.unwindDelayEnd c) s (seqEvent c _ s) := rfl
  rw [seqEvent_some h] at hu
  simpa only [hl, decide_false, Bool.and_false, Bool.false_eq_true, if_false] using hu

/-- The request and supply bits of a sequence after word 0 is rewritten (R159). -/
theorem seqWord0_bits (hm : Memory.wf s.shared = true) (c : Nat) (t : Task) (req ok pres : Bool) :
    seqReqOn (seqWord0 c t req ok pres s) t = req ∧ seqSupOk (seqWord0 c t req ok pres s) t = ok ∧
      seqSupPres (seqWord0 c t req ok pres s) t = pres := by
  simp only [seqWord0_eq, seqReqOn, seqSupOk, seqSupPres, parm_parmPut hm]
  exact ⟨requestWord_req .., requestWord_ok .., requestWord_pres ..⟩

/-- SUPPLY_LOSS (R159). -/
theorem supplyLoss_effect (hm : Memory.wf s.shared = true) (h : seqTask s c.val = some t) :
    (seqSupUsed s t = true → (parm s t 6).bits 31 16 ≤ (seqOf s c.val).lossSteps + 1 → ∃ u, Does (.supplyLoss c) s u ∧
      seqSupOk u t = false ∧ seqReqOn u t = seqReqOn s t ∧ u.chan = s.chan) ∧
    ((seqOf s c.val).lossSteps + 1 < (parm s t 6).bits 31 16 → Does (.supplyLoss c) s s) := by
  have hu : Does (.supplyLoss c) s (seqEvent c _ s) := rfl
  rw [seqEvent_some h] at hu
  obtain ⟨hreq, hok, _⟩ := seqWord0_bits hm c.val t (seqReqOn s t) false (seqSupPres s t)
  refine ⟨fun hused hle => ?_, fun hlt => ?_⟩
  · simp only [hused, hle, decide_true, Bool.and_true, if_true] at hu
    exact ⟨_, hu, hok, hreq, rfl⟩
  · simpa only [Nat.not_le.2 hlt, decide_false, Bool.and_false, Bool.false_eq_true, if_false] using hu

/-- SUPPLY_QUALIFIED (R159). -/
theorem supplyQualified_effect (hm : Memory.wf s.shared = true) (h : seqTask s c.val = some t) :
    (seqSupUsed s t = true → (parm s t 6).bits 15 0 * 1000 ≤ (seqOf s c.val).returnSteps + 1 → ∃ u, Does (.supplyQualified c) s u ∧
      seqSupOk u t = true ∧ seqReqOn u t = seqReqOn s t ∧ u.chan = s.chan) ∧
    ((seqOf s c.val).returnSteps + 1 < (parm s t 6).bits 15 0 * 1000 → Does (.supplyQualified c) s s) := by
  have hu : Does (.supplyQualified c) s (seqEvent c _ s) := rfl
  rw [seqEvent_some h] at hu
  obtain ⟨hreq, hok, _⟩ := seqWord0_bits hm c.val t (seqReqOn s t) true (seqSupPres s t)
  refine ⟨fun hused hle => ?_, fun hlt => ?_⟩
  · simp only [hused, hle, decide_true, Bool.and_true, if_true] at hu
    exact ⟨_, hu, hok, hreq, rfl⟩
  · simpa only [Nat.not_le.2 hlt, decide_false, Bool.and_false, Bool.false_eq_true, if_false] using hu

/-- RETRIES_CLEAR (R161). -/
theorem retriesClear_effect (h : seqTask s c.val = some t) :
    ((seqOf s c.val).st = .on → 100000 ≤ (seqOf s c.val).onSteps + 1 → ∃ u, Does (.retriesClear c) s u ∧
      (seqOf u c.val).retries = 0 ∧ (seqOf u c.val).st = .on) ∧
    ((seqOf s c.val).onSteps + 1 < 100000 → Does (.retriesClear c) s s) := by
  have hu : Does (.retriesClear c) s (seqEvent c _ s) := rfl
  rw [seqEvent_some h] at hu
  have hq : seqOf (seqSync c.val t (modSeq c.val (fun q => { q with retries := 0 }) s)) c.val =
      { seqOf s c.val with retries := 0 } :=
    seqOf_modSeq s c fun q => { q with retries := 0 }
  refine ⟨fun hon hge => ?_, fun hlt => by rwa [if_neg fun hh => absurd hh.2 (Nat.not_le.2 hlt)] at hu⟩
  rw [if_pos ⟨hon, hge⟩] at hu
  exact ⟨_, hu, by rw [hq], by rw [hq]; exact hon⟩

end

/-- Settles O25. -/
theorem sequenceRetryAndEvents : Obligations.SequenceRetryAndEvents := by
  refine ⟨?instrs, ?events⟩
  case instrs =>
    intro s c r hs t q
    refine ⟨fun f h _ => ⟨fun h1 h2 h3 => retry_taken h h1 h2 h3, ?retry⟩, fun f h => ⟨fun h1 h2 h3 => mark_taken h h1 h2 h3, ?mark⟩,
      fun f h => send_effect hs h, fun f h => await_effect hs h, fun f h => log_effect h⟩
    case retry =>
      intro hno
      refine does_of_engine_same h rfl (if_neg ?_)
      simp only [wordE_x, seqOf_after, Bool.and_eq_true, decide_eq_true_eq, Bool.or_eq_true, beq_iff_eq]
      rintro ⟨⟨hst, hfrom⟩, hlt⟩
      rcases hno with h1 | ⟨h2, h3⟩ | h4
      · exact h1 hst
      · exact hfrom.elim h2 h3
      · exact absurd hlt (Nat.not_lt.2 h4)
    case mark =>
      intro hno
      refine does_of_engine_same h rfl (if_neg ?_)
      simp only [seqOf_after, Bool.and_eq_true, decide_eq_true_eq]
      rintro ⟨⟨hst, hreq⟩, hpres⟩
      rcases hno with h1 | h2 | h3
      · exact h1 hst
      · exact Bool.false_ne_true (h2.symm.trans hreq)
      · exact Bool.false_ne_true (h3.symm.trans hpres)
  case events =>
    intro s c t h hm hs q
    refine ⟨fun k => railClassChange_effect h k, fun kind rail level d tf n hw => (waitTimeout_effect hs hm h hw).1,
      fun kind rail level d tf n hw h1 h2 h3 => (waitTimeout_effect hs hm h hw).2.1 h1 h2 h3,
      fun kind rail level d n hw h1 h2 h3 h4 => (waitTimeout_effect hs hm h hw).2.2 h1 h2 rfl h3 h4,
      fun want dev tk d tf n hw => (awaitTimeout_effect hs hm h hw).1,
      fun want dev tk d n hw h1 h2 => (awaitTimeout_effect hs hm h hw).2.1 h1 h2 rfl,
      fun want dev tk d n hw h1 h2 => (awaitTimeout_effect hs hm h hw).2.2 h1 rfl h2,
      fun h1 => (retryDelayEnd_effect h h1).1, fun h1 => (retryDelayEnd_effect h h1).2,
      fun h1 h2 h3 h4 => (unwindEnd_effect h h1 h2 h4).1 h3, fun h1 h2 h3 h4 => (unwindEnd_effect h h1 h2 h4).2 h3,
      fun _ h2 => unwindDelayEnd_early h h2, (supplyLoss_effect hm h).1, (supplyLoss_effect hm h).2,
      (supplyQualified_effect hm h).1, (supplyQualified_effect hm h).2, (retriesClear_effect h).1, (retriesClear_effect h).2⟩

end Sys2Proof.Claims
end

section
/-!
PROOF. The alignment of the clock (R22, R24 to R29).
-/
namespace Sys2Proof.Claims
open Sys2Proof Sys2Proof.Machine

section
variable {s : State}

/-! An occurrence whose code is free. -/

/-- An uncorrectable occurrence with a free code has been raised. -/
theorem raised_raiseC_uc {src : Nat} (hk : srcKind src ≠ 2) (s : State) (ctx task : Nat) :
    ∃ code, raised (s.raiseC src .uc ctx task) src .uc code := ⟨_, raised_raise hk _ .uc _ _ ctx task⟩

/-- A fatal occurrence with a free code has been raised. -/
theorem raised_raiseC_fe {src : Nat} (hk : srcKind src ≠ 2) (s : State) (ctx task : Nat) :
    ∃ code, raised (s.raiseC src .fe ctx task) src .fe code := ⟨_, raised_raise hk _ .fe _ _ ctx task⟩

/-- A correctable occurrence with a free code has been raised, in the class that its configuration promotes it to (R377). -/
theorem raised_raiseC {src : Nat} (hk : srcKind src ≠ 2) (s : State) (cls : EvClass) (ctx task : Nat) :
    ∃ cl code, raised (s.raiseC src cls ctx task) src cl code := ⟨_, _, raised_raise hk _ cls _ _ ctx task⟩

/-- A bit set is read back. -/
@[simp] theorem bitPut_getLsbD_self {n : Nat} (v : BitVec n) {i : Nat} (h : i < n) (b : Bool) : (bitPut v i b).getLsbD i = b := by
  cases b <;> simp [bitPut, h]

/-! The time step. -/

theorem openBlk_clk (t : Nat) (s : State) : (openBlk t s).clk = s.clk := by
  unfold openBlk
  split
  · rfl
  · dsimp only
    split
    · exact State.raiseC_clk ..
    · rfl

theorem rowsAgain_clk (s : State) : (rowsAgain s).clk = s.clk := by
  unfold rowsAgain
  dsimp only
  split
  · rw [openBlk_clk, openBlk_clk, openBlk_clk]
    rfl
  · rfl

/-- One step of time to the reference (R27). -/
theorem timeStep_effect (ref : BitVec 64) (s : State) : (timeStep ref s).clk.ts = 50 * ref ∧
    (timeStep ref s).clk.tc = ref.setWidth 48 ∧ (timeStep ref s).clk.notAligned = false ∧
    (timeStep ref s).clk.mon.getLsbD 6 = true ∧ ∃ code, raised (timeStep ref s) 972 .uc code := by
  refine ⟨?_, ?_, ?_, ?_, _, raised_raise (by decide) _ .uc _ _ _ _⟩
  all_goals
    unfold timeStep
    dsimp only
    rw [State.raise_clk]
    simp only [ctuMon, note, rowsAgain_clk]
  exact bitPut_getLsbD_self _ (by decide) true

/-- The alignment source (R28). -/
theorem alignFail_effect (s : State) : (alignFail s).clk = { s.clk with mon := bitPut s.clk.mon 5 true } ∧
    ∃ code, raised (alignFail s) 972 .uc code :=
  ⟨State.raiseC_clk .., raised_raiseC_uc (by decide) ..⟩

/-! Rows of the clock. -/

/-- SYNC_MEASURE while the device follows a reference (R24, R26 to R28). -/
theorem syncMeasure_effect (hrun : clockRuns s = true) (raw : Int) (ref : BitVec 64) (hx : s.clk.refsel ≠ .xtal) :
    ((raw + pathDelay s).natAbs ≤ 250000 → s.clk.notAligned = false →
      Does (.syncMeasure raw ref) s { s with clk := { s.clk with offs := (raw + pathDelay s) :: s.clk.offs } }) ∧
    (250000 < (raw + pathDelay s).natAbs → s.clk.released = false →
      ∃ u, Does (.syncMeasure raw ref) s u ∧ u.clk.ts = 50 * ref ∧ u.clk.tc = ref.setWidth 48 ∧ u.clk.notAligned = false ∧
        u.clk.mon.getLsbD 6 = true ∧ ∃ code, raised u 972 .uc code) ∧
    (250000 < (raw + pathDelay s).natAbs → s.clk.released = true → s.clk.notAligned = false →
      ∃ u, Does (.syncMeasure raw ref) s u ∧ u.clk.notAligned = true ∧ u.clk.ts = s.clk.ts ∧ u.clk.tc = s.clk.tc ∧
        u.clk.mon.getLsbD 5 = true ∧ ∃ code, raised u 972 .uc code) := by
  have hu : Does (.syncMeasure raw ref) s (syncMeasure raw ref s) := rfl
  have hc : (clockRuns s && s.clk.refsel != .xtal) = true := by simp [hrun, hx]
  rw [syncMeasure, if_pos hc, offsetMeasured] at hu
  refine ⟨fun hle hal => ?_, fun hgt hrel => ?_, fun hgt hrel hal => ?_⟩
  · simpa [Nat.not_lt.2 hle, hal] using hu
  · simp only [hgt, hrel, decide_true, Bool.true_or, Bool.not_false, if_true] at hu
    exact ⟨_, hu, timeStep_effect _ _⟩
  · simp only [hgt, hrel, hal, decide_true, Bool.true_or, Bool.not_true, Bool.false_eq_true, if_true, if_false] at hu
    refine ⟨_, hu, ?_, ?_, ?_, ?_, (alignFail_effect _).2⟩ <;> rw [(alignFail_effect _).1]
    exact bitPut_getLsbD_self _ (by decide) true

/-- Epochs in a row outside ±40 ns after this one (R28). -/
def outAfter (k : Clk) : Nat :=
  if (k.offs.foldl (· + ·) (0 : Int)).natAbs ≤ 40000 * k.offs.length then 0 else k.outEpochs + 1

/-- The clock after an epoch boundary with offsets, before the alignment source (R25, R26, R28). -/
def averaged (k : Clk) : Clk :=
  let sum : Int := k.offs.foldl (· + ·) 0
  { k with
    alignValid := true, alignOffset := satOffset (offsMean k.offs), aligned := decide (outAfter k = 0), outEpochs := outAfter k
    offs := []
    nudges := if sum.natAbs > 210 * k.offs.length then k.nudges + 1 else k.nudges
    nudgeDir := if sum.natAbs > 210 * k.offs.length then (if sum > 0 then -1 else 1) else 0 }

theorem alignEpoch_eq (hrun : clockRuns s = true) (ho : s.clk.offs ≠ []) : alignEpoch s =
    if outAfter s.clk = 10 && !s.clk.notAligned then alignFail { s with clk := averaged s.clk }
    else { s with clk := averaged s.clk } := by
  have he : ¬ s.clk.offs.isEmpty = true := by simpa using ho
  have h : alignEpoch s = if clockRuns s = true then (if s.clk.offs.isEmpty = true then _ else
      if outAfter s.clk = 10 && !s.clk.notAligned then alignFail { s with clk := averaged s.clk }
      else { s with clk := averaged s.clk }) else s := rfl
  rw [h, if_pos hrun, if_neg he]

/-- The clock after an epoch boundary with offsets: its monitors alone differ with ALIGN_FAIL. -/
theorem alignEpoch_clk (hrun : clockRuns s = true) (ho : s.clk.offs ≠ []) :
    ∃ mon, (alignEpoch s).clk = { averaged s.clk with mon := mon } := by
  rw [alignEpoch_eq hrun ho]
  split
  · exact ⟨_, (alignFail_effect _).1⟩
  · exact ⟨_, rfl⟩

/-- The tenth epoch outside ±40 ns raises ALIGN_FAIL (R28). -/
theorem alignEpoch_fails (hrun : clockRuns s = true) (ho : s.clk.offs ≠ []) (h10 : outAfter s.clk = 10)
    (hal : s.clk.notAligned = false) :
    (alignEpoch s).clk.mon.getLsbD 5 = true ∧ ∃ code, raised (alignEpoch s) 972 .uc code := by
  rw [alignEpoch_eq hrun ho, if_pos (by simp [h10, hal])]
  refine ⟨?_, (alignFail_effect _).2⟩
  rw [(alignFail_effect _).1]
  exact bitPut_getLsbD_self _ (by decide) true

/-- A reference selected (R21, R29). -/
theorem setRef_effect (src : RefSel) (s : State) : (setRef src s).clk.refsel = src ∧ (setRef src s).clk.holdover = false ∧
    (setRef src s).clk.ts = s.clk.ts ∧ (setRef src s).clk.alignEn = s.clk.alignEn := by
  unfold setRef
  split
  next h =>
    simp only [Bool.and_eq_true, decide_eq_true_eq, Bool.not_eq_true'] at h
    exact ⟨h.1, h.2, rfl, rfl⟩
  next => exact ⟨rfl, rfl, rfl, rfl⟩

/-- The loss of the reference (R29). -/
theorem refLost_effect (s : State) : (refLost s).clk =
      { s.clk with refsel := .xtal, holdover := true, offs := [], alignValid := false, mon := bitPut s.clk.mon 4 true } ∧
    ∃ cl code, raised (refLost s) 971 cl code :=
  ⟨State.raiseC_clk .., raised_raiseC (by decide) ..⟩

end

/-- Settles O27. -/
theorem clockAlignment : Obligations.ClockAlignment := by
  intro s hrun sum
  refine ⟨fun raw ref hx => (syncMeasure_effect hrun raw ref hx).1, fun raw ref hx => (syncMeasure_effect hrun raw ref hx).2.1,
    fun raw ref hx => (syncMeasure_effect hrun raw ref hx).2.2, fun raw ref hx => ?xtal, fun h0 ho => ?nudge, fun h0 => ?off,
    fun h0 ho h9 hbig hal => ?fail, fun hx => ?lost, fun src hx hw => ?back, fun src hw => ?unwanted⟩
  case xtal =>
    have hu : Does (.syncMeasure raw ref) s (syncMeasure raw ref s) := rfl
    rwa [syncMeasure, hx, if_neg (by simp)] at hu
  case nudge =>
    have hu : Does .alignNudge s (if s.tcMod 2000 = 0 && !s.clk.offs.isEmpty then alignEpoch s else s) := rfl
    rw [if_pos (by simp [State.tcMod, h0, ho])] at hu
    obtain ⟨mon, e⟩ := alignEpoch_clk hrun ho
    exact ⟨_, hu, by rw [e]; rfl, by rw [e]; rfl, by rw [e]; rfl, by rw [e]; rfl, by rw [e]; rfl,
      fun hle => ⟨by rw [e]; exact decide_eq_true (if_pos hle), by rw [e]; exact if_pos hle⟩⟩
  case off =>
    have hu : Does .alignNudge s (if s.tcMod 2000 = 0 && !s.clk.offs.isEmpty then alignEpoch s else s) := rfl
    have hv : Does .alignFail s (if s.tcMod 2000 = 0 && !s.clk.offs.isEmpty && s.clk.outEpochs = 9 then alignEpoch s else s) := rfl
    rw [if_neg (by simp [State.tcMod, h0])] at hu hv
    exact ⟨hu, hv⟩
  case fail =>
    have hu : Does .alignFail s (if s.tcMod 2000 = 0 && !s.clk.offs.isEmpty && s.clk.outEpochs = 9 then alignEpoch s else s) := rfl
    rw [if_pos (by simp [State.tcMod, h0, ho, h9])] at hu
    obtain ⟨mon, e⟩ := alignEpoch_clk hrun ho
    have h10 : outAfter s.clk = 10 := by rw [outAfter, if_neg (Nat.not_le.2 hbig), h9]
    refine ⟨_, hu, ?_, alignEpoch_fails hrun ho h10 hal⟩
    rw [e]
    exact decide_eq_false (by rw [h10]; decide)
  case lost =>
    have hu : Does .refLost s (if clockRuns s && s.clk.refsel != .xtal then refLost s else s) := rfl
    rw [if_pos (by simp [hrun, hx])] at hu
    obtain ⟨e, hr⟩ := refLost_effect s
    refine ⟨_, hu, ?_, ?_, ?_, ?_, hr⟩ <;> rw [e]
    exact bitPut_getLsbD_self _ (by decide) true
  case back =>
    have hu : Does (.refReturn src) s (if clockRuns s && src != .xtal && refWanted s == src then setRef src s else s) := rfl
    rw [if_pos (by simp [hrun, hx, hw])] at hu
    obtain ⟨hsel, hhold, hts, _⟩ := setRef_effect src s
    exact ⟨_, hu, hsel, hhold, hts⟩
  case unwanted =>
    have hu : Does (.refReturn src) s (if clockRuns s && src != .xtal && refWanted s == src then setRef src s else s) := rfl
    rwa [if_neg (by simp [hw])] at hu

end Sys2Proof.Claims
end

section
/-!
PROOF. The thermal model's evaluation and the ledgers (R276 to R305).
-/
namespace Sys2Proof.Claims
open Sys2Proof Sys2Proof.Machine

section
variable {s u v : State} {n : Nat}

/-! What judging a channel's limits and band changes. -/

/-- An update of a thermal model that leaves its nodes, its loss and whether it runs. -/
def KeepsNodes (g : Therm → Therm) : Prop :=
  ∀ x, (g x).t = x.t ∧ (g x).loss = x.loss ∧ (g x).run = x.run ∧ (g x).fresh = x.fresh

/-- `u` is `s` with limits or the band of channel `n` judged: of the thermal models only channel `n`'s has changed, its nodes have not,
and occurrences, notes and status latches stand beside it. -/
def Judged (n : Nat) (s u : State) : Prop :=
  ∃ g k m b t f r, KeepsNodes g ∧ u = { s.modTh n g with kio := k, host := m, bbr := b, twp := t, fcr := f, fresh := r }

theorem modTh_id (n : Nat) (s : State) : s.modTh n id = s := by
  rw [State.modTh, vmod_id _ _ _ Therm.init fun _ => rfl]

theorem judged_self (n : Nat) (s : State) : Judged n s s :=
  ⟨id, s.kio, s.host, s.bbr, s.twp, s.fcr, s.fresh, fun _ => ⟨rfl, rfl, rfl, rfl⟩, by rw [modTh_id]⟩

theorem Judged.trans (h : Judged n s u) (h' : Judged n u v) : Judged n s v := by
  obtain ⟨g, k, m, b, t, f, r, hg, rfl⟩ := h
  obtain ⟨g', k', m', b', t', f', r', hg', rfl⟩ := h'
  refine ⟨fun x => g' (g x), k', m', b', t', f', r', fun x => ?_, ?_⟩
  · obtain ⟨h1, h2, h3, h4⟩ := hg x
    obtain ⟨i1, i2, i3, i4⟩ := hg' (g x)
    exact ⟨i1.trans h1, i2.trans h2, i3.trans h3, i4.trans h4⟩
  · simp only [State.modTh, vmod_vmod]

theorem judged_modTh {g : Therm → Therm} (hg : KeepsNodes g) (n : Nat) (s : State) : Judged n s (s.modTh n g) :=
  ⟨g, s.kio, s.host, s.bbr, s.twp, s.fcr, s.fresh, hg, rfl⟩

theorem judged_raise (n : Nat) (s : State) (src : Nat) (cls : EvClass) (code : Nat) (p : W) :
    Judged n s (s.raise src cls code p) := by
  obtain ⟨k, m, t, h, c, w, r, e⟩ := s.raise_eq src cls code p 0x1FF 0xFFFF
  exact ⟨id, k, m, s.bbr, t, _, s.fresh, fun _ => ⟨rfl, rfl, rfl, rfl⟩, by rw [e, modTh_id]⟩

theorem judged_raiseP (n : Nat) (s : State) (src : Nat) (cls : EvClass) (code : Nat) : Judged n s (s.raiseP src cls code) :=
  Judged.trans (u := { s with fresh := s.fresh + 1 })
    ⟨id, s.kio, s.host, s.bbr, s.twp, s.fcr, _, fun _ => ⟨rfl, rfl, rfl, rfl⟩, by rw [modTh_id]⟩ (judged_raise ..)

theorem judged_judgeLimit (n k grp : Nat) (x limit : W) (s : State) : Judged n s (judgeLimit n k grp x limit s) := by
  unfold judgeLimit
  dsimp only
  have hkeep := judged_modTh (n := n) (s := s) (g := fun x' => { x' with
    raised := (fun r : BitVec 16 => if fge x limit then bitPut r (4 * grp + k) true
      else if (if grp < 2 then fle x (fsub limit kelvin3) else flt x (fmul limit fHalf)) then bitPut r (4 * grp + k) false else r) x'.raised
    awarn := if grp = 0 then bitPut x'.awarn k (fge x limit) else x'.awarn
    afault := if grp = 1 then bitPut x'.afault k (fge x limit) else x'.afault
    rwarn := if grp = 2 then bitPut x'.rwarn k (fge x limit) else x'.rwarn
    rfault := if grp = 3 then bitPut x'.rfault k (fge x limit) else x'.rfault }) fun _ => ⟨rfl, rfl, rfl, rfl⟩
  split
  · split
    · exact hkeep.trans (judged_raise ..)
    · exact hkeep.trans (judged_raise ..)
    · exact hkeep.trans (judged_raiseP ..)
    · exact hkeep.trans (judged_raiseP ..)
  · exact hkeep

theorem judged_foldl {f : State → Nat → State} (hf : ∀ s k, Judged n s (f s k)) (l : List Nat) (s : State) :
    Judged n s (l.foldl f s) := by
  induction l generalizing s with
  | nil => exact judged_self n s
  | cons k l ih => exact (hf s k).trans (ih _)

theorem judged_twLatch (n : Nat) (bits : BitVec 8) (tb : BitVec 2) (s : State) : Judged n s (twLatch n bits tb s) := by
  unfold twLatch
  split
  · exact judged_self n s
  · exact ⟨id, s.kio, s.host, s.bbr, _, s.fcr, s.fresh, fun _ => ⟨rfl, rfl, rfl, rfl⟩, by rw [modTh_id]⟩

theorem judged_judgeLimits (n : Nat) (b : List W) (s : State) : Judged n s (judgeLimits n b s) := by
  unfold judgeLimits
  dsimp only
  refine Judged.trans ?_ (judged_twLatch ..)
  have hfirst := judged_foldl (n := n) (s := s) (l := List.range 4) (f := fun s' k =>
    judgeLimit n k 1 (vat (vat s.tmu.ch n Therm.init).t k 0) (lat b (20 + k) 0)
      (judgeLimit n k 0 (vat (vat s.tmu.ch n Therm.init).t k 0) (lat b (16 + k) 0) s'))
    fun s' k => (judged_judgeLimit ..).trans (judged_judgeLimit ..)
  split
  · exact hfirst.trans (judged_foldl (fun s' k => (judged_judgeLimit ..).trans (judged_judgeLimit ..)) _ _)
  · exact hfirst

theorem judged_judgeBand (n : Nat) (b : List W) (s : State) : Judged n s (judgeBand n b s) := by
  unfold judgeBand
  dsimp only
  have hband := judged_modTh (n := n) (s := s) (g := fun x => { x with
    band := bandFall b (vat (vat s.tmu.ch n Therm.init).t 0 0) 3
      (bandRise b (vat (vat s.tmu.ch n Therm.init).t 0 0) 3 (vat s.tmu.ch n Therm.init).band) }) fun _ => ⟨rfl, rfl, rfl, rfl⟩
  split
  · exact hband
  · exact hband.trans ⟨id, _, _, _, _, _, _, fun _ => ⟨rfl, rfl, rfl, rfl⟩, by rw [modTh_id]; rfl⟩

end

/-! One evaluation. -/

section
variable {s u : State} {n : Nat}

/-- The step of a channel's model (R299, R301). -/
def thermNext (s : State) (n : Nat) (b : List W) (x : Therm) : Therm := if x.fresh then thermStart s n x else thermStep s n b x

/-- The rise of a model that has its stores (R303). -/
def withRise (x : Therm) : Therm :=
  { x with
    rise := if x.rateReady then (List.range 4).foldl (fun m k => if k = 0 then nodeRise x 0 else fmax m (nodeRise x k)) 0 else 0 }

theorem tmuChannel_none (h : (vat s.tmu.ch n Therm.init).blk = none) : tmuChannel s n = s := by simp only [tmuChannel, h]

theorem tmuChannel_some {b : List W} (h : (vat s.tmu.ch n Therm.init).blk = some b) : tmuChannel s n =
    judgeBand n b (judgeLimits n b ((s.modTh n fun x => thermStore s (thermNext s n b x)).modTh n withRise)) := by
  simp only [tmuChannel, h]
  rfl

theorem thermStore_keeps (s : State) : KeepsNodes (thermStore s) := fun x => by
  unfold thermStore
  split <;> exact ⟨rfl, rfl, rfl, rfl⟩

/-- One channel's evaluation: of the thermal models only its own changes, with the nodes of its step. -/
theorem tmuChannel_eq {bl : List W} (h : (vat s.tmu.ch n Therm.init).blk = some bl) :
    ∃ g k m b t f r, tmuChannel s n = { s.modTh n g with kio := k, host := m, bbr := b, twp := t, fcr := f, fresh := r } ∧
      ∀ x, (g x).t = (thermNext s n bl x).t ∧ (g x).loss = (thermNext s n bl x).loss ∧
        (g x).run = (thermNext s n bl x).run ∧ (g x).fresh = (thermNext s n bl x).fresh := by
  obtain ⟨g, k, m, b, t, f, r, hg, e⟩ :=
    (judged_judgeLimits n bl ((s.modTh n fun x => thermStore s (thermNext s n bl x)).modTh n withRise)).trans (judged_judgeBand ..)
  refine ⟨fun x => g (withRise (thermStore s (thermNext s n bl x))), k, m, b, t, f, r, ?_, fun x => ?_⟩
  · rw [tmuChannel_some h, e]
    simp only [State.modTh, vmod_vmod]
  · obtain ⟨h1, h2, h3, h4⟩ := hg (withRise (thermStore s (thermNext s n bl x)))
    obtain ⟨i1, i2, i3, i4⟩ := thermStore_keeps s (thermNext s n bl x)
    exact ⟨h1.trans i1, h2.trans i2, h3.trans i3, h4.trans i4⟩

/-- What the evaluation of some channels leaves of the state. -/
structure Evaluated (l : List Nat) (s u : State) : Prop where
  ctx : u.ctx = s.ctx
  chan : u.chan = s.chan
  link : u.link = s.link
  clg : u.clg = s.clg
  evals : u.tmu.evals = s.tmu.evals
  tamb : u.tmu.tamb = s.tmu.tamb
  due : u.tmu.due = s.tmu.due
  other : ∀ n, n ∉ l → vat u.tmu.ch n Therm.init = vat s.tmu.ch n Therm.init
  none : ∀ n, (vat s.tmu.ch n Therm.init).blk = none → vat u.tmu.ch n Therm.init = vat s.tmu.ch n Therm.init

theorem evaluated_channel (s : State) (n : Nat) : Evaluated [n] s (tmuChannel s n) := by
  cases hb : (vat s.tmu.ch n Therm.init).blk with
  | none =>
    rw [tmuChannel_none hb]
    exact ⟨rfl, rfl, rfl, rfl, rfl, rfl, rfl, fun _ _ => rfl, fun _ _ => rfl⟩
  | some bl =>
    obtain ⟨g, k, m, b, t, f, r, e, _⟩ := tmuChannel_eq hb
    have hne : ∀ j, j ≠ n → vat (tmuChannel s n).tmu.ch j Therm.init = vat s.tmu.ch j Therm.init := fun j hj => by
      rw [e]
      exact vat_vmod_ne _ (Ne.symm hj) _ _
    exact ⟨by rw [e]; rfl, by rw [e]; rfl, by rw [e]; rfl, by rw [e]; rfl, by rw [e]; rfl, by rw [e]; rfl, by rw [e]; rfl,
      fun j hj => hne j (by simpa using hj), fun j hj => hne j fun hjn => by rw [hjn, hb] at hj; cases hj⟩

theorem evaluated_foldl (l : List Nat) (s : State) : Evaluated l s (l.foldl tmuChannel s) := by
  induction l generalizing s with
  | nil => exact ⟨rfl, rfl, rfl, rfl, rfl, rfl, rfl, fun _ _ => rfl, fun _ _ => rfl⟩
  | cons k l ih =>
    have h1 := evaluated_channel s k
    have h2 := ih (tmuChannel s k)
    refine ⟨h2.ctx.trans h1.ctx, h2.chan.trans h1.chan, h2.link.trans h1.link, h2.clg.trans h1.clg, h2.evals.trans h1.evals,
      h2.tamb.trans h1.tamb, h2.due.trans h1.due, fun n hn => ?_, fun n hn => ?_⟩
    · rw [List.mem_cons, not_or] at hn
      exact (h2.other n hn.2).trans (h1.other n (by simpa using hn.1))
    · exact (h2.none n (by rw [h1.none n hn]; exact hn)).trans (h1.none n hn)

/-- The model of one channel after all have been evaluated: its step, from what it was before any. -/
theorem tmu_foldl_channel (hn : n < 192) {bl : List W} (hb : (vat s.tmu.ch n Therm.init).blk = some bl) :
    ∃ v x, Evaluated (List.range n) s v ∧ x = thermNext v n bl (vat s.tmu.ch n Therm.init) ∧
      (vat ((List.range 192).foldl tmuChannel s).tmu.ch n Therm.init).t = x.t ∧
      (vat ((List.range 192).foldl tmuChannel s).tmu.ch n Therm.init).loss = x.loss ∧
      (vat ((List.range 192).foldl tmuChannel s).tmu.ch n Therm.init).run = x.run ∧
      (vat ((List.range 192).foldl tmuChannel s).tmu.ch n Therm.init).fresh = x.fresh := by
  have hsplit : List.range 192 = List.range n ++ n :: (List.range (191 - n)).map (n + 1 + ·) := by
    rw [show 192 = n + (1 + (191 - n)) by omega, List.range_add, List.range_add, List.map_append, List.map_map]
    simp [Function.comp_def, Nat.add_assoc]
  have hv := evaluated_foldl (List.range n) s
  generalize hvd : (List.range n).foldl tmuChannel s = v at hv
  have hmodel : vat v.tmu.ch n Therm.init = vat s.tmu.ch n Therm.init := hv.other n (by simp)
  have hlast := evaluated_foldl ((List.range (191 - n)).map (n + 1 + ·)) (tmuChannel v n)
  have hend : vat ((List.range 192).foldl tmuChannel s).tmu.ch n Therm.init = vat (tmuChannel v n).tmu.ch n Therm.init := by
    rw [hsplit, List.foldl_append, hvd, List.foldl_cons]
    exact hlast.other n (by simp; omega)
  refine ⟨v, _, hv, rfl, ?_⟩
  rw [hend]
  obtain ⟨g, k, m, b, t, f, r, e, hg⟩ := tmuChannel_eq (s := v) (n := n) (bl := bl) (by rw [hmodel]; exact hb)
  have hx : vat (tmuChannel v n).tmu.ch n Therm.init = g (vat s.tmu.ch n Therm.init) := by
    rw [e, ← hmodel]
    exact vat_vmod_self _ hn _ _
  rw [hx]
  exact hg _

/-! The rows. -/

/-- A sensor is a matter of the link's HELLO (R301). -/
theorem hasSensor_congr (h : u.link = s.link) (n : Nat) : hasSensor u n = hasSensor s n := by
  simp only [hasSensor, State.lk, h]

/-- The junction and the ambient node after a step (R299). -/
theorem thermStep_nodes {amb : W} (h : s.tmu.due = some amb) (n : Nat) (b : List W) (x : Therm) :
    (thermStep s n b x).loss = lossMean x.reads ∧
    vat (thermStep s n b x).t 0 0 = fadd (vat x.t 0 0) (fmul (fdiv tmuDt (lat b 8 0))
      (fsub (lossMean x.reads) (fdiv (fsub (vat x.t 0 0) (vat x.t 1 0)) (lat b 4 0)))) ∧
    vat (thermStep s n b x).t 3 0 = fadd (vat x.t 3 0) (fmul (fdiv tmuDt (lat b 11 0))
      (fsub (fdiv (fsub (vat x.t 2 0) (vat x.t 3 0)) (lat b 6 0)) (fdiv (fsub (vat x.t 3 0) amb) (lat b 7 0)))) := by
  have hamb : s.tmu.due.getD s.tmu.tamb = amb := by rw [h]; rfl
  rw [← hamb]
  exact ⟨rfl, rfl, rfl⟩

/-- One evaluation (R299 to R301). -/
theorem tmuEvaluate_effect {amb : W} (hrun : tmuRuns s = true) (hd : s.tmu.due = some amb) :
    let u := tmuEvaluate s
    u.tmu.evals = s.tmu.evals + 1 ∧ u.tmu.run = true ∧ u.tmu.due = none ∧
    u.tmu.tamb = s.tmu.tamb ∧ u.ctx = s.ctx ∧ u.chan = s.chan ∧ u.link = s.link ∧ u.clg = s.clg ∧
    (∀ n : Ch, (th s n).blk = none → th u n = th s n) ∧
    (∀ (n : Ch) b, (th s n).blk = some b → (th s n).fresh = true → hasSensor s n = false →
      (∀ k : Fin 4, vat (th u n).t k.val 0 = amb) ∧ (th u n).run = true ∧ (th u n).fresh = false) ∧
    (∀ (n : Ch) b, (th s n).blk = some b → (th s n).fresh = false → (th s n).ds = [] →
      let t := fun k => vat (th s n).t k 0
      let g := fun k => lat b k 0
      let p := lossMean (th s n).reads
      (th u n).loss = p ∧
      vat (th u n).t 0 0 = fadd (t 0) (fmul (fdiv tmuDt (g 8)) (fsub p (fdiv (fsub (t 0) (t 1)) (g 4)))) ∧
      vat (th u n).t 3 0 = fadd (t 3) (fmul (fdiv tmuDt (g 11))
        (fsub (fdiv (fsub (t 2) (t 3)) (g 6)) (fdiv (fsub (t 3) amb) (g 7))))) := by
  intro u
  obtain ⟨f, hf⟩ : ∃ f, f = (List.range 192).foldl tmuChannel s := ⟨_, rfl⟩
  have hu : u = { f with tmu := { f.tmu with evals := f.tmu.evals + 1, run := true, due := none } } := by
    rw [hf]
    simp only [u, tmuEvaluate, hd, hrun, Option.isSome_some, Bool.and_self, if_true]
  clear_value u
  have hall := evaluated_foldl (List.range 192) s
  rw [← hf] at hall
  have hch := fun (n : Ch) b hb => tmu_foldl_channel (s := s) (n := n.val) n.isLt (bl := b) hb
  simp only [← hf] at hch
  have hth : ∀ n : Ch, th u n = vat f.tmu.ch n.val Therm.init := fun n => by rw [hu]; rfl
  refine ⟨by rw [hu]; exact congrArg (· + 1) hall.evals, by rw [hu], by rw [hu], by rw [hu]; exact hall.tamb,
    by rw [hu]; exact hall.ctx, by rw [hu]; exact hall.chan, by rw [hu]; exact hall.link, by rw [hu]; exact hall.clg,
    fun n hn => by rw [hth]; exact hall.none n.val hn, fun n b hb hfresh hsens => ?_, fun n b hb hfresh hds => ?_⟩
  · obtain ⟨v, x, hv, hx, ht, _, hxrun, hxfresh⟩ := hch n b hb
    have hxs : x = thermStart v n.val (th s n) := by rw [hx, thermNext]; exact if_pos hfresh
    have hnone : sensorLast v n.val = none := by
      rw [sensorLast, hasSensor_congr hv.link, hsens, if_neg Bool.false_ne_true]
    rw [hth, ht, hxrun, hxfresh, hxs, thermStart, hnone, hv.due, hd]
    refine ⟨fun k => ?_, rfl, rfl⟩
    simp [vat, k.isLt]
  · obtain ⟨v, x, hv, hx, ht, hloss, _, _⟩ := hch n b hb
    have hxs : x = thermStep v n.val b (th s n) := by
      rw [hx, thermNext]
      exact if_neg (by rw [show (vat s.tmu.ch n.val Therm.init).fresh = false from hfresh]; decide)
    rw [hth, ht, hloss, hxs]
    exact thermStep_nodes (hv.due.trans hd) n.val b (th s n)

/-- No evaluation is due (R299). -/
theorem tmuEvaluate_idle (h : s.tmu.due = none) : tmuEvaluate s = s := by
  rw [tmuEvaluate, h, Option.isSome_none, Bool.false_and, if_neg Bool.false_ne_true, ← h]

/-- A host write on a SOLO device in RUN has its effect (R358, R470). -/
theorem hostWrite_solo (hc : s.clk.chip = .run) (hr : s.prl.role = .solo) (addr bytes : Nat) (ws : List W) (f : State → State) :
    hostWrite addr bytes ws f s = f s := by simp [hostWrite, hc, hr]

/-- LEDGER_GAP (R277). -/
theorem ledgerGap_effect (s : State) (k : Fin 64) :
    ((vat s.clg k.val Ledger.init).chan.isSome = true → 64 ≤ (vat s.clg k.val Ledger.init).missing → ∃ u, Does (.ledgerGap k) s u ∧
      vat u.clg k.val Ledger.init =
        { vat s.clg k.val Ledger.init with gap := true, gaps := (vat s.clg k.val Ledger.init).gaps + 1 }) ∧
    ((vat s.clg k.val Ledger.init).chan = none ∨ (vat s.clg k.val Ledger.init).missing < 64 →
      ∃ u, Does (.ledgerGap k) s u ∧ u.clg = s.clg) := by
  refine ⟨fun hc hm => ⟨_, rfl, ?_⟩, fun hno => ⟨_, rfl, ?_⟩⟩
  · exact (vat_vmod_self _ k.isLt _ _).trans (if_pos (by simp [hc, hm]))
  · refine vmod_id (f := fun x => if x.chan.isSome && 64 ≤ x.missing then ledgGap x else x) _ _ Ledger.init fun _ => if_neg ?_
    rcases hno with h | h
    · simp [h]
    · simp [Nat.not_le.2 h]

end

/-- Settles O33. -/
theorem thermalAndLedgers : Obligations.ThermalAndLedgers := by
  intro s
  have heval : Does .tmuEvaluation s
      (if tmuRuns s && s.tcMod 100 = 0 && s.tmu.due.isNone then { s with tmu := { s.tmu with due := some s.tmu.tamb } } else s) := rfl
  refine ⟨fun hrun htc hd => ?start, fun hno => ?idle, fun amb hrun hd => tmuEvaluate_effect hrun hd, tmuEvaluate_idle,
    fun v hc hr => ?tamb, fun k => ⟨(ledgerGap_effect s k).1, (ledgerGap_effect s k).2, fun hc => ?qlo, fun hc => ?dormant⟩⟩
  case start => rwa [if_pos (by simp [hrun, State.tcMod, htc, hd])] at heval
  case idle =>
    rwa [if_neg (by rcases hno with h | h <;> simp [State.tcMod, h])] at heval
  case tamb =>
    have hw : Does (.tmuTambWrite v) s (hostWrite 0x54004 4 [v] (tambWrite v) s) := rfl
    rw [hostWrite_solo hc hr, tambWrite] at hw
    exact ⟨fun hf => by rwa [if_pos hf] at hw, fun hf => by rwa [hf, if_neg Bool.false_ne_true] at hw⟩
  case qlo =>
    have hq : Does (.clgQloRead k) s
      (if s.clk.chip = .dormant || s.clk.chip = .reset then s else s.modLg k.val fun x => { x with qHi := hi32 x.q }) := rfl
    rw [if_neg (by simp [hc])] at hq
    exact ⟨_, hq, vat_vmod_self _ k.isLt _ _, rfl, rfl⟩
  case dormant =>
    have hq : Does (.clgQloRead k) s
      (if s.clk.chip = .dormant || s.clk.chip = .reset then s else s.modLg k.val fun x => { x with qHi := hi32 x.q }) := rfl
    rwa [if_pos (by simp [hc])] at hq

end Sys2Proof.Claims
end

section
/-!
PROOF. The straps and the host link (R210, R434, R451).
-/
namespace Sys2Proof.Claims
open Sys2Proof Sys2Proof.Machine

section
variable {s : State}

/-! What an occurrence changes of the kiosk. -/

/-- A message changes the vectors alone. -/
theorem msixSend_kio (v : Nat) (s : State) : ∃ a p m, (msixSend v s).kio = { s.kio with armed := a, msixPend := p, msix := m } := by
  unfold msixSend
  dsimp only
  split
  · split <;> exact ⟨_, _, _, rfl⟩
  · split
    · split <;> exact ⟨_, _, _, rfl⟩
    · exact ⟨_, _, _, rfl⟩

/-- A record changes the vectors, the event ring and its number alone. -/
theorem record_kio (h : HeldRec) (s : State) : ∃ a p m q n, (record h s).kio =
    { s.kio with armed := a, msixPend := p, msix := m, eq := q, evSeq := n } := by
  unfold record recordWrite
  dsimp only
  split
  · split
    · obtain ⟨a, p, m, e⟩ := msixSend_kio 0 (msixSend (vectorOf s h.src h.cls) _)
      obtain ⟨a', p', m', e'⟩ := msixSend_kio (vectorOf s h.src h.cls) _
      exact ⟨a, p, m, _, _, by rw [e, e']⟩
    · obtain ⟨a', p', m', e'⟩ := msixSend_kio (vectorOf s h.src h.cls) _
      exact ⟨a', p', m', _, _, e'⟩
  · exact ⟨_, _, _, _, _, rfl⟩

/-- An occurrence changes the vectors, the event ring and its number alone. -/
theorem raise_kio (s : State) (src : Nat) (cls : EvClass) (code : Nat) (p : W) (ctx task : Nat) : ∃ a b m q n,
    (s.raise src cls code p ctx task).kio = { s.kio with armed := a, msixPend := b, msix := m, eq := q, evSeq := n } := by
  unfold State.raise
  split
  · exact ⟨_, _, _, _, _, rfl⟩
  · dsimp only
    split
    · split
      · exact ⟨_, _, _, _, _, rfl⟩
      · exact record_kio _ _
    · exact ⟨_, _, _, _, _, rfl⟩

theorem raiseC_kio (s : State) (src : Nat) (cls : EvClass) (ctx task : Nat) : ∃ a b m q n,
    (s.raiseC src cls ctx task).kio = { s.kio with armed := a, msixPend := b, msix := m, eq := q, evSeq := n } :=
  raise_kio { s with fresh := s.fresh + 1 + 1 } ..

/-! The straps. -/

/-- The host link trains: of the kiosk its speed and width alone (R210). -/
theorem hostTrain_eq (s : State) : hostTrain s = { s with kio := { s.kio with
    pcieSpeed := if !s.kio.perst && s.boot.latched && s.clk.chip != .reset then 2 else s.kio.pcieSpeed
    pcieLanes := if !s.kio.perst && s.boot.latched && s.clk.chip != .reset then strapLanes s.boot.straps else s.kio.pcieLanes } } := by
  unfold hostTrain
  split <;> rfl

/-- The ROM waits for the host: its stage alone (R436). -/
theorem toWaitHost_eq (s : State) : ∃ n, toWaitHost s = { s with boot := { s.boot with stage := n } } := by
  unfold toWaitHost
  split
  · exact ⟨4, rfl⟩
  · exact ⟨s.boot.stage, rfl⟩

/-- The pair's part of the straps (R451). -/
theorem strapLatch_effect (w : BitVec 24) (hc : s.clk.chip = .reset ∨ s.clk.chip = .boot) (hl : s.boot.latched = false) :
    ∃ u, Does (.strapLatch w) s u ∧
      u.boot.straps = w.extractLsb' 0 16 ∧ u.boot.latched = true ∧
      u.boot.strapBad = ((w.getLsbD 1 && w.getLsbD 2) || (w.getLsbD 3 && w.getLsbD 4) || (w.getLsbD 5 && w.getLsbD 6)) ∧
      (w.getLsbD 1 ≠ w.getLsbD 2 → u.prl.role = .standby ∧ u.prl.pst = .seek ∧ u.prl.strapped = true ∧
        u.prl.side = w.getLsbD 2) ∧
      (w.getLsbD 1 = w.getLsbD 2 → u.prl = s.prl) ∧ u.nvs = s.nvs ∧ u.chan = s.chan := by
  have hcond : ((s.clk.chip = .reset || s.clk.chip = .boot) && !s.boot.latched) = true := by
    rcases hc with h | h <;> simp [h, hl]
  have hbit : ∀ i, i < 16 → (w.extractLsb' 0 16).getLsbD i = w.getLsbD i := fun i hi => by simp [hi]
  obtain ⟨v, hv⟩ : ∃ v : State, v = { s with boot := { s.boot with
      straps := w.extractLsb' 0 16, latched := true
      strapBad := ((w.getLsbD 1 && w.getLsbD 2) || (w.getLsbD 3 && w.getLsbD 4) || (w.getLsbD 5 && w.getLsbD 6)) } } := ⟨_, rfl⟩
  have hside : strapSided (w.extractLsb' 0 16) = (w.getLsbD 1 != w.getLsbD 2) := by
    rw [strapSided, hbit 1 (by decide), hbit 2 (by decide)]
  have hu : Does (.strapLatch w) s (if (s.clk.chip = .reset || s.clk.chip = .boot) && !s.boot.latched then
      hostTrain (toWaitHost (if strapSided (w.extractLsb' 0 16) then { v with prl := { v.prl with
        role := .standby, side := w.getLsbD 2, strapped := true, pst := .seek } } else v)) else s) := by
    rw [hv, ← hbit 1 (by decide), ← hbit 2 (by decide), ← hbit 3 (by decide), ← hbit 4 (by decide), ← hbit 5 (by decide),
      ← hbit 6 (by decide)]
    rfl
  rw [if_pos hcond, hside] at hu
  by_cases hne : w.getLsbD 1 = w.getLsbD 2
  · have heq : (w.getLsbD 1 != w.getLsbD 2) = false := bne_eq_false_iff_eq.2 hne
    rw [heq, if_neg Bool.false_ne_true] at hu
    obtain ⟨n, e⟩ := toWaitHost_eq v
    rw [hostTrain_eq, e, hv] at hu
    exact ⟨_, hu, rfl, rfl, rfl, fun h => absurd hne h, fun _ => rfl, rfl, rfl⟩
  · have heq : (w.getLsbD 1 != w.getLsbD 2) = true := bne_iff_ne.2 hne
    rw [heq, if_pos rfl] at hu
    obtain ⟨n, e⟩ := toWaitHost_eq { v with prl := { v.prl with
      role := .standby, side := w.getLsbD 2, strapped := true, pst := .seek } }
    rw [hostTrain_eq, e, hv] at hu
    exact ⟨_, hu, rfl, rfl, rfl, fun _ => ⟨rfl, rfl, rfl, rfl⟩, fun h => absurd h hne, rfl, rfl⟩

/-! The host link. -/

/-- What a reset of the endpoint leaves, beside the link itself (R210). -/
def EndpointReset (s u : State) : Prop :=
  u.ctx = s.ctx ∧ u.chan = s.chan ∧ u.kio.msixOn = false ∧ u.kio.msixPend = 0 ∧
    (s.clk.chip ≠ .boot → u.kio.isOpen = false ∧ u.kio.accepted = s.kio.accepted.map fun k => { k with mute := true }) ∧
    (s.clk.chip = .boot → u.kio.isOpen = s.kio.isOpen ∧ u.kio.accepted = s.kio.accepted)

theorem endpointReset_boot (h : s.clk.chip = .boot) :
    endpointReset s = { s with kio := { s.kio with msixOn := false, msixMask := BitVec.allOnes 64, msixPend := 0 } } := if_pos h

theorem endpointReset_run (h : s.clk.chip ≠ .boot) :
    endpointReset s = { s with kio := { s.kio with
      msixOn := false, msixMask := BitVec.allOnes 64, msixPend := 0, isOpen := false, result := 0
      accepted := s.kio.accepted.map fun k => { k with mute := true } } } := if_neg h

/-- A reset of the endpoint of a state that differs from `s` in the link alone. -/
theorem endpointReset_effect (lanes speed : Nat) (perst d3 : Bool) : ∃ k,
    endpointReset { s with kio := { s.kio with pcieLanes := lanes, pcieSpeed := speed, perst := perst, d3 := d3 } } = { s with kio := k } ∧
      EndpointReset s { s with kio := k } ∧ k.pcieLanes = lanes ∧ k.pcieSpeed = speed ∧ k.perst = perst ∧ k.d3 = d3 := by
  by_cases h : s.clk.chip = .boot
  · exact ⟨_, endpointReset_boot h, ⟨rfl, rfl, rfl, rfl, fun h' => absurd h h', fun _ => ⟨rfl, rfl⟩⟩, rfl, rfl, rfl, rfl⟩
  · exact ⟨_, endpointReset_run h, ⟨rfl, rfl, rfl, rfl, fun _ => ⟨rfl, rfl⟩, fun h' => absurd h' h⟩, rfl, rfl, rfl, rfl⟩

theorem endpointReset_train (k : Kio) (h : EndpointReset s { s with kio := k }) :
    EndpointReset s (hostTrain { s with kio := k }) := by
  rw [hostTrain_eq]
  exact h

/-- PERST_ASSERT (R210). -/
theorem perstAssert_effect (s : State) : ∃ u, Does .perstAssert s u ∧ EndpointReset s u ∧ u.kio.perst = true ∧
    u.kio.pcieLanes = 0 ∧ u.kio.pcieSpeed = 0 ∧ u.kio.d3 = false := by
  have hu : Does .perstAssert s (hostDown { s with kio := { s.kio with perst := true } }) := rfl
  obtain ⟨k, e, hr, h1, h2, h3, h4⟩ := endpointReset_effect (s := s) 0 0 true false
  exact ⟨_, hu, by rw [hostDown, e]; exact hr, by rw [hostDown, e]; exact h3, by rw [hostDown, e]; exact h1,
    by rw [hostDown, e]; exact h2, by rw [hostDown, e]; exact h4⟩

/-- A hot reset (R210). -/
theorem hotReset_effect (hc : s.clk.chip ≠ .reset) : ∃ u, Does (.hostLinkEvent .hotReset) s u ∧ EndpointReset s u ∧
    u.kio.perst = s.kio.perst ∧ u.kio.d3 = false ∧
    u.kio.pcieLanes = if s.kio.perst = false ∧ s.boot.latched = true then strapLanes s.boot.straps else 0 := by
  have hu : Does (.hostLinkEvent .hotReset) s (if s.clk.chip = .reset then s else hostTrain (hostDown s)) := rfl
  rw [if_neg hc] at hu
  obtain ⟨k, e, hr, h1, h2, h3, h4⟩ := endpointReset_effect (s := s) 0 0 s.kio.perst false
  rw [show hostDown s = { s with kio := k } from e] at hu
  refine ⟨_, hu, endpointReset_train k hr, ?_, ?_, ?_⟩ <;> rw [hostTrain_eq]
  · exact h3
  · exact h4
  · simp only [h1, h3]
    cases s.kio.perst <;> cases s.boot.latched <;> simp [hc]

/-- D3hot (R210). -/
theorem d3hot_effect (hc : s.clk.chip ≠ .reset) : ∃ u, Does (.hostLinkEvent .d3hot) s u ∧ EndpointReset s u ∧ u.kio.d3 = true ∧
    u.kio.perst = s.kio.perst ∧ u.kio.pcieLanes = s.kio.pcieLanes ∧ u.kio.pcieSpeed = s.kio.pcieSpeed := by
  have hu : Does (.hostLinkEvent .d3hot) s
    (if s.clk.chip = .reset then s else endpointReset { s with kio := { s.kio with d3 := true } }) := rfl
  rw [if_neg hc] at hu
  obtain ⟨k, e, hr, h1, h2, h3, h4⟩ := endpointReset_effect (s := s) s.kio.pcieLanes s.kio.pcieSpeed s.kio.perst true
  exact ⟨_, hu, by rw [e]; exact hr, by rw [e]; exact h4, by rw [e]; exact h3, by rw [e]; exact h1, by rw [e]; exact h2⟩

/-- The host link is lost for good (R144, R210). -/
theorem linkDownEvent_effect (hc : s.clk.chip ≠ .reset) : ∃ u code, Does (.hostLinkEvent .down) s u ∧ raised u 961 .uc code ∧
    u.kio.pcieLanes = 0 ∧ u.kio.d3 = false ∧ (s.clk.chip ≠ .boot → u.kio.isOpen = false) := by
  have hu : Does (.hostLinkEvent .down) s (if s.clk.chip = .reset then s else hostDown (s.raiseC 961 .uc)) := rfl
  rw [if_neg hc] at hu
  obtain ⟨code, hr⟩ := raised_raiseC_uc (src := 961) (by decide) s 0x1FF 0xFFFF
  obtain ⟨k, e, ⟨_, _, _, _, hopen, _⟩, h1, _, _, h4⟩ := endpointReset_effect (s := s.raiseC 961 .uc) 0 0 (s.raiseC 961 .uc).kio.perst false
  refine ⟨_, code, hu, ?_, ?_, ?_, fun h => ?_⟩ <;> rw [show hostDown (s.raiseC 961 .uc) = _ from e]
  · exact raised_congr rfl hr
  · exact h1
  · exact h4
  · exact (hopen (by rw [State.raiseC_clk]; exact h)).1

/-! Masks of the vectors. -/

/-- One pending vector sent, where it may be (R230). -/
def sendVector (on : Bool) (mask : BitVec 64) (s : State) (i : Nat) : State :=
  if on && s.kio.msixPend.getLsbD (i + 1) && !mask.getLsbD (i + 1)
  then { s with kio := { s.kio with
    msixPend := bitPut s.kio.msixPend (i + 1) false, msix := vmod s.kio.msix (i + 1) (· + 1) } } else s

theorem msixConfig_eq (on : Bool) (mask : BitVec 64) (s : State) : msixConfig on mask s =
    (List.range 63).foldl (sendVector on mask) { s with kio := { s.kio with msixOn := on, msixMask := mask } } := rfl

theorem bitPut_getLsbD_ne {n : Nat} (v : BitVec n) {i j : Nat} (h : i ≠ j) (b : Bool) : (bitPut v i b).getLsbD j = v.getLsbD j := by
  by_cases hj : j < n
  · cases b <;> simp [bitPut, hj] <;> omega
  · rw [BitVec.getLsbD_of_ge _ _ (Nat.not_lt.1 hj), BitVec.getLsbD_of_ge _ _ (Nat.not_lt.1 hj)]

theorem sendVector_effect (on : Bool) (mask : BitVec 64) (s : State) {i : Nat} (hi : i < 63) :
    (sendVector on mask s i).kio.msixOn = s.kio.msixOn ∧ (sendVector on mask s i).kio.msixMask = s.kio.msixMask ∧
    (sendVector on mask s i).fcr = s.fcr ∧
    ∀ v, (sendVector on mask s i).kio.msixPend.getLsbD v =
      (s.kio.msixPend.getLsbD v && !(decide (v = i + 1) && on && !mask.getLsbD v)) := by
  unfold sendVector
  split
  next h =>
    refine ⟨rfl, rfl, rfl, fun v => ?_⟩
    by_cases hv : v = i + 1
    · subst hv
      simp only [Bool.and_eq_true] at h
      simp [bitPut_getLsbD_self _ (show i + 1 < 64 by omega), h.1.1, h.2]
    · simp [bitPut_getLsbD_ne _ (Ne.symm hv), hv]
  next h =>
    refine ⟨rfl, rfl, rfl, fun v => ?_⟩
    by_cases hv : v = i + 1
    · subst hv
      revert h
      cases s.kio.msixPend.getLsbD (i + 1) <;> cases on <;> cases mask.getLsbD (i + 1) <;> simp
    · simp [hv]

/-- Vectors sent so far, of those from 1 to `m`. -/
theorem sendVectors_effect (on : Bool) (mask : BitVec 64) (s : State) (m : Nat) (hm : m ≤ 63) :
    let u := (List.range m).foldl (sendVector on mask) s
    u.kio.msixOn = s.kio.msixOn ∧ u.kio.msixMask = s.kio.msixMask ∧ u.fcr = s.fcr ∧
    ∀ v, u.kio.msixPend.getLsbD v = (s.kio.msixPend.getLsbD v && !(decide (1 ≤ v ∧ v ≤ m) && on && !mask.getLsbD v)) := by
  induction m with
  | zero => exact ⟨rfl, rfl, rfl, fun v => by simp; omega⟩
  | succ m ih =>
    obtain ⟨h1, h2, h3, h4⟩ := ih (by omega)
    rw [List.range_succ, List.foldl_append]
    obtain ⟨i1, i2, i3, i4⟩ := sendVector_effect on mask ((List.range m).foldl (sendVector on mask) s) (i := m) (by omega)
    refine ⟨i1.trans h1, i2.trans h2, i3.trans h3, fun v => (i4 v).trans ?_⟩
    rw [h4]
    by_cases hv : v = m + 1
    · subst hv
      simp [show ¬ m + 1 ≤ m by omega]
    · have hd : decide (1 ≤ v ∧ v ≤ m + 1) = decide (1 ≤ v ∧ v ≤ m) := decide_eq_decide.2 (by omega)
      simp [hv, hd]

/-- MSI-X enable and masks written (R230). -/
theorem msixEvent_effect (hc : s.clk.chip ≠ .reset) (on : Bool) (mask : BitVec 64) :
    ∃ u, Does (.hostLinkEvent (.msix on mask)) s u ∧ u.kio.msixOn = on ∧ u.kio.msixMask = mask ∧ u.fcr = s.fcr ∧
      (∀ v, 1 ≤ v → v < 64 → u.kio.msixPend.getLsbD v = (s.kio.msixPend.getLsbD v && !(on && !mask.getLsbD v))) ∧
      u.kio.msixPend.getLsbD 0 = s.kio.msixPend.getLsbD 0 := by
  have hu : Does (.hostLinkEvent (.msix on mask)) s (if s.clk.chip = .reset then s else msixConfig on mask s) := rfl
  rw [if_neg hc, msixConfig_eq] at hu
  obtain ⟨h1, h2, h3, h4⟩ := sendVectors_effect on mask { s with kio := { s.kio with msixOn := on, msixMask := mask } } 63 (Nat.le_refl _)
  refine ⟨_, hu, h1, h2, h3, fun v hv hv' => (h4 v).trans ?_, (h4 0).trans ?_⟩
  · have hd : decide (1 ≤ v ∧ v ≤ 63) = true := decide_eq_true (by omega)
    simp [hd]
  · simp

end

/-- Settles O38. -/
theorem strapsAndHostLink : Obligations.StrapsAndHostLink := by
  intro s
  refine ⟨fun w hc hl => strapLatch_effect w hc hl, fun w hno => ?latched,
    ⟨perstAssert_effect s, fun hc => ⟨hotReset_effect hc, d3hot_effect hc⟩⟩, ?release,
    fun hc => ⟨?aer, fun sp w => ?downtrain, linkDownEvent_effect hc, ?d0, fun on mask => msixEvent_effect hc on mask⟩,
    fun hc ev => ?inReset⟩
  case latched =>
    have hu : Does (.strapLatch w) s (if (s.clk.chip = .reset || s.clk.chip = .boot) && !s.boot.latched then _ else s) := rfl
    rwa [if_neg (by rcases hno with h | ⟨h1, h2⟩ <;> simp [*])] at hu
  case release =>
    refine ⟨hostTrain { s with kio := { s.kio with perst := false } }, rfl, ?_⟩
    rw [hostTrain_eq]
    exact ⟨rfl, rfl, fun hl hc => if_pos (by simp [hl, hc])⟩
  case aer =>
    have hu : Does (.hostLinkEvent .aer) s (if s.clk.chip = .reset then s else s.raiseC 961 .uc) := rfl
    rw [if_neg hc] at hu
    obtain ⟨code, hr⟩ := raised_raiseC_uc (src := 961) (by decide) s 0x1FF 0xFFFF
    obtain ⟨_, _, _, _, _, e⟩ := raiseC_kio s 961 .uc 0x1FF 0xFFFF
    exact ⟨_, code, hu, hr, by rw [e]⟩
  case downtrain =>
    have hu : Does (.hostLinkEvent (.downtrain sp w)) s (if s.clk.chip = .reset then s else
      ({ s with kio := { s.kio with pcieSpeed := sp.val, pcieLanes := w.toNat } } : State).raiseC 961 .uc) := rfl
    rw [if_neg hc] at hu
    obtain ⟨code, hr⟩ := raised_raiseC_uc (src := 961) (by decide)
      { s with kio := { s.kio with pcieSpeed := sp.val, pcieLanes := w.toNat } } 0x1FF 0xFFFF
    obtain ⟨_, _, _, _, _, e⟩ := raiseC_kio
      { s with kio := { s.kio with pcieSpeed := sp.val, pcieLanes := w.toNat } } 961 .uc 0x1FF 0xFFFF
    exact ⟨_, code, hu, hr, by rw [e], by rw [e]⟩
  case d0 =>
    have hu : Does (.hostLinkEvent .d0) s (if s.clk.chip = .reset then s else { s with kio := { s.kio with d3 := false } }) := rfl
    rwa [if_neg hc] at hu
  case inReset =>
    exact congrArg Host.Outcome.next (congrArg settle (if_pos hc))

end Sys2Proof.Claims
end

section
/-!
PROOF. Completions of kiosk commands (R215, R217).
-/
namespace Sys2Proof.Claims
open Sys2Proof Sys2Proof.Machine

section
variable {s v : State} {k : KCmd}

theorem msixSend_host (n : Nat) (s : State) : (msixSend n s).host = s.host := by
  obtain ⟨_, e⟩ := msixSend_eq n s
  rw [e]

theorem msixSend_accepted (n : Nat) (s : State) : (msixSend n s).kio.accepted = s.kio.accepted := by
  obtain ⟨_, _, _, e⟩ := msixSend_kio n s
  rw [e]

theorem msixSend_cq (n : Nat) (s : State) : (msixSend n s).kio.cq = s.kio.cq := by
  obtain ⟨_, _, _, e⟩ := msixSend_kio n s
  rw [e]

/-- A completion ring with one entry more at its tail (R217). -/
def ringNext (c : CplRing) : CplRing :=
  { c with tail := (c.tail + 1) % ringLen c.size, used := c.used + 1, phase := if c.tail + 1 = ringLen c.size then !c.phase else c.phase }

/-- The kiosk after a completion entry: the ring's tail and the vectors (R215, R217, R230). -/
theorem cplWrite_effect (ho : v.kio.isOpen = true) (q cmd : Nat) (tag : BitVec 16) (st un re : Nat) (r0 r1 r2 : W) :
    (cplWrite q cmd tag st un re r0 r1 r2 v).host =
      Memory.writeWs v.host ((vat v.kio.cq q CplRing.init).base.toNat + 32 * (vat v.kio.cq q CplRing.init).tail)
        (cplWords v q cmd tag st un re r0 r1 r2) ∧
    (cplWrite q cmd tag st un re r0 r1 r2 v).kio.accepted = v.kio.accepted ∧
    (cplWrite q cmd tag st un re r0 r1 r2 v).kio.cq = vput v.kio.cq q (ringNext (vat v.kio.cq q CplRing.init)) := by
  unfold cplWrite
  rw [if_pos ho]
  dsimp only
  rw [msixSend_host, msixSend_accepted, msixSend_cq]
  refine ⟨?_, ?_, ?_⟩
  · dsimp only
  · rfl
  · rfl

/-- A command of the open session that no pair mirrors has completed, from a state that has its rings and accepted commands still as
`s` had them. -/
theorem completed_kEnd (hm : k.mseq = none) (hq : k.mute = false) (ho : s.kio.isOpen = true) (hw : Memory.wf v.host = true)
    (hopen : v.kio.isOpen = s.kio.isOpen) (hcq : v.kio.cq = s.kio.cq)
    (hacc : (v.kio.accepted.filter fun x => !sameCmd x k) = s.kio.accepted.filter fun x => !sameCmd x k)
    (st : Nat) (r0 r1 r2 : W) : Completed s (kEnd k st r0 r1 r2 v) k st r0 r1 r2 := by
  obtain ⟨un, re, hc⟩ : ∃ un re, kEnd k st r0 r1 r2 v = cplWrite k.ring.val k.cmd k.tag st un re r0 r1 r2 (kDrop k v) := by
    rw [kEnd_own hm, kCpl, hq, if_neg Bool.false_ne_true, cplRetry]
    split
    exact ⟨_, _, rfl⟩
  obtain ⟨h1, h2, h3⟩ := cplWrite_effect (v := kDrop k v) (hopen.trans ho) k.ring.val k.cmd k.tag st un re r0 r1 r2
  have hcq' : (kDrop k v).kio.cq = s.kio.cq := hcq
  rw [hcq'] at h1 h3
  have hring := vat_vput_self s.kio.cq k.ring.isLt
  have hlen : (cplWords (kDrop k v) k.ring.val k.cmd k.tag st un re r0 r1 r2).length = 8 := rfl
  have hread := fun i (hi : i < 8) => Memory.readW_writeWs (m := v.host)
    ((vat s.kio.cq k.ring.val CplRing.init).base.toNat + 32 * (vat s.kio.cq k.ring.val CplRing.init).tail) i
    (cplWords (kDrop k v) k.ring.val k.cmd k.tag st un re r0 r1 r2) hw (by rw [hlen]; exact hi)
  rw [hc]
  refine ⟨?_, ?_, ?_, ?_, ?_, ?_, ?_, ?_⟩
  · rw [h2]
    exact hacc
  · rw [h3, hring]
    rfl
  · rw [h3, hring]
    rfl
  · rw [h1]
    exact hread 0 (by decide)
  · rw [h1]
    refine (hread 1 (by decide)).trans ?_
    simp only [cplWords, hcq']
    rfl
  · rw [h1]
    exact hread 3 (by decide)
  · rw [h1]
    exact hread 6 (by decide)
  · rw [h1]
    exact hread 7 (by decide)

/-- A completion changes the kiosk and host memory alone. -/
theorem kEnd_eq (hm : k.mseq = none) (st : Nat) (r0 r1 r2 : W) (s : State) :
    ∃ o m, kEnd k st r0 r1 r2 s = { s with kio := o, host := m } := by
  obtain ⟨o, m, e⟩ := kCpl_eq k st r0 r1 r2 (kDrop k s)
  exact ⟨o, m, by rw [kEnd_own hm, e]; rfl⟩

/-- A row whose command is ready carries it out. -/
theorem kiosk_ready {cmd : Nat} {tag : BitVec 16} (h : Ready s cmd tag k) (f : KCmd → State → State) :
    kiosk cmd tag f s = f k s :=
  kiosk_accepted f h.1 h.2.1 h.2.2.2.2.1

/-- A ready command that completes at once, from a state that has its rings, host memory and accepted commands as `s` has them. -/
theorem completed_of_ready {cmd : Nat} {tag : BitVec 16} (h : Ready s cmd tag k) (hopen : v.kio.isOpen = s.kio.isOpen)
    (hcq : v.kio.cq = s.kio.cq) (hhost : v.host = s.host) (hacc : v.kio.accepted = s.kio.accepted) (st : Nat) (r0 r1 r2 : W) :
    Completed s (kEnd k st r0 r1 r2 v) k st r0 r1 r2 := by
  obtain ⟨_, _, hm, hq, _, ho, hw⟩ := h
  exact completed_kEnd hm hq ho (by rw [hhost]; exact hw) hopen hcq (by rw [hacc]) st r0 r1 r2

end
end Sys2Proof.Claims
end

section
/-!
PROOF. The store engine (R399, R400, R406, R410).
-/
namespace Sys2Proof.Claims
open Sys2Proof Sys2Proof.Machine

section
variable {s : State} {k : KCmd}

/-! Pages. -/

theorem length_readN (m : List Host.Cell) (a n : Nat) : (Memory.readN m a n).length = n := by
  induction n generalizing a with
  | zero => rfl
  | succ n ih => exact congrArg (· + 1) (ih (a + 1))

theorem readN_getElem (m : List Host.Cell) (a n i : Nat) (hi : i < (Memory.readN m a n).length) :
    (Memory.readN m a n)[i] = Memory.read m (a + i) := by
  induction n generalizing a i with
  | zero => exact absurd hi (Nat.not_lt_zero i)
  | succ n ih =>
    cases i with
    | zero => rfl
    | succ i => exact (ih (a + 1) i (Nat.lt_of_succ_lt_succ hi)).trans (by rw [Nat.add_assoc, Nat.add_comm 1 i])

/-- A page in the cells after it is stored (R400). -/
theorem read_storePage (hw : Memory.wf s.nvs.cells = true) (p a : Nat) : Memory.read (storePage p s).nvs.cells a =
    if 256 * p ≤ a ∧ a < 256 * p + 256 then Memory.read s.nvs.win a else Memory.read s.nvs.cells a := by
  have hcells : (storePage p s).nvs.cells =
    Memory.writeN s.nvs.cells (256 * p) (Memory.readN s.nvs.win (256 * p) 256) := by simp only [storePage, nvPage]
  have hlen := length_readN s.nvs.win (256 * p) 256
  have hget := readN_getElem s.nvs.win (256 * p) 256
  rw [hcells]
  generalize Memory.readN s.nvs.win (256 * p) 256 = bs at hlen hget
  split
  next h =>
    obtain ⟨i, rfl⟩ : ∃ i, a = 256 * p + i := ⟨a - 256 * p, by omega⟩
    have hi : i < bs.length := by omega
    rw [Memory.read_writeN _ _ _ hw hi, hget i hi]
  next h => exact Memory.read_writeN_ne _ _ _ hw (by omega)

/-- A page stored changes the cells, the dirty pages and the count alone (R400). -/
theorem storePage_eq (p : Nat) (s : State) : ∃ c, storePage p s =
    { s with nvs := { s.nvs with cells := c, dirty := s.nvs.dirty.filter (· != p), written := s.nvs.written + 1 } } := by
  unfold storePage
  generalize Memory.writeN s.nvs.cells (nvPage p) (Memory.readN s.nvs.win (nvPage p) 256) = c
  exact ⟨c, rfl⟩

/-! Counters. -/

/-- A record's allocation writes the directory through, or flags that there is no room (R406). -/
theorem recAlloc_eq (id : BitVec 16) (len : Nat) (counter : Bool) (s : State) : ∃ d w c e,
    recAlloc id len counter s = (d, { s with nvs := { s.nvs with win := w, cells := c, evt := e } }) := by
  unfold recAlloc
  split
  · exact ⟨_, s.nvs.win, s.nvs.cells, s.nvs.evt, rfl⟩
  · dsimp only
    split
    · exact ⟨_, s.nvs.win, s.nvs.cells, _, rfl⟩
    · exact ⟨_, _, _, s.nvs.evt, rfl⟩

/-- A write through changes the window and the cells alone (R395). -/
theorem nvThroughW_eq (off : Nat) (ws : List W) (s : State) :
    ∃ w c, nvThroughW off ws s = { s with nvs := { s.nvs with win := w, cells := c } } := ⟨_, _, rfl⟩

/-- An increment writes its block through and raises at most one occurrence: what waits and what is dirty stays (R410). -/
theorem counterInc_nvs (id : BitVec 16) (s : State) : ∃ w c e,
    (counterInc id s).nvs = { s.nvs with win := w, cells := c, evt := e } ∧ (counterInc id s).upe = s.upe ∧
      (counterInc id s).clk = s.clk := by
  obtain ⟨d, w, c, e, h⟩ := recAlloc_eq id 12 true s
  cases d with
  | none =>
    unfold counterInc
    rw [h]
    exact ⟨w, c, e, State.raise_nvs .., State.raise_upe .., State.raise_clk ..⟩
  | some d =>
    obtain ⟨a1, l1, a2, l2, hinc⟩ : ∃ a1 l1 a2 l2, counterInc id s =
        nvThroughW a1 l1 (nvThroughW a2 l2 { s with nvs := { s.nvs with win := w, cells := c, evt := e } }) := by
      unfold counterInc
      rw [h]
      exact ⟨_, _, _, _, by dsimp only⟩
    obtain ⟨w2, c2, e2⟩ := nvThroughW_eq a2 l2 { s with nvs := { s.nvs with win := w, cells := c, evt := e } }
    obtain ⟨w1, c1, e1⟩ := nvThroughW_eq a1 l1 (nvThroughW a2 l2 { s with nvs := { s.nvs with win := w, cells := c, evt := e } })
    rw [hinc, e1, e2]
    exact ⟨w1, c1, e, rfl, rfl, rfl⟩

theorem foldl_counterInc_nvs (l : List (BitVec 16)) (s : State) : ∃ w c e,
    (l.foldl (fun s id => counterInc id s) s).nvs = { s.nvs with win := w, cells := c, evt := e } ∧
      (l.foldl (fun s id => counterInc id s) s).upe = s.upe ∧ (l.foldl (fun s id => counterInc id s) s).clk = s.clk := by
  induction l generalizing s with
  | nil => exact ⟨_, _, _, rfl, rfl, rfl⟩
  | cons id l ih =>
    obtain ⟨_, _, _, h1, h2, h3⟩ := counterInc_nvs id s
    obtain ⟨w, c, e, i1, i2, i3⟩ := ih (counterInc id s)
    exact ⟨w, c, e, by rw [List.foldl_cons, i1, h1], i2.trans h2, i3.trans h3⟩

/-- The store engine as a store begins (R400). -/
theorem storeBegin_nvs (pages : List Nat) (tag : Option (BitVec 16)) (pf : Bool) (s : State) : ∃ w c e,
    (storeBegin pages tag pf s).nvs = { s.nvs with
      win := w, cells := c, evt := e, pendInc := [], storing := true, pfStore := pf, todo := pages, written := 0
      start := (storeBegin pages tag pf s).nvs.start, tag := tag } := by
  obtain ⟨w, c, e, h, _, _⟩ := foldl_counterInc_nvs s.nvs.pendInc
    { nvThroughW (journalAt + 12) [0] (nvThroughW journalAt [lo32 s.clk.ts] s) with
      nvs := { (nvThroughW (journalAt + 12) [0] (nvThroughW journalAt [lo32 s.clk.ts] s)).nvs with pendInc := [] } }
  refine ⟨w, c, e, ?_⟩
  have hall : counterAll (nvThroughW (journalAt + 12) [0] (nvThroughW journalAt [lo32 s.clk.ts] s)) = _ := rfl
  unfold storeBegin
  dsimp only
  rw [show (counterAll (nvThroughW (journalAt + 12) [0] (nvThroughW journalAt [lo32 s.clk.ts] s))).nvs = _ from h]
  rfl

/-- The next page of a store changes the cells, the dirty pages and the counts alone (R400). -/
theorem storeNext_nvs (s : State) : ∃ c d n l, (storeNext s).nvs = { s.nvs with cells := c, dirty := d, written := n, todo := l } := by
  unfold storeNext
  split
  · exact ⟨_, _, _, _, rfl⟩
  · exact ⟨_, _, _, _, rfl⟩

/-- A command past its point of no return changes the kiosk alone (R226). -/
theorem kFix_eq (tag : Option (BitVec 16)) (s : State) : ∃ q, kFix tag s = { s with kio := q } := by
  unfold kFix
  split
  · exact ⟨_, rfl⟩
  · exact ⟨s.kio, rfl⟩

/-- The oldest NV_STORE that waits begins (R400). -/
theorem storeTake_effect {tag : BitVec 16} {ps : List Nat} {r : List (BitVec 16 × List Nat)}
    (h : s.nvs.waiting = (tag, ps) :: r) : (storeTake s).nvs.storing = true ∧ (storeTake s).nvs.waiting = r ∧
      (storeTake s).nvs.tag = some tag ∧ (storeTake s).nvs.pfStore = false := by
  obtain ⟨pages, hp⟩ : ∃ pages, storeTake s =
      kFix (some tag) (storeNext (storeBegin pages (some tag) false { s with nvs := { s.nvs with waiting := r } })) := by
    unfold storeTake
    rw [h]
    exact ⟨_, rfl⟩
  obtain ⟨q, e⟩ := kFix_eq (some tag) (storeNext (storeBegin pages (some tag) false { s with nvs := { s.nvs with waiting := r } }))
  obtain ⟨c, d, n, l, e'⟩ := storeNext_nvs (storeBegin pages (some tag) false { s with nvs := { s.nvs with waiting := r } })
  obtain ⟨w, c', v, e''⟩ := storeBegin_nvs pages (some tag) false { s with nvs := { s.nvs with waiting := r } }
  rw [hp, e]
  dsimp only
  rw [e', e'']
  exact ⟨rfl, rfl, rfl, rfl⟩

/-! The end of a store. -/

/-- The pages left of a store are no longer dirty once they are written. -/
theorem foldl_storePage_effect (l : List Nat) (s : State) : ∃ c d n,
    l.foldl (fun s p => storePage p s) s = { s with nvs := { s.nvs with cells := c, dirty := d, written := n } } ∧
      (∀ p ∈ l, p ∉ d) ∧ ∀ p ∈ d, p ∈ s.nvs.dirty := by
  induction l generalizing s with
  | nil => exact ⟨s.nvs.cells, s.nvs.dirty, s.nvs.written, rfl, by simp, fun _ h => h⟩
  | cons q l ih =>
    obtain ⟨c', e'⟩ := storePage_eq q s
    obtain ⟨c, d, n, e, h1, h2⟩ := ih (storePage q s)
    rw [e'] at h2
    have hsub : ∀ p ∈ d, p ∈ s.nvs.dirty ∧ p ≠ q := fun p hp => by
      simpa using List.mem_filter.1 (h2 p hp)
    rw [List.foldl_cons, e]
    rw [e']
    refine ⟨c, d, n, rfl, fun p hp => ?_, fun p hp => (hsub p hp).1⟩
    rcases List.mem_cons.1 hp with rfl | hp
    · exact fun hd => (hsub p hd).2 rfl
    · exact h1 p hp

/-- NV_STORE_END of a store that no command waits for (R400). -/
theorem storeEnd_effect (hs : s.nvs.storing = true) (hok : storeOk s = true) (ht : s.nvs.tag = none) (hc : s.upe.confStep ≠ 2) :
    (storeEnd s).nvs.storing = false ∧ (storeEnd s).nvs.todo = [] ∧ (storeEnd s).nvs.stores = s.nvs.stores + 1 ∧
      (storeEnd s).nvs.pfStore = false ∧ ∀ p ∈ s.nvs.todo, p ∉ (storeEnd s).nvs.dirty := by
  obtain ⟨c, d, n, e, h1, _⟩ := foldl_storePage_effect s.nvs.todo { s with nvs := { s.nvs with todo := [] } }
  have hfin : ∃ w c' l, storeFinish s = { s with nvs := { s.nvs with
      todo := [], cells := c', win := w, dirty := d, written := n, storing := false, stores := s.nvs.stores + 1, lastStore := l } } := by
    unfold storeFinish
    dsimp only
    rw [e]
    exact ⟨_, _, _, rfl⟩
  obtain ⟨w, c', l, ef⟩ := hfin
  have hend : storeEnd s = { storeFinish s with nvs := { (storeFinish s).nvs with tag := none, pfStore := false } } := by
    unfold storeEnd
    rw [if_pos (by rw [hs, hok]; rfl)]
    have htag : (storeFinish s).nvs.tag = none := by rw [ef]; exact ht
    have hconf : (storeFinish s).upe.confStep ≠ 2 := by rw [ef]; exact hc
    simp [kEndTag, htag, hconf]
  rw [hend, ef]
  exact ⟨rfl, rfl, rfl, rfl, h1⟩

/-! NV_STORE. -/

theorem mem_insertNat (l : List Nat) (a n : Nat) : n ∈ insertNat l a ↔ n = a ∨ n ∈ l := by
  induction l with
  | nil => simp [insertNat]
  | cons j r ih =>
    unfold insertNat
    split
    next h => subst h; simp
    next =>
      split
      · simp
      · rw [List.mem_cons, ih, List.mem_cons, or_left_comm]

theorem mem_foldl_insertNat {α : Type} (f : α → Nat) (l : List α) (ns : List Nat) (n : Nat) :
    n ∈ l.foldl (fun l p => insertNat l (f p)) ns ↔ (∃ p ∈ l, f p = n) ∨ n ∈ ns := by
  induction l generalizing ns with
  | nil => simp
  | cons p l ih =>
    rw [List.foldl_cons, ih, mem_insertNat]
    simp only [List.mem_cons, exists_eq_or_imp, eq_comm (a := n), or_left_comm, or_assoc]

/-- A ready command refused for a fault of a transfer (R220): the ring error stands, and the kiosk and host memory alone change. -/
theorem kDma_effect {cmd : Nat} {tag : BitVec 16} (h : Ready s cmd tag k) :
    Completed s (kDma k s) k 0x0025 0 0 0 ∧ ∃ o m, kDma k s = { s with kio := o, host := m } := by
  unfold kDma kStatus
  generalize bitPut s.kio.err 0 true = b
  exact ⟨completed_of_ready (v := { s with kio := { s.kio with err := b } }) h rfl rfl rfl rfl stDma 0 0 0, by
    obtain ⟨o, m, e⟩ := kEnd_eq h.2.2.1 stDma 0 0 0 { s with kio := { s.kio with err := b } }
    exact ⟨o, m, e⟩⟩

/-- NV_STORE (R399). -/
theorem nvStore_effect {tag : BitVec 16} (h : Ready s 0x0601 tag k) :
    ((k.arg 3).bit 0 = false → ∀ ps, ∃ u, Does (.nvStore tag ps) s u ∧ u.nvs.waiting = s.nvs.waiting ++ [(k.tag, [])] ∧
      u.nvs.win = s.nvs.win) ∧
    ((k.arg 3).bit 0 = true → ∃ u, Does (.nvStore tag none) s u ∧ Completed s u k 0x0025 0 0 0 ∧ u.nvs = s.nvs) ∧
    (∀ ps : List (BitVec 16), (k.arg 3).bit 0 = true → (∀ p ∈ ps, p.toNat ≤ 4095) → ∃ u l, Does (.nvStore tag (some ps)) s u ∧
      u.nvs.waiting = s.nvs.waiting ++ [(k.tag, l)] ∧ ∀ n, n ∈ l ↔ ∃ p ∈ ps, p.toNat = n) := by
  have hu : ∀ ps, Does (.nvStore tag ps) s (kNvStore ps k s) := fun ps =>
    congrArg Host.Outcome.next (congrArg settle (kiosk_ready h (kNvStore ps)))
  refine ⟨fun hb ps => ⟨_, hu ps, ?_⟩, fun hb => ⟨_, hu none, ?_⟩, fun ps hb hle => ⟨_, ps.foldl (fun l p => insertNat l p.toNat) [], hu (some ps), ?_⟩⟩
  · simp only [kNvStore, hb, Bool.not_false, if_true]
    exact ⟨rfl, rfl⟩
  · simp only [kNvStore, hb, Bool.not_true, Bool.false_eq_true, if_false]
    obtain ⟨hc, o, m, e⟩ := kDma_effect h
    exact ⟨hc, by rw [e]⟩
  · have hany : (ps.any fun p => 4095 < p.toNat) = false := by
      rw [List.any_eq_false]
      exact fun p hp => by simpa using hle p hp
    simp only [kNvStore, hb, hany, Bool.not_true, Bool.false_eq_true, if_false]
    refine ⟨rfl, fun n => ?_⟩
    rw [mem_foldl_insertNat (fun p : BitVec 16 => p.toNat)]
    simp

end

/-- Settles O40. -/
theorem storeEngine : Obligations.StoreEngine := by
  intro s
  have hrun : Does .nvStoreRun s (storeRun s) := rfl
  have hend : Does .nvStoreEnd s (storeEnd s) := rfl
  have hinc : Does .counterIncrement s (if storeOk s then counterStep s else s) := rfl
  refine ⟨fun p r hok hst htodo => ?page, fun hno => ?idle, fun tag ps r hok hst hpf hw => ?take,
    fun hst hok ht hc => ⟨_, hend, storeEnd_effect hst hok ht hc⟩, fun hst => ?noStore, fun hok hp => ?noInc,
    fun id r hok hp => ?inc, fun tag k h => nvStore_effect h⟩
  case page =>
    rw [storeRun, hok, hst, Bool.not_true, if_neg Bool.false_ne_true, if_pos rfl, storeNext, htodo] at hrun
    dsimp only at hrun
    obtain ⟨c, e⟩ := storePage_eq p { s with nvs := { s.nvs with todo := r } }
    refine ⟨_, hrun, by rw [e], by rw [e], by rw [e]; simp, fun q hq hne => ?_, by rw [e], fun hw a => ?_⟩
    · rw [e]
      exact List.mem_filter.2 ⟨hq, by simpa using hne⟩
    exact read_storePage (s := { s with nvs := { s.nvs with todo := r } }) hw p a
  case idle =>
    rcases hno with h | ⟨h1, h2⟩
    · rwa [storeRun, h, Bool.not_false, if_pos rfl] at hrun
    · rw [storeRun, h1, h2, if_neg Bool.false_ne_true, if_pos rfl, ite_self] at hrun
      exact hrun
  case take =>
    rw [storeRun, hok, hst, hpf, Bool.not_true, if_neg Bool.false_ne_true, if_neg Bool.false_ne_true,
      if_neg Bool.false_ne_true] at hrun
    exact ⟨_, hrun, storeTake_effect hw⟩
  case noStore => rwa [storeEnd, hst, Bool.false_and, if_neg Bool.false_ne_true] at hend
  case noInc => rwa [if_pos hok, counterStep, hp] at hinc
  case inc =>
    rw [if_pos hok, counterStep, hp] at hinc
    obtain ⟨w, c, e, h, _, _⟩ := counterInc_nvs id { s with nvs := { s.nvs with pendInc := r } }
    exact ⟨_, hinc, by rw [h], by rw [h]⟩

end Sys2Proof.Claims
end

section
/-!
PROOF. What occurrences and completions leave as it is: the frame that the operations of the units share.
-/
namespace Sys2Proof.Claims
open Sys2Proof Sys2Proof.Machine

section
variable {s u v : State}

/-- From `s` to `u` occurrences were raised, commands completed and values drawn: the collector's records, the kiosk, host memory,
the two-wire ports and the drawn values may differ, nothing else, and what waits to be settled still waits. -/
def Occurs (s u : State) : Prop :=
  ∃ n k m t h c w r, s.fcr.todo ⊆ r ∧
    u = { s with fresh := n, kio := k, host := m, twp := t, fcr := { s.fcr with held := h, cnt := c, win := w, todo := r } }

theorem Occurs.refl (s : State) : Occurs s s := ⟨_, _, _, _, _, _, _, _, List.Subset.refl _, rfl⟩

theorem Occurs.trans (h : Occurs s u) (h' : Occurs u v) : Occurs s v := by
  obtain ⟨n, k, m, t, a, c, w, r, hr, rfl⟩ := h
  obtain ⟨n', k', m', t', a', c', w', r', hr', rfl⟩ := h'
  exact ⟨_, _, _, _, _, _, _, _, List.Subset.trans hr hr', rfl⟩

theorem occurs_raise (s : State) (src : Nat) (cls : EvClass) (code : Nat) (p : W) (ctx task : Nat) :
    Occurs s (s.raise src cls code p ctx task) := by
  obtain ⟨k, m, t, h, c, w, r, e⟩ := State.raise_eq s src cls code p ctx task
  refine ⟨s.fresh, k, m, t, h, c, w, r, ?_, e⟩
  by_cases hk : srcKind src = 2
  · have e' : (s.raise src cls code p ctx task).fcr.todo = s.fcr.todo := by rw [State.raise, if_pos hk]
    rw [e] at e'
    change r = _ at e'
    rw [e']
    exact List.Subset.refl _
  · have e' := raise_todo hk s cls code p ctx task
    rw [e] at e'
    change r = _ at e'
    rw [e']
    exact List.subset_append_left _ _

theorem occurs_fresh (s : State) (n : Nat) : Occurs s { s with fresh := n } := ⟨_, _, _, _, _, _, _, _, List.Subset.refl _, rfl⟩

theorem occurs_kio (s : State) (k : Kio) : Occurs s { s with kio := k } := ⟨_, _, _, _, _, _, _, _, List.Subset.refl _, rfl⟩

theorem occurs_raiseP (s : State) (src : Nat) (cls : EvClass) (code ctx task : Nat) : Occurs s (s.raiseP src cls code ctx task) :=
  (occurs_fresh s (s.fresh + 1)).trans (occurs_raise _ src cls code _ ctx task)

theorem occurs_raiseC (s : State) (src : Nat) (cls : EvClass) (ctx task : Nat) : Occurs s (s.raiseC src cls ctx task) :=
  (occurs_fresh s (s.fresh + 1)).trans (occurs_raiseP _ src cls _ ctx task)

theorem occurs_kCpl (k : KCmd) (st : Nat) (r0 r1 r2 : W) (s : State) : Occurs s (kCpl k st r0 r1 r2 s) := by
  obtain ⟨o, m, e⟩ := kCpl_eq k st r0 r1 r2 s
  exact ⟨s.fresh, o, m, s.twp, _, _, _, _, List.Subset.refl _, e⟩

theorem Occurs.foldl {α : Type} {f : State → α → State} (hf : ∀ s a, Occurs s (f s a)) (l : List α) (s : State) :
    Occurs s (l.foldl f s) := by
  induction l generalizing s with
  | nil => exact .refl s
  | cons a l ih => exact (hf s a).trans (ih (f s a))

/-! What the frame keeps. -/

theorem Occurs.pending (h : Occurs s u) : u.pending = s.pending := by obtain ⟨_, _, _, _, _, _, _, _, _, rfl⟩ := h; rfl
theorem Occurs.clk (h : Occurs s u) : u.clk = s.clk := by obtain ⟨_, _, _, _, _, _, _, _, _, rfl⟩ := h; rfl
theorem Occurs.ctx (h : Occurs s u) : u.ctx = s.ctx := by obtain ⟨_, _, _, _, _, _, _, _, _, rfl⟩ := h; rfl
theorem Occurs.eng (h : Occurs s u) : u.eng = s.eng := by obtain ⟨_, _, _, _, _, _, _, _, _, rfl⟩ := h; rfl
theorem Occurs.shared (h : Occurs s u) : u.shared = s.shared := by obtain ⟨_, _, _, _, _, _, _, _, _, rfl⟩ := h; rfl
theorem Occurs.chan (h : Occurs s u) : u.chan = s.chan := by obtain ⟨_, _, _, _, _, _, _, _, _, rfl⟩ := h; rfl
theorem Occurs.shaft (h : Occurs s u) : u.shaft = s.shaft := by obtain ⟨_, _, _, _, _, _, _, _, _, rfl⟩ := h; rfl
theorem Occurs.pg (h : Occurs s u) : u.pg = s.pg := by obtain ⟨_, _, _, _, _, _, _, _, _, rfl⟩ := h; rfl
theorem Occurs.adm (h : Occurs s u) : u.adm = s.adm := by obtain ⟨_, _, _, _, _, _, _, _, _, rfl⟩ := h; rfl
theorem Occurs.link (h : Occurs s u) : u.link = s.link := by obtain ⟨_, _, _, _, _, _, _, _, _, rfl⟩ := h; rfl
theorem Occurs.bbr (h : Occurs s u) : u.bbr = s.bbr := by obtain ⟨_, _, _, _, _, _, _, _, _, rfl⟩ := h; rfl
theorem Occurs.clg (h : Occurs s u) : u.clg = s.clg := by obtain ⟨_, _, _, _, _, _, _, _, _, rfl⟩ := h; rfl
theorem Occurs.tmu (h : Occurs s u) : u.tmu = s.tmu := by obtain ⟨_, _, _, _, _, _, _, _, _, rfl⟩ := h; rfl
theorem Occurs.tpc (h : Occurs s u) : u.tpc = s.tpc := by obtain ⟨_, _, _, _, _, _, _, _, _, rfl⟩ := h; rfl
theorem Occurs.jnb (h : Occurs s u) : u.jnb = s.jnb := by obtain ⟨_, _, _, _, _, _, _, _, _, rfl⟩ := h; rfl
theorem Occurs.prl (h : Occurs s u) : u.prl = s.prl := by obtain ⟨_, _, _, _, _, _, _, _, _, rfl⟩ := h; rfl
theorem Occurs.nvs (h : Occurs s u) : u.nvs = s.nvs := by obtain ⟨_, _, _, _, _, _, _, _, _, rfl⟩ := h; rfl
theorem Occurs.upe (h : Occurs s u) : u.upe = s.upe := by obtain ⟨_, _, _, _, _, _, _, _, _, rfl⟩ := h; rfl
theorem Occurs.boot (h : Occurs s u) : u.boot = s.boot := by obtain ⟨_, _, _, _, _, _, _, _, _, rfl⟩ := h; rfl
theorem Occurs.trl (h : Occurs s u) : u.trl = s.trl := by obtain ⟨_, _, _, _, _, _, _, _, _, rfl⟩ := h; rfl
theorem Occurs.fcr (h : Occurs s u) : ∃ a c w r, u.fcr = { s.fcr with held := a, cnt := c, win := w, todo := r } := by
  obtain ⟨_, _, _, _, a, c, w, r, _, rfl⟩ := h; exact ⟨a, c, w, r, rfl⟩
theorem Occurs.todo (h : Occurs s u) : s.fcr.todo ⊆ u.fcr.todo := by obtain ⟨_, _, _, _, _, _, _, _, hr, rfl⟩ := h; exact hr

/-- What has been raised stays raised. -/
theorem Occurs.raised {src : Nat} {cls : EvClass} {code : Nat} (h : Occurs s u) (hr : raised s src cls code) : raised u src cls code := by
  obtain ⟨x, hx, e⟩ := hr
  exact ⟨x, h.todo hx, e⟩

/-! Units that change beside it. -/

theorem Occurs.withClk (h : Occurs s u) (c : Clk) : Occurs { s with clk := c } { u with clk := c } := by
  obtain ⟨_, _, _, _, _, _, _, _, hr, rfl⟩ := h; exact ⟨_, _, _, _, _, _, _, _, hr, rfl⟩
theorem Occurs.withNvs (h : Occurs s u) (c : Nvs) : Occurs { s with nvs := c } { u with nvs := c } := by
  obtain ⟨_, _, _, _, _, _, _, _, hr, rfl⟩ := h; exact ⟨_, _, _, _, _, _, _, _, hr, rfl⟩
theorem Occurs.withPrl (h : Occurs s u) (c : Prl) : Occurs { s with prl := c } { u with prl := c } := by
  obtain ⟨_, _, _, _, _, _, _, _, hr, rfl⟩ := h; exact ⟨_, _, _, _, _, _, _, _, hr, rfl⟩

/-! The reference and the pair link. -/

/-- The clock with another choice of reference: only the choice, its offsets and its monitor bit differ. -/
def SameTime (c d : Clk) : Prop :=
  ∃ r h o a m, d = { c with refsel := r, holdover := h, offs := o, alignValid := a, mon := m }

theorem followRef_frame (s : State) : SameTime s.clk (followRef s).clk ∧ Occurs { s with clk := (followRef s).clk } (followRef s) := by
  have hset : ∀ r, SameTime s.clk (setRef r s).clk ∧ Occurs { s with clk := (setRef r s).clk } (setRef r s) := fun r => by
    unfold setRef
    split
    · exact ⟨⟨_, _, _, _, _, rfl⟩, .refl s⟩
    · exact ⟨⟨_, _, _, _, _, rfl⟩, .refl _⟩
  have hlost : SameTime s.clk (refLost s).clk ∧ Occurs { s with clk := (refLost s).clk } (refLost s) := by
    rw [(refLost_effect s).1]
    exact ⟨⟨_, _, _, _, _, rfl⟩, occurs_raiseC ..⟩
  unfold followRef
  split
  · split
    · exact hset _
    · split
      · exact hlost
      · exact ⟨⟨_, _, _, _, _, rfl⟩, .refl s⟩
  · exact ⟨⟨_, _, _, _, _, rfl⟩, .refl s⟩

/-- What waited for the partner is completed; the kiosk, host memory and the queue of the pair alone change. -/
theorem pairFlush_frame (s : State) : ∃ q, (pairFlush s).prl = { s.prl with queue := q } ∧
    Occurs { s with prl := { s.prl with queue := q } } (pairFlush s) := by
  unfold pairFlush
  generalize hl : s.prl.queue = l
  clear hl
  induction l generalizing s with
  | nil => exact ⟨_, rfl, .refl s⟩
  | cons x l ih =>
    rw [List.foldl_cons]
    split
    next st r0 r1 r2 k _ _ =>
      have ho := occurs_kCpl k st.toNat r0 r1 r2 { kDrop k s with prl := { s.prl with queue := s.prl.queue.filter (·.mseq != x.mseq) } }
      obtain ⟨q, e, h⟩ := ih (kCpl k st.toNat r0 r1 r2 { kDrop k s with prl := { s.prl with queue := s.prl.queue.filter (·.mseq != x.mseq) } })
      rw [ho.prl] at e h
      have hd : Occurs { s with prl := { s.prl with queue := q } } { kDrop k s with prl := { s.prl with queue := q } } :=
        occurs_kio { s with prl := { s.prl with queue := q } } _
      exact ⟨q, e, hd.trans ((ho.withPrl { s.prl with queue := q }).trans h)⟩
    next => exact ih s

/-- The pair link is lost: of the pair what R355 names changes, and of the clock the reference alone. -/
theorem pairLost_frame (s : State) : ∃ q, (pairLost s).prl = { s.prl with
      link := .down, version := 0, present := false, prun := false, lanes := 0, pst := lostState s.prl.role s.prl.pst, queue := q } ∧
    SameTime s.clk (pairLost s).clk ∧
    Occurs { s with prl := (pairLost s).prl, clk := (pairLost s).clk } (pairLost s) := by
  obtain ⟨q, e, h⟩ := pairFlush_frame { s with prl := { s.prl with
    link := .down, version := 0, present := false, prun := false, lanes := 0, pst := lostState s.prl.role s.prl.pst } }
  obtain ⟨hc, h'⟩ := followRef_frame (pairFlush { s with prl := { s.prl with
    link := .down, version := 0, present := false, prun := false, lanes := 0, pst := lostState s.prl.role s.prl.pst } })
  have hprl := h'.prl.trans e
  refine ⟨q, hprl, ?_, ?_⟩
  · rw [h.clk] at hc
    exact hc
  · have := (h.withClk (pairLost s).clk).trans h'
    rwa [← hprl] at this

end
end Sys2Proof.Claims
end

section
/-!
PROOF. Supplies, PFAIL and the reset (R401 to R403, R433, R463).
-/
namespace Sys2Proof.Claims
open Sys2Proof Sys2Proof.Machine

section
variable {s : State}

/-! A store begins. -/

theorem counterInc_frame (id : BitVec 16) (s : State) : Occurs { s with nvs := (counterInc id s).nvs } (counterInc id s) := by
  obtain ⟨d, w, c, e, h⟩ := recAlloc_eq id 12 true s
  cases d with
  | none =>
    have hinc : counterInc id s = ({ s with nvs := { s.nvs with win := w, cells := c, evt := e } } : State).raise 981 .uc 0x0905 (id.setWidth 32) := by
      unfold counterInc
      rw [h]
    have hnvs : (counterInc id s).nvs = { s.nvs with win := w, cells := c, evt := e } := by rw [hinc, State.raise_nvs]
    rw [hnvs, hinc]
    exact occurs_raise ..
  | some d =>
    obtain ⟨a1, l1, a2, l2, hinc⟩ : ∃ a1 l1 a2 l2, counterInc id s =
        nvThroughW a1 l1 (nvThroughW a2 l2 { s with nvs := { s.nvs with win := w, cells := c, evt := e } }) := by
      unfold counterInc
      rw [h]
      exact ⟨_, _, _, _, by dsimp only⟩
    obtain ⟨w2, c2, e2⟩ := nvThroughW_eq a2 l2 { s with nvs := { s.nvs with win := w, cells := c, evt := e } }
    obtain ⟨w1, c1, e1⟩ := nvThroughW_eq a1 l1 (nvThroughW a2 l2 { s with nvs := { s.nvs with win := w, cells := c, evt := e } })
    rw [hinc, e1, e2]
    exact .refl _

theorem counterAll_frame (s : State) : Occurs { s with nvs := (counterAll s).nvs } (counterAll s) := by
  have hfold : ∀ (l : List (BitVec 16)) (v : State), Occurs { v with nvs := (l.foldl (fun s id => counterInc id s) v).nvs }
      (l.foldl (fun s id => counterInc id s) v) := fun l => by
    induction l with
    | nil => exact fun v => .refl v
    | cons id l ih => exact fun v => ((counterInc_frame id v).withNvs _).trans (ih (counterInc id v))
  exact hfold s.nvs.pendInc { s with nvs := { s.nvs with pendInc := [] } }

theorem storeBegin_frame (pages : List Nat) (tag : Option (BitVec 16)) (pf : Bool) (s : State) :
    Occurs { s with nvs := (storeBegin pages tag pf s).nvs } (storeBegin pages tag pf s) := by
  unfold storeBegin
  dsimp only
  obtain ⟨w1, c1, e1⟩ := nvThroughW_eq journalAt [lo32 s.clk.ts] s
  obtain ⟨w2, c2, e2⟩ := nvThroughW_eq (journalAt + 12) [0] (nvThroughW journalAt [lo32 s.clk.ts] s)
  rw [e2, e1]
  have h := counterAll_frame { s with nvs := { s.nvs with win := w2, cells := c2 } }
  exact h.withNvs { (counterAll { s with nvs := { s.nvs with win := w2, cells := c2 } }).nvs with
    storing := true, pfStore := pf, todo := pages, written := 0, start := s.now, tag := tag }

/-! Recording stops. -/

/-- A block's header is in the recorder's memory. -/
theorem hdrSync_eq (t n : Nat) (isOpen : Bool) (b : Bbr) : ∃ m, hdrSync t n isOpen b = { b with mem := m } := ⟨_, rfl⟩

/-- A block closed: its tier is no longer open, and the other tiers are as they were. -/
theorem closeBlk_tier (t : Nat) (ht : t < 3) (s : State) : ((closeBlk t s).bbr.tier t).isOpen = false ∧
    ∀ k, k < 3 → k ≠ t → ((closeBlk t s).bbr.tier k).isOpen = (s.bbr.tier k).isOpen := by
  by_cases h : (s.bbr.tier t).isOpen = true
  · obtain ⟨m, f, g, e⟩ : ∃ (m : List Host.Cell) (f : List Blk → List Blk) (g : TierSt → W), (closeBlk t s).bbr =
        { (s.bbr.modTier t fun x => { x with blks := f x.blks }).modTier t fun x => { x with isOpen := false, lastSeq := g x } with mem := m } := by
      rw [closeBlk, if_pos h]
      exact ⟨_, _, _, rfl⟩
    rw [e]
    match t, ht with
    | 0, _ => exact ⟨rfl, fun k _ hne => by match k, hne with | 1, _ => rfl | k + 2, _ => rfl⟩
    | 1, _ => exact ⟨rfl, fun k _ hne => by match k, hne with | 0, _ => rfl | k + 2, _ => rfl⟩
    | 2, _ => exact ⟨rfl, fun k hk hne => by match k, hk, hne with | 0, _, _ => rfl | 1, _, _ => rfl | 2, _, hne => exact absurd rfl hne⟩
  · rw [closeBlk, if_neg h]
    exact ⟨Bool.eq_false_iff.2 h, fun _ _ _ => rfl⟩

theorem closeBlk_eq (t : Nat) (s : State) : closeBlk t s = { s with bbr := (closeBlk t s).bbr } := by
  unfold closeBlk
  dsimp only
  split <;> rfl

/-- Recording closed: every tier is closed, and the recorder alone changes. -/
theorem closeAll_effect (s : State) : closeAll false s = { s with bbr := (closeAll false s).bbr } ∧
    (closeAll false s).bbr.esp.isOpen = false ∧ (closeAll false s).bbr.lun.isOpen = false ∧
    (closeAll false s).bbr.car.isOpen = false := by
  have hall : closeAll false s = closeBlk 2 (closeBlk 1 (closeBlk 0 s)) := rfl
  obtain ⟨h0, _⟩ := closeBlk_tier 0 (by decide) s
  obtain ⟨h1, k1⟩ := closeBlk_tier 1 (by decide) (closeBlk 0 s)
  obtain ⟨h2, k2⟩ := closeBlk_tier 2 (by decide) (closeBlk 1 (closeBlk 0 s))
  rw [hall]
  refine ⟨?_, ?_, ?_, h2⟩
  · rw [closeBlk_eq 2, closeBlk_eq 1, closeBlk_eq 0]
  · exact (k2 0 (by decide) (by decide)).trans ((k1 0 (by decide) (by decide)).trans h0)
  · exact (k2 1 (by decide) (by decide)).trans h1

/-! PFAIL. -/

/-- An occurrence with a free code has been raised in its promoted class (R377). -/
theorem raised_raiseC_promoted {src : Nat} (hk : srcKind src ≠ 2) (s : State) (cls : EvClass) (ctx task : Nat) :
    ∃ code, raised (s.raiseC src cls ctx task) src (promoted s src cls) code := ⟨_, raised_raise hk _ cls _ _ ctx task⟩

/-- The store of all dirty pages as the power-fail sequence begins it (Table 19.2): the last part of `powerFail`. -/
def failStore (s : State) : State :=
  let v := { s with fcr := { s.fcr with aliveRun := false, alive := false }, nvs := { s.nvs with pfSeq := true } }
  let b := storeBegin (v.nvs.dirty.foldl insertNat (if v.nvs.storing then v.nvs.todo else []))
    (if v.nvs.storing then v.nvs.tag else none) true v
  { b with nvs := { b.nvs with written := if v.nvs.storing then v.nvs.written else 0 } }

/-- The chip in STORE, its final frames and its hops (Table 19.2): the first part of `powerFail`, once recording has stopped. -/
def failQuiet (s : State) : State :=
  { s with
    clk := { s.clk with chip := .store }, link := s.link.map fun x => if x.inUse then { x with finals := 4 } else x
    jnb := { s.jnb with ja := hopLost s.jnb.ja, jb := hopLost s.jnb.jb } }

theorem powerFail_eq (s : State) : powerFail s = failStore (pairLost (failQuiet (closeAll false s))) := rfl

theorem failStore_effect (s : State) : ∃ v, Occurs v (failStore s) ∧
    v = { s with fcr := { s.fcr with aliveRun := false, alive := false }, nvs := (failStore s).nvs } ∧
    (failStore s).nvs.pfSeq = true ∧ (failStore s).nvs.storing = true ∧ (failStore s).nvs.pfStore = true ∧
    ∀ p ∈ s.nvs.dirty, p ∈ (failStore s).nvs.todo := by
  have hmem : ∀ p ∈ s.nvs.dirty, p ∈ s.nvs.dirty.foldl insertNat (if s.nvs.storing then s.nvs.todo else []) := fun p hp =>
    (mem_foldl_insertNat (fun p => p) _ _ p).2 (.inl ⟨p, hp, rfl⟩)
  unfold failStore
  dsimp only
  revert hmem
  generalize s.nvs.dirty.foldl insertNat (if s.nvs.storing then s.nvs.todo else []) = l
  generalize (if s.nvs.storing then s.nvs.tag else none) = tag
  generalize (if s.nvs.storing then s.nvs.written else 0) = n
  intro hmem
  obtain ⟨y, hy⟩ : ∃ y : State, y = { s with fcr := { s.fcr with aliveRun := false, alive := false }, nvs := { s.nvs with pfSeq := true } } :=
    ⟨_, rfl⟩
  rw [← hy]
  obtain ⟨w, c, e, hnv⟩ := storeBegin_nvs l tag true y
  have hst := storeBegin_frame l tag true y
  refine ⟨_, hst.withNvs { (storeBegin l tag true y).nvs with written := n }, ?_, ?_, ?_, ?_, ?_⟩
  · rw [hy]
  · rw [hnv, hy]
  · rw [hnv]
  · rw [hnv]
  · rw [hnv]
    exact hmem

/-- The power-fail sequence begins (Table 19.2). -/
theorem powerFail_effect (s : State) :
    (∀ src cls code, raised s src cls code → raised (powerFail s) src cls code) ∧
    (powerFail s).clk.chip = .store ∧ (powerFail s).nvs.pfSeq = true ∧ (powerFail s).nvs.storing = true ∧
    (powerFail s).nvs.pfStore = true ∧ (∀ p ∈ s.nvs.dirty, p ∈ (powerFail s).nvs.todo) ∧
    (powerFail s).fcr.alive = false ∧ (powerFail s).fcr.aliveRun = false ∧
    (powerFail s).jnb.ja.hop = .down ∧ (powerFail s).jnb.jb.hop = .down ∧ (powerFail s).prl.link = .down ∧
    (powerFail s).bbr.esp.isOpen = false ∧ (powerFail s).bbr.lun.isOpen = false ∧ (powerFail s).bbr.car.isOpen = false ∧
    (powerFail s).link = s.link.map (fun x => if x.inUse then { x with finals := 4 } else x) ∧ (powerFail s).chan = s.chan := by
  obtain ⟨b, hb, he, hl, hc⟩ : ∃ b, closeAll false s = { s with bbr := b } ∧ b.esp.isOpen = false ∧ b.lun.isOpen = false ∧
      b.car.isOpen = false := ⟨_, closeAll_effect s⟩
  rw [powerFail_eq, hb]
  obtain ⟨x, hx⟩ : ∃ x : State, x = failQuiet { s with bbr := b } := ⟨_, rfl⟩
  rw [← hx]
  obtain ⟨q, hprl, ⟨_, _, _, _, _, hclk⟩, hp⟩ := pairLost_frame x
  obtain ⟨v, ho, hv, h1, h2, h3, h4⟩ := failStore_effect (pairLost x)
  obtain ⟨a, d, w, r, hf⟩ := ho.fcr
  refine ⟨fun src cls code hr => ?_, ?_, h1, h2, h3, fun p hd => h4 p ?_, ?_, ?_, ?_, ?_, ?_, ?_, ?_, ?_, ?_, ?_⟩
  · have hx1 : raised { x with prl := (pairLost x).prl, clk := (pairLost x).clk } src cls code := by rw [hx]; exact hr
    exact ho.raised (by rw [hv]; exact hp.raised hx1)
  · rw [ho.clk, hv, hclk, hx]; rfl
  · rw [hp.nvs, hx]; exact hd
  · rw [hf, hv]
  · rw [hf, hv]
  · rw [ho.jnb, hv, hp.jnb, hx]; rfl
  · rw [ho.jnb, hv, hp.jnb, hx]; rfl
  · rw [ho.prl, hv, hprl]
  · rw [ho.bbr, hv, hp.bbr, hx]; exact he
  · rw [ho.bbr, hv, hp.bbr, hx]; exact hl
  · rw [ho.bbr, hv, hp.bbr, hx]; exact hc
  · rw [ho.link, hv, hp.link, hx]; rfl
  · rw [ho.chan, hv, hp.chan, hx]; rfl

/-- The reference and the host link taken up at the release of a reset (R24, R210, R436). -/
theorem wakeUp_effect (s : State) : SameTime s.clk (followRef (hostTrain (toWaitHost s))).clk ∧
    (followRef (hostTrain (toWaitHost s))).nvs = s.nvs ∧ (followRef (hostTrain (toWaitHost s))).chan = s.chan ∧
    (followRef (hostTrain (toWaitHost s))).ctx = s.ctx ∧
    (s.boot.latched = false → (followRef (hostTrain (toWaitHost s))).boot.stage = s.boot.stage) := by
  obtain ⟨n, e⟩ := toWaitHost_eq s
  obtain ⟨ht, ho⟩ := followRef_frame (hostTrain (toWaitHost s))
  have hstage : s.boot.latched = false → n = s.boot.stage := fun hl => by
    have hsame : toWaitHost s = s := by unfold toWaitHost; rw [hl]; simp
    exact (congrArg (fun u : State => u.boot.stage) (e.symm.trans hsame))
  rw [hostTrain_eq, e] at ht ho ⊢
  exact ⟨ht, ho.nvs, ho.chan, ho.ctx, fun hl => (congrArg Boot.stage ho.boot).trans (hstage hl)⟩

end

/-- A link that runs is in use (R184). -/
theorem inUse_of_up {x : Link} (h : x.st = .up ∨ x.st = .hold) : x.inUse = true := by
  unfold Link.inUse
  rcases h with h | h <;> rw [h] <;> decide

/-- Settles O37. -/
theorem supplyAndReset : Obligations.SupplyAndReset := by
  intro s
  have hpf : Does .pfailAssert s _ := rfl
  have hvnv : Does .vnvLow s _ := rfl
  have hexit : Does .storeExitReset s _ := rfl
  have hrel : Does .resetRelease s _ := rfl
  refine ⟨fun i => ?supply, fun h => ?again, fun hc hq hr => ?inRecall, fun hc hq hr => ?fail, rfl, ?vnv, fun z h1 h2 h3 h4 h5 => ?exit, fun h => ?stay,
    ⟨_, rfl, rfl, rfl, rfl, rfl, rfl, rfl, rfl, rfl, rfl, rfl⟩, fun hc => ?release, fun hc => ?held⟩
  case supply =>
    have hk : srcKind (973 + i.val) ≠ 2 := by revert i; decide
    have hsup : Does (.supplyOutOfWindow i) s _ := rfl
    refine ⟨fun h => ?_, fun h1 h2 => ?_⟩
    · rwa [if_pos (by simpa using h)] at hsup
    · rw [if_neg (by simp [h1, h2])] at hsup
      obtain ⟨code, hr⟩ := raised_raiseC_fe hk { s with boot := { s.boot with supplyOut := bitPut s.boot.supplyOut i.val true } } 0x1FF 0xFFFF
      exact ⟨_, code, hsup, (occurs_raiseC ..).boot, hr⟩
  case again => rwa [if_pos (by simpa using h)] at hpf
  case inRecall =>
    rw [if_neg (by simp [hc, hq])] at hpf
    obtain ⟨code, hra⟩ := raised_raiseC_promoted (src := 980) (by decide)
      { s with nvs := { s.nvs with pfailIn := true, released := none } } .ce 0x1FF 0xFFFF
    have hn := (occurs_raiseC { s with nvs := { s.nvs with pfailIn := true, released := none } } 980 .ce 0x1FF 0xFFFF).nvs
    dsimp only at hpf
    rw [if_pos (by rw [hn]; exact hr)] at hpf
    exact ⟨_, code, hpf, hra, rfl, rfl, rfl, by rw [hn], by rw [hn]⟩
  case fail =>
    rw [if_neg (by simp [hc, hq])] at hpf
    obtain ⟨code, hra⟩ := raised_raiseC_promoted (src := 980) (by decide)
      { s with nvs := { s.nvs with pfailIn := true, released := none } } .ce 0x1FF 0xFFFF
    have ho := occurs_raiseC { s with nvs := { s.nvs with pfailIn := true, released := none } } 980 .ce 0x1FF 0xFFFF
    dsimp only at hpf
    rw [if_neg (by rw [ho.nvs]; simp [hr])] at hpf
    obtain ⟨h1, h2, h3, h4, h5, h6, h7, h8, h9, h10, h11, h12, h13, h14, h15, h16⟩ := powerFail_effect
      (({ s with nvs := { s.nvs with pfailIn := true, released := none } } : State).raiseC 980 .ce)
    refine ⟨_, code, hpf, h1 _ _ _ hra, h2, h3, h4, h5, by rw [ho.nvs] at h6; exact h6, h7, h8, h9, h10, h11, h12, h13, h14, fun l hl => ?_,
      h16.trans ho.chan⟩
    rw [State.lk, h15, ho.link]
    have hv : vat (s.link.map fun x => if x.inUse then { x with finals := 4 } else x) l.val Link.init =
        (fun x : Link => if x.inUse then { x with finals := 4 } else x) (s.lk l.val) := by
      simp [vat, State.lk]
    rw [hv]
    dsimp only
    rw [if_pos (inUse_of_up hl)]
  case vnv =>
    by_cases h : s.nvs.storing = true
    · cases hl : s.nvs.todo with
      | nil =>
        simp only [h, hl] at hvnv
        exact ⟨_, hvnv, rfl, rfl, rfl, rfl, fun _ => rfl⟩
      | cons p r =>
        simp only [h, hl] at hvnv
        refine ⟨_, hvnv, rfl, rfl, rfl, rfl, fun h' => ?_⟩
        rcases h' with h' | h'
        · exact absurd (h.symm.trans h') (by decide)
        · exact absurd h' (by simp)
    · simp only [Bool.eq_false_iff.2 h] at hvnv
      exact ⟨_, hvnv, rfl, rfl, rfl, rfl, fun _ => rfl⟩
  case exit => rwa [if_pos (by simp [h1, h2, h3, h4, h5])] at hexit
  case stay =>
    refine Eq.trans hexit (congrArg (fun x => Host.Outcome.next (settle x)) (if_neg ?_))
    rcases h with h | h | h | ⟨z, h, h'⟩
    · simp [h]
    · simp [h]
    · simp [h]
    · simp [h, h']
  case release =>
    rw [if_pos hc] at hrel
    obtain ⟨⟨_, _, _, _, _, hclk⟩, hn, hch, hcx, hst⟩ := wakeUp_effect { s with
      clk := { s.clk with chip := .boot, rootLock := true, tickRun := true, tc := 0, ts := 0 }
      nvs := { s.nvs with recalling := true }
      upe := { s.upe with
        manSlot := (lat ((dirUsed s).getD []) 0 0).bit 0, fwSlot := (lat ((dirUsed s).getD []) 0 0).bit 1
        imgSlot := (lat ((dirUsed s).getD []) 0 0).bit 2, mseqConf := lat ((dirUsed s).getD []) 1 0 }
      boot := { s.boot with rstLow := false, supplyOut := 0, stage := 1 } }
    exact ⟨_, hrel, by rw [hclk], by rw [hclk], by rw [hclk], by rw [hclk], by rw [hn], hst, hch, hcx⟩
  case held => rwa [if_neg hc] at hrel

end Sys2Proof.Claims
end

section
/-!
PROOF. The boot ROM, GO, recall, ALIVE and the boot image (R397, R398, R404, R435 to R441).
-/
namespace Sys2Proof.Claims
open Sys2Proof Sys2Proof.Machine

section
variable {s u v : State}

/-- From `s` to `u` records, links, messages and the update's own state were kept: the clock, the channels, the contexts, the thermal
unit, the admission, and of the firmware what it started with, are as they were. -/
structure Housekeeping (s u : State) : Prop where
  clk : u.clk = s.clk
  chan : u.chan = s.chan
  ctx : u.ctx = s.ctx
  tmu : u.tmu = s.tmu
  adm : u.adm = s.adm
  ready : u.nvs.ready = s.nvs.ready
  fwReady : u.kio.fwReady = s.kio.fwReady
  stage : u.boot.stage = s.boot.stage
  fwTick : u.boot.fwTick = s.boot.fwTick

theorem Housekeeping.refl (s : State) : Housekeeping s s := ⟨rfl, rfl, rfl, rfl, rfl, rfl, rfl, rfl, rfl⟩

theorem Housekeeping.trans (h : Housekeeping s u) (h' : Housekeeping u v) : Housekeeping s v :=
  ⟨h'.clk.trans h.clk, h'.chan.trans h.chan, h'.ctx.trans h.ctx, h'.tmu.trans h.tmu, h'.adm.trans h.adm, h'.ready.trans h.ready,
    h'.fwReady.trans h.fwReady, h'.stage.trans h.stage, h'.fwTick.trans h.fwTick⟩

theorem Housekeeping.foldl {α : Type} {f : State → α → State} (hf : ∀ s a, Housekeeping s (f s a)) (l : List α) (s : State) :
    Housekeeping s (l.foldl f s) := by
  induction l generalizing s with
  | nil => exact .refl s
  | cons a l ih => exact (hf s a).trans (ih (f s a))

theorem housekeeping_raiseP (s : State) (src : Nat) (cls : EvClass) (code : Nat) : Housekeeping s (s.raiseP src cls code) := by
  have h := occurs_raiseP s src cls code 0x1FF 0xFFFF
  obtain ⟨_, _, _, _, _, e⟩ := raise_kio { s with fresh := s.fresh + 1 } src cls code (nw (Config.draw s.fresh 0 0xFFFFFFFF)) 0x1FF 0xFFFF
  exact ⟨h.clk, h.chan, h.ctx, h.tmu, h.adm, by rw [h.nvs], (congrArg Kio.fwReady e :), by rw [h.boot], by rw [h.boot]⟩

theorem housekeeping_nvThroughW (off : Nat) (ws : List W) (s : State) : Housekeeping s (nvThroughW off ws s) := by
  obtain ⟨w, c, e⟩ := nvThroughW_eq off ws s
  rw [e]
  exact ⟨rfl, rfl, rfl, rfl, rfl, rfl, rfl, rfl, rfl⟩

theorem housekeeping_setPhase (p : UpdPhase) (s : State) : Housekeeping s (setPhase p s) :=
  Housekeeping.trans (u := { s with upe := { s.upe with phase := p } }) ⟨rfl, rfl, rfl, rfl, rfl, rfl, rfl, rfl, rfl⟩
    (housekeeping_nvThroughW _ _ _)

theorem housekeeping_voteSend (kind : Nat) (rest : List W) (s : State) : Housekeeping s (voteSend kind rest s) := by
  unfold voteSend
  split
  · exact .refl s
  · exact ⟨rfl, rfl, rfl, rfl, rfl, rfl, rfl, rfl, rfl⟩

theorem housekeeping_svcSend (l : Nat) (host : Bool) (kind : Nat) (arg : BitVec 8) (words : List W) (tag : Option (BitVec 16)) (s : State) :
    Housekeeping s (svcSend l host kind arg words tag s) := ⟨rfl, rfl, rfl, rfl, rfl, rfl, rfl, rfl, rfl⟩

theorem housekeeping_moduleCtrl (n : Nat) (s : State) : Housekeeping s (moduleCtrl n s) := by
  unfold moduleCtrl
  refine .foldl (fun s p => .foldl (fun s l => ?_) _ s) _ s
  dsimp only
  split
  · exact (housekeeping_svcSend ..).trans (housekeeping_svcSend ..)
  · exact housekeeping_svcSend ..

theorem housekeeping_invalidateSlots (s : State) : Housekeeping s (invalidateSlots s) := by
  unfold invalidateSlots flashErase
  exact ⟨rfl, rfl, rfl, rfl, rfl, rfl, rfl, rfl, rfl⟩

/-- The update that page 4,034 shows is taken up as housekeeping (R438). -/
theorem housekeeping_leftover (s : State) : Housekeeping s (leftover s) := by
  unfold leftover
  dsimp only
  have hset : ∀ (u : Upe) (b : UpdPhase), Housekeeping s { s with upe := u, boot := { s.boot with leftPhase := b } } := fun _ _ =>
    ⟨rfl, rfl, rfl, rfl, rfl, rfl, rfl, rfl, rfl⟩
  have hlog : ∀ (c o : Nat) (s : State), Housekeeping s (updLog c o s) := fun _ _ _ => housekeeping_nvThroughW ..
  have hupe : ∀ (s : State) (u : Upe), Housekeeping s { s with upe := u } := fun _ _ => ⟨rfl, rfl, rfl, rfl, rfl, rfl, rfl, rfl, rfl⟩
  split
  · exact hset _ _
  · split
    · refine .trans ?_ (housekeeping_setPhase .idle _)
      refine .trans ?_ (housekeeping_invalidateSlots _)
      refine .trans ?_ (hupe _ _)
      refine .trans ?_ (housekeeping_voteSend ..)
      refine .trans ?_ (housekeeping_moduleCtrl ..)
      refine .trans ?_ (housekeeping_raiseP ..)
      refine .trans ?_ (hlog ..)
      exact hset _ _
    · split
      · refine .trans ?_ (housekeeping_setPhase .staging _)
        exact hset _ _
      · split
        · exact hset _ _
        · exact .refl s

theorem housekeeping_bootEnable (s : State) : Housekeeping s (bootEnable s) := by
  unfold bootEnable
  split
  · exact .refl s
  · split
    · exact .foldl (f := fun s (d : LinkDecl) => slcEnable d.link true s) (fun _ _ => ⟨rfl, rfl, rfl, rfl, rfl, rfl, rfl, rfl, rfl⟩) _ s
    · exact .refl s

theorem housekeeping_raise (s : State) (src : Nat) (cls : EvClass) (code : Nat) (p : W) : Housekeeping s (s.raise src cls code p) := by
  have h := occurs_raise s src cls code p 0x1FF 0xFFFF
  obtain ⟨_, _, _, _, _, e⟩ := raise_kio s src cls code p 0x1FF 0xFFFF
  exact ⟨h.clk, h.chan, h.ctx, h.tmu, h.adm, by rw [h.nvs], (congrArg Kio.fwReady e :), by rw [h.boot], by rw [h.boot]⟩

/-! RUN is entered. -/

theorem enterRun_stay (h : s.kio.fwReady = false ∨ s.nvs.ready = false) : enterRun s = s := by
  unfold enterRun
  rcases h with h | h <;> rw [h] <;> simp

/-- RUN is entered once the firmware runs and recall has ended (R435). -/
theorem enterRun_run (hc : s.clk.chip = .boot) (hf : s.kio.fwReady = true) (hr : s.nvs.ready = true) :
    (enterRun s).clk.chip = .run ∧ (enterRun s).tmu.run = true ∧ (enterRun s).chan = s.chan ∧ (enterRun s).ctx = s.ctx ∧
    (enterRun s).kio.fwReady = true ∧ (enterRun s).boot.stage = s.boot.stage ∧ (enterRun s).boot.fwTick = s.boot.fwTick := by
  obtain ⟨v, hv⟩ : ∃ v, v = { s with clk := { s.clk with chip := .run }, tmu := { s.tmu with run := true } } := ⟨_, rfl⟩
  have e : enterRun s = leftover (followRef v) := by rw [enterRun, if_pos (by rw [hc, hf, hr]; rfl), hv]
  have hk : (followRef v).kio.fwReady = v.kio.fwReady := by
    have hset : ∀ r, (setRef r v).kio.fwReady = v.kio.fwReady := fun r => by unfold setRef; split <;> rfl
    unfold followRef
    split
    · split
      · exact hset _
      · split
        · obtain ⟨_, _, _, _, _, e⟩ := raiseC_kio (ctuMon 4 { v with clk := { v.clk with
            refsel := .xtal, holdover := true, offs := [], alignValid := false } }) 971 .ce 0x1FF 0xFFFF
          exact (congrArg Kio.fwReady e :)
        · rfl
    · rfl
  obtain ⟨⟨_, _, _, _, _, hclk⟩, ho⟩ := followRef_frame v
  have hl := housekeeping_leftover (followRef v)
  rw [e]
  refine ⟨by rw [hl.clk, hclk, hv], by rw [hl.tmu, ho.tmu, hv], by rw [hl.chan, ho.chan, hv], by rw [hl.ctx, ho.ctx, hv],
    by rw [hl.fwReady, hk, hv]; exact hf, by rw [hl.stage, ho.boot, hv], by rw [hl.fwTick, ho.boot, hv]⟩

/-- The firmware has started (R435, R440). -/
theorem firmwareStart_effect (p : BitVec 16) (hc : s.clk.chip = .boot) (hf : s.kio.fwReady = false)
    (h : s.boot.stage = 5 ∨ (1 ≤ s.boot.stage.toNat ∧ s.boot.stage.toNat ≤ 3 ∧ romCode s = 0)) :
    ∃ u, Does (.firmwareStart p) s u ∧ u.kio.fwReady = true ∧ u.boot.stage = 6 ∧ u.boot.fwTick = s.now ∧
      (s.nvs.ready = false → u.clk.chip = .boot) ∧ (s.nvs.ready = true → u.clk.chip = .run ∧ u.tmu.run = true) ∧
      u.chan = s.chan ∧ u.ctx = s.ctx := by
  have hu : Does (.firmwareStart p) s _ := rfl
  rw [if_pos (by rcases h with h | ⟨h1, h2, h3⟩ <;> simp [*])] at hu
  obtain ⟨j, q, r, v, hv, hd⟩ : ∃ (j : Jnb) (q : Upe) (r : Prl), ∃ v, (v = { s with
      boot := { s.boot with stage := 6, fwTick := s.now, halves := vput s.boot.halves s.boot.half.toNat (fld 2 24 ||| fld 3 16 ||| p.setWidth 32) }
      kio := { s.kio with fwReady := true }, jnb := j, upe := q, prl := r } : Prop) ∧ Does (.firmwareStart p) s (bootEnable (enterRun v)) :=
    ⟨_, _, _, _, rfl, hu⟩
  have hb := housekeeping_bootEnable (enterRun v)
  refine ⟨_, hd, ?_⟩
  rw [hb.clk, hb.tmu, hb.chan, hb.ctx, hb.fwReady, hb.stage, hb.fwTick]
  cases hr : s.nvs.ready with
  | false =>
    rw [enterRun_stay (.inr (by rw [hv]; exact hr)), hv]
    exact ⟨rfl, rfl, rfl, fun _ => hc, fun h => Bool.noConfusion h, rfl, rfl⟩
  | true =>
    obtain ⟨h1, h2, h3, h4, h5, h6, h7⟩ := enterRun_run (s := v) (by rw [hv]; exact hc) (by rw [hv]) (by rw [hv]; exact hr)
    rw [h1, h2, h3, h4, h5, h6, h7, hv]
    exact ⟨rfl, rfl, rfl, fun h => Bool.noConfusion h, fun _ => ⟨rfl, rfl⟩, rfl, rfl⟩

/-! Recall. -/

/-- Recall ends before the firmware runs: no admission and no phase follows from it, and what the journal shows is raised (R397, R404). -/
theorem recallTail_effect (hf : s.kio.fwReady = false) :
    ∃ v, fixEpoch (enterRun (if journalCut s then (nvFlag 2 s).raiseP 981 .uc 0x0903 else s)) = fixEpoch v ∧
      v.nvs = { s.nvs with evt := v.nvs.evt } ∧ v.clk = s.clk ∧ v.adm = s.adm ∧
      (s.nvs.evt.getLsbD 5 = true → v.nvs.evt.getLsbD 5 = true) ∧ s.fcr.todo ⊆ v.fcr.todo := by
  split
  · have h := occurs_raiseP (nvFlag 2 s) 981 .uc 0x0903 0x1FF 0xFFFF
    have hk := (housekeeping_raiseP (nvFlag 2 s) 981 .uc 0x0903).fwReady
    refine ⟨_, by rw [enterRun_stay (.inl (hk.trans hf))], by rw [h.nvs]; rfl, h.clk, h.adm, fun h5 => ?_, h.todo⟩
    rw [h.nvs]
    exact (bitPut_getLsbD_ne _ (by decide) _).trans h5
  · exact ⟨_, by rw [enterRun_stay (.inl hf)], rfl, rfl, rfl, id, List.Subset.refl _⟩

/-- An epoch fixed for an admission that waits changes the admission and the kiosk alone. -/
theorem fixEpoch_eq (s : State) : ∃ a k, fixEpoch s = { s with adm := a, kio := k } := by
  unfold fixEpoch
  split
  · split
    · obtain ⟨q, e⟩ := kFix_eq _ { s with adm := { s.adm with run := some { (‹AdmRun›) with epoch := some (s.epoch + 1) } } }
      exact ⟨_, q, e⟩
    · exact ⟨s.adm, s.kio, rfl⟩
  · exact ⟨s.adm, s.kio, rfl⟩

/-- Recall has ended with every word right (R397). -/
theorem nvRecallEnd_effect (hr : s.nvs.recalling = true) (hf : s.kio.fwReady = false) (hrun : s.adm.run = none) :
    ∃ u, Does (.nvRecallEnd []) s u ∧
    u.nvs.win = s.nvs.cells ∧ u.nvs.dirty = [] ∧ u.nvs.recalling = false ∧ u.nvs.ready = true ∧ u.clk = s.clk := by
  have hu : Does (.nvRecallEnd []) s _ := rfl
  rw [if_pos hr] at hu
  obtain ⟨w, v, hv, hd⟩ : ∃ w v, (v = { s with nvs := { s.nvs with
      win := s.nvs.cells, dirty := [], recalling := false, ready := true, recallReg := w } } : Prop) ∧
      Does (.nvRecallEnd []) s (fixEpoch (enterRun (if journalCut v then (nvFlag 2 v).raiseP 981 .uc 0x0903 else v))) :=
    ⟨_, _, rfl, hu⟩
  obtain ⟨x, e, hn, hc, ha, _, _⟩ := recallTail_effect (s := v) (by rw [hv]; exact hf)
  have hfix : fixEpoch x = x := by
    unfold fixEpoch
    rw [ha, hv, hrun]
  rw [e, hfix] at hd
  exact ⟨x, hd, by rw [hn, hv], by rw [hn, hv], by rw [hn, hv], by rw [hn, hv], by rw [hc, hv]⟩

/-- Recall has ended with one word that could not be corrected: it reads 0 (R398). -/
theorem nvRecallEnd_word (hr : s.nvs.recalling = true) (hf : s.kio.fwReady = false) (a : Nat) (ha : a < 262144) :
    ∃ u, Does (.nvRecallEnd [a]) s u ∧
    u.nvs.win = Memory.writeW s.nvs.cells (4 * a) 0 ∧ raised u 981 .uc 0x0904 ∧ u.nvs.evt.getLsbD 5 = true := by
  have hu : Does (.nvRecallEnd [a]) s _ := rfl
  have hfil : [a].filter (· < nvBytes / 4) = [a] := List.filter_eq_self.2 fun x hx => by
    rw [List.mem_singleton.1 hx]
    exact decide_eq_true ha
  rw [if_pos hr] at hu
  dsimp only at hu
  rw [hfil, List.foldl_cons, List.foldl_cons, List.foldl_nil, List.foldl_nil] at hu
  generalize (fld (([a].foldl (fun l a => insertNat l (a / 64)) []).length) 16 ||| fld (min (s.now / 2) 65535) 0) = w at hu
  generalize nw (a / 64) = p at hu
  generalize Memory.writeW s.nvs.cells (4 * a) 0 = win at hu ⊢
  obtain ⟨v, hv⟩ : ∃ v, v = (nvFlag 5 { s with nvs := { s.nvs with
      win := win, dirty := [], recalling := false, ready := true, recallReg := w } }).raise 981 .uc 0x0904 p := ⟨_, rfl⟩
  have hk := housekeeping_raise (nvFlag 5 { s with nvs := { s.nvs with
      win := win, dirty := [], recalling := false, ready := true, recallReg := w } }) 981 .uc 0x0904 p
  have hnv : v.nvs = { s.nvs with win := win, dirty := [], recalling := false, ready := true, recallReg := w, evt := bitPut s.nvs.evt 5 true } := by rw [hv, State.raise_nvs]; rfl
  rw [← hv] at hu hk
  obtain ⟨x, e, hn, _, _, h5, ht⟩ := recallTail_effect (s := v) (hk.fwReady.trans hf)
  obtain ⟨q, o, hx⟩ := fixEpoch_eq x
  have hra : raised v 981 .uc 0x0904 := by rw [hv]; exact raised_raise (by decide) ..
  rw [e] at hu
  refine ⟨_, hu, ?_, ?_, ?_⟩
  · rw [hx]
    exact (congrArg Nvs.win hn).trans (by rw [hnv])
  · obtain ⟨y, hy, h⟩ := hra
    rw [hx]
    exact ⟨y, ht hy, h⟩
  · rw [hx]
    exact h5 (by rw [hnv]; exact bitPut_getLsbD_self _ (by decide) _)

/-! The boot image. -/

theorem bootWaited_of (h : s.boot.fwTick + 10000 ≤ s.now) : bootLinksWaited s = true := by
  unfold bootLinksWaited
  rw [decide_eq_true h, Bool.true_or]

theorem askGrant_adm (g : Image) (s : State) : (askGrant g s).adm = s.adm := by
  unfold askGrant
  split <;> rfl

theorem partnerHolds_adm (crc : W) (s : State) : (partnerHolds crc s).adm = s.adm := by
  unfold partnerHolds
  split <;> rfl

/-- An admission that begins (R144): its checks run, and the image in force stays. -/
theorem admStart_effect (tag : Option (BitVec 16)) (ws : List W) (s : State) :
    (admStart tag ws s).adm.st = 1 ∧ (admStart tag ws s).adm.run.isSome = true ∧ (admStart tag ws s).adm.img = s.adm.img := by
  obtain ⟨g, r, e⟩ : ∃ g r, admStart tag ws s = askGrant g { partnerHolds (candOf ws s.adm.img).img.crc s with
      adm := { (partnerHolds (candOf ws s.adm.img).img.crc s).adm with st := 1, slices := 0, run := some r } } := ⟨_, _, rfl⟩
  rw [e, askGrant_adm, partnerHolds_adm]
  exact ⟨rfl, rfl, rfl⟩

end

/-- Settles O39. -/
theorem bootChain : Obligations.BootChain := by
  intro s
  have hal : Does .aliveStart s _ := rfl
  have hgo : Does .bootGo s (bootGo s) := rfl
  have hseek : Does .pairSeekTimeout s _ := rfl
  have hadm : Does .bootImageAdmit s _ := rfl
  refine ⟨fun p hc hf h => firmwareStart_effect p hc hf h, fun p h => ?noStart, fun c hc hf h1 h3 h => ?fail, fun hc hs => ⟨fun h => ?go, fun h => ?noGo⟩,
    fun h => ?goStage, fun hf ha hft hc he => ?alive, fun h => ?noAlive, fun h l => ?noRecall, fun hr hf hrun => nvRecallEnd_effect hr hf hrun,
    fun hr hf a ha => nvRecallEnd_word hr hf a ha, fun h1 h2 h3 h4 h5 h6 h7 => ?seek, fun h => ?noSeek,
    fun c h1 h2 h3 h4 h5 h6 h7 h8 h9 h10 => ?imageBad, fun ws h1 h2 h3 h4 h5 h6 h7 h8 h9 h10 h11 h12 => ?imageOk, fun h => ?noImage,
    bootWaited_of, fun h => ?join⟩
  case noStart =>
    have hu : Does (.firmwareStart p) s _ := rfl
    refine Eq.trans hu (congrArg (fun x => Host.Outcome.next (settle x)) (if_neg ?_))
    rcases h with h | h | ⟨h, h'⟩
    · simp [h]
    · simp [h]
    · simp only [Bool.and_eq_true, decide_eq_true_eq, Bool.or_eq_true, not_and, not_or]
      exact fun _ => ⟨fun _ => h', h⟩
  case fail =>
    have hu : Does (.bootFail c) s _ := rfl
    have hcond : (c = 1 || c != 0 && romCode s = c.toNat) = true := by
      rcases h with h | ⟨h, h'⟩
      · simp [h]
      · rw [bne_iff_ne.2 h, decide_eq_true h', Bool.and_self, Bool.or_true]
    rw [if_pos (by rw [hcond]; simp [*])] at hu
    exact ⟨_, hu, rfl, rfl, rfl, rfl⟩
  case go => rwa [bootGo, if_pos (by rw [hc, hs]; rfl), if_pos h] at hgo
  case noGo => rwa [bootGo, if_pos (by rw [hc, hs]; rfl), if_neg h] at hgo
  case goStage => rwa [bootGo, if_neg (by simpa using fun _ => h)] at hgo
  case alive =>
    rw [if_pos (by simp [hf, ha, hft, hc])] at hal
    refine ⟨_, hal, rfl, ?_, ?_, fun h => ?_, fun h => ?_⟩
    · dsimp only
      rw [he]
      decide
    · dsimp only
      rw [he]
      decide
    · simp [h]
    · simp [h]
  case noAlive =>
    refine Eq.trans hal (congrArg (fun x => Host.Outcome.next (settle x)) (if_neg ?_))
    rcases h with h | h | h <;> simp [h]
  case noRecall =>
    have hu : Does (.nvRecallEnd l) s _ := rfl
    rwa [h, if_neg Bool.false_ne_true] at hu
  case seek =>
    rw [if_pos (by simp [h1, h2, h3, h4, h5]; exact h7)] at hseek
    obtain ⟨_, ho⟩ := followRef_frame { s with prl := { s.prl with role := .lead, pst := .seek } }
    have hk : (setRole .lead .seek s).boot.imageKept = false := by rw [setRole, ho.boot]; exact h6
    dsimp only at hseek
    rw [hk, Bool.false_and, if_neg Bool.false_ne_true] at hseek
    exact ⟨_, hseek, by rw [setRole, ho.prl], by rw [setRole, ho.prl], by rw [setRole, ho.chan]⟩
  case noSeek =>
    refine Eq.trans hseek (congrArg (fun x => Host.Outcome.next (settle x)) (if_neg ?_))
    rcases h with h | h
    · simp [h]
    · simp
      intro _ _ _ _ _
      exact h
  case imageBad =>
    have hl : bootLinksWaited s = true := by rw [bootLinksWaited, h10, Bool.or_true]
    rw [if_pos (by simp [h1, h2, h3, h4, h5, h6, h7, h8, h9, hl]), h10] at hadm
    have ho := occurs_raiseP { s with boot := { s.boot with imageDone := true, imageKept := false } } 982 .uc (0x0A00 + c) 0x1FF 0xFFFF
    exact ⟨_, hadm, (congrArg Boot.imageDone ho.boot :), raised_raise (by decide) .., ho.adm⟩
  case imageOk =>
    have hl : bootLinksWaited s = true := by rw [bootLinksWaited, h12]; simp [h11]
    have hen : bootEnable s = s := by rw [bootEnable, h2, if_neg Bool.false_ne_true, h12]; simp [h11]
    rw [if_pos (by simp [h1, h2, h3, h4, h5, h6, h7, h8, h9, hl]), h12] at hadm
    dsimp only at hadm
    rw [hen, if_neg (by rw [h10]; decide)] at hadm
    obtain ⟨a1, a2, a3⟩ := admStart_effect none ws s
    exact ⟨_, hadm, a1, a2, a3.trans h7⟩
  case noImage =>
    refine Eq.trans hadm (congrArg (fun x => Host.Outcome.next (settle x)) (if_neg ?_))
    rcases h with h | h | h | h <;> simp [h]
  case join =>
    unfold bootJoinWaited
    rcases h with h | h | h <;> simp [h]

end Sys2Proof.Claims
end

section
/-!
PROOF. Host writes to registers: one equation per register that a statement names (R209, R358, R470 to R474), and what becomes of a
write by the chip's state and the pair's role.
-/
namespace Sys2Proof.Claims
open Sys2Proof Sys2Proof.Machine

section
variable {s : State}

/-- A write to a register outside the windows and the kiosk is a word write (R470). -/
theorem registerWrite_word (a : Nat) (v : W) (h : a < 0x200000) (h4 : a % 4 = 0) (hk : kioEffect a v = none) :
    exec (.registerWrite a 4 v) s = done (wordWrite a v s) := by
  have e : exec (.registerWrite a 4 v) s = execRegisterWrite a 4 v s := rfl
  rw [e, execRegisterWrite, if_neg (by simp; omega), if_neg (by simp; omega), if_neg (by simp [h4]), hk]

/-- A write to a mirrored register (R358). -/
theorem registerWrite_reg (a : Nat) (v : W) (f : State → State) (h : a < 0x200000) (h4 : a % 4 = 0) (hk : kioEffect a v = none)
    (hne : a ≠ 0x44 ∧ a ≠ 0x34004 ∧ a ≠ 0x1024 ∧ a ≠ 0x1004) (hc : clearEffect a v = none) (hr : regEffect a v = some f) :
    exec (.registerWrite a 4 v) s = done (hostWrite a 4 [v] f s) := by
  obtain ⟨h1, h2, h3, h5⟩ := hne
  rw [registerWrite_word a v h h4 hk]
  congr 1
  by_cases hre : s.clk.chip = .reset
  · rw [wordWrite, if_pos hre, hostWrite, if_pos hre]
  · rw [wordWrite, if_neg hre, if_neg h1, if_neg h2, if_neg (by simp [h3]), if_neg h5, hc, hr]

/-- A write to a register that clears by ones (R472). -/
theorem registerWrite_clear (a : Nat) (v : W) (f : State → State) (h : a < 0x200000) (h4 : a % 4 = 0) (hk : kioEffect a v = none)
    (hne : a ≠ 0x44 ∧ a ≠ 0x34004 ∧ a ≠ 0x1024 ∧ a ≠ 0x1004) (hc : clearEffect a v = some f) :
    exec (.registerWrite a 4 v) s = done (hostClear a f s) := by
  obtain ⟨h1, h2, h3, h5⟩ := hne
  rw [registerWrite_word a v h h4 hk]
  congr 1
  by_cases hre : s.clk.chip = .reset
  · rw [wordWrite, if_pos hre, hostClear, if_pos hre]
  · rw [wordWrite, if_neg hre, if_neg h1, if_neg h2, if_neg (by simp [h3]), if_neg h5, hc]

/-- The scratch register (R471). -/
theorem registerWrite_scratch (v : W) : exec (.registerWrite 0x50 4 v) s =
    done (hostWrite 0x50 4 [v] (fun s => { s with boot := { s.boot with scratch := v } }) s) :=
  registerWrite_reg 0x50 v _ (by decide) (by decide) rfl (by decide) rfl rfl

/-- TMU_TAMB (R470). -/
theorem registerWrite_tamb (v : W) : exec (.registerWrite 0x54004 4 v) s = done (hostWrite 0x54004 4 [v] (tambWrite v) s) :=
  registerWrite_reg 0x54004 v _ (by decide) (by decide) rfl (by decide) rfl rfl

/-- The wake mask, which DORMANT takes too (R30, R474). -/
theorem registerWrite_wake (v : W) (h : s.clk.chip = .dormant ∨ (s.clk.chip = .run ∧ s.prl.role = .solo)) :
    exec (.registerWrite 0x1024 4 v) s = done { s with clk := { s.clk with wake := v.extractLsb' 0 6 } } := by
  rw [registerWrite_word 0x1024 v (by decide) (by decide) rfl]
  congr 1
  rcases h with h | ⟨h, hr⟩
  · rw [wordWrite, if_neg (by rw [h]; decide), if_neg (by decide), if_neg (by decide), if_pos (by rw [h]; rfl)]
    rfl
  · have hreg : regEffect 0x1024 v = some fun s => { s with clk := { s.clk with wake := v.extractLsb' 0 6 } } := rfl
    rw [wordWrite, if_neg (by rw [h]; decide), if_neg (by decide), if_neg (by decide), if_neg (by rw [h]; decide), if_neg (by decide),
      hreg]
    exact hostWrite_solo h hr ..

end

/-- A LEAD that yields (R366): the partner's role, no link owned, and the loops as they were. -/
theorem yieldPair_effect (p : PState) (s : State) : ∃ c, SameTime s.clk c ∧
    Occurs { s with
      link := (relAll s).link, clk := c
      prl := { s.prl with role := .standby, pst := p, yieldNow := true, yields := s.prl.yields + 1, check := .none, dispute := none } }
      (yieldPair p s) := by
  obtain ⟨hc, ho⟩ := followRef_frame { relAll s with prl := { s.prl with role := .standby, pst := p } }
  refine ⟨_, hc, ?_⟩
  have h := ho.withPrl { s.prl with
    role := .standby, pst := p, yieldNow := true, yields := s.prl.yields + 1, check := .none, dispute := none }
  have e : yieldPair p s = { followRef { relAll s with prl := { s.prl with role := .standby, pst := p } } with
      prl := { (followRef { relAll s with prl := { s.prl with role := .standby, pst := p } }).prl with
        yieldNow := true, yields := (followRef { relAll s with prl := { s.prl with role := .standby, pst := p } }).prl.yields + 1
        check := .none, dispute := none } } := rfl
  rw [e, ho.prl]
  exact h

/-- Settles O44. -/
theorem hostWritesByRole : Obligations.HostWritesByRole := by
  intro s v
  have hw : exec (.registerWrite 0x50 4 v) s = _ := registerWrite_scratch v
  refine ⟨fun hc => ?_, fun hc => ⟨?_, ?_, ?_⟩, fun hc hr => ?_, fun hc hr hf => ?_, fun hc hr hf => ?_, fun hc hr hp hy => ?_,
    fun p hr hp hy hf => ?_, fun hc hm off ho => ?_⟩
  · rwa [hostWrite, if_pos hc] at hw
  · rwa [hostWrite, if_neg (by rw [hc]; decide), if_pos hc] at hw
  · have h := registerWrite_tamb (s := s) v
    rwa [hostWrite, if_neg (by rw [hc]; decide), if_pos hc] at h
  · exact registerWrite_wake v (.inl hc)
  · rwa [hostWrite, if_neg (by rw [hc]; decide), if_neg (by rw [hc]; decide), if_pos hr] at hw
  · rw [hostWrite, if_neg (by rw [hc]; decide), if_neg (by rw [hc]; decide), if_neg (by rw [hr]; decide), if_pos (by rw [hr, hf]; rfl)] at hw
    exact ⟨_, _, hw, rfl, rfl, rfl, rfl, rfl, rfl, rfl⟩
  · rwa [hostWrite, if_neg (by rw [hc]; decide), if_neg (by rw [hc]; decide), if_neg (by rw [hr]; decide), if_neg (by rw [hf]; simp)] at hw
  · have h : Does .prlYield s (prlYieldWrite s) := rfl
    rwa [prlYieldWrite, leadInSync, if_pos (by rw [hr, hp, hc]; rfl), hy] at h
  · have e : yieldDue s = yieldPair p { s with prl := { s.prl with yieldReq := none }, fcr := { s.fcr with fenceAfter := [] } } := by
      unfold yieldDue
      rw [hy]
      dsimp only
      rw [hf, List.foldl_nil, if_pos (by rw [leadInSync, hr, hp]; rfl)]
    obtain ⟨c, _, h⟩ := yieldPair_effect p { s with prl := { s.prl with yieldReq := none }, fcr := { s.fcr with fenceAfter := [] } }
    dsimp only
    rw [e]
    refine ⟨by rw [h.prl], by rw [h.prl], by rw [h.prl], by rw [h.prl], by rw [h.prl], fun l => ?_, by rw [h.chan], by rw [h.ctx]⟩
    rw [State.lk, h.link]
    simp only [relAll, vat, Vector.getElem_map, l.isLt, dif_pos]
    split <;> rfl
  · have h : Does (.sharedWindowWrite off [v]) s (sharedHostWrite off [v] s) := rfl
    have htake : [v].take ((0x400000 - off) / 4) = [v] := List.take_of_length_le (by simp only [List.length_singleton]; omega)
    rw [sharedHostWrite, if_neg (by rw [hc]; decide), if_pos hc, htake] at h
    exact ⟨_, h, Memory.readW_writeW off v hm, fun a ha => Memory.read_writeW_ne off a v hm ha, rfl⟩

end Sys2Proof.Claims
end

section
/-!
PROOF. Host writes to BAR0 and BAR2 on a device alone (R106, R209, R328, R395, R449, R460, R470 to R474).
-/
namespace Sys2Proof.Claims
open Sys2Proof Sys2Proof.Machine

section
variable {s : State}

/-! Coefficient banks. -/

theorem bankWrite_effect (n w : Nat) (v : W) {t : Task} {c : Nat} (ht : taskOfCh s n = some t) (hctx : ctxOf s t.num = some c) (hc : c < 512) :
    ((s.cx c).armed.isSome = true → ((bankWrite n w v s).cx c).wdrop = true ∧ (bankWrite n w v s).shared = s.shared) ∧
    ((s.cx c).armed = none → Memory.wf s.shared = true →
      Memory.wf (if (s.cx c).bankAct then (s.cx c).bank0 else (s.cx c).bank1) = true →
        Memory.readW (if (s.cx c).bankAct then ((bankWrite n w v s).cx c).bank0 else ((bankWrite n w v s).cx c).bank1) (4 * w) = v ∧
        (if (s.cx c).bankAct then ((bankWrite n w v s).cx c).bank1 else ((bankWrite n w v s).cx c).bank0) =
          (if (s.cx c).bankAct then (s.cx c).bank1 else (s.cx c).bank0) ∧
        Memory.readW (bankWrite n w v s).shared (4 * (t.bankAt + (if (s.cx c).bankAct then 0 else 128) + w)) = v) := by
  have hmod : ∀ f : Context → Context, (s.modCx c f).cx c = f (s.cx c) := fun f => vat_vmod_self _ hc f _
  refine ⟨fun ha => ?_, fun ha hm hb => ?_⟩
  · have e : bankWrite n w v s = s.modCx c fun x => { x with wdrop := true } := by
      simp only [bankWrite, ht, hctx, if_pos ha]
    rw [e, hmod]
    exact ⟨rfl, rfl⟩
  · have e : bankWrite n w v s = bankPut c t (!(s.cx c).bankAct) w v s := by
      simp only [bankWrite, ht, hctx, ha, Option.isSome_none, Bool.false_eq_true, if_false]
    rw [e]
    cases hact : (s.cx c).bankAct with
    | true =>
      rw [hact] at hb
      have hcx : (bankPut c t false w v s).cx c = { s.cx c with bank0 := Memory.writeW (s.cx c).bank0 (4 * w) v } :=
        hmod fun x => { x with bank0 := Memory.writeW x.bank0 (4 * w) v }
      simp only [Bool.not_true, hcx, if_true, true_and]
      exact ⟨Memory.readW_writeW _ v hb, Memory.readW_writeW _ v hm⟩
    | false =>
      rw [hact] at hb
      have hcx : (bankPut c t true w v s).cx c = { s.cx c with bank1 := Memory.writeW (s.cx c).bank1 (4 * w) v } :=
        hmod fun x => { x with bank1 := Memory.writeW x.bank1 (4 * w) v }
      simp only [Bool.not_false, hcx, if_false, Bool.false_eq_true, true_and]
      exact ⟨Memory.readW_writeW _ v hb, Memory.readW_writeW _ v hm⟩

/-! The NV window. -/

theorem mem_pagesOf {off n p : Nat} (hn : n ≠ 0) : p ∈ pagesOf off n ↔ off / 256 ≤ p ∧ p ≤ (off + n - 1) / 256 := by
  have h : off / 256 ≤ (off + n - 1) / 256 := Nat.div_le_div_right (by omega)
  rw [pagesOf, if_neg hn, List.mem_map]
  constructor
  · rintro ⟨i, hi, rfl⟩
    have := List.mem_range.1 hi
    omega
  · rintro ⟨h1, h2⟩
    exact ⟨p - off / 256, List.mem_range.2 (by omega), by omega⟩

/-- A byte of memory after bytes are written. -/
theorem read_writeN_eq {m : List Host.Cell} (hm : Memory.wf m = true) (off a : Nat) (bs : List Byte) :
    Memory.read (Memory.writeN m off bs) a = if off ≤ a ∧ a < off + bs.length then lat bs (a - off) 0 else Memory.read m a := by
  split
  next h =>
    obtain ⟨i, rfl⟩ : ∃ i, a = off + i := ⟨a - off, by omega⟩
    have hi : i < bs.length := by omega
    rw [Memory.read_writeN off i bs hm hi, Nat.add_sub_cancel_left]
    simp [lat, hi]
  next h => exact Memory.read_writeN_ne off a bs hm (by omega)

/-- A write inside the host area (R395). -/
theorem nvHostWrite_inside (hr : s.nvs.ready = true) {off : Nat} {bs : List Byte} (h1 : 0xC0000 ≤ off) (h2 : off + bs.length ≤ 0xF8000)
    (h3 : bs ≠ []) : nvHostWrite off bs s = nvPut off bs s := by
  have hin : (bs.drop (off - off)).take (0xF8000 - off) = bs := by
    rw [Nat.sub_self, List.drop_zero, List.take_of_length_le (by omega)]
  have hl : 0 < bs.length := List.length_pos_iff.2 h3
  unfold nvHostWrite nvPage nvBytes
  rw [hr, Bool.not_true, if_neg Bool.false_ne_true, if_neg (by omega), show 256 * 3072 = 0xC0000 from rfl, show 256 * 3968 = 0xF8000 from rfl]
  dsimp only
  rw [Nat.max_eq_left h1, hin, if_pos rfl, if_pos (by simp [h3]; omega)]

/-- A write outside the host area is discarded (R395). -/
theorem nvHostWrite_outside (hr : s.nvs.ready = true) {off : Nat} {bs : List Byte} (h1 : 0xF8000 ≤ off ∨ off + bs.length ≤ 0xC0000)
    (h2 : off + bs.length ≤ 1048576) (h3 : bs ≠ []) : nvHostWrite off bs s = roWr s := by
  have hin : (bs.drop (max off 0xC0000 - off)).take (0xF8000 - max off 0xC0000) = [] := by
    rcases h1 with h | h
    · rw [Nat.max_eq_left (by omega), show 0xF8000 - off = 0 by omega, List.take_zero]
    · rw [List.drop_of_length_le (by omega), List.take_nil]
  have hl : 0 < bs.length := List.length_pos_iff.2 h3
  unfold nvHostWrite nvPage nvBytes
  rw [hr, Bool.not_true, if_neg Bool.false_ne_true, if_neg (by omega), show 256 * 3072 = 0xC0000 from rfl, show 256 * 3968 = 0xF8000 from rfl]
  dsimp only
  rw [hin, if_neg (by simp only [List.length_nil]; omega), if_neg (by simp)]

/-! Two-wire ports. -/

/-- A write to the configuration or the address of a two-wire port (R328). -/
theorem twConfigure_effect (p : Fin 4) (cfg addr : Option W) :
    (twRefused (cfg.getD ((s.tw p.val).cfgNext.getD (s.tw p.val).cfg)) (addr.getD ((s.tw p.val).addrNext.getD (s.tw p.val).addr)) = true →
      (twConfigure p.val cfg addr s).tw p.val = { s.tw p.val with evt := bitPut (s.tw p.val).evt 7 true }) ∧
    ((cfg.isSome = true → xferOpen s p.val = false) →
      twRefused (cfg.getD ((s.tw p.val).cfgNext.getD (s.tw p.val).cfg)) (addr.getD ((s.tw p.val).addrNext.getD (s.tw p.val).addr)) = false →
      let t := { s.tw p.val with cfgNext := cfg.orElse fun _ => (s.tw p.val).cfgNext, addrNext := addr.orElse fun _ => (s.tw p.val).addrNext }
      (twConfigure p.val cfg addr s).tw p.val = if (s.tw p.val).st = 0 then twAlert (twApply t) else t) := by
  have hmod : ∀ (f : Twp → Twp) (s : State), (s.modTw p.val f).tw p.val = f (s.tw p.val) := fun f s => vat_vmod_self _ p.isLt f _
  refine ⟨fun h => ?_, fun hx h => ?_⟩
  · simp only [twConfigure, h, Bool.or_true, if_true]
    exact hmod _ s
  · have hc : (cfg.isSome && xferOpen s p.val && !twController (cfg.getD ((s.tw p.val).cfgNext.getD (s.tw p.val).cfg))) = false := by
      cases hs : cfg.isSome with
      | false => rfl
      | true => rw [hx hs]; rfl
    unfold twConfigure
    dsimp only
    rw [hc, h, Bool.or_self, if_neg Bool.false_ne_true]
    split
    · exact (hmod _ _).trans (congrArg (fun t => twAlert (twApply t)) (hmod _ s))
    · exact hmod _ s

/-! Lamps. -/

/-- A lamp point that a word of TRL_LAMP names (R449): the evidence of a lamp that an owner keeps, and no other point. -/
theorem lampPoint_effect (v : W) (i j : Nat) (hp : 8 * i + j < 144) (s : State) : ∃ l e,
    lampPoint v i s j = { s with trl := { s.trl with lamp := l, evt := e } } ∧
    (∀ q, q ≠ 8 * i + j → vat l q 0 = vat s.trl.lamp q 0) ∧ vat l 0 0 = vat s.trl.lamp 0 0 ∧
    (s.trl.evt.getLsbD 2 = true → e.getLsbD 2 = true) ∧
    (8 * i + j ≠ 0 → v.bits (4 * j + 3) (4 * j) ≤ 4 → lampOwned s (8 * i + j) = false →
      vat l (8 * i + j) 0 = BitVec.ofNat 4 (v.bits (4 * j + 3) (4 * j))) ∧
    (lampOwned s (8 * i + j) = true → e.getLsbD 2 = true ∧ vat l (8 * i + j) 0 = vat s.trl.lamp (8 * i + j) 0) := by
  unfold lampPoint
  dsimp only
  split
  next h0 =>
    have hown : lampOwned s (8 * i + j) = false := by rw [h0, lampOwned]; split <;> rfl
    exact ⟨s.trl.lamp, s.trl.evt, rfl, fun _ _ => rfl, rfl, id, fun h => absurd h0 h, fun h => Bool.noConfusion (hown.symm.trans h)⟩
  next h0 =>
    split
    next hown =>
      have hb : (bitPut s.trl.evt 2 true).getLsbD 2 = true := bitPut_getLsbD_self _ (by decide) _
      exact ⟨s.trl.lamp, _, rfl, fun _ _ => rfl, rfl, fun _ => hb, fun _ _ h => Bool.noConfusion (hown.symm.trans h), fun _ => ⟨hb, rfl⟩⟩
    next hown =>
      split
      next hc =>
        exact ⟨s.trl.lamp, s.trl.evt, rfl, fun _ _ => rfl, rfl, id, fun _ h => absurd h (by omega), fun h => absurd h hown⟩
      next hc =>
        exact ⟨_, s.trl.evt, rfl, fun q hq => vat_vput_ne _ (Ne.symm hq) _ _, vat_vput_ne _ h0 _ _, id,
          fun _ _ _ => vat_vput_self _ hp _ _, fun h => absurd h hown⟩

/-- The lamps after the points of one word, as far as `m` (R449). -/
theorem lampWrite_effect (v : W) (i : Nat) (hi : i < 18) (s : State) (m : Nat) (hm : m ≤ 8) : ∃ l e,
    (List.range m).foldl (lampPoint v i) s = { s with trl := { s.trl with lamp := l, evt := e } } ∧
    (∀ q, (∀ j, j < m → q ≠ 8 * i + j) → vat l q 0 = vat s.trl.lamp q 0) ∧ vat l 0 0 = vat s.trl.lamp 0 0 ∧
    ∀ j, j < m →
      (8 * i + j ≠ 0 → v.bits (4 * j + 3) (4 * j) ≤ 4 → lampOwned s (8 * i + j) = false →
        vat l (8 * i + j) 0 = BitVec.ofNat 4 (v.bits (4 * j + 3) (4 * j))) ∧
      (lampOwned s (8 * i + j) = true → e.getLsbD 2 = true ∧ vat l (8 * i + j) 0 = vat s.trl.lamp (8 * i + j) 0) := by
  induction m with
  | zero => exact ⟨s.trl.lamp, s.trl.evt, rfl, fun _ _ => rfl, rfl, fun _ h => absurd h (Nat.not_lt_zero _)⟩
  | succ m ih =>
    obtain ⟨l, e, hl, hother, hzero, hown⟩ := ih (by omega)
    obtain ⟨l', e', hl', hother', hzero', hkeep, hfree, howned⟩ :=
      lampPoint_effect v i m (by omega) { s with trl := { s.trl with lamp := l, evt := e } }
    rw [List.range_succ, List.foldl_append, List.foldl_cons, List.foldl_nil, hl, hl']
    refine ⟨l', e', rfl, fun q hq => ?_, hzero'.trans hzero, fun j hj => ?_⟩
    · exact (hother' q (hq m (by omega))).trans (hother q fun j hj => hq j (by omega))
    · by_cases hjm : j = m
      · subst hjm
        refine ⟨hfree, fun h => ?_⟩
        obtain ⟨h1, h2⟩ := howned h
        exact ⟨h1, h2.trans (hother _ fun k hk => by omega)⟩
      · obtain ⟨h1, h2⟩ := hown j (by omega)
        refine ⟨fun a b c => (hother' _ (by omega)).trans (h1 a b c), fun h => ?_⟩
        obtain ⟨h3, h4⟩ := h2 h
        exact ⟨hkeep h3, (hother' _ (by omega)).trans h4⟩

end

/-- Settles O43. -/
theorem hostWrites : Obligations.HostWrites := by
  intro s hc hr
  have hsolo := fun a b ws f => hostWrite_solo hc hr a b ws f
  have hword : ∀ a v, a < 0x200000 → a % 4 = 0 → kioEffect a v = none → exec (.registerWrite a 4 v) s = done (wordWrite a v s) :=
    fun a v => registerWrite_word a v
  refine ⟨?yield, fun n w v t c ht hctx hcl => ?bank, fun n w v ht => ?noTask, fun hrdy off bs => ⟨fun h => ?past, fun h1 h2 h3 hm => ?inside,
    fun h1 h2 h3 => ?outside⟩, fun off ws => ?shared, fun off bs => ?bar2, fun p v => ?tw, fun i v => ?lamp, fun v hv => ?trl,
    fun v => ?scratch, fun v => registerWrite_wake v (.inr ⟨hc, hr⟩), fun v => ?ro, fun v => ?none, fun v size hs => ?size, fun v => ?upe, fun v => ?nvs⟩
  case yield =>
    have h : Does .prlYield s (prlYieldWrite s) := rfl
    rwa [prlYieldWrite, leadInSync, hr, if_neg (by simp)] at h
  case bank =>
    have h : Does (.chBankwWrite n w v) s _ := rfl
    rw [hsolo] at h
    obtain ⟨h1, h2⟩ := bankWrite_effect (s := s) n.val w.val v ht hctx hcl
    exact ⟨fun ha => ⟨_, h, h1 ha⟩, fun ha hm hb => ⟨_, h, h2 ha hm hb⟩⟩
  case noTask =>
    have h : Does (.chBankwWrite n w v) s _ := rfl
    rwa [hsolo, bankWrite, ht] at h
  case past =>
    have hu : Does (.nvWindowWrite off bs) s _ := rfl
    rw [hsolo, nvHostWrite, hrdy, Bool.not_true, if_neg Bool.false_ne_true, if_pos (show off + bs.length > nvBytes from h)] at hu
    exact hu
  case inside =>
    have hu : Does (.nvWindowWrite off bs) s _ := rfl
    rw [hsolo, nvHostWrite_inside hrdy h1 h2 h3] at hu
    refine ⟨_, hu, fun a => read_writeN_eq hm off a bs, fun p => ?_, rfl, rfl⟩
    rw [nvPut, mem_foldl_insertNat (fun p => p)]
    simp only [exists_eq_right, mem_pagesOf (Nat.ne_of_gt (List.length_pos_iff.2 h3)), or_comm]
  case outside =>
    have hu : Does (.nvWindowWrite off bs) s _ := rfl
    rwa [hsolo, nvHostWrite_outside hrdy h1 h2 h3] at hu
  case shared =>
    have hu : Does (.sharedWindowWrite off ws) s (sharedHostWrite off ws s) := rfl
    rwa [sharedHostWrite, hc, if_neg (by decide), if_neg (by decide)] at hu
  case bar2 =>
    have hu : Does (.bar2Write off bs) s _ := rfl
    rwa [hc, if_neg (by decide)] at hu
  case tw =>
    have hcfg : Does (.twpCfgWrite p v) s _ := rfl
    have haddr : Does (.twpAddrWrite p v) s _ := rfl
    rw [hsolo] at hcfg haddr
    obtain ⟨c1, c2⟩ := twConfigure_effect (s := s) p (some (v &&& 0xFF13)) none
    obtain ⟨a1, a2⟩ := twConfigure_effect (s := s) p none (some v)
    refine ⟨fun hx h hst => ⟨_, hcfg, ?_⟩, fun hx h hst => ⟨_, hcfg, ?_⟩, fun h => ⟨_, hcfg, c1 h⟩, fun h => ⟨_, haddr, a1 h⟩, fun h hst => ⟨_, haddr, ?_⟩⟩
    · exact (c2 (fun _ => hx) h).trans (if_neg hst)
    · have e := (c2 (fun _ => hx) h).trans (if_pos hst)
      rw [twpCfgWrite, e]
      exact ⟨rfl, rfl⟩
    · exact (a2 (fun h => Bool.noConfusion h) h).trans (if_neg hst)
  case lamp =>
    have hu : Does (.trlLampWrite i v) s _ := rfl
    rw [hsolo] at hu
    obtain ⟨l, e, hl, hother, hzero, hown⟩ := lampWrite_effect v i.val i.isLt s 8 (Nat.le_refl 8)
    refine ⟨_, hu, ?_⟩
    rw [lampWrite, hl]
    exact ⟨rfl, fun q hq => hother _ fun j hj he => hq (by omega), hzero, fun j h0 => (hown j.val j.isLt).1 h0, fun j h => (hown j.val j.isLt).2 h⟩
  case trl =>
    have hu : Does (.trlCfgWrite v) s _ := rfl
    rwa [hsolo, trlCfgWrite, if_neg hv] at hu
  case scratch =>
    have hu := registerWrite_scratch (s := s) v
    rwa [hsolo] at hu
  case ro =>
    have hu := hword 0 v (by decide) (by decide) rfl
    rwa [wordWrite, hc, if_neg (by decide), if_neg (by decide), if_neg (by decide), if_neg (by decide), if_neg (by decide),
      show clearEffect 0 v = Option.none from rfl, show regEffect 0 v = Option.none from rfl, show readOnlyReg 0 = true from rfl, if_pos rfl,
      readOnlyWrite, hc, hr, if_neg (by decide)] at hu
  case none =>
    have hu := hword 0x58 v (by decide) (by decide) rfl
    rwa [wordWrite, hc, if_neg (by decide), if_neg (by decide), if_neg (by decide), if_neg (by decide), if_neg (by decide),
      show clearEffect 0x58 v = Option.none from rfl, show regEffect 0x58 v = Option.none from rfl, show readOnlyReg 0x58 = false from rfl,
      if_neg Bool.false_ne_true, discardWrite, hc, if_neg (by decide)] at hu
  case size =>
    have e : exec (.registerWrite 0x50 size v) s = execRegisterWrite 0x50 size v s := rfl
    rw [Does, e, execRegisterWrite, if_neg (by decide), if_neg (by decide), if_pos (by rw [decide_eq_true hs, Bool.true_or]), discardWrite, hc, if_neg (by decide)]
    rfl
  case upe =>
    have hu := registerWrite_clear (s := s) 0x4C02C v (fun s => { s with upe := { s.upe with evt := w1c s.upe.evt v } }) (by decide) (by decide) rfl
      (by decide) rfl
    rwa [hostClear, hc, hr, if_neg (by decide), if_neg (by decide), if_neg (by decide)] at hu
  case nvs =>
    have hu := registerWrite_clear (s := s) 0x48018 v (fun s => { s with nvs := { s.nvs with evt := w1c s.nvs.evt v } }) (by decide) (by decide) rfl
      (by decide) rfl
    rwa [hostClear, hc, hr, if_neg (by decide), if_neg (by decide), if_neg (by decide)] at hu

end Sys2Proof.Claims
end

section
/-!
PROOF. The kiosk's commands NOP, TIME, IDENT, CANCEL and ADMIT (R221, R226, Table 9.6), and what every command's row shares.
-/
namespace Sys2Proof.Claims
open Sys2Proof Sys2Proof.Machine

section
variable {s u v : State} {k t : KCmd} {cmd : Nat} {tag : BitVec 16}

/-! What the rows share. -/

theorem ready_mem (h : Ready s cmd tag k) : k ∈ s.kio.accepted ∧ k.cmd = cmd ∧ k.tag = tag := by
  have hp := List.find?_some h.1
  simp only [Bool.and_eq_true, beq_iff_eq] at hp
  exact ⟨List.mem_of_find?_eq_some h.1, hp.1.1.1, hp.1.1.2⟩

/-- The row of a ready command carries it out. -/
theorem does_of_ready {i : Instr} {f : KCmd → State → State} (h : Ready s cmd tag k) (e : exec i s = done (kiosk cmd tag f s)) :
    Does i s (f k s) := by
  rw [Does, e, kiosk_ready h]
  rfl

/-- A ready command refused or done with a status: it has completed, and the kiosk and host memory alone change. -/
theorem kStatus_ready (h : Ready s cmd tag k) (st : Nat) :
    Completed s (kStatus k st s) k st 0 0 0 ∧ ∃ o m, kStatus k st s = { s with kio := o, host := m } :=
  ⟨completed_of_ready h rfl rfl rfl rfl st 0 0 0, kEnd_eq h.2.2.1 st 0 0 0 s⟩

theorem sameCmd_self (k : KCmd) : sameCmd k k = true := by simp [sameCmd]

/-- The commands that are not `k` are those that a change of `k` leaves. -/
theorem filter_map_sameCmd (f : KCmd → KCmd) (hf : ∀ x, sameCmd x k = true → sameCmd (f x) k = true) (l : List KCmd) :
    ((l.map fun x => if sameCmd x k then f x else x).filter fun x => !sameCmd x k) = l.filter fun x => !sameCmd x k := by
  induction l with
  | nil => rfl
  | cons x l ih =>
    rw [List.map_cons, List.filter_cons, List.filter_cons, ih]
    cases hx : sameCmd x k with
    | true => simp [hf x hx]
    | false => simp [hx]

/-- A ready command that was found busy: it has completed so, and the kiosk and host memory alone change. -/
theorem kBusy_ready (h : Ready s cmd tag k) (us : Nat) :
    Completed s (kBusy k us s) k 0x0013 0 0 0 ∧ ∃ o m, kBusy k us s = { s with kio := o, host := m } := by
  obtain ⟨_, _, hm, hq, _, ho, hw⟩ := h
  have hc : Completed s (kEnd { k with retry := us } stBusy 0 0 0 (kMod k (fun x => { x with retry := us }) s)) { k with retry := us } stBusy 0 0 0 :=
    completed_kEnd (k := { k with retry := us }) (v := kMod k (fun x => { x with retry := us }) s) hm hq ho hw rfl rfl
      (filter_map_sameCmd (k := k) (fun x => { x with retry := us }) (fun _ hx => hx) s.kio.accepted) stBusy 0 0 0
  obtain ⟨o, m, e⟩ := kEnd_eq (k := { k with retry := us }) hm stBusy 0 0 0 (kMod k (fun x => { x with retry := us }) s)
  exact ⟨hc, o, m, e⟩

/-- A command that has begun is still accepted, and has begun. -/
theorem kBegin_mem (h : k ∈ s.kio.accepted) : { k with begun := true } ∈ (kBegin k s).kio.accepted :=
  List.mem_map.2 ⟨k, h, if_pos (sameCmd_self k)⟩

/-- A completion moves its own ring on by one entry and no other (R217), and what it drops is no longer accepted. -/
theorem kEnd_rings (hm : k.mseq = none) (hq : k.mute = false) (ho : s.kio.isOpen = true) (st : Nat) (r0 r1 r2 : W) :
    (kEnd k st r0 r1 r2 s).kio.isOpen = true ∧
    (kEnd k st r0 r1 r2 s).kio.accepted = (s.kio.accepted.filter fun x => !sameCmd x k) ∧
    (vat (kEnd k st r0 r1 r2 s).kio.cq k.ring.val CplRing.init).used = (vat s.kio.cq k.ring.val CplRing.init).used + 1 ∧
    ∀ q, q ≠ k.ring.val → vat (kEnd k st r0 r1 r2 s).kio.cq q CplRing.init = vat s.kio.cq q CplRing.init := by
  obtain ⟨un, re, hc⟩ : ∃ un re, kEnd k st r0 r1 r2 s = cplWrite k.ring.val k.cmd k.tag st un re r0 r1 r2 (kDrop k s) := by
    rw [kEnd_own hm, kCpl, hq, if_neg Bool.false_ne_true, cplRetry]
    split
    exact ⟨_, _, rfl⟩
  obtain ⟨_, h2, h3⟩ := cplWrite_effect (v := kDrop k s) ho k.ring.val k.cmd k.tag st un re r0 r1 r2
  have hopen : (cplWrite k.ring.val k.cmd k.tag st un re r0 r1 r2 (kDrop k s)).kio.isOpen = true := by
    rw [cplWrite, if_pos (show (kDrop k s).kio.isOpen = true from ho)]
    obtain ⟨_, _, _, e⟩ := msixSend_kio (1 + k.ring.val) { kDrop k s with
      host := Memory.writeWs (kDrop k s).host ((vat (kDrop k s).kio.cq k.ring.val CplRing.init).base.toNat +
        32 * (vat (kDrop k s).kio.cq k.ring.val CplRing.init).tail) (cplWords (kDrop k s) k.ring.val k.cmd k.tag st un re r0 r1 r2)
      kio := { (kDrop k s).kio with cq := vput (kDrop k s).kio.cq k.ring.val (ringNext (vat (kDrop k s).kio.cq k.ring.val CplRing.init)) } }
    exact (congrArg Kio.isOpen e).trans ho
  rw [hc]
  refine ⟨hopen, h2, ?_, fun q hq => ?_⟩
  · rw [h3, vat_vput_self _ k.ring.isLt]
    rfl
  · rw [h3, vat_vput_ne _ (Ne.symm hq)]
    rfl

/-! CANCEL. -/

/-- A CANCEL that names no command it may cancel (R221, R226). -/
theorem cancel_refused (hn : ∀ x ∈ s.kio.accepted, x.handle ≠ k.arg 3 ∨ x.ring.val < 2 ∨ x.fixed = true) : kCancel k s = kStatus k stState s := by
  have hb : (s.kio.accepted.find? fun x => x.handle == k.arg 3 && 2 ≤ x.ring.val && x.foreign == k.foreign).bind (cancelled · s) = none := by
    cases hf : s.kio.accepted.find? fun x => x.handle == k.arg 3 && 2 ≤ x.ring.val && x.foreign == k.foreign with
    | none => rfl
    | some x =>
      have hp := List.find?_some hf
      simp only [Bool.and_eq_true, beq_iff_eq, decide_eq_true_eq] at hp
      obtain ⟨⟨h1, h2⟩, _⟩ := hp
      rcases hn x (List.mem_of_find?_eq_some hf) with hx | hx | hx
      · exact absurd h1 hx
      · omega
      · simp [cancelled, hx]
  rw [kCancel, hb]

/-- A CANCEL of a command that waits: both complete, and neither is accepted any more (R221). -/
theorem cancel_waiting (h : Ready s 0x0004 tag k) (h0 : k.ring = 0)
    (hf : (s.kio.accepted.find? fun x => x.handle == k.arg 3 && 2 ≤ x.ring.val && x.foreign == k.foreign) = some t)
    (hfix : t.fixed = false) (hb : t.begun = false) (hm : t.mseq = none) (hq : t.mute = false) :
    (∀ x ∈ (kCancel k s).kio.accepted, sameCmd x t = false ∧ sameCmd x k = false) ∧
      (vat (kCancel k s).kio.cq t.ring.val CplRing.init).used = (vat s.kio.cq t.ring.val CplRing.init).used + 1 ∧
      (vat (kCancel k s).kio.cq 0 CplRing.init).used = (vat s.kio.cq 0 CplRing.init).used + 1 := by
  obtain ⟨_, _, hkm, hkq, _, ho, _⟩ := h
  have hp := List.find?_some hf
  simp only [Bool.and_eq_true, beq_iff_eq, decide_eq_true_eq] at hp
  obtain ⟨⟨_, hring⟩, _⟩ := hp
  have hk0 : k.ring.val = 0 := by rw [h0]; rfl
  have e : kCancel k s = kEnd k stOk 0 0 0 (kEnd t stCancelled 0 0 0 s) := by
    rw [kCancel, hf, Option.bind_some, cancelled, hfix, hb]
    rfl
  obtain ⟨ho', ha, hu, hr⟩ := kEnd_rings hm hq ho stCancelled 0 0 0
  obtain ⟨_, ha', hu', hr'⟩ := kEnd_rings hkm hkq ho' stOk 0 0 0
  rw [hk0] at hu' hr'
  rw [e]
  refine ⟨fun x hx => ?_, ?_, ?_⟩
  · rw [ha', ha] at hx
    obtain ⟨hx1, hx2⟩ := List.mem_filter.1 hx
    exact ⟨by simpa using (List.mem_filter.1 hx1).2, by simpa using hx2⟩
  · rw [hr' _ (by omega), hu]
  · rw [hu', hr 0 (by omega)]

/-! ADMIT. -/

theorem admStart_kio (o : Option (BitVec 16)) (ws : List W) (s : State) : (admStart o ws s).kio = s.kio := by
  obtain ⟨g, r, e⟩ : ∃ g r, admStart o ws s = askGrant g { partnerHolds (candOf ws s.adm.img).img.crc s with
      adm := { (partnerHolds (candOf ws s.adm.img).img.crc s).adm with st := 1, slices := 0, run := some r } } := ⟨_, _, rfl⟩
  have hg : ∀ (g : Image) (s : State), (askGrant g s).kio = s.kio := fun g s => by unfold askGrant; split <;> rfl
  rw [e, hg]
  unfold partnerHolds
  split <;> rfl

/-- An admission that begins keeps the image in force and its places, and runs from now (R130). -/
theorem admStart_run (o : Option (BitVec 16)) (ws : List W) (s : State) : (admStart o ws s).adm.place = s.adm.place ∧
    ∃ r, (admStart o ws s).adm.run = some r ∧ r.tag = o ∧ r.start = s.now ∧ r.epoch = none := by
  obtain ⟨g, pl, rep, e⟩ : ∃ g pl rep, admStart o ws s = askGrant g { partnerHolds (candOf ws s.adm.img).img.crc s with
      adm := { (partnerHolds (candOf ws s.adm.img).img.crc s).adm with
        st := 1, slices := 0, run := some ⟨o, g, pl, rep, (partnerHolds (candOf ws s.adm.img).img.crc s).now, false, none⟩ } } :=
    ⟨_, _, _, rfl⟩
  have hnow : (partnerHolds (candOf ws s.adm.img).img.crc s).now = s.now := by
    unfold partnerHolds
    split <;> rfl
  rw [e, askGrant_adm, hnow, partnerHolds_adm]
  exact ⟨rfl, _, rfl, rfl, rfl, rfl⟩

/-- ADMIT of an image from the host (R129). -/
theorem admit_host (h : Ready s 0x0101 tag k) (hr : s.adm.run = none) (hu : updBusy s = false) (hb : (k.arg 3).bit 0 = false)
    (img : Option (List W)) : Does (.admitImage tag img) s (match img with
      | none => kDma k s
      | some ws => if !framingOk ws (some (k.buf 4).2) then kStatus k stImageCorrupt s
        else if !(lat ws 7 0).bit 4 && !(s.chan.all (·.st == .off)) then kStatus k stState s
        else admStart (some tag) ws (kBegin k (kMod k (fun x => { x with bound := admitBound ws + updSlack s }) s))) := by
  have hd : Does (.admitImage tag img) s _ := does_of_ready h rfl
  simp only [hr, hu, hb, Option.isSome_none, Bool.false_eq_true, if_false, Bool.false_and, Bool.false_or] at hd
  cases img with
  | none => exact hd
  | some ws => exact hd

end

/-- Settles O45. -/
theorem kioskQueueCommands : Obligations.KioskQueueCommands := by
  intro s tag
  have hfree : ∀ {u : State}, (∃ o m, u = { s with kio := o, host := m }) → u.ctx = s.ctx ∧ u.chan = s.chan ∧ u.shared = s.shared ∧ u.adm = s.adm := by
    rintro u ⟨o, m, rfl⟩
    exact ⟨rfl, rfl, rfl, rfl⟩
  refine ⟨fun h => ?noNop, fun k h => ?nop, fun k h => ?time, fun k h => ?ident, fun k h hn => ?cancelNone,
    fun k t h h0 hf hfix hb hm hq => ?cancel, fun k img h => ⟨fun hr => ?admitBusy, fun hr hu => ?admitUpd⟩,
    fun k h hr hu hb => ⟨?admitDma, fun ws hf => ?admitBad, fun ws hf h4 hc => ?admitState, fun ws hf hor => ?admitOk⟩⟩
  case noNop => exact congrArg done (kiosk_none (kNop) h)
  case nop =>
    obtain ⟨hc, he⟩ := kStatus_ready h stOk
    obtain ⟨h1, h2, h3, _⟩ := hfree he
    exact ⟨_, does_of_ready h rfl, hc, h1, h2, h3⟩
  case time =>
    obtain ⟨h1, h2, _, _⟩ := hfree (kEnd_eq h.2.2.1 stOk (s.clk.tc.extractLsb' 0 32) (lo32 s.clk.ts) (hi32 s.clk.ts) s)
    exact ⟨_, does_of_ready h rfl, completed_of_ready h rfl rfl rfl rfl _ _ _ _, h1, h2⟩
  case ident =>
    obtain ⟨m, hm, e⟩ : ∃ m, Memory.wf m = true ∧ kIdent k s =
        kEnd k stOk s.upe.fwAct (s.adm.img.elim 0 (·.id)) (s.adm.img.elim 0 (·.build)) { s with host := m } := by
      unfold kIdent
      dsimp only
      split
      · exact ⟨_, Memory.wf_writeWs _ _ h.2.2.2.2.2.2, rfl⟩
      · exact ⟨s.host, h.2.2.2.2.2.2, rfl⟩
    have hd : Does (.ident tag) s (kIdent k s) := does_of_ready h rfl
    obtain ⟨o, m', e'⟩ := kEnd_eq h.2.2.1 stOk s.upe.fwAct (s.adm.img.elim 0 (·.id)) (s.adm.img.elim 0 (·.build)) { s with host := m }
    refine ⟨_, hd, ?_, ?_, ?_⟩
    · rw [e]
      exact completed_kEnd (v := { s with host := m }) h.2.2.1 h.2.2.2.1 h.2.2.2.2.2.1 hm rfl rfl rfl stOk _ _ _
    · rw [e, e']
    · rw [e, e']
  case cancelNone =>
    have hd : Does (.cancel tag) s (kCancel k s) := does_of_ready h rfl
    rw [cancel_refused hn] at hd
    exact ⟨_, hd, (kStatus_ready h stState).1⟩
  case cancel => exact ⟨_, does_of_ready h rfl, cancel_waiting h h0 hf hfix hb hm hq⟩
  case admitBusy =>
    have hd : Does (.admitImage tag img) s _ := does_of_ready h rfl
    dsimp only at hd
    rw [if_pos hr] at hd
    generalize (s.adm.run.elim 1 fun r => max 1 ((if r.img.fenceK = 2 then 3000000 else 300000) - (s.now - r.start) / 2)) = us at hd
    obtain ⟨hc, he⟩ := kBusy_ready h us
    exact ⟨_, hd, hc, (hfree he).2.2.2⟩
  case admitUpd =>
    have hd : Does (.admitImage tag img) s _ := does_of_ready h rfl
    dsimp only at hd
    rw [if_neg (by rw [hr]; simp), if_pos hu] at hd
    obtain ⟨hc, he⟩ := kStatus_ready h stState
    exact ⟨_, hd, hc, (hfree he).2.2.2⟩
  case admitDma =>
    obtain ⟨hc, he⟩ := kDma_effect h
    exact ⟨_, admit_host h hr hu hb none, hc, (hfree he).2.2.2⟩
  case admitBad =>
    have hd := admit_host h hr hu hb (some ws)
    dsimp only at hd
    rw [hf, Bool.not_false, if_pos rfl] at hd
    obtain ⟨hc, he⟩ := kStatus_ready h stImageCorrupt
    exact ⟨_, hd, hc, (hfree he).2.2.2⟩
  case admitState =>
    have hd := admit_host h hr hu hb (some ws)
    dsimp only at hd
    rw [hf, Bool.not_true, if_neg Bool.false_ne_true, h4, hc, if_pos (by decide)] at hd
    obtain ⟨hc, he⟩ := kStatus_ready h stState
    exact ⟨_, hd, hc, (hfree he).2.2.2⟩
  case admitOk =>
    have hd := admit_host h hr hu hb (some ws)
    dsimp only at hd
    rw [hf, Bool.not_true, if_neg Bool.false_ne_true, if_neg (by rcases hor with hx | hx <;> rw [hx] <;> simp)] at hd
    obtain ⟨hmem, _, htag⟩ := ready_mem h
    obtain ⟨h1, _, h3⟩ := admStart_effect (some tag) ws (kBegin k (kMod k (fun x => { x with bound := admitBound ws + updSlack s }) s))
    obtain ⟨h4, r, h5, h6, h7, h8⟩ := admStart_run (some tag) ws (kBegin k (kMod k (fun x => { x with bound := admitBound ws + updSlack s }) s))
    refine ⟨_, hd, h1, ⟨{ k with bound := admitBound ws + updSlack s, begun := true }, ?_, htag, rfl, rfl⟩, h3, h4, r, h5, h6, h7, h8⟩
    rw [admStart_kio]
    exact List.mem_map.2 ⟨{ k with bound := admitBound ws + updSlack s }, List.mem_map.2 ⟨k, hmem, if_pos (sameCmd_self k)⟩, if_pos (sameCmd_self k)⟩

end Sys2Proof.Claims
end

section
/-!
PROOF. The kiosk's commands on channels, tasks and tables (R39, R46, R78, R98, R104, R105, R113, R158, R159, R224, R480).
-/
namespace Sys2Proof.Claims
open Sys2Proof Sys2Proof.Machine

section
variable {s u v : State} {k : KCmd} {cmd : Nat} {tag : BitVec 16}

/-- A ready command that completes at once, from a state with the kiosk and host memory of `s`. -/
theorem completed_of_same (h : Ready s cmd tag k) (hk : v.kio = s.kio) (hh : v.host = s.host) (st : Nat) (r0 r1 r2 : W) :
    Completed s (kEnd k st r0 r1 r2 v) k st r0 r1 r2 :=
  completed_of_ready h (by rw [hk]) (by rw [hk]) hh (by rw [hk]) st r0 r1 r2

theorem vat_vmapIdx {α : Type} {n : Nat} (x : Vector α n) (f : Nat → α → α) {i : Nat} (h : i < n) (d : α) :
    vat (vmapIdx x f) i d = f i (vat x i d) := by
  simp [vat, vmapIdx, h]

/-! Channels. -/

theorem ch_modCh_self {n : Nat} (hn : n < 192) (f : Chan → Chan) (s : State) : (s.modCh n f).ch n = f (s.ch n) := vat_vmod_self _ hn f _

theorem ch_modCh_ne {n m : Nat} (h : n ≠ m) (f : Chan → Chan) (s : State) : (s.modCh n f).ch m = s.ch m := vat_vmod_ne _ h f _

/-- A declared channel is not undeclared. -/
theorem undeclared_of_decl {n : Nat} (h : (chanDecl s n).isSome = true) : undeclared s n = false := by
  unfold undeclared
  cases hd : chanDecl s n with
  | none => rw [hd] at h; exact Bool.noConfusion h
  | some _ => rfl

/-- CH_START (R98, R158). -/
theorem chStart_effect (h : Ready s 0x0201 tag k) (hn : k.chan < 192) (hd : (chanDecl s k.chan).isSome = true) :
    (isRail s k.chan = true → kChStart k s = kStatus k stSeqOwned s) ∧
    (isRail s k.chan = false → (s.ch k.chan).st = .off → canStart s k.chan = true →
      (kChStart k s).ch k.chan = { s.ch k.chan with startReq := true } ∧
        (∀ m : Ch, m.val ≠ k.chan → (kChStart k s).ch m.val = s.ch m.val) ∧
        (∃ x ∈ (kChStart k s).kio.accepted, x.tag = k.tag ∧ x.begun = true)) ∧
    (isRail s k.chan = false → (s.ch k.chan).st ≠ .off ∨ canStart s k.chan = false → kChStart k s = kStatus k stState s) := by
  have hu := undeclared_of_decl hd
  refine ⟨fun hr => ?_, fun hr ho hc => ?_, fun hr hno => ?_⟩
  · simp only [kChStart, hu, hr, Bool.false_eq_true, if_false, if_true]
  · have e : kChStart k s = kBegin k (askStart k.chan s) := by
      simp only [kChStart, hu, hr, ho, hc, Bool.false_eq_true, if_false, ne_eq, not_true_eq_false, Bool.not_true, or_self]
    rw [e]
    exact ⟨ch_modCh_self hn _ s, fun m hm => ch_modCh_ne (Ne.symm hm) _ s, _, kBegin_mem (s := askStart k.chan s) (ready_mem h).1, rfl, rfl⟩
  · simp only [kChStart, hu, hr, Bool.false_eq_true, if_false]
    exact if_pos (hno.imp id fun h => by rw [h]; rfl)

/-- CH_STOP (R98). -/
theorem chStop_effect (h : Ready s 0x0202 tag k) (hn : k.chan < 192) (hd : (chanDecl s k.chan).isSome = true) :
    ((s.ch k.chan).st = .control ∨ (s.ch k.chan).st = .arming ∨ (s.ch k.chan).st = .hold ∨ (s.ch k.chan).st = .safe →
      (kChStop k s).ch k.chan = { s.ch k.chan with stopReq := true, startReq := false } ∧
        (∃ x ∈ (kChStop k s).kio.accepted, x.tag = k.tag ∧ x.begun = true)) ∧
    ((s.ch k.chan).st = .off ∨ (s.ch k.chan).st = .fenced → Completed s (kChStop k s) k 0 0 0 0 ∧
      (kChStop k s).ch k.chan = { s.ch k.chan with stopReq := false, startReq := false }) := by
  have hu := undeclared_of_decl hd
  have hask := ch_modCh_self hn (fun c => { c with stopReq := c.stoppable, startReq := false }) s
  refine ⟨fun hst => ?_, fun hst => ?_⟩
  · have hstop : (s.ch k.chan).stoppable = true := by
      unfold Chan.stoppable Chan.live
      rcases hst with h | h | h | h <;> rw [h] <;> rfl
    have e : kChStop k s = kBegin k (askStop k.chan s) := by
      simp only [kChStop, hu, hstop, Bool.false_eq_true, if_false, if_true]
    rw [e]
    exact ⟨hask.trans (by rw [hstop]), _, kBegin_mem (s := askStop k.chan s) (ready_mem h).1, rfl, rfl⟩
  · have hstop : (s.ch k.chan).stoppable = false := by
      unfold Chan.stoppable Chan.live
      rcases hst with h | h <;> rw [h] <;> rfl
    have e : kChStop k s = kEnd k stOk 0 0 0 (askStop k.chan s) := by
      simp only [kChStop, hu, hstop, Bool.false_eq_true, if_false, kOk, kStatus]
    obtain ⟨o, m, e'⟩ := kEnd_eq h.2.2.1 stOk 0 0 0 (askStop k.chan s)
    rw [e]
    refine ⟨completed_of_same h (by rfl) (by rfl) .., ?_⟩
    rw [e']
    exact hask.trans (by rw [hstop])

/-- The commands that wait for a channel's tick start (R98). -/
theorem chanCmdsEnd_effect (n : Nat) (hk : s.kio.accepted.filter (fun x => x.begun && x.chan == n) = [k]) (hm : k.mseq = none)
    (hq : k.mute = false) (ho : s.kio.isOpen = true) (hw : Memory.wf s.host = true) :
    (k.cmd = 0x0201 → (s.ch n).startReq = false → (s.ch n).st = .arming → Completed s (chanCmdsEnd n s) k 0 (tc32 s.now) 0 0) ∧
    (k.cmd = 0x0201 → (s.ch n).startReq = false → (s.ch n).st ≠ .arming → Completed s (chanCmdsEnd n s) k 0x0024 0 0 0) ∧
    (k.cmd = 0x0202 → (s.ch n).stopReq = false → Completed s (chanCmdsEnd n s) k 0 0 0 0) ∧
    (chanCmdsEnd n s).chan = s.chan := by
  have e : chanCmdsEnd n s = if k.cmd = 0x0201 && !(s.ch n).startReq then
      (if (s.ch n).st = .arming then kEnd k stOk (tc32 s.now) 0 0 s else kStatus k stState s)
    else if k.cmd = 0x0202 && !(s.ch n).stopReq then kStatus k stOk s else s := by
    unfold chanCmdsEnd
    rw [hk, List.foldl_cons, List.foldl_nil]
  have hend : ∀ st r0, Completed s (kEnd k st r0 0 0 s) k st r0 0 0 := fun st r0 => completed_kEnd hm hq ho hw rfl rfl rfl st r0 0 0
  have hchan : ∀ st r0, (kEnd k st r0 0 0 s).chan = s.chan := fun st r0 => by
    obtain ⟨o, m, e⟩ := kEnd_eq hm st r0 0 0 s
    rw [e]
  rw [e]
  refine ⟨fun h1 h2 h3 => ?_, fun h1 h2 h3 => ?_, fun h1 h2 => ?_, ?_⟩
  · rw [if_pos (by rw [h1, h2]; rfl), if_pos h3]
    exact hend _ _
  · rw [if_pos (by rw [h1, h2]; rfl), if_neg h3]
    exact hend _ _
  · rw [if_neg (by rw [h1]; simp), if_pos (by rw [h1, h2]; rfl)]
    exact hend _ _
  · split
    · split
      · exact hchan _ _
      · exact hchan _ _
    · split
      · exact hchan _ _
      · rfl

/-- CH_RESTART (R480). -/
theorem chRestart_effect (h : Ready s 0x0203 tag k) (hn : k.chan < 192) (hd : (chanDecl s k.chan).isSome = true) :
    ((s.ch k.chan).st = .safe → Completed s (kChRestart k s) k 0 0 0 0 ∧ ((kChRestart k s).ch k.chan).restart = true ∧
      ((kChRestart k s).ch k.chan).st = .safe) ∧
    ((s.ch k.chan).st ≠ .safe → kChRestart k s = kStatus k stState s) := by
  have hu := undeclared_of_decl hd
  refine ⟨fun hs => ?_, fun hs => ?_⟩
  · have e : kChRestart k s = kEnd k stOk 0 0 0 (restartChan k.chan s) := by
      simp only [kChRestart, hu, hs, Bool.false_eq_true, if_false, ne_eq, not_true_eq_false, kOk, kStatus]
    obtain ⟨o, m, e'⟩ := kEnd_eq h.2.2.1 stOk 0 0 0 (restartChan k.chan s)
    have hr : ((restartChan k.chan s).ch k.chan).restart = true ∧ ((restartChan k.chan s).ch k.chan).st = .safe ∧
        (restartChan k.chan s).kio = s.kio ∧ (restartChan k.chan s).host = s.host := by
      unfold restartChan
      dsimp only
      split
      next =>
        rw [ch_modCh_self hn]
        exact ⟨rfl, hs, rfl, rfl⟩
      next hc => exact ⟨by simpa [hs] using hc, hs, rfl, rfl⟩
    obtain ⟨h1, h2, h3, h4⟩ := hr
    rw [e]
    refine ⟨completed_of_same h h3 h4 _ _ _ _, ?_⟩
    rw [e']
    exact ⟨h1, h2⟩
  · simp only [kChRestart, hu, hs, Bool.false_eq_true, if_false, ne_eq, not_false_eq_true, if_true]

theorem clearChecks_eq (n : Nat) (sel : Task → Bool) (s : State) : ∃ x, clearChecks n sel s = { s with ctx := x } := by
  unfold clearChecks
  exact ⟨_, rfl⟩

/-- The checks of a selected task, cleared (R39, R78). -/
theorem clearChecks_task {n : Nat} {sel : Task → Bool} (c : Ctx) {t : Task} (ht : taskAt s c.val = some t) (hs : sel t = true) :
    ((clearChecks n sel s).cx c.val).fP = false ∧ ((clearChecks n sel s).cx c.val).regs = (s.cx c.val).regs := by
  unfold State.cx clearChecks
  dsimp only
  rw [vat_vmapIdx _ _ c.isLt, ht]
  dsimp only
  rw [hs, if_pos rfl]
  exact ⟨rfl, rfl⟩

/-- PLAUS_RESET (R39, R78). -/
theorem plausReset_effect (h : Ready s 0x0204 tag k) (hd : (chanDecl s k.chan).isSome = true) :
    Completed s (kPlausReset k s) k 0 0 0 0 ∧ (kPlausReset k s).chan = s.chan ∧
    ∀ (c : Ctx) t, taskAt s c.val = some t → t.chans.any (fun x => x.2 == k.chan) = true →
      ((kPlausReset k s).cx c.val).fP = false ∧ ((kPlausReset k s).cx c.val).regs = (s.cx c.val).regs := by
  have e : kPlausReset k s = kEnd k stOk 0 0 0 (clearChecks k.chan (fun t => t.chans.any (·.2 == k.chan)) s) := by
    simp only [kPlausReset, undeclared_of_decl hd, Bool.false_eq_true, if_false, kOk, kStatus]
  have hcx := fun (c : Ctx) t => clearChecks_task (s := s) (n := k.chan) (sel := fun t => t.chans.any (·.2 == k.chan)) c (t := t)
  obtain ⟨x, hx⟩ := clearChecks_eq k.chan (fun t => t.chans.any (·.2 == k.chan)) s
  rw [hx] at hcx e
  obtain ⟨o, m, e'⟩ := kEnd_eq h.2.2.1 stOk 0 0 0 { s with ctx := x }
  rw [e]
  refine ⟨completed_of_same h (by rfl) (by rfl) .., ?_⟩
  rw [e']
  exact ⟨rfl, hcx⟩

/-! BANK_SWAP. -/

theorem wf_record (r : HeldRec) (h : Memory.wf s.host = true) : Memory.wf (record r s).host = true := by
  unfold record recordWrite
  dsimp only
  split
  · split
    · rw [msixSend_host, msixSend_host]
      dsimp only
      exact Memory.wf_writeWs _ _ h
    · rw [msixSend_host]
      dsimp only
      exact Memory.wf_writeWs _ _ h
  · exact h

/-- An occurrence keeps host memory canonical. -/
theorem wf_raise (h : Memory.wf s.host = true) (src : Nat) (cls : EvClass) (code : Nat) (p : W) (ctx task : Nat) :
    Memory.wf (s.raise src cls code p ctx task).host = true := by
  unfold State.raise
  split
  · exact h
  · dsimp only
    split
    · split
      · exact h
      · exact wf_record _ h
    · exact h

/-- A ready command that completes after an occurrence was raised. -/
theorem completed_raiseP (h : Ready s cmd tag k) (src : Nat) (cls : EvClass) (code st : Nat) (r0 r1 r2 : W) :
    Completed s (kEnd k st r0 r1 r2 (s.raiseP src cls code)) k st r0 r1 r2 := by
  obtain ⟨_, _, hm, hq, _, ho, hw⟩ := h
  obtain ⟨_, _, _, _, _, e⟩ := raise_kio { s with fresh := s.fresh + 1 } src cls code (nw (Config.draw s.fresh 0 0xFFFFFFFF)) 0x1FF 0xFFFF
  have hv : s.raiseP src cls code = State.raise { s with fresh := s.fresh + 1 } src cls code (nw (Config.draw s.fresh 0 0xFFFFFFFF)) := rfl
  have hwf := wf_raise (s := { s with fresh := s.fresh + 1 }) hw src cls code (nw (Config.draw s.fresh 0 0xFFFFFFFF)) 0x1FF 0xFFFF
  rw [hv]
  exact completed_kEnd (v := State.raise { s with fresh := s.fresh + 1 } src cls code (nw (Config.draw s.fresh 0 0xFFFFFFFF))) hm hq ho hwf
    (by rw [e]) (by rw [e]) (by rw [e]) st r0 r1 r2

theorem srcKind_chan {n : Nat} (h : n < 192) : srcKind (4 * n) ≠ 2 := by
  unfold srcKind
  repeat' split
  all_goals omega

/-- BANK_SWAP on the context of its task (R104, R105). -/
theorem swapBank_effect (h : Ready s 0x0205 tag k) (hn : k.chan < 192) (t : Task) (q : Place) (hc : q.ctx < 512) :
    let x := s.cx q.ctx
    let live := bankCrc x x.bankAct = (if x.bankAct then x.crc1 else x.crc0)
    (x.armed.isSome = true → Completed s (swapBank k t q s) k 0x0013 0 0 0 ∧ (swapBank k t q s).ctx = s.ctx) ∧
    (x.armed = none → bankCrc x (!x.bankAct) ≠ k.arg 4 → Completed s (swapBank k t q s) k 0x0034 0 0 0 ∧ (swapBank k t q s).ctx = s.ctx) ∧
    (x.armed = none → bankCrc x (!x.bankAct) = k.arg 4 → ¬live → raised (swapBank k t q s) (4 * k.chan) .uc 0x1004 ∧
      (swapBank k t q s).ctx = s.ctx ∧ Completed s (swapBank k t q s) k 0x0035 0 0 0) ∧
    (x.armed = none → bankCrc x (!x.bankAct) = k.arg 4 → live → dispatchable s t = true →
      (swapBank k t q s).cx q.ctx = { x with armed := some s.now, applyTick := tc32 (nextRel s t q 1) } ∧
      Completed s (swapBank k t q s) k 0 (tc32 (nextRel s t q 1)) 0 0) ∧
    (x.armed = none → bankCrc x (!x.bankAct) = k.arg 4 → live → dispatchable s t = false →
      ((swapBank k t q s).cx q.ctx).bankAct = !x.bankAct ∧ ((swapBank k t q s).cx q.ctx).swaps = x.swaps + 1 ∧
      ((swapBank k t q s).cx q.ctx).applyTick = tc32 s.now ∧ Completed s (swapBank k t q s) k 0 (tc32 s.now) 0 0) := by
  intro x live
  have hctx : ∀ {u : State}, (∃ o m, u = { s with kio := o, host := m }) → u.ctx = s.ctx := by
    rintro u ⟨o, m, rfl⟩
    rfl
  have hmod : ∀ (f : Context → Context) (o : Kio) (m : List Host.Cell),
      (State.cx { s.modCx q.ctx f with kio := o, host := m } q.ctx) = f x := fun f _ _ => vat_vmod_self _ hc f _
  refine ⟨fun ha => ?_, fun ha hb => ?_, fun ha hb hl => ?_, fun ha hb hl hd => ?_, fun ha hb hl hd => ?_⟩
  · have e : ∃ us, swapBank k t q s = kBusy k us s := ⟨_, if_pos ha⟩
    obtain ⟨us, e⟩ := e
    obtain ⟨hcm, he⟩ := kBusy_ready h us
    rw [e]
    exact ⟨hcm, hctx he⟩
  · have e : swapBank k t q s = kStatus k stNewCrc s := (if_neg (by rw [ha]; simp)).trans (if_pos hb)
    obtain ⟨hcm, he⟩ := kStatus_ready h stNewCrc
    rw [e]
    exact ⟨hcm, hctx he⟩
  · have e : swapBank k t q s = kEnd k stOldCrc 0 0 0 (s.raiseP (4 * k.chan) .uc 0x1004) :=
      (if_neg (by rw [ha]; simp)).trans ((if_neg (Classical.not_not.2 hb)).trans (if_pos hl))
    obtain ⟨o, m, e'⟩ := kEnd_eq h.2.2.1 stOldCrc 0 0 0 (s.raiseP (4 * k.chan) .uc 0x1004)
    have hr : raised (s.raiseP (4 * k.chan) .uc 0x1004) (4 * k.chan) .uc 0x1004 := raised_raise (srcKind_chan hn) ..
    refine ⟨?_, ?_, ?_⟩
    · rw [e, e']
      exact hr
    · rw [e, e']
      exact (occurs_raiseP s (4 * k.chan) .uc 0x1004 0x1FF 0xFFFF).ctx
    · rw [e]
      exact completed_raiseP h ..
  · have e : swapBank k t q s = kEnd k stOk (tc32 (nextRel s t q 1)) 0 0
        (s.modCx q.ctx fun x => { x with armed := some s.now, applyTick := tc32 (nextRel s t q 1) }) :=
      (if_neg (by rw [ha]; simp)).trans ((if_neg (Classical.not_not.2 hb)).trans ((if_neg (Classical.not_not.2 hl)).trans (if_pos hd)))
    rw [e]
    refine ⟨?_, completed_of_same h (by rfl) (by rfl) ..⟩
    obtain ⟨o, m, e'⟩ := kEnd_eq h.2.2.1 stOk (tc32 (nextRel s t q 1)) 0 0
      (s.modCx q.ctx fun x => { x with armed := some s.now, applyTick := tc32 (nextRel s t q 1) })
    rw [e']
    exact hmod _ o m
  · have e : swapBank k t q s = kEnd k stOk (tc32 s.now) 0 0 (s.modCx q.ctx fun x => { bankSwap x with applyTick := tc32 s.now }) :=
      (if_neg (by rw [ha]; simp)).trans ((if_neg (Classical.not_not.2 hb)).trans ((if_neg (Classical.not_not.2 hl)).trans (if_neg (by rw [hd]; simp))))
    have hcm : Completed s (swapBank k t q s) k 0 (tc32 s.now) 0 0 := by
      rw [e]
      exact completed_of_same h (by rfl) (by rfl) ..
    obtain ⟨o, m, e'⟩ := kEnd_eq h.2.2.1 stOk (tc32 s.now) 0 0 (s.modCx q.ctx fun x => { bankSwap x with applyTick := tc32 s.now })
    rw [e] at hcm ⊢
    have hx : (State.cx (kEnd k stOk (tc32 s.now) 0 0 (s.modCx q.ctx fun x => { bankSwap x with applyTick := tc32 s.now })) q.ctx) =
        { bankSwap x with applyTick := tc32 s.now } := by
      rw [e']
      exact hmod _ o m
    rw [hx]
    exact ⟨rfl, rfl, rfl, hcm⟩

/-! PARAM_WRITE and SHARED_WRITE. -/

theorem length_data (k : KCmd) : k.data.length = (k.arg 5).toNat := by simp [KCmd.data]

theorem getElem_data (k : KCmd) (i : Nat) (h : i < k.data.length) : k.data[i] = k.arg (6 + i) := by simp [KCmd.data]

/-- A word of shared task memory after words are written from word `a`. -/
theorem shWord_writeWs (hm : Memory.wf s.shared = true) (a : Nat) (ws : List W) (x : Nat) :
    shWord { s with shared := Memory.writeWs s.shared (4 * a) ws } x =
      if h : a ≤ x ∧ x - a < ws.length then ws[x - a] else shWord s x := by
  unfold shWord
  split
  next h =>
    have e := Memory.readW_writeWs (m := s.shared) (4 * a) (x - a) ws hm h.2
    rwa [show 4 * a + 4 * (x - a) = 4 * x by omega] at e
  next h => exact Memory.readW_writeWs_ne (4 * a) (4 * x) ws hm (by omega)

theorem shWord_kEnd (hm : k.mseq = none) (st : Nat) (r0 r1 r2 : W) (s : State) (a : Nat) : shWord (kEnd k st r0 r1 r2 s) a = shWord s a := by
  obtain ⟨o, m, e⟩ := kEnd_eq hm st r0 r1 r2 s
  rw [e]
  rfl

/-- Words written to PARAM of a task without a library (R46): those words and no other. -/
theorem paramStore_effect {t : Task} (hl : t.lib = none) (hm : Memory.wf s.shared = true) (a : Nat) (ws : List W) :
    ∃ m, paramStore t a ws s = { s with shared := m } ∧ ∀ x, shWord { s with shared := m } x =
      if h : t.paramAt + a ≤ x ∧ x - (t.paramAt + a) < ws.length then ws[x - (t.paramAt + a)] else shWord s x := by
  suffices hfold : ∀ n, n ≤ ws.length → ∃ m, (List.range n).foldl (fun s i =>
      parmPut t (a + i) (if t.lib.isSome && !listedWord t (a + i) then 0 else lat ws i 0) s) s = { s with shared := m } ∧
      Memory.wf m = true ∧ ∀ x, shWord { s with shared := m } x =
        if t.paramAt + a ≤ x ∧ x - (t.paramAt + a) < n then lat ws (x - (t.paramAt + a)) 0 else shWord s x by
    obtain ⟨m, e, _, h⟩ := hfold ws.length (Nat.le_refl _)
    refine ⟨m, e, fun x => (h x).trans ?_⟩
    split
    next hx => simp [hx.2, lat]
    next hx => rfl
  intro n
  induction n with
  | zero => exact fun _ => ⟨s.shared, rfl, hm, fun x => by simp⟩
  | succ n ih =>
    intro hn
    obtain ⟨m, e, hw, h⟩ := ih (by omega)
    rw [List.range_succ, List.foldl_append, e, List.foldl_cons, List.foldl_nil, hl, Option.isSome_none, Bool.false_and, if_neg Bool.false_ne_true]
    refine ⟨_, rfl, Memory.wf_writeW _ _ hw, fun x => ?_⟩
    by_cases hx : x = t.paramAt + (a + n)
    · have hget : shWord { s with shared := Memory.writeW m (4 * (t.paramAt + (a + n))) (lat ws n 0) } x = lat ws n 0 := by
        rw [hx]
        exact Memory.readW_writeW _ _ hw
      rw [if_pos (by omega), show x - (t.paramAt + a) = n by omega]
      exact hget
    · have hne : shWord { s with shared := Memory.writeW m (4 * (t.paramAt + (a + n))) (lat ws n 0) } x = shWord { s with shared := m } x :=
        Memory.readW_writeW_ne _ _ _ hw (by omega)
      refine hne.trans ((h x).trans ?_)
      by_cases hin : t.paramAt + a ≤ x ∧ x - (t.paramAt + a) < n
      · rw [if_pos hin, if_pos (by omega)]
      · rw [if_neg hin, if_neg (by omega)]

/-- PARAM_WRITE (R46, R224). -/
theorem paramWrite_effect {t : Task} (h : Ready s 0x0206 tag k) (ht : taskNo s ((k.arg 3).bits 15 0) = some t)
    (hle : (k.arg 4).toNat + (k.arg 5).toNat ≤ t.paramLen) :
    (paramRefused s t (k.arg 4).toNat k.data = true → kParamWrite k s = kStatus k stBadArg s) ∧
    (paramRefused s t (k.arg 4).toNat k.data = false → ((ctxOf s t.num).bind fun c => (s.cx c).rel).isSome = true → kParamWrite k s = s) ∧
    (paramRefused s t (k.arg 4).toNat k.data = false → ((ctxOf s t.num).bind fun c => (s.cx c).rel) = none → t.lib = none →
      Memory.wf s.shared = true → Completed s (kParamWrite k s) k 0 0 0 0 ∧
        (∀ i < (k.arg 5).toNat, shWord (kParamWrite k s) (t.paramAt + (k.arg 4).toNat + i) = k.arg (6 + i)) ∧
        (∀ a, a < t.paramAt + (k.arg 4).toNat ∨ t.paramAt + (k.arg 4).toNat + (k.arg 5).toNat ≤ a →
          shWord (kParamWrite k s) a = shWord s a)) := by
  have hlen := length_data k
  have hroom : ¬ (k.arg 4).toNat + k.data.length > t.paramLen := by omega
  refine ⟨fun hr => ?_, fun hr hc => ?_, fun hr hc hl hm => ?_⟩
  · simp only [kParamWrite, ht, hroom, hr, if_false, if_true]
  · simp only [kParamWrite, ht, hroom, hr, hc, if_false, if_true, Bool.false_eq_true]
  · obtain ⟨m, e, hw⟩ := paramStore_effect hl hm (k.arg 4).toNat k.data
    have hk : kParamWrite k s = kEnd k stOk 0 0 0 { s with shared := m } := by
      simp only [kParamWrite, ht, hroom, hr, hc, if_false, Bool.false_eq_true, Option.isSome_none, kOk, kStatus, e]
    rw [hk]
    refine ⟨completed_of_same h (by rfl) (by rfl) .., fun i hi => ?_, fun a ha => ?_⟩
    · rw [shWord_kEnd h.2.2.1, hw, dif_pos (by omega), getElem_data]
      congr 1
      omega
    · rw [shWord_kEnd h.2.2.1, hw, dif_neg (by omega)]

/-- SHARED_WRITE (R46). -/
theorem sharedWrite_effect (h : Ready s 0x0207 tag k) (hm : Memory.wf s.shared = true) : Completed s (kSharedWrite k s) k 0 0 0 0 ∧
    (∀ i < (k.arg 5).toNat, shWord (kSharedWrite k s) ((k.arg 3).toNat + i) = k.arg (6 + i)) ∧
    (∀ a, a < (k.arg 3).toNat ∨ (k.arg 3).toNat + (k.arg 5).toNat ≤ a → shWord (kSharedWrite k s) a = shWord s a) ∧
    (kSharedWrite k s).ctx = s.ctx := by
  have hlen := length_data k
  have hk : kSharedWrite k s = kEnd k stOk 0 0 0 { s with shared := Memory.writeWs s.shared (4 * (k.arg 3).toNat) k.data } := rfl
  rw [hk]
  refine ⟨completed_of_same h (by rfl) (by rfl) .., fun i hi => ?_, fun a ha => ?_, ?_⟩
  · rw [shWord_kEnd h.2.2.1, shWord_writeWs hm, dif_pos (by omega), getElem_data]
    congr 1
    omega
  · rw [shWord_kEnd h.2.2.1, shWord_writeWs hm, dif_neg (by omega)]
  · obtain ⟨o, m, e⟩ := kEnd_eq h.2.2.1 stOk 0 0 0 { s with shared := Memory.writeWs s.shared (4 * (k.arg 3).toNat) k.data }
    rw [e]

/-! SEQ_REQUEST. -/

/-- SEQ_REQUEST to a sequence in force (R159). -/
theorem seqRequest_effect {t : Task} {c : Nat} (h : Ready s 0x0209 tag k) (ht : taskNo s ((k.arg 3).bits 15 0) = some t)
    (hc : ctxOf s ((k.arg 3).bits 15 0) = some c) :
    ((parm s t 3).bit 30 = true → (k.arg 3).bit 16 = false → kSeqRequest k s = kStatus k stSeqSlave s) ∧
    ((parm s t 3).bit 30 = false ∨ (k.arg 3).bit 16 = true → Memory.wf s.shared = true →
      Completed s (kSeqRequest k s) k 0 0 0 0 ∧ (parm (kSeqRequest k s) t 0).bit 27 = !(k.arg 3).bit 16) := by
  have e : kSeqRequest k s = if (parm s t 3).bit 30 && !(k.arg 3).bit 16 then kStatus k stSeqSlave s
      else kOk k (seqRequest c t (!(k.arg 3).bit 16) s) := by simp only [kSeqRequest, ht, hc]
  refine ⟨fun hs ho => ?_, fun hno hm => ?_⟩
  · rw [e, hs, ho]
    rfl
  · have hk : kSeqRequest k s = kEnd k stOk 0 0 0
        (parmPut t 0 (requestWord (seqOf s c) (!(k.arg 3).bit 16) (seqSupOk s t) (seqSupPres s t)) s) := by
      rw [e, if_neg (by rcases hno with h | h <;> rw [h] <;> simp)]
      rfl
    have hp : ∀ u : State, parm (kEnd k stOk 0 0 0 u) t 0 = parm u t 0 := fun u => shWord_kEnd h.2.2.1 stOk 0 0 0 u _
    rw [hk]
    refine ⟨completed_of_same h (by rfl) (by rfl) .., ?_⟩
    rw [hp, parm_parmPut hm, requestWord_req]

end

/-- Settles O46. -/
theorem kioskChannelCommands : Obligations.KioskChannelCommands := by
  intro s tag
  have hfree : ∀ {u : State}, (∃ o m, u = { s with kio := o, host := m }) → u.ctx = s.ctx ∧ u.chan = s.chan ∧ u.shared = s.shared := by
    rintro u ⟨o, m, rfl⟩
    exact ⟨rfl, rfl, rfl⟩
  have hstat : ∀ {cmd k} (h : Ready s cmd tag k) st, Completed s (kStatus k st s) k st 0 0 0 ∧ (kStatus k st s).ctx = s.ctx ∧
      (kStatus k st s).chan = s.chan ∧ (kStatus k st s).shared = s.shared := fun h st =>
    ⟨(kStatus_ready h st).1, hfree (kStatus_ready h st).2⟩
  refine ⟨fun k h hn => ?start, fun k h hn hd => ?stop, fun n k hk hm hq ho hw => chanCmdsEnd_effect n.val hk hm hq ho hw,
    fun k h hn hd => ?restart, fun k h hd => ⟨_, does_of_ready h rfl, plausReset_effect h hd⟩, fun k t q h hn ht hq hc => ?swap,
    fun k t h ht hle => ?param, fun k h hm => ⟨_, does_of_ready h rfl, sharedWrite_effect h hm⟩, fun k h hno => ?noTable,
    fun k t id h ht hid => ?table, fun k h => ⟨fun hno => ?noSeq, fun t c ht hc => ?seq⟩⟩
  case start =>
    have hd : Does (.chStart tag) s (kChStart k s) := does_of_ready h rfl
    refine ⟨fun hdecl hr => ⟨_, hd, ?_⟩, fun hdecl hr ho hc => ⟨_, hd, (chStart_effect h hn hdecl).2.1 hr ho hc⟩, fun hdecl hr hno => ⟨_, hd, ?_⟩⟩
    · obtain ⟨h1, _, h3, _⟩ := hstat h stSeqOwned
      rw [(chStart_effect h hn hdecl).1 hr]
      exact ⟨h1, h3⟩
    · obtain ⟨h1, _, h3, _⟩ := hstat h stState
      rw [(chStart_effect h hn hdecl).2.2 hr hno]
      exact ⟨h1, h3⟩
  case stop =>
    have hu : Does (.chStop tag) s (kChStop k s) := does_of_ready h rfl
    obtain ⟨h1, h2⟩ := chStop_effect h hn hd
    exact ⟨fun hst => ⟨_, hu, h1 hst⟩, fun hst => ⟨_, hu, h2 hst⟩⟩
  case restart =>
    have hu : Does (.chRestart tag) s (kChRestart k s) := does_of_ready h rfl
    obtain ⟨h1, h2⟩ := chRestart_effect h hn hd
    refine ⟨fun hst => ⟨_, hu, h1 hst⟩, fun hst => ⟨_, hu, ?_⟩⟩
    obtain ⟨h3, _, h4, _⟩ := hstat h stState
    rw [h2 hst]
    exact ⟨h3, h4⟩
  case swap =>
    have hu : Does (.bankSwap tag) s (kBankSwap k s) := does_of_ready h rfl
    have e : kBankSwap k s = swapBank k t q s := by simp only [kBankSwap, ht, hq]
    rw [e] at hu
    obtain ⟨h1, h2, h3, h4, h5⟩ := swapBank_effect h hn t q hc
    exact ⟨fun a => ⟨_, hu, h1 a⟩, fun a b => ⟨_, hu, h2 a b⟩, fun a b c => ⟨_, hu, h3 a b c⟩, fun a b c d => ⟨_, hu, h4 a b c d⟩,
      fun a b c d => ⟨_, hu, h5 a b c d⟩⟩
  case param =>
    have hu : Does (.paramWrite tag) s (kParamWrite k s) := does_of_ready h rfl
    obtain ⟨h1, h2, h3⟩ := paramWrite_effect h ht hle
    refine ⟨fun hr => ⟨_, hu, ?_⟩, fun hr hc => ?_, fun hr hc hl hm => ⟨_, hu, h3 hr hc hl hm⟩⟩
    · obtain ⟨h4, _, _, h5⟩ := hstat h stBadArg
      rw [h1 hr]
      exact ⟨h4, h5⟩
    · rwa [h2 hr hc] at hu
  case noTable =>
    have hu : Does (.tableSave tag) s (kTableSave k s) := does_of_ready h rfl
    have e : kTableSave k s = kStatus k stNotInForce s := by
      unfold kTableSave
      cases ht : taskNo s ((k.arg 3).bits 15 0) with
      | none => rfl
      | some t => rw [Option.bind_some, hno t ht]
    rw [e] at hu
    exact ⟨_, hu, (hstat h stNotInForce).1⟩
  case table =>
    have hu : Does (.tableSave tag) s (kTableSave k s) := does_of_ready h rfl
    simp only [kTableSave, ht, Option.bind_some, hid] at hu
    exact ⟨_, hu, ⟨_, List.mem_map.2 ⟨k, (ready_mem h).1, if_pos (sameCmd_self k)⟩, rfl, rfl, rfl⟩, rfl, rfl⟩
  case noSeq =>
    have hu : Does (.seqRequest tag) s (kSeqRequest k s) := does_of_ready h rfl
    have e : kSeqRequest k s = kStatus k stNotInForce s := by simp only [kSeqRequest, hno]
    obtain ⟨h1, _, _, h2⟩ := hstat h stNotInForce
    rw [e] at hu
    exact ⟨_, hu, h1, h2⟩
  case seq =>
    have hu : Does (.seqRequest tag) s (kSeqRequest k s) := does_of_ready h rfl
    obtain ⟨h1, h2⟩ := seqRequest_effect h ht hc
    refine ⟨fun hs ho => ⟨_, hu, ?_⟩, fun hno hm => ⟨_, hu, h2 hno hm⟩⟩
    obtain ⟨h3, _, _, h4⟩ := hstat h stSeqSlave
    rw [h1 hs ho]
    exact ⟨h3, h4⟩

end Sys2Proof.Claims
end

section
/-!
PROOF. The kiosk's commands on modules, triggers and streams of exported rows (R194, R197 to R201, R240 to R252, Table 10.6).
-/
namespace Sys2Proof.Claims
open Sys2Proof Sys2Proof.Machine

section
variable {s u v : State} {k : KCmd} {cmd : Nat} {tag : BitVec 16}

/-! Modules. -/

theorem lk_modLk_self {l : Nat} (hl : l < 64) (f : Link → Link) (s : State) : (s.modLk l f).lk l = f (s.lk l) := vat_vmod_self _ hl f _

/-- A service message of the device waits at the end of its queue (R197). -/
theorem svcSend_devQ {l : Nat} (hl : l < 64) (kind : Nat) (arg : BitVec 8) (ws : List W) (o : Option (BitVec 16)) (s : State) :
    ((svcSend l false kind arg ws o s).lk l).devQ = (s.lk l).devQ ++ [⟨kind, (s.lk l).devSeq, arg, ws, 0, 0, true, o, false⟩] := by
  rw [svcSend, lk_modLk_self hl]
  rfl

/-- A service message of the host waits at the end of its queue (R197). -/
theorem svcSend_hostQ {l : Nat} (hl : l < 64) (kind : Nat) (arg : BitVec 8) (ws : List W) (o : Option (BitVec 16)) (s : State) :
    ((svcSend l true kind arg ws o s).lk l).hostQ = (s.lk l).hostQ ++ [⟨kind, (s.lk l).hostSeq, arg, ws, 0, 0, true, o, false⟩] := by
  rw [svcSend, lk_modLk_self hl]
  rfl

/-- The words of a table wait as TBL_DATA messages (R201). -/
theorem tblData_devQ {l : Nat} (hl : l < 64) (tag : BitVec 16) (n : Nat) (ws : List W) (s : State) : ∃ ms,
    ((tblData l tag n ws s).lk l).devQ = (s.lk l).devQ ++ ms ∧ ∀ x ∈ ms, x.kind = 0x11 := by
  induction n generalizing ws s with
  | zero => exact ⟨[], (List.append_nil _).symm, fun _ h => absurd h List.not_mem_nil⟩
  | succ n ih =>
    unfold tblData
    split
    · exact ⟨[], (List.append_nil _).symm, fun _ h => absurd h List.not_mem_nil⟩
    · obtain ⟨ms, e, h⟩ := ih (ws.drop 255) (svcSend l false 0x11 0 (ws.take 255) (some tag) s)
      rw [svcSend_devQ hl, List.append_assoc] at e
      refine ⟨_, e, fun x hx => ?_⟩
      rcases List.mem_append.1 hx with hx | hx
      · rw [List.mem_singleton.1 hx]
      · exact h x hx

/-- MOD_TABLE (R201). -/
theorem modTable_effect (hl : k.chan < 64) (hv : (s.lk k.chan).version = 3) (hst : (s.lk k.chan).st = .up)
    (hw : helloWtbl (s.lk k.chan).hello = true) (b : List W) : ∃ m ms e,
      ((kModTable (some b) k s).lk k.chan).devQ = (s.lk k.chan).devQ ++ [m] ++ ms ++ [e] ∧ m.kind = 0x10 ∧ e.kind = 0x12 ∧
      (∀ x ∈ ms, x.kind = 0x11) ∧ m.tag = some k.tag ∧ e.tag = some k.tag := by
  obtain ⟨n, ws, a, c, he⟩ : ∃ n ws a c, kModTable (some b) k s = svcSend k.chan false 0x12 a [] (some k.tag)
      (tblData k.chan k.tag n ws (svcSend k.chan false 0x10 0 c (some k.tag) (kBegin k s))) := by
    simp only [kModTable, hv, inUse_of_up (.inl hst), hw, BEq.rfl, Bool.and_self, Bool.not_true, Bool.or_self, Bool.false_eq_true, if_false]
    exact ⟨_, _, _, _, rfl⟩
  obtain ⟨ms, hq, hk⟩ := tblData_devQ hl k.tag n ws (svcSend k.chan false 0x10 0 c (some k.tag) (kBegin k s))
  rw [svcSend_devQ hl] at hq
  have hend := svcSend_devQ hl 0x12 a [] (some k.tag) (tblData k.chan k.tag n ws (svcSend k.chan false 0x10 0 c (some k.tag) (kBegin k s)))
  rw [hq] at hend
  exact ⟨_, ms, _, (congrArg (fun u : State => (u.lk k.chan).devQ) he).trans hend, rfl, rfl, hk, rfl, rfl⟩

/-! Triggers. -/

theorem trg_modTrig (i : Fin 32) (f : Trig → Trig) (b : Bbr) (s : State) :
    trg { s with bbr := { b with trig := vmod b.trig i.val f } } i = f (vat b.trig i.val Trig.init) := vat_vmod_self _ i.isLt f _

theorem trg_trigLater (i : Fin 32) (p : TrigPend) (s : State) : trg (trigLater i.val p s) i = { trg s i with pend := some p } ∧
    ∀ j, j ≠ i → trg (trigLater i.val p s) j = trg s j :=
  ⟨trg_modTrig i _ s.bbr s, fun _ hj => vat_vmod_ne _ (fun h => hj (Fin.ext h.symm)) _ _⟩

/-- A completion changes no trigger and no stream. -/
theorem kEnd_bbr (hm : k.mseq = none) (st : Nat) (r0 r1 r2 : W) (s : State) : (kEnd k st r0 r1 r2 s).bbr = s.bbr := by
  obtain ⟨o, m, e⟩ := kEnd_eq hm st r0 r1 r2 s
  rw [e]

theorem trg_kEnd (hm : k.mseq = none) (st : Nat) (r0 r1 r2 : W) (s : State) (i : Fin 32) : trg (kEnd k st r0 r1 r2 s) i = trg s i := by
  rw [trg, kEnd_bbr hm, trg]

theorem stm_kEnd (hm : k.mseq = none) (st : Nat) (r0 r1 r2 : W) (s : State) (i : Fin 4) : stm (kEnd k st r0 r1 r2 s) i = stm s i := by
  rw [stm, kEnd_bbr hm, stm]

theorem modTier_trig (b : Bbr) (t : Nat) (f : TierSt → TierSt) : (b.modTier t f).trig = b.trig := by
  unfold Bbr.modTier
  split
  · rfl
  · split <;> rfl

theorem modBlk_trig (b : Bbr) (t n : Nat) (f : Blk → Blk) : (b.modBlk t n f).trig = b.trig := modTier_trig ..

theorem hdrSync_trig (t n : Nat) (o : Bool) (b : Bbr) : (hdrSync t n o b).trig = b.trig := by
  obtain ⟨m, e⟩ := hdrSync_eq t n o b
  rw [e]

/-- A note changes no trigger (R238). -/
theorem note_trig (kind low : Nat) (data : List W) (tiers : List Nat) (s : State) : (note kind low data tiers s).bbr.trig = s.bbr.trig := by
  have htier : ∀ (ws : List W) (t : Nat) (b : Bbr), (noteTier false ws t b).trig = b.trig := fun ws t b => by
    unfold noteTier
    simp only [apply_ite Bbr.trig, hdrSync_trig, modBlk_trig, ite_self]
  unfold note
  dsimp only
  generalize s.bbr = b
  induction tiers generalizing b with
  | nil => rfl
  | cons t l ih => exact (ih _).trans (htier _ t b)

/-- A trigger that fires (R240, R242). -/
theorem trg_fireTrig (i : Fin 32) (f : Nat) (src : JAddr) (s : State) : (trg (fireTrig i.val f src s) i).st = .fired ∧
    (trg (fireTrig i.val f src s) i).f = f ∧ (trg (fireTrig i.val f src s) i).exported = 0 := by
  obtain ⟨b, l, sh, kind, low, data, tiers, hb⟩ : ∃ (b : Bbr) (l : List Nat) (sh : Bool) (kind low : Nat) (data : List W) (tiers : List Nat),
      (fireTrig i.val f src s).bbr = (note kind low data tiers { s with bbr := { b with trig := vmod b.trig i.val fun g =>
        { g with st := .fired, f := f, left := l, preShort := sh, damaged := false, exported := 0 } } }).bbr := by
    unfold fireTrig
    dsimp only
    split
    · exact ⟨_, _, _, _, _, _, _, rfl⟩
    · exact ⟨_, _, _, _, _, _, _, rfl⟩
  rw [trg, hb, note_trig, vat_vmod_self _ i.isLt]
  exact ⟨rfl, rfl, rfl⟩

/-- The change of a trigger that a command left for the tick (R241). -/
theorem trigPend_effect (i : Fin 32) (s : State) :
    (∀ win, (trg s i).pend = some (.arm win) → (trg s i).st = .idle → (trg s i).decl = true →
      trg (trigPend i.val s) i = { trg s i with pend := none, st := .armed, win := win, armTick := s.now, otherSide := false }) ∧
    (∀ f, (trg s i).pend = some (.fire f) → (trg s i).st = .armed → (trg s i).armTick ≤ s.now →
      (trg (trigPend i.val s) i).st = .fired ∧ (trg (trigPend i.val s) i).f = f ∧ (trg (trigPend i.val s) i).exported = 0) ∧
    ((trg s i).pend = some (.release false) → (trg s i).st = .frozen → (trg (trigPend i.val s) i).st = .idle) ∧
    ((trg s i).pend = some (.release true) → (trg s i).st = .frozen → (trg (trigPend i.val s) i).st = .armed ∧
      (trg (trigPend i.val s) i).armTick = s.now) ∧
    ((trg s i).pend = none → trigPend i.val s = s) := by
  obtain ⟨v, hv⟩ : ∃ v : State, v = { s with bbr := { s.bbr with trig := vmod s.bbr.trig i.val fun g => { g with pend := none } } } := ⟨_, rfl⟩
  have hvi : trg v i = { trg s i with pend := none } := by rw [hv]; exact trg_modTrig i _ s.bbr s
  have hnow : v.now = s.now := by rw [hv]; rfl
  have e : trigPend i.val s = match (trg s i).pend with
      | none => s
      | some (.arm win) => if (trg s i).st = .idle && (trg s i).decl then armTrig i.val win v else v
      | some (.fire f) => trigHit i.val f (ownAddr v) v
      | some (.release again) =>
        if (trg s i).st = .frozen then
          let s2 := { v with bbr := { releaseWin i.val v.bbr with trig := vmod (releaseWin i.val v.bbr).trig i.val fun g => { g with st := .idle, exported := 0 } } }
          if again then armTrig i.val (declWin (trg s i)) s2 else s2
        else v := by
    rw [hv]
    rfl
  refine ⟨fun win hp hst hd => ?_, fun f hp hst ht => ?_, fun hp hst => ?_, fun hp hst => ?_, fun hp => ?_⟩
  · rw [e, hp]
    dsimp only
    rw [if_pos (by rw [hst, hd]; rfl), armTrig, trg_modTrig, hnow]
    exact congrArg (fun g : Trig => { g with st := .armed, win := win, armTick := s.now, otherSide := false }) hvi
  · have hhit : trigHit i.val f (ownAddr v) v = fireTrig i.val f (ownAddr v) v := by
      have hs : (vat v.bbr.trig i.val Trig.init).st = .armed := (congrArg Trig.st hvi).trans hst
      have ha : (vat v.bbr.trig i.val Trig.init).armTick ≤ v.now := by rw [hnow]; exact Nat.le_trans (Nat.le_of_eq (congrArg Trig.armTick hvi)) ht
      unfold trigHit
      dsimp only
      rw [if_pos hs, if_pos ha]
    rw [e, hp]
    dsimp only
    rw [hhit]
    exact trg_fireTrig i f _ v
  · rw [e, hp]
    dsimp only
    rw [if_pos hst, if_neg Bool.false_ne_true, trg_modTrig]
  · rw [e, hp]
    dsimp only
    rw [if_pos hst, if_pos rfl, armTrig, trg_modTrig]
    exact ⟨rfl, hnow⟩
  · rw [e, hp]

end

/-- Settles O47. -/
theorem kioskModuleAndRecorderCommands : Obligations.KioskModuleAndRecorderCommands := by
  intro s tag
  have hstat : ∀ {cmd k} (h : Ready s cmd tag k) st, Completed s (kStatus k st s) k st 0 0 0 ∧ (kStatus k st s).bbr = s.bbr ∧
      (kStatus k st s).link = s.link := fun h st => by
    obtain ⟨hc, o, m, e⟩ := kStatus_ready h st
    exact ⟨hc, by rw [e], by rw [e]⟩
  refine ⟨fun k h hl => ?read, fun k h hl => ?write, fun k h hn => ?thresh, fun k b h hv => ?noTable, fun k b h hl hv hst hw => ?table,
    fun k i h hi => ?arm, fun k i h hi => ?fire, fun k i h hi h8 => ?release, fun i => trigPend_effect i s, fun k i h hi => ?xopen,
    fun k i h hi => ?credit, fun k i h hi => ?close⟩
  case read =>
    have hu : Does (.modRead tag) s (kModRead k s) := does_of_ready h rfl
    exact ⟨_, _, hu, svcSend_hostQ hl .., rfl, rfl, rfl, rfl, rfl⟩
  case write =>
    have hu : ∀ b, Does (.modWrite tag b) s (kModWrite b k s) := fun b => does_of_ready h rfl
    obtain ⟨hc, o, m, e⟩ := kDma_effect h
    exact ⟨⟨_, hu none, hc, by rw [kModWrite, e]⟩, fun ws => ⟨_, _, hu (some ws), svcSend_hostQ hl .., rfl, rfl,
      by simp only [List.length_cons, List.length_map, List.length_range]; omega⟩⟩
  case thresh =>
    have hu : Does (.modThresh tag) s (kModThresh k s) := does_of_ready h rfl
    refine ⟨_, _, hu, svcSend_devQ (l := linkOf k.chan) (by simp only [linkOf]; omega) .., rfl, rfl, rfl, rfl, rfl, ?_⟩
    dsimp only
    split <;> rfl
  case noTable =>
    have hu : Does (.modTable tag b) s (kModTable b k s) := does_of_ready h rfl
    have e : kModTable b k s = kStatus k stState s := by
      have hne : ((s.lk k.chan).version == 3) = false := beq_eq_false_iff_ne.2 hv
      simp only [kModTable, hne, Bool.false_and, Bool.not_false, Bool.true_or, if_true]
    obtain ⟨hc, _, hlk⟩ := hstat h stState
    rw [e] at hu
    exact ⟨_, hu, hc, hlk⟩
  case table =>
    obtain ⟨m, ms, e, he⟩ := modTable_effect hl hv hst hw b
    exact ⟨_, m, ms, e, does_of_ready h rfl, he⟩
  case arm =>
    have hu : Does (.trigArm tag) s (kTrigArm k s) := does_of_ready h rfl
    have hk : k.trig = i.val := hi
    refine ⟨fun hd hst => ?_, fun hno => ?_⟩
    · obtain ⟨win, e⟩ : ∃ win, kTrigArm k s = kEnd k stOk 0 0 0 (trigLater i.val (.arm win) s) := by
        refine ⟨_, (if_neg ?_).trans (congrArg (fun n => kEnd k stOk 0 0 0 (trigLater n (.arm _) s)) hk)⟩
        rw [hk]
        change ¬ ((!(trg s i).decl || decide ((trg s i).st ≠ .idle)) = true)
        rw [hd, hst]
        decide
      obtain ⟨h1, h2⟩ := trg_trigLater i (.arm win) s
      rw [e] at hu
      refine ⟨_, win, hu, completed_of_same h (by rfl) (by rfl) .., ?_, fun j hj => ?_⟩
      · rw [trg_kEnd h.2.2.1, h1]
      · rw [trg_kEnd h.2.2.1, h2 j hj]
    · have e : kTrigArm k s = kStatus k stState s := by
        refine if_pos ?_
        rw [hk]
        change (!(trg s i).decl || decide ((trg s i).st ≠ .idle)) = true
        rcases hno with h | h
        · rw [h]; rfl
        · rw [decide_eq_true h, Bool.or_true]
      obtain ⟨hc, hb, _⟩ := hstat h stState
      rw [e] at hu
      exact ⟨_, hu, hc, hb⟩
  case fire =>
    have hu : Does (.trigFire tag) s (kTrigFire k s) := does_of_ready h rfl
    have hk : k.trig = i.val := hi
    refine ⟨fun hst ht => ?_, fun hno => ?_⟩
    · have e : kTrigFire k s = kEnd k stOk (tc32 s.now) 0 0 (trigLater i.val (.fire s.now) s) := by
        refine (if_neg ?_).trans (congrArg (fun n => kEnd k stOk (tc32 s.now) 0 0 (trigLater n (.fire s.now) s)) hk)
        rw [hk]
        change ¬ ((trg s i).st ≠ .armed ∨ s.now < (trg s i).armTick)
        exact fun h => h.elim (fun h => h hst) (fun h => absurd ht (Nat.not_le.2 h))
      rw [e] at hu
      exact ⟨_, hu, completed_of_same h (by rfl) (by rfl) .., by rw [trg_kEnd h.2.2.1, (trg_trigLater i _ s).1]⟩
    · have e : kTrigFire k s = kStatus k stState s := by
        refine if_pos ?_
        rw [hk]
        exact hno
      obtain ⟨hc, hb, _⟩ := hstat h stState
      rw [e] at hu
      exact ⟨_, hu, hc, hb⟩
  case release =>
    have hu : Does (.trigRelease tag) s (kTrigRelease k s) := does_of_ready h rfl
    have hk : k.trig = i.val := hi
    refine ⟨fun hst => ?_, fun hst => ?_⟩
    · have e : kTrigRelease k s = kStatus k stState s := by
        refine (if_neg (by rw [h8]; exact Bool.false_ne_true)).trans (if_pos ?_)
        rw [hk]
        exact hst
      obtain ⟨hc, hb, _⟩ := hstat h stState
      rw [e] at hu
      exact ⟨_, hu, hc, hb⟩
    · obtain ⟨r0, e⟩ : ∃ r0, kTrigRelease k s = kEnd k stOk r0 0 0
          (trigLater i.val (.release ((k.arg 3).bit 9 || (lat (trg s i).words 0 0).bit 22)) s) := by
        unfold kTrigRelease
        dsimp only
        rw [hk, h8, if_neg Bool.false_ne_true, if_neg (show ¬ (vat s.bbr.trig i.val Trig.init).st ≠ .frozen from Classical.not_not.2 hst)]
        exact ⟨_, rfl⟩
      rw [e] at hu
      exact ⟨_, r0, hu, completed_of_same h (by rfl) (by rfl) .., by rw [trg_kEnd h.2.2.1, (trg_trigLater i _ s).1]⟩
  case xopen =>
    have hu : Does (.exportOpen tag) s (kExportOpen k s) := does_of_ready h rfl
    have hk : k.strm = i.val := hi
    refine ⟨fun hno => ?_, fun n hn ho => ?_, fun n hn ho => ?_⟩
    · have e : kExportOpen k s = kStatus k stNotInForce s := by simp only [kExportOpen, hk, hno]
      obtain ⟨hc, hb, _⟩ := hstat h stNotInForce
      rw [e] at hu
      exact ⟨_, hu, hc, hb⟩
    · have e : kExportOpen k s = kStatus k stState s := by
        simp only [kExportOpen, hk, hn]
        exact if_pos ho
      obtain ⟨hc, hb, _⟩ := hstat h stState
      rw [e] at hu
      exact ⟨_, hu, hc, hb⟩
    · obtain ⟨b, x, e, hx⟩ : ∃ (b : Bbr) (x : Strm), kExportOpen k s = kEnd k stOk 0 0 0 { s with bbr := { b with strm := vput b.strm i.val x } } ∧
          x.isOpen = true ∧ x.size = (k.arg 6).bits 3 0 ∧ x.credit = 2 ^ (k.arg 6).bits 3 0 ∧ x.sent = 0 ∧ x.tiers = BitVec.ofNat 4 n ∧ x.gaps = [] := by
        simp only [kExportOpen, hk, hn]
        rw [if_neg (show ¬ ((vat s.bbr.strm i.val Strm.init).isOpen = true) from fun hc => Bool.false_ne_true (ho.symm.trans hc))]
        exact ⟨_, _, rfl, rfl, rfl, rfl, rfl, rfl, rfl⟩
      have hs : stm (kEnd k stOk 0 0 0 { s with bbr := { b with strm := vput b.strm i.val x } }) i = x := by
        rw [stm_kEnd h.2.2.1]
        exact vat_vput_self _ i.isLt x _
      rw [e] at hu
      refine ⟨_, hu, completed_of_same h (by rfl) (by rfl) .., ?_⟩
      rw [hs]
      exact hx
  case credit =>
    have hu : Does (.exportCredit tag) s (kExportCredit k s) := does_of_ready h rfl
    have hk : k.strm = i.val := hi
    have e : kExportCredit k s = if !(stm s i).isOpen then kStatus k stState s
        else if 2 ^ (stm s i).size < (stm s i).credit + (k.arg 4).toNat then kStatus k stBadArg s
        else kEnd k stOk (nw ((stm s i).credit + (k.arg 4).toNat)) 0 0
          { s with bbr := { s.bbr with strm := vput s.bbr.strm i.val { stm s i with credit := (stm s i).credit + (k.arg 4).toNat } } } := by
      rw [kExportCredit, hk]
      rfl
    rw [e] at hu
    refine ⟨fun ho => ?_, fun ho hlt => ?_, fun ho hle => ?_⟩
    · obtain ⟨hc, hb, _⟩ := hstat h stState
      rw [if_pos (by rw [ho]; rfl)] at hu
      exact ⟨_, hu, hc, hb⟩
    · obtain ⟨hc, hb, _⟩ := hstat h stBadArg
      rw [if_neg (by rw [ho]; exact Bool.false_ne_true), if_pos hlt] at hu
      exact ⟨_, hu, hc, hb⟩
    · rw [if_neg (by rw [ho]; exact Bool.false_ne_true), if_neg (Nat.not_lt.2 hle)] at hu
      refine ⟨_, hu, completed_of_same h (by rfl) (by rfl) .., ?_⟩
      rw [stm_kEnd h.2.2.1]
      exact vat_vput_self _ i.isLt _ _
  case close =>
    have hu : Does (.exportClose tag) s (kExportClose k s) := does_of_ready h rfl
    have hk : k.strm = i.val := hi
    have e : kExportClose k s = if !(stm s i).isOpen then kStatus k stState s
        else kEnd k stOk ((stm s i).sent.extractLsb' 0 32) 0 0 { s with bbr := { clearTodo i.val s.bbr with
          strm := vput (clearTodo i.val s.bbr).strm i.val { stm s i with isOpen := false, credit := 0, gaps := [], frozen := [] } } } := by
      rw [kExportClose, hk]
      rfl
    rw [e] at hu
    refine ⟨fun ho => ?_, fun ho => ?_⟩
    · obtain ⟨hc, hb, _⟩ := hstat h stState
      rw [if_pos (by rw [ho]; rfl)] at hu
      exact ⟨_, hu, hc, hb⟩
    · rw [if_neg (by rw [ho]; exact Bool.false_ne_true)] at hu
      refine ⟨_, hu, completed_of_same h (by rfl) (by rfl) .., ?_⟩
      rw [stm_kEnd h.2.2.1, stm, vat_vput_self _ i.isLt]
      exact ⟨rfl, rfl, rfl, rfl⟩

end Sys2Proof.Claims
end

section
/-!
PROOF. The kiosk's commands on units, event sources, records, feeds, ledgers and two-wire ports, and DORMANT (R30, R31, R260, R279,
R329, R380, R384, R386, R407 to R409).
-/
namespace Sys2Proof.Claims
open Sys2Proof Sys2Proof.Machine

section
variable {s u v : State} {k : KCmd} {cmd : Nat} {tag : BitVec 16}

/-! Records. -/

/-- The reading of a record leaves a ready command as it is: it raises at most one occurrence, and flags the copies (R408). -/
theorem recChoose_effect (h : Ready s cmd tag k) (id : BitVec 16) : (recChoose id s).2.2.2.kio.isOpen = s.kio.isOpen ∧
    (recChoose id s).2.2.2.kio.cq = s.kio.cq ∧ (recChoose id s).2.2.2.kio.accepted = s.kio.accepted ∧
    Memory.wf (recChoose id s).2.2.2.host = true ∧ (recChoose id s).2.2.2.nvs.win = s.nvs.win ∧
    (recChoose id s).2.2.2.nvs.cells = s.nvs.cells := by
  have hw := h.2.2.2.2.2.2
  have hev : ∀ b code, (nvFlag b (s.raiseP 981 .ce code)).kio.isOpen = s.kio.isOpen ∧ (nvFlag b (s.raiseP 981 .ce code)).kio.cq = s.kio.cq ∧
      (nvFlag b (s.raiseP 981 .ce code)).kio.accepted = s.kio.accepted ∧ Memory.wf (nvFlag b (s.raiseP 981 .ce code)).host = true ∧
      (nvFlag b (s.raiseP 981 .ce code)).nvs.win = s.nvs.win ∧ (nvFlag b (s.raiseP 981 .ce code)).nvs.cells = s.nvs.cells := fun b code => by
    obtain ⟨_, _, _, _, _, e⟩ := raise_kio { s with fresh := s.fresh + 1 } 981 .ce code (nw (Config.draw s.fresh 0 0xFFFFFFFF)) 0x1FF 0xFFFF
    have hk : (nvFlag b (s.raiseP 981 .ce code)).kio = _ := e
    have hn : (nvFlag b (s.raiseP 981 .ce code)).nvs = { s.nvs with evt := bitPut (s.raiseP 981 .ce code).nvs.evt b true } := by
      rw [nvFlag, (occurs_raiseP s 981 .ce code 0x1FF 0xFFFF).nvs]
    refine ⟨by rw [hk], by rw [hk], by rw [hk], ?_, by rw [hn], by rw [hn]⟩
    exact wf_raise (s := { s with fresh := s.fresh + 1 }) hw 981 .ce code (nw (Config.draw s.fresh 0 0xFFFFFFFF)) 0x1FF 0xFFFF
  have hsame : s.kio.isOpen = s.kio.isOpen ∧ s.kio.cq = s.kio.cq ∧ s.kio.accepted = s.kio.accepted ∧ Memory.wf s.host = true ∧
      s.nvs.win = s.nvs.win ∧ s.nvs.cells = s.nvs.cells := ⟨rfl, rfl, rfl, hw, rfl, rfl⟩
  unfold recChoose
  split
  · exact hsame
  · dsimp only
    split
    · split
      · split
        · exact hsame
        · exact hsame
      · split
        · exact hsame
        · exact hev _ _
    · split
      · exact hev _ _
      · split
        · exact hev _ _
        · exact hsame

/-- REC_READ (R409). -/
theorem recRead_effect (h : Ready s 0x0602 tag k) :
    Completed s (kRecRead k s) k 0 (nw (recChoose ((k.arg 3).extractLsb' 0 16) s).1)
      (nw (((recFind s ((k.arg 3).extractLsb' 0 16)).map (·.len)).getD 0)) (recChoose ((k.arg 3).extractLsb' 0 16) s).2.2.1 ∧
    (kRecRead k s).nvs.win = s.nvs.win ∧ (kRecRead k s).nvs.cells = s.nvs.cells := by
  obtain ⟨h1, h2, h3, h4, h5, h6⟩ := recChoose_effect h ((k.arg 3).extractLsb' 0 16)
  obtain ⟨at_, ws, e⟩ : ∃ at_ ws, kRecRead k s = kEnd k stOk (nw (recChoose ((k.arg 3).extractLsb' 0 16) s).1)
      (nw (((recFind s ((k.arg 3).extractLsb' 0 16)).map (·.len)).getD 0)) (recChoose ((k.arg 3).extractLsb' 0 16) s).2.2.1
      { (recChoose ((k.arg 3).extractLsb' 0 16) s).2.2.2 with
        host := Memory.writeWs (recChoose ((k.arg 3).extractLsb' 0 16) s).2.2.2.host at_ ws } := ⟨_, _, rfl⟩
  obtain ⟨_, _, hm, hq, _, ho, _⟩ := h
  generalize recChoose ((k.arg 3).extractLsb' 0 16) s = c at *
  generalize nw (((recFind s ((k.arg 3).extractLsb' 0 16)).map (·.len)).getD 0) = r1 at *
  obtain ⟨r, pay, q, v⟩ := c
  dsimp only at *
  obtain ⟨o, m, e'⟩ := kEnd_eq hm stOk (nw r) r1 q { v with host := Memory.writeWs v.host at_ ws }
  have hc := completed_kEnd (s := s) (v := { v with host := Memory.writeWs v.host at_ ws }) hm hq ho (Memory.wf_writeWs _ _ h4) h1 h2
    (by rw [h3]) stOk (nw r) r1 q
  rw [e]
  exact ⟨hc, by rw [e']; exact h5, by rw [e']; exact h6⟩

/-- An update of a record changes the store alone (R406, R407). -/
theorem recUpdate_eq (id schema : BitVec 16) (pay : List W) (s : State) : ∃ b n, recUpdate id schema pay s = (b, { s with nvs := n }) := by
  obtain ⟨d, w, c, e, h⟩ := recAlloc_eq id pay.length false s
  unfold recUpdate
  rw [h]
  cases d with
  | none => exact ⟨_, _, rfl⟩
  | some d => exact ⟨_, _, rfl⟩

/-- REC_WRITE (R406, R407, R409). -/
theorem recWrite_effect (h : Ready s 0x0603 tag k) :
    let id := (k.arg 3).extractLsb' 0 16
    let n := (k.buf 4).2 / 4
    (0xF000 ≤ id.toNat ∨ n = 0 ∨ 8192 < n ∨ (k.buf 4).2 % 4 ≠ 0 → ∀ b, kRecWrite b k s = kStatus k stBadArg s) ∧
    (∀ ws, id.toNat < 0xF000 → 1 ≤ n → n ≤ 8192 → (k.buf 4).2 % 4 = 0 → recFind s id = none → s.adm.img = none →
      updBusy s = false →
      let w := recUpdate id ((k.arg 3).extractLsb' 16 16) ((List.range n).map fun i => lat ws i 0) s
      Completed s (kRecWrite (some ws) k s) k (if w.1 then 0 else 0x003A) 0 0 0 ∧ (kRecWrite (some ws) k s).nvs = w.2.nvs) := by
  intro id n
  refine ⟨fun hb b => ?_, fun ws h1 h2 h3 h4 h5 h6 h7 => ?_⟩
  · refine if_pos ?_
    rcases hb with h | h | h | h
    · rw [decide_eq_true h, Bool.true_or, Bool.true_or, Bool.true_or, Bool.true_or]
    · rw [decide_eq_true h, Bool.or_true, Bool.true_or, Bool.true_or]
    · rw [decide_eq_true h, Bool.or_true, Bool.true_or]
    · rw [bne_iff_ne.2 h, Bool.or_true, Bool.true_or, Bool.true_or, Bool.true_or]
  · obtain ⟨b, m, e⟩ := recUpdate_eq id ((k.arg 3).extractLsb' 16 16) ((List.range n).map fun i => lat ws i 0) s
    have hd1 : decide (0xF000 ≤ id.toNat) = false := decide_eq_false (by omega)
    have hd2 : decide (n = 0) = false := decide_eq_false (by omega)
    have hd3 : decide (8192 < n) = false := decide_eq_false (by omega)
    have hw : kRecWrite (some ws) k s = kStatus k (if b then stOk else stNvFull) { s with nvs := m } := by
      unfold kRecWrite
      dsimp only
      rw [if_neg, if_neg, if_neg]
      · rw [e]
      · rw [h7]
        simp
      · rw [h6]
        exact Bool.false_ne_true
      · rw [hd1, hd2, hd3, h5, h4]
        simp
    dsimp only
    rw [hw, e]
    obtain ⟨o, y, e'⟩ := kEnd_eq h.2.2.1 (if b then stOk else stNvFull) 0 0 0 { s with nvs := m }
    exact ⟨completed_of_same h (by rfl) (by rfl) .., by rw [kStatus, e']⟩

/-! Feeds. -/

/-- FEED_TOGGLE (R260). -/
theorem feedToggle_effect {t : Task} (h : Ready s 0x0801 tag k) (ht : feedOfCh s k.chan = some t) :
    (((ctxOf s t.num).bind fun c => (s.cx c).rel).isSome = true → kFeedToggle k s = s) ∧
    (((ctxOf s t.num).bind fun c => (s.cx c).rel) = none → Memory.wf s.shared = true → (k.arg 4).bits 1 0 = 0 →
      Completed s (kFeedToggle k s) k 0 0 0 0 ∧ parm (kFeedToggle k s) t 13 = 0 ∧ (parm (kFeedToggle k s) t 18).bit 5 = true) ∧
    (((ctxOf s t.num).bind fun c => (s.cx c).rel) = none → Memory.wf s.shared = true → (k.arg 4).bits 1 0 = 1 →
      (parm s t 18).bit 2 = false → Completed s (kFeedToggle k s) k 0 0 0 0 ∧ parm (kFeedToggle k s) t 13 = 1 ∧
        parm (kFeedToggle k s) t 18 = parm s t 18) := by
  have hp : ∀ (u : State) a, parm (kEnd k stOk 0 0 0 u) t a = parm u t a := fun u a => shWord_kEnd h.2.2.1 stOk 0 0 0 u _
  refine ⟨fun hr => ?_, fun hr hm h0 => ?_, fun hr hm h1 hb => ?_⟩
  · simp only [kFeedToggle, ht, hr, if_true]
  · have e : kFeedToggle k s = kEnd k stOk 0 0 0 (parmPut t 13 (flag false 0) (parmPut t 18 (parm s t 18 ||| fld 1 5) s)) := by
      simp only [kFeedToggle, ht, hr, h0, Option.isSome_none, Bool.false_eq_true, if_false]
      rfl
    have hm' : Memory.wf (parmPut t 18 (parm s t 18 ||| fld 1 5) s).shared = true := wf_parmPut hm ..
    rw [e]
    refine ⟨completed_of_same h (by rfl) (by rfl) .., ?_, ?_⟩
    · rw [hp, parm_parmPut hm']
      rfl
    · rw [hp, parm_parmPut_ne hm' t (by decide), parm_parmPut hm, or_bit, fld_bit]
      simp
  · have h13 : parm (parmPut t 13 (flag true 0) s) t 18 = parm s t 18 := parm_parmPut_ne hm t (by decide) _
    have e : kFeedToggle k s = kEnd k stOk 0 0 0 (parmPut t 13 (flag true 0) s) := by
      have hput : feedReqPut t false true s = parmPut t 13 (flag true 0) s := rfl
      simp only [kFeedToggle, ht, hr, h1, Option.isSome_none, Bool.false_eq_true, if_false, bne_self_eq_false]
      rw [show (1 != 0) = true from rfl, hput, h13, hb]
      simp only [Bool.false_and, Bool.and_false, Bool.false_eq_true, if_false, kOk, kStatus]
    rw [e]
    refine ⟨completed_of_same h (by rfl) (by rfl) .., ?_, ?_⟩
    · rw [hp, parm_parmPut hm]
      rfl
    · rw [hp, h13]

/-! Two-wire transfers. -/

theorem tw_modTw_self {p : Nat} (hp : p < 4) (f : Twp → Twp) (s : State) : (s.modTw p f).tw p = f (s.tw p) := vat_vmod_self _ hp f _

/-- TW_XFER (R329). -/
theorem twXfer_effect (p : Fin 4) (hp : xferPort k = p.val) :
    (twController (s.tw p.val).cfg = false → ∀ b, twXfer b k s = kStatus k stState s) ∧
    (∀ b x, twController (s.tw p.val).cfg = true → (k.arg 3).bits 13 12 ≤ 1 →
      (k.arg 4).bits 15 8 + (k.arg 4).bits 23 16 ≤ (k.buf 5).2 → (s.tw p.val).xfer = some x →
      ((twXfer (some b) k s).tw p.val).queue = (s.tw p.val).queue ++ [xferOf k b] ∧ ((twXfer (some b) k s).tw p.val).xfer = some x) ∧
    (∀ b, twController (s.tw p.val).cfg = true → (k.arg 3).bits 13 12 ≤ 1 →
      (k.arg 4).bits 15 8 + (k.arg 4).bits 23 16 ≤ (k.buf 5).2 → (s.tw p.val).xfer = none → (s.tw p.val).st = 0 →
      twActs s p.val = true → ((twXfer (some b) k s).tw p.val).st = 1 ∧
        ((twXfer (some b) k s).tw p.val).xfer = some { xferOf k b with attempts := 1 }) := by
  have hfits : ∀ b, (k.arg 3).bits 13 12 ≤ 1 → (k.arg 4).bits 15 8 + (k.arg 4).bits 23 16 ≤ (k.buf 5).2 →
      (decide ((k.arg 3).bits 13 12 > 1) || decide ((k.buf 5).2 < (xferOf k b).wlen + (xferOf k b).rlen)) = false := fun b h1 h2 => by
    rw [decide_eq_false (by omega), decide_eq_false (show ¬ (k.buf 5).2 < (xferOf k b).wlen + (xferOf k b).rlen from Nat.not_lt.2 h2)]
    rfl
  refine ⟨fun hc b => ?_, fun b x hc h1 h2 hx => ?_, fun b hc h1 h2 hx hst ha => ?_⟩
  · simp only [twXfer, hp, hc, Bool.not_false, if_true]
  · have e : twXfer (some b) k s = (kBegin k s).modTw p.val fun t => { t with queue := t.queue ++ [xferOf k b] } := by
      have hx' : ((kBegin k s).tw p.val).xfer.isSome = true := (congrArg Option.isSome hx :)
      simp only [twXfer, hp, hc, Option.getD_some, hfits b h1 h2, hx', Bool.not_true, Bool.false_eq_true, if_false, if_true]
    rw [e, tw_modTw_self p.isLt]
    exact ⟨rfl, hx⟩
  · have hst' : ((kBegin k s).tw p.val).st = 0 := hst
    obtain ⟨v, hv⟩ : ∃ v : State, v = (kBegin k s).modTw p.val fun t => { t with xfer := some (xferOf k b) } := ⟨_, rfl⟩
    have hvp : v.tw p.val = { s.tw p.val with xfer := some (xferOf k b) } := by rw [hv, tw_modTw_self p.isLt]; rfl
    have e : twXfer (some b) k s = twStart p.val v := by
      have hx' : ((kBegin k s).tw p.val).xfer.isSome = false := (congrArg Option.isSome hx :)
      have hv0 : (v.tw p.val).st = 0 := by rw [hvp]; exact hst
      simp only [twXfer, hp, hc, Option.getD_some, hfits b h1 h2, hx', Bool.not_true, Bool.false_eq_true, if_false]
      rw [← hv, if_pos hv0]
    have hacts : twActs v p.val = true := by
      have hclk : v.clk = s.clk := by rw [hv]; rfl
      have hprl : v.prl = s.prl := by rw [hv]; rfl
      rw [twActs, clockRuns, hclk, hprl, hvp]
      exact ha
    have hst : twStart p.val v = kFix (some (xferOf k b).tag) (v.modTw p.val fun t =>
        { t with st := 1, xfer := some { xferOf k b with attempts := (xferOf k b).attempts + 1 } }) := by
      unfold twStart
      rw [hvp]
      dsimp only
      rw [if_pos hacts]
    obtain ⟨q, eq⟩ := kFix_eq (some (xferOf k b).tag) (v.modTw p.val fun t =>
        { t with st := 1, xfer := some { xferOf k b with attempts := (xferOf k b).attempts + 1 } })
    have htw : (twXfer (some b) k s).tw p.val = { v.tw p.val with
        st := 1, xfer := some { xferOf k b with attempts := (xferOf k b).attempts + 1 } } := by
      rw [e, hst, eq]
      exact tw_modTw_self p.isLt _ v
    rw [htw]
    exact ⟨rfl, rfl⟩

/-! DORMANT. -/

/-- From `s` to `u` the channels, shared task memory, the pair and the completion rings are as they were. -/
structure LinksOnly (s u : State) : Prop where
  chan : u.chan = s.chan
  shared : u.shared = s.shared
  prl : u.prl = s.prl
  cq : u.kio.cq = s.kio.cq

theorem LinksOnly.refl (s : State) : LinksOnly s s := ⟨rfl, rfl, rfl, rfl⟩

theorem LinksOnly.trans (h : LinksOnly s u) (h' : LinksOnly u v) : LinksOnly s v :=
  ⟨h'.chan.trans h.chan, h'.shared.trans h.shared, h'.prl.trans h.prl, h'.cq.trans h.cq⟩

theorem linksOnly_raiseP (s : State) (src : Nat) (cls : EvClass) (code : Nat) : LinksOnly s (s.raiseP src cls code) := by
  have h := occurs_raiseP s src cls code 0x1FF 0xFFFF
  obtain ⟨_, _, _, _, _, e⟩ := raise_kio { s with fresh := s.fresh + 1 } src cls code (nw (Config.draw s.fresh 0 0xFFFFFFFF)) 0x1FF 0xFFFF
  exact ⟨h.chan, h.shared, h.prl, (congrArg Kio.cq e :)⟩

theorem linkEvent_frame (l : Nat) (s : State) : LinksOnly s (linkEvent l s) ∧ (linkEvent l s).link = s.link := by
  unfold linkEvent
  generalize linkChans s l = ns
  induction ns generalizing s with
  | nil => exact ⟨.refl s, rfl⟩
  | cons n ns ih =>
    obtain ⟨h1, h2⟩ := ih (s.raiseP (4 * n + 1) .ce 0x0103)
    exact ⟨(linksOnly_raiseP s _ _ _).trans h1, h2.trans (occurs_raiseP s (4 * n + 1) .ce 0x0103 0x1FF 0xFFFF).link⟩

theorem coldReaders_eq (l : Nat) (s : State) : ∃ x, coldReaders l s = { s with ctx := x } := by
  unfold coldReaders
  split
  · exact ⟨s.ctx, rfl⟩
  · next g _ =>
    have hfold : ∀ (ts : List Task) (s : State), ∃ x, ts.foldl (fun s t => match ctxOf s t.num with
        | some c => s.modCx c fun x => { x with cold := true }
        | none => s) s = { s with ctx := x } := fun ts => by
      induction ts with
      | nil => exact fun s => ⟨s.ctx, rfl⟩
      | cons t ts ih =>
        intro s
        rw [List.foldl_cons]
        split
        · obtain ⟨x, e⟩ := ih (s.modCx _ fun x => { x with cold := true })
          exact ⟨x, e⟩
        · exact ih s
    exact hfold _ s

/-- A link set to a state: of the links that one alone, and the recorder's note and the contexts that read it beside it. -/
theorem setLink_eq (l : Nat) (st : LinkSt) (f : Link → Link) (s : State) : ∃ x b, setLink l st f s =
    { s.modLk l (fun x => f { x with st := st }) with ctx := x, bbr := b } := by
  unfold setLink
  dsimp only
  split
  · obtain ⟨x, e⟩ := coldReaders_eq l (s.modLk l fun x => f { x with st := st })
    rw [e]
    exact ⟨x, _, rfl⟩
  · exact ⟨s.ctx, _, rfl⟩

/-- A link taken down is down, and the others are as they were (R190). -/
theorem linkDown_effect {l : Nat} (hl : l < 64) (s : State) : LinksOnly s (linkDown l s) ∧ ((linkDown l s).lk l).st = .down ∧
    ∀ m, m ≠ l → (linkDown l s).lk m = s.lk m := by
  obtain ⟨v, hv, hvs, hvl, hvm⟩ : ∃ v, (linkDown l s = if (s.lk l).inUse then linkEvent l v else v) ∧ LinksOnly s v ∧ (v.lk l).st = .down ∧
      ∀ m, m ≠ l → v.lk m = s.lk m := by
    by_cases hd : (s.lk l).st = .down
    · exact ⟨s, by simp only [linkDown, hd, if_true], .refl s, hd, fun _ _ => rfl⟩
    · obtain ⟨x, b, e⟩ := setLink_eq l .down (fun x => { x with
        fast := false, version := 0, switchTick := none, ready := false, trainRun := 0, corruptRun := 0, missRun := 0, lastValid := false }) s
      obtain ⟨v, hv⟩ : ∃ v, v = setLink l .down (fun x => { x with
        fast := false, version := 0, switchTick := none, ready := false, trainRun := 0, corruptRun := 0, missRun := 0, lastValid := false }) s := ⟨_, rfl⟩
      refine ⟨v, by simp only [linkDown, hd, if_false, hv], ?_, ?_, fun m hm => ?_⟩
      · rw [hv, e]
        exact ⟨rfl, rfl, rfl, rfl⟩
      · rw [hv, e]
        exact congrArg Link.st (lk_modLk_self hl (fun x => { x with
          st := .down, fast := false, version := 0, switchTick := none, ready := false, trainRun := 0, corruptRun := 0, missRun := 0
          lastValid := false }) s)
      · rw [hv, e]
        exact vat_vmod_ne _ (Ne.symm hm) _ _
  obtain ⟨h1, h2⟩ := linkEvent_frame l v
  rw [hv]
  split
  · exact ⟨hvs.trans h1, by rw [State.lk, h2]; exact hvl, fun m hm => by rw [State.lk, h2]; exact hvm m hm⟩
  · exact ⟨hvs, hvl, hvm⟩

/-- Every link taken down (Table 2.2). -/
theorem linksDown_effect (n : Nat) (hn : n ≤ 64) (s : State) : LinksOnly s ((List.range n).foldl (fun s l => linkDown l s) s) ∧
    ∀ l, l < n → (((List.range n).foldl (fun s l => linkDown l s) s).lk l).st = .down := by
  induction n with
  | zero => exact ⟨.refl s, fun l hl => absurd hl (Nat.not_lt_zero l)⟩
  | succ n ih =>
    obtain ⟨h1, h2⟩ := ih (by omega)
    rw [List.range_succ, List.foldl_append, List.foldl_cons, List.foldl_nil]
    obtain ⟨h3, h4, h5⟩ := linkDown_effect (l := n) (by omega) ((List.range n).foldl (fun s l => linkDown l s) s)
    refine ⟨h1.trans h3, fun l hl => ?_⟩
    by_cases hln : l = n
    · rw [hln]
      exact h4
    · rw [h5 l hln]
      exact h2 l (by omega)

/-- The pair link lost with nothing waiting in its queue completes no command. -/
theorem pairLost_cq (h : s.prl.queue = []) : (pairLost s).kio.cq = s.kio.cq := by
  have hf : ∀ v : State, (followRef v).kio.cq = v.kio.cq := fun v => by
    have hset : ∀ r, (setRef r v).kio.cq = v.kio.cq := fun r => by unfold setRef; split <;> rfl
    unfold followRef
    split
    · split
      · exact hset _
      · split
        · obtain ⟨_, _, _, _, _, e⟩ := raiseC_kio (ctuMon 4 { v with clk := { v.clk with
            refsel := .xtal, holdover := true, offs := [], alignValid := false } }) 971 .ce 0x1FF 0xFFFF
          exact (congrArg Kio.cq e :)
        · rfl
    · rfl
  have hfl : ∀ v : State, v.prl.queue = [] → pairFlush v = v := fun v hv => by rw [pairFlush, hv, List.foldl_nil]
  have hx := hfl { s with prl := { s.prl with
    link := .down, version := 0, present := false, prun := false, lanes := 0, pst := lostState s.prl.role s.prl.pst } } h
  exact (hf _).trans (congrArg (fun v : State => v.kio.cq) hx :)

/-- Entry to DORMANT with nothing waiting for the partner (R30, Table 2.2). -/
theorem enterDormant_effect (hq : s.prl.queue = []) : (enterDormant s).clk.chip = .dormant ∧ (enterDormant s).clk.tickRun = false ∧
    (enterDormant s).clk.rootLock = false ∧ (∀ l : LinkNo, ((enterDormant s).lk l.val).st = .down) ∧ (enterDormant s).chan = s.chan ∧
    (enterDormant s).shared = s.shared ∧ (enterDormant s).kio.cq = s.kio.cq := by
  obtain ⟨hb, _⟩ := closeAll_effect s
  obtain ⟨h1, h2⟩ := linksDown_effect 64 (Nat.le_refl 64) (closeAll false s)
  obtain ⟨w, hw⟩ : ∃ w, w = (List.range 64).foldl (fun s l => linkDown l s) (closeAll false s) := ⟨_, rfl⟩
  rw [← hw] at h1 h2
  obtain ⟨x, hx⟩ : ∃ x : State, x = { w with
    clk := { w.clk with
      chip := .dormant, tickRun := false, rootLock := false, waking := false, offs := [], nudgeDir := 0,
      refsel := .xtal, holdover := false, released := false, aligned := false, alignValid := false }
    jnb := { w.jnb with
      ja := { w.jnb.ja with hop := .down, usable := false, syncTick := none }, jb := { w.jnb.jb with hop := .down, usable := false, syncTick := none } } } :=
    ⟨_, rfl⟩
  have e : enterDormant s = { pairLost x with
      tmu := { (pairLost x).tmu with run := false }, twp := (pairLost x).twp.map fun t => { t with alertOut := false, alertIn := true } } := by
    unfold enterDormant
    dsimp only
    rw [← hw, hx]
  obtain ⟨q, _, ⟨_, _, _, _, _, hclk⟩, ho⟩ := pairLost_frame x
  have hcq := pairLost_cq (s := x) (by rw [hx]; dsimp only; rw [h1.prl, hb]; exact hq)
  rw [e]
  refine ⟨by rw [hclk, hx], by rw [hclk, hx], by rw [hclk, hx], fun l => ?_, ?_, ?_, ?_⟩
  · have hl := h2 l.val l.isLt
    rw [State.lk] at hl ⊢
    rw [ho.link, hx]
    exact hl
  · rw [ho.chan, hx]
    dsimp only
    rw [h1.chan, hb]
  · rw [ho.shared, hx]
    dsimp only
    rw [h1.shared, hb]
  · dsimp only
    rw [hcq, hx]
    dsimp only
    rw [h1.cq, hb]

end

/-- Settles O48. -/
theorem kioskDeviceCommands : Obligations.KioskDeviceCommands := by
  intro s tag
  have hstat : ∀ {cmd k} (h : Ready s cmd tag k) st, ∃ o m, kStatus k st s = { s with kio := o, host := m } ∧
      Completed s (kStatus k st s) k st 0 0 0 := fun h st => by
    obtain ⟨hc, o, m, e⟩ := kStatus_ready h st
    exact ⟨o, m, e, hc⟩
  refine ⟨fun k h h12 => ?readmit, fun k h => ?rebalance, fun k h => ?cfg, fun k h => ⟨_, does_of_ready h rfl, recRead_effect h⟩, fun k h => ?recWrite,
    fun k t h ht => ?feed, fun k h => ?ledger, fun k p h hp => ?tw, fun k h hq => ?dormant⟩
  case readmit =>
    have hu : Does (.readmit tag) s (kReadmit k s) := does_of_ready h rfl
    refine ⟨fun hn => ?_, fun u hs hf => ?_, fun u hs hf hr => ?_⟩
    · have e : kReadmit k s = kStatus k stBadArg s := by simp only [kReadmit, h12, hn, Bool.false_and, Bool.false_eq_true, if_false]
      obtain ⟨o, m, he, hc⟩ := hstat h stBadArg
      rw [e] at hu
      exact ⟨_, hu, hc, by rw [he]⟩
    · have e : kReadmit k s = kStatus k stState s := by
        simp only [kReadmit, h12, hs, hf, Bool.false_and, Bool.false_eq_true, if_false, Bool.not_false, if_true]
      obtain ⟨o, m, he, hc⟩ := hstat h stState
      rw [e] at hu
      exact ⟨_, hu, hc, by rw [he]⟩
    · simp only [kReadmit, h12, hs, hf, hr, Bool.false_and, Bool.false_eq_true, if_false, Bool.not_true, Option.isSome_none] at hu
      exact ⟨_, hu, rfl, _, List.mem_map.2 ⟨k, (ready_mem h).1, if_pos (sameCmd_self k)⟩, rfl, rfl, rfl⟩
  case rebalance =>
    have hu : Does (.rebalance tag) s (kRebalance k s) := does_of_ready h rfl
    refine ⟨fun hn => ?_, fun g pl hg hpl hsp hb hsh => ?_⟩
    · have e : kRebalance k s = kStatus k stState s := by
        unfold kRebalance
        dsimp only
        split
        · rw [hn, Bool.not_false, Bool.true_or, Bool.true_or, if_pos rfl]
        · rfl
      obtain ⟨o, m, he, hc⟩ := hstat h stState
      rw [e] at hu
      exact ⟨_, hu, hc, by rw [he]⟩
    · have e : kRebalance k s = kBegin k { s with adm := { s.adm with shadow := some (0, k.tag, pl) } } := by
        unfold kRebalance
        dsimp only
        rw [hg, Option.bind_some, hpl, hsp, hb, hsh]
        rfl
      rw [e] at hu
      exact ⟨_, hu, rfl⟩
  case cfg =>
    have hu : Does (.eventCfg tag) s (kEventCfg k s) := does_of_ready h rfl
    obtain ⟨o, m, e⟩ := kEnd_eq h.2.2.1 stOk 0 0 0
      { s with fcr := { s.fcr with cfgNext := s.fcr.cfgNext ++ [((k.arg 3).bits 9 0, (k.arg 3).bits 25 16, k.arg 4)] } }
    refine ⟨_, hu, completed_of_same h (by rfl) (by rfl) .., ?_, ?_⟩
    · rw [kEventCfg, kOk, kStatus, e]
    · rw [kEventCfg, kOk, kStatus, e]
  case recWrite =>
    have hu : ∀ b, Does (.recWrite tag b) s (kRecWrite b k s) := fun b => does_of_ready h rfl
    obtain ⟨h1, h2⟩ := recWrite_effect h
    refine ⟨fun hb b => ⟨_, hu b, ?_⟩, fun ws a b c d e f g => ⟨_, hu (some ws), h2 ws a b c d e f g⟩⟩
    obtain ⟨o, m, he, hc⟩ := hstat h stBadArg
    rw [h1 hb b]
    exact ⟨hc, by rw [he]⟩
  case feed =>
    have hu : Does (.feedToggle tag) s (kFeedToggle k s) := does_of_ready h rfl
    obtain ⟨h1, h2, h3⟩ := feedToggle_effect h ht
    refine ⟨fun hr => ?_, fun a b c => ⟨_, hu, h2 a b c⟩, fun a b c d => ⟨_, hu, h3 a b c d⟩⟩
    rwa [h1 hr] at hu
  case ledger =>
    have hu : Does (.ledgerReset tag) s (kLedgerReset k s) := does_of_ready h rfl
    refine ⟨_, hu, completed_of_same h (by rfl) (by rfl) .., ?_⟩
    obtain ⟨o, m, e⟩ := kEnd_eq h.2.2.1 stOk (tc32 (s.now + 1)) 0 0
      (s.modLg ((k.arg 3).bits 5 0) fun x => { x with pend := some ((k.arg 4).bit 0, (k.arg 4).bit 1) })
    rw [kLedgerReset, e]
    exact vat_vmod_self _ (Nat.mod_lt _ (by decide)) _ _
  case tw =>
    have hu : ∀ b, Does (.twXfer tag b) s (twXfer b k s) := fun b => does_of_ready h rfl
    obtain ⟨h1, h2, h3⟩ := twXfer_effect (s := s) p hp
    refine ⟨fun hc b => ⟨_, hu b, ?_⟩, fun b x a c d e => ⟨_, hu (some b), h2 b x a c d e⟩, fun b a c d e f g => ⟨_, hu (some b), h3 b a c d e f g⟩⟩
    obtain ⟨o, m, he, hcm⟩ := hstat h stState
    rw [h1 hc b]
    exact ⟨hcm, by rw [he]⟩
  case dormant =>
    have hu : Does (.dormantEnter tag) s (kDormantEnter k s) := does_of_ready h rfl
    refine ⟨fun hn => ?_, fun ha => ?_⟩
    · obtain ⟨o, m, he, hc⟩ := hstat h stState
      rw [kDormantEnter, hn, Bool.not_false, if_pos rfl] at hu
      exact ⟨_, hu, hc, by rw [he]⟩
    · obtain ⟨o, m, he, _⟩ := hstat h stOk
      obtain ⟨_, _, hused, _⟩ := kEnd_rings h.2.2.1 h.2.2.2.1 h.2.2.2.2.2.1 stOk 0 0 0
      rw [kDormantEnter, ha, Bool.not_true, if_neg Bool.false_ne_true] at hu
      have hk : kOk k s = { s with kio := o, host := m } := he
      obtain ⟨d1, d2, d3, d4, d5, d6, d7⟩ := enterDormant_effect (s := kOk k s) (by rw [hk]; exact hq)
      exact ⟨_, hu, d1, d2, d3, d4, by rw [d5, hk], by rw [d6, hk], by rw [d7]; exact hused⟩

end Sys2Proof.Claims
end

section
/-!
PROOF. What a change of a channel's state leaves as it is (R96 to R102): the entries to OFF, ARMING, HOLD, SAFE and FENCED go through
one operation, whose tie port follows (R306, Table 14.7).
-/
namespace Sys2Proof.Claims
open Sys2Proof Sys2Proof.Machine

section
variable {s u v : State}

/-- From `s` to `u` tie ports and their words in shared task memory changed, and occurrences were raised. -/
def PortsOnly (s u : State) : Prop := Occurs { s with tpc := u.tpc, shared := u.shared } u

theorem PortsOnly.refl (s : State) : PortsOnly s s := Occurs.refl s

theorem PortsOnly.trans (h : PortsOnly s u) (h' : PortsOnly u v) : PortsOnly s v := by
  refine Occurs.trans ?_ h'
  obtain ⟨n, k, m, t, a, c, w, r, hr, e⟩ := h
  exact ⟨n, k, m, t, a, c, w, r, hr, congrArg (fun x : State => { x with tpc := v.tpc, shared := v.shared }) e⟩

theorem Occurs.ports (h : Occurs s u) : PortsOnly s u := by
  obtain ⟨n, k, m, t, a, c, w, r, hr, rfl⟩ := h
  exact ⟨n, k, m, t, a, c, w, r, hr, rfl⟩

theorem PortsOnly.clk (h : PortsOnly s u) : u.clk = s.clk := (Occurs.clk h :)
theorem PortsOnly.chan (h : PortsOnly s u) : u.chan = s.chan := (Occurs.chan h :)
theorem PortsOnly.ctx (h : PortsOnly s u) : u.ctx = s.ctx := (Occurs.ctx h :)
theorem PortsOnly.adm (h : PortsOnly s u) : u.adm = s.adm := (Occurs.adm h :)
theorem PortsOnly.link (h : PortsOnly s u) : u.link = s.link := (Occurs.link h :)
theorem PortsOnly.prl (h : PortsOnly s u) : u.prl = s.prl := (Occurs.prl h :)

theorem PortsOnly.ite {c : Prop} [Decidable c] (h : PortsOnly s u) (h' : PortsOnly s v) : PortsOnly s (if c then u else v) := by
  split
  · exact h
  · exact h'

theorem portsOnly_modTp (p : Nat) (f : Tpc → Tpc) (s : State) : PortsOnly s (s.modTp p f) := Occurs.refl _

theorem tpWords_eq (p : Nat) (s : State) : ∃ m, tpWords p s = { s with shared := m } := by
  unfold tpWords
  split
  · exact ⟨_, rfl⟩
  · exact ⟨_, rfl⟩

theorem tpSet_eq (p : Nat) (f : Tpc → Tpc) (s : State) : ∃ m, tpSet p f s = { s.modTp p f with shared := m } := tpWords_eq p _

theorem portsOnly_tpSet (p : Nat) (f : Tpc → Tpc) (s : State) : PortsOnly s (tpSet p f s) := by
  obtain ⟨m, e⟩ := tpSet_eq p f s
  rw [e]
  exact Occurs.refl _

theorem turnSeen_eq (p : Nat) (s : State) : ∃ m, turnSeen p s = { s with shared := m } := by
  unfold turnSeen
  split
  · exact ⟨_, rfl⟩
  · exact ⟨_, rfl⟩

theorem portsOnly_turnSeen (p : Nat) (s : State) : PortsOnly s (turnSeen p s) := by
  obtain ⟨m, e⟩ := turnSeen_eq p s
  rw [e]
  exact Occurs.refl _

theorem occurs_tieRaise (p : Nat) (cls : EvClass) (code : Nat) (s : State) : Occurs s (tieRaise p cls code s) := by
  unfold tieRaise
  split
  · exact occurs_raiseP ..
  · exact .refl s

theorem portsOnly_tpRest (p : Nat) (s : State) : PortsOnly s (tpRest p s) :=
  (PortsOnly.ite (portsOnly_turnSeen p s) (.refl s)).trans (portsOnly_tpSet ..)

theorem portsOnly_tpSend (p op : Nat) (pay : List Byte) (s : State) : PortsOnly s (tpSend p op pay s) := portsOnly_modTp ..

theorem portsOnly_tpRestart (p : Nat) (s : State) : PortsOnly s (tpRestart p s) :=
  ((portsOnly_tpSend p 0x3F [] s).trans (portsOnly_tpRest ..)).trans (occurs_tieRaise ..).ports

theorem portsOnly_tpSearch (p : Nat) (force : Bool) (s : State) : PortsOnly s (tpSearch p force s) :=
  (occurs_fresh s (s.fresh + 1)).ports.trans (portsOnly_tpSet ..)

theorem portsOnly_tpDisable (p : Nat) (s : State) : PortsOnly s (tpDisable p s) :=
  (PortsOnly.ite (portsOnly_tpRestart p s) (.refl s)).trans (portsOnly_tpSet ..)

theorem portsOnly_tieFollow (n : Nat) (s : State) : PortsOnly s (tieFollow n s) := by
  unfold tieFollow
  split
  · exact .refl s
  · exact .ite (portsOnly_tpSearch ..) (.ite (portsOnly_tpDisable ..) (.refl s))

theorem coldIfIdle_eq (n : Nat) (s : State) : ∃ x, coldIfIdle n s = { s with ctx := x } := by
  unfold coldIfIdle
  split
  · split
    · exact ⟨s.ctx, rfl⟩
    · split
      · exact ⟨_, rfl⟩
      · exact ⟨s.ctx, rfl⟩
  · exact ⟨s.ctx, rfl⟩

/-- A channel set to a state: of the channels that one alone, with the recorder's note, the contexts that may run cold, and the tie
port that follows. -/
theorem setChan_frame (n : Nat) (st : ChanSt) (f : Chan → Chan) (s : State) :
    ∃ x b, PortsOnly { s.modCh n (fun c => f { c with st := st }) with ctx := x, bbr := b } (setChan n st f s) := by
  unfold setChan
  dsimp only
  obtain ⟨x, e⟩ := coldIfIdle_eq n
    (note 0x05 n [nw (chanCode (s.ch n).st), nw (chanCode st)] [0, 1, 2] (s.modCh n fun c => f { c with st := st }))
  rw [e]
  exact ⟨x, _, portsOnly_tieFollow n _⟩

theorem setChan_chan (n : Nat) (st : ChanSt) (f : Chan → Chan) (s : State) :
    (setChan n st f s).chan = (s.modCh n fun c => f { c with st := st }).chan := by
  obtain ⟨x, b, h⟩ := setChan_frame n st f s
  exact h.chan

theorem setChan_adm (n : Nat) (st : ChanSt) (f : Chan → Chan) (s : State) : (setChan n st f s).adm = s.adm := by
  obtain ⟨x, b, h⟩ := setChan_frame n st f s
  exact h.adm

theorem setChan_self {n : Nat} (hn : n < 192) (st : ChanSt) (f : Chan → Chan) (s : State) :
    (setChan n st f s).ch n = f { s.ch n with st := st } := by
  rw [State.ch, setChan_chan]
  exact ch_modCh_self hn _ s

theorem setChan_ne {n m : Nat} (h : m ≠ n) (st : ChanSt) (f : Chan → Chan) (s : State) : (setChan n st f s).ch m = s.ch m := by
  rw [State.ch, setChan_chan]
  exact ch_modCh_ne (Ne.symm h) _ s

theorem enterOff_chan (n : Nat) (s : State) : (enterOff n s).chan = (setChan n .off (fun c => { c.stilled with
    mA := 0, mB := 0, mC := 0, mD := 0, mstat := 0, restart := false, restartRun := 0, armLeft := 0, staged := [] }) s).chan := by
  unfold enterOff
  dsimp only
  split
  · rfl
  · rfl

theorem enterOff_adm (n : Nat) (s : State) : (enterOff n s).adm = s.adm := by
  unfold enterOff
  simp only [apply_ite State.adm, setChan_adm, ite_self]

/-- A channel at its entry to ARMING at `now` with its count (R101). -/
def armFrom (arm now : Nat) (c : Chan) : Chan :=
  { c with armLeft := arm, armTick := now, armZero := now, restart := false, restartRun := 0 }

/-- The entry to ARMING is a change of the channel's state, beside which checks start anew and the link forgets its frames (R78, R101). -/
theorem enterArming_eq (n : Nat) (s : State) : ∃ v x k, v = setChan n .arming (armFrom ((chanDecl s n).elim 0 (·.armSamples)) s.now) s ∧
    enterArming n s = { v with ctx := x, link := k } := by
  have harm : (match chanDecl s n with
      | some d => d.armSamples
      | none => 0) = (chanDecl s n).elim 0 (·.armSamples) := by cases chanDecl s n <;> rfl
  have h : enterArming n s = (clearChecks n (fun t => boundCh t == some n)
      (setChan n .arming (armFrom ((chanDecl s n).elim 0 (·.armSamples)) s.now) s)).modLk (linkOf n) fun l =>
        { l with firstRun := vput l.firstRun (slotOf n) none, moved := vput l.moved (slotOf n) false } := by
    rw [← harm]
    rfl
  obtain ⟨v, hv⟩ : ∃ v, v = setChan n .arming (armFrom ((chanDecl s n).elim 0 (·.armSamples)) s.now) s := ⟨_, rfl⟩
  rw [← hv] at h
  obtain ⟨x, e⟩ := clearChecks_eq n (fun t => boundCh t == some n) v
  rw [e] at h
  exact ⟨v, x, _, hv, h⟩

theorem enterArming_adm (n : Nat) (s : State) : (enterArming n s).adm = s.adm := by
  obtain ⟨v, x, k, hv, e⟩ := enterArming_eq n s
  rw [e]
  exact (congrArg State.adm hv).trans (setChan_adm ..)

end
end Sys2Proof.Claims
end

section
/-!
PROOF. The rows of an admission (R129 to R131, R153, R386), and the ends of TABLE_SAVE and of a module's command (R80, R224).
-/
namespace Sys2Proof.Claims
open Sys2Proof Sys2Proof.Machine

section
variable {s u v : State} {k : KCmd}

/-! What an image that comes into force leaves of the admission's state. -/

theorem foldl_adm {α : Type} {f : State → α → State} (hf : ∀ s a, (f s a).adm = s.adm) (l : List α) (s : State) :
    (l.foldl f s).adm = s.adm := by
  induction l generalizing s with
  | nil => rfl
  | cons a l ih => exact (ih (f s a)).trans (hf s a)

theorem rearmChan_adm (n : Nat) (s : State) : (rearmChan n s).adm = s.adm := by
  unfold rearmChan
  simp only [apply_ite State.adm, enterArming_adm, ite_self]

theorem applyTerms_adm (l : Nat) (s : State) : (applyTerms l s).adm = s.adm := by
  unfold applyTerms
  split
  · rfl
  · split
    · rfl
    · refine (foldl_adm (fun v n => ?_) _ _).trans rfl
      rw [State.raiseP_adm]
      split
      · rfl
      · exact enterOff_adm n v

theorem bindLinks_adm (g : Image) (s : State) : (bindLinks g s).adm = s.adm :=
  (foldl_adm (fun v l => applyTerms_adm l v) _ _).trans rfl

theorem dropChans_adm (g : Image) (s : State) : (dropChans g s).adm = s.adm :=
  foldl_adm (fun v n => enterOff_adm n v) _ _

theorem bindLedgers_adm (g : Image) (s : State) : (bindLedgers g s).adm = s.adm := by
  unfold bindLedgers
  dsimp only

theorem bindShafts_adm (g : Image) (s : State) : (bindShafts g s).adm = s.adm := rfl

theorem newTask_adm (t : Task) (q : Place) (s : State) : (newTask t q s).adm = s.adm := by
  unfold newTask
  dsimp only
  split
  · rfl
  · rfl

/-- Tasks that move change the places; the image and its nominal plan stand (R155). -/
theorem moveTasks_adm (pl : List Place) (s : State) : (moveTasks pl s).adm = { s.adm with place := pl } := by
  unfold moveTasks
  dsimp only
  refine (foldl_adm (fun v m => ?_) _ _).trans ?_
  · split
    · exact foldl_adm (fun v x => by split; exact rearmChan_adm _ v; rfl) _ _
    · rfl
  · refine congrArg (fun a : Adm => { a with place := pl }) ?_
    exact (foldl_adm (f := fun (s : State) (m : Nat × Nat × Task × Context × Bool) => s.modCx m.2.1 fun _ => m.2.2.2.1) (fun _ _ => rfl) _ _).trans
      (foldl_adm (f := fun (s : State) (m : Nat × Nat × Task × Context × Bool) => s.modCx m.1 fun _ => Context.init) (fun _ _ => rfl) _ _)

/-- A plan installed has its image and its nominal plan in force (R131, R155). -/
theorem installPlan_adm (full : Bool) (g : Image) (nominal pl : List Place) (keep : Nat → Bool) (s : State) :
    (installPlan full g nominal pl keep s).adm.img = some g ∧ (installPlan full g nominal pl keep s).adm.nominal = nominal := by
  have hnew : ∀ v : State, (pl.foldl (fun s q => if keep q.task then s else (g.task? q.task).elim s fun t => newTask t q s) v).adm = v.adm :=
    foldl_adm (fun v q => by
      cases g.task? q.task with
      | none => simp only [Option.elim, ite_self]
      | some t => simp only [Option.elim, apply_ite State.adm, newTask_adm, ite_self]) pl
  have hadm : ∀ v : State, (bindShafts g (bindLinks g (bindLedgers g (dropChans g
      (pl.foldl (fun s q => if keep q.task then s else (g.task? q.task).elim s fun t => newTask t q s) (moveTasks pl v)))))).adm =
        { v.adm with place := pl } := fun v => by
    rw [bindShafts_adm, bindLinks_adm, bindLedgers_adm, dropChans_adm, hnew, moveTasks_adm]
  unfold installPlan
  dsimp only
  rw [hadm]
  exact ⟨rfl, rfl⟩

theorem openBlk_adm (t : Nat) (s : State) : (openBlk t s).adm = s.adm := by
  unfold openBlk
  split
  · rfl
  · dsimp only
    split
    · exact State.raiseC_adm ..
    · rfl

theorem closeAll_adm (s : State) : (closeAll false s).adm = s.adm := by rw [(closeAll_effect s).1]

theorem deltaRecorder_adm (s : State) : (deltaRecorder s).adm = s.adm := by
  unfold deltaRecorder
  simp only [apply_ite State.adm, openBlk_adm, closeAll_adm, ite_self]

theorem rowsAgain_adm (s : State) : (rowsAgain s).adm = s.adm := by
  unfold rowsAgain
  simp only [apply_ite State.adm, openBlk_adm]
  exact ite_self _

theorem bindRecorder_adm (g : Image) (s : State) : (bindRecorder g s).adm = s.adm := by
  unfold bindRecorder
  dsimp only
  rw [rowsAgain_adm]
  exact closeAll_adm s

/-- With no fallback in preparation and no command accepted, a fence has nothing to give up (R386). -/
theorem fenceCancel_idle (hs : s.adm.shadow = none) (ha : s.kio.accepted = []) : fenceCancel s = s := by
  have hd : dropShadow s = s := by rw [dropShadow, hs]
  rw [fenceCancel, hd, ha]
  rfl

/-- The plan of an admission that no command waits for is in force (R131, R153). -/
theorem admInForce_adm {r : AdmRun} {pl : List Place} (e : Nat) (hf : fenceCancel s = s)
    (hp : placesNow r.img r.place (fencedSet s) (fencedSU s) = some pl) (ht : r.tag = none) :
    (admInForce r e s).adm.img = some r.img ∧ (admInForce r e s).adm.nominal = r.place ∧ (admInForce r e s).adm.st = 0 ∧
    (admInForce r e s).adm.run = none ∧ (admInForce r e s).adm.lastResult = 0 ∧ (admInForce r e s).adm.lastStep = 0 ∧
    (admInForce r e s).adm.actEpoch = nw e := by
  unfold admInForce
  simp only [hf, hp, ht, kEndTag, reportPut, Option.bind_none, apply_ite State.adm, deltaRecorder_adm, bindRecorder_adm, ite_self, and_true]
  generalize hv : (if r.img.delta = true then loadCode false r.img r.place s else _) = v
  obtain ⟨hi, hn⟩ := installPlan_adm (!r.img.delta) r.img r.place pl
    (fun n => r.img.delta && ((s.adm.img.elim [] (·.tasks)).map (·.num)).contains n && !r.img.remove.contains n) v
  exact ⟨hi, hn⟩

/-- The end of a TABLE_SAVE whose task has left (R80). -/
theorem tableSaved_gone (h : taskNo s ((k.arg 3).bits 15 0) = none) : tableSaved k s = kStatus k stNotInForce s := by
  simp only [tableSaved, h]

/-- The end of a TABLE_SAVE whose table has a record (R80). -/
theorem tableSaved_record {t : Task} {id c : Nat} (h : taskNo s ((k.arg 3).bits 15 0) = some t)
    (hi : tableRec t (if (k.arg 3).bit 16 then 1 else 0) = some id) (hc : ctxOf s t.num = some c) :
    ∃ (b : Bool) (n : Nvs), tableSaved k s = kStatus k (if b then stOk else stNvFull) { s with nvs := n } := by
  obtain ⟨pay, hp⟩ : ∃ pay, tableSaved k s = kStatus k (if (recUpdate (BitVec.ofNat 16 id) 0 pay s).1 then stOk else stNvFull)
      (recUpdate (BitVec.ofNat 16 id) 0 pay s).2 := by
    simp only [tableSaved, h, hi, hc]
    exact ⟨_, rfl⟩
  obtain ⟨b, n, e⟩ := recUpdate_eq (BitVec.ofNat 16 id) 0 pay s
  exact ⟨b, n, by rw [hp, e]⟩

/-- A service message cancelled has left every queue (R224). -/
theorem svcCancel_queues (tag : BitVec 16) (s : State) (l : LinkNo) :
    ∀ m ∈ ((svcCancel tag s).lk l.val).hostQ ++ ((svcCancel tag s).lk l.val).devQ, m.tag ≠ some tag := by
  have h : (svcCancel tag s).lk l.val = (fun x : Link => { x with
      devQ := x.devQ.filter (fun m => m.tag != some tag), hostQ := x.hostQ.filter (fun m => m.tag != some tag)
      reads := x.reads.filter fun m => m.2.tag != some tag }) (s.lk l.val) := by
    simp only [svcCancel, State.lk, vat, l.isLt, dif_pos, Vector.getElem_map]
  rw [h]
  intro m hm
  rcases List.mem_append.1 hm with hm | hm
  · simpa using (List.mem_filter.1 hm).2
  · simpa using (List.mem_filter.1 hm).2

end

/-- Settles O41. -/
theorem admissionRows : Obligations.AdmissionRows := by
  intro s
  refine ⟨fun h => ⟨?noRun, ?noPlan⟩, fun r h hst hr => ?good, fun r h hst hr ht => ?bad, fun r h hst he hn hre hsh => ?preload,
    fun h hsh => ?noPreload, fun tag pl h hsh => ?shadow, fun r e h he ht hlt => ?early,
    fun r e pl h he ht hle hrole hsh hk hp => ?plan, fun tag h => ?noSave, fun tag k h hm hq ho hw ht => ?gone,
    fun tag k t id c h hm hq ho hw ht hi hc => ?saved, fun tag k h hm hq ho hw => ?silent, fun tag h => ?noModule⟩
  case noRun =>
    have hu : Does .admissionEnd s (admChecked s) := rfl
    refine Eq.trans hu (congrArg (fun x => Host.Outcome.next (settle x)) ?_)
    simp only [admChecked, h]
  case noPlan =>
    have hu : Does .planActivation s (if planDue s then planActivate s else s) := rfl
    refine Eq.trans hu (congrArg (fun x => Host.Outcome.next (settle x)) (if_neg ?_))
    simp [planDue, planEpochOf, h]
  case good =>
    have hu : Does .admissionEnd s (admChecked s) := rfl
    refine Eq.trans hu (congrArg (fun x => Host.Outcome.next (settle x)) ?_)
    simp only [admChecked, h, hst, hr, if_true]
  case bad =>
    have hu : Does .admissionEnd s (admChecked s) := rfl
    have e : admChecked s = bootImageFail 0x08 { s with adm := { s.adm with
        st := 0, run := none, lastResult := BitVec.ofNat 8 (finalReport s r).result,
        lastStep := BitVec.ofNat 8 (finalReport s r).stepNo } } := by
      simp only [admChecked, h, hst, if_true, if_neg hr, admRefused, ht]
    rw [e] at hu
    refine ⟨_, hu, ?_, ?_, ?_, ?_, ?_, ?_, raised_raise (by decide) _ .uc _ _ _ _⟩
    all_goals rw [bootImageFail, State.raiseP_adm]
  case preload =>
    have hu : Does .preloadEnd s _ := rfl
    rw [h] at hu
    dsimp only at hu
    rw [if_pos hst] at hu
    obtain ⟨q, e⟩ := kFix_eq r.tag { s with adm := { s.adm with run := some { r with preloaded := true, epoch := some (s.epoch + 1) } } }
    have hfix : fixEpoch { s with adm := { s.adm with run := some { r with preloaded := true } } } =
        kFix r.tag { s with adm := { s.adm with run := some { r with preloaded := true, epoch := some (s.epoch + 1) } } } := by
      simp only [fixEpoch, he, hn, hre, Option.isNone_none, Bool.not_false, Bool.and_true, if_true]
      rfl
    have hval : fixShadow (kFix r.tag { s with adm := { s.adm with
        run := some { r with preloaded := true, epoch := some (s.epoch + 1) } } }) =
          { s with adm := { s.adm with run := some { r with preloaded := true, epoch := some (s.epoch + 1) } }, kio := q } := by
      rw [e]
      simp only [fixShadow, hsh]
    exact ⟨_, hu.trans (congrArg (fun x => Host.Outcome.next (settle x)) ((congrArg fixShadow hfix).trans hval)), rfl, rfl, rfl⟩
  case noPreload =>
    have hu : Does .preloadEnd s _ := rfl
    refine Eq.trans hu (congrArg (fun x => Host.Outcome.next (settle x)) ?_)
    simp only [h, fixShadow, hsh]
  case shadow =>
    have hu : Does .preloadEnd s _ := rfl
    rw [h] at hu
    obtain ⟨q, e⟩ := kFix_eq (some tag) { s with adm := { s.adm with shadow := some (s.nextTc 2000 1, tag, pl) } }
    have hval : fixShadow s = kFix (some tag) { s with adm := { s.adm with shadow := some (s.nextTc 2000 1, tag, pl) } } := by
      rw [fixShadow, hsh]
      rfl
    exact ⟨_, hu.trans (congrArg (fun x => Host.Outcome.next (settle x)) (hval.trans e)), rfl⟩
  case early =>
    have hu : Does .planActivation s (if planDue s then planActivate s else s) := rfl
    refine Eq.trans hu (congrArg (fun x => Host.Outcome.next (settle x)) (if_neg ?_))
    simp [planDue, planEpochOf, h, he, ht]
    omega
  case plan =>
    have hd : planDue s = true := by simp [planDue, planEpochOf, h, he, ht, hle]
    have hu : Does .planActivation s (if planDue s then planActivate s else s) := rfl
    have e : planActivate s = admInForce r e s := by simp [planActivate, planEpochOf, h, he, ht]
    rw [if_pos hd, e] at hu
    exact ⟨_, hu, admInForce_adm _ (fenceCancel_idle hsh hk) hp ht⟩
  case noSave =>
    have hu : Does (.tableSaveEnd tag) s _ := rfl
    simp only [h] at hu
    exact hu
  case gone =>
    have hu : Does (.tableSaveEnd tag) s _ := rfl
    simp only [h, tableSaved_gone ht] at hu
    obtain ⟨o, m, e⟩ := kEnd_eq hm stNotInForce 0 0 0 s
    exact ⟨_, hu, completed_kEnd hm hq ho hw rfl rfl rfl _ 0 0 0, by rw [kStatus, e]⟩
  case saved =>
    have hu : Does (.tableSaveEnd tag) s _ := rfl
    obtain ⟨b, n, e⟩ := tableSaved_record ht hi hc
    simp only [h, e] at hu
    refine ⟨_, _, hu, completed_kEnd (v := { s with nvs := n }) hm hq ho hw rfl rfl rfl _ 0 0 0, ?_⟩
    cases b
    · exact .inr rfl
    · exact .inl rfl
  case silent =>
    have hu : Does (.moduleNoAnswer tag) s _ := rfl
    simp only [h] at hu
    obtain ⟨o, m, e⟩ := kEnd_eq hm stModuleNoAnswer 0 0 0 (svcCancel k.tag s)
    refine ⟨_, hu, completed_kEnd (v := svcCancel k.tag s) hm hq ho hw rfl rfl rfl _ 0 0 0, fun l => ?_⟩
    rw [moduleSilent, kStatus, e]
    exact svcCancel_queues k.tag s l
  case noModule =>
    have hu : Does (.moduleNoAnswer tag) s _ := rfl
    simp only [h] at hu
    exact hu

end Sys2Proof.Claims
end

section
/-!
PROOF. The kiosk session, the doorbells and the fetch of one entry (R211, R216 to R218, R229, R230, R474).
-/
namespace Sys2Proof.Claims
open Sys2Proof Sys2Proof.Machine

section
variable {s u v : State} {k : KCmd}

/-! The submission rings stand through completions. -/

/-- A completion entry changes, of the kiosk, its completion ring and the vectors. -/
theorem cplWrite_kio (q cmd : Nat) (tag : BitVec 16) (st un re : Nat) (r0 r1 r2 : W) (s : State) : ∃ c a m p,
    (cplWrite q cmd tag st un re r0 r1 r2 s).kio = { s.kio with cq := c, armed := a, msix := m, msixPend := p } := by
  unfold cplWrite
  split
  · dsimp only
    obtain ⟨a, m, p, e⟩ := msixSend_kio (1 + q) { s with
      host := Memory.writeWs s.host ((vat s.kio.cq q CplRing.init).base.toNat + 32 * (vat s.kio.cq q CplRing.init).tail)
        (cplWords s q cmd tag st un re r0 r1 r2),
      kio := { s.kio with cq := vput s.kio.cq q (ringNext (vat s.kio.cq q CplRing.init)) } }
    exact ⟨_, a, p, m, e⟩
  · exact ⟨_, _, _, _, rfl⟩

theorem cplRetry_kio (q cmd : Nat) (tag : BitVec 16) (st us : Nat) (r0 r1 r2 : W) (s : State) : ∃ c a m p,
    (cplRetry q cmd tag st us r0 r1 r2 s).kio = { s.kio with cq := c, armed := a, msix := m, msixPend := p } := by
  unfold cplRetry
  split
  exact cplWrite_kio ..

theorem kCpl_sq (k : KCmd) (st : Nat) (r0 r1 r2 : W) (s : State) : (kCpl k st r0 r1 r2 s).kio.sq = s.kio.sq := by
  unfold kCpl
  split
  · rfl
  · obtain ⟨c, a, m, p, e⟩ := cplRetry_kio k.ring.val k.cmd k.tag st k.retry r0 r1 r2 s
    rw [e]

theorem startDispute_sq (s : State) : (startDispute s).kio.sq = s.kio.sq := by
  unfold startDispute
  split
  · rfl
  · have h : ∀ v : State, (pairRaise .uc v).kio.sq = v.kio.sq := fun v => by
      obtain ⟨a, b, m, q, n, e⟩ := raiseC_kio v 960 .uc 0x1FF 0xFFFF
      rw [pairRaise, e]
    exact h _

/-- The end of a command, mirrored or not, leaves the submission rings. -/
theorem kEnd_sq (k : KCmd) (st : Nat) (r0 r1 r2 : W) (s : State) : (kEnd k st r0 r1 r2 s).kio.sq = s.kio.sq := by
  unfold kEnd
  dsimp only
  split
  · exact kCpl_sq ..
  · split
    · split
      · rfl
      · rfl
    · split
      · split
        · unfold pairJudge
          dsimp only
          split
          · exact kCpl_sq ..
          · exact (startDispute_sq _).trans (kCpl_sq ..)
        · rfl
      · exact kCpl_sq ..

theorem boundOf_eq (cmd : Nat) (w : List W) (s : State) : ∃ n f, boundOf cmd w s = (n, { s with fresh := f }) := by
  unfold boundOf
  dsimp only
  split
  · exact ⟨_, _, rfl⟩
  · exact ⟨_, _, rfl⟩
  · split
    case h_1 => split; exact ⟨_, _, rfl⟩; exact ⟨_, _, rfl⟩
    all_goals exact ⟨_, _, rfl⟩

theorem stopCancels_sq (w : List W) (s : State) : (stopCancels w s).kio.sq = s.kio.sq := by
  unfold stopCancels
  generalize s.kio.accepted.filter _ = l
  induction l generalizing s with
  | nil => rfl
  | cons k l ih => exact (ih _).trans (kEnd_sq ..)

/-- The number of a drip handle taken from the kiosk's count (R215). -/
def handleTaken (q : Fin 4) (s : State) : State :=
  if 2 ≤ q.val then { s with kio := { s.kio with nextHandle := s.kio.nextHandle + 1 } } else s

/-- A command entered among the accepted ones, and in the mirror queue when it is mirrored (R218, R359). -/
def cmdEntered (k : KCmd) (s : State) : State :=
  match k.mseq with
  | some n => { s with
      kio := { s.kio with accepted := s.kio.accepted ++ [k] }
      prl := { s.prl with mseq := n + 1, queue := s.prl.queue ++ [⟨n, false, k.words, s.now + 2, some k.tag, false, none, none⟩] } }
  | none => { s with kio := { s.kio with accepted := s.kio.accepted ++ [k] } }

theorem cmdEntered_kio (k : KCmd) (s : State) : (cmdEntered k s).kio = { s.kio with accepted := s.kio.accepted ++ [k] } := by
  unfold cmdEntered
  split
  · rfl
  · rfl

/-- The record of a command accepted with a bound and a handle (R220). -/
def cmdRecord (q : Fin 4) (cmd : Nat) (w : List W) (bound : Nat) (h : W) (s : State) : KCmd :=
  ⟨cmd, (argW w 0).extractLsb' 0 16, q, w, s.clk.ts, bound, if 2 ≤ q.val then h else 0, false, false, [],
    if mirrors s cmd w then some s.prl.mseq else none, false, false, false, 0⟩

/-- The acceptance of an entry with its bound as its parts: the handle, the record of the command, and ABI 2.0's ACCEPTED (R220). -/
def cmdTaken (q : Fin 4) (cmd : Nat) (w : List W) (bound : Nat) (s : State) : State :=
  let k := cmdRecord q cmd w bound s.kio.nextHandle (handleTaken q s)
  let v := cmdEntered k (handleTaken q s)
  if v.kio.major ≥ 2 && 2 ≤ q.val then cplWrite q.val cmd k.tag stAccepted 0 0 (nw bound) s.kio.nextHandle 0 v else v

theorem doorAccept_eq (q : Fin 4) (cmd : Nat) (w : List W) (s : State) : doorAccept q cmd w s =
    cmdTaken q cmd w (boundOf cmd w (takeCredit q.val (if cmd = 0x0202 then stopCancels w s else s))).1
      (boundOf cmd w (takeCredit q.val (if cmd = 0x0202 then stopCancels w s else s))).2 := by
  unfold doorAccept
  generalize takeCredit q.val (if cmd = 0x0202 then stopCancels w s else s) = v
  extract_lets tag s1
  rw [show s1 = v from rfl]
  generalize boundOf cmd w v = b
  rfl

/-- What the acceptance of an entry does to the kiosk (R218, R220): a credit is taken and one command is accepted more. -/
theorem doorAccept_kio (q : Fin 4) (cmd : Nat) (w : List W) (s v : State)
    (hv : v = takeCredit q.val (if cmd = 0x0202 then stopCancels w s else s)) : ∃ k h c a m p,
    (doorAccept q cmd w s).kio = { v.kio with
      nextHandle := h, cq := c, armed := a, msix := m, msixPend := p, accepted := v.kio.accepted ++ [k] } ∧
    k.cmd = cmd ∧ k.tag = (argW w 0).extractLsb' 0 16 ∧ k.words = w ∧ k.begun = false ∧ k.mute = false := by
  obtain ⟨n, f, e⟩ := boundOf_eq cmd w v
  have hn : ∃ h, (handleTaken q { v with fresh := f }).kio = { v.kio with nextHandle := h } := by
    unfold handleTaken
    split
    · exact ⟨_, rfl⟩
    · exact ⟨_, rfl⟩
  obtain ⟨h, hk⟩ := hn
  rw [doorAccept_eq, ← hv, e]
  refine ⟨cmdRecord q cmd w n v.kio.nextHandle (handleTaken q { v with fresh := f }), h, ?_⟩
  have hent := cmdEntered_kio (cmdRecord q cmd w n v.kio.nextHandle (handleTaken q { v with fresh := f })) (handleTaken q { v with fresh := f })
  rw [hk] at hent
  unfold cmdTaken
  dsimp only
  generalize cmdEntered _ _ = z at hent
  split
  · obtain ⟨c, a, m, p, e⟩ := cplWrite_kio q.val cmd (cmdRecord q cmd w n v.kio.nextHandle (handleTaken q { v with fresh := f })).tag
      stAccepted 0 0 (nw n) v.kio.nextHandle 0 z
    exact ⟨c, a, m, p, by rw [e, hent], rfl, rfl, rfl, rfl, rfl⟩
  · exact ⟨_, _, _, _, hent, rfl, rfl, rfl, rfl, rfl⟩

/-- The state with the submission rings of the kiosk as `x`. -/
def withRings (x : Vector SubRing 4) (s : State) : State := { s with kio := { s.kio with sq := x } }

/-- The door tests do not look at the submission rings. -/
theorem doorFails_withRings (x : Vector SubRing 4) (q cmd : Nat) (w : List W) (s : State) :
    doorFails (withRings x s) q cmd w = doorFails s q cmd w := rfl

theorem cqRoom_withRings (x : Vector SubRing 4) (q : Nat) (s : State) : cqRoom (withRings x s) q = cqRoom s q := rfl

theorem fetchOne_nil (q : Fin 4) (h : (vat s.kio.sq q.val SubRing.init).entries = []) : fetchOne q s = s := by
  simp only [fetchOne, h]

/-- The fetch of an entry: the ring's head moves on, and the door refuses or accepts it (R217, R218). -/
theorem fetchOne_entry (q : Fin 4) {w : List W} (h : (vat s.kio.sq q.val SubRing.init).entries = [w]) (hr : cqRoom s q.val = true)
    (ho : s.kio.isOpen = true) (r : SubRing) (hrr : r = vat s.kio.sq q.val SubRing.init) :
    (fetchOne q s).kio.sq = vput s.kio.sq q.val { r with entries := [], head := (r.head + 1) % ringLen r.size } ∧
    (∀ st us, doorFails s q.val ((argW w 0).bits 31 16) w = some (st, us) → (fetchOne q s).kio.accepted = s.kio.accepted ∧
      vat (fetchOne q s).kio.refused q.val 0 = vat s.kio.refused q.val 0 + 1 ∧
      (vat (fetchOne q s).kio.cq q.val CplRing.init).used = (vat s.kio.cq q.val CplRing.init).used + 1 ∧
      (fetchOne q s).kio.cred0 = s.kio.cred0 ∧ (fetchOne q s).kio.cred1 = s.kio.cred1) ∧
    (doorFails s q.val ((argW w 0).bits 31 16) w = none → (argW w 0).bits 31 16 ≠ 0x0202 →
      (∃ k, (fetchOne q s).kio.accepted = s.kio.accepted ++ [k] ∧ k.cmd = (argW w 0).bits 31 16 ∧
        k.tag = (argW w 0).extractLsb' 0 16 ∧ k.words = w ∧ k.begun = false ∧ k.mute = false) ∧
      (fetchOne q s).kio.cred0 = (if q = 0 then s.kio.cred0 - 1 else s.kio.cred0) ∧
      (fetchOne q s).kio.cred1 = (if q = 1 then s.kio.cred1 - 1 else s.kio.cred1)) := by
  obtain ⟨v, hv⟩ : ∃ v, v = withRings (vput s.kio.sq q.val { r with entries := [], head := (r.head + 1) % ringLen r.size }) s := ⟨_, rfl⟩
  have hd : ∀ cmd, doorFails v q.val cmd w = doorFails s q.val cmd w := fun cmd => by rw [hv, doorFails_withRings]
  have hk : v.kio = { s.kio with sq := vput s.kio.sq q.val { r with entries := [], head := (r.head + 1) % ringLen r.size } } := by
    rw [hv, withRings]
  have e : fetchOne q s = match doorFails s q.val ((argW w 0).bits 31 16) w with
      | some (st, us) => cplRetry q.val ((argW w 0).bits 31 16) ((argW w 0).extractLsb' 0 16) st us 0 0 0
          { v with kio := { v.kio with refused := vmod v.kio.refused q.val (· + 1) } }
      | none => doorAccept q ((argW w 0).bits 31 16) w v := by
    rw [← hd]
    subst hrr
    simp only [fetchOne, h, hr, if_true]
    rw [hv]
    rfl
  rw [e]
  cases hf : doorFails s q.val ((argW w 0).bits 31 16) w with
  | some a =>
    obtain ⟨st, us⟩ := a
    dsimp only
    obtain ⟨un, re, hc⟩ : ∃ un re, cplRetry q.val ((argW w 0).bits 31 16) ((argW w 0).extractLsb' 0 16) st us 0 0 0
        { v with kio := { v.kio with refused := vmod v.kio.refused q.val (· + 1) } } =
          cplWrite q.val ((argW w 0).bits 31 16) ((argW w 0).extractLsb' 0 16) st un re 0 0 0
            { v with kio := { v.kio with refused := vmod v.kio.refused q.val (· + 1) } } := by
      unfold cplRetry
      split
      exact ⟨_, _, rfl⟩
    rw [hc]
    generalize hz : ({ v with kio := { v.kio with refused := vmod v.kio.refused q.val (· + 1) } } : State) = z
    have hzk : z.kio = { v.kio with refused := vmod v.kio.refused q.val (· + 1) } := by rw [← hz]
    rw [hk] at hzk
    obtain ⟨_, _, h3⟩ := cplWrite_effect (v := z) (by rw [hzk]; exact ho) q.val ((argW w 0).bits 31 16)
      ((argW w 0).extractLsb' 0 16) st un re 0 0 0
    obtain ⟨c, a, m, p, hw⟩ := cplWrite_kio q.val ((argW w 0).bits 31 16) ((argW w 0).extractLsb' 0 16) st un re 0 0 0 z
    refine ⟨by rw [hw, hzk], fun st' us' _ => ⟨by rw [hw, hzk], by rw [hw, hzk]; exact vat_vmod_self _ q.isLt _ _, ?_, by rw [hw, hzk], by rw [hw, hzk]⟩,
      fun hn => by simp at hn⟩
    rw [h3, vat_vput_self _ q.isLt, hzk]
    rfl
  | none =>
    dsimp only
    refine ⟨?_, fun st us hn => by simp at hn, fun _ hcmd => ?_⟩
    · obtain ⟨k, n, c, a, m, p, hw, _⟩ := doorAccept_kio q ((argW w 0).bits 31 16) w v _ rfl
      rw [hw]
      refine (show (takeCredit q.val (if (argW w 0).bits 31 16 = 0x0202 then stopCancels w v else v)).kio.sq = _ from ?_)
      refine Eq.trans ?_ (show v.kio.sq = _ by rw [hk])
      show (if (argW w 0).bits 31 16 = 0x0202 then stopCancels w v else v).kio.sq = v.kio.sq
      split
      · exact stopCancels_sq w v
      · rfl
    · obtain ⟨k, n, c, a, m, p, hw, h1, h2, h3, h4, h5⟩ := doorAccept_kio q ((argW w 0).bits 31 16) w v (takeCredit q.val v)
        (by rw [if_neg hcmd])
      rw [hw]
      refine ⟨⟨k, ?_, h1, h2, h3, h4, h5⟩, ?_, ?_⟩
      · show (takeCredit q.val v).kio.accepted ++ [k] = _
        rw [takeCredit, hk]
      · show (if q.val = (0 : Fin 4).val then v.kio.cred0 - 1 else v.kio.cred0) = _
        rw [hk]
        simp only [Fin.ext_iff]
      · show (if q.val = (1 : Fin 4).val then v.kio.cred1 - 1 else v.kio.cred1) = _
        rw [hk]
        simp only [Fin.ext_iff]

/-- What the fetch of one entry does to the submission rings: its own head and entries. -/
theorem fetchRound_one (q : Fin 4) (hq : ∀ q' : Fin 4, q' ≠ q → (vat s.kio.sq q'.val SubRing.init).entries = [])
    (h : ∀ q' : Fin 4, (vat (fetchOne q s).kio.sq q'.val SubRing.init).entries = []) : fetchRound s = fetchOne q s := by
  unfold fetchRound
  match q with
  | 0 => rw [fetchOne_nil 1 (h 1), fetchOne_nil 2 (h 2), fetchOne_nil 3 (h 3)]
  | 1 => rw [fetchOne_nil 0 (hq 0 (by decide)), fetchOne_nil 2 (h 2), fetchOne_nil 3 (h 3)]
  | 2 => rw [fetchOne_nil 0 (hq 0 (by decide)), fetchOne_nil 1 (hq 1 (by decide)), fetchOne_nil 3 (h 3)]
  | 3 => rw [fetchOne_nil 0 (hq 0 (by decide)), fetchOne_nil 1 (hq 1 (by decide)), fetchOne_nil 2 (hq 2 (by decide))]

theorem foldl_four {α β : Type} (v : Vector α 4) (f : β → α → β) (b : β) (d : α) :
    v.foldl f b = f (f (f (f b (vat v 0 d)) (vat v 1 d)) (vat v 2 d)) (vat v 3 d) := by
  obtain ⟨⟨l⟩, hl⟩ := v
  match l, hl with
  | [_, _, _, _], _ => rfl

/-- With no entry waiting the kiosk fetches nothing (R217). -/
theorem fetchAll_nil (h : ∀ q : Fin 4, (vat s.kio.sq q.val SubRing.init).entries = []) : fetchAll s = s := by
  have hn : s.kio.sq.foldl (fun n r => n + r.entries.length) 0 = 0 := by
    rw [foldl_four _ _ _ SubRing.init]
    have h0 := h 0
    have h1 := h 1
    have h2 := h 2
    have h3 := h 3
    simp only [Fin.val_zero, Fin.val_one, Fin.val_two, Fin.isValue] at h0 h1 h2
    simp only [h0, h1, h2, show (vat s.kio.sq 3 SubRing.init).entries = [] from h3, List.length_nil]
  unfold fetchAll
  rw [hn]
  exact ite_self s

theorem one_of_four (q : Fin 4) : (0 + (if (0 : Fin 4) = q then 1 else 0) + (if (1 : Fin 4) = q then 1 else 0) +
    (if (2 : Fin 4) = q then 1 else 0) + if (3 : Fin 4) = q then 1 else 0) = 1 := by
  revert q
  decide

/-- The doorbell of a ring in whose place the host has put one entry, no other waiting: it is fetched alone (R216 to R218). -/
theorem sqTail_one (q : Fin 4) (t : W) (w : List W) (ht : s.clk.tickRun = true) (hc : s.clk.chip = .run) (ho : s.kio.isOpen = true)
    (hw : w.length = 16) (hn : ∀ q' : Fin 4, (vat s.kio.sq q'.val SubRing.init).entries = []) (hr : cqRoom s q.val = true)
    (r : SubRing) (hrr : r = vat s.kio.sq q.val SubRing.init) (hb : t.bits 11 0 < ringLen r.size)
    (h1 : (t.bits 11 0 + ringLen r.size - r.tail) % ringLen r.size = 1) :
    sqTail q t [w] s = fetchOne q (withRings (vput s.kio.sq q.val { r with tail := t.bits 11 0, entries := [w] }) s) := by
  obtain ⟨v, hv⟩ : ∃ v, v = withRings (vput s.kio.sq q.val { r with tail := t.bits 11 0, entries := [w] }) s := ⟨_, rfl⟩
  have hself : vat v.kio.sq q.val SubRing.init = { r with tail := t.bits 11 0, entries := [w] } := by
    rw [hv]
    exact vat_vput_self _ q.isLt _ _
  have hne : ∀ q' : Fin 4, q' ≠ q → (vat v.kio.sq q'.val SubRing.init).entries = [] := fun q' hq' => by
    rw [hv, ← hn q']
    exact congrArg SubRing.entries (vat_vput_ne _ (fun h => hq' (Fin.ext h.symm)) _ _)
  have hroom : cqRoom v q.val = true := by rw [hv, cqRoom_withRings, hr]
  have hopen : v.kio.isOpen = true := by rw [hv]; exact ho
  obtain ⟨hsq, _, _⟩ := fetchOne_entry (s := v) q (w := w) (by rw [hself]) hroom hopen _ rfl
  have hnone : ∀ q' : Fin 4, (vat (fetchOne q v).kio.sq q'.val SubRing.init).entries = [] := fun q' => by
    rw [hsq]
    by_cases hq : q' = q
    · rw [hq, vat_vput_self _ q.isLt]
    · rw [vat_vput_ne _ (fun h => hq (Fin.ext h.symm))]
      exact hne q' hq
  have hlen : ∀ q' : Fin 4, (vat v.kio.sq q'.val SubRing.init).entries.length = if q' = q then 1 else 0 := fun q' => by
    split
    next hq => rw [hq, hself]; rfl
    next hq => rw [hne q' hq]; rfl
  have hsum : v.kio.sq.foldl (fun n r => n + r.entries.length) 0 = 1 := by
    have h := one_of_four q
    rw [← hlen 0, ← hlen 1, ← hlen 2, ← hlen 3] at h
    rw [foldl_four _ _ _ SubRing.init]
    exact h
  have hall : fetchAll v = fetchOne q v := by
    have hgo : (v.kio.isOpen && v.clk.tickRun && (v.clk.chip == .run || v.clk.chip == .boot)) = true := by
      rw [hopen, hv]
      simp [withRings, ht, hc]
    rw [fetchAll, if_pos hgo, hsum]
    exact fetchRound_one q hne hnone
  rw [← hv, ← hall, hv]
  have hnew : ((List.range 1).map fun i => let e := lat [w] i []; e ++ List.replicate (16 - e.length) (0 : W)) = [w] := by
    simp [lat, hw]
  unfold sqTail
  dsimp only
  rw [← hrr, if_neg (by omega), if_pos ho, h1, hnew, show r.entries = [] by rw [hrr]; exact hn q]
  rfl

theorem vat_map {α β : Type} {n : Nat} (x : Vector α n) (f : α → β) {i : Nat} (h : i < n) (d : α) (e : β) :
    vat (x.map f) i e = f (vat x i d) := by
  simp only [vat, h, dif_pos, Vector.getElem_map]

/-- Vectors 5 to 63 set one after another are all set (R230). -/
theorem foldl_bitPut {v : BitVec 64} (i : Fin 59) : ((List.range 59).foldl (fun a i => bitPut a (5 + i) true) v).getLsbD (5 + i.val) = true := by
  have h : ∀ n, n ≤ 59 → i.val < n → ((List.range n).foldl (fun a i => bitPut a (5 + i) true) v).getLsbD (5 + i.val) = true := fun n => by
    induction n with
    | zero => exact fun _ h => absurd h (Nat.not_lt_zero _)
    | succ n ih =>
      intro hn hi
      rw [List.range_succ, List.foldl_append, List.foldl_cons, List.foldl_nil]
      by_cases he : i.val = n
      · rw [he]
        exact bitPut_getLsbD_self _ (by omega) true
      · rw [bitPut_getLsbD_ne _ (by omega)]
        exact ih (by omega) (by omega)
  exact h 59 (Nat.le_refl _) i.isLt

/-- With no record held nothing is written (R229). -/
theorem writeHeld_nil (h : s.fcr.held = []) : writeHeld s = s := by
  have e : ({ s.fcr with held := [] } : Fcr) = s.fcr := by rw [← h]
  rw [writeHeld, h, flushHeld, e]

theorem kioWrite_run (h : s.clk.chip = .run) (f : State → State) : kioWrite f s = f s := by
  rw [kioWrite, if_neg (by rw [h]; decide), if_neg (by rw [h]; decide)]

/-- An accepted OPEN starts every ring at index 0 (R211). -/
theorem sessionOpen_effect (ma mi : BitVec 8) (ho : s.kio.isOpen = false) (ha : abiKnown ma.toNat mi.toNat = true)
    (hr : ringsOk s.kio = true) (hf : s.kio.fwReady = true) (hh : s.fcr.held = []) :
    (sessionOpen ma mi s).fcr = s.fcr ∧ (sessionOpen ma mi s).kio = { s.kio with
      reqMajor := ma, reqMinor := mi, isOpen := true, major := ma, minor := mi, result := 1, reason := 0,
      sq := s.kio.sq.map fun r => { r with head := 0, tail := 0, entries := [] },
      cq := s.kio.cq.map fun c => { c with head := 0, tail := 0, used := 0, phase := true },
      eq := { s.kio.eq with head := 0, tail := 0, used := 0, phase := true } } := by
  have hr' : ringsOk { s.kio with reqMajor := ma, reqMinor := mi } = true := hr
  unfold sessionOpen
  dsimp only
  rw [if_neg (by rw [ho]; decide), if_neg (by rw [ha]; decide), if_neg (by rw [hr']; decide), if_neg (by rw [hf]; decide),
    writeHeld_nil (by exact hh)]
  exact ⟨rfl, rfl⟩

/-- A refused OPEN opens no session and tells its reason (R211, Table 9.10). -/
theorem sessionOpen_refused (ma mi : BitVec 8) (ho : s.kio.isOpen = false) (r : BitVec 2)
    (h : (abiKnown ma.toNat mi.toNat = false ∧ r = 0) ∨ (abiKnown ma.toNat mi.toNat = true ∧ ringsOk s.kio = false ∧ r = 1) ∨
      (abiKnown ma.toNat mi.toNat = true ∧ ringsOk s.kio = true ∧ s.kio.fwReady = false ∧ r = 2)) :
    (sessionOpen ma mi s).kio.isOpen = false ∧ (sessionOpen ma mi s).kio.result = 2 ∧ (sessionOpen ma mi s).kio.reason = r := by
  have hr' : ringsOk { s.kio with reqMajor := ma, reqMinor := mi } = ringsOk s.kio := rfl
  unfold sessionOpen
  dsimp only
  rw [if_neg (by rw [ho]; decide), hr']
  rcases h with ⟨ha, rfl⟩ | ⟨ha, hr, rfl⟩ | ⟨ha, hr, hf, rfl⟩
  · rw [if_pos (by rw [ha]; decide)]
    exact ⟨ho, rfl, rfl⟩
  · rw [if_neg (by rw [ha]; decide), if_pos (by rw [hr]; decide)]
    exact ⟨ho, rfl, rfl⟩
  · rw [if_neg (by rw [ha]; decide), if_neg (by rw [hr]; decide), if_pos (by rw [hf]; decide)]
    exact ⟨ho, rfl, rfl⟩

end

/-- Settles O42. -/
theorem hostSession : Obligations.HostSession := by
  intro s
  refine ⟨fun ma mi hc ho ha hr hf hh => ?opened, fun ma mi hc ho ha => ?version, fun ma mi hc ho ha hr => ?rings,
    fun ma mi hc ho ha hr hf => ?notReady, fun hc => ?close, fun q t es hc => ⟨fun hb => ?badTail, fun hb ho => ?closedTail⟩,
    fun q t w hc ht ho hw hn hr hb h1 => ?fetch, fun q t hc hn => ⟨fun hb => ?cqHead, fun hb => ?badHead⟩, fun t hc hh => ?eqHead,
    fun q t es hc => ⟨?keptSq, ?keptCq, ?keptEq⟩⟩
  case opened =>
    have hu : Does (.kioSessionOpen ma mi) s (kioWrite (sessionOpen ma mi) s) := rfl
    obtain ⟨hfc, hk⟩ := sessionOpen_effect ma mi ho ha hr hf hh
    rw [kioWrite_run hc] at hu
    refine ⟨_, hu, by rw [hk], by rw [hk], by rw [hk], by rw [hk], by rw [hk], by rw [hk], fun q => ?_, hfc⟩
    rw [hk]
    dsimp only
    rw [vat_map _ _ q.isLt SubRing.init, vat_map _ _ q.isLt CplRing.init]
    exact ⟨rfl, rfl, rfl, rfl⟩
  case version =>
    have hu : Does (.kioSessionOpen ma mi) s (kioWrite (sessionOpen ma mi) s) := rfl
    rw [kioWrite_run hc] at hu
    exact ⟨_, hu, sessionOpen_refused ma mi ho 0 (.inl ⟨ha, rfl⟩)⟩
  case rings =>
    have hu : Does (.kioSessionOpen ma mi) s (kioWrite (sessionOpen ma mi) s) := rfl
    rw [kioWrite_run hc] at hu
    exact ⟨_, hu, sessionOpen_refused ma mi ho 1 (.inr (.inl ⟨ha, hr, rfl⟩))⟩
  case notReady =>
    have hu : Does (.kioSessionOpen ma mi) s (kioWrite (sessionOpen ma mi) s) := rfl
    rw [kioWrite_run hc] at hu
    exact ⟨_, hu, sessionOpen_refused ma mi ho 2 (.inr (.inr ⟨ha, hr, hf, rfl⟩))⟩
  case close =>
    have hu : Does .kioSessionClose s (kioWrite sessionClose s) := rfl
    rw [kioWrite_run hc] at hu
    exact ⟨_, hu, rfl, rfl, rfl, rfl⟩
  case badTail =>
    have hu : Does (.kioSqTail q t es) s _ := rfl
    rw [if_neg (by rw [hc]; decide), if_neg (by rw [hc]; decide)] at hu
    exact hu.trans (congrArg (fun x => Host.Outcome.next (settle x)) (if_pos hb))
  case closedTail =>
    have hu : Does (.kioSqTail q t es) s _ := rfl
    rw [if_neg (by rw [hc]; decide), if_neg (by rw [hc]; decide)] at hu
    exact hu.trans (congrArg (fun x => Host.Outcome.next (settle x)) ((if_neg (by rw [ringLen]; omega)).trans (if_neg (by rw [ho]; decide))))
  case fetch =>
    have hu : Does (.kioSqTail q t [w]) s _ := rfl
    rw [if_neg (by rw [hc]; decide), if_neg (by rw [hc]; decide), sqTail_one q t w ht hc ho hw hn hr _ rfl hb h1] at hu
    obtain ⟨v, hv⟩ : ∃ v, v = withRings (vput s.kio.sq q.val { vat s.kio.sq q.val SubRing.init with tail := t.bits 11 0, entries := [w] }) s :=
      ⟨_, rfl⟩
    have hself : vat v.kio.sq q.val SubRing.init = { vat s.kio.sq q.val SubRing.init with tail := t.bits 11 0, entries := [w] } := by
      rw [hv]
      exact vat_vput_self _ q.isLt _ _
    have hd : ∀ cmd, doorFails v q.val cmd w = doorFails s q.val cmd w := fun cmd => by rw [hv, doorFails_withRings]
    have hroom : cqRoom v q.val = true := by rw [hv, cqRoom_withRings, hr]
    obtain ⟨hsq, hfail, hacc⟩ := fetchOne_entry (s := v) q (w := w) (by rw [hself]) hroom (by rw [hv]; exact ho) _ rfl
    have hk : v.kio.accepted = s.kio.accepted ∧ v.kio.refused = s.kio.refused ∧ v.kio.cq = s.kio.cq ∧ v.kio.cred0 = s.kio.cred0 ∧
        v.kio.cred1 = s.kio.cred1 := by
      rw [hv]
      exact ⟨rfl, rfl, rfl, rfl, rfl⟩
    obtain ⟨k1, k2, k3, k4, k5⟩ := hk
    rw [hd] at hfail hacc
    rw [k1, k2, k3, k4, k5] at hfail
    rw [k1, k4, k5] at hacc
    rw [← hv] at hu
    refine ⟨_, hu, ?_, ?_, ?_, hfail, hacc⟩
    all_goals
      rw [hsq, vat_vput_self _ q.isLt, hself]
    rfl
  case cqHead =>
    have hu : Does (.kioCqHead q t) s _ := rfl
    rw [if_neg (by rw [hc]; decide), if_neg (by rw [hc]; decide)] at hu
    refine ⟨_, hu.trans (congrArg (fun x => Host.Outcome.next (settle x)) ((if_neg (by rw [ringLen]; omega)).trans (fetchAll_nil ?_))),
      vat_vput_self _ q.isLt _ _, fun h => ?_, rfl⟩
    · exact hn
    · dsimp only
      rw [if_pos h]
      exact bitPut_getLsbD_self _ (by have := q.isLt; omega) true
  case badHead =>
    have hu : Does (.kioCqHead q t) s _ := rfl
    rw [if_neg (by rw [hc]; decide), if_neg (by rw [hc]; decide)] at hu
    exact hu.trans (congrArg (fun x => Host.Outcome.next (settle x)) (if_pos hb))
  case eqHead =>
    have hu : Does (.kioEqHead t) s _ := rfl
    rw [if_neg (by rw [hc]; decide), if_neg (by rw [hc]; decide)] at hu
    refine ⟨_, hu.trans (congrArg (fun x => Host.Outcome.next (settle x)) (writeHeld_nil hh)), rfl, rfl, fun h i => ?_⟩
    dsimp only
    rw [if_pos h]
    exact foldl_bitPut i
  case keptSq =>
    have hu : Does (.kioSqTail q t es) s _ := rfl
    rw [if_neg (by rw [hc]; decide), if_pos hc] at hu
    exact ⟨_, hu, vat_vput_self _ q.isLt _ _, rfl⟩
  case keptCq =>
    have hu : Does (.kioCqHead q t) s _ := rfl
    rw [if_neg (by rw [hc]; decide), if_pos hc] at hu
    exact ⟨_, hu, vat_vput_self _ q.isLt _ _, rfl⟩
  case keptEq =>
    have hu : Does (.kioEqHead t) s _ := rfl
    rw [if_neg (by rw [hc]; decide), if_pos hc] at hu
    exact ⟨_, hu, rfl, rfl⟩

end Sys2Proof.Claims
end

section
/-!
PROOF. The recorder's rows, the close of a block, the end of a window and one slot of a stream (R232, R235, R236, R241, R242,
R247, R248).
-/
namespace Sys2Proof.Claims
open Sys2Proof Sys2Proof.Machine

section
variable {s u v : State} {b : Bbr}

/-! Tiers and their blocks. -/

theorem tier_modTier_self (b : Bbr) (t : Nat) (f : TierSt → TierSt) : (b.modTier t f).tier t = f (b.tier t) := by
  unfold Bbr.modTier Bbr.tier
  split
  · rfl
  · split <;> rfl

theorem esp_modTier_ne {t : Nat} (h : t ≠ 0) (b : Bbr) (f : TierSt → TierSt) : (b.modTier t f).esp = b.esp := by
  unfold Bbr.modTier
  rw [if_neg h]
  split <;> rfl

theorem modTier_strm (b : Bbr) (t : Nat) (f : TierSt → TierSt) : (b.modTier t f).strm = b.strm := by
  unfold Bbr.modTier
  split
  · rfl
  · split <;> rfl

theorem modTier_mem (b : Bbr) (t : Nat) (f : TierSt → TierSt) : (b.modTier t f).mem = b.mem := by
  unfold Bbr.modTier
  split
  · rfl
  · split <;> rfl

theorem lat_modify_self {α : Type} (l : List α) {n : Nat} (h : n < l.length) (f : α → α) (d : α) : lat (l.modify n f) n d = f (lat l n d) := by
  simp [lat, h]

theorem lat_modify_ne {α : Type} (l : List α) {n m : Nat} (h : n ≠ m) (f : α → α) (d : α) : lat (l.modify n f) m d = lat l m d := by
  simp [lat, h]

theorem blkOf_modBlk_self {t n : Nat} (h : n < (b.tier t).blks.length) (f : Blk → Blk) : blkOf (b.modBlk t n f) t n = f (blkOf b t n) := by
  unfold blkOf Bbr.modBlk
  rw [tier_modTier_self]
  exact lat_modify_self _ h f _

theorem tier_hdrSync (t n k : Nat) (o : Bool) (b : Bbr) : (hdrSync t n o b).tier k = b.tier k := rfl

/-- From `s` to `u` the recorder changed, and occurrences were raised. -/
def RecorderOnly (s u : State) : Prop := Occurs { s with bbr := u.bbr } u

theorem RecorderOnly.refl (s : State) : RecorderOnly s s := Occurs.refl s

theorem RecorderOnly.trans (h : RecorderOnly s u) (h' : RecorderOnly u v) : RecorderOnly s v := by
  refine Occurs.trans ?_ h'
  obtain ⟨n, k, m, t, a, c, w, r, hr, e⟩ := h
  exact ⟨n, k, m, t, a, c, w, r, hr, congrArg (fun x : State => { x with bbr := v.bbr }) e⟩

theorem recorderOnly_bbr (s : State) (b : Bbr) : RecorderOnly s { s with bbr := b } := Occurs.refl _

theorem recorderOnly_closeBlk (t : Nat) (s : State) : RecorderOnly s (closeBlk t s) := by
  rw [closeBlk_eq]
  exact Occurs.refl _

theorem recorderOnly_raiseC (s : State) (src : Nat) (cls : EvClass) : RecorderOnly s (s.raiseC src cls) := by
  have h := occurs_raiseC s src cls 0x1FF 0xFFFF
  rw [RecorderOnly, h.bbr]
  exact h

theorem recorderOnly_openBlk (t : Nat) (s : State) : RecorderOnly s (openBlk t s) := by
  unfold openBlk
  split
  · exact recorderOnly_bbr s _
  · dsimp only
    split
    · exact (recorderOnly_bbr s _).trans (recorderOnly_raiseC _ _ _)
    · exact recorderOnly_bbr s _

/-- The stream records of a recorder whose tier `t` loses a block (R247). -/
def losing (t : Nat) (k : Blk) (lost : Bool) (b : Bbr) : Bbr :=
  if lost then { b with strm := vmapIdx b.strm (strmLose t k (if t = 2 then 2 else 1)) } else b

theorem losing_tier (t : Nat) (k : Blk) (lost : Bool) (b : Bbr) (j : Nat) : (losing t k lost b).tier j = b.tier j := by
  unfold losing
  split <;> rfl

theorem losing_esp (t : Nat) (k : Blk) (lost : Bool) (b : Bbr) : (losing t k lost b).esp = b.esp := by
  unfold losing
  split <;> rfl

/-- A block opened is empty, and the tier's open one; in the recorder's memory is its header (R232). -/
theorem openBlk_some {t m : Nat} (h : nextBlk s.bbr t = some m) : ∃ (lost : Bool) (k : Blk) (mem : List Host.Cell), k.rows = 0 ∧
    (openBlk t s).bbr = { oldsTake t m (((losing t (blkOf s.bbr t m) lost s.bbr).modTier t fun x =>
      { x with opn := m, isOpen := true, seq := x.seq + 1 }).modBlk t m fun _ => k) with mem := mem } := by
  unfold openBlk
  rw [h]
  simp -zeta only
  extract_lets b k lost cause b1 x hold start k1 b2 b3 m1 m2 s1
  have hs : (if lost && t = 2 then s1.raiseC 952 .uc else s1).bbr = s1.bbr := by
    split
    · exact State.raiseC_bbr ..
    · rfl
  obtain ⟨m3, h3⟩ := hdrSync_eq t m true (oldsTake t m b2)
  have hb : s1.bbr = { oldsTake t m b2 with mem := m2 } := by
    show ({ b3 with mem := m2 } : Bbr) = _
    rw [show b3 = _ from h3]
  exact ⟨lost, k1, m2, rfl, hs.trans hb⟩

/-- A window of an earlier image that takes a block is among those that hold it (R252). -/
theorem oldsTake_tier (t n : Nat) (b : Bbr) : ∃ g : Blk → Blk, (∀ k, (g k).rows = k.rows) ∧
    (oldsTake t n b).tier t = { b.tier t with blks := (b.tier t).blks.modify n g } :=
  ⟨fun k => { k with orph := b.olds.foldl (fun x (w : OldWin) => if w.wants t then bitPut x w.id true else x) k.orph }, fun _ => rfl,
    tier_modTier_self _ t _⟩

/-- The tier whose block opened (R232). -/
theorem openBlk_tier {t m : Nat} (h : nextBlk s.bbr t = some m) : ∃ f g : Blk → Blk, (∀ k, (f k).rows = 0) ∧ (∀ k, (g k).rows = k.rows) ∧
    (openBlk t s).bbr.tier t = { s.bbr.tier t with
      opn := m, isOpen := true, seq := (s.bbr.tier t).seq + 1, blks := ((s.bbr.tier t).blks.modify m f).modify m g } := by
  obtain ⟨lost, k, mem, hk, e⟩ := openBlk_some h
  obtain ⟨g, hg, ht⟩ := oldsTake_tier t m (((losing t (blkOf s.bbr t m) lost s.bbr).modTier t fun x =>
    { x with opn := m, isOpen := true, seq := x.seq + 1 }).modBlk t m fun _ => k)
  refine ⟨fun _ => k, g, fun _ => hk, hg, ?_⟩
  rw [e]
  refine Eq.trans ht ?_
  rw [Bbr.modBlk, tier_modTier_self, tier_modTier_self, losing_tier]

theorem oldsTake_esp {t : Nat} (h : t ≠ 0) (n : Nat) (b : Bbr) : (oldsTake t n b).esp = b.esp := esp_modTier_ne h _ _

theorem openBlk_esp {t : Nat} (h : t ≠ 0) (s : State) : (openBlk t s).bbr.esp = s.bbr.esp := by
  cases hn : nextBlk s.bbr t with
  | none =>
    simp only [openBlk, hn]
    exact esp_modTier_ne h _ _
  | some m =>
    obtain ⟨lost, k, mem, _, e⟩ := openBlk_some hn
    rw [e]
    refine (oldsTake_esp h m _).trans ?_
    rw [Bbr.modBlk, esp_modTier_ne h, esp_modTier_ne h, losing_esp]

theorem closeBlk_esp {t : Nat} (h : t ≠ 0) (s : State) : (closeBlk t s).bbr.esp = s.bbr.esp := by
  unfold closeBlk
  extract_lets b x n todo b1
  split
  · obtain ⟨m, e⟩ := hdrSync_eq t n false b1
    rw [show ({ s with bbr := hdrSync t n false b1 } : State).bbr = _ from e]
    refine (esp_modTier_ne h _ _).trans ?_
    rw [Bbr.modBlk, esp_modTier_ne h]
  · rfl

theorem rowCount_esp {t : Nat} (h : t ≠ 0) (tick : Nat) (b : Bbr) : (rowCount t tick b).esp = b.esp := esp_modTier_ne h b _

/-- The state whose tier `t` has room for a row: a full block closes and the next opens (R232). -/
def roomFor (t : Nat) (s : State) : State :=
  if (s.bbr.tier t).isOpen && (blkOf s.bbr t (s.bbr.tier t).opn).rows ≥ rowsPer s.bbr t then openBlk t (closeBlk t s)
  else if (s.bbr.tier t).isOpen then s else openBlk t s

/-- The block `k` with one row more, of tick `tick`, the tier's row number `no`. -/
def rowTaken (tick no : Nat) (k : Blk) : Blk :=
  { k with first := if k.rows = 0 then tick else k.first, last := tick, rows := k.rows + 1, row0 := if k.rows = 0 then no else k.row0 }

/-- The recorder with a row more in tier `t`, its memory apart. -/
def rowKept (t tick : Nat) (m m' : List Host.Cell) (b : Bbr) : Bbr :=
  if (b.tier t).isOpen then
    { rowCount t tick (({ b with mem := m } : Bbr).modBlk t (b.tier t).opn (rowTaken tick (b.tier t).nrows)) with mem := m' }
  else rowCount t tick b

/-- A row written, as what it does once there is room (R235). -/
theorem rowWrite_eq (t tick : Nat) (bs : List Byte) (s : State) : RecorderOnly (roomFor t s) (rowWrite t tick bs s) ∧
    ∃ m m', (rowWrite t tick bs s).bbr = rowKept t tick m m' (roomFor t s).bbr := by
  have e : rowWrite t tick bs s = (let s1 := roomFor t s
      let x := s1.bbr.tier t
      if x.isOpen then
        let b1 := { s1.bbr with mem := Memory.writeN s1.bbr.mem (blkBase t x.opn + 0x40 + (blkOf s1.bbr t x.opn).rows * (blkOf s1.bbr t x.opn).rowBytes) bs }
        { s1 with bbr := hdrSync t x.opn true (rowCount t tick (b1.modBlk t x.opn (rowTaken tick x.nrows))) }
      else { s1 with bbr := rowCount t tick s1.bbr }) := rfl
  rw [e]
  generalize roomFor t s = v
  extract_lets s1 x src b1
  unfold rowKept
  split
  · obtain ⟨m, e⟩ := hdrSync_eq t x.opn true (rowCount t tick (b1.modBlk t x.opn (rowTaken tick x.nrows)))
    exact ⟨recorderOnly_bbr v _, b1.mem, m, e⟩
  · exact ⟨recorderOnly_bbr v _, [], [], rfl⟩

theorem roomFor_esp {t : Nat} (h : t ≠ 0) (s : State) : (roomFor t s).bbr.esp = s.bbr.esp := by
  unfold roomFor
  split
  · rw [openBlk_esp h, closeBlk_esp h]
  · split
    · rfl
    · exact openBlk_esp h s

theorem recorderOnly_roomFor (t : Nat) (s : State) : RecorderOnly s (roomFor t s) := by
  unfold roomFor
  split
  · exact (recorderOnly_closeBlk t s).trans (recorderOnly_openBlk t _)
  · split
    · exact .refl s
    · exact recorderOnly_openBlk t s

theorem recorderOnly_rowWrite (t tick : Nat) (bs : List Byte) (s : State) : RecorderOnly s (rowWrite t tick bs s) :=
  (recorderOnly_roomFor t s).trans (rowWrite_eq t tick bs s).1

/-- A row of another tier leaves the espresso tier (R235, R236). -/
theorem rowWrite_esp {t : Nat} (h : t ≠ 0) (tick : Nat) (bs : List Byte) (s : State) : (rowWrite t tick bs s).bbr.esp = s.bbr.esp := by
  obtain ⟨_, m, m', e⟩ := rowWrite_eq t tick bs s
  rw [e, ← roomFor_esp h s, rowKept]
  generalize (roomFor t s).bbr = b
  split
  · refine (rowCount_esp h tick _).trans ?_
    rw [Bbr.modBlk, esp_modTier_ne h]
  · exact rowCount_esp h tick _

theorem RecorderOnly.ctx (h : RecorderOnly s u) : u.ctx = s.ctx := (Occurs.ctx h :)
theorem RecorderOnly.chan (h : RecorderOnly s u) : u.chan = s.chan := (Occurs.chan h :)

/-- A row of the espresso tier in an open block with room (R235). -/
theorem rowWrite_open (tick : Nat) (bs : List Byte) (ho : s.bbr.esp.isOpen = true) (hl : s.bbr.esp.opn < s.bbr.esp.blks.length)
    (hr : (blkOf s.bbr 0 s.bbr.esp.opn).rows < rowsPer s.bbr 0) :
    (rowWrite 0 tick bs s).bbr.esp.nrows = s.bbr.esp.nrows + 1 ∧ (rowWrite 0 tick bs s).bbr.esp.opn = s.bbr.esp.opn ∧
    blkOf (rowWrite 0 tick bs s).bbr 0 s.bbr.esp.opn = rowTaken tick s.bbr.esp.nrows (blkOf s.bbr 0 s.bbr.esp.opn) := by
  have ht : s.bbr.tier 0 = s.bbr.esp := rfl
  have hroom : roomFor 0 s = s := by
    rw [roomFor, ht, if_neg (by simp [ho, hr]), if_pos ho]
  obtain ⟨_, m, m', e⟩ := rowWrite_eq 0 tick bs s
  rw [hroom, rowKept, ht, if_pos ho] at e
  rw [e]
  refine ⟨rfl, rfl, ?_⟩
  exact lat_modify_self s.bbr.esp.blks hl (rowTaken tick s.bbr.esp.nrows) Blk.init

theorem rowStat_esp {t : Nat} (h : t ≠ 0) (s : State) : (rowStat t s).bbr.esp = s.bbr.esp := by
  unfold rowStat
  dsimp only
  split
  · exact (esp_modTier_ne h _ _).trans (rowWrite_esp h _ _ s)
  · rfl

theorem recorderOnly_rowStat (t : Nat) (s : State) : RecorderOnly s (rowStat t s) := by
  unfold rowStat
  dsimp only
  split
  · exact (recorderOnly_rowWrite t _ _ s).trans (recorderOnly_bbr _ _)
  · exact .refl s

theorem oldsDone_esp (all : Bool) (b : Bbr) : (oldsDone all b).esp = b.esp := by
  have h : ∀ (p : OldWin → Bool) (l : List OldWin) (b : Bbr),
      (l.foldl (fun b w => if p w then strmWin w.f w.id w.blks b else b) b).esp = b.esp := fun p l => by
    induction l with
    | nil => exact fun _ => rfl
    | cons w l ih =>
      intro b
      refine (ih _).trans ?_
      dsimp only
      split <;> rfl
  exact h _ b.olds b

theorem freezeDone_effect (s : State) : (freezeDone s).bbr.esp = s.bbr.esp ∧ RecorderOnly s (freezeDone s) := by
  have h : ∀ (l : List Nat) (v : State), v.bbr.esp = s.bbr.esp → RecorderOnly s v →
      (l.foldl (fun s i => if windowDone (vat s.bbr.trig i Trig.init) then freeze i s else s) v).bbr.esp = s.bbr.esp ∧
      RecorderOnly s (l.foldl (fun s i => if windowDone (vat s.bbr.trig i Trig.init) then freeze i s else s) v) := fun l => by
    induction l with
    | nil => exact fun v h1 h2 => ⟨h1, h2⟩
    | cons i l ih =>
      intro v h1 h2
      refine ih _ ?_ ?_
      · dsimp only
        split
        · exact h1
        · exact h1
      · dsimp only
        split
        · exact h2.trans (recorderOnly_bbr v _)
        · exact h2
  unfold freezeDone
  generalize List.range 32 = l
  exact h l _ (oldsDone_esp false s.bbr) (recorderOnly_bbr s _)

/-- The rows of a tick start, where the espresso tier has a block with room (R235, R236). -/
theorem recRows_effect (ho : s.bbr.esp.isOpen = true) (hl : s.bbr.esp.opn < s.bbr.esp.blks.length)
    (hr : (blkOf s.bbr 0 s.bbr.esp.opn).rows < rowsPer s.bbr 0) :
    (recRows s).bbr.esp.nrows = s.bbr.esp.nrows + 1 ∧ (recRows s).bbr.esp.opn = s.bbr.esp.opn ∧
    blkOf (recRows s).bbr 0 s.bbr.esp.opn = rowTaken (s.now - 1) s.bbr.esp.nrows (blkOf s.bbr 0 s.bbr.esp.opn) ∧
    (recRows s).ctx = s.ctx ∧ (recRows s).chan = s.chan := by
  obtain ⟨h1, h2, h3⟩ := rowWrite_open (s.now - 1) (espRow s) ho hl hr
  have hw := recorderOnly_rowWrite 0 (s.now - 1) (espRow s) s
  obtain ⟨v, hv⟩ : ∃ v, v = rowWrite 0 (s.now - 1) (espRow s) s := ⟨_, rfl⟩
  have e : recRows s = freezeDone (rowStat 2 (rowStat 1 { v with link := v.link.map fun x => { x with capture := [] } })) := by
    rw [hv]
    rfl
  rw [← hv] at h1 h2 h3 hw
  obtain ⟨f1, f2⟩ := freezeDone_effect (rowStat 2 (rowStat 1 { v with link := v.link.map fun x => { x with capture := [] } }))
  have hesp : (recRows s).bbr.esp = v.bbr.esp := by
    rw [e, f1, rowStat_esp (by decide), rowStat_esp (by decide)]
  have hrec := (recorderOnly_rowStat 1 { v with link := v.link.map fun x => { x with capture := [] } }).trans
    ((recorderOnly_rowStat 2 _).trans f2)
  rw [← e] at hrec
  refine ⟨by rw [hesp, h1], by rw [hesp, h2], ?_, hrec.ctx.trans hw.ctx, hrec.chan.trans hw.chan⟩
  rw [← h3]
  exact congrArg (fun x : TierSt => lat x.blks s.bbr.esp.opn Blk.init) hesp

/-! The close of a block. -/

theorem modTier_fenced (b : Bbr) (t : Nat) (f : TierSt → TierSt) : (b.modTier t f).fenced = b.fenced := by
  unfold Bbr.modTier
  split
  · rfl
  · split <;> rfl

/-- What a change of one block that keeps a field leaves of that field. -/
theorem lat_modify_kept {α β : Type} (g : α → β) {f : α → α} (hf : ∀ x, g (f x) = g x) (l : List α) (n k : Nat) (d : α) :
    g (lat (l.modify n f) k d) = g (lat l k d) := by
  by_cases h : n = k
  · by_cases hl : n < l.length
    · rw [← h, lat_modify_self l hl, hf]
    · rw [List.modify_eq_self (Nat.not_lt.1 hl)]
  · rw [lat_modify_ne l h]

/-- The tier whose open block has closed (R232). -/
theorem closeBlk_open (t : Nat) (ho : (s.bbr.tier t).isOpen = true) : ∃ c : BitVec 4, (closeBlk t s).bbr.fenced = s.bbr.fenced ∧
    (closeBlk t s).bbr.tier t = { s.bbr.tier t with
      blks := (s.bbr.tier t).blks.modify (s.bbr.tier t).opn fun k => { k with closed := true, todo := c },
      isOpen := false, lastSeq := (blkOf s.bbr t (s.bbr.tier t).opn).seq } := by
  unfold closeBlk
  extract_lets b x n todo b1
  rw [if_pos (show x.isOpen = true from ho)]
  have ht : b1.tier t = { s.bbr.tier t with
      blks := (s.bbr.tier t).blks.modify (s.bbr.tier t).opn fun k => { k with closed := true, todo := todo },
      isOpen := false,
      lastSeq := (lat ((s.bbr.tier t).blks.modify (s.bbr.tier t).opn fun k => { k with closed := true, todo := todo }) (s.bbr.tier t).opn
        Blk.init).seq } := (tier_modTier_self _ t _).trans (by rw [Bbr.modBlk, tier_modTier_self])
  rw [lat_modify_kept Blk.seq (f := fun k => { k with closed := true, todo := todo }) (fun _ => rfl)] at ht
  obtain ⟨m, e⟩ := hdrSync_eq t n false b1
  have hf : (hdrSync t n false b1).fenced = s.bbr.fenced := by
    rw [e]
    exact (modTier_fenced _ t _).trans (modTier_fenced _ t _)
  exact ⟨todo, hf, (tier_hdrSync t n t false b1).trans ht⟩

/-- The block that opens next does not depend on how the one before was closed (R232). -/
theorem nextBlk_closeBlk (t : Nat) (ho : (s.bbr.tier t).isOpen = true) : nextBlk (closeBlk t s).bbr t = nextBlk s.bbr t := by
  obtain ⟨c, hf, ht⟩ := closeBlk_open t ho
  unfold nextBlk
  rw [hf, ht]
  simp only [List.length_modify, lat_modify_kept Blk.holders (f := fun k => { k with closed := true, todo := c }) (fun _ => rfl),
    lat_modify_kept Blk.orph (f := fun k => { k with closed := true, todo := c }) (fun _ => rfl)]

theorem nextBlk_lt {t m : Nat} (h : nextBlk b t = some m) : m < (b.tier t).blks.length := by
  have hm := List.mem_of_find?_eq_some h
  obtain ⟨i, hi, he⟩ := List.mem_map.1 hm
  rw [← he]
  exact Nat.mod_lt _ (by have := List.mem_range.1 hi; omega)

/-- A full block closes and the next one opens (R232). -/
theorem blockClose_effect {t m : Nat} (ho : (s.bbr.tier t).isOpen = true) (hl : (s.bbr.tier t).opn < (s.bbr.tier t).blks.length)
    (hn : nextBlk s.bbr t = some m) (hm : m ≠ (s.bbr.tier t).opn) :
    ((openBlk t (closeBlk t s)).bbr.tier t).opn = m ∧ ((openBlk t (closeBlk t s)).bbr.tier t).isOpen = true ∧
    ((openBlk t (closeBlk t s)).bbr.tier t).seq = (s.bbr.tier t).seq + 1 ∧
    ((openBlk t (closeBlk t s)).bbr.tier t).lastSeq = (blkOf s.bbr t (s.bbr.tier t).opn).seq ∧
    (blkOf (openBlk t (closeBlk t s)).bbr t (s.bbr.tier t).opn).closed = true ∧ (blkOf (openBlk t (closeBlk t s)).bbr t m).rows = 0 := by
  obtain ⟨c, _, hc⟩ := closeBlk_open t ho
  obtain ⟨f, g, hf, hg, he⟩ := openBlk_tier ((nextBlk_closeBlk t ho).trans hn)
  rw [hc] at he
  unfold blkOf
  rw [he]
  refine ⟨rfl, rfl, rfl, rfl, ?_, ?_⟩
  · dsimp only
    rw [lat_modify_ne _ hm, lat_modify_ne _ hm, lat_modify_self _ hl]
  · dsimp only
    rw [lat_modify_self _ (by rw [List.length_modify, List.length_modify]; exact nextBlk_lt hn), hg,
      lat_modify_self _ (by rw [List.length_modify]; exact nextBlk_lt hn), hf]

/-! Windows and streams. -/

theorem windowDone_iff (g : Trig) : windowDone g = true ↔ g.st = .fired ∧ ∀ t, t < 3 → lat g.left t 0 = 0 := by
  simp [windowDone]

/-- A complete window freezes (R241, R248). -/
theorem freeze_effect (i : Fin 32) (s : State) : trg (freeze i.val s) i = { trg s i with st := .frozen } ∧
    (∀ j : Fin 32, j ≠ i → trg (freeze i.val s) j = trg s j) ∧
    (∀ k : Fin 4, (stm s k).isOpen = true → (stm s k).tiers.getLsbD 3 = true →
      (stm (freeze i.val s) k).frozen = (stm s k).frozen ++ winItems (trg s i).f i.val (winBlks s.bbr i.val)) ∧
    (freeze i.val s).bbr.mem = s.bbr.mem := by
  have hself : vat (vmod s.bbr.trig i.val fun g => { g with st := .frozen }) i.val Trig.init = { trg s i with st := .frozen } :=
    vat_vmod_self _ i.isLt _ _
  refine ⟨hself, fun j hj => vat_vmod_ne _ (fun h => hj (Fin.ext h.symm)) _ _, fun k ho ht => ?_, rfl⟩
  obtain ⟨bs, g, hb, hg, hstm⟩ : ∃ bs g, bs = winItems g.f i.val (winBlks s.bbr i.val) ∧
      g = vat (vmod s.bbr.trig i.val fun g => { g with st := .frozen }) i.val Trig.init ∧ stm (freeze i.val s) k =
        vat (s.bbr.strm.map fun x => if x.isOpen && x.tiers.getLsbD 3 then { x with frozen := x.frozen ++ bs } else x) k.val Strm.init :=
    ⟨_, _, rfl, rfl, rfl⟩
  rw [hself] at hg
  rw [hstm, vat_map _ _ k.isLt Strm.init, if_pos (by rw [Bool.and_eq_true]; exact ⟨ho, ht⟩), hb, hg]
  rfl

/-- An item that leaves its stream changes of the streams' counts nothing, and of the recorder's memory nothing (R248). -/
theorem itemDone_effect (k : Fin 4) (it : ExpItem) (b : Bbr) :
    (vat (itemDone k.val it b).strm k.val Strm.init).sent = (vat b.strm k.val Strm.init).sent ∧
    (vat (itemDone k.val it b).strm k.val Strm.init).credit = (vat b.strm k.val Strm.init).credit ∧ (itemDone k.val it b).mem = b.mem ∧
    (∀ g, it = .gap g → (vat (itemDone k.val it b).strm k.val Strm.init).gaps = (vat b.strm k.val Strm.init).gaps.drop 1) ∧
    (∀ t n, it = .blk t n → n < (b.tier t).blks.length → (blkOf (itemDone k.val it b) t n).todo.getLsbD k.val = false) := by
  cases it with
  | gap g =>
    have h := vat_vmod_self b.strm k.isLt (fun x : Strm => { x with gaps := x.gaps.drop 1 }) Strm.init
    rw [show (itemDone k.val (.gap g) b).strm = vmod b.strm k.val fun x => { x with gaps := x.gaps.drop 1 } from rfl, h]
    exact ⟨rfl, rfl, rfl, fun _ _ => rfl, fun _ _ hn => (by cases hn)⟩
  | blk t n =>
    have h : (itemDone k.val (.blk t n) b).strm = b.strm := modTier_strm b t _
    rw [h]
    refine ⟨rfl, rfl, modTier_mem b t _, fun g hg => (by cases hg), fun t' n' hn hl => ?_⟩
    obtain ⟨rfl, rfl⟩ : t = t' ∧ n = n' := by
      injection hn with h1 h2
      exact ⟨h1, h2⟩
    rw [itemDone, blkOf_modBlk_self hl]
    exact bitPut_getLsbD_self _ k.isLt false
  | win f g t n =>
    have h := vat_vmod_self b.strm k.isLt (fun x : Strm => { x with frozen := x.frozen.filter (· != (f, g, t, n)) }) Strm.init
    have hs : (itemDone k.val (.win f g t n) b).strm = vmod b.strm k.val fun x => { x with frozen := x.frozen.filter (· != (f, g, t, n)) } := by
      unfold itemDone
      dsimp only
      split <;> rfl
    have hm : (itemDone k.val (.win f g t n) b).mem = b.mem := by
      unfold itemDone
      dsimp only
      split <;> rfl
    rw [hs, h]
    exact ⟨rfl, rfl, hm, fun _ hg => (by cases hg), fun _ _ hn => (by cases hn)⟩

/-- One slot of a stream written (R247, R248). -/
theorem exportSlot_effect (k : Fin 4) {it : ExpItem} (h : nextItem s.bbr k.val = some it) :
    (stm (exportSlot k.val s) k).sent = (stm s k).sent + 1 ∧ (stm (exportSlot k.val s) k).credit = (stm s k).credit - 1 ∧
    (exportSlot k.val s).bbr.mem = s.bbr.mem ∧ (exportSlot k.val s).ctx = s.ctx ∧ (exportSlot k.val s).kio = s.kio ∧
    (∀ g, it = .gap g → (stm (exportSlot k.val s) k).gaps = (stm s k).gaps.drop 1) ∧
    (∀ t n, it = .blk t n → n < (s.bbr.tier t).blks.length → (blkOf (exportSlot k.val s).bbr t n).todo.getLsbD k.val = false) := by
  obtain ⟨b, m, hb, e⟩ : ∃ b m, b = itemDone k.val it s.bbr ∧ exportSlot k.val s = { s with
      host := m, bbr := { b with strm := vmod b.strm k.val fun x => { x with sent := x.sent + 1, credit := x.credit - 1 } } } := by
    simp only [exportSlot, h]
    exact ⟨_, _, rfl, rfl⟩
  obtain ⟨h1, h2, h3, h4, h5⟩ := itemDone_effect k it s.bbr
  rw [← hb] at h1 h2 h3 h4 h5
  have hs : stm (exportSlot k.val s) k = (fun x : Strm => { x with sent := x.sent + 1, credit := x.credit - 1 }) (vat b.strm k.val Strm.init) := by
    rw [e]
    exact vat_vmod_self _ k.isLt _ _
  rw [hs]
  refine ⟨congrArg (· + 1) h1, congrArg (· - 1) h2, ?_, ?_, ?_, h4, fun t n hi hl => ?_⟩
  · rw [e]
    exact h3
  · rw [e]
  · rw [e]
  · rw [e]
    exact h5 t n hi hl

end

/-- Settles O34. -/
theorem recorderRows : Obligations.RecorderRows := by
  intro s
  have hrow : Does .recorderRow s (if recRuns s && s.bbr.esp.rowTick < s.now then recRows s else s) := rfl
  refine ⟨fun hr ht ho hl hn => ?row, fun hr => ⟨?stopped, fun t => ?noClose⟩, fun ht => ?notDue, fun t m hr ho hl hn hm hne => ?closed,
    fun i h => ?noFreeze, fun i h1 h2 => ?freeze, fun k ho hc hch => ⟨fun hi => ?nothing, fun it hi => ?slot⟩, fun k h => ?noSlot⟩
  case row =>
    rw [if_pos (by simp [hr, ht])] at hrow
    obtain ⟨h1, h2, h3, h4, h5⟩ := recRows_effect ho hl hn
    exact ⟨_, hrow, h1, h2, by rw [h3]; rfl, by rw [h3]; rfl, h4, h5⟩
  case stopped => rwa [if_neg (by simp [hr])] at hrow
  case noClose =>
    have hu : Does (.blockClose t) s _ := rfl
    rwa [if_neg (by simp [hr])] at hu
  case notDue => rwa [if_neg (by simp [Nat.not_lt.2 ht])] at hrow
  case closed =>
    have hu : Does (.blockClose t) s _ := rfl
    rw [if_pos (by simp [hr, ho, hn])] at hu
    exact ⟨_, hu, blockClose_effect ho hl hm hne⟩
  case noFreeze =>
    have hu : Does (.triggerFrozen i) s (if windowDone (trg s i) then freeze i.val s else s) := rfl
    refine Eq.trans hu (congrArg (fun x => Host.Outcome.next (settle x)) (if_neg ?_))
    rw [windowDone_iff]
    rintro ⟨hf, hl⟩
    rcases h with h | ⟨t, ht, h⟩
    · exact h hf
    · exact h (hl t ht)
  case freeze =>
    have hu : Does (.triggerFrozen i) s (if windowDone (trg s i) then freeze i.val s else s) := rfl
    rw [if_pos ((windowDone_iff _).2 ⟨h1, h2⟩)] at hu
    exact ⟨_, hu, freeze_effect i s⟩
  case nothing =>
    have hu : Does (.exportSlotWrite k) s (if (stm s k).isOpen && (stm s k).credit > 0 && s.clk.chip != .dormant && s.clk.chip != .reset then
      exportSlot k.val s else s) := rfl
    have he : exportSlot k.val s = s := by simp only [exportSlot, hi]
    rwa [he, ite_self] at hu
  case slot =>
    have hu : Does (.exportSlotWrite k) s (if (stm s k).isOpen && (stm s k).credit > 0 && s.clk.chip != .dormant && s.clk.chip != .reset then
      exportSlot k.val s else s) := rfl
    rw [if_pos (by simp [ho, hc, hch])] at hu
    exact ⟨_, hu, exportSlot_effect k hi⟩
  case noSlot =>
    have hu : Does (.exportSlotWrite k) s (if (stm s k).isOpen && (stm s k).credit > 0 && s.clk.chip != .dormant && s.clk.chip != .reset then
      exportSlot k.val s else s) := rfl
    rwa [if_neg (by rcases h with h | h <;> simp [h])] at hu

end Sys2Proof.Claims
end

section
/-!
PROOF. What the reactions of R377 to R381 leave as it is: the wake that is in progress, the windows of a source that Table 18.1 never
raises, and the state of a channel. Two statements fall with it: a wake event while the dividers run is no waking (R31), and a window
that ends while its source has a record held keeps its count (R229).
-/
namespace Sys2Proof.Claims
open Sys2Proof Sys2Proof.Machine

section
variable {s u v : State}

/-- Whether the device wakes, the window of a source that is never raised (Table 18.9), and the state of the first channel. -/
def watched (s : State) : Bool × Option EvWin × ChanSt := (s.clk.waking, winOf s 1000 .ce, (s.ch 0).st)

theorem watched_of (hc : u.clk = s.clk) (hf : u.fcr = s.fcr) (hn : u.chan = s.chan) : watched u = watched s := by
  rw [watched, watched, winOf, winOf, State.ch, State.ch, hc, hf, hn]

theorem watched_foldl {α : Type} {f : State → α → State} (hf : ∀ s a, watched (f s a) = watched s) (l : List α) (s : State) :
    watched (l.foldl f s) = watched s := by
  induction l generalizing s with
  | nil => rfl
  | cons a l ih => exact (ih (f s a)).trans (hf s a)

theorem watched_ite {c : Prop} [Decidable c] (h : watched u = watched s) (h' : watched v = watched s) :
    watched (if c then u else v) = watched s := by
  split
  · exact h
  · exact h'

/-! Occurrences and completions. -/

theorem winOf_winPut {src : Nat} (h : src ≠ 1000) (cls : EvClass) (w : Option EvWin) (l : List (Nat × EvClass × EvWin)) :
    ((winPut l src cls w).find? fun x => x.1 == 1000 && x.2.1 == .ce) = l.find? fun x => x.1 == 1000 && x.2.1 == .ce := by
  have hfil : ((l.filter fun x => !(x.1 == src && x.2.1 == cls)).find? fun x => x.1 == 1000 && x.2.1 == .ce) =
      l.find? fun x => x.1 == 1000 && x.2.1 == .ce := by
    induction l with
    | nil => rfl
    | cons x l ih =>
      rw [List.filter_cons]
      split
      · rw [List.find?_cons, List.find?_cons, ih]
      next hx =>
        rw [List.find?_cons, ih]
        have hs : x.1 = src := by simpa using (by simpa using hx : x.1 = src ∧ x.2.1 = cls).1
        have hno : (x.1 == 1000 && x.2.1 == .ce) = false := by rw [hs, beq_false_of_ne h, Bool.false_and]
        rw [hno]
  unfold winPut
  cases w with
  | none => exact hfil
  | some y =>
    dsimp only
    rw [List.find?_append, hfil]
    simp [h]

theorem watched_record (r : HeldRec) (s : State) : watched (record r s) = watched s := by
  obtain ⟨k, m, t, f, e⟩ := record_eq r s
  rw [e]
  rfl

theorem watched_raise (s : State) (src : Nat) (cls : EvClass) (code : Nat) (p : W) (ctx task : Nat) :
    watched (s.raise src cls code p ctx task) = watched s := by
  unfold State.raise
  split
  · rfl
  next hk =>
    have hs : src ≠ 1000 := fun h => hk (by rw [h]; rfl)
    have hput : ∀ (cls : EvClass) (w : Option EvWin) (f : Fcr), watched { s with fcr := { f with win := winPut s.fcr.win src cls w } } =
        watched s := fun cls w f => by
      show (s.clk.waking, ((winPut s.fcr.win src cls w).find? _).map _, (s.ch 0).st) = _
      rw [winOf_winPut hs]
      rfl
    extract_lets cls1 cfg c16 f0 s1
    split
    · split
      · exact hput cls1 _ s1.fcr
      · exact (watched_record _ _).trans (hput cls1 _ s1.fcr)
    · exact hput cls1 _ s1.fcr

theorem watched_raiseP (s : State) (src : Nat) (cls : EvClass) (code ctx task : Nat) : watched (s.raiseP src cls code ctx task) = watched s :=
  (watched_raise _ src cls code _ ctx task).trans rfl

theorem watched_raiseC (s : State) (src : Nat) (cls : EvClass) (ctx task : Nat) : watched (s.raiseC src cls ctx task) = watched s :=
  (watched_raiseP _ src cls _ ctx task).trans rfl

theorem watched_kCpl (k : KCmd) (st : Nat) (r0 r1 r2 : W) (s : State) : watched (kCpl k st r0 r1 r2 s) = watched s := by
  obtain ⟨o, m, e⟩ := kCpl_eq k st r0 r1 r2 s
  rw [e]
  rfl

theorem watched_startDispute (s : State) : watched (startDispute s) = watched s :=
  watched_ite rfl ((watched_raiseC _ 960 .uc 0x1FF 0xFFFF).trans rfl)

theorem watched_kEnd (k : KCmd) (st : Nat) (r0 r1 r2 : W) (s : State) : watched (kEnd k st r0 r1 r2 s) = watched s := by
  unfold kEnd
  dsimp only
  split
  · exact watched_kCpl ..
  · split
    · split
      · rfl
      · rfl
    · split
      · split
        · unfold pairJudge
          dsimp only
          split
          · exact (watched_kCpl ..).trans rfl
          · exact (watched_startDispute _).trans (watched_kCpl ..)
        · rfl
      · exact (watched_kCpl ..).trans rfl

/-! Triggers. -/

theorem watched_trigHit (i f : Nat) (src : JAddr) (s : State) : watched (trigHit i f src s) = watched s := by
  have hfire : watched (fireTrig i f src s) = watched s := by
    unfold fireTrig
    extract_lets g src3 win tiers rowf short b1 left b2 s1
    exact watched_ite rfl rfl
  exact watched_ite (watched_ite hfire rfl) (watched_ite rfl rfl)

theorem watched_trigEvents (src : Nat) (cls : EvClass) (s : State) : watched (trigEvents src cls s) = watched s :=
  watched_foldl (fun s i => watched_ite (watched_trigHit i s.now (ownAddr s) s) rfl) (List.range 32) s

/-! Updates. -/

theorem watched_updDone (cmd code part r2 : Nat) (s : State) : watched (updDone cmd code part r2 s) = watched s := by
  unfold updDone
  split
  · exact watched_kEnd ..
  · rfl

theorem watched_svcSend (l : Nat) (host : Bool) (kind : Nat) (arg : BitVec 8) (ws : List W) (o : Option (BitVec 16)) (s : State) :
    watched (svcSend l host kind arg ws o s) = watched s := watched_of rfl rfl rfl

theorem watched_moduleCtrl (n : Nat) (s : State) : watched (moduleCtrl n s) = watched s := by
  unfold moduleCtrl
  refine watched_foldl (fun v p => watched_foldl (fun v l => ?_) _ v) _ s
  dsimp only
  exact watched_ite ((watched_svcSend ..).trans (watched_svcSend ..)) (watched_svcSend ..)

theorem watched_voteSend (kind : Nat) (rest : List W) (s : State) : watched (voteSend kind rest s) = watched s :=
  watched_ite rfl (watched_of rfl rfl rfl)

theorem watched_nvThroughW (off : Nat) (ws : List W) (s : State) : watched (nvThroughW off ws s) = watched s := by
  unfold nvThroughW nvThrough
  exact watched_of rfl rfl rfl

theorem watched_updPage (s : State) : watched (updPage s) = watched s := watched_nvThroughW ..

theorem watched_setPhase (p : UpdPhase) (s : State) : watched (setPhase p s) = watched s := (watched_updPage _).trans rfl

theorem watched_updLog (code orig : Nat) (s : State) : watched (updLog code orig s) = watched s := watched_nvThroughW ..

theorem watched_updUndo (code part r2 logc orig : Nat) (s : State) : watched (updUndo code part r2 logc orig s) = watched s := by
  unfold updUndo
  extract_lets s0 u s1 s2 s3
  rw [watched_updDone, watched_updDone]
  refine (watched_raiseP ..).trans ((watched_updLog logc orig s2).trans ?_)
  exact (show watched s2 = watched s1 from rfl).trans ((watched_setPhase ..).trans (watched_moduleCtrl 3 s))

theorem watched_updAbort (code part : Nat) (s : State) : watched (updAbort code part s) = watched s :=
  watched_ite ((watched_updUndo ..).trans (watched_voteSend ..)) rfl

theorem watched_updCause (code part : Nat) (s : State) : watched (updCause code part s) = watched s := by
  have hc : watched (causeStatus code s) = watched s := watched_ite (watched_of rfl rfl rfl) rfl
  rw [← hc]
  unfold updCause
  extract_lets v f src1 s1
  split
  · refine watched_ite rfl ((watched_updPage _).trans (watched_ite rfl ((watched_voteSend ..).trans rfl)))
  · exact watched_ite (watched_updAbort ..) (watched_updPage _)
  · exact watched_updAbort ..

/-! Fences. -/

theorem watched_modCx (c : Nat) (f : Context → Context) (s : State) : watched (s.modCx c f) = watched s := watched_of rfl rfl rfl
theorem watched_modCh (n : Nat) (f : Chan → Chan) (s : State) (hf : ∀ c, (f c).st = c.st) : watched (s.modCh n f) = watched s := by
  have hst : ((s.modCh n f).ch 0).st = (s.ch 0).st := by
    by_cases hn : n = 0
    · rw [hn, ch_modCh_self (by decide), hf]
    · rw [ch_modCh_ne hn]
  rw [watched, watched, hst]
  rfl
theorem watched_modEng (e : Nat) (f : Engine → Engine) (s : State) : watched (s.modEng e f) = watched s :=
  watched_ite (watched_of rfl rfl rfl) (watched_ite (watched_of rfl rfl rfl) (watched_of rfl rfl rfl))
theorem watched_modLk (l : Nat) (f : Link → Link) (s : State) : watched (s.modLk l f) = watched s := watched_of rfl rfl rfl
theorem watched_adm (s : State) (a : Adm) : watched { s with adm := a } = watched s := watched_of rfl rfl rfl
theorem watched_bbr (s : State) (b : Bbr) : watched { s with bbr := b } = watched s := watched_of rfl rfl rfl

theorem watched_fencePair (s : State) : watched (fencePair s) = watched s := watched_ite (watched_of rfl rfl rfl) rfl

theorem watched_dropShadow (s : State) : watched (dropShadow s) = watched s := by
  unfold dropShadow
  split
  · rfl
  · exact (watched_adm _ _).trans (watched_foldl (fun v q => watched_ite rfl (watched_modCx ..)) _ s)

theorem watched_fenceCancel (s : State) : watched (fenceCancel s) = watched s := by
  unfold fenceCancel
  dsimp only
  split
  · exact (watched_kEnd ..).trans (watched_dropShadow s)
  · exact watched_dropShadow s

theorem watched_discardStaged (r : Rel) (s : State) : watched (discardStaged r s) = watched s := by
  refine watched_ite rfl (watched_foldl (fun v k => ?_) _ s)
  split
  · exact watched_modCh _ _ _ fun _ => rfl
  · rfl

theorem watched_abandonEng (e : Nat) (s : State) : watched (abandonEng e s) = watched s := by
  have ha : ∀ (c : Nat) (v : State), watched (abandon c v) = watched v := fun c v => by
    unfold abandon
    dsimp only
    split
    · exact watched_modCx ..
    · exact (watched_modCx ..).trans ((watched_discardStaged ..).trans (watched_modCx ..))
  unfold abandonEng
  split
  exact watched_foldl (fun v k => ha _ v) _ s

theorem watched_askSafe (n : Nat) (s : State) : watched (askSafe n s) = watched s :=
  watched_modCh n _ s fun _ => rfl

theorem watched_engBeyond (s : State) (k : Nat) : watched (engBeyond s k) = watched s := by
  unfold engBeyond
  dsimp only
  refine (watched_raise ..).trans ((watched_of rfl rfl rfl).trans ((watched_foldl (fun v q => ?_) _ _).trans rfl))
  split
  · exact watched_foldl (fun v x => watched_ite (watched_askSafe _ v) rfl) _ v
  · rfl

theorem watched_fenceBeyond (k : Nat) (s : State) : watched (fenceBeyond k s) = watched s :=
  (watched_foldl watched_engBeyond _ _).trans (watched_of rfl rfl rfl)

theorem watched_fenceLE (k : Nat) (s : State) : watched (fenceLE k s) = watched s := by
  unfold fenceLE
  extract_lets s1 s2 inSet f3 s3 l
  refine watched_ite rfl ?_
  have h3 : watched s3 = watched s :=
    (show watched s3 = watched s2 from rfl).trans ((watched_abandonEng ..).trans ((watched_modEng ..).trans
      ((watched_updCause ..).trans ((watched_fenceCancel ..).trans (watched_fencePair s)))))
  exact watched_ite h3 (watched_ite h3 (watched_ite ((watched_fenceBeyond k s3).trans h3) ((watched_adm ..).trans h3)))

theorem watched_fenceSU (e : Nat) (s : State) : watched (fenceSU e s) = watched s := by
  unfold fenceSU
  extract_lets s1 s2 i f3 s3 others
  refine watched_ite rfl ?_
  have h3 : watched s3 = watched s :=
    (show watched s3 = watched s2 from rfl).trans ((watched_abandonEng ..).trans ((watched_modEng ..).trans
      ((watched_updCause ..).trans ((watched_fenceCancel ..).trans (watched_fencePair s)))))
  split
  · exact watched_ite ((watched_adm ..).trans h3) h3
  · exact h3

theorem watched_linkDown (l : Nat) (s : State) : watched (linkDown l s) = watched s := by
  have hset : ∀ f, watched (setLink l .down f s) = watched s := fun f => by
    obtain ⟨x, b, e⟩ := setLink_eq l .down f s
    rw [e]
    exact watched_of rfl rfl rfl
  unfold linkDown
  dsimp only
  have h1 := watched_ite (c := (s.lk l).st = .down) (u := s) (s := s) rfl (hset fun x => { x with
    fast := false, version := 0, switchTick := none, ready := false, trainRun := 0, corruptRun := 0, missRun := 0, lastValid := false })
  exact watched_ite ((watched_foldl (fun v n => watched_raiseP v _ _ _ _ _) _ _).trans h1) h1

theorem watched_fenceSlc (l : Nat) (s : State) : watched (fenceSlc l s) = watched s := by
  unfold fenceSlc
  extract_lets s1 s2
  refine watched_ite rfl ((watched_foldl (fun v n => watched_modCh n (fun c => { c with fenceReq := true }) v fun _ => rfl) _ _).trans ?_)
  exact (watched_modLk ..).trans
    ((watched_linkDown l s1).trans ((watched_updCause ..).trans (watched_fencePair s)))

theorem watched_bankLose (k t : Nat) (s : State) : watched (bankLose k t s) = watched s := watched_of rfl rfl rfl

theorem watched_disarm (t : Nat) (s : State) : watched (disarm t s) = watched s :=
  watched_foldl (fun v i => by
    dsimp only
    exact watched_ite ((watched_raiseC ..).trans (watched_bbr ..)) rfl) _ s

theorem watched_fenceBank (k : Nat) (s : State) : watched (fenceBank k s) = watched s := by
  unfold fenceBank
  extract_lets s1 b2 s2 tiers
  refine watched_ite rfl ((watched_foldl (fun v t => (watched_disarm t _).trans (watched_bankLose k t v)) _ _).trans ?_)
  exact (watched_bbr ..).trans (watched_updCause ..)

theorem watched_fenceSrc (src : Nat) (s : State) : watched (fenceSrc src s) = watched s :=
  watched_ite rfl (watched_ite (watched_fenceLE ..) (watched_ite (watched_fenceSU ..) (watched_ite (watched_fenceSU ..)
    (watched_ite (watched_fenceSlc ..) (watched_ite (watched_fenceBank ..) rfl)))))

/-! Resets, the fatal path, and the reactions. -/

theorem watched_followRef (s : State) : watched (followRef s) = watched s := by
  have hlost : watched (refLost s) = watched s := (watched_raiseC ..).trans rfl
  exact watched_ite (watched_ite (watched_ite rfl rfl) (watched_ite hlost rfl)) rfl

theorem watched_modTw (p : Nat) (f : Twp → Twp) (s : State) : watched (s.modTw p f) = watched s := watched_of rfl rfl rfl
theorem watched_prl (s : State) (p : Prl) : watched { s with prl := p } = watched s := watched_of rfl rfl rfl

theorem watched_unitReset (src : Nat) (s : State) : watched (unitReset src s) = watched s := by
  unfold unitReset
  refine watched_ite (watched_of rfl rfl rfl) (watched_ite (watched_of rfl rfl rfl) (watched_ite (watched_of rfl rfl rfl) (watched_ite (watched_modTw ..)
    (watched_ite (watched_of rfl rfl rfl) (watched_ite (watched_of rfl rfl rfl) (watched_ite (watched_of rfl rfl rfl) (watched_ite (watched_of rfl rfl rfl)
    (watched_ite ((watched_followRef _).trans ?_) (watched_ite (watched_of rfl rfl rfl) (watched_ite (watched_of rfl rfl rfl)
    (watched_ite (watched_of rfl rfl rfl) (watched_ite (watched_of rfl rfl rfl) (watched_ite (watched_of rfl rfl rfl)
    (watched_ite (watched_of rfl rfl rfl) rfl))))))))))))))
  rfl

theorem watched_brst (s : State) (b : List (Nat × Nat)) : watched { s with fcr := { s.fcr with brst := b } } = watched s := rfl

theorem watched_blockReset (src : Nat) (s : State) : watched (blockReset src s) = watched s :=
  (watched_brst ..).trans (watched_unitReset src s)

theorem watched_todo (s : State) (t : List React) : watched { s with fcr := { s.fcr with todo := t } } = watched s := rfl

theorem watched_safeAll (s : State) : watched (safeAll s) = watched s := by
  have hst : ((safeAll s).ch 0).st = (s.ch 0).st := by
    unfold safeAll State.ch
    rw [vat_map s.chan _ (by decide) Chan.init]
  rw [watched, watched, hst]
  rfl

theorem watched_chipResetDue (s : State) : watched (chipResetDue s) = watched s := rfl

theorem watched_safeSrc (src : Nat) (s : State) : watched (safeSrc src s) = watched s :=
  watched_ite (watched_askSafe ..) (watched_ite (watched_foldl (fun v n => watched_askSafe n v) _ s) rfl)

theorem watched_fatal (r : React) (s : State) : watched (fatal r s) = watched s := by
  unfold fatal
  extract_lets first f1 t1 s1 p2 s2 w f3 s3 f4
  have h2 : watched s2 = watched s := (watched_ite (watched_prl ..) (watched_safeAll s1)).trans rfl
  have h3 : watched s3 = watched s := (show watched s3 = watched s2 from rfl).trans h2
  exact watched_ite h2 (watched_ite ((watched_nvThroughW ..).trans ((show watched _ = watched s3 from rfl).trans h3)) h3)

theorem watched_reactUc (r : React) (s : State) : watched (reactUc r s) = watched s := by
  unfold reactUc
  extract_lets f1 s1 s2 s3
  have h1 : watched s1 = watched s := watched_ite rfl rfl
  have h2 : watched s2 = watched s := watched_ite h1 h1
  have h3 : watched s3 = watched s := watched_ite h2 (watched_ite ((watched_fenceSrc ..).trans h2)
    (watched_ite ((watched_blockReset ..).trans h2) (watched_ite ((watched_safeSrc ..).trans h2) h2)))
  exact watched_ite ((watched_safeAll s3).trans h3) h3

theorem watched_react (s : State) (r : React) : watched (react s r) = watched s := by
  unfold react
  dsimp only
  split
  · exact watched_trigEvents ..
  · exact (watched_reactUc ..).trans (watched_trigEvents ..)
  · exact (watched_fatal ..).trans (watched_ite ((watched_chipResetDue _).trans (watched_trigEvents ..))
      (watched_trigEvents ..))

/-- The reactions that a command's occurrences call for (R377). -/
theorem watched_settle (s : State) : watched (settle s) = watched s := by
  have h : ∀ n (v : State), watched (settleN n v) = watched v := fun n => by
    induction n with
    | zero => exact fun _ => rfl
    | succ n ih =>
      intro v
      exact watched_ite rfl ((ih _).trans ((watched_foldl watched_react _ _).trans (watched_todo ..)))
  exact h 8 s

/-- Dormant with the dividers running, where the loss of PERST wakes. -/
def dozing : State :=
  { State.reset with clk := { State.reset.clk with chip := .dormant, tickRun := true, waking := false, wake := BitVec.allOnes _ } }

/-- A source with a record held, whose window of a count of 1 ends. -/
def heldWindow : State :=
  { State.reset with fcr := { State.reset.fcr with
    held := [⟨1000, .ce, 1, 0, 0, 0, 0, 0, false⟩], win := [(1000, .ce, ⟨0, 1, 0, 0, 0, 0, 0⟩)] } }

/-- Two states from which one command ends in the same next state are watched alike. -/
theorem watched_of_does {i : Instr} (h : exec i s = done v) (hu : Does i s u) : watched u = watched v := by
  have e : settle v = settle u := Host.Outcome.next.inj (h.symm.trans hu)
  rw [← watched_settle u, ← e, watched_settle]

end

/-- Refutes O28: a wake event that comes while the tick counts starts no waking (R31: the dividers run already). -/
theorem not_clockFaultsAndWake : ¬ Obligations.ClockFaultsAndWake := by
  unfold Obligations.ClockFaultsAndWake
  rintro ⟨_, h⟩
  obtain ⟨hwake, _⟩ := h dozing rfl
  obtain ⟨u, hu, hw, _⟩ := hwake .pcie (by decide)
  have e := watched_of_does (v := wakeEvent .pcie dozing) rfl hu
  rw [watched, watched, hw] at e
  have hv : (wakeEvent .pcie dozing).clk.waking = false := rfl
  rw [hv] at e
  exact Bool.noConfusion (congrArg Prod.fst e)

/-- Refutes O35: the window of a source with a record held ends, and the next one keeps its count (R229). -/
theorem not_eventRecords : ¬ Obligations.EventRecords := by
  unfold Obligations.EventRecords
  intro h
  obtain ⟨_, _, _, _, _, hend, _⟩ := h heldWindow
  obtain ⟨u, hu, _, hc, _⟩ := (hend 1000 .ce ⟨0, 1, 0, 0, 0, 0, 0⟩ rfl (Nat.zero_le _)).2 (by decide)
  have e := watched_of_does (v := windowEnd 1000 .ce heldWindow) rfl hu
  have hv : winOf (windowEnd 1000 .ce heldWindow) 1000 .ce = some ⟨heldWindow.now + evWindow, 1, 0, 0, 0, 0, 0⟩ := rfl
  rw [watched, watched, hv] at e
  have hw : winOf u 1000 .ce = some ⟨heldWindow.now + evWindow, 1, 0, 0, 0, 0, 0⟩ := congrArg (fun x => x.2.1) e
  have hcount : (winOf u 1000 .ce).map (·.count) = some 0 := hc
  rw [hw] at hcount
  exact absurd hcount (by decide)

end Sys2Proof.Claims
end

section
/-!
PROOF. The Trellis pins, the scan of the matrix and its line checks (R451, R453 to R460).
-/
namespace Sys2Proof.Claims
open Sys2Proof Sys2Proof.Machine

section
variable {s u v : State}

/-! The pins. -/

theorem trlPhase_fatal (h : s.fcr.fatal = true) : trlPhase s = 2 := by rw [trlPhase, if_pos h]

theorem rowDrive_high {ph r : Nat} (hr : r < 12) (h1 : 160 * r ≤ ph) (h2 : ph < 160 * r + 120) : rowDrive ph r = .high := by
  have hd : ph / 160 = r := by omega
  rw [rowDrive, if_pos (by simp [hd]; omega), if_pos (by omega)]

theorem rowDrive_low {ph r : Nat} (hr : r < 12) (h1 : 160 * r + 130 ≤ ph) (h2 : ph < 160 * r + 160) : rowDrive ph r = .low := by
  have hd : ph / 160 = r := by omega
  rw [rowDrive, if_pos (by simp [hd]; omega), if_neg (by omega), if_neg (by omega)]

theorem rowDrive_other {ph r q : Nat} (h1 : 160 * r ≤ ph) (h2 : ph < 160 * r + 160) (hq : q ≠ r) : rowDrive ph q = .hiZ := by
  have hd : ph / 160 = r := by omega
  rw [rowDrive, if_neg (by simp [hd]; exact fun _ h => hq h.symm)]

theorem colDrive_lamp (lit : BitVec 144) {ph r c : Nat} (hr : r < 12) (h1 : 160 * r ≤ ph) (h2 : ph < 160 * r + 120) :
    colDrive lit ph c = if lit.getLsbD (12 * r + c) then .low else .hiZ := by
  have hd : ph / 160 = r := by omega
  rw [colDrive, if_pos (by simp; omega), hd]

theorem colDrive_sense (lit : BitVec 144) {ph r c : Nat} (h1 : 160 * r + 130 ≤ ph) (h2 : ph < 160 * r + 160) :
    colDrive lit ph c = .pullUp := by
  rw [colDrive, if_neg (by simp; omega), if_neg (by simp; omega)]

/-! The start of a scan. -/

/-- Bits put one after another are each read back. -/
theorem foldl_bitPut_get {m : Nat} (f : Nat → Bool) (w : BitVec m) {n p : Nat} (hp : p < n) (hm : p < m) :
    ((List.range n).foldl (fun w p => bitPut w p (f p)) w).getLsbD p = f p := by
  induction n with
  | zero => exact absurd hp (Nat.not_lt_zero _)
  | succ n ih =>
    rw [List.range_succ, List.foldl_append, List.foldl_cons, List.foldl_nil]
    by_cases h : p = n
    · rw [h]
      exact bitPut_getLsbD_self _ (by omega) _
    · rw [bitPut_getLsbD_ne _ (fun h' => h h'.symm)]
      exact ih (by omega)

theorem scanLamps_fault {n : Nat} (hn : 0 < n) (s : State) : (scanLamps s n).getLsbD 0 = s.fcr.errnOut := by
  unfold scanLamps
  dsimp only
  rw [foldl_bitPut_get _ _ hn (by decide), if_pos rfl]

theorem trlCfgIn_eq (x : Trl) : trlCfgIn x = { x with cfg := x.cfgNext.getD x.cfg, cfgNext := none } := by
  unfold trlCfgIn
  split
  next v h => simp [h]
  next h =>
    obtain ⟨⟩ := x
    simp_all

/-- A scan that starts takes a waiting configuration and judges the lamps (R456, R460). -/
theorem scanStart_effect (h : trlPhase s = 3 ∨ trlPhase s = 4) : ∃ n, 0 < n ∧
    (scanStart s).trl = { trlCfgIn s.trl with lit := scanLamps { s with trl := trlCfgIn s.trl } n } := by
  rcases h with h | h
  · refine ⟨144, by decide, ?_⟩
    rw [scanStart, if_pos h]
  · refine ⟨24, by decide, ?_⟩
    rw [scanStart, if_neg (by rw [h]; decide), if_pos h]

/-! What a scan reads. -/

theorem senseOne_eq (sense : List (BitVec 12)) (x : Trl) (p : Nat) : ∃ l r, senseOne sense x p = { x with last := l, sense := r } := by
  unfold senseOne
  dsimp only
  split
  · exact ⟨_, _, rfl⟩
  · split
    · exact ⟨_, _, rfl⟩
    · exact ⟨_, _, rfl⟩

theorem senseOne_ne (sense : List (BitVec 12)) (x : Trl) {p q : Nat} (h : q ≠ p) : (senseOne sense x q).sense.getLsbD p = x.sense.getLsbD p := by
  unfold senseOne
  dsimp only
  split
  · exact bitPut_getLsbD_ne _ h _
  · split
    · rfl
    · dsimp only
      split
      · split
        · exact bitPut_getLsbD_ne _ h _
        · rfl
      · split
        · exact bitPut_getLsbD_ne _ h _
        · rfl

/-- A point whose column is in NOSENSE is read as false (R457). -/
theorem senseOne_nosense (sense : List (BitVec 12)) (x : Trl) {p : Nat} (hp : p < 144) (h : x.cfg.bit (16 + p % 12) = true) :
    (senseOne sense x p).sense.getLsbD p = false := by
  rw [senseOne, if_pos h]
  exact bitPut_getLsbD_self _ hp _

/-- The readings of a scan change the debounce state and the sense bits alone. -/
theorem senseAll_eq (sense : List (BitVec 12)) (ps : List Nat) (x : Trl) :
    ∃ l r, ps.foldl (senseOne sense) x = { x with last := l, sense := r } := by
  induction ps generalizing x with
  | nil => exact ⟨_, _, rfl⟩
  | cons p ps ih =>
    obtain ⟨l, r, h⟩ := senseOne_eq sense x p
    obtain ⟨l', r', h'⟩ := ih (senseOne sense x p)
    refine ⟨l', r', ?_⟩
    rw [List.foldl_cons, h', h]

theorem senseAll_nosense (sense : List (BitVec 12)) (x : Trl) {n p : Nat} (hn : n ≤ 144) (hp : p < n)
    (h : x.cfg.bit (16 + p % 12) = true) : ((List.range n).foldl (senseOne sense) x).sense.getLsbD p = false := by
  induction n with
  | zero => exact absurd hp (Nat.not_lt_zero _)
  | succ n ih =>
    rw [List.range_succ, List.foldl_append, List.foldl_cons, List.foldl_nil]
    by_cases hpn : p = n
    · obtain ⟨l, r, e⟩ := senseAll_eq sense (List.range n) x
      rw [← hpn, senseOne_nosense sense _ (by omega) (by rw [hpn, e]; rw [hpn] at h; exact h)]
    · rw [senseOne_ne sense _ (fun h' => hpn h'.symm)]
      exact ih (by omega) (by omega)

/-- SVALID of a point says whether it is read (Table 22.9). -/
theorem senseValid_get (x : Trl) {p : Nat} (hp : p < 144) : (senseValid x).svalid.getLsbD p = pointRead x p :=
  foldl_bitPut_get _ _ hp hp

/-- What the line checks of a scan leave as it is: the configuration, the lamps, the readings and the engines' contexts. -/
structure LinesOnly (s u : State) : Prop where
  cfg : u.trl.cfg = s.trl.cfg
  cfgNext : u.trl.cfgNext = s.trl.cfgNext
  lit : u.trl.lit = s.trl.lit
  lamp : u.trl.lamp = s.trl.lamp
  scans : u.trl.scans = s.trl.scans
  sense : u.trl.sense = s.trl.sense
  ctx : u.ctx = s.ctx

theorem LinesOnly.refl (s : State) : LinesOnly s s := ⟨rfl, rfl, rfl, rfl, rfl, rfl, rfl⟩

theorem LinesOnly.trans (h : LinesOnly s u) (h' : LinesOnly u v) : LinesOnly s v :=
  ⟨h'.cfg.trans h.cfg, h'.cfgNext.trans h.cfgNext, h'.lit.trans h.lit, h'.lamp.trans h.lamp, h'.scans.trans h.scans,
    h'.sense.trans h.sense, h'.ctx.trans h.ctx⟩

theorem LinesOnly.raise (h : LinesOnly s u) (src : Nat) (cls : EvClass) (code : Nat) (p : W) : LinesOnly s (u.raise src cls code p) :=
  h.trans ⟨by simp, by simp, by simp, by simp, by simp, by simp, by simp⟩

theorem LinesOnly.foldl {f : State → Nat → State} (hf : ∀ s i, LinesOnly s (f s i)) (is : List Nat) (s : State) :
    LinesOnly s (is.foldl f s) := by
  induction is generalizing s with
  | nil => exact .refl s
  | cons i is ih => exact (hf s i).trans (ih _)

theorem linesOnly_columnStuck (c : Nat) (s : State) : LinesOnly s (columnStuck c s) := by
  unfold columnStuck
  refine LinesOnly.raise ?_ _ _ _ _
  exact ⟨rfl, rfl, rfl, rfl, rfl, rfl, rfl⟩

theorem linesOnly_rowShort (r : Nat) (s : State) : LinesOnly s (rowShort r s) := by
  unfold rowShort
  refine LinesOnly.raise ?_ _ _ _ _
  exact ⟨rfl, rfl, rfl, rfl, rfl, rfl, rfl⟩

theorem linesOnly_guardOne (guard : BitVec 12) (s : State) (c : Nat) : LinesOnly s (guardOne guard s c) := by
  unfold guardOne
  split
  · exact .refl s
  · split
    · split
      · exact ⟨rfl, rfl, rfl, rfl, rfl, rfl, rfl⟩
      · split
        · exact .refl s
        · exact linesOnly_columnStuck c s
    · exact ⟨rfl, rfl, rfl, rfl, rfl, rfl, rfl⟩

theorem linesOnly_rowOne (low : BitVec 12) (s : State) (r : Nat) : LinesOnly s (rowOne low s r) := by
  unfold rowOne
  split
  · split
    · exact ⟨rfl, rfl, rfl, rfl, rfl, rfl, rfl⟩
    · exact linesOnly_rowShort r s
    · exact .refl s
  · exact ⟨rfl, rfl, rfl, rfl, rfl, rfl, rfl⟩

/-- What one scan of the matrix does (R455 to R458): it is counted, and the points of the columns in NOSENSE are not read. -/
theorem trlScan_effect (se : List (BitVec 12)) (g low : BitVec 12) (h : trlPhase s = 3) :
    (trlScan se g low s).trl.scans = s.trl.scans + 1 ∧ (trlScan se g low s).trl.cfg = s.trl.cfg ∧
    (trlScan se g low s).trl.cfgNext = s.trl.cfgNext ∧ (trlScan se g low s).trl.lit = s.trl.lit ∧
    (trlScan se g low s).trl.lamp = s.trl.lamp ∧ (trlScan se g low s).ctx = s.ctx ∧
    ∀ p : Fin 144, s.trl.cfg.bit (16 + p.val % 12) = true →
      (trlScan se g low s).trl.sense.getLsbD p.val = false ∧ (trlScan se g low s).trl.svalid.getLsbD p.val = false := by
  rw [trlScan, if_pos h]
  dsimp only
  have hk := (LinesOnly.foldl (linesOnly_rowOne low) (List.range 12) { s with trl := (List.range 144).foldl (senseOne se) s.trl }).trans
    (LinesOnly.foldl (linesOnly_guardOne g) (List.range 12) _)
  obtain ⟨l, r, hr⟩ := senseAll_eq se (List.range 144) s.trl
  generalize (List.range 12).foldl (guardOne g) _ = v at hk ⊢
  have hcfg : v.trl.cfg = s.trl.cfg := hk.cfg.trans (by rw [hr])
  refine ⟨congrArg (· + 1) (hk.scans.trans (by rw [hr])), hcfg, hk.cfgNext.trans (by rw [hr]), hk.lit.trans (by rw [hr]),
    hk.lamp.trans (by rw [hr]), hk.ctx, fun p hp => ⟨?_, ?_⟩⟩
  · exact (congrArg (BitVec.getLsbD · p.val) hk.sense).trans (senseAll_nosense se s.trl (Nat.le_refl _) p.isLt hp)
  · rw [senseValid_get _ p.isLt, pointRead, hcfg, hp]
    rfl

/-- What a stuck column does (R458): its points are no longer read, and its CE occurs. -/
theorem columnStuck_effect (i : Fin 12) (s : State) : (columnStuck i.val s).trl.stuck.getLsbD i.val = true ∧
    (columnStuck i.val s).trl.evt.getLsbD 0 = true ∧ raised (columnStuck i.val s) 989 (promoted s 989 .ce) 0x0001 ∧
    ∀ p : Fin 144, p.val % 12 = i.val → (columnStuck i.val s).trl.svalid.getLsbD p.val = false := by
  unfold columnStuck
  dsimp only
  refine ⟨?_, ?_, raised_raise (by decide) _ .ce _ _ _ _, fun p hp => ?_⟩
  · rw [State.raise_trl]
    exact bitPut_getLsbD_self _ i.isLt _
  · rw [State.raise_trl]
    exact bitPut_getLsbD_self _ (by decide) _
  · rw [State.raise_trl, senseValid_get _ p.isLt, pointRead, hp, bitPut_getLsbD_self _ i.isLt]
    simp

/-- What a short row does (R458). -/
theorem rowShort_effect (i : Fin 12) (s : State) : (rowShort i.val s).trl.evt.getLsbD 1 = true ∧
    vat (rowShort i.val s).trl.rowLow i.val 0 = 2 ∧ raised (rowShort i.val s) 989 (promoted s 989 .ce) 0x0002 := by
  unfold rowShort
  dsimp only
  refine ⟨?_, ?_, raised_raise (by decide) _ .ce _ _ _ _⟩
  · rw [State.raise_trl]
    exact bitPut_getLsbD_self _ (by decide) _
  · rw [State.raise_trl]
    exact vat_vput_self _ i.isLt _ _

theorem senseDue_eq {x : Trl} {p : Nat} (h : (vat x.last p (false, 0)).1 = !x.sense.getLsbD p) :
    senseDue x p = decide (x.cfg.bits 3 0 ≤ (vat x.last p (false, 0)).2 + 1) := by
  unfold senseDue
  dsimp only
  rw [if_neg (by rw [h]; cases x.sense.getLsbD p <;> decide)]

/-- Outside its condition a row of the Trellis leaves the state as it is. -/
theorem does_kept {i : Instr} {c : Prop} [Decidable c] {f : State}
    (hu : exec i s = Host.Outcome.next (settle (if c then f else s))) (h : ¬ c) : Does i s s :=
  hu.trans (congrArg (fun x => Host.Outcome.next (settle x)) (if_neg h))

end

/-- Settles O49: the pins from the tick phase alone, the scan by what its line checks leave as it is. -/
theorem trellisScan : Obligations.TrellisScan := by
  unfold Obligations.TrellisScan
  intro s
  have ht : s.tcMod 2000 = s.clk.tc.toNat % 2000 := rfl
  refine ⟨trlPhase_fatal, fun h => ⟨?_, fun hd => ⟨?_, fun i hi => ?_⟩, fun hd => ⟨?_, ?_, fun i h0 h12 => ?_⟩⟩, fun h i => ?_,
    fun h => ⟨?_, fun i => ?_⟩, fun h i => ?_, fun r c h h1 h2 => ⟨?_, fun q hq => ?_, ?_⟩, fun r c h h1 h2 => ⟨?_, ?_⟩,
    fun h => ?_, fun h3 h4 => ?_, fun se g low h => ?_, fun se g low h => ?_, fun p h hr hl => ⟨fun hd => ?_, fun hd => ?_⟩,
    fun p h => ?_, fun i h hc hs hg => ?_, fun i h => ?_, fun i h hg => ?_, fun i h => ?_⟩
  · simp [trlLit, h]
  · simp [trlDrive, h, hd]
  · simp [trlDrive, h, hd, show i.val ≠ 0 from Fin.val_ne_of_ne hi, -Fin.val_eq_zero_iff]
  · simp [trlDrive, h, hd]
  · simp [trlDrive, h, hd]
  · simp [trlDrive, h, hd, show i.val ≠ 0 from Fin.val_ne_of_ne h0, show i.val ≠ 12 from Fin.val_ne_of_ne h12, -Fin.val_eq_zero_iff]
  · simp [trlDrive, h]
  · simp [trlLit, h]
  · simp [trlDrive, h]
  · simp [trlDrive, h]
  · simpa [trlDrive, h, ht] using rowDrive_high r.isLt h1 h2
  · simpa [trlDrive, h, ht] using rowDrive_other h1 (by omega) (Fin.val_ne_of_ne hq)
  · simpa [trlDrive, h, ht, show ¬ 12 + c.val < 12 by omega] using colDrive_lamp s.trl.lit r.isLt h1 h2
  · simpa [trlDrive, h, ht] using rowDrive_low r.isLt h1 h2
  · simpa [trlDrive, h, ht, show ¬ 12 + c.val < 12 by omega] using colDrive_sense s.trl.lit h1 h2
  · obtain ⟨n, hn, e⟩ := scanStart_effect h
    rw [e, trlCfgIn_eq]
    exact ⟨rfl, rfl, scanLamps_fault hn _, rfl, rfl, rfl⟩
  · rw [scanStart, if_neg h3, if_neg h4]
  · exact ⟨trlScan se g low s, rfl, trlScan_effect se g low h⟩
  · exact does_kept (i := .trlScan se g low) rfl h
  · have hu : Does (.senseChange p) s _ := rfl
    rw [if_pos (by simp [h, hr, senseDue_eq hl, hd])] at hu
    exact ⟨_, hu, bitPut_getLsbD_self _ p.isLt _, fun q hq => bitPut_getLsbD_ne _ (fun h' => hq (Fin.ext h'.symm)) _, rfl⟩
  · exact does_kept (i := .senseChange p) rfl (by simp [senseDue_eq hl]; omega)
  · exact does_kept (i := .senseChange p) rfl (by rcases h with h | h <;> simp [h])
  · have hu : Does (.columnStuck i) s _ := rfl
    rw [if_pos (by rw [hc, hs]; simp [h, hg])] at hu
    obtain ⟨hst, he, hra, hv⟩ := columnStuck_effect i s
    exact ⟨_, hu, hst, he, hra, hv, (linesOnly_columnStuck i.val s).sense⟩
  · exact does_kept (i := .columnStuck i) rfl (by rcases h with h | h | h <;> simp [h, -BitVec.getLsbD_eq_getElem])
  · have hu : Does (.rowShort i) s _ := rfl
    rw [if_pos (by simp [h, hg])] at hu
    exact ⟨_, hu, rowShort_effect i s⟩
  · exact does_kept (i := .rowShort i) rfl (by rcases h with h | h <;> simp [h])

end Sys2Proof.Claims
end

section
/-!
PROOF. The two-wire ports: the PMBus target (R335 to R337) and the controller (R329 to R331, R334).
-/
namespace Sys2Proof.Claims
open Sys2Proof Sys2Proof.Machine

section
variable {s : State} {p : Fin 4} {a code : Nat}

/-! The target. -/

/-- A port that serves in RUN at one matched address serves the transaction at it. -/
theorem twServe_eq (hc : s.clk.chip = .run) (hs : twServes s p.val = true) (ha : twAddrs (s.tw p.val).cfg (s.tw p.val).addr = [a])
    (f : Nat → State → State) : twServe p.val f s = f a s := by
  rw [twServe, if_neg (by rw [hc]; decide), if_pos hs, ha]

/-- A read of the page's channel. -/
theorem twPaged_eq (hc : s.clk.chip = .run) (hs : twServes s p.val = true) (ha : twAddrs (s.tw p.val).cfg (s.tw p.val).addr = [a])
    (hn : (s.tw p.val).page.toNat < 192) (f : State → Nat → List Byte × State) :
    twPaged p.val code f s =
      twReply p.val a code (f s (s.tw p.val).page.toNat).1 (f s (s.tw p.val).page.toNat).2 := by
  rw [twPaged, twServe_eq hc hs ha]
  dsimp only
  rw [if_pos hn]

theorem twNak_tw (s : State) (p : Fin 4) : (twNak p.val s).tw p.val = { s.tw p.val with acked := false, out := [] } :=
  tw_modTw_self p.isLt _ s

theorem twReject_tw (s : State) (p : Fin 4) :
    (twReject p.val s).tw p.val = twCml { s.tw p.val with acked := false, out := [] } := by
  rw [twReject, tw_modTw_self p.isLt, twNak_tw]

theorem twEvt_tw (b : Nat) (s : State) (p : Fin 4) :
    (twEvt p.val b s).tw p.val = { s.tw p.val with evt := bitPut (s.tw p.val).evt b true } := tw_modTw_self p.isLt _ s

/-- The bytes of a number: those of its format, where the format holds it; nothing but the free choice changes. -/
theorem twNumber_eq (v : Option (BitVec 16)) (s : State) :
    ∃ w n, twNumber v s = (word2 w, { s with fresh := n }) ∧ ∀ x, v = some x → w = x := by
  cases v with
  | none => exact ⟨_, _, rfl, fun x h => nomatch h⟩
  | some w => exact ⟨w, s.fresh, rfl, fun x h => Option.some.inj h⟩

/-- CML on a page that exists. -/
theorem twCml_page {t : Twp} (h : t.page.toNat < 192) : twCml t = twLatchPage t.page.toNat 0x02 0 t := by rw [twCml, if_pos h]

/-- CML changes the latches and ALERT alone. -/
theorem twCml_kept (t : Twp) : (twCml t).page = t.page ∧ (twCml t).acked = t.acked ∧ (twCml t).out = t.out := by
  unfold twCml
  split
  · exact ⟨rfl, rfl, rfl⟩
  · exact ⟨rfl, rfl, rfl⟩

/-- A write whose PEC is good or not required takes effect on the acknowledging port. -/
theorem twWrite_good {data : List Byte} {pec : Option Byte} {f : State → State} (h : (s.tw p.val).cfg.bit 15 = false) :
    twWrite p.val a code data pec f s = f (s.modTw p.val fun t => { t with acked := true, acks := t.acks + 1, out := [] }) := by
  unfold twWrite
  rw [if_neg (by rw [h]; simp)]

/-- A write whose required PEC is missing or wrong sets CML and PEC_ERR (R337). -/
theorem twWrite_bad {data : List Byte} {pec : Option Byte} {f : State → State} (h : (s.tw p.val).cfg.bit 15 = true)
    (hp : pec ≠ some (crc8From 0 ([BitVec.ofNat 8 (2 * a), BitVec.ofNat 8 code] ++ data))) :
    twWrite p.val a code data pec f s =
      twEvt p.val 5 ((s.modTw p.val fun t => { t with acked := true, acks := t.acks + 1, out := [] }).modTw p.val twCml) := by
  unfold twWrite
  rw [if_pos (by rw [h]; simpa using hp)]

/-- CLEAR_FAULTS of one page clears its latches alone (R337). -/
theorem clearLatches_page {t : Twp} {n : Nat} (hn : t.page.toNat = n) (hlt : n < 192) :
    clearLatches t = twAlert { t with status := vput t.status n 0, temp := vput t.temp n 0 } := by
  rw [clearLatches, if_neg (fun h => by rw [h] at hn; exact absurd (hn ▸ hlt) (by decide)), hn]

/-- CLEAR_FAULTS at PAGE 0xFF clears every latch (R337). -/
theorem clearLatches_all {t : Twp} (h : t.page = 0xFF) :
    clearLatches t = twAlert { t with status := Vector.replicate 192 0, temp := Vector.replicate 192 0 } := by
  rw [clearLatches, if_pos h]

theorem twAlert_status (t : Twp) : (twAlert t).status = t.status := rfl
theorem twAlert_temp (t : Twp) : (twAlert t).temp = t.temp := rfl

/-! The controller. -/

theorem kEndTag_none {s : State} {tag : BitVec 16} (h : kByTag s tag = none) (st : Nat) (r0 r1 r2 : W) :
    kEndTag (some tag) st r0 r1 r2 s = s := by
  rw [kEndTag, Option.bind_some, h]

theorem twStart_none (h : (s.tw p.val).xfer = none) : twStart p.val s = s := by rw [twStart, h]

/-- An attempt that may start is on the bus (R329). -/
theorem twStart_some {x : TwXfer} (h : (s.tw p.val).xfer = some x) (ha : twActs s p.val = true) :
    (twStart p.val s).tw p.val = { s.tw p.val with st := 1, xfer := some { x with attempts := x.attempts + 1 } } := by
  unfold twStart
  rw [h]
  dsimp only
  rw [if_pos ha]
  obtain ⟨q, e⟩ := kFix_eq (some x.tag) (s.modTw p.val fun t => { t with st := 1, xfer := some { x with attempts := x.attempts + 1 } })
  rw [e]
  exact tw_modTw_self p.isLt _ s

/-- The port at bus idle: a waiting configuration is in force. -/
def twRest (t : Twp) : Twp := twAlert { twApply t with st := 0, sclIn := true, sdaIn := true }

theorem twIdle_none (h : (s.tw p.val).xfer = none) : twIdle p.val s = s.modTw p.val twRest := by
  rw [twIdle]
  exact twStart_none (by rw [tw_modTw_self p.isLt]; exact h)

/-- The end of the last transfer leaves the port without one; at bus idle its waiting configuration comes into force. -/
theorem twFinish_last {x : TwXfer} (hx : (s.tw p.val).xfer = some x) (hq : (s.tw p.val).queue = [])
    (hk : kByTag s x.tag = none) (res r1 : Nat) (st : BitVec 4) :
    (twFinish p.val res r1 st s).tw p.val = (if st = 0 then twRest { s.tw p.val with st := st, xfer := none, queue := [] }
      else { s.tw p.val with st := st, xfer := none, queue := [] }) ∧
    (twFinish p.val res r1 st s).host = s.host ∧ (twFinish p.val res r1 st s).fcr = s.fcr := by
  have e : (s.modTw p.val fun t : Twp => { t with st := st, xfer := t.queue.head?, queue := t.queue.tail }).tw p.val =
      { s.tw p.val with st := st, xfer := none, queue := [] } := by rw [tw_modTw_self p.isLt, hq]; rfl
  unfold twFinish
  rw [hx]
  dsimp only
  rw [kEndTag_none (by exact hk)]
  split
  · rw [twIdle_none (by rw [e]), tw_modTw_self p.isLt, e]
    exact ⟨rfl, rfl, rfl⟩
  · exact ⟨e, rfl, rfl⟩

/-- The next transfer's attempt starts as the one before ends (R329). -/
theorem twFinish_next {x y : TwXfer} (hx : (s.tw p.val).xfer = some x) (hq : (s.tw p.val).queue = [y])
    (hk : kByTag s x.tag = none) (hc : (s.tw p.val).cfgNext = none) (ha : twActs s p.val = true) (res r1 : Nat) :
    ∃ t : Twp, (twFinish p.val res r1 0 s).tw p.val = { t with st := 1, xfer := some { y with attempts := y.attempts + 1 } } ∧ t.queue = [] := by
  unfold twFinish
  rw [hx]
  dsimp only
  rw [kEndTag_none (by exact hk), if_pos rfl, twIdle]
  have e : ((s.modTw p.val fun t => { t with st := (0 : BitVec 4), xfer := t.queue.head?, queue := t.queue.tail }).modTw p.val
      fun t => twAlert { twApply t with st := 0, sclIn := true, sdaIn := true }).tw p.val =
      twRest { s.tw p.val with st := 0, xfer := some y, queue := [] } := by
    rw [tw_modTw_self p.isLt, tw_modTw_self p.isLt, hq]
    rfl
  refine ⟨_, twStart_some (by rw [e]; rfl) ?_, by rw [e]; rfl⟩
  rw [twActs, e]
  refine Eq.trans (congrArg (_ && twController ·) ?_) ha
  show (s.tw p.val).cfgNext.getD _ = _
  rw [hc]
  rfl

theorem twRunning_some {x : TwXfer} (h : (s.tw p.val).st = 1) (hx : (s.tw p.val).xfer = some x) : twRunning s p.val = some x := by
  rw [twRunning, hx, h]
  rfl

theorem twRunning_none (h : (s.tw p.val).st ≠ 1 ∨ (s.tw p.val).xfer = none) : twRunning s p.val = none := by
  rw [twRunning]
  rcases h with h | h
  · rw [Option.filter_eq_none_iff]
    exact fun _ _ h' => h (by simpa using h')
  · rw [h]
    rfl

theorem twStore_none {x : TwXfer} (h : kByTag s x.tag = none) (rd : List Byte) : twStore x rd s = s := by rw [twStore, h]

/-- However the last transfer ends, the port holds none and is idle. -/
theorem twEnd_last {x : TwXfer} (h : (s.tw p.val).st = 1) (hx : (s.tw p.val).xfer = some x) (hq : (s.tw p.val).queue = [])
    (hk : kByTag s x.tag = none) (res : TwRes) :
    ((twEnd p.val res s).tw p.val).xfer = none ∧ ((twEnd p.val res s).tw p.val).st = 0 ∧ (twEnd p.val res s).host = s.host := by
  have key : ∀ (v : State) (r r1 : Nat), (v.tw p.val).xfer = some x → (v.tw p.val).queue = [] → v.kio = s.kio → v.host = s.host →
      ((twFinish p.val r r1 0 v).tw p.val).xfer = none ∧ ((twFinish p.val r r1 0 v).tw p.val).st = 0 ∧
      (twFinish p.val r r1 0 v).host = s.host := fun v r r1 hx hq hv hh => by
    obtain ⟨e, eh, _⟩ := twFinish_last hx hq (by rw [kByTag, hv]; exact hk) r r1 0
    rw [e, eh, if_pos rfl]
    exact ⟨rfl, rfl, hh⟩
  have drove : ∀ bs : List Byte, (s.modTw p.val fun t => { t with out := bs }).tw p.val = { s.tw p.val with out := bs } :=
    fun bs => tw_modTw_self p.isLt _ s
  unfold twEnd
  rw [twRunning_some h hx]
  cases res with
  | done rd =>
    dsimp only
    rw [twStore_none (by exact hk)]
    exact key _ _ _ (by rw [drove]; exact hx) (by rw [drove]; exact hq) rfl rfl
  | nackAddr => exact key _ _ _ (by rw [drove]; exact hx) (by rw [drove]; exact hq) rfl rfl
  | nackData i => exact key _ _ _ (by rw [drove]; exact hx) (by rw [drove]; exact hq) rfl rfl
  | pecErr rd =>
    dsimp only
    rw [twStore_none (by exact hk)]
    exact key _ _ _ (by rw [twEvt_tw, drove]; exact hx) (by rw [twEvt_tw, drove]; exact hq) rfl rfl

/-- The port after a lost arbitration to no winner that addresses it (R330). -/
def twLoser (t : Twp) : Twp := { t with losses := t.losses + 1, st := 3, evt := bitPut t.evt 1 true }

theorem twLost_tw (s : State) (p : Fin 4) :
    (twEvt p.val 1 (s.modTw p.val fun t => { t with losses := t.losses + 1, st := 3 })).tw p.val = twLoser (s.tw p.val) := by
  rw [twEvt_tw, tw_modTw_self p.isLt]
  rfl

/-- A transfer that loses arbitration waits for its next attempt, and is over with its fourth loss (R330). -/
theorem arbLost_xfer {x : TwXfer} (h : (s.tw p.val).st = 1) (hx : (s.tw p.val).xfer = some x) :
    ∃ v, v.tw p.val = { twLoser (s.tw p.val) with xfer := some { x with losses := x.losses + 1 } } ∧ v.kio = s.kio ∧
      arbLost p.val none s = if x.losses + 1 ≥ 4 then twFinish p.val 3 0 3 v else v := by
  unfold arbLost
  rw [twRunning_some h hx]
  refine ⟨_, ?_, ?_, rfl⟩
  · rw [tw_modTw_self p.isLt, twLost_tw]
  · rfl

/-- A Host Notify that loses arbitration is sent again at most three times (R334). -/
theorem arbLost_notify {w : W} {n k : Nat} (hx : (s.tw p.val).xfer = none) (hn : (s.tw p.val).notify = some (w, n, k))
    (ha : twActs s p.val = true) :
    (arbLost p.val none s).tw p.val = if k + 1 ≥ 4 then
      { twLoser (s.tw p.val) with notify := none, evt := bitPut (twLoser (s.tw p.val)).evt 6 true }
      else { twLoser (s.tw p.val) with notify := some (w, n, k + 1) } := by
  unfold arbLost
  rw [twRunning_none (.inr hx), hn]
  dsimp only
  rw [if_neg (by rw [twNotifies, ha, hn]; simp)]
  split
  · rw [twEvt_tw, tw_modTw_self p.isLt, twLost_tw]
  · rw [tw_modTw_self p.isLt, twLost_tw]

/-- The port when a Host Notify of event word `w` has been sent (R334). -/
def twNotified (s : State) (w : W) (t : Twp) : Twp :=
  { t with notifyTick := some s.now
           out := [0x10, BitVec.ofNat 8 (2 * twLowest t), w.extractLsb' 0 8, w.extractLsb' 8 8] }

/-- A Host Notify is sent again at most three times (R334). -/
theorem hostNotify_tw {w : W} {n k : Nat} (hn : (s.tw p.val).notify = some (w, n, k)) (ha : twActs s p.val = true)
    (hz : (s.tw p.val).notifyTick = none) (b : Bool) :
    (hostNotify p.val b s).tw p.val = if b then { twNotified s w (s.tw p.val) with notify := none }
      else if n < 3 then { twNotified s w (s.tw p.val) with notify := some (w, n + 1, k) }
      else { twNotified s w (s.tw p.val) with notify := none, evt := bitPut (s.tw p.val).evt 6 true } := by
  unfold hostNotify
  rw [if_pos (by rw [twNotifies, ha, hn, hz]; rfl), hn]
  dsimp only
  split
  · rw [tw_modTw_self p.isLt, tw_modTw_self p.isLt]
    rfl
  · split
    · rw [tw_modTw_self p.isLt, tw_modTw_self p.isLt]
      rfl
    · rw [twEvt_tw, tw_modTw_self p.isLt, tw_modTw_self p.isLt]
      rfl

end

/-- Settles O50: every transaction is served at the one matched address. -/
theorem twoWireTarget : Obligations.TwoWireTarget := by
  unfold Obligations.TwoWireTarget
  intro s p a hc hs ha t pecR ans
  have fixed : ∀ {i code bs}, exec i s = Host.Outcome.next (settle (twFixed p.val code bs s)) → ans i code bs :=
    fun {i code bs} h => ⟨twReply p.val a code bs s, h.trans (by rw [twFixed, twServe_eq hc hs ha]), tw_modTw_self p.isLt _ s, rfl, rfl⟩
  refine ⟨fixed rfl, fixed rfl, fixed rfl, fixed rfl, fixed rfl, fixed rfl, fun pec => ?_, fun v pec hv hq => ?_,
    fun v pec hq hv hp => ?_, fun v pec hv hf => ?_, fun pec hq hn => ?_, fun pec hq hf => ?_, fun code => ?_, fun hn => ?_,
    fun h => ?_, fun h => ?_, fun b h => ?_, fun h => ?_⟩
  · have hu : Does (.page p none pec) s (twServe p.val _ s) := rfl
    rw [twServe_eq hc hs ha] at hu
    exact ⟨_, hu, tw_modTw_self p.isLt _ s, rfl, rfl⟩
  · have hu : Does (.page p (some v) pec) s (twServe p.val _ s) := rfl
    rw [twServe_eq hc hs ha] at hu
    dsimp only at hu
    rw [if_pos (by simpa using hv), twWrite_good hq] at hu
    exact ⟨_, hu, by rw [tw_modTw_self p.isLt, tw_modTw_self p.isLt]⟩
  · have hu : Does (.page p (some v) pec) s (twServe p.val _ s) := rfl
    rw [twServe_eq hc hs ha] at hu
    dsimp only at hu
    rw [if_pos (by simpa using hv), twWrite_bad hq hp] at hu
    refine ⟨_, hu, ?_, ?_⟩
    · rw [twEvt_tw, tw_modTw_self p.isLt, tw_modTw_self p.isLt]
      exact (twCml_kept _).1
    · rw [twEvt_tw]
      exact bitPut_getLsbD_self _ (by decide) _
  · have hu : Does (.page p (some v) pec) s (twServe p.val _ s) := rfl
    rw [twServe_eq hc hs ha] at hu
    dsimp only at hu
    rw [if_neg (by simp; exact ⟨hv, hf⟩)] at hu
    exact ⟨_, hu, by rw [twReject_tw]; exact (twCml_kept _).1, by rw [twReject_tw]; exact (twCml_kept _).2.1⟩
  · have hu : Does (.clearFaults p pec) s (twServe p.val _ s) := rfl
    rw [twServe_eq hc hs ha, twWrite_good hq] at hu
    have e : ((s.modTw p.val fun t => { t with acked := true, acks := t.acks + 1, out := [] }).modTw p.val clearLatches).tw p.val = _ :=
      (tw_modTw_self p.isLt _ _).trans (clearLatches_page (n := t.page.toNat) (by rw [tw_modTw_self p.isLt]) hn)
    refine ⟨_, hu, ?_, ?_, fun n hne => ?_⟩
    · rw [e, twAlert_status, vat_vput_self _ hn]
    · rw [e, twAlert_temp, vat_vput_self _ hn]
    · rw [e, twAlert_status, vat_vput_ne _ (fun h => hne h.symm), tw_modTw_self p.isLt]
  · have hu : Does (.clearFaults p pec) s (twServe p.val _ s) := rfl
    rw [twServe_eq hc hs ha, twWrite_good hq] at hu
    have e : ((s.modTw p.val fun t => { t with acked := true, acks := t.acks + 1, out := [] }).modTw p.val clearLatches).tw p.val = _ :=
      (tw_modTw_self p.isLt _ _).trans (clearLatches_all (by rw [tw_modTw_self p.isLt]; exact hf))
    refine ⟨_, hu, fun n => ?_, ?_⟩
    · rw [e, twAlert_status]
      simp [vat]
    · rw [e]
      simp [twAlert]
  · have hu : Does (.pmbusUnsupported p code) s (twServe p.val _ s) := rfl
    rw [twServe_eq hc hs ha] at hu
    refine ⟨_, hu, by rw [twReject_tw]; exact (twCml_kept _).2.1, by rw [twReject_tw]; exact (twCml_kept _).2.2, fun hn => ?_⟩
    rw [twReject_tw, twCml_page (t := { s.tw p.val with acked := false, out := [] }) hn]
    refine (congrArg (BitVec.getLsbD · 1) (vat_vput_self _ hn _ _)).trans ?_
    simp
  · intro n b num
    have paged : ∀ {i code} {bs : State → Nat → List Byte}, exec i s = Host.Outcome.next (settle (twPaged p.val code (fun s n => (bs s n, s)) s)) →
        ans i code (bs s n) := fun {i code bs} h =>
      ⟨twReply p.val a code (bs s n) s, h.trans (by rw [twPaged_eq hc hs ha hn]), tw_modTw_self p.isLt _ s, rfl, rfl⟩
    have number : ∀ {i code} {v : State → Nat → Option (BitVec 16)},
        exec i s = Host.Outcome.next (settle (twPaged p.val code (fun s n => twNumber (v s n) s) s)) → num i code (v s n) :=
      fun {i code v} h => by
        obtain ⟨w, k, e, hw⟩ := twNumber_eq (v s n) s
        refine ⟨twReply p.val a code (word2 w) { s with fresh := k }, w, h.trans ?_, hw, ?_, ?_, rfl⟩
        · rw [twPaged_eq hc hs ha hn, e]
        · rw [twReply, tw_modTw_self p.isLt]
        · rw [twReply, tw_modTw_self p.isLt]
          rfl
    have temp := paged (i := .statusTemperature p) (code := 0x7D) (bs := fun s n => [(vat (s.tw p.val).temp n 0) ++ (0 : BitVec 6)]) rfl
    have iout := paged (i := .statusIout p) (code := 0x7B) (bs := fun s n => [latchByte s p.val n 4]) rfl
    have vout := paged (i := .statusVout p) (code := 0x7A) (bs := fun s n => [latchByte s p.val n 5]) rfl
    have byte := paged (i := .statusByte p) (code := 0x78) (bs := fun s n => [statusByte s p.val n]) rfl
    have word := paged (i := .statusWord p) (code := 0x79) (bs := fun s n => word2 (statusWord s p.val n)) rfl
    exact ⟨byte, word, vout, iout, temp,
      number (v := fun s n => linear11 (measured s n 2 (s.ch n).mC)) rfl, number (v := fun s n => linear16 (measured s n 0 (s.ch n).mA)) rfl,
      number (v := fun s n => linear11 (measured s n 1 (s.ch n).mB)) rfl, number (v := fun s n => linear11 (nodeOf s n 0)) rfl,
      number (v := fun s n => linear11 (nodeOf s n 2)) rfl⟩
  · have hu : Does (.alertResponse p) s _ := rfl
    rw [if_pos (by rw [hs, h]; rfl)] at hu
    refine ⟨_, hu, ?_, ?_, ?_⟩
    · rw [tw_modTw_self p.isLt]
      show [BitVec.ofNat 8 (2 * twLowest (s.tw p.val))] = _
      rw [twLowest, ha]
      rfl
    · rw [tw_modTw_self p.isLt]
      simp [twAlert]
    · rw [tw_modTw_self p.isLt]
      rfl
  · have hu : Does (.alertResponse p) s _ := rfl
    rw [if_neg (by rw [show (s.tw p.val).alertOut = false from h]; simp)] at hu
    exact ⟨_, hu, twNak_tw s p⟩
  · have hu : Does (.twTargetTimeout p b) s _ := rfl
    have hb : (b || (s.tw p.val).cfg.bit 14) = true := by rw [Bool.or_eq_true]; exact h
    rw [if_pos (by rw [hs, hb]; rfl)] at hu
    refine ⟨_, hu, ?_, ?_, ?_⟩
    · rw [twEvt_tw, tw_modTw_self p.isLt]
    · rw [twEvt_tw, tw_modTw_self p.isLt]
    · rw [twEvt_tw]
      exact bitPut_getLsbD_self _ (by decide) _
  · exact does_kept (i := .twTargetTimeout p false) rfl (by rw [show (s.tw p.val).cfg.bit 14 = false from h]; simp)

/-- What the record of an occurrence does to a port: its Host Notify may wait, and no flag of it is cleared (R334). -/
def Notified (t u : Twp) : Prop := ∃ n e, u = { t with notify := n, evt := e } ∧ ∀ i, t.evt.getLsbD i = true → e.getLsbD i = true

theorem Notified.refl (t : Twp) : Notified t t := ⟨t.notify, t.evt, rfl, fun _ h => h⟩

theorem notified_notifyTw (s : State) (src : Nat) (cls : EvClass) (t : Twp) : Notified t (notifyTw s src cls t) := by
  unfold notifyTw
  split
  · split
    · exact ⟨_, t.evt, rfl, fun _ h => h⟩
    · refine ⟨t.notify, _, rfl, fun i h => ?_⟩
      by_cases hi : 6 = i
      · rw [← hi]
        exact bitPut_getLsbD_self _ (by decide) _
      · rw [bitPut_getLsbD_ne _ hi]
        exact h
  · exact .refl t

theorem msixSend_twp (v : Nat) (s : State) : (msixSend v s).twp = s.twp := by
  obtain ⟨k, e⟩ := msixSend_eq v s
  rw [e]

theorem notified_record (h : HeldRec) (s : State) (p : Fin 4) : Notified (s.tw p.val) ((record h s).tw p.val) := by
  unfold record
  split
  · have e : (recordWrite h s).twp = s.twp.map (notifyTw s h.src h.cls) := by
      unfold recordWrite
      dsimp only
      split
      · rw [msixSend_twp, msixSend_twp]
      · rw [msixSend_twp]
    have e' : (recordWrite h s).tw p.val = notifyTw s h.src h.cls (s.tw p.val) := by rw [State.tw, e, vat_map _ _ p.isLt Twp.init]; rfl
    rw [e']
    exact notified_notifyTw ..
  · exact .refl _

theorem notified_raise (s : State) (src : Nat) (cls : EvClass) (code : Nat) (w : W) (ctx task : Nat) (p : Fin 4) :
    Notified (s.tw p.val) ((s.raise src cls code w ctx task).tw p.val) := by
  unfold State.raise
  split
  · exact .refl _
  · extract_lets c1 c2 c3 s1
    split
    · split
      · exact .refl _
      · exact notified_record _ _ p
    · exact .refl _

theorem notified_raiseC (s : State) (src : Nat) (cls : EvClass) (p : Fin 4) :
    Notified (s.tw p.val) ((s.raiseC src cls).tw p.val) := notified_raise _ _ _ _ _ _ _ p

theorem kByTag_raiseC (s : State) (src : Nat) (cls : EvClass) (tag : BitVec 16) : kByTag (s.raiseC src cls) tag = kByTag s tag := by
  obtain ⟨_, _, _, _, _, e⟩ := raiseC_kio s src cls 0x1FF 0xFFFF
  rw [kByTag, e]
  rfl

/-- The sources of the two-wire ports are raised (Table 18.1). -/
theorem srcKind_twoWire : ∀ p : Fin 4, srcKind (955 + p.val) ≠ 2 := by decide

/-- Settles O51: the ends of transfers through `twFinish`, the losses through `arbLost`. -/
theorem twoWireController : Obligations.TwoWireController := by
  unfold Obligations.TwoWireController
  intro s p t
  have hacts : ∀ {v : State}, v.clk = s.clk → v.prl = s.prl → (v.tw p.val).cfg = t.cfg → twActs v p.val = twActs s p.val :=
    fun {v} hc hp ht => by rw [twActs, clockRuns, hc, hp, ht]; rfl
  refine ⟨fun x h hx hq hk _ => ⟨fun res => ⟨_, rfl, twEnd_last h hx hq hk res⟩, fun hl => ?_, fun hl => ?_⟩, fun res h => ?_,
    fun x y h hx hq hk ha hc => ?_, fun ha => ⟨fun k x hx => ?_, fun x hx hq hk => ?_, fun x hx hq hk h => ?_⟩, fun h n => ?_,
    fun hx hn => ?_, fun hc h hx => ?_, fun h => ?_, fun w n k ha hn hz => ?_,
    fun z b hz h => ?_, fun h b => ?_⟩
  · obtain ⟨v, hv, _, e⟩ := arbLost_xfer h hx
    have hu : Does (.arbLost p none) s (arbLost p.val none s) := rfl
    rw [e, if_neg (by omega)] at hu
    exact ⟨v, hu, by rw [hv], by rw [hv]; rfl, by rw [hv]; rfl, by rw [hv]; exact bitPut_getLsbD_self _ (by decide) _⟩
  · obtain ⟨v, hv, hvk, e⟩ := arbLost_xfer h hx
    have hu : Does (.arbLost p none) s (arbLost p.val none s) := rfl
    rw [e, if_pos (by omega)] at hu
    obtain ⟨eu, -, -⟩ := twFinish_last (s := v) (p := p) (x := { x with losses := x.losses + 1 }) (by rw [hv]) (by rw [hv]; exact hq)
      (by rw [kByTag, hvk]; exact hk) 3 0 3
    rw [if_neg (by decide), hv] at eu
    exact ⟨_, hu, by rw [eu], by rw [eu]; rfl, by rw [eu]⟩
  · have hu : Does (.twTransferEnd p res) s (twEnd p.val res s) := rfl
    rw [twEnd, twRunning_none h] at hu
    exact hu
  · have hu : Does (.twTransferEnd p .nackAddr) s (twEnd p.val .nackAddr s) := rfl
    rw [twEnd, twRunning_some h hx] at hu
    dsimp only at hu
    obtain ⟨v, hv⟩ : ∃ v, v = s.modTw p.val fun t => { t with out := [] } := ⟨_, rfl⟩
    rw [← hv] at hu
    have e : v.tw p.val = { s.tw p.val with out := [] } := by rw [hv, tw_modTw_self p.isLt]
    obtain ⟨t', e, ht⟩ := twFinish_next (s := v) (x := x) (y := y) (by rw [e]; exact hx) (by rw [e]; exact hq) (by rw [hv]; exact hk)
      (by rw [e]; exact hc) ((hacts (by rw [hv]; rfl) (by rw [hv]; rfl) (by rw [e])).trans ha) 1 0
    exact ⟨_, hu, by rw [e], by rw [e]; exact ht, by rw [e]⟩
  · have hu : Does (.twBusClear p (some k)) s (busClear p.val (some k) s) := rfl
    rw [busClear, if_pos ha] at hu
    obtain ⟨v, hv⟩ : ∃ v, v = twEvt p.val 2 (s.modTw p.val fun t => { t with st := 0, sclIn := true, sdaIn := true }) := ⟨_, rfl⟩
    rw [← hv] at hu
    have e : v.tw p.val = { s.tw p.val with st := 0, sclIn := true, sdaIn := true, evt := bitPut (s.tw p.val).evt 2 true } := by
      rw [hv, twEvt_tw, tw_modTw_self p.isLt]
    have eu := twStart_some (s := v) (x := x) (by rw [e]; exact hx)
      ((hacts (by rw [hv]; rfl) (by rw [hv]; rfl) (by rw [e])).trans ha)
    exact ⟨_, hu, by rw [eu], by rw [eu], by rw [eu, e]; exact bitPut_getLsbD_self _ (by decide) _⟩
  · have hu : Does (.twBusClear p none) s (busClear p.val none s) := rfl
    rw [busClear, if_pos ha] at hu
    have e : ((twEvt p.val 4 s).modTw p.val fun t => { t with sclIn := true, sdaIn := false }).tw p.val =
        { s.tw p.val with sclIn := true, sdaIn := false, evt := bitPut (s.tw p.val).evt 4 true } := by
      rw [tw_modTw_self p.isLt, twEvt_tw]
    obtain ⟨n, f, e', hf⟩ := notified_raiseC ((twEvt p.val 4 s).modTw p.val fun t => { t with sclIn := true, sdaIn := false })
      (955 + p.val) .uc p
    have h4 := hf 4 (by rw [e]; exact bitPut_getLsbD_self _ (by decide) _)
    rw [e] at e'
    obtain ⟨eu, -, ef⟩ := twFinish_last (p := p) (x := x) (by rw [e']; exact hx) (by rw [e']; exact hq)
      (by rw [kByTag_raiseC]; exact hk) 5 0 3
    rw [if_neg (by decide), e'] at eu
    have hsrc := srcKind_twoWire p
    obtain ⟨code, hr⟩ := raised_raiseC_uc hsrc ((twEvt p.val 4 s).modTw p.val fun t => { t with sclIn := true, sdaIn := false }) 0x1FF 0xFFFF
    exact ⟨_, code, hu, by rw [eu], by rw [eu], by rw [eu]; exact h4, by rw [raised, ef]; exact hr⟩
  · have hu : Does (.twControllerTimeout p) s _ := rfl
    rw [if_pos (by rw [ha, show (s.tw p.val).xfer = some x from hx]; rfl), if_neg h] at hu
    obtain ⟨eu, -, -⟩ := twFinish_last (s := twEvt p.val 3 s) (p := p) (x := x) (by rw [twEvt_tw]; exact hx) (by rw [twEvt_tw]; exact hq)
      hk 4 0 3
    rw [if_neg (by decide), twEvt_tw] at eu
    exact ⟨_, hu, by rw [eu], by rw [eu], by rw [eu]; exact bitPut_getLsbD_self _ (by decide) _⟩
  · exact does_kept (i := .twBusClear p n) rfl (by rw [h]; decide)
  · exact does_kept (i := .twControllerTimeout p) rfl
      (by rw [show (s.tw p.val).xfer = none from hx, show (s.tw p.val).notify = none from hn]; simp)
  · have hu : Does (.twBusIdle p) s _ := rfl
    rw [if_pos (by rw [hc]; simpa using h), twIdle_none hx] at hu
    have e : (s.modTw p.val twRest).tw p.val = twRest t := tw_modTw_self p.isLt _ s
    exact ⟨_, hu, by rw [e]; rfl, by rw [e]; rfl, by rw [e]; rfl, by rw [e]; rfl⟩
  · exact does_kept (i := .twBusIdle p) rfl (by rw [show (s.tw p.val).st = 1 from h]; simp)
  · intro bytes
    have sent := hostNotify_tw hn ha hz
    have lost := fun hx : t.xfer = none => arbLost_notify hx hn ha
    refine ⟨⟨_, rfl, sent true⟩, fun h => ⟨_, rfl, (sent false).trans (if_pos h)⟩, fun h => ?_, fun hx h => ?_, fun hx h => ?_⟩
    · refine ⟨_, rfl, ?_⟩
      rw [sent false, if_neg (by decide), if_neg (by omega)]
      exact ⟨rfl, bitPut_getLsbD_self _ (by decide) _⟩
    · refine ⟨_, rfl, ?_⟩
      rw [lost hx, if_neg (by omega)]
      exact ⟨rfl, rfl, rfl⟩
    · refine ⟨_, rfl, ?_⟩
      rw [lost hx, if_pos (by omega)]
      exact ⟨rfl, bitPut_getLsbD_self _ (by decide) _⟩
  · exact does_kept (i := .hostNotify p b) rfl (by rw [show (s.tw p.val).notifyTick = some z from hz]; simp; omega)
  · exact does_kept (i := .hostNotify p b) rfl (by rw [twNotifies, show (s.tw p.val).notify = none from h]; simp)

end Sys2Proof.Claims
end

section
/-!
PROOF. The transitions of a channel that fall due and its rows at a tick start (R98 to R102, R480), the fallback table (R116), and the
edges and the lock of a shaft input (R108 to R110).
-/
namespace Sys2Proof.Claims
open Sys2Proof Sys2Proof.Machine

section
variable {s u v : State} {n m : Nat}

/-! A completion of a mirrored command. -/

/-- From `s` to `u` the pair changed, commands completed and occurrences were raised. -/
def PairOnly (s u : State) : Prop := Occurs { s with prl := u.prl } u

theorem PairOnly.refl (s : State) : PairOnly s s := Occurs.refl s

theorem PairOnly.trans (h : PairOnly s u) (h' : PairOnly u v) : PairOnly s v :=
  Occurs.trans (Occurs.withPrl h v.prl) h'

theorem Occurs.pair (h : Occurs s u) : PairOnly s u := by
  have h' := h.withPrl u.prl
  exact h'

theorem PairOnly.chan (h : PairOnly s u) : u.chan = s.chan := (Occurs.chan h :)

theorem PairOnly.foldl {α : Type} {f : State → α → State} (hf : ∀ s a, PairOnly s (f s a)) (l : List α) (s : State) :
    PairOnly s (l.foldl f s) := by
  induction l generalizing s with
  | nil => exact .refl s
  | cons a l ih => exact (hf s a).trans (ih (f s a))

theorem pairOnly_prl (s : State) (p : Prl) : PairOnly s { s with prl := p } := Occurs.refl _

theorem pairOnly_startDispute (s : State) : PairOnly s (startDispute s) := by
  unfold startDispute
  split
  · exact .refl s
  · exact (pairOnly_prl s _).trans (occurs_raiseC ..).pair

theorem pairOnly_kCpl (k : KCmd) (st : Nat) (r0 r1 r2 : W) (s : State) : PairOnly s (kCpl k st r0 r1 r2 s) := (occurs_kCpl ..).pair

theorem pairOnly_kDrop (k : KCmd) (s : State) : PairOnly s (kDrop k s) := (occurs_kio s _).pair

theorem pairOnly_pairJudge (k : KCmd) (own : BitVec 16 × W × W × W) (theirs : BitVec 16 × W) (s : State) :
    PairOnly s (pairJudge k own theirs s) := by
  obtain ⟨st, r0, r1, r2⟩ := own
  obtain ⟨v, hv⟩ : ∃ v, v = kCpl k st.toNat r0 r1 r2 (kDrop k s) := ⟨_, rfl⟩
  have hq : PairOnly s { v with prl := { v.prl with queue := v.prl.queue.filter fun x => some x.mseq != k.mseq } } := by
    rw [hv]
    exact ((pairOnly_kDrop k s).trans (pairOnly_kCpl k _ _ _ _ _)).trans (pairOnly_prl _ _)
  unfold pairJudge
  dsimp only
  rw [← hv]
  split
  · exact hq
  · exact hq.trans (pairOnly_startDispute _)

theorem pairOnly_kEnd (k : KCmd) (st : Nat) (r0 r1 r2 : W) (s : State) : PairOnly s (kEnd k st r0 r1 r2 s) := by
  have hd := pairOnly_kDrop k s
  unfold kEnd
  dsimp only
  split
  · exact hd.trans (pairOnly_kCpl ..)
  · split
    · split
      · exact hd.trans (pairOnly_prl ..)
      · exact hd
    · split
      · split
        · exact pairOnly_pairJudge ..
        · exact pairOnly_prl ..
      · exact (hd.trans (pairOnly_prl (kDrop k s) _)).trans (pairOnly_kCpl ..)

theorem pairOnly_chanCmdsEnd (n : Nat) (s : State) : PairOnly s (chanCmdsEnd n s) := by
  unfold chanCmdsEnd
  refine PairOnly.foldl (fun s k => ?_) _ s
  split
  · split
    · exact pairOnly_kEnd ..
    · exact pairOnly_kEnd ..
  · split
    · exact pairOnly_kEnd ..
    · exact .refl s

theorem chanCmdsEnd_ch (n m : Nat) (s : State) : (chanCmdsEnd n s).ch m = s.ch m :=
  congrArg (vat · m Chan.init) (pairOnly_chanCmdsEnd n s).chan

/-! Entries of channel states. -/

theorem enterArming_self (hn : n < 192) (s : State) :
    (enterArming n s).ch n = armFrom ((chanDecl s n).elim 0 (·.armSamples)) s.now { s.ch n with st := .arming } := by
  obtain ⟨v, x, k, hv, e⟩ := enterArming_eq n s
  rw [e, ← setChan_self hn .arming (armFrom ((chanDecl s n).elim 0 (·.armSamples)) s.now) s, ← hv]
  rfl

theorem enterArming_ne (h : m ≠ n) (s : State) : (enterArming n s).ch m = s.ch m := by
  obtain ⟨v, x, k, hv, e⟩ := enterArming_eq n s
  rw [e, ← setChan_ne h .arming (armFrom ((chanDecl s n).elim 0 (·.armSamples)) s.now) s, ← hv]
  rfl

/-- A channel that enters SAFE with its requests of a restart withdrawn. -/
def safeFrom (c : Chan) : Chan := { c with safeReq := false, restart := false, restartRun := 0 }

theorem enterSafe_eq (h : (s.ch n).live = true) : enterSafe n s = setChan n .safe safeFrom s := by
  rw [enterSafe, if_pos h]
  rfl

/-- The entry to SAFE at the hold limit (R100). -/
theorem enterSafeLimit_effect (hn : n < 192) (h : (s.ch n).live = true) :
    (enterSafeLimit n s).ch n = safeFrom { s.ch n with st := .safe } ∧ (∀ m, m ≠ n → (enterSafeLimit n s).ch m = s.ch m) ∧
    ∃ cl, raised (enterSafeLimit n s) (4 * n + 1) cl 0x0102 := by
  have hsrc : srcKind (4 * n + 1) ≠ 2 := by
    unfold srcKind
    split
    · omega
    · split <;> decide
  have hc : ∀ m, (enterSafeLimit n s).ch m = (setChan n .safe safeFrom s).ch m := fun m => by
    rw [enterSafeLimit, if_pos h, enterSafe_eq h]
    exact congrArg (vat · m Chan.init) (State.raiseP_chan ..)
  refine ⟨(hc n).trans (setChan_self hn ..), fun m hm => (hc m).trans (setChan_ne hm ..), ?_⟩
  rw [enterSafeLimit, if_pos h]
  exact ⟨_, raised_raise hsrc _ .uc _ _ _ _⟩

theorem chanControl_self (hn : n < 192) (h : (s.ch n).st = .arming) : (chanControl n s).ch n = { s.ch n with st := .control } := by
  rw [chanControl, if_pos h]
  exact setChan_self hn .control id s

/-! The tick start. -/

/-- A channel that enters OFF (row 4). -/
def offFrom (c : Chan) : Chan := { c.stilled with
  mA := 0, mB := 0, mC := 0, mD := 0, mstat := 0, restart := false, restartRun := 0, armLeft := 0, staged := [] }

/-- The channel whose requests of rows 1 and 3 have been judged. -/
def dropped (c : Chan) : Chan := { c with safeReq := false, fenceReq := false }

/-- A row of the upper three is taken; commands on the channel end with it. -/
theorem chanTick_upper (hn : n < 192) (h : chanUpper n s = some u) : (chanTick n s).ch n = dropped (u.ch n) := by
  unfold chanTick
  rw [h]
  exact (chanCmdsEnd_ch n n _).trans (ch_modCh_self hn _ u)

theorem armed9_drop (hn : n < 192) (s : State) : armed9 n (s.modCh n dropped) = armed9 n s := by
  unfold armed9
  rw [ch_modCh_self hn]
  rfl

/-- None of the upper three rows applies and the lower ones need not wait for a frame: they are judged now. -/
theorem chanTick_lower (hn : n < 192) (h : chanUpper n s = none) (hd : (s.ch n).due = true ∨ (s.ch n).st = .safe ∨ frameDue s (linkOf n) = false)
    (hr : ((s.ch n).stopReq || (s.ch n).startReq || armed9 n s) = true) :
    (chanTick n s).ch n = (chanLower n (s.modCh n dropped)).ch n := by
  have hc : (s.modCh n dropped).ch n = dropped (s.ch n) := ch_modCh_self hn dropped s
  have hf : frameDue (s.modCh n dropped) (linkOf n) = frameDue s (linkOf n) := rfl
  have e : chanTick n s = if !((dropped (s.ch n)).stopReq || (dropped (s.ch n)).startReq || armed9 n (s.modCh n dropped)) then s.modCh n dropped
      else if !(dropped (s.ch n)).due && (dropped (s.ch n)).st != .safe && frameDue s (linkOf n) then
        (s.modCh n dropped).modCh n fun c => { c with due := true }
      else chanRows n (s.modCh n dropped) := by
    rw [← hc, ← hf]
    unfold chanTick
    rw [h]
    rfl
  rw [e, armed9_drop hn, if_neg (by show ¬ (!((s.ch n).stopReq || (s.ch n).startReq || armed9 n s)) = true; rw [hr]; decide), if_neg ?_]
  · exact chanCmdsEnd_ch ..
  · show ¬ (!(s.ch n).due && (s.ch n).st != .safe && frameDue s (linkOf n)) = true
    rcases hd with hd | hd | hd
    · simp [hd]
    · simp [hd]
    · simp [hd]

/-- The channel whose requests of rows 4 and 7 are judged. -/
def judged (c : Chan) : Chan := { dropped c with due := false, startReq := false, stopReq := false }

theorem chanLower_eq (hn : n < 192) (s : State) : ∃ v, v.ch n = judged (s.ch n) ∧ v.link = s.link ∧ v.adm = s.adm ∧ v.clk = s.clk ∧
    chanLower n (s.modCh n dropped) = (if (s.ch n).stopReq then stopChan n v else if (s.ch n).startReq then startChan n v
      else if armed9 n v then chanControl n v else v) := by
  have hc : (s.modCh n dropped).ch n = dropped (s.ch n) := ch_modCh_self hn dropped s
  refine ⟨(s.modCh n dropped).modCh n fun c => { c with due := false, startReq := false, stopReq := false }, ?_, rfl, rfl, rfl, ?_⟩
  · rw [ch_modCh_self hn, hc]
    rfl
  · unfold chanLower
    rw [hc]
    rfl

/-! The fallback table. -/

theorem mirrorCarry_adm (pl : List Place) (s : State) : (mirrorCarry pl s).adm = s.adm := by
  unfold mirrorCarry
  exact foldl_adm (fun v m => State.modEng_adm ..) _ _

/-- A feasible plan of the oldest move comes into force with no place kept (R116). -/
theorem fallbackNow_adm {tk : Nat} {l : List Nat} {r : List (Nat × List Nat)} {pl : List Place} (hm : s.adm.move = (tk, l) :: r)
    (hp : fallbackPlaces s l = some pl) (ho : assocGet s.adm.moveOld tk = none) :
    (fallbackNow s).adm.place = pl ∧ (fallbackNow s).adm.move = r ∧
    (fallbackNow s).adm.first = BitVec.ofNat 8 (lat (l.filter (· < 48)) 0 0xFF) := by
  have e : (moveTasks pl (mirrorCarry pl s)).adm = { s.adm with place := pl } := by rw [moveTasks_adm, mirrorCarry_adm]
  have e' : (fallbackNow s).adm = { (moveTasks pl (mirrorCarry pl s)).adm with
      moveOld := if r.isEmpty then [] else (moveTasks pl (mirrorCarry pl s)).adm.moveOld
      move := r, first := BitVec.ofNat 8 (lat (l.filter (· < 48)) 0 0xFF), second := BitVec.ofNat 8 (lat (l.filter (· < 48)) 1 0xFF) } := by
    unfold fallbackNow
    rw [hm]
    dsimp only
    rw [hp]
    dsimp only
    rw [ho]
  rw [e', e]
  exact ⟨rfl, rfl, rfl⟩

/-! The shafts. -/

/-- Of four inputs one alone has something. -/
theorem filterMap_single {α : Type} (f : Nat → Option α) (i : Fin 4) (h : ∀ j, j < 4 → j ≠ i.val → f j = none) :
    (List.range 4).filterMap f = (f i.val).toList := by
  show [0, 1, 2, 3].filterMap f = _
  obtain ⟨i, hi⟩ := i
  dsimp only at h ⊢
  obtain rfl | rfl | rfl | rfl : i = 0 ∨ i = 1 ∨ i = 2 ∨ i = 3 := by omega
  · simp only [List.filterMap_cons, List.filterMap_nil, h 1 (by decide) (by decide), h 2 (by decide) (by decide),
      h 3 (by decide) (by decide)]
    cases f 0 <;> rfl
  · simp only [List.filterMap_cons, List.filterMap_nil, h 0 (by decide) (by decide), h 2 (by decide) (by decide),
      h 3 (by decide) (by decide)]
    cases f 1 <;> rfl
  · simp only [List.filterMap_cons, List.filterMap_nil, h 0 (by decide) (by decide), h 1 (by decide) (by decide),
      h 3 (by decide) (by decide)]
    cases f 2 <;> rfl
  · simp only [List.filterMap_cons, List.filterMap_nil, h 0 (by decide) (by decide), h 1 (by decide) (by decide),
      h 2 (by decide) (by decide)]
    cases f 3 <;> rfl

/-- An input's pulse as `shaftSettle` finds it. -/
def pulseDue (ts : TS) (s : State) (i : Nat) : Option (TS × Nat × Bool) :=
  match (vat s.shaft i Shaft.init).pulse with
  | some (t, r) => if (ts - t).toNat ≥ 20 then some (t, i, r) else none
  | none => none

/-- The edges that `shaftSettle` accepts where one input alone has a pulse. -/
theorem shaftSettle_single {i : Fin 4} (h : ∀ j, j < 4 → j ≠ i.val → (vat s.shaft j Shaft.init).pulse = none) (ts : TS) :
    shaftSettle ts s = match pulseDue ts s i.val with
      | some (t, _, r) => shaftAccept i.val t r { s with shaft := vmod s.shaft i.val fun y => { y with pulse := none } }
      | none => s := by
  have e : (List.range 4).filterMap (pulseDue ts s) = (pulseDue ts s i.val).toList :=
    filterMap_single _ i fun j hj hne => by rw [pulseDue, h j hj hne]
  have e' : shaftSettle ts s = (sortBy (fun a b => a.1.toNat ≤ b.1.toNat) ((List.range 4).filterMap (pulseDue ts s))).foldl (fun s x =>
    shaftAccept x.2.1 x.1 x.2.2 { s with shaft := vmod s.shaft x.2.1 fun y => { y with pulse := none } }) s := rfl
  rw [e', e]
  cases hd : pulseDue ts s i.val with
  | none => rfl
  | some x =>
    obtain ⟨t, k, r⟩ := x
    have hk : k = i.val := by
      unfold pulseDue at hd
      split at hd
      · split at hd
        · cases hd
          rfl
        · cases hd
      · cases hd
    rw [hk]
    rfl

/-- An edge in the direction that an even input counts (R108). -/
theorem shaftAccept_even {i : Fin 4} {t : TS} {r : Bool} (hu : (vat s.shaft i.val Shaft.init).used = true)
    (hf : (vat s.shaft i.val Shaft.init).fall ≠ r) (hpar : i.val % 2 = 0) : shaftAccept i.val t r s = shaftCount i.val t s := by
  unfold shaftAccept
  dsimp only
  rw [if_neg (by rw [hpar]; simp), if_pos (by rw [hu]; simpa using hf)]

/-- A counted edge of a locked source without an index, in proportion and in range, moves the count on (R109, R110). -/
theorem shaftCount_locked {i : Fin 4} {t t0 : TS} {x : Shaft} (hx : vat s.shaft i.val Shaft.init = x) (ht : x.tsLast = some t0)
    (hl : x.lock = true) (hi : x.index = false) (hf : intervalFits (t - t0).toNat x.interval = true)
    (hr : intervalRange (t - t0).toNat = true) :
    ∃ h g d q, vat (shaftCount i.val t s).shaft i.val Shaft.init = { x with
        tsLast := some t, interval := (t - t0).toNat, k := if x.edges ≤ x.k + 1 then 0 else x.k + 1, hist := h, good := g
        sinceIdx := d, idxGood := q } ∧ (shaftCount i.val t s).fcr = s.fcr := by
  have hc : edgeCause x (t - t0).toNat = none := by
    rw [edgeCause, hl, hf, hr]
    simp
  unfold shaftCount
  dsimp only
  rw [hx, ht]
  dsimp only
  rw [hc]
  dsimp only
  rw [vat_vmod_self _ i.isLt, hx]
  unfold shaftPush
  simp only [hi, hl, Bool.not_false, Bool.not_true, Bool.true_and, Bool.false_and, Bool.false_or, Bool.or_false, Bool.false_eq_true,
    if_false, decide_eq_true_eq]
  exact ⟨_, _, _, _, rfl, trivial⟩

/-- An edge begins a pulse, or ends one that has not yet lasted (R108). -/
theorem does_shaftEdge {i : Fin 4} {rising : Bool} {ts : TS} (hv : shaftSettle ts s = v) : Does (.shaftEdge i rising ts) s
    (if (vat v.shaft i.val Shaft.init).pulse.isSome then { v with shaft := vmod v.shaft i.val fun x => { x with pulse := none } }
      else { v with shaft := vmod v.shaft i.val fun x => { x with pulse := some (ts, rising) } }) := by
  have h : exec (.shaftEdge i rising ts) s = execShaftEdge i rising ts s := rfl
  refine h.trans ?_
  unfold execShaftEdge
  rw [hv]
  dsimp only
  cases (vat v.shaft i.val Shaft.init).pulse with
  | none => rfl
  | some x => rfl

/-- The loss of a source's lock (R110). -/
theorem shaftTimeout_effect (i : Fin 4) (h : (vat s.shaft i.val Shaft.init).lock = true) :
    (vat (shaftTimeout i.val s).shaft i.val Shaft.init).lock = false ∧ (vat (shaftTimeout i.val s).shaft i.val Shaft.init).lost = true ∧
    ∃ cl, raised (shaftTimeout i.val s) 954 cl 3 := by
  have e : vat (shaftLose i.val s.clk.ts 3 s).shaft i.val Shaft.init = _ :=
    (congrArg (vat · i.val Shaft.init) (State.raise_shaft ..)).trans ((vat_vmod_self _ i.isLt _ _).trans (if_pos h))
  unfold shaftTimeout
  rw [if_pos h]
  dsimp only
  rw [vat_vmod_self _ i.isLt, e]
  exact ⟨rfl, rfl, _, raised_raise (by decide) _ .ce _ _ _ _⟩

/-! The rows of Table 5.4 that fall due. -/

theorem chanUpper_fence (h : (s.ch n).fenceReq = true) (hs : (s.ch n).st ≠ .fenced) : chanUpper n s = some (enterFenced n s) := by
  unfold chanUpper
  dsimp only
  rw [if_pos (by rw [h]; simpa using hs)]

theorem chanUpper_readmit (hf : (s.ch n).fenceReq = false) (h : (s.ch n).readmitReq = true) :
    chanUpper n s = some (readmitChan n (s.modCh n fun c => { c with readmitReq := false })) := by
  unfold chanUpper
  dsimp only
  rw [if_neg (by rw [hf]; simp), if_pos h]

theorem chanUpper_safe (hf : (s.ch n).fenceReq = false) (hr : (s.ch n).readmitReq = false) (h : (s.ch n).safeReq = true)
    (hl : (s.ch n).live = true) : chanUpper n s = some (enterSafe n s) := by
  unfold chanUpper
  dsimp only
  rw [if_neg (by rw [hf]; simp), if_neg (by rw [hr]; simp), if_pos (by rw [h, hl]; rfl)]

theorem chanUpper_none (hf : (s.ch n).fenceReq = false) (hr : (s.ch n).readmitReq = false)
    (h : ((s.ch n).safeReq && (s.ch n).live) = false) (hh : (s.ch n).st = .hold → s.now < (s.ch n).holdTick + holdLimit8 s n) :
    chanUpper n s = none := by
  unfold chanUpper
  dsimp only
  rw [if_neg (by rw [hf]; simp), if_neg (by rw [hr]; simp), if_neg (by rw [h]; simp), if_neg (by simpa using hh)]

theorem canStart_congr (h : u.link = s.link) : canStart u n = canStart s n := by rw [canStart, slotCarried, State.lk, h]; rfl

theorem armed9_congr (hc : u.ch n = judged (s.ch n)) (ha : u.adm = s.adm) (hk : u.clk = s.clk) : armed9 n u = armed9 n s := by
  rw [armed9, ownerOf, State.now, hc, ha, hk]
  rfl

section
variable (hn : n < 192) (hf : (s.ch n).fenceReq = false) (hr : (s.ch n).readmitReq = false)
  (hs : ((s.ch n).safeReq && (s.ch n).live) = false) (hh : (s.ch n).st = .hold → s.now < (s.ch n).holdTick + holdLimit8 s n)
  (hd : (s.ch n).due = true ∨ (s.ch n).st = .safe ∨ frameDue s (linkOf n) = false)
include hn hf hr hs hh hd

/-- Row 4 at a tick start. -/
theorem chanTick_stop (h : (s.ch n).stopReq = true) (hst : (s.ch n).stoppable = true) :
    (chanTick n s).ch n = offFrom { judged (s.ch n) with st := .off } := by
  obtain ⟨v, hv, -, -, -, e⟩ := chanLower_eq hn s
  rw [chanTick_lower hn (chanUpper_none hf hr hs hh) hd (by rw [h]; rfl), e, if_pos h, stopChan, if_pos (by rw [hv]; exact hst), State.ch,
    enterOff_chan, ← hv]
  exact setChan_self hn .off offFrom v

/-- Row 7 at a tick start. -/
theorem chanTick_start (hst : (s.ch n).stopReq = false) (h : (s.ch n).startReq = true) :
    (chanTick n s).ch n = if (s.ch n).st = .off && canStart s n && (chanDecl s n).isSome then
      armFrom ((chanDecl s n).elim 0 (·.armSamples)) s.now { judged (s.ch n) with st := .arming } else judged (s.ch n) := by
  obtain ⟨v, hv, hl, ha, hk, e⟩ := chanLower_eq hn s
  have hdecl : chanDecl v n = chanDecl s n := by rw [chanDecl, ha]; rfl
  have hnow : v.now = s.now := by rw [State.now, hk]; rfl
  have hst' : (v.ch n).st = (s.ch n).st := by rw [hv]; rfl
  rw [chanTick_lower hn (chanUpper_none hf hr hs hh) hd (by rw [h]; simp), e, if_neg (by rw [hst]; decide), if_pos h, startChan,
    canStart_congr hl, hdecl, hst']
  split
  · rw [enterArming_self hn, hdecl, hnow, hv]
  · exact hv

/-- Row 9 at a tick start. -/
theorem chanTick_control (hst : (s.ch n).stopReq = false) (hsr : (s.ch n).startReq = false) (h : armed9 n s = true) :
    ((chanTick n s).ch n).st = .control := by
  obtain ⟨v, hv, hl, ha, hk, e⟩ := chanLower_eq hn s
  have harm : (v.ch n).st = .arming := by
    rw [hv]
    simp only [armed9, Bool.and_eq_true, beq_iff_eq] at h
    exact h.1.1
  rw [chanTick_lower hn (chanUpper_none hf hr hs hh) hd (by rw [h]; simp), e, if_neg (by rw [hst]; decide), if_neg (by rw [hsr]; decide),
    if_pos ((armed9_congr hv ha hk).trans h), chanControl_self hn harm]

end

end

/-- Settles O29: the transitions through the one operation that sets a channel's state; of the shafts one edge alone. -/
theorem channelTimersAndShafts : Obligations.ChannelTimersAndShafts := by
  unfold Obligations.ChannelTimersAndShafts
  refine ⟨fun s n => ⟨fun h hd => ?_, fun h hd hz => ?_, fun h hr hd => ?_, fun h => ?_, fun h => ?_, fun h => ?_,
    fun tk l r pl hm hp ho => ?_, fun h => ?_⟩, fun s n => ?_, fun s i hj => ?_, fun s i => ?_⟩
  · have hu : Does (.holdLimitExpiry n) s _ := rfl
    rw [if_pos (by rw [h]; simpa using hd)] at hu
    obtain ⟨e, ho, hra⟩ := enterSafeLimit_effect n.isLt (by rw [Chan.live, h]; rfl)
    exact ⟨_, hu, by rw [e]; rfl, by rw [e]; rfl, hra, fun m hm => congrArg Chan.st (ho m hm)⟩
  · have hu : Does (.armingComplete n) s _ := rfl
    have ha : armed9 n.val s = true := by
      rw [armed9, h]
      simpa [hz] using hd
    rw [if_pos ha] at hu
    refine ⟨_, hu, congrArg Chan.st (chanControl_self n.isLt h), fun m hm => ?_⟩
    rw [chanControl, if_pos h]
    exact congrArg Chan.st (setChan_ne hm ..)
  · have hu : Does (.restartCountDone n) s _ := rfl
    rw [if_pos (by rw [h, hr]; simpa using hd)] at hu
    have e := enterArming_self n.isLt s
    refine ⟨_, hu, by rw [e]; rfl, by rw [e]; rfl, fun d hd => ?_, fun m hm => congrArg Chan.st (enterArming_ne hm s)⟩
    rw [e, hd]
    rfl
  · exact does_kept (i := .restartCountDone n) rfl (by simp; intros; omega)
  · exact does_kept (i := .armingComplete n) rfl (by rcases h with h | h <;> simp [armed9, h])
  · exact does_kept (i := .holdLimitExpiry n) rfl (by rcases h with h | h <;> simp [h])
  · exact ⟨fallbackNow s, rfl, fallbackNow_adm hm hp ho⟩
  · have hu : Does .fallbackTableInForce s (fallbackNow s) := rfl
    rw [fallbackNow, h] at hu
    exact hu
  · have hn := n.isLt
    intro c d
    refine ⟨fun h hs => ?_, fun hf h hs => ?_, fun hf hr h hl => ?_, fun hf hr hs hh hd => ⟨fun h hst => ?_, fun hst h ho hc hdc => ?_,
      fun hst h hc => ?_, fun hst hsr h => chanTick_control hn hf hr hs hh hd hst hsr h⟩⟩
    · have e := chanTick_upper hn (chanUpper_fence h hs)
      rw [enterFenced, if_neg hs, setChan_self hn] at e
      exact congrArg Chan.st e
    · have e := chanTick_upper hn (chanUpper_readmit hf h)
      have hv : (s.modCh n.val fun c => { c with readmitReq := false }).ch n.val = { c with readmitReq := false } := ch_modCh_self hn _ s
      rw [readmitChan, if_pos (by rw [hv]; exact hs), setChan_self hn] at e
      exact ⟨congrArg Chan.st e, congrArg Chan.restart e⟩
    · have e := chanTick_upper hn (chanUpper_safe hf hr h hl)
      rw [enterSafe_eq hl, setChan_self hn] at e
      exact ⟨congrArg Chan.st e, congrArg Chan.restart e⟩
    · have e := chanTick_stop hn hf hr hs hh hd h hst
      exact ⟨congrArg Chan.st e, congrArg Chan.mA e, congrArg Chan.mB e, congrArg Chan.mC e, congrArg Chan.mD e, congrArg Chan.mstat e⟩
    · have e := chanTick_start hn hf hr hs hh hd hst h
      rw [if_pos (by rw [show (s.ch n.val).st = .off from ho, hc, hdc]; rfl)] at e
      exact ⟨congrArg Chan.st e, congrArg Chan.startReq e⟩
    · have e := chanTick_start hn hf hr hs hh hd hst h
      rw [if_neg (by rw [hc]; simp)] at e
      exact (congrArg Chan.st e :)
  · intro x
    refine ⟨fun rising ts t r hp hl => ?_, fun rising ts hp => ?_, fun rising ts t r t0 hp hl hu hi hf ht hpar hlk h0 h1 h2 h3 h4 => ?_⟩
    · have hs : shaftSettle ts s = s := by
        rw [shaftSettle_single hj, pulseDue, show (vat s.shaft i.val Shaft.init).pulse = some (t, r) from hp]
        dsimp only
        rw [if_neg (by omega)]
      have hu := does_shaftEdge (i := i) (rising := rising) hs
      rw [if_pos (by rw [show (vat s.shaft i.val Shaft.init).pulse = some (t, r) from hp]; rfl)] at hu
      exact ⟨_, hu, vat_vmod_self _ i.isLt _ _, rfl⟩
    · have hs : shaftSettle ts s = s := by
        rw [shaftSettle_single hj, pulseDue, show (vat s.shaft i.val Shaft.init).pulse = none from hp]
      have hu := does_shaftEdge (i := i) (rising := rising) hs
      rw [if_neg (by rw [show (vat s.shaft i.val Shaft.init).pulse = none from hp]; decide)] at hu
      exact ⟨_, hu, vat_vmod_self _ i.isLt _ _, rfl⟩
    · obtain ⟨v, hv⟩ : ∃ v, v = { s with shaft := vmod s.shaft i.val fun y => { y with pulse := none } } := ⟨_, rfl⟩
      have hx : vat v.shaft i.val Shaft.init = { x with pulse := none } := by rw [hv]; exact vat_vmod_self _ i.isLt _ _
      have hs : shaftSettle ts s = shaftCount i.val t v := by
        rw [shaftSettle_single hj, pulseDue, show (vat s.shaft i.val Shaft.init).pulse = some (t, r) from hp]
        dsimp only
        rw [if_pos hl]
        dsimp only
        rw [← hv]
        exact shaftAccept_even (by rw [hx]; exact hu) (by rw [hx]; exact hf) hpar
      obtain ⟨h, g, d, q, e, ef⟩ := shaftCount_locked (t := t) (t0 := t0) hx ht hlk hi
        (by simp only [intervalFits, Bool.and_eq_true, decide_eq_true_eq]; exact ⟨h1, h2⟩)
        (by simp only [intervalRange, Bool.and_eq_true, decide_eq_true_eq]; exact ⟨h3, h4⟩)
      have hu := does_shaftEdge (i := i) (rising := rising) hs
      rw [if_neg (by rw [e]; exact Bool.false_ne_true)] at hu
      have e' : vat (vmod (shaftCount i.val t v).shaft i.val fun x => { x with pulse := some (ts, rising) }) i.val Shaft.init = _ :=
        (vat_vmod_self _ i.isLt _ _).trans (congrArg (fun x : Shaft => { x with pulse := some (ts, rising) }) e)
      refine ⟨_, hu, (congrArg Shaft.lock e').trans hlk, congrArg Shaft.interval e', congrArg Shaft.tsLast e', congrArg Shaft.pulse e',
        congrArg Shaft.k e', ef.trans (by rw [hv])⟩
  · intro x
    refine ⟨fun t hl ht h => ?_, fun t ht h => ?_, fun hl => ?_⟩
    · have hu : Does (.shaftLockTimeout i) s _ := rfl
      rw [if_pos (by rw [shaftLate, show (vat s.shaft i.val Shaft.init).lock = true from hl,
        show (vat s.shaft i.val Shaft.init).tsLast = some t from ht]; simpa using h)] at hu
      exact ⟨_, hu, shaftTimeout_effect i hl⟩
    · exact does_kept (i := .shaftLockTimeout i) rfl (by
        rw [shaftLate, show (vat s.shaft i.val Shaft.init).tsLast = some t from ht]
        simpa using fun _ => h)
    · exact does_kept (i := .shaftLockTimeout i) rfl (by rw [shaftLate, show (vat s.shaft i.val Shaft.init).lock = false from hl]; simp)

end Sys2Proof.Claims
end

section
/-!
PROOF. The training and the negotiation of a stage link (R188 to R194, Table 8.9).
-/
namespace Sys2Proof.Claims
open Sys2Proof Sys2Proof.Machine

section
variable {s u v : State}

/-! The link's state. -/

theorem setLink_lk (l : LinkNo) (st : LinkSt) (f : Link → Link) (s : State) :
    (setLink l.val st f s).lk l.val = f { s.lk l.val with st := st } := by
  obtain ⟨x, b, e⟩ := setLink_eq l.val st f s
  rw [e]
  exact lk_modLk_self l.isLt (fun x => f { x with st := st }) s

/-- A link that failed in training or negotiation (rows 2 and 3). -/
def failedLink (now : Nat) (x : Link) : Link := { x with
  st := .down, fast := false, version := 0, switchTick := none, ready := false, holdoff := now + linkHoldoff, trainRun := 0, lastValid := false }

theorem linkFail_lk (l : LinkNo) (bit : Nat) (s : State) : (linkFail l.val bit s).lk l.val =
    { failedLink s.now (s.lk l.val) with evt := bitPut (s.lk l.val).evt bit true } := by
  have h : ∀ v, (linkEvent l.val v).lk l.val = v.lk l.val := fun v => congrArg (vat · l.val Link.init) (linkEvent_frame l.val v).2
  unfold linkFail slcEvt
  dsimp only
  rw [lk_modLk_self l.isLt, h, setLink_lk]
  rfl

/-- A failure flags its cause, and the link waits for its hold-off (R191). -/
theorem linkFail_effect (l : LinkNo) {bit : Nat} (hb : bit < 8) (s : State) : ((linkFail l.val bit s).lk l.val).st = .down ∧
    ((linkFail l.val bit s).lk l.val).evt.getLsbD bit = true ∧ ((linkFail l.val bit s).lk l.val).holdoff = s.now + 2000000 := by
  rw [linkFail_lk]
  exact ⟨rfl, bitPut_getLsbD_self _ hb _, rfl⟩

/-! What stands while terms and services are worked out. -/

/-- Link `l` keeps its state, its miss count and its version. -/
structure SameTerms (l : Nat) (s u : State) : Prop where
  st : (u.lk l).st = (s.lk l).st
  miss : (u.lk l).miss = (s.lk l).miss
  version : (u.lk l).version = (s.lk l).version

variable {l : Nat}

theorem SameTerms.trans (h : SameTerms l s u) (h' : SameTerms l u v) : SameTerms l s v :=
  ⟨h'.st.trans h.st, h'.miss.trans h.miss, h'.version.trans h.version⟩

theorem sameTerms_of_link (h : u.link = s.link) : SameTerms l s u := by
  have e : u.lk l = s.lk l := congrArg (vat · l Link.init) h
  exact ⟨by rw [e], by rw [e], by rw [e]⟩

theorem SameTerms.refl (s : State) : SameTerms l s s := sameTerms_of_link rfl

theorem SameTerms.foldl {α : Type} {f : State → α → State} (hf : ∀ s a, SameTerms l s (f s a)) (as : List α) (s : State) :
    SameTerms l s (as.foldl f s) := by
  induction as generalizing s with
  | nil => exact .refl s
  | cons a as ih => exact (hf s a).trans (ih (f s a))

theorem sameTerms_modLk (hl : l < 64) {f : Link → Link} (hf : ∀ x, (f x).st = x.st ∧ (f x).miss = x.miss ∧ (f x).version = x.version)
    (s : State) : SameTerms l s (s.modLk l f) := by
  obtain ⟨h1, h2, h3⟩ := hf (s.lk l)
  have e := lk_modLk_self hl f s
  exact ⟨by rw [e, h1], by rw [e, h2], by rw [e, h3]⟩

theorem sameTerms_svcSend (hl : l < 64) (host : Bool) (kind : Nat) (arg : BitVec 8) (ws : List W) (tag : Option (BitVec 16)) (s : State) :
    SameTerms l s (svcSend l host kind arg ws tag s) := by
  refine sameTerms_modLk hl (fun x => ?_) s
  cases host
  · exact ⟨rfl, rfl, rfl⟩
  · exact ⟨rfl, rfl, rfl⟩

theorem enterOff_eq (n : Nat) (s : State) : ∃ c, enterOff n s = { setChan n .off offFrom s with clk := c } := by
  unfold enterOff
  dsimp only
  split
  · exact ⟨_, rfl⟩
  · exact ⟨(setChan n .off offFrom s).clk, rfl⟩

theorem enterOff_link (n : Nat) (s : State) : (enterOff n s).link = s.link := by
  obtain ⟨c, e⟩ := enterOff_eq n s
  obtain ⟨x, b, h⟩ := setChan_frame n .off offFrom s
  rw [e]
  exact h.link

theorem sameTerms_applyTerms (hl : l < 64) (s : State) : SameTerms l s (applyTerms l s) := by
  have hr : ∀ (b : Bool) (v : State), SameTerms l v (v.modLk l fun x => { x with refused := b }) := fun b v => by
    refine sameTerms_modLk hl ?_ v
    exact fun _ => ⟨rfl, rfl, rfl⟩
  have he : ∀ (b : Nat) (v : State), SameTerms l v (slcEvt l b v) := fun b v => by
    refine sameTerms_modLk hl ?_ v
    exact fun _ => ⟨rfl, rfl, rfl⟩
  have hoff : ∀ (c : Bool) (n : Nat) (v : State), SameTerms l v ((if c then v else enterOff n v).raiseP (4 * n + 1) .uc 0x0104) :=
    fun c n v => by
      refine SameTerms.trans ?_ (sameTerms_of_link (occurs_raiseP ..).link)
      split
      · exact .refl v
      · exact sameTerms_of_link (enterOff_link n v)
  unfold applyTerms
  split
  · exact hr false s
  · split
    · exact hr false s
    · dsimp only
      refine ((hr true s).trans (he 4 _)).trans ?_
      exact SameTerms.foldl (fun v n => hoff _ n v) _ _

theorem sameTerms_modData (hl : l < 64) (n : Nat) (ws : List W) (s : State) : SameTerms l s (modData l n ws s) := by
  induction n generalizing ws s with
  | zero => exact .refl s
  | succ n ih =>
    unfold modData
    split
    · exact .refl s
    · exact (sameTerms_svcSend hl ..).trans (ih _ _)

theorem sameTerms_modLoad (hl : l < 64) (ws : List W) (s : State) : SameTerms l s (modLoad l ws s) :=
  ((((sameTerms_svcSend hl ..).trans (sameTerms_modData hl ..))).trans (sameTerms_svcSend hl ..)).trans (sameTerms_svcSend hl ..)

theorem sameTerms_modSkipped (hl : l < 64) (s : State) : SameTerms l s (modSkipped l s) := by
  unfold modSkipped
  split
  · dsimp only
    refine SameTerms.trans (u := { s with upe := { s.upe with skipped := s.upe.skipped.filter (· != l) } }) (sameTerms_of_link rfl) ?_
    exact SameTerms.foldl (fun v ws => (sameTerms_modLoad hl ws v).trans (sameTerms_svcSend hl ..)) _ _
  · exact .refl s

/-- What follows once a link is UP: its terms, its ledgers, its thermal blocks and its module's part of an update. -/
def servedUp (l : Nat) (s : State) : State :=
  let s2 := linkLedgers l (applyTerms l s)
  modSkipped l ((List.range (helloNch (s2.lk l).hello)).foldl (fun s k => thermAsk l k s) s2)

theorem sameTerms_servedUp (hl : l < 64) (s : State) : SameTerms l s (servedUp l s) := by
  refine SameTerms.trans ((sameTerms_applyTerms hl s).trans (sameTerms_of_link (u := linkLedgers l (applyTerms l s)) rfl)) ?_
  refine SameTerms.trans ?_ (sameTerms_modSkipped hl _)
  exact SameTerms.foldl (fun v k => sameTerms_svcSend hl ..) _ _

/-- A link as it comes to UP (row 9). -/
def upFrom (now : Nat) (x : Link) : Link := { x with
  miss := 0, validRun := 0, missRun := 0, corruptRun := 0, trainRun := 0, lostRun := 0, lastValid := false, resume := now
  devTx := [], hostTx := [], devQ := svcAgain x.devQ
  hostQ := svcAgain (x.reads.filterMap (fun y => if y.1 then some y.2 else none) ++ x.hostQ)
  reads := [], acked := [], rxDev := none, rxHost := none, rxCap := none }

theorem linkUp_eq (l : Nat) (s : State) : linkUp l s = servedUp l (setLink l .up (upFrom s.now) s) := rfl

/-- Row 9: the link is UP in the version agreed on. -/
theorem linkUp_effect (l : LinkNo) (s : State) : ((linkUp l.val s).lk l.val).st = .up ∧ ((linkUp l.val s).lk l.val).miss = 0 ∧
    ((linkUp l.val s).lk l.val).version = (s.lk l.val).version := by
  have e := setLink_lk l .up (upFrom s.now) s
  have h := sameTerms_servedUp l.isLt (setLink l.val .up (upFrom s.now) s)
  rw [linkUp_eq]
  exact ⟨by rw [h.st, e]; rfl, by rw [h.miss, e]; rfl, by rw [h.version, e]; rfl⟩

/-! Training. -/

theorem linkTrain_lk (l : LinkNo) (s : State) : (linkTrain l.val s).lk l.val = { s.lk l.val with
    st := .train, fast := false, since := s.now, tstep := 1, trainRun := 0, corruptRun := 0
    fullTrains := (s.lk l.val).fullTrains + 1 } := setLink_lk l ..

theorem linkNegotiate_lk (l : LinkNo) (d : Nat) (s : State) : (linkNegotiate l.val d s).lk l.val = { s.lk l.val with
    st := .negotiate, fast := false, since := s.now, tstep := 1, switchTick := none, ready := false, digest := nw d, version := 0
    devTx := [], hostTx := [] } := setLink_lk l ..

/-- The timing check of R189. -/
theorem timingOk_eq (a b r v : Nat) : timingOk a b r v = true ↔
    10 * (a + b + r) + (if 2 ≤ min 3 v then 1417 else 583) ≤ 4700 ∧ r ≤ 240 := by
  rw [timingOk, Bool.and_eq_true, decide_eq_true_eq, decide_eq_true_eq]

/-- A module's HELLO of 18 words is judged by its versions and its terms (R193). -/
theorem moduleHello_eq {l : LinkNo} {ws : List W} (hw : ws.length = 18) (h : (s.lk l.val).st = .negotiate)
    (hs : (s.lk l.val).switchTick = none) : ∃ v, v.lk l.val = { s.lk l.val with hello := ws } ∧ v.now = s.now ∧
    moduleHello l.val ws s = match commonVersion ((lat ws 1 0).bits 31 24) ((lat ws 1 0).bits 23 16) with
      | none => linkFail l.val 3 v
      | some k => if helloBad (v.lk l.val) ws then linkFail l.val 3 v else v.modLk l.val fun x => { x with
          version := k, switchTick := some (switchAt v l.val), ready := false, agree := agreeWords v l.val k (switchAt v l.val)
          devTx := x.devTx ++ agreeWords v l.val k (switchAt v l.val) } := by
  have hws : ws ++ List.replicate (18 - ws.length) 0 = ws := by rw [hw]; exact List.append_nil ws
  refine ⟨s.modLk l.val fun x => { x with hello := ws }, lk_modLk_self l.isLt _ s, rfl, ?_⟩
  unfold moduleHello
  rw [if_pos (by rw [h, hs]; rfl)]
  dsimp only
  rw [hws] <;> rfl

/-- The switch tick is even and lies at least 32 ticks ahead (R194). -/
theorem switchAt_spec (s : State) (l : Nat) : s.now + 32 < switchAt s l ∧ switchAt s l % 2 = 0 := by
  unfold switchAt
  omega

/-- The end of a training step, by the step (R192). -/
theorem trainStepEnd_eq {l : LinkNo} {m : TrainMeas} (h : (s.lk l.val).st = .train) : Does (.trainStepEnd l m) s
    (match (s.lk l.val).tstep with
      | 1 => s.modLk l.val fun x => { x with tstep := 2 }
      | 2 => trainMeasured l.val m s
      | 3 => trainSet l.val m s
      | _ => s) := by
  have hu : Does (.trainStepEnd l m) s _ := rfl
  rw [if_pos h] at hu
  exact hu

theorem trainStepEnd_two {l : LinkNo} {m : TrainMeas} (h : (s.lk l.val).st = .train) (ht : (s.lk l.val).tstep = 2) :
    Does (.trainStepEnd l m) s (trainMeasured l.val m s) := by
  have hu := trainStepEnd_eq (m := m) h
  rw [ht] at hu
  exact hu

theorem trainStepEnd_three {l : LinkNo} {m : TrainMeas} (h : (s.lk l.val).st = .train) (ht : (s.lk l.val).tstep = 3) :
    Does (.trainStepEnd l m) s (trainSet l.val m s) := by
  have hu := trainStepEnd_eq (m := m) h
  rw [ht] at hu
  exact hu

end

/-- Settles O30: a transition of Table 8.9 is one change of the link's state. -/
theorem linkTraining : Obligations.LinkTraining := by
  unfold Obligations.LinkTraining
  intro s l x
  refine ⟨fun hr h he hf hh => ?_, fun m h ht => ?_, fun m h ht hok hrtt => ?_, fun m h ht hrtt => ?_, fun m h ht hf => ?_,
    fun m h ht hf hd hn => ?_, fun h ht hs => ?_, fun h => ?_, fun ws hw h hs => ⟨fun v hv hb => ?_, fun hv => ?_⟩,
    fun ver crc h hs hv hc => ?_, fun h hr hs => ?_, fun h => ?_, fun h => ?_, fun sw h hr hs hn => ?_, fun h => ?_, fun h => ?_, ?_⟩
  · have hu : Does (.linkCommaAlign l) s _ := rfl
    rw [if_pos (by rw [hr, show (s.lk l.val).st = .down from h, show (s.lk l.val).enable = true from he,
      show (s.lk l.val).fenced = false from hf]; simpa using hh)] at hu
    have e := linkTrain_lk l s
    exact ⟨_, hu, by rw [e], by rw [e], by rw [e], by rw [e]⟩
  · have hu := trainStepEnd_eq (m := m) h
    rw [show (s.lk l.val).tstep = 1 from ht] at hu
    exact ⟨_, hu, lk_modLk_self l.isLt _ s⟩
  · have hu := trainStepEnd_two (m := m) h ht
    rw [trainMeasured, if_pos ((timingOk_eq ..).2 ⟨hok, hrtt⟩)] at hu
    have e := lk_modLk_self l.isLt (fun x => { x with
      tstep := 3, rtt := m.tripNs - m.ta, ta := m.ta, xEnd := 470 - (m.tripNs - m.ta), sOff := m.sOff, sReady := m.sReady }) s
    exact ⟨_, hu, by rw [e], by rw [e], by rw [e], by rw [e], by rw [e]; exact h⟩
  · have hu := trainStepEnd_two (m := m) h ht
    rw [trainMeasured, if_neg (fun hc => by have := ((timingOk_eq ..).1 hc).2; omega)] at hu
    exact ⟨_, hu, linkFail_effect l (by decide) s⟩
  · have hu := trainStepEnd_three (m := m) h ht
    rw [trainSet, if_neg (by rw [show (s.lk l.val).fast = false from hf]; simp)] at hu
    have e := linkNegotiate_lk l m.digest.toNat s
    exact ⟨_, hu, by rw [e], by rw [e]; exact BitVec.ofNat_toNat .., by rw [e]⟩
  · have hu := trainStepEnd_three (m := m) h ht
    rw [trainSet, if_pos (by rw [show (s.lk l.val).fast = true from hf, show (s.lk l.val).digest = m.digest from hd]; simp)] at hu
    have e := lk_modLk_self l.isLt (fun x => { x with tstep := 4 }) s
    rw [linkResume] at hu
    dsimp only at hu
    rw [if_neg (by rw [e]; simp; intros; exact hn)] at hu
    exact ⟨_, hu, by rw [e]; exact h, by rw [e]⟩
  · have hu : Does (.trainTimeout l) s _ := rfl
    rw [if_pos (by rw [show (s.lk l.val).st = .train from h]; simp; exact ⟨ht, hs⟩)] at hu
    exact ⟨_, hu, linkFail_effect l (by decide) s⟩
  · exact does_kept (i := .trainTimeout l) rfl (by simp; intros; exact h)
  · obtain ⟨u, hx, hn, e⟩ := moduleHello_eq hw h hs
    have hu : Does (.moduleHello l ws) s (moduleHello l.val ws s) := rfl
    rw [e, hv] at hu
    dsimp only at hu
    rw [if_neg (by rw [hx]; exact ne_true_of_eq_false hb)] at hu
    obtain ⟨h1, h2⟩ := switchAt_spec u l.val
    have el := lk_modLk_self l.isLt (fun x => { x with
          version := v, switchTick := some (switchAt u l.val), ready := false, agree := agreeWords u l.val v (switchAt u l.val)
          devTx := x.devTx ++ agreeWords u l.val v (switchAt u l.val) }) u
    exact ⟨_, hu, by rw [el], by rw [el, hx], by rw [el, hx]; exact h, _, by rw [el], by rw [← hn]; exact h1, h2⟩
  · obtain ⟨u, hx, hn, e⟩ := moduleHello_eq hw h hs
    have hu : Does (.moduleHello l ws) s (moduleHello l.val ws s) := rfl
    rw [e, hv] at hu
    obtain ⟨h1, h2, -⟩ := linkFail_effect l (bit := 3) (by decide) u
    exact ⟨_, hu, h1, h2⟩
  · have hu : Does (.ready l ver crc) s (readyIn l.val ver crc s) := rfl
    rw [readyIn] at hu
    rw [if_pos (by rw [show (s.lk l.val).st = .negotiate from h, hc, show ver.toNat = (s.lk l.val).version from hv,
      show (s.lk l.val).switchTick.isSome = true from hs]; simp [x])] at hu
    exact ⟨_, hu, lk_modLk_self l.isLt _ s⟩
  · have hu : Does (.negotiateTimeout l) s _ := rfl
    rw [if_pos (by rw [show (s.lk l.val).st = .negotiate from h, show (s.lk l.val).ready = false from hr]; simpa using hs)] at hu
    obtain ⟨h1, h2, -⟩ := linkFail_effect l (bit := 2) (by decide) s
    exact ⟨_, hu, h1, h2⟩
  · refine does_kept (i := .negotiateTimeout l) rfl ?_
    rcases h with h | h
    · simp; intros; exact h
    · rw [show (s.lk l.val).ready = true from h]; simp
  · refine does_kept (i := .linkSwitchTick l) rfl ?_
    rcases h with h | h
    · rw [show (s.lk l.val).ready = false from h]; simp
    · rw [show (s.lk l.val).switchTick = none from h]; simp
  · have hu : Does (.linkSwitchTick l) s _ := rfl
    rw [if_pos (by rw [show (s.lk l.val).st = .negotiate from h, show (s.lk l.val).ready = true from hr,
      show (s.lk l.val).switchTick = some sw from hs]; simpa using hn)] at hu
    exact ⟨_, hu, linkUp_effect l s⟩
  · exact ⟨_, rfl, (lk_modLk_self l.isLt _ s).trans (if_pos h)⟩
  · exact ⟨_, rfl, (lk_modLk_self l.isLt _ s).trans (if_neg (Nat.not_le_of_lt h))⟩
  · exact ⟨_, rfl, (linkDown_effect l.isLt s).2.1⟩

end Sys2Proof.Claims
end

section
/-!
PROOF. The tie ports (R307 to R320): what each shared operation makes of a port, and the levels, beacons, timers and protections.
-/
namespace Sys2Proof.Claims
open Sys2Proof Sys2Proof.Machine

section
variable {s u v : State} {p : Fin 8} {n : Nat}

/-! One port after an operation. -/

theorem tp_modTp (f : Tpc → Tpc) (s : State) (p : Fin 8) : (s.modTp p.val f).tp p.val = f (s.tp p.val) := vat_vmod_self _ p.isLt f _

theorem tp_of_tpc (h : u.tpc = s.tpc) : u.tp p.val = s.tp p.val := congrArg (vat · p.val Tpc.init) h

theorem tp_tpSet (f : Tpc → Tpc) (s : State) (p : Fin 8) : (tpSet p.val f s).tp p.val = f (s.tp p.val) := by
  obtain ⟨m, e⟩ := tpSet_eq p.val f s
  rw [e]
  exact tp_modTp f s p

theorem fcr_tpSet (f : Tpc → Tpc) (s : State) (p : Fin 8) : (tpSet p.val f s).fcr = s.fcr := by
  obtain ⟨m, e⟩ := tpSet_eq p.val f s
  rw [e]
  rfl

theorem tp_turnSeen (s : State) (p : Fin 8) : (turnSeen p.val s).tp p.val = s.tp p.val := by
  obtain ⟨m, e⟩ := turnSeen_eq p.val s
  rw [e]
  rfl

theorem tp_tieRaise (cls : EvClass) (code : Nat) (s : State) (p : Fin 8) : (tieRaise p.val cls code s).tp p.val = s.tp p.val :=
  tp_of_tpc (occurs_tieRaise p.val cls code s).tpc

theorem tp_tieEvt (b : Nat) (s : State) (p : Fin 8) :
    (tieEvt p.val b s).tp p.val = { s.tp p.val with evt := bitPut (s.tp p.val).evt b true } := tp_modTp _ s p

/-- A port that sends a new message (Table 14.2). -/
def Tpc.sending (op : Nat) (pay : List Byte) (x : Tpc) : Tpc :=
  { x with sent := some ⟨op, x.tag, if op = 0x10 then 0 else x.gen, x.feedPres, pay⟩, tag := x.tag + 1 }

theorem tp_tpSend (op : Nat) (pay : List Byte) (s : State) (p : Fin 8) :
    (tpSend p.val op pay s).tp p.val = Tpc.sending op pay (s.tp p.val) := tp_modTp _ s p

/-- A port that sends a message and awaits its answer (R314). -/
def Tpc.asking (now op : Nat) (pay : List Byte) (x : Tpc) : Tpc :=
  { Tpc.sending op pay x with waiting := (Tpc.sending op pay x).sent.map fun m => (m, 1, now) }

theorem tp_tpAsk (op : Nat) (pay : List Byte) (s : State) (p : Fin 8) :
    (tpAsk p.val op pay s).tp p.val = Tpc.asking s.now op pay (s.tp p.val) := by
  rw [tpAsk, tp_modTp, tp_tpSend]
  rfl

/-- A port in REST (R319). -/
def Tpc.resting (now : Nat) (x : Tpc) : Tpc := { x with
  st := .rest, role := 0, gen := 0, feedPres := false, forced := true, stTick := now, grant := 0, window := 0, waiting := none
  granted := false, lease := false, winding := false, draw := none, beacon := false, retry := none, tieWait := none
  defer := none, turning := false, restarts := x.restarts + 1, evt := bitPut x.evt 1 true }

theorem tp_tpRest (s : State) (p : Fin 8) : (tpRest p.val s).tp p.val = Tpc.resting s.now (s.tp p.val) := by
  unfold tpRest
  dsimp only
  rw [tp_tpSet]
  split
  · rw [tp_turnSeen]
    rfl
  · rfl

theorem tp_tpRestart (s : State) (p : Fin 8) :
    (tpRestart p.val s).tp p.val = Tpc.resting s.now (Tpc.sending 0x3F [] (s.tp p.val)) := by
  rw [tpRestart, tp_tieRaise, tp_tpRest, tp_tpSend]
  rfl

/-- A port in SEARCH (R309, R319). -/
def Tpc.searching (feed force : Bool) (gap : Nat) (x : Tpc) : Tpc := { x with
  st := .search, role := 0, gen := 0, feedPres := feed, prot := false, forced := force
  grant := 0, window := 0, lastRx := none, waiting := none, offers := [], granted := false
  lease := false, winding := false, draw := none, gap := gap, beacon := false, retry := none, tieWait := none, defer := none
  hailed := false, turning := false }

theorem tpSearch_effect (force : Bool) (s : State) (p : Fin 8) :
    (∃ f g, (tpSearch p.val force s).tp p.val = Tpc.searching f force g (s.tp p.val)) ∧ (tpSearch p.val force s).fcr = s.fcr := by
  unfold tpSearch
  dsimp only
  exact ⟨⟨_, _, tp_tpSet _ _ p⟩, fcr_tpSet _ _ p⟩

/-! The occurrences of a port's channel. -/

theorem PortsOnly.tieChan (h : PortsOnly s u) : tieChan u p.val = tieChan s p.val := by
  unfold Machine.tieChan
  rw [h.adm]

theorem raised_tieRaise (hc : tieChan s p.val = some n) (hn : n < 192) (cls : EvClass) (code : Nat) :
    raised (tieRaise p.val cls code s) (4 * n + 3) (promoted s (4 * n + 3) cls) code := by
  have hsrc : srcKind (4 * n + 3) ≠ 2 := by
    unfold srcKind
    split
    · omega
    · split <;> decide
  rw [tieRaise, hc]
  exact raised_raise hsrc { s with fresh := s.fresh + 1 } cls _ _ _ _

/-- Through changes of the port, the occurrence is raised at the bound channel. -/
theorem raised_tieRaise_of (h : PortsOnly s u) (hc : tieChan s p.val = some n) (hn : n < 192) (cls : EvClass) (code : Nat) :
    raised (tieRaise p.val cls code u) (4 * n + 3) (promoted u (4 * n + 3) cls) code :=
  raised_tieRaise (h.tieChan.trans hc) hn cls code

/-- What was raised stays raised through a change of the ports. -/
theorem PortsOnly.raised {src code : Nat} {cls : EvClass} (h : PortsOnly s u) (hr : raised s src cls code) : Claims.raised u src cls code := by
  obtain ⟨x, hx, e⟩ := hr
  exact ⟨x, Occurs.todo h hx, e⟩

theorem raised_tpRestart (hc : tieChan s p.val = some n) (hn : n < 192) : ∃ cl, raised (tpRestart p.val s) (4 * n + 3) cl 0x0405 :=
  ⟨_, raised_tieRaise_of ((portsOnly_tpSend p.val 0x3F [] s).trans (portsOnly_tpRest p.val _)) hc hn .ce 0x0405⟩

/-- A drawn value lies in its bounds. -/
theorem draw_bounds (n : Nat) {lo hi : Nat} (h : lo ≤ hi) : lo ≤ Config.draw n lo hi ∧ Config.draw n lo hi ≤ hi := by
  have hm := Nat.mod_lt (Config.free n) (show 0 < hi + 1 - lo by omega)
  unfold Config.draw
  omega

theorem tpLevel_disabled (mv : BitVec 12) (h : (s.tp p.val).st = .disabled) : tpLevel p.val mv s = s := by rw [tpLevel, if_pos h]

theorem tpLevel_eq (mv : BitVec 12) (h : (s.tp p.val).st ≠ .disabled) :
    tpLevel p.val mv s = s.modTp p.val fun x => { x with level := mv, attachLvl := inAttach mv } := by rw [tpLevel, if_neg h]

theorem tpLevel_tp (mv : BitVec 12) (h : (s.tp p.val).st ≠ .disabled) :
    (tpLevel p.val mv s).tp p.val = { s.tp p.val with level := mv, attachLvl := inAttach mv } := by
  rw [tpLevel_eq mv h, tp_modTp]

theorem tpLevel_kept (mv : BitVec 12) (s : State) (p : Fin 8) : ((tpLevel p.val mv s).tp p.val).st = (s.tp p.val).st ∧
    (tpLevel p.val mv s).fcr = s.fcr ∧ PortsOnly s (tpLevel p.val mv s) := by
  by_cases h : (s.tp p.val).st = .disabled
  · rw [tpLevel_disabled mv h]
    exact ⟨rfl, rfl, .refl s⟩
  · have e := tpLevel_tp mv h
    rw [tpLevel_eq mv h] at e ⊢
    exact ⟨(congrArg Tpc.st e).trans rfl, rfl, portsOnly_modTp ..⟩

/-- A row of Table 14.5 acts on a port in use: REST, with the protection's flag and its occurrence (R320). -/
theorem tieProtect_effect (h : (s.tp p.val).st ≠ .disabled) (hp : (s.tp p.val).prot = false) (hc : tieChan s p.val = some n) (hn : n < 192)
    {bit : Nat} (hb : bit < 8) (code : Nat) : ((tieProtect p.val bit code s).tp p.val).st = .rest ∧
    ((tieProtect p.val bit code s).tp p.val).prot = true ∧ ((tieProtect p.val bit code s).tp p.val).oc = none ∧
    ((tieProtect p.val bit code s).tp p.val).evt.getLsbD bit = true ∧ raised (tieProtect p.val bit code s) (4 * n + 3) .uc code := by
  have hr := portsOnly_tpRest p.val (tpSend p.val 0x3F [] s)
  have hf : PortsOnly s (tieEvt p.val bit ((tpRest p.val (tpSend p.val 0x3F [] s)).modTp p.val fun x =>
      { x with prot := true, oc := none, rev := 0 })) :=
    (((portsOnly_tpSend p.val 0x3F [] s).trans hr).trans (portsOnly_modTp ..)).trans (portsOnly_modTp ..)
  unfold tieProtect
  rw [if_neg (by rw [hp]; simpa using h)]
  dsimp only
  have e : (tieEvt p.val bit ((tpRest p.val (tpSend p.val 0x3F [] s)).modTp p.val fun x =>
      { x with prot := true, oc := none, rev := 0 })).tp p.val = _ := (tp_tieEvt ..).trans (by rw [tp_modTp, tp_tpRest])
  rw [tp_tieRaise, e]
  refine ⟨rfl, rfl, rfl, bitPut_getLsbD_self _ hb _, ?_⟩
  have hra := raised_tieRaise_of hf hc hn .uc code
  rw [promoted_uc] at hra
  exact hra

end
theorem does_answerTimeout (s : State) (p : Fin 8) : Does (.answerTimeout p) s (match (s.tp p.val).waiting with
    | none => s
    | some (m, n, t) =>
      if s.now < t + msTicks 10 then s
      else if n < 3 then s.modTp p.val fun x => { x with sent := some m, waiting := some (m, n + 1, s.now) }
      else tpRestart p.val s) := rfl

/-- A port that asks for a role turn (R318). -/
theorem tieTurnSend_tp (s : State) (p : Fin 8) : ∃ pay d,
    (tieTurnSend p.val s).tp p.val = { Tpc.asking s.now 0x30 pay (s.tp p.val) with draw := some d } := by
  unfold tieTurnSend
  dsimp only
  rw [tp_modTp, tp_tpAsk]
  exact ⟨_, _, rfl⟩

/-- Settles O52: each row is one change of the port, with its occurrence beside it. -/
theorem tiePortStates : Obligations.TiePortStates := by
  unfold Obligations.TiePortStates
  intro s p n hc hn x
  refine ⟨?_, fun mv h hs => ?_, fun mv h hs => ?_, fun hs ht => ?_, fun h => ?_, fun mv h hs => ?_, fun mv h hs htn => ?_,
    fun mv htn => ?_, fun hs hp hb hg => ?_, fun hs hb he => ?_, fun h => ⟨?_, ?_⟩, fun h => ?_, fun h => ?_, fun m k z hw hz => ?_,
    fun m k z hw hz hk => ?_, fun m k z hw hz hk => ?_, fun hw => ?_, fun hr hg ht => ?_, fun hr htn ht => ?_, fun hr => ⟨?_, ?_⟩,
    fun h => ?_, fun h => ?_, fun d hd h => ?_, fun w hw h hm => ?_, fun h => ?_, fun h => ?_, fun h => ?_, fun z hz hl => ?_, fun h => ?_,
    fun hs h => ?_, fun h => ?_, fun z hs hp hz h => ?_, fun h => ?_⟩
  · simp [tieHiZ, x, or_assoc]
  · have hu : Does (.attachLevelRead p mv) s _ := rfl
    rw [if_pos (by rw [show (s.tp p.val).st = .search from hs, h]; rfl)] at hu
    have hd : (s.tp p.val).st ≠ .disabled := by rw [show (s.tp p.val).st = .search from hs]; decide
    have e := tp_tpSet (fun x => { x with st := .confirm, stTick := s.now, beacon := false }) (tpLevel p.val mv s) p
    rw [tpLevel_tp mv hd] at e
    exact ⟨_, hu, by rw [e], by rw [e], by rw [e], by rw [e], by rw [e]; exact h, (fcr_tpSet _ _ p).trans (tpLevel_kept mv s p).2.1⟩
  · have hu : Does (.attachLevelRead p mv) s _ := rfl
    rw [if_neg (by rw [h]; simp)] at hu
    have e := tpLevel_tp mv hs
    rw [h] at e
    exact ⟨_, hu, e, by rw [tpLevel_eq mv hs]; rfl⟩
  · have hu : Does (.attachConfirm p) s _ := rfl
    rw [if_pos (by rw [show (s.tp p.val).st = .confirm from hs,
      decide_eq_true (show (s.tp p.val).stTick + msTicks 15 ≤ s.now from ht)]; rfl)] at hu
    obtain ⟨v, hv⟩ : ∃ v, v = tieRaise p.val .ce 0x0401 (tpSet p.val (fun x => { x with
      st := .agree, role := if (s.tp p.val).feedPres then 1 else 2 }) s) := ⟨_, rfl⟩
    have hra := raised_tieRaise_of (portsOnly_tpSet p.val (fun x => { x with
      st := .agree, role := if (s.tp p.val).feedPres then 1 else 2 }) s) hc hn .ce 0x0401
    have e : v.tp p.val = { s.tp p.val with st := .agree, role := if (s.tp p.val).feedPres then 1 else 2 } := by
      rw [hv, tp_tieRaise, tp_tpSet]
    have hclk : v.clk = s.clk := by
      rw [hv]
      exact (occurs_tieRaise ..).clk.trans (portsOnly_tpSet ..).clk
    rw [← hv] at hra
    dsimp only at hu
    rw [← hv] at hu
    by_cases hf : (s.tp p.val).feedPres = true
    · rw [if_pos hf] at hu
      have ea := tp_tpAsk 0x10 [2, 1, 0, 0] v p
      rw [e, State.now, hclk] at ea
      refine ⟨_, _, hu, by rw [ea]; rfl, by rw [ea]; rfl, hra, fun _ => ⟨_, by rw [ea]; rfl, rfl, rfl, rfl, by rw [ea]; rfl⟩⟩
    · rw [if_neg hf] at hu
      exact ⟨_, _, hu, by rw [e], by rw [e], hra, fun h => absurd h hf⟩
  · exact does_kept (i := .attachConfirm p) rfl (by
      rcases h with h | h
      · rw [decide_eq_false (show (s.tp p.val).st ≠ .confirm from h)]; simp
      · rw [decide_eq_false (show ¬ (s.tp p.val).stTick + msTicks 15 ≤ s.now from Nat.not_le_of_lt h)]; simp)
  · have hu : Does (.attachLevelLost p mv) s _ := rfl
    rw [if_pos (by rw [show (s.tp p.val).st = .confirm from hs, h]; rfl)] at hu
    obtain ⟨⟨f, g, e⟩, ef⟩ := tpSearch_effect false (tpLevel p.val mv s) p
    exact ⟨_, hu, by rw [e]; rfl, by rw [e]; rfl, by rw [e]; rfl, ef.trans (tpLevel_kept mv s p).2.1⟩
  · have hu : Does (.detach p mv) s _ := rfl
    rw [if_pos (by rw [show (s.tp p.val).turning = false from htn, h]; rcases hs with h | h | h <;> simp [show (s.tp p.val).st = _ from h])] at hu
    obtain ⟨⟨f, g, e⟩, ef⟩ := tpSearch_effect true (tieRaise p.val .ce 0x0402 (tieEvt p.val 0 (tpLevel p.val mv s))) p
    have hra := raised_tieRaise_of ((tpLevel_kept mv s p).2.2.trans (portsOnly_modTp p.val (fun x => { x with evt := bitPut x.evt 0 true }) _)) hc hn .ce 0x0402
    refine ⟨_, _, hu, by rw [e]; rfl, by rw [e]; rfl, by rw [e]; rfl, ?_, (portsOnly_tpSearch ..).raised hra⟩
    rw [e, tp_tieRaise, tp_tieEvt]
    exact bitPut_getLsbD_self _ (by decide) _
  · have hu : Does (.detach p mv) s _ := rfl
    rw [if_neg (by rw [show (s.tp p.val).turning = true from htn]; simp)] at hu
    obtain ⟨h1, h2, -⟩ := tpLevel_kept mv s p
    exact ⟨_, hu, h1, h2⟩
  · have hu : Does (.beaconStart p) s _ := rfl
    rw [if_pos (by rw [show (s.tp p.val).st = .search from hs, hp, show (s.tp p.val).beacon = false from hb]; simpa using hg)] at hu
    exact ⟨_, hu, tp_modTp _ s p⟩
  · have hu : Does (.beaconEnd p) s _ := rfl
    rw [if_pos (by rw [show (s.tp p.val).st = .search from hs, show (s.tp p.val).beacon = true from hb]; simpa using he)] at hu
    have hb := draw_bounds s.fresh (lo := 5 * (tieParm s p.val 4).bits 15 8) (hi := 15 * (tieParm s p.val 4).bits 15 8) (by omega)
    refine ⟨_, (tieGap p.val s).1, hu, tp_modTp _ _ p, ?_, ?_⟩
    · show _ ≤ s.now + 2000 * Config.draw s.fresh (5 * (tieParm s p.val 4).bits 15 8) (15 * (tieParm s p.val 4).bits 15 8)
      omega
    · show s.now + 2000 * Config.draw s.fresh (5 * (tieParm s p.val 4).bits 15 8) (15 * (tieParm s p.val 4).bits 15 8) ≤ _
      omega
  · exact does_kept (i := .beaconStart p) rfl (by rw [decide_eq_false (show (s.tp p.val).st ≠ .search from h)]; simp)
  · exact does_kept (i := .beaconEnd p) rfl (by rw [decide_eq_false (show (s.tp p.val).st ≠ .search from h)]; simp)
  · exact does_kept (i := .beaconStart p) rfl (by
      rw [decide_eq_false (show ¬ (s.tp p.val).gap ≤ s.now from Nat.not_le_of_lt h)]; simp)
  · exact does_kept (i := .beaconEnd p) rfl (by
      rw [decide_eq_false (show ¬ (s.tp p.val).beaconEnd ≤ s.now from Nat.not_le_of_lt h)]; simp)
  · have hu := does_answerTimeout s p
    rw [show (s.tp p.val).waiting = some (m, k, z) from hw] at hu
    dsimp only at hu
    rw [if_pos (show s.now < z + msTicks 10 from hz)] at hu
    exact hu
  · have hu := does_answerTimeout s p
    rw [show (s.tp p.val).waiting = some (m, k, z) from hw] at hu
    dsimp only at hu
    rw [if_neg (show ¬ s.now < z + msTicks 10 from Nat.not_lt_of_le hz), if_pos hk] at hu
    exact ⟨_, hu, tp_modTp _ s p, rfl⟩
  · have hu := does_answerTimeout s p
    rw [show (s.tp p.val).waiting = some (m, k, z) from hw] at hu
    dsimp only at hu
    rw [if_neg (show ¬ s.now < z + msTicks 10 from Nat.not_lt_of_le hz), if_neg (Nat.not_lt_of_le hk)] at hu
    obtain ⟨cl, hra⟩ := raised_tpRestart (s := s) hc hn
    have e := tp_tpRestart s p
    exact ⟨_, cl, hu, by rw [e]; rfl, by rw [e]; rfl, by rw [e]; rfl, by rw [tieHiZ, e]; simp [Tpc.resting], by rw [e]; rfl,
      by rw [e]; rfl, ⟨_, by rw [e]; rfl, rfl⟩, hra⟩
  · have hu := does_answerTimeout s p
    rw [show (s.tp p.val).waiting = none from hw] at hu
    exact hu
  · have hu : Does (.liveTimeout p) s _ := rfl
    rw [if_pos (by rw [show (s.tp p.val).role = 2 from hr, show (s.tp p.val).granted = true from hg,
      decide_eq_true (show (s.tp p.val).grantTick + msTicks 100 ≤ s.now from ht)]; rfl)] at hu
    obtain ⟨cl, hra⟩ := raised_tpRestart (s := s) hc hn
    exact ⟨_, cl, hu, by rw [tp_tpRestart]; rfl, hra⟩
  · have hu : Does (.roleTurnTimeout p) s _ := rfl
    have hms : msTicks (if (s.tp p.val).st = .turn then 20 else 10) = if (s.tp p.val).st = .turn then 40000 else 20000 := by split <;> rfl
    rw [if_pos (by rw [show (s.tp p.val).role = 2 from hr, show (s.tp p.val).turning = true from htn, hms,
      decide_eq_true (show (s.tp p.val).turnTick + (if (s.tp p.val).st = .turn then 40000 else 20000) ≤ s.now from ht)]; rfl)] at hu
    obtain ⟨cl, hra⟩ := raised_tpRestart (s := s) hc hn
    exact ⟨_, cl, hu, by rw [tp_tpRestart]; rfl, hra⟩
  · exact does_kept (i := .liveTimeout p) rfl (by rw [decide_eq_false (show (s.tp p.val).role ≠ 2 from hr)]; simp)
  · exact does_kept (i := .roleTurnTimeout p) rfl (by rw [decide_eq_false (show (s.tp p.val).role ≠ 2 from hr)]; simp)
  · exact does_kept (i := .liveTimeout p) rfl (by
      rw [decide_eq_false (show ¬ (s.tp p.val).grantTick + msTicks 100 ≤ s.now from Nat.not_le_of_lt h)]; simp)
  · have hms : msTicks (if (s.tp p.val).st = .turn then 20 else 10) = if (s.tp p.val).st = .turn then 40000 else 20000 := by split <;> rfl
    exact does_kept (i := .roleTurnTimeout p) rfl (by
      rw [hms, decide_eq_false (show ¬ (s.tp p.val).turnTick + (if (s.tp p.val).st = .turn then 40000 else 20000) ≤ s.now from
        Nat.not_le_of_lt h)]; simp)
  · have hu : Does (.deferExpiry p) s _ := rfl
    rw [if_pos (by rw [show (s.tp p.val).defer = some d from hd]; simpa using h)] at hu
    have e := tp_tpAsk 0x21 ([BitVec.ofNat 8 ((s.modTp p.val fun x => { x with defer := none }).tp p.val).idx, 0] ++
      (payHalf ((s.modTp p.val fun x => { x with defer := none }).tp p.val).want).drop 2) (s.modTp p.val fun x => { x with defer := none }) p
    rw [tp_modTp] at e
    exact ⟨tieClaim p.val (s.modTp p.val fun x => { x with defer := none }), _, hu, by rw [tieClaim, tp_modTp, e]; rfl,
      by rw [tieClaim, tp_modTp, e]; rfl, rfl, by rw [tieClaim, tp_modTp, e]; rfl⟩
  · have hu : Does (.turnTieWaitEnd p) s _ := rfl
    have ev : (s.modTp p.val fun x => { x with tieWait := none }).tp p.val = { s.tp p.val with tieWait := none } := tp_modTp _ s p
    rw [if_pos (by rw [show (s.tp p.val).tieWait = some w from hw]; simpa using h)] at hu
    dsimp only at hu
    rw [if_pos (by rw [ev]; exact hm)] at hu
    obtain ⟨pay, d, e⟩ := tieTurnSend_tp (s.modTp p.val fun x => { x with tieWait := none }) p
    rw [ev] at e
    exact ⟨_, _, hu, by rw [e]; rfl, by rw [e]; rfl, rfl, by rw [e]; rfl⟩
  · refine does_kept (i := .deferExpiry p) rfl ?_
    rcases h with h | ⟨d, h, hl⟩
    · rw [show (s.tp p.val).defer = none from h]; simp
    · rw [show (s.tp p.val).defer = some d from h]; simpa using hl
  · refine does_kept (i := .turnTieWaitEnd p) rfl ?_
    rcases h with h | ⟨d, h, hl⟩
    · rw [show (s.tp p.val).tieWait = none from h]; simp
    · rw [show (s.tp p.val).tieWait = some d from h]; simpa using hl
  · have hu : Does (.collide p) s _ := rfl
    rw [if_pos h] at hu
    obtain ⟨hb1, hb2⟩ := draw_bounds s.fresh (lo := 600) (hi := 6000) (by omega)
    have e := (tp_tieEvt 6 ({ s with fresh := s.fresh + 1 }.modTp p.val fun x => { x with
      retry := some (s.now + Config.draw s.fresh 600 6000) }) p).trans (by rw [tp_modTp])
    refine ⟨tieEvt p.val 6 ({ s with fresh := s.fresh + 1 }.modTp p.val fun x => { x with
      retry := some (s.now + Config.draw s.fresh 600 6000) }), Config.draw s.fresh 600 6000, hu, ?_, hb1, hb2, ?_, ?_, rfl⟩
    · rw [tp_tieEvt]
      exact bitPut_getLsbD_self _ (by decide) _
    · rw [tp_tieEvt, tp_modTp]
    · rw [tp_tieEvt, tp_modTp]
      rfl
  · have hu : Does (.txRetry p) s _ := rfl
    rw [if_pos (by rw [show (s.tp p.val).retry = some z from hz]; simpa using hl)] at hu
    exact ⟨_, hu, tp_modTp _ s p⟩
  · refine does_kept (i := .txRetry p) rfl ?_
    rcases h with h | ⟨d, h, hl⟩
    · rw [show (s.tp p.val).retry = none from h]; simp
    · rw [show (s.tp p.val).retry = some d from h]; simpa using hl
  · have hu : Does (.restEnd p) s _ := rfl
    rw [if_pos (by rw [show (s.tp p.val).st = .rest from hs,
      decide_eq_true (show (s.tp p.val).stTick + msTicks 600 ≤ s.now from h)]; rfl)] at hu
    obtain ⟨⟨f, g, e⟩, -⟩ := tpSearch_effect false s p
    exact ⟨_, hu, by rw [e]; rfl, by rw [e]; rfl⟩
  · refine does_kept (i := .restEnd p) rfl ?_
    rcases h with h | h
    · rw [decide_eq_false (show (s.tp p.val).st ≠ .rest from h)]; simp
    · rw [decide_eq_false (show ¬ (s.tp p.val).stTick + msTicks 600 ≤ s.now from Nat.not_le_of_lt h)]; simp
  · have hu : Does (.tieOcTimer p) s _ := rfl
    rw [if_pos (by rw [show (s.tp p.val).oc = some z from hz]; simpa using h)] at hu
    exact ⟨_, hu, tieProtect_effect hs hp hc hn (by decide) _⟩
  · refine does_kept (i := .tieOcTimer p) rfl ?_
    rcases h with h | ⟨d, h, hl⟩
    · rw [show (s.tp p.val).oc = none from h]; simp
    · rw [show (s.tp p.val).oc = some d from h]; simpa using hl

end Sys2Proof.Claims
end

section
/-!
PROOF. The pilot messages that a tie port receives (R312 to R319, Tables 14.3 and 14.4).
-/
namespace Sys2Proof.Claims
open Sys2Proof Sys2Proof.Machine

section
variable {s u v : State} {p : Fin 8} {n : Nat} {h : PilotHead}

/-! Reception. -/

theorem tpHeard_disabled (hs : (s.tp p.val).st = .disabled) (act : State → State) : tpHeard p.val h act s = s := by
  rw [tpHeard, if_pos hs]

/-- A message whose TAG has been answered gets its last answer again (R314). -/
theorem tpHeard_again {m : PMsg} (hs : (s.tp p.val).st ≠ .disabled) (hl : (s.tp p.val).lastRx = some (h.tag, some m))
    (act : State → State) : tpHeard p.val h act s =
      (s.modTp p.val fun x => { x with msgs := x.msgs + 1 }).modTp p.val fun x => { x with sent := some m } := by
  unfold tpHeard
  rw [if_neg hs, hl]
  dsimp only
  rw [if_pos rfl]

/-- A new message is counted and acted on. -/
theorem tpHeard_new (hs : (s.tp p.val).st ≠ .disabled) (hl : (s.tp p.val).lastRx = none) (act : State → State) :
    ∃ v, v.tp p.val = { s.tp p.val with msgs := (s.tp p.val).msgs + 1 } ∧ tpHeard p.val h act s = act v ∧
      v = { s with tpc := v.tpc } := by
  refine ⟨s.modTp p.val fun x => { x with msgs := x.msgs + 1 }, tp_modTp _ s p, ?_, rfl⟩
  unfold tpHeard
  rw [if_neg hs, hl]

/-! The port after its answers. -/

/-- A port that answers a message (R314). -/
def Tpc.replying (tag : BitVec 5) (op : Nat) (pay : List Byte) (x : Tpc) : Tpc :=
  { Tpc.sending op pay x with lastRx := some (tag, (Tpc.sending op pay x).sent) }

theorem tp_tpReply (tag : BitVec 5) (op : Nat) (pay : List Byte) (s : State) (p : Fin 8) :
    (tpReply p.val tag op pay s).tp p.val = Tpc.replying tag op pay (s.tp p.val) := by
  rw [tpReply, tp_modTp, tp_tpSend]
  rfl

theorem portsOnly_tpReply (tag : BitVec 5) (op : Nat) (pay : List Byte) (s : State) (p : Fin 8) :
    PortsOnly s (tpReply p.val tag op pay s) := (portsOnly_tpSend ..).trans (portsOnly_modTp ..)

/-- No common generation: the port is in SEARCH again, flagged, and its occurrence raised (R315). -/
theorem tieNoGen_effect (hc : tieChan s p.val = some n) (hn : n < 192) : ((tieNoGen p.val s).tp p.val).st = .search ∧
    ((tieNoGen p.val s).tp p.val).sent = (s.tp p.val).sent ∧ ((tieNoGen p.val s).tp p.val).evt.getLsbD 2 = true ∧
    ∃ cl, raised (tieNoGen p.val s) (4 * n + 3) cl 0x0404 := by
  obtain ⟨⟨f, g, e⟩, -⟩ := tpSearch_effect false (tieRaise p.val .ce 0x0404 (tieEvt p.val 2 s)) p
  have hra := raised_tieRaise_of (portsOnly_modTp p.val (fun x => { x with evt := bitPut x.evt 2 true }) s) hc hn .ce 0x0404
  rw [tp_tieRaise, tp_tieEvt] at e
  unfold tieNoGen
  refine ⟨by rw [e]; rfl, by rw [e]; rfl, ?_, _, (portsOnly_tpSearch ..).raised hra⟩
  rw [e]
  exact bitPut_getLsbD_self _ (by decide) _

theorem tp_tieEndLease (s : State) (p : Fin 8) : (tieEndLease p.val s).tp p.val =
    { s.tp p.val with lease := false, granted := false, grant := 0, window := 0, winding := false } := tp_tpSet _ s p

/-- A lease begins (R316). -/
theorem tieLease_effect (hc : tieChan s p.val = some n) (hn : n < 192) : ((tieLease p.val s).tp p.val).st = .lease ∧
    ((tieLease p.val s).tp p.val).lease = true ∧ ((tieLease p.val s).tp p.val).granted = false ∧
    ((tieLease p.val s).tp p.val).grant = (s.tp p.val).grant ∧ ((tieLease p.val s).tp p.val).sent = (s.tp p.val).sent ∧
    ∃ cl, raised (tieLease p.val s) (4 * n + 3) cl 0x0403 := by
  have e : ∃ w, (tieLease p.val s).tp p.val = { s.tp p.val with st := .lease, lease := true, granted := false, window := w } := by
    rw [tieLease, tp_tieRaise, tp_tpSet]
    exact ⟨_, rfl⟩
  obtain ⟨w, e⟩ := e
  rw [e]
  exact ⟨rfl, rfl, rfl, rfl, rfl, _, raised_tieRaise_of (portsOnly_tpSet ..) hc hn .ce 0x0403⟩

/-- TERMS sent keep the port's state, role, presentation and lease (R317). -/
theorem tieTerms_kept (s : State) (p : Fin 8) : ((tieTerms p.val s).tp p.val).st = (s.tp p.val).st ∧
    ((tieTerms p.val s).tp p.val).role = (s.tp p.val).role ∧ ((tieTerms p.val s).tp p.val).feedPres = (s.tp p.val).feedPres ∧
    ((tieTerms p.val s).tp p.val).lease = (s.tp p.val).lease := by
  have key : ∀ v : State, (v.tp p.val).st = (s.tp p.val).st ∧ (v.tp p.val).role = (s.tp p.val).role ∧
      (v.tp p.val).feedPres = (s.tp p.val).feedPres ∧ (v.tp p.val).lease = (s.tp p.val).lease → ∀ l : List Offer,
      let w := v.modTp p.val fun x => { x with offers := l, winding := false }
      let r := if (s.tp p.val).turning then tieRaise p.val .ce 0x0409 (turnSeen p.val (w.modTp p.val fun x => { x with turning := false })) else w
      (r.tp p.val).st = (s.tp p.val).st ∧ (r.tp p.val).role = (s.tp p.val).role ∧ (r.tp p.val).feedPres = (s.tp p.val).feedPres ∧
      (r.tp p.val).lease = (s.tp p.val).lease := fun v hv l => by
    dsimp only
    split
    · rw [tp_tieRaise, tp_turnSeen, tp_modTp, tp_modTp]
      exact hv
    · rw [tp_modTp]
      exact hv
  unfold tieTerms
  refine key (if (tieOffers s p.val).isEmpty then tpSend p.val 0x20 [] s else tpAsk p.val 0x20 (payOffers (tieOffers s p.val)) s) ?_ _
  split
  · rw [tp_tpSend]
    exact ⟨rfl, rfl, rfl, rfl⟩
  · rw [tp_tpAsk]
    exact ⟨rfl, rfl, rfl, rfl⟩

theorem tp_tieTurnStart (s : State) (p : Fin 8) : (tieTurnStart p.val s).tp p.val = { s.tp p.val with
    st := .turn, turning := true, turnTick := s.now, winding := true, waiting := none, draw := none, granted := false } := tp_tpSet _ s p

theorem does_heard_again {i : Instr} {act : State → State} {m : PMsg} (hu : exec i s = Host.Outcome.next (settle (tpHeard p.val h act s)))
    (hs : (s.tp p.val).st ≠ .disabled) (hl : (s.tp p.val).lastRx = some (h.tag, some m)) :
    ∃ u, Does i s u ∧ u.tp p.val = { s.tp p.val with msgs := (s.tp p.val).msgs + 1, sent := some m } ∧ u.fcr = s.fcr := by
  rw [tpHeard_again hs hl] at hu
  exact ⟨_, hu, by rw [tp_modTp, tp_modTp], rfl⟩

theorem does_heard_disabled {i : Instr} {act : State → State} (hu : exec i s = Host.Outcome.next (settle (tpHeard p.val h act s)))
    (hs : (s.tp p.val).st = .disabled) : Does i s s := by
  rw [tpHeard_disabled hs] at hu
  exact hu

/-- A new message is acted on, the port having counted it; nothing else differs. -/
theorem does_heard {i : Instr} {act : State → State} (hu : exec i s = Host.Outcome.next (settle (tpHeard p.val h act s)))
    (hs : (s.tp p.val).st ≠ .disabled) (hl : (s.tp p.val).lastRx = none) :
    ∃ v, v.tp p.val = { s.tp p.val with msgs := (s.tp p.val).msgs + 1 } ∧ v = { s with tpc := v.tpc } ∧ Does i s (act v) := by
  obtain ⟨v, h1, h2, h3⟩ := tpHeard_new hs hl act
  rw [h2] at hu
  exact ⟨v, h1, h3, hu⟩

theorem tp_tieClaim (s : State) (p : Fin 8) : ∃ pay, (tieClaim p.val s).tp p.val = Tpc.asking s.now 0x21 pay (s.tp p.val) :=
  ⟨_, tp_tpAsk ..⟩

/-- TERMS at a taker without a lease, outside a role turn (R316). -/
theorem does_terms {of : List Offer} (hs : (s.tp p.val).st = .agree) (hl : (s.tp p.val).lastRx = none) (hr : (s.tp p.val).role = 2)
    (hh : (s.tp p.val).hailed = true) (htn : (s.tp p.val).turning = false) (hle : (s.tp p.val).lease = false) :
    ∃ u, Does (.terms p h of) s u ∧ (u.tp p.val).offers = of ∧ (u.tp p.val).lease = false ∧ (u.tp p.val).st = .agree ∧
      (of = [] → (u.tp p.val).waiting = none ∧ (u.tp p.val).sent = (s.tp p.val).sent) := by
  obtain ⟨v, hv, hvs, hu⟩ := does_heard (i := .terms p h of) rfl (by rw [hs]; decide) hl
  dsimp only at hu
  rw [if_neg (by rw [hv]; simp [hs, hr, hh]), if_neg (by rw [hv]; simp [hle]), if_neg (by rw [hv]; simp [htn])] at hu
  have e2 := tp_tieEndLease (v.modTp p.val fun x => { x with offers := of, waiting := none, defer := none }) p
  rw [tp_modTp, hv] at e2
  split at hu
  · exact ⟨_, hu, by rw [e2], by rw [e2], by rw [e2]; exact hs, fun _ => ⟨by rw [e2], by rw [e2]⟩⟩
  next i hi =>
    obtain ⟨w, hw⟩ : ∃ w, w = tieEndLease p.val (v.modTp p.val fun x => { x with offers := of, waiting := none, defer := none }) := ⟨_, rfl⟩
    rw [← hw] at hu e2
    obtain ⟨pay, e⟩ := tp_tieClaim (w.modTp p.val fun x => { x with idx := i, want := (tieOffer w p.val 8).iMax }) p
    rw [tp_modTp, e2] at e
    refine ⟨_, hu, by rw [tp_modTp, e]; rfl, by rw [tp_modTp, e]; rfl, by rw [tp_modTp, e]; exact hs, fun ho => ?_⟩
    rw [ho] at hi
    cases hi

/-- The presentations exchanged: the taker of before feeds (R318). -/
theorem tieExchange_taker (hr : (s.tp p.val).role = 2) : ((tieExchange p.val s).tp p.val).st = .agree ∧
    ((tieExchange p.val s).tp p.val).role = 1 ∧ ((tieExchange p.val s).tp p.val).feedPres = true ∧
    ((tieExchange p.val s).tp p.val).lease = false := by
  unfold tieExchange
  rw [hr]
  dsimp only
  rw [if_neg (by decide)]
  obtain ⟨h1, h2, h3, h4⟩ := tieTerms_kept (tpSet p.val (fun x => { x with
    st := .agree, role := if ((2 : BitVec 2) == 1) = true then 2 else 1, feedPres := !((2 : BitVec 2) == 1), lease := false, granted := false, grant := 0
    window := 0, winding := false, waiting := none, offers := [], turnTick := s.now }) s) p
  rw [tp_tpSet] at h1 h2 h3 h4
  exact ⟨h1, h2, h3, h4⟩

/-- The answer to a TURN that asks for a role turn of a port free to turn (R318). -/
theorem tieTurnAnswer_feeder (tag : BitVec 5) (hr : (s.tp p.val).role = 1) : tieTurnAnswer p.val tag s =
    if tiePref s p.val = 1 then tpReply p.val tag 0x23 (payByte 3) s
    else if (s.tp p.val).winding || (s.tp p.val).granted || ((s.tp p.val).waiting.any fun m => m.1.op == 0x20 || m.1.op == 0x21) then
      tpReply p.val tag 0x23 (payByte 4) s
    else tieTurnStart p.val (tpReply p.val tag 0x31 [] s) := by
  unfold tieTurnAnswer
  dsimp only
  rw [hr]
  simp

/-- TURN at a feeder in a lease of generation 2 that has asked for none itself is answered (R318). -/
theorem does_turn {d : BitVec 16} (ha : (s.tp p.val).st = .lease) (hg : (s.tp p.val).gen = 2) (hl : (s.tp p.val).lastRx = none)
    (htn : (s.tp p.val).turning = false) (hd : (s.tp p.val).draw = none) :
    ∃ v, v.tp p.val = { s.tp p.val with msgs := (s.tp p.val).msgs + 1 } ∧ v = { s with tpc := v.tpc } ∧
      Does (.turn p h d) s (tieTurnAnswer p.val h.tag v) := by
  have hu : Does (.turn p h d) s _ := rfl
  rw [if_neg (by rw [hg]; decide)] at hu
  obtain ⟨v, hv, hvs, hu⟩ := does_heard hu (by rw [ha]; decide) hl
  rw [if_neg (by rw [hv]; simp [ha, hg, htn]), hv] at hu
  dsimp only at hu
  rw [hd] at hu
  exact ⟨v, hv, hvs, hu⟩

end

/-- Settles O53: a new message acts on the port that has counted it. -/
theorem tiePortMessages : Obligations.TiePortMessages := by
  unfold Obligations.TiePortMessages
  intro s p n h hc hn x
  refine ⟨fun ma mi of cu d r hs => ⟨does_heard_disabled rfl hs, does_heard_disabled rfl hs, does_heard_disabled rfl hs,
      does_heard_disabled rfl hs, does_heard_disabled rfl hs, does_heard_disabled rfl hs, does_heard_disabled rfl hs,
      does_heard_disabled rfl hs⟩, fun m ma mi hs hl => does_heard_again rfl hs hl, fun hs hl => ⟨fun ma mi g ha hr hg => ?_,
      fun ma mi ha hr hg => ?_, fun of ha hr hh htn hle => ?_, fun ix cu ha hr hh htn => ⟨fun ho => ?_, fun o ho hst => ?_, fun o ho hst => ?_⟩,
      fun cu m k z hr hw hm => ?_, fun d m k z hw hm => ?_, fun ha => ?_, fun r hr hd => ?_, fun hr ha hg => ?_, fun hr ha => ?_, ?_⟩,
    fun d hg => ?_, fun hg => ?_, fun d ha hg hl htn hd hr => ⟨fun hp => ?_, fun hp hw => ?_, fun hp hw hgr hwt => ?_⟩, fun d ha hg hl hd => ?_,
    fun hr hg ha hw => ?_, fun hr hg ha hw => ?_, fun hr r => ?_⟩
  · obtain ⟨v, hv, hvs, hu⟩ := does_heard (i := .hail p h ma mi) rfl hs hl
    dsimp only at hu
    rw [if_neg (by rw [hv]; simp [show (s.tp p.val).st = .agree from ha, show (s.tp p.val).role = 2 from hr]), hg] at hu
    dsimp only at hu
    rw [if_pos (by rw [hv]; exact hr)] at hu
    have e := tp_tpReply h.tag 0x10 [2, 1, 0, 0] (tpSet p.val (fun x => { x with gen := BitVec.ofNat 2 g, hailed := true, waiting := none }) v) p
    rw [tp_tpSet, hv] at e
    exact ⟨_, _, hu, by rw [e]; rfl, by rw [e]; rfl, by rw [e]; rfl, rfl, by rw [e]; rfl, by rw [e]; rfl⟩
  · obtain ⟨v, hv, hvs, hu⟩ := does_heard (i := .hail p h ma mi) rfl hs hl
    dsimp only at hu
    rw [if_neg (by rw [hv]; simp [show (s.tp p.val).st = .agree from ha, show (s.tp p.val).role = 2 from hr]), hg] at hu
    dsimp only at hu
    have hcv : tieChan v p.val = some n := by rw [hvs]; exact hc
    obtain ⟨h1, h2, h3, cl, h4⟩ := tieNoGen_effect (s := tpReply p.val h.tag 0x23 (payByte 1) v)
      ((portsOnly_tpReply h.tag 0x23 (payByte 1) v p).tieChan.trans hcv) hn
    rw [tp_tpReply] at h2
    exact ⟨_, _, cl, hu, h1, h2, rfl, rfl, h3, h4⟩
  · obtain ⟨u, hu, h1, h2, h3, h4⟩ := does_terms (h := h) (of := of) ha hl hr hh htn hle
    exact ⟨⟨u, hu, h1, h2, h3⟩, fun ho => ⟨u, hu, h4 ho⟩⟩
  · obtain ⟨v, hv, hvs, hu⟩ := does_heard (i := .claim p h ix cu) rfl hs hl
    dsimp only at hu
    rw [if_neg (by rw [hv]; simp [show (s.tp p.val).st = .agree from ha, show (s.tp p.val).role = 1 from hr,
      show (s.tp p.val).hailed = true from hh, show (s.tp p.val).turning = false from htn]), hv] at hu
    dsimp only at hu
    rw [show (s.tp p.val).offers[ix.toNat]? = none from ho] at hu
    have e := tp_tpReply h.tag 0x23 (payByte 2) (v.modTp p.val fun x => { x with waiting := none }) p
    rw [tp_modTp, hv] at e
    exact ⟨_, _, hu, by rw [e]; rfl, rfl, rfl, by rw [e]; rfl⟩
  · obtain ⟨v, hv, hvs, hu⟩ := does_heard (i := .claim p h ix cu) rfl hs hl
    have hcv : tieChan v p.val = some n := by rw [hvs]; exact hc
    have hch : v.ch n = s.ch n := by rw [hvs]; rfl
    dsimp only at hu
    rw [if_neg (by rw [hv]; simp [show (s.tp p.val).st = .agree from ha, show (s.tp p.val).role = 1 from hr,
      show (s.tp p.val).hailed = true from hh, show (s.tp p.val).turning = false from htn]), hv] at hu
    dsimp only at hu
    rw [show (s.tp p.val).offers[ix.toNat]? = some o from ho] at hu
    dsimp only at hu
    rw [if_pos (by rw [hcv]; simp [hch, hst])] at hu
    have e := tp_tpReply h.tag 0x24 (payHalf 100) (v.modTp p.val fun x => { x with waiting := none }) p
    rw [tp_modTp, hv] at e
    exact ⟨_, _, hu, by rw [e]; rfl, rfl, by rw [e]; rfl⟩
  · obtain ⟨v, hv, hvs, hu⟩ := does_heard (i := .claim p h ix cu) rfl hs hl
    have hcv : tieChan v p.val = some n := by rw [hvs]; exact hc
    have hch : v.ch n = s.ch n := by rw [hvs]; rfl
    dsimp only at hu
    rw [if_neg (by rw [hv]; simp [show (s.tp p.val).st = .agree from ha, show (s.tp p.val).role = 1 from hr,
      show (s.tp p.val).hailed = true from hh, show (s.tp p.val).turning = false from htn]), hv] at hu
    dsimp only at hu
    rw [show (s.tp p.val).offers[ix.toNat]? = some o from ho] at hu
    dsimp only at hu
    rw [if_neg (by rw [hcv]; simp [hch, hst])] at hu
    have e := tp_tpReply h.tag 0x22 (payHalf (if cu.toNat ≤ o.iMax.toNat then cu else o.iMax))
      (v.modTp p.val fun x => { x with waiting := none }) p
    rw [tp_modTp, hv] at e
    exact ⟨_, _, hu, by rw [tp_tpSet, e]; rfl, rfl, by rw [tp_tpSet], by rw [tp_tpSet], by rw [tp_tpSet]⟩
  · obtain ⟨v, hv, hvs, hu⟩ := does_heard (i := .pilotGrant p h cu) rfl hs hl
    have hnow : v.now = s.now := by rw [hvs]; rfl
    dsimp only at hu
    rw [if_pos (by rw [hv]; simp [show (s.tp p.val).role = 2 from hr, show (s.tp p.val).waiting = some (m, k, z) from hw, hm])] at hu
    exact ⟨_, hu, by rw [tp_tpSet], by rw [tp_tpSet, hnow], by rw [tp_tpSet], by rw [tp_tpSet], by rw [tp_tpSet, hv]⟩
  · obtain ⟨v, hv, hvs, hu⟩ := does_heard (i := .defer p h d) rfl hs hl
    have hnow : v.now = s.now := by rw [hvs]; rfl
    rw [if_pos (by rw [hv]; simp [show (s.tp p.val).waiting = some (m, k, z) from hw, hm])] at hu
    exact ⟨_, hu, by rw [tp_modTp, hv, hnow]; rfl⟩
  · obtain ⟨v, hv, hvs, hu⟩ := does_heard (i := .decline p h 1) rfl hs hl
    have hcv : tieChan v p.val = some n := by rw [hvs]; exact hc
    dsimp only at hu
    rw [if_pos rfl, if_pos (by rw [hv]; exact ha)] at hu
    obtain ⟨h1, -, -, cl, h4⟩ := tieNoGen_effect hcv hn
    exact ⟨_, cl, hu, h1, h4⟩
  · obtain ⟨v, hv, hvs, hu⟩ := does_heard (i := .decline p h r) rfl hs hl
    dsimp only at hu
    rw [if_neg hr, if_neg (by rw [hv]; simp [show (s.tp p.val).draw = none from hd])] at hu
    exact ⟨_, hu, by rw [tp_modTp], by rw [tp_modTp, hv], by rw [hvs]; rfl⟩
  · obtain ⟨v, hv, hvs, hu⟩ := does_heard (i := .live p (some h) 0) rfl hs hl
    have hcv : tieChan v p.val = some n := by rw [hvs]; exact hc
    rw [if_pos (by rw [hv]; exact hr), tieLive] at hu
    rw [if_pos (by decide), if_pos (by rw [hv]; simp [show (s.tp p.val).st = .agree from ha, show (s.tp p.val).granted = true from hg])] at hu
    obtain ⟨h1, h2, h3, h4, -, cl, h6⟩ := tieLease_effect hcv hn
    exact ⟨_, cl, hu, h1, h2, h3, by rw [h4, hv], h6⟩
  · obtain ⟨v, hv, hvs, hu⟩ := does_heard (i := .live p (some h) 1) rfl hs hl
    rw [if_pos (by rw [hv]; exact hr), tieLive] at hu
    rw [if_neg (by decide), if_pos (by rw [hv]; simp [show (s.tp p.val).st = .turn from ha])] at hu
    exact ⟨_, hu, tieExchange_taker (by rw [hv]; exact hr)⟩
  · obtain ⟨v, hv, hvs, hu⟩ := does_heard (i := .pilotRestart p h) rfl hs hl
    have hcv : tieChan v p.val = some n := by rw [hvs]; exact hc
    have hra := raised_tieRaise_of (portsOnly_tpRest p.val v) hcv hn .ce 0x0405
    have e : (tieRaise p.val .ce 0x0405 (tpRest p.val v)).tp p.val = Tpc.resting v.now { s.tp p.val with msgs := (s.tp p.val).msgs + 1 } := by
      rw [tp_tieRaise, tp_tpRest, hv]
    exact ⟨_, _, hu, by rw [e]; rfl, by rw [e]; rfl, by rw [tieHiZ, e]; simp [Tpc.resting], by rw [e]; rfl, hra⟩
  · have hu : Does (.turn p h d) s _ := rfl
    rw [if_pos hg] at hu
    exact ⟨_, hu, tp_modTp _ s p, rfl⟩
  · have hu : Does (.turnOk p h) s _ := rfl
    rw [if_pos hg] at hu
    exact ⟨_, hu, tp_modTp _ s p⟩
  · obtain ⟨v, hv, hvs, hu⟩ := does_turn (h := h) (d := d) ha hg hl htn hd
    have hpv : tiePref v p.val = tiePref s p.val := by rw [hvs]; rfl
    rw [tieTurnAnswer_feeder h.tag (by rw [hv]; exact hr), hpv, if_pos hp] at hu
    have e := tp_tpReply h.tag 0x23 (payByte 3) v p
    rw [hv] at e
    exact ⟨_, _, hu, by rw [e]; rfl, rfl, rfl, by rw [e]; exact ha⟩
  · obtain ⟨v, hv, hvs, hu⟩ := does_turn (h := h) (d := d) ha hg hl htn hd
    have hpv : tiePref v p.val = tiePref s p.val := by rw [hvs]; rfl
    rw [tieTurnAnswer_feeder h.tag (by rw [hv]; exact hr), hpv, if_neg hp, if_pos (by rw [hv]; simp [show (s.tp p.val).winding = true from hw])] at hu
    have e := tp_tpReply h.tag 0x23 (payByte 4) v p
    rw [hv] at e
    exact ⟨_, _, hu, by rw [e]; rfl, rfl, rfl, by rw [e]; exact ha⟩
  · obtain ⟨v, hv, hvs, hu⟩ := does_turn (h := h) (d := d) ha hg hl htn hd
    have hpv : tiePref v p.val = tiePref s p.val := by rw [hvs]; rfl
    have hnow : v.now = s.now := by rw [hvs]; rfl
    rw [tieTurnAnswer_feeder h.tag (by rw [hv]; exact hr), hpv, if_neg hp, if_neg (by
      rw [hv]; simp [show (s.tp p.val).winding = false from hw, show (s.tp p.val).granted = false from hgr, show (s.tp p.val).waiting = none from hwt])] at hu
    have e := tp_tieTurnStart (tpReply p.val h.tag 0x31 [] v) p
    rw [tp_tpReply, hv] at e
    exact ⟨_, _, hu, by rw [e]; rfl, rfl, by rw [e], by rw [e], by rw [e]; exact hnow⟩
  · have hu : Does (.turnOk p h) s _ := rfl
    rw [if_neg (by rw [show (s.tp p.val).gen = 2 from hg]; decide)] at hu
    obtain ⟨v, hv, hvs, hu⟩ := does_heard hu (by rw [show (s.tp p.val).st = .lease from ha]; decide) hl
    rw [if_pos (by rw [hv]; simp [show (s.tp p.val).st = .lease from ha, show (s.tp p.val).draw = some d from hd])] at hu
    have e := tp_tieTurnStart v p
    exact ⟨_, hu, by rw [e], by rw [e], by rw [e]⟩
  · have hu : Does (.live p none 0) s _ := rfl
    dsimp only at hu
    rw [if_neg (by simp [show (s.tp p.val).st = .agree from ha, hw])] at hu
    exact hu
  · have hu : Does (.live p none 0) s _ := rfl
    dsimp only at hu
    rw [if_pos (by simp [show (s.tp p.val).st = .agree from ha, show (s.tp p.val).role = 1 from hr,
      show (s.tp p.val).granted = true from hg, hw]), tieLive] at hu
    have e := tp_tpSend 0x25 (payByte 0) s p
    rw [if_pos (by decide), if_pos (by rw [e]; simp [Tpc.sending, show (s.tp p.val).st = .agree from ha, show (s.tp p.val).granted = true from hg])] at hu
    obtain ⟨h1, -, -, -, h5, cl, h6⟩ := tieLease_effect (s := tpSend p.val 0x25 (payByte 0) s) ((portsOnly_tpSend ..).tieChan.trans hc) hn
    rw [e] at h5
    exact ⟨_, _, cl, hu, h1, h5, rfl, h6⟩
  · have hu : Does (.live p none r) s _ := rfl
    dsimp only at hu
    rw [if_neg (by rw [decide_eq_false (show (s.tp p.val).role ≠ 1 from hr)]; simp)] at hu
    exact hu

end Sys2Proof.Claims
end

section
/-!
PROOF. The ends of the timers and windows of the library tasks (R257, R258, R260, R261, R265, R269, R271, R272, R285, R287, R288).
-/
namespace Sys2Proof.Claims
open Sys2Proof Sys2Proof.Machine

section
variable {s u v : State} {c : Ctx} {t t' : Task}

/-! The record of a library task, and what leaves it. -/

@[simp] theorem libOf_modLib (f : LibSt → LibSt) (s : State) (c : Ctx) : libOf (modLib c.val f s) c.val = f (libOf s c.val) :=
  congrArg Context.lib (State.modCx_cx_val s c _)
@[simp] theorem libOf_parmPut (a : Nat) (x : W) (s : State) (n : Nat) : libOf (parmPut t a x s) n = libOf s n := rfl
@[simp] theorem libOf_libHead (st reason : Nat) (b : Bool) (s : State) (n : Nat) : libOf (libHead t st reason b s) n = libOf s n := rfl
@[simp] theorem parm_modLib (n : Nat) (f : LibSt → LibSt) (s : State) (a : Nat) : parm (modLib n f s) t a = parm s t a := rfl
@[simp] theorem shared_modLib (n : Nat) (f : LibSt → LibSt) (s : State) : (modLib n f s).shared = s.shared := rfl
@[simp] theorem libState_modLib (n : Nat) (f : LibSt → LibSt) (s : State) : libState (modLib n f s) t = libState s t := rfl

/-! The head word of a parameter block (Table 11.1, word 3). -/

/-- The head word: state, reason and VALID. -/
def headWord (st reason : Nat) (valid : Bool) : W := fld st 24 ||| fld (reason % 256) 16 ||| flag valid 0

theorem headWord_toNat {st : Nat} (h : st < 256) (reason : Nat) (valid : Bool) :
    (headWord st reason valid).toNat = st * 2 ^ 24 + (reason % 256 * 2 ^ 16 + b2n valid * 2 ^ 0) := by
  have hb : b2n valid ≤ 1 := by cases valid <;> decide
  have h0 : (flag valid 0).toNat = b2n valid * 2 ^ 0 := by rw [flag_eq_fld]; exact fld_toNat (by omega)
  have h1 : (fld (reason % 256) 16 ||| flag valid 0).toNat = reason % 256 * 2 ^ 16 + b2n valid * 2 ^ 0 := by
    rw [fld_or_toNat (by omega) (by omega), h0]
  rw [headWord, BitVec.or_assoc, fld_or_toNat (by omega) (by omega), h1]

theorem headWord_state {st : Nat} (h : st < 256) (reason : Nat) (valid : Bool) : (headWord st reason valid).bits 31 24 = st := by
  have hb : b2n valid ≤ 1 := by cases valid <;> decide
  rw [W.bits, headWord_toNat h, Nat.shiftRight_eq_div_pow]
  omega

theorem headWord_reason {st : Nat} (h : st < 256) (reason : Nat) (valid : Bool) :
    (headWord st reason valid).bits 23 16 = reason % 256 := by
  have hb : b2n valid ≤ 1 := by cases valid <;> decide
  rw [W.bits, headWord_toNat h, Nat.shiftRight_eq_div_pow]
  omega

theorem libState_lt (s : State) (t : Task) : libState s t < 256 := Nat.mod_lt _ (by decide)

theorem libState_congr (h : parm u t 3 = parm s t 3) : libState u t = libState s t := congrArg (W.bits · 31 24) h

theorem libHead_eq (st reason : Nat) (b : Bool) (s : State) : libHead t st reason b s = parmPut t 3 (headWord st reason b) s := rfl

theorem libState_libHead (hw : Memory.wf s.shared = true) {st : Nat} (h : st < 256) (reason : Nat) (b : Bool) :
    libState (libHead t st reason b s) t = st := by
  rw [libState, libHead_eq, parm_parmPut hw, headWord_state h]

theorem libReason_libHead (hw : Memory.wf s.shared = true) {st : Nat} (h : st < 256) (reason : Nat) (b : Bool) :
    libReason (libHead t st reason b s) t = reason % 256 := by
  rw [libReason, libHead_eq, parm_parmPut hw, headWord_reason h]

theorem libState_parmPut (hw : Memory.wf s.shared = true) {a : Nat} (h : 3 ≠ a) (x : W) :
    libState (parmPut t a x s) t = libState s t := libState_congr (parm_parmPut_ne hw t h x)

/-! A feed goes back to its block (Table 11.1). -/

/-- The block of a feed once it has been stored. -/
def feedBlock (t : Task) (f : FeedW) (st : Nat) (valid : Bool) (s : State) : State :=
  parmPut t 20 (nw (ceilDiv (coolTicks s t f st) 2000)) (parmPut t 19 f.latchTick (parmPut t 18 (feedFlags f)
    (libHead t f.st f.reason valid s)))

/-- The occurrences of a feed (R260). -/
def feedRaise (c : Nat) (t : Task) (ev : List (EvClass × Nat)) (s : State) : State :=
  ev.foldl (fun s e => raisePP (libCh t) e.1 e.2 c t s) s

theorem raisePP_kept (k : Nat) (cls : EvClass) (code n : Nat) (s : State) :
    (raisePP k cls code n t s).shared = s.shared ∧ ∀ d, (raisePP k cls code n t s).cx d = s.cx d := by
  refine ⟨?_, fun d => ?_⟩
  · simp [raisePP]
  · simp only [raisePP, State.cx, State.raiseP_ctx]

theorem feedRaise_kept (n : Nat) (ev : List (EvClass × Nat)) (s : State) :
    (feedRaise n t ev s).shared = s.shared ∧ ∀ d, (feedRaise n t ev s).cx d = s.cx d := by
  induction ev generalizing s with
  | nil => exact ⟨rfl, fun _ => rfl⟩
  | cons e ev ih =>
    obtain ⟨h1, h2⟩ := ih (raisePP (libCh t) e.1 e.2 n t s)
    obtain ⟨k1, k2⟩ := raisePP_kept (t := t) (libCh t) e.1 e.2 n s
    exact ⟨h1.trans k1, fun d => (h2 d).trans (k2 d)⟩

theorem libStage_kept (rt : Nat) (cmd : W) (mode : Nat) (s : State) :
    (libStage t rt cmd mode s).shared = s.shared ∧ ∀ d, (libStage t rt cmd mode s).cx d = s.cx d :=
  ⟨rfl, fun _ => rfl⟩

theorem cx_modLib_congr (h : u.ctx = s.ctx) (n : Nat) (f : LibSt → LibSt) (d : Nat) : (modLib n f u).cx d = (modLib n f s).cx d := by
  simp only [modLib, State.modCx, State.cx, h]

theorem ctx_parmPut (a : Nat) (x : W) (s : State) : (parmPut t a x s).ctx = s.ctx := rfl

theorem feedBlock_ctx (f : FeedW) (st : Nat) (valid : Bool) (s : State) : (feedBlock t f st valid s).ctx = s.ctx := by
  simp only [feedBlock, libHead_eq, ctx_parmPut]

/-- What a feed leaves behind: its block, its record, and its occurrences over a state of both. -/
theorem feedStore_eq (n : Nat) (t : Task) (f : FeedW) (st rt : Nat) (valid : Bool) (s : State) :
    ∃ v, v.shared = (feedBlock t f st valid s).shared ∧ (∀ d, v.cx d = (modLib n (fun _ => f.lib) s).cx d) ∧
      feedStore n t f st rt valid s = feedRaise n t f.ev v := by
  obtain ⟨k1, k2⟩ := libStage_kept (t := t) rt (feedOut f).1 (feedOut f).2 (modLib n (fun _ => f.lib) (feedBlock t f st valid s))
  exact ⟨_, k1, fun d => (k2 d).trans (cx_modLib_congr (feedBlock_ctx f st valid s) n _ d), rfl⟩

/-- The words of a feed's block read back, for a feed with at most one occurrence. -/
theorem feedStored (hw : Memory.wf s.shared = true) {f : FeedW} (hf : f.st < 256) (c : Ctx) (st rt : Nat) (valid : Bool) :
    let u := feedStore c.val t f st rt valid s
    libState u t = f.st ∧ libReason u t = f.reason % 256 ∧ parm u t 18 = feedFlags f ∧ parm u t 19 = f.latchTick ∧
      parm u t 20 = nw (ceilDiv (coolTicks s t f st) 2000) ∧ libOf u c.val = f.lib := by
  intro u
  obtain ⟨v, hv, hx, e⟩ := feedStore_eq c.val t f st rt valid s
  obtain ⟨k1, k2⟩ := feedRaise_kept (t := t) c.val f.ev v
  have hu : u = feedRaise c.val t f.ev v := e
  have hs : ∀ a, parm u t a = parm (feedBlock t f st valid s) t a := fun a => parm_congr (by rw [hu, k1, hv]) t a
  have h0 : Memory.wf (libHead t f.st f.reason valid s).shared = true := wf_parmPut hw t 3 _
  have h1 := wf_parmPut h0 t 18 (feedFlags f)
  have h2 := wf_parmPut h1 t 19 f.latchTick
  have h3 : parm (feedBlock t f st valid s) t 3 = parm (libHead t f.st f.reason valid s) t 3 := by
    rw [feedBlock, parm_parmPut_ne h2 t (by decide), parm_parmPut_ne h1 t (by decide), parm_parmPut_ne h0 t (by decide)]
  refine ⟨?_, ?_, ?_, ?_, ?_, ?_⟩
  · exact (congrArg (W.bits · 31 24) ((hs 3).trans h3)).trans (libState_libHead hw hf _ _)
  · exact (congrArg (W.bits · 23 16) ((hs 3).trans h3)).trans (libReason_libHead hw hf _ _)
  · rw [hs, feedBlock, parm_parmPut_ne h2 t (by decide), parm_parmPut_ne h1 t (by decide), parm_parmPut h0]
  · rw [hs, feedBlock, parm_parmPut_ne h2 t (by decide), parm_parmPut h1]
  · rw [hs, feedBlock, parm_parmPut h2]
  · rw [hu, libOf, k2, hx]
    exact libOf_modLib (fun _ => f.lib) s c

/-- The sources of the channels' units record their own class. -/
theorem srcKind_library {k : Nat} (h : k < 192) : srcKind (4 * k + 3) ≠ 2 := by
  unfold srcKind
  split
  · omega
  · split <;> decide

/-- A feed that enters LATCHED raises its occurrence (R257). -/
theorem raised_feedStore {f : FeedW} {code : Nat} (hf : f.ev = [(.uc, code)]) (hc : libCh t < 192) (n st rt : Nat) (valid : Bool) :
    raised (feedStore n t f st rt valid s) (4 * libCh t + 3) .uc code := by
  obtain ⟨v, hv, hx, e⟩ := feedStore_eq n t f st rt valid s
  rw [e, hf]
  exact raised_raise (srcKind_library hc) _ .uc code _ n t.num

/-- COOL_DONE once T_COOL has run (R260). -/
theorem feedCool_done {f : FeedW} {band st : Nat} (hl : f.latched = true) (hd : (parm s t 7).toNat * 2000 ≤ st - f.lib.latch)
    (hb : band ≤ (parm s t 8).toNat) : feedCool s t band st f = { f with coolDone := true } := by
  obtain ⟨st', reason, pg, latched, present, coolDone, offSeen, latchTick, lib, ev⟩ := f
  change latched = true at hl
  cases coolDone with
  | true => simp [feedCool]
  | false => simp [feedCool, coolTicks, hl, hb, Nat.sub_eq_zero_of_le hd]

/-- A feed with COOL_DONE has no tick of T_COOL left. -/
theorem coolTicks_done {f : FeedW} (h : f.coolDone = true) (st : Nat) : coolTicks s t f st = 0 := by simp [coolTicks, h]

theorem feedFlags_latched (f : FeedW) : (feedFlags f).bit 2 = f.latched := by simp [feedFlags, or_bit, flag_bit]
theorem feedFlags_pg (f : FeedW) : (feedFlags f).bit 0 = f.pg := by simp [feedFlags, or_bit, flag_bit]
theorem feedFlags_present (f : FeedW) : (feedFlags f).bit 3 = f.present := by simp [feedFlags, or_bit, flag_bit]
theorem feedFlags_coolDone (f : FeedW) : (feedFlags f).bit 4 = f.coolDone := by simp [feedFlags, or_bit, flag_bit]
theorem feedFlags_offSeen (f : FeedW) : (feedFlags f).bit 5 = f.offSeen := by simp [feedFlags, or_bit, flag_bit]

/-- What a timer's end changes of a feed. -/
theorem feedEvent_some (ht : libAt s c.val libFeed = some t) (f : State → Task → FeedW → FeedW) :
    feedEvent c.val f s = feedStore c.val t (f s t (feedLoad s c.val t)) (s.now - 1) s.now (libValid s t) s := by
  rw [feedEvent, ht]

theorem feedEvent_none (ht : libAt s c.val libFeed = none) (f : State → Task → FeedW → FeedW) : feedEvent c.val f s = s := by
  rw [feedEvent, ht]

/-- The ends of a feed's timers (R258, R257, R260, R261). -/
theorem feed_timers (s : State) (c : Ctx) (hw : Memory.wf s.shared = true) (t : Task) (ht : libAt s c.val libFeed = some t)
    (hc : libCh t < 192) :
    let x := libOf s c.val
    (∀ z, x.timer = some z → z + (parm s t 6).toNat ≤ s.now - 1 → libState s t = 1 ∨ libState s t = 2 → ∃ u, Does (.feedFaultTimerExpiry c) s u ∧ libState u t = 3 ∧
      libReason u t = 1 ∧ (parm u t 18).bit 2 = true ∧ (parm u t 18).bit 0 = false ∧ parm u t 19 = tc32 (s.now - 1) ∧
      (libOf u c.val).timer = none ∧ raised u (4 * libCh t + 3) .uc 1) ∧
    (libState s t = 1 → x.since + (parm s t 9).toNat * 2000 ≤ s.now - 1 → (parm s t 17).toInt < parmF s t 4 0 → ∃ u,
      Does (.feedRampTimeout c) s u ∧ libState u t = 3 ∧ libReason u t = 3 ∧
      (parm u t 18).bit 2 = true ∧ raised u (4 * libCh t + 3) .uc 3) ∧
    ((parm s t 18).bit 2 = true → (parm s t 7).toNat * 2000 ≤ s.now - 1 - x.latch → bandOf s (libCh t) ≤ (parm s t 8).toNat → ∃ u, Does (.feedCoolDownEnd c) s u ∧
      (parm u t 18).bit 4 = true ∧ parm u t 20 = 0 ∧ libState u t = libState s t) ∧
    (∀ t0, x.pres = some (false, t0) → t0 + (parm s t 11).toNat * 2000 ≤ s.now - 1 → ∃ u, Does (.feedPresenceAccepted c) s u ∧ libState u t = 4 ∧
      (parm u t 18).bit 3 = false ∧ (parm u t 18).bit 5 = true ∧ (libOf u c.val).pres = none) := by
  have latch : ∀ (i : Instr) (code : Nat) (f : State → Task → FeedW → FeedW), code < 256 →
      exec i s = Host.Outcome.next (settle (feedEvent c.val f s)) →
      f s t (feedLoad s c.val t) = feedLatch (s.now - 1) code (feedLoad s c.val t) →
      ∃ u, Does i s u ∧ libState u t = 3 ∧ libReason u t = code ∧ (parm u t 18).bit 2 = true ∧ (parm u t 18).bit 0 = false ∧
        parm u t 19 = tc32 (s.now - 1) ∧ (libOf u c.val).timer = none ∧ raised u (4 * libCh t + 3) .uc code := by
    intro i code f hcode hu hf
    rw [feedEvent_some ht, hf] at hu
    obtain ⟨e1, e2, e3, e4, e5, e6⟩ := feedStored (t := t) hw (f := feedLatch (s.now - 1) code (feedLoad s c.val t)) (by decide : 3 < 256)
      c (s.now - 1) s.now (libValid s t)
    refine ⟨_, hu, e1, e2.trans (Nat.mod_eq_of_lt hcode), ?_, ?_, e4, ?_, raised_feedStore rfl hc _ _ _ _⟩
    · rw [e3, feedFlags_latched]; rfl
    · rw [e3, feedFlags_pg]; rfl
    · rw [e6]; rfl
  intro x
  refine ⟨fun z hz hd hs => ?_, fun hs hd hv => ?_, fun hl hd hb => ?_, fun t0 hp hd => ?_⟩
  · refine latch _ 1 _ (by decide) rfl ?_
    have h1 : (feedLoad s c.val t).lib.timer = some z := hz
    have h2 : (feedLoad s c.val t).st = libState s t := rfl
    rw [h1, h2, if_pos]
    simp [hd, hs]
  · obtain ⟨u, h1, h2, h3, h4, -, -, -, h5⟩ := latch (.feedRampTimeout c) 3 _ (by decide) rfl (by
      have h1 : (feedLoad s c.val t).lib.since = x.since := rfl
      have h2 : (feedLoad s c.val t).st = libState s t := rfl
      rw [h1, h2, if_pos]
      simp [hd, hs, hv])
    exact ⟨u, h1, h2, h3, h4, h5⟩
  · have hu : Does (.feedCoolDownEnd c) s _ := rfl
    rw [feedEvent_some ht, feedCool_done (f := feedLoad s c.val t) hl hd hb] at hu
    obtain ⟨e1, -, e3, -, e5, -⟩ := feedStored (t := t) hw (f := { feedLoad s c.val t with coolDone := true }) (libState_lt s t)
      c (s.now - 1) s.now (libValid s t)
    refine ⟨_, hu, ?_, ?_, e1⟩
    · rw [e3, feedFlags_coolDone]
    · rw [e5, coolTicks_done rfl]; rfl
  · have hu : Does (.feedPresenceAccepted c) s _ := rfl
    have h1 : (feedLoad s c.val t).lib.pres = some (false, t0) := hp
    rw [feedEvent_some ht, h1] at hu
    dsimp only at hu
    rw [if_pos hd] at hu
    obtain ⟨e1, -, e3, -, -, e6⟩ := feedStored (t := t) hw
      (f := feedAccept s t false (parmI s t 17) (s.now - 1) (feedLoad s c.val t)) (by decide : 4 < 256) c (s.now - 1) s.now (libValid s t)
    refine ⟨_, hu, e1, ?_, ?_, ?_⟩
    · rw [e3, feedFlags_present]; rfl
    · rw [e3, feedFlags_offSeen]; rfl
    · rw [e6]; rfl

theorem feed_none (s : State) (c : Ctx) (ht : libAt s c.val libFeed = none) : Does (.feedFaultTimerExpiry c) s s ∧
    Does (.feedRampTimeout c) s s ∧ Does (.feedCoolDownEnd c) s s ∧ Does (.feedPresenceAccepted c) s s := by
  have h : ∀ (i : Instr) f, exec i s = Host.Outcome.next (settle (feedEvent c.val f s)) → Does i s s := fun i f hu =>
    hu.trans (congrArg (fun x => Host.Outcome.next (settle x)) (feedEvent_none ht f))
  exact ⟨h _ _ rfl, h _ _ rfl, h _ _ rfl, h _ _ rfl⟩

/-! A battery string (R265). -/

theorem wf_ledgerAbsent (n : Nat) (b : Bool) (s : State) : (ledgerAbsent n b s).shared = s.shared := by
  unfold ledgerAbsent
  split <;> rfl

theorem ledgerOf_lt {n k : Nat} (h : ledgerOf s n = some k) : k < 64 := by
  unfold ledgerOf at h
  obtain ⟨d, -, hd⟩ := Option.bind_eq_some_iff.mp h
  split at hd
  · obtain rfl := Option.some.inj hd
    simp_all
  · exact absurd hd (by simp)

theorem ledgerAbsent_clg {n k : Nat} (h : ledgerOf s n = some k) (b : Bool) :
    (vat (ledgerAbsent n b s).clg k Ledger.init).absent = b := by
  unfold ledgerAbsent
  rw [h]
  exact congrArg Ledger.absent (vat_vmod_self s.clg (ledgerOf_lt h) _ _)

/-- A string that reinserts (R265). -/
theorem stringRest_effect (hw : Memory.wf s.shared = true) (c : Ctx) : libState (stringRest c.val t s) t = 4 ∧
    (libOf (stringRest c.val t s) c.val).timer = none ∧
    ∀ k, ledgerOf s (libCh t) = some k → (vat (stringRest c.val t s).clg k Ledger.init).absent = false := by
  refine ⟨libState_libHead (s := modLib c.val _ (ledgerAbsent (libCh t) false s)) ?_ (by decide) _ _, ?_, fun k hk => ?_⟩
  · exact (congrArg Memory.wf (wf_ledgerAbsent (libCh t) false s)).trans hw
  · exact congrArg LibSt.timer (libOf_modLib (fun x => { x with timer := none }) (ledgerAbsent (libCh t) false s) c)
  · exact ledgerAbsent_clg hk false

theorem string_timer (s : State) (c : Ctx) (hw : Memory.wf s.shared = true) (t : Task) (ht : libAt s c.val libBatt = some t) :
    let x := libOf s c.val
    (∀ z, libState s t = 3 → x.timer = some z → z + (parm s t 10).toNat * 2000 ≤ s.now - 1 → ∃ u, Does (.stringReinsTimer c) s u ∧ libState u t = 4 ∧ (libOf u c.val).timer = none ∧
      ∀ k, ledgerOf s (libCh t) = some k → (vat u.clg k Ledger.init).absent = false) ∧
    (libState s t ≠ 3 ∨ x.timer = none → Does (.stringReinsTimer c) s s) := by
  intro x
  have hu : Does (.stringReinsTimer c) s _ := rfl
  rw [ht] at hu
  dsimp only at hu
  refine ⟨fun z hs hz hd => ?_, fun h => ?_⟩
  · rw [show (libOf s c.val).timer = some z from hz, if_pos (by simp [hs, hd])] at hu
    exact ⟨_, hu, stringRest_effect hw c⟩
  · refine does_kept hu fun hn => ?_
    simp only [Bool.and_eq_true, decide_eq_true_eq] at hn
    obtain ⟨h1, h2⟩ := hn
    rcases h with h | h
    · exact h h1
    · rw [show (libOf s c.val).timer = none from h] at h2
      exact absurd h2 (by simp)

/-! Hold-up (R269). -/

/-- The rectifiers of a Hold-up block lie apart from it. -/
def RectApart (s : State) (t : Task) : Prop :=
  ∀ n v, memberTask s libRect n = some v → v.paramAt + 48 ≤ t.paramAt ∨ t.paramAt + 48 ≤ v.paramAt

/-- A word of a member's block. -/
theorem memberPut_frame {n a b : Nat} (hr : RectApart s t) (hw : Memory.wf s.shared = true) (ha : a < 48) (hb : b < 48) (x : W) :
    Memory.wf (memberPut libRect n a x s).shared = true ∧ parm (memberPut libRect n a x s) t b = parm s t b ∧
      (memberPut libRect n a x s).cx = s.cx ∧ (memberPut libRect n a x s).adm = s.adm := by
  unfold memberPut
  split
  next v hv =>
    refine ⟨wf_parmPut hw v a x, Memory.readW_writeW_ne _ _ x hw ?_, rfl, rfl⟩
    have := hr n v hv
    omega
  next => exact ⟨hw, rfl, rfl, rfl⟩

/-- Words of the members' blocks leave the Hold-up block's own. -/
theorem memberPuts_frame {a : Nat} (ha : a < 48) (x : State → Nat → W) (l : List Nat) : ∀ s : State, RectApart s t →
    Memory.wf s.shared = true →
    let u := l.foldl (fun s n => memberPut libRect n a (x s n) s) s
    Memory.wf u.shared = true ∧ (∀ b < 48, parm u t b = parm s t b) ∧ u.cx = s.cx ∧ u.adm = s.adm := by
  induction l with
  | nil => exact fun s _ hw => ⟨hw, fun _ _ => rfl, rfl, rfl⟩
  | cons n l ih =>
    intro s hr hw
    have h : ∀ b < 48, _ := fun b hb => memberPut_frame (n := n) (b := b) hr hw ha hb (x s n)
    obtain ⟨h1, -, h3, h4⟩ := h 0 (by decide)
    have hr1 : RectApart (memberPut libRect n a (x s n) s) t := by
      intro m v hv
      refine hr m v (Eq.trans ?_ hv)
      rw [memberTask, memberTask, ownerOf, ownerOf, h4]
    obtain ⟨k1, k2, k3, k4⟩ := ih _ hr1 h1
    exact ⟨k1, fun b hb => (k2 b hb).trans (h b hb).2.1, k3.trans h3, k4.trans h4⟩

theorem rectApart_congr (h : u.adm = s.adm) (hr : RectApart s t) : RectApart u t := by
  intro n v hv
  refine hr n v (Eq.trans ?_ hv)
  rw [memberTask, memberTask, ownerOf, ownerOf, h]

/-- A qualification in full: RETURN, with the return limit at 0 (Table 11.8). -/
theorem holdReturn_effect (hr : RectApart s t) (hw : Memory.wf s.shared = true) (c : Ctx) :
    libState (holdSet c.val t 4 s) t = 4 ∧ parm (holdSet c.val t 4 s) t 33 = 0 ∧
      (libOf (holdSet c.val t 4 s) c.val).since = s.now ∧ (libOf (holdSet c.val t 4 s) c.val).limRet = 0 := by
  obtain ⟨w, hw0⟩ : ∃ w, w = libHead t 4 (libReason s t) true (modLib c.val (fun x => { x with since := s.now }) s) := ⟨_, rfl⟩
  have hw1 : Memory.wf w.shared = true := by
    rw [hw0]
    exact wf_parmPut (s := modLib c.val (fun x => { x with since := s.now }) s) hw t 3 _
  have hw2 : libState w t = 4 := by
    rw [hw0]
    exact libState_libHead (s := modLib c.val (fun x => { x with since := s.now }) s) hw (by decide) _ _
  have hw3 : (libOf w c.val).since = s.now := by
    rw [hw0, libOf_libHead, libOf_modLib]
  have hw4 : w.adm = s.adm := by rw [hw0]; rfl
  obtain ⟨a1, a2, a3, a4⟩ := memberPuts_frame (t := t) (a := 7) (by decide) (fun _ _ => flag true 0) (members (parmPut t 33 0 w) t 16 8)
    (parmPut t 33 0 w) (rectApart_congr hw4 hr) (wf_parmPut hw1 t 33 0)
  obtain ⟨v, hv⟩ : ∃ v, v = holdRun t true (parmPut t 33 0 w) := ⟨_, rfl⟩
  change Memory.wf (holdRun t true (parmPut t 33 0 w)).shared = true at a1
  change ∀ b < 48, parm (holdRun t true (parmPut t 33 0 w)) t b = parm (parmPut t 33 0 w) t b at a2
  change (holdRun t true (parmPut t 33 0 w)).cx = w.cx at a3
  change (holdRun t true (parmPut t 33 0 w)).adm = w.adm at a4
  rw [← hv] at a1 a2 a3 a4
  obtain ⟨-, b2, b3, -⟩ := memberPuts_frame (t := t) (a := 6) (by decide) (fun s n => iw (toCounts s n 1 0)) (members v t 16 8)
    (modLib c.val (fun x => { x with limRet := 0 }) v) (rectApart_congr (a4.trans hw4) hr) a1
  have e : holdSet c.val t 4 s = holdLimit c.val t 0 v := by rw [hv, hw0]; rfl
  rw [e]
  change ∀ b < 48, parm (holdLimit c.val t 0 v) t b = parm v t b at b2
  change (holdLimit c.val t 0 v).cx = _ at b3
  have hlib : libOf (holdLimit c.val t 0 v) c.val = { libOf w c.val with limRet := 0 } := by
    rw [libOf, b3]
    refine (libOf_modLib (fun x => { x with limRet := 0 }) v c).trans ?_
    rw [libOf, a3]; rfl
  refine ⟨?_, ?_, ?_, ?_⟩
  · rw [← hw2]
    exact libState_congr ((b2 3 (by decide)).trans ((a2 3 (by decide)).trans (parm_parmPut_ne hw1 t (by decide) 0)))
  · exact (b2 33 (by decide)).trans ((a2 33 (by decide)).trans (parm_parmPut hw1 t 33 0))
  · rw [hlib]; exact hw3
  · rw [hlib]

theorem hold_timers (s : State) (c : Ctx) (hw : Memory.wf s.shared = true) (t : Task) (ht : libAt s c.val libHold = some t)
    (hr : RectApart s t) :
    let x := libOf s c.val
    (libState s t = 1 → (parm s t 8).toNat ≤ (s.now - x.since) / 2000 → ∃ u, Does (.holdupHandTimer c) s u ∧ libState u t = 2 ∧ (libOf u c.val).since = s.now) ∧
    (libState s t = 3 → (parm s t 6).toNat ≤ (s.now - x.since) / 2000 → ∃ u, Does (.holdupQualEnd c) s u ∧ libState u t = 4 ∧ parm u t 33 = 0 ∧
      (libOf u c.val).since = s.now ∧ (libOf u c.val).limRet = 0) ∧
    (libState s t ≠ 1 ∨ (s.now - x.since) / 2000 < (parm s t 8).toNat → Does (.holdupHandTimer c) s s) ∧
    (libState s t ≠ 3 ∨ (s.now - x.since) / 2000 < (parm s t 6).toNat → Does (.holdupQualEnd c) s s) := by
  dsimp only
  have hu : Does (.holdupHandTimer c) s _ := rfl
  have hq : Does (.holdupQualEnd c) s _ := rfl
  rw [ht] at hu hq
  dsimp only at hu hq
  refine ⟨fun hs hd => ?_, fun hs hd => ?_, fun h => ?_, fun h => ?_⟩
  · rw [if_pos (by simp [hs, hd])] at hu
    exact ⟨_, hu, libState_libHead (s := modLib c.val (fun x => { x with since := s.now }) s) hw (by decide) _ _,
      congrArg LibSt.since (libOf_modLib (fun x => { x with since := s.now }) s c)⟩
  · rw [if_pos (by simp [hs, hd])] at hq
    exact ⟨_, hq, holdReturn_effect hr hw c⟩
  · refine does_kept hu fun hn => ?_
    simp only [Bool.and_eq_true, decide_eq_true_eq] at hn
    omega
  · refine does_kept hq fun hn => ?_
    simp only [Bool.and_eq_true, decide_eq_true_eq] at hn
    omega

/-! Cap (R271, R272). -/

theorem capSettle_effect (hw : Memory.wf s.shared = true) (c : Ctx) (lim : W) :
    parm (capSettle c.val t lim s) t 66 = fmul 0x3F666666 lim ∧ (libOf (capSettle c.val t lim s) c.val).phase = 2 := by
  have hw1 := wf_parmPut hw t 66 (fmul p9 lim)
  refine ⟨?_, ?_⟩
  · refine (parm_parmPut_ne (s := modLib c.val _ (parmPut t 66 (fmul p9 lim) s)) hw1 t (by decide) _).trans ?_
    exact parm_parmPut hw t 66 _
  · exact congrArg LibSt.phase (libOf_modLib (fun x => { x with phase := 2, mark := s.now, sag := 0 }) (parmPut t 66 (fmul p9 lim) s) c)

theorem cap_timers (s : State) (c : Ctx) (hw : Memory.wf s.shared = true) (t : Task) (ht : libAt s c.val libCap = some t)
    (h5 : (parm s t 5).toNat = 1) :
    let x := libOf s c.val
    (x.phase = 1 → x.mark + (parm s t 9).toNat * 2000 ≤ s.now → capLimits s t = true → fge (fadd (parm s t 66) (parm s t 8)) (parm s t 6) = false →
      ∃ u, Does (.capSearchStep c) s u ∧ parm u t 66 = fadd (parm s t 66) (parm s t 8) ∧
        (libOf u c.val).lastOk = parm s t 66 ∧ (libOf u c.val).mark = s.now ∧ (libOf u c.val).phase = 1) ∧
    (x.phase = 1 → x.mark + (parm s t 9).toNat * 2000 ≤ s.now → capLimits s t = true → fge (fadd (parm s t 66) (parm s t 8)) (parm s t 6) = true →
      ∃ u, Does (.capSearchStep c) s u ∧ parm u t 66 = fmul 0x3F666666 (parm s t 6) ∧ (libOf u c.val).phase = 2) ∧
    (x.phase = 2 → fge (secsOf (s.now - x.mark)) (parm s t 13) = true → ∃ u, Does (.capResearchTimer c) s u ∧ (libOf u c.val).phase = 0 ∧ parm u t 66 = parm s t 7) ∧
    (x.phase ≠ 1 ∨ s.now < x.mark + (parm s t 9).toNat * 2000 → Does (.capSearchStep c) s s) ∧
    (x.phase ≠ 2 → Does (.capResearchTimer c) s s) := by
  dsimp only
  have hu : Does (.capSearchStep c) s _ := rfl
  have hq : Does (.capResearchTimer c) s _ := rfl
  rw [ht] at hu hq
  dsimp only at hu hq
  refine ⟨fun hp hd hl hg => ?_, fun hp hd hl hg => ?_, fun hp hg => ?_, fun h => ?_, fun h => ?_⟩
  · have hx := libOf_modLib (fun x => { x with mark := s.now, lastOk := parm s t 66 })
      (parmPut t 66 (fadd (parm s t 66) (parm s t 8)) s) c
    rw [if_pos (by simp [h5, hl, hp, hd]), capRaise] at hu
    rw [if_neg (by rw [hg]; exact Bool.false_ne_true)] at hu
    exact ⟨_, hu, parm_parmPut hw t 66 _, congrArg LibSt.lastOk hx, congrArg LibSt.mark hx, (congrArg LibSt.phase hx).trans hp⟩
  · rw [if_pos (by simp [h5, hl, hp, hd]), capRaise] at hu
    rw [if_pos hg] at hu
    exact ⟨_, hu, capSettle_effect hw c _⟩
  · have hx := libOf_modLib (fun x => { x with phase := 0, vSamples := [], mark := s.now, sag := 0, lastOk := parm s t 7 })
      (parmPut t 66 (parm s t 7) s) c
    rw [if_pos (by simp [h5, hp, hg])] at hq
    exact ⟨_, hq, congrArg LibSt.phase hx, parm_parmPut hw t 66 _⟩
  · refine does_kept hu fun hn => ?_
    simp only [Bool.and_eq_true, decide_eq_true_eq] at hn
    omega
  · refine does_kept hq fun hn => ?_
    simp only [Bool.and_eq_true, decide_eq_true_eq] at hn
    exact h hn.1.2

theorem feed_restore (s : State) (c : Ctx) (hw : Memory.wf s.shared = true) (t : Task) (n : Nat) (p : W) (k : Nat)
    (r : List (Nat × W × Nat)) (v : Task) (ht : libAt s c.val libCap = some t) (hs : (libOf s c.val).shed = (n, p, k) :: r)
    (hm : memberTask s libFeed n = some v) :
    (10 ≤ k → ∃ u, Does (.feedRestore c) s u ∧ (libOf u c.val).shed = r ∧ parm u v 14 = 0) ∧
    (k < 10 → Does (.feedRestore c) s s) := by
  have hu : Does (.feedRestore c) s _ := rfl
  rw [ht] at hu
  dsimp only at hu
  rw [capRestore, hs] at hu
  dsimp only at hu
  refine ⟨fun hk => ?_, fun hk => ?_⟩
  · rw [if_pos hk, memberPut, hm] at hu
    exact ⟨_, hu, congrArg LibSt.shed (libOf_modLib (fun x => { x with shed := r }) (parmPut v 14 0 s) c), parm_parmPut hw v 14 0⟩
  · exact does_kept hu (by omega)

theorem restore_none (s : State) (c : Ctx) (ht : libAt s c.val libCap = none) : Does (.feedRestore c) s s := by
  have hu : Does (.feedRestore c) s _ := rfl
  rw [ht] at hu
  exact hu

/-! The estimator (R285, R287, R288). -/

theorem recDevice_kept (id : BitVec 16) (pay : List W) (s : State) :
    (recDevice id pay s).shared = s.shared ∧ (recDevice id pay s).ctx = s.ctx := by
  obtain ⟨b, n, e⟩ := recUpdate_eq id 0 pay s
  unfold recDevice
  rw [e]
  cases b <;> simp

theorem parm_estSave (a : Nat) : parm (estSave t s) t' a = parm s t' a := parm_congr (recDevice_kept _ _ s).1 t' a

@[simp] theorem shared_estSet (st reason : Nat) (s : State) :
    (estSet t st reason s).shared = (libHead t st reason (st == 2) s).shared := (recDevice_kept _ _ _).1

@[simp] theorem libOf_estSet (st reason : Nat) (s : State) (n : Nat) : libOf (estSet t st reason s) n = libOf s n := by
  rw [libOf, libOf, State.cx, State.cx, estSet, estSave, (recDevice_kept _ _ _).2]
  rfl

theorem libState_estSet (hw : Memory.wf s.shared = true) {st : Nat} (h : st < 256) (reason : Nat) :
    libState (estSet t st reason s) t = st :=
  (libState_congr (parm_estSave 3)).trans (libState_libHead hw h reason _)

theorem libReason_estSet (hw : Memory.wf s.shared = true) {st : Nat} (h : st < 256) (reason : Nat) :
    libReason (estSet t st reason s) t = reason % 256 :=
  (congrArg (W.bits · 23 16) (parm_estSave 3)).trans (libReason_libHead hw h reason _)

theorem parm_estSet (hw : Memory.wf s.shared = true) (st reason : Nat) {a : Nat} (h : a ≠ 3) :
    parm (estSet t st reason s) t a = parm s t a :=
  (parm_estSave a).trans (parm_parmPut_ne hw t h _)

theorem wf_estSet (hw : Memory.wf s.shared = true) (st reason : Nat) : Memory.wf (estSet t st reason s).shared = true := by
  rw [shared_estSet]
  exact wf_parmPut hw t 3 _

theorem estHas_estFlag (hw : Memory.wf s.shared = true) {k : Nat} (h : k < 32) (b : Bool) : estHas (estFlag t k b s) t k = b := by
  rw [estHas, estFlag, parm_parmPut hw]
  exact bitPut_getLsbD_self _ h b

theorem estHas_congr (h : parm u t 39 = parm s t 39) (k : Nat) : estHas u t k = estHas s t k := congrArg (W.bit · k) h

theorem estHas_estFlag_ne (hw : Memory.wf s.shared = true) {k j : Nat} (h : j ≠ k) (b : Bool) :
    estHas (estFlag t k b s) t j = estHas s t j := by
  rw [estHas, estFlag, parm_parmPut hw]
  exact bitPut_getLsbD_ne _ h.symm b

/-- A free value leaves the memory and the contexts. -/
theorem orFree_kept (x : Option W) (s : State) : (orFree x s).2.shared = s.shared ∧ (orFree x s).2.ctx = s.ctx := by
  cases x with
  | none => exact ⟨rfl, rfl⟩
  | some _ => exact ⟨rfl, rfl⟩

theorem estUnblend_effect (hw : Memory.wf s.shared = true) (c : Ctx) : Memory.wf (estUnblend c.val t s).shared = true ∧
    (∀ a ≠ 39, parm (estUnblend c.val t s) t a = parm s t a) ∧ (∀ j ≠ 6, estHas (estUnblend c.val t s) t j = estHas s t j) ∧
    libOf (estUnblend c.val t s) c.val = { libOf s c.val with blend := none } := by
  have hw1 : Memory.wf (modLib c.val (fun x => { x with blend := none }) s).shared = true := hw
  exact ⟨wf_parmPut hw1 t 39 _, fun a h => parm_parmPut_ne hw1 t h _, fun j h => estHas_estFlag_ne hw1 h false,
    libOf_modLib (fun x => { x with blend := none }) s c⟩

/-- What FULL leaves at each step: SOC_RAW at 1, the flag, and no blend. -/
structure Filled (c : Ctx) (t : Task) (s : State) : Prop where
  wf : Memory.wf s.shared = true
  raw : parm s t 33 = one
  flag : estHas s t 0 = true
  blend : (libOf s c.val).blend = none

theorem filled_unblend (hw : Memory.wf s.shared = true) (c : Ctx) :
    Filled c t (estUnblend c.val t (parmPut t 33 one (estFlag t 0 true s))) ∧
      libState (estUnblend c.val t (parmPut t 33 one (estFlag t 0 true s))) t = libState s t := by
  have hw1 := wf_parmPut hw t 39 (bitPut (parm s t 39) 0 true)
  change Memory.wf (estFlag t 0 true s).shared = true at hw1
  obtain ⟨h1, h2, h3, h4⟩ := estUnblend_effect (t := t) (wf_parmPut hw1 t 33 one) c
  refine ⟨⟨h1, (h2 33 (by decide)).trans (parm_parmPut hw1 t 33 one), ?_, congrArg LibSt.blend h4⟩, libState_congr ?_⟩
  · rw [h3 0 (by decide), estHas_congr (parm_parmPut_ne hw1 t (by decide) one), estHas_estFlag hw (by decide)]
  · rw [h2 3 (by decide), parm_parmPut_ne hw1 t (by decide)]
    exact parm_parmPut_ne hw t (by decide) _

theorem Filled.valid (h : Filled c t s) (reason : Nat) : Filled c t (estSet t 2 reason s) where
  wf := wf_estSet h.wf 2 reason
  raw := (parm_estSet h.wf 2 reason (by decide)).trans h.raw
  flag := (estHas_congr (parm_estSet h.wf 2 reason (by decide)) 0).trans h.flag
  blend := by rw [libOf_estSet]; exact h.blend

/-- The main path arms (R290). -/
theorem Filled.armed (h : Filled c t s) : Filled c t (estArm c.val t s) ∧ estHas (estArm c.val t s) t 2 = true ∧
    libState (estArm c.val t s) t = libState s t := by
  have hw1 : Memory.wf (estFlag t 2 true s).shared = true := wf_parmPut h.wf t 39 _
  have hp : ∀ a, parm (estArm c.val t s) t a = parm (parmPut t 40 0 (estFlag t 2 true s)) t a := fun a => rfl
  have h39 : parm (estArm c.val t s) t 39 = parm (estFlag t 2 true s) t 39 := (hp 39).trans (parm_parmPut_ne hw1 t (by decide) 0)
  refine ⟨⟨wf_parmPut hw1 t 40 0, ?_, ?_, ?_⟩, ?_, libState_congr ?_⟩
  · rw [hp, parm_parmPut_ne hw1 t (by decide), ← h.raw]
    exact parm_parmPut_ne h.wf t (by decide) _
  · rw [estHas_congr h39, estHas_estFlag_ne h.wf (by decide), h.flag]
  · exact (congrArg LibSt.blend (libOf_modLib _ (parmPut t 40 0 (estFlag t 2 true s)) c)).trans h.blend
  · rw [estHas_congr h39, estHas_estFlag h.wf (by decide)]
  · rw [hp, parm_parmPut_ne hw1 t (by decide)]
    exact parm_parmPut_ne h.wf t (by decide) _

theorem estFull_effect (hw : Memory.wf s.shared = true) (c : Ctx) (hs : libState s t = 1 ∨ libState s t = 2) :
    Filled c t (estFull c.val t s) ∧ estHas (estFull c.val t s) t 2 = true ∧ libState (estFull c.val t s) t = 2 := by
  obtain ⟨h1, h2⟩ := filled_unblend (t := t) hw c
  unfold estFull
  dsimp only
  rw [h2]
  rcases hs with hs | hs
  · have h3 : libState (estSet t 2 3 (estUnblend c.val t (parmPut t 33 one (estFlag t 0 true s)))) t = 2 :=
      libState_estSet h1.wf (by decide) 3
    rw [if_pos hs, if_pos h3]
    obtain ⟨k1, k2, k3⟩ := (h1.valid 3).armed
    exact ⟨k1, k2, k3.trans h3⟩
  · rw [if_neg (show ¬ libState s t = 1 by omega), if_pos (h2.trans hs)]
    obtain ⟨k1, k2, k3⟩ := h1.armed
    exact ⟨k1, k2, k3.trans (h2.trans hs)⟩

theorem taper_full (s : State) (c : Ctx) (hw : Memory.wf s.shared = true) (t : Task) (ht : libAt s c.val libEst = some t) :
    (libState s t = 1 ∨ libState s t = 2 → estHas s t 0 = false → heldFor (heldNow s c.val (libOf s c.val).taper) (parm s t 12) = true →
      ∃ u, Does (.estimateTaperFull c) s u ∧ parm u t 32 = 0x3F800000 ∧
      parm u t 33 = 0x3F800000 ∧ estHas u t 0 = true ∧ estHas u t 2 = true ∧ libState u t = 2 ∧ (libOf u c.val).blend = none) ∧
    (heldFor (heldNow s c.val (libOf s c.val).taper) (parm s t 12) = false → Does (.estimateTaperFull c) s s) := by
  have hu : Does (.estimateTaperFull c) s _ := rfl
  rw [ht] at hu
  dsimp only at hu
  refine ⟨fun hs h0 hh => ?_, fun hh => does_kept hu (by rw [hh]; simp)⟩
  rw [if_pos (by rw [h0, hh]; simpa using hs)] at hu
  obtain ⟨h, h2, h3⟩ := estFull_effect hw c hs
  have hp : ∀ a ≠ 32, parm (parmPut t 32 one (estFull c.val t s)) t a = parm (estFull c.val t s) t a := fun a ha =>
    parm_parmPut_ne h.wf t ha one
  exact ⟨_, hu, parm_parmPut h.wf t 32 one, (hp 33 (by decide)).trans h.raw, (estHas_congr (hp 39 (by decide)) 0).trans h.flag,
    (estHas_congr (hp 39 (by decide)) 2).trans h2, (libState_congr (hp 3 (by decide))).trans h3, h.blend⟩

/-- SOC and SOC_RAW leave the head (R283). -/
theorem libHead_estSoc (hw : Memory.wf s.shared = true) : parm (estSoc t s) t 3 = parm s t 3 := by
  obtain ⟨z, v, e⟩ : ∃ z v, orFree (ocvSoc (estTable s t) (parm s t 7) (parm s t 38)) s = (z, v) := ⟨_, _, rfl⟩
  have hv : v.shared = s.shared := (congrArg (fun x => x.2.shared) e).symm.trans (orFree_kept _ s).1
  have hw1 : Memory.wf v.shared = true := by rw [hv]; exact hw
  have hw2 := wf_parmPut hw1 t 35 z
  unfold estSoc
  rw [e]
  dsimp only
  rw [parm_parmPut_ne (wf_parmPut hw2 t 33 _) t (by decide), parm_parmPut_ne hw2 t (by decide), parm_parmPut_ne hw1 t (by decide)]
  exact parm_congr hv t 3

/-- Row 3 of Table 12.2 (R287). -/
theorem estReturn_effect (hw : Memory.wf s.shared = true) : Memory.wf (estReturn t s).shared = true ∧
    libState (estReturn t s) t = 1 ∧ libReason (estReturn t s) t = 8 := by
  obtain ⟨z, v, e⟩ : ∃ z v, estOcv t s = (z, v) := ⟨_, _, rfl⟩
  have hv : v.shared = s.shared := (congrArg (fun x => x.2.shared) e).symm.trans (orFree_kept _ s).1
  have hw1 : Memory.wf (parmPut t 33 z v).shared = true := wf_parmPut (by rw [hv]; exact hw) t 33 z
  unfold estReturn
  rw [e]
  exact ⟨wf_estSet hw1 1 8, libState_estSet hw1 (by decide) 8, libReason_estSet hw1 (by decide) 8⟩

/-- A blend starts (R288). -/
theorem estBlend_effect (hw : Memory.wf s.shared = true) (c : Ctx) (hs : libState s t = 1) (hb : (libOf s c.val).blend = none) :
    (libOf (estBlend c.val t s) c.val).blend.isSome = true ∧ estHas (estBlend c.val t s) t 6 = true ∧
      libState (estBlend c.val t s) t = 1 := by
  obtain ⟨z, v, e⟩ : ∃ z v, estOcv t s = (z, v) := ⟨_, _, rfl⟩
  have hv : v.shared = s.shared := (congrArg (fun x => x.2.shared) e).symm.trans (orFree_kept _ s).1
  have hw1 : Memory.wf (modLib c.val (fun x => { x with blend := some (z, parm v t 33, 0) }) v).shared = true := by
    rw [shared_modLib, hv]; exact hw
  unfold estBlend
  rw [if_pos (by rw [hs, hb]; rfl), e]
  dsimp only
  refine ⟨?_, estHas_estFlag hw1 (by decide) true, ?_⟩
  · exact congrArg (fun x => x.blend.isSome) (libOf_modLib (fun x => { x with blend := some (z, parm v t 33, 0) }) v c)
  · rw [← hs]
    exact libState_congr ((parm_parmPut_ne hw1 t (by decide) _).trans (parm_congr hv t 3))

theorem rest_held (s : State) (c : Ctx) (hw : Memory.wf s.shared = true) (t : Task) (ht : libAt s c.val libEst = some t) :
    (libState s t = 0 → (estLg s t).absent = false → heldFor (heldNow s c.val (libOf s c.val).rest) (parm s t 22) = true → ∃ u, Does (.estimateRestHeld c) s u ∧ libState u t = 1 ∧
      libReason u t = 8) ∧
    (libState s t = 1 → (libOf s c.val).blend = none → heldFor (heldNow s c.val (libOf s c.val).rest) (parm s t 15) = true → ∃ u, Does (.estimateRestHeld c) s u ∧ (libOf u c.val).blend.isSome = true ∧
      estHas u t 6 = true ∧ libState u t = 1) ∧
    ((libOf s c.val).rest = none → Does (.estimateRestHeld c) s s) := by
  have hu : Does (.estimateRestHeld c) s _ := rfl
  rw [ht] at hu
  dsimp only at hu
  refine ⟨fun hs ha hh => ?_, fun hs hb hh => ?_, fun hr => ?_⟩
  · rw [if_pos (by rw [hs, ha, hh]; rfl)] at hu
    obtain ⟨h1, h2, h3⟩ := estReturn_effect (t := t) hw
    exact ⟨_, hu, (libState_congr (libHead_estSoc h1)).trans h2, (congrArg (W.bits · 23 16) (libHead_estSoc h1)).trans h3⟩
  · rw [if_neg (by rw [hs]; simp), if_pos (by rw [hs, hh]; rfl)] at hu
    exact ⟨_, hu, estBlend_effect hw c hs hb⟩
  · rw [hr, if_neg (by simp [heldNow, heldFor])] at hu
    exact does_kept hu (by simp [heldNow, heldFor])

/-- A blend that has covered T_BLEND (Table 12.2, row 5). -/
theorem estBlendDone_effect (hw : Memory.wf s.shared = true) (c : Ctx) (hb : (libOf s c.val).blend.isSome = true) :
    parm (estBlendDone c.val t s) t 33 = parm s t 33 ∧ (libOf (estBlendDone c.val t s) c.val).blend = none ∧
      libState (estBlendDone c.val t s) t = if libState s t = 1 then 2 else libState s t := by
  obtain ⟨h1, h2, -, h4⟩ := estUnblend_effect (t := t) hw c
  have hs : libState (estUnblend c.val t s) t = libState s t := libState_congr (h2 3 (by decide))
  unfold estBlendDone
  dsimp only
  rw [if_pos hb, hs]
  by_cases h : libState s t = 1
  · rw [if_pos h, if_pos h]
    refine ⟨(parm_estSet h1 2 2 (by decide)).trans (h2 33 (by decide)), ?_, libState_estSet h1 (by decide) 2⟩
    rw [libOf_estSet, h4]
  · rw [if_neg h, if_neg h]
    exact ⟨h2 33 (by decide), congrArg LibSt.blend h4, hs⟩

theorem blend_end (s : State) (c : Ctx) (hw : Memory.wf s.shared = true) (t : Task) (ht : libAt s c.val libEst = some t) :
    (∀ z z0 k, (libOf s c.val).blend = some (z, z0, k) →
      let all := (cvti (fmul (parm s t 21) 0x49F42400) 0).1.toNat
      (k + (s.now - (libOf s c.val).stepTick) < all → Does (.estimateBlendEnd c) s s) ∧
      (all ≤ k + (s.now - (libOf s c.val).stepTick) → ∃ u, Does (.estimateBlendEnd c) s u ∧
      parm u t 33 = fadd (parm s t 33) (fdiv (fmul (fsub z z0) (secsOf (all - k))) (parm s t 21)) ∧
      (libOf u c.val).blend = none ∧ libState u t = (if libState s t = 1 then 2 else libState s t))) ∧
    ((libOf s c.val).blend = none → Does (.estimateBlendEnd c) s s) := by
  have hu : Does (.estimateBlendEnd c) s _ := rfl
  rw [ht] at hu
  dsimp only at hu
  refine ⟨fun z z0 k hb => ?_, fun hb => ?_⟩
  · rw [hb] at hu
    dsimp only at hu ⊢
    generalize (cvti (fmul (parm s t 21) 0x49F42400) 0).1.toNat = all at hu ⊢
    refine ⟨fun hd => does_kept hu (by omega), fun hd => ?_⟩
    rw [if_pos hd] at hu
    generalize fadd (parm s t 33) _ = x at hu ⊢
    obtain ⟨h1, h2, h3⟩ := estBlendDone_effect (t := t) (wf_parmPut hw t 33 x) c (congrArg Option.isSome hb)
    refine ⟨_, hu, h1.trans (parm_parmPut hw t 33 x), h2, ?_⟩
    rw [h3, libState_parmPut hw (by decide)]
  · rw [hb] at hu
    exact hu

end

/-- Settles O54. -/
theorem libraryTimers : Obligations.LibraryTimers := by
  intro s c hw x
  refine ⟨fun t ht hc => feed_timers s c hw t ht hc, feed_none s c, fun t ht => string_timer s c hw t ht,
    fun t ht hr => hold_timers s c hw t ht hr, fun t ht h5 => cap_timers s c hw t ht h5,
    fun t n p k r v ht hs hm => feed_restore s c hw t n p k r v ht hs hm, restore_none s c, fun t ht => ?_⟩
  obtain ⟨h1, h2⟩ := taper_full s c hw t ht
  obtain ⟨h3, h4, h5⟩ := rest_held s c hw t ht
  obtain ⟨h6, h7⟩ := blend_end s c hw t ht
  exact ⟨h1, h2, h3, h4, h5, h6, h7⟩

end Sys2Proof.Claims
end

section
/-!
PROOF. Hops, the train that J0 starts, its passage and its return, and enumeration (R340 to R342, R344, R350 to R352).
-/
namespace Sys2Proof.Claims
open Sys2Proof Sys2Proof.Machine

section
variable {s u v : State} {p q : JPort} {t : Train}

/-! What the join bus may change: its own unit, the reference of the clock, and occurrences. -/

/-- From `s` to `u` the join unit, the reference of the clock and occurrences may differ. -/
def JoinOnly (s u : State) : Prop :=
  SameTime s.clk u.clk ∧ Occurs { s with clk := u.clk, jnb := u.jnb } u

theorem SameTime.refl (c : Clk) : SameTime c c := ⟨_, _, _, _, _, rfl⟩
theorem SameTime.trans {a b c : Clk} (h : SameTime a b) (h' : SameTime b c) : SameTime a c := by
  obtain ⟨_, _, _, _, _, rfl⟩ := h
  obtain ⟨_, _, _, _, _, rfl⟩ := h'
  exact ⟨_, _, _, _, _, rfl⟩

theorem Occurs.withJoin (h : Occurs s u) (c : Clk) (j : Jnb) : Occurs { s with clk := c, jnb := j } { u with clk := c, jnb := j } := by
  obtain ⟨_, _, _, _, _, _, _, _, hr, rfl⟩ := h; exact ⟨_, _, _, _, _, _, _, _, hr, rfl⟩

theorem JoinOnly.refl (s : State) : JoinOnly s s := ⟨.refl _, .refl _⟩
theorem JoinOnly.trans (h : JoinOnly s u) (h' : JoinOnly u v) : JoinOnly s v :=
  ⟨h.1.trans h'.1, (h.2.withJoin v.clk v.jnb).trans h'.2⟩
theorem JoinOnly.unit (s : State) (j : Jnb) : JoinOnly s { s with jnb := j } := ⟨.refl _, .refl _⟩
theorem JoinOnly.occurs (h : Occurs s u) : JoinOnly s u := by
  refine ⟨by rw [h.clk]; exact .refl _, ?_⟩
  rw [h.clk, h.jnb]
  exact h
theorem joinOnly_followRef (s : State) : JoinOnly s (followRef s) := by
  obtain ⟨h1, h2⟩ := followRef_frame s
  refine ⟨h1, ?_⟩
  rw [h2.jnb]
  exact h2
theorem joinOnly_refLost (s : State) : JoinOnly s (refLost s) := by
  have h : Occurs { s with clk := (refLost s).clk } (refLost s) := by
    rw [(refLost_effect s).1]
    exact occurs_raiseC ..
  refine ⟨by rw [(refLost_effect s).1]; exact ⟨_, _, _, _, _, rfl⟩, ?_⟩
  rw [h.jnb]
  exact h

theorem JoinOnly.chan (h : JoinOnly s u) : u.chan = s.chan := h.2.chan
theorem JoinOnly.boot (h : JoinOnly s u) : u.boot = s.boot := h.2.boot
theorem JoinOnly.upe (h : JoinOnly s u) : u.upe = s.upe := h.2.upe
theorem JoinOnly.tc (h : JoinOnly s u) : u.clk.tc = s.clk.tc := by
  obtain ⟨⟨_, _, _, _, _, e⟩, -⟩ := h
  rw [e]
theorem JoinOnly.master (h : JoinOnly s u) : isMaster u = isMaster s := by rw [isMaster, isMaster, h.boot]
theorem JoinOnly.raised {src : Nat} {cls : EvClass} {code : Nat} (h : JoinOnly s u) (hr : raised s src cls code) :
    raised u src cls code := h.2.raised hr

theorem jnb_followRef (s : State) : (followRef s).jnb = s.jnb := (followRef_frame s).2.jnb
theorem jnb_refLost (s : State) : (refLost s).jnb = s.jnb := (occurs_raiseC ..).jnb
@[simp] theorem jnb_joinRaise (cls : EvClass) (s : State) : (joinRaise cls s).jnb = s.jnb := (occurs_raiseC ..).jnb
theorem joinOnly_joinRaise (cls : EvClass) (s : State) : JoinOnly s (joinRaise cls s) := .occurs (occurs_raiseC ..)

theorem raised_joinRaise (s : State) : ∃ code, raised (joinRaise .uc s) 959 .uc code :=
  raised_raiseC_uc (by decide) s _ _

/-! Ports. -/

@[simp] theorem port_modPort (p : JPort) (f : JPortSt → JPortSt) (s : State) : (modPort p f s).jnb.port p = f (s.jnb.port p) := by
  cases p <;> rfl
@[simp] theorem port_modPort_other (p : JPort) (f : JPortSt → JPortSt) (s : State) :
    (modPort p f s).jnb.port (otherPort p) = s.jnb.port (otherPort p) := by cases p <;> rfl
@[simp] theorem port_modPort_of_other (p : JPort) (f : JPortSt → JPortSt) (s : State) :
    (modPort (otherPort p) f s).jnb.port p = s.jnb.port p := by cases p <;> rfl

theorem joinOnly_modPort (p : JPort) (f : JPortSt → JPortSt) (s : State) : JoinOnly s (modPort p f s) := by
  cases p <;> exact .unit s _

/-- A change of a port leaves the rest of the unit. -/
theorem modPort_eq (p : JPort) (f : JPortSt → JPortSt) (s : State) :
    ∃ a b, modPort p f s = { s with jnb := { s.jnb with ja := a, jb := b } } := by
  cases p <;> exact ⟨_, _, rfl⟩

/-! Hops (R340, R351, R352). -/

theorem hop_hello (hr : joinRuns s = true) (hp : (s.jnb.port p).hop ≠ .up) (vmax vmin : Nat) (serial : W) (role : PairRole) :
    (min 2 vmax < max 1 vmin → ∃ u, Does (.hopHello p vmax vmin serial role) s u ∧ (u.jnb.port p).hop = .down ∧
      u.jnb.evt.getLsbD 2 = true ∧ u.jnb.port (otherPort p) = s.jnb.port (otherPort p)) ∧
    (max 1 vmin ≤ min 2 vmax → ∃ u, Does (.hopHello p vmax vmin serial role) s u ∧ (u.jnb.port p).hop = .up ∧
      (u.jnb.port p).version = min 2 vmax ∧ (u.jnb.port p).serial = serial ∧ (u.jnb.port p).usable = false ∧
      (u.jnb.port p).upTick = s.now ∧ (u.jnb.port p).delay ≤ 16000 ∧ u.jnb.port (otherPort p) = s.jnb.port (otherPort p)) := by
  have hu : Does (.hopHello p vmax vmin serial role) s _ := rfl
  rw [hr, if_pos (by simpa using hp)] at hu
  dsimp only at hu
  refine ⟨fun hv => ?_, fun hv => ?_⟩
  · rw [if_pos hv] at hu
    refine ⟨_, hu, ?_, bitPut_getLsbD_self _ (by decide) true, ?_⟩
    · cases p <;> rfl
    · cases p <;> rfl
  · rw [if_neg (Nat.not_lt.2 hv)] at hu
    refine ⟨_, hu, ?_⟩
    rw [port_modPort, port_modPort_other]
    refine ⟨rfl, rfl, rfl, rfl, rfl, Nat.min_le_right _ _, ?_⟩
    cases p <;> rfl

theorem hop_usable (s : State) (p : JPort) :
    ((s.jnb.port p).hop = .up → (s.jnb.port p).role ≠ 3 → (s.jnb.port p).upTick + 2000 ≤ s.now → ∃ u, Does (.hopUsable p) s u ∧ (u.jnb.port p).usable = true ∧ (u.jnb.port p).hop = .up ∧
      u.jnb.port (otherPort p) = s.jnb.port (otherPort p)) ∧
    ((s.jnb.port p).hop ≠ .up ∨ (s.jnb.port p).role = 3 ∨ s.now < (s.jnb.port p).upTick + 2000 → Does (.hopUsable p) s s) := by
  have hu : Does (.hopUsable p) s _ := rfl
  refine ⟨fun h1 h2 h3 => ?_, fun h => does_kept hu fun hn => ?_⟩
  · rw [if_pos (by rw [bne_iff_ne.2 h2]; simp [h1, h3])] at hu
    refine ⟨_, hu, ?_, ?_, port_modPort_other ..⟩
    · rw [port_modPort]
    · rw [port_modPort]; exact h1
  · simp only [Bool.and_eq_true, decide_eq_true_eq, bne_iff_ne] at hn
    obtain ⟨⟨h1, h2⟩, h3⟩ := hn
    rcases h with h | h | h
    · exact h h1
    · exact h2 h
    · omega

theorem hop_down (hr : joinRuns s = true) (p : JPort) :
    ((s.jnb.port p).hop = .up → ∃ u code, Does (.hopDown p) s u ∧ (u.jnb.port p).hop = .down ∧
      (u.jnb.port p).usable = false ∧ u.jnb.evt.getLsbD 0 = true ∧ raised u 959 .uc code) ∧
    ((s.jnb.port p).hop ≠ .up → ∃ u, Does (.hopDown p) s u ∧ (u.jnb.port p).hop = .down ∧ u.fcr = s.fcr) := by
  have hu : Does (.hopDown p) s _ := rfl
  rw [if_pos hr, hopDown] at hu
  refine ⟨fun h => ?_, fun h => ?_⟩
  · rw [if_pos h] at hu
    dsimp only at hu
    obtain ⟨v, hv⟩ : ∃ v, v = jnbEvt 0 (modPort p (fun x => { hopLost x with role := 0, version := 0 }) s) := ⟨_, rfl⟩
    have hport : v.jnb.port p = { hopLost (s.jnb.port p) with role := 0, version := 0 } := by
      rw [hv, ← port_modPort p (fun x => { hopLost x with role := 0, version := 0 })]
      cases p <;> rfl
    have hevt : v.jnb.evt.getLsbD 0 = true := by
      rw [hv]
      exact bitPut_getLsbD_self _ (by decide) true
    rw [← hv] at hu
    obtain ⟨code, hc⟩ := raised_joinRaise v
    obtain ⟨w, hw, hj, ho⟩ : ∃ w, (if (s.clk.refsel == portRef p && clockRuns s) = true then refLost (joinRaise .uc v) else joinRaise .uc v) = w ∧
        w.jnb = v.jnb ∧ JoinOnly (joinRaise .uc v) w := by
      refine ⟨_, rfl, ?_, ?_⟩
      · split
        · rw [jnb_refLost, jnb_joinRaise]
        · exact jnb_joinRaise _ _
      · split
        · exact joinOnly_refLost _
        · exact .refl _
    rw [hw] at hu
    refine ⟨w, code, hu, ?_, ?_, ?_, ho.raised hc⟩
    · rw [hj, hport]; rfl
    · rw [hj, hport]; rfl
    · rw [hj, hevt]
  · rw [if_neg h] at hu
    refine ⟨_, hu, by rw [port_modPort], ?_⟩
    cases p <;> rfl

/-! Enumeration (R350). -/

theorem enum_effect (hr : joinRuns s = true) (next : Nat) :
    (s.jnb.addr.isSome = true ∨ isMaster s = true → Does (.enum next) s s) ∧
    (s.jnb.addr = none → isMaster s = false →
      (s.jnb.st = 1 ∨ s.jnb.st = 2 → next < 1024 → ∃ u, Does (.enum next) s u ∧ u.jnb.addr = some (BitVec.ofNat 10 next) ∧
        u.jnb.st = 3 ∧ u.jnb.late = false ∧ u.chan = s.chan) ∧
      (s.jnb.st ≠ 1 → s.jnb.st ≠ 2 → next < 8 * s.jnb.g → ∃ u, Does (.enum next) s u ∧
        u.jnb.addr = some (BitVec.ofNat 10 next) ∧ u.jnb.st = 3 ∧ u.jnb.late = true ∧ u.chan = s.chan) ∧
      (s.jnb.st ≠ 1 → s.jnb.st ≠ 2 → s.jnb.st ≠ 4 → 8 * s.jnb.g ≤ next → ∃ u code, Does (.enum next) s u ∧
        u.jnb.addr = none ∧ u.jnb.st = 4 ∧ raised u 959 .uc code)) := by
  have hu : Does (.enum next) s _ := rfl
  rw [if_pos hr, joinEnum] at hu
  refine ⟨fun h => ?_, fun ha hm => ?_⟩
  · rw [if_pos (by simpa using h)] at hu
    exact hu
  · rw [if_neg (by simp [ha, hm])] at hu
    have early : s.jnb.st = 1 ∨ s.jnb.st = 2 → (s.jnb.st != 1 && s.jnb.st != 2) = false := by rintro (h | h) <;> simp [h]
    have late : s.jnb.st ≠ 1 → s.jnb.st ≠ 2 → (s.jnb.st != 1 && s.jnb.st != 2) = true := fun h1 h2 => by
      rw [bne_iff_ne.2 h1, bne_iff_ne.2 h2]; rfl
    refine ⟨fun h hn => ?_, fun h1 h2 hn => ?_, fun h1 h2 h4 hn => ?_⟩
    · rw [early h, if_pos (by simpa using hn)] at hu
      refine ⟨_, hu, ?_, ?_, ?_, (joinOnly_followRef _).chan⟩ <;> rw [jnb_followRef]
    · rw [late h1 h2, if_pos (by simpa using hn)] at hu
      refine ⟨_, hu, ?_, ?_, ?_, (joinOnly_followRef _).chan⟩ <;> rw [jnb_followRef]
    · rw [late h1 h2, if_neg (by simpa using hn), if_neg h4] at hu
      obtain ⟨code, hc⟩ := raised_joinRaise { s with jnb := { s.jnb with st := 4 } }
      refine ⟨_, code, hu, ?_, ?_, hc⟩
      · rw [jnb_joinRaise]; exact ha
      · rw [jnb_joinRaise]

/-! The cells of a train (R343, R346). -/

/-- Steps that change nothing. -/
theorem foldl_fixed {α β : Type} {f : β → α → β} {b : β} (l : List α) (h : ∀ x ∈ l, f b x = b) : l.foldl f b = b := by
  induction l with
  | nil => rfl
  | cons x l ih =>
    rw [List.foldl_cons, h x List.mem_cons_self]
    exact ih fun y hy => h y (List.mem_cons_of_mem _ hy)

theorem cellsIn_empty (h : ∀ x ∈ t.cells, x.full = false) (s : State) : cellsIn t s = s := by
  refine foldl_fixed _ fun x hx => ?_
  rw [h x.1 (List.fst_mem_of_mem_zipIdx (List.mem_filter.1 hx).1)]
  rfl

/-- A message ENUM is noted and does nothing more where it is received (Table 16.6). -/
theorem cellIn_enum {x : Sys2Proof.Cell} (hk : x.kind = 1) (s : State) :
    ∃ l, cellIn x (cellSeen x s) = { s with jnb := { s.jnb with seen := l } } := by
  have h1 : ∀ v, cellSeen x v = v := fun v => by unfold cellSeen; rw [hk]; rfl
  have h2 : ∀ v, cellAct x v = v := fun v => by unfold cellAct; rw [hk]; rfl
  rw [h1]
  unfold cellIn
  dsimp only
  split
  · exact ⟨s.jnb.seen, rfl⟩
  · split
    · rw [h2]; exact ⟨_, rfl⟩
    · exact ⟨_, rfl⟩

/-- A train whose one full cell is ENUM in cell 0. -/
theorem cellsIn_enum {x : Sys2Proof.Cell} {rest : List Sys2Proof.Cell} (hb : t.badCells = []) (hc : t.cells = x :: rest)
    (hr : ∀ y ∈ rest, y.full = false) (hf : x.full = true) (hk : x.kind = 1) (s : State) :
    ∃ l, cellsIn t s = { s with jnb := { s.jnb with seen := l } } := by
  obtain ⟨l, e⟩ := cellIn_enum hk s
  refine ⟨l, ?_⟩
  unfold cellsIn
  rw [hb, hc, List.filter_eq_self.2 (by simp), List.zipIdx_cons, List.foldl_cons, if_pos hf, e]
  refine foldl_fixed _ fun y hy => ?_
  rw [hr y.1 (List.fst_mem_of_mem_zipIdx hy)]
  rfl

/-- The queue of messages that go into the cells of a train. -/
theorem cellWrite_eq (bad : List Nat) (s : State) (out : List Sys2Proof.Cell) (ci : Sys2Proof.Cell × Nat) :
    ∃ q n y, cellWrite bad (s, out) ci = ({ s with jnb := { s.jnb with outQ := q, seq := n } }, out ++ [y]) ∧ (ci.2 = 0 → y = ci.1) := by
  unfold cellWrite
  dsimp only
  split
  · exact ⟨_, _, _, rfl, fun _ => rfl⟩
  next h =>
    have h0 : ¬ ci.2 = 0 := fun h0 => h (by simp [h0])
    split
    · exact ⟨_, _, _, rfl, fun h => absurd h h0⟩
    · exact ⟨_, _, _, rfl, fun h => absurd h h0⟩

theorem cellWrites_eq (bad : List Nat) (l : List (Sys2Proof.Cell × Nat)) (s : State) (out : List Sys2Proof.Cell) :
    ∃ q n r, l.foldl (cellWrite bad) (s, out) = ({ s with jnb := { s.jnb with outQ := q, seq := n } }, out ++ r) := by
  induction l generalizing s out with
  | nil => exact ⟨_, _, [], by rw [List.append_nil]; rfl⟩
  | cons ci l ih =>
    obtain ⟨q, n, y, e, -⟩ := cellWrite_eq bad s out ci
    obtain ⟨q', n', r, e'⟩ := ih { s with jnb := { s.jnb with outQ := q, seq := n } } (out ++ [y])
    exact ⟨q', n', y :: r, by rw [List.foldl_cons, e, e', List.append_assoc]; rfl⟩

/-- A device writes its slot and its cells and takes messages from its queue; cell 0 is J0's (R344, R346). -/
theorem trainWrite_eq (t : Train) (s : State) : ∃ sl cs b q n, trainWrite t s =
      ({ t with slots := sl, cells := cs, badCells := b }, { s with jnb := { s.jnb with outQ := q, seq := n } }) ∧
    sl.length = t.slots.length ∧ ∀ x rest, t.cells = x :: rest → ∃ r, cs = x :: r := by
  unfold trainWrite
  dsimp only
  obtain ⟨sl, hsl, hl⟩ : ∃ sl, sl = (if (joinSends s && !s.clk.notAligned) = true then
      t.slots.zipIdx.map fun x => if x.2 = (ownAddr s).toNat then
        (⟨true, false, vat s.jnb.latched 0 0, vat s.jnb.latched 1 0, vat s.jnb.latched 2 0⟩ : JSlot) else x.1
    else t.slots) ∧ sl.length = t.slots.length := by
    refine ⟨_, rfl, ?_⟩
    split
    · rw [List.length_map, List.length_zipIdx]
    · rfl
  rw [← hsl]
  split
  · obtain ⟨q, n, r, e⟩ := cellWrites_eq t.badCells t.cells.zipIdx (dropTriggers s) []
    refine ⟨sl, r, t.badCells.filter fun i => !(i != 0 && s.jnb.first ≤ i && i < s.jnb.first + s.jnb.count), q, n, ?_, hl, fun x rest hc => ?_⟩
    · rw [e]; rfl
    · rw [hc, List.zipIdx_cons, List.foldl_cons] at e
      obtain ⟨q1, n1, y, e1, hy⟩ := cellWrite_eq t.badCells (dropTriggers s) [] (x, 0)
      obtain ⟨q2, n2, r2, e2⟩ := cellWrites_eq t.badCells (rest.zipIdx 1)
        { dropTriggers s with jnb := { (dropTriggers s).jnb with outQ := q1, seq := n1 } } ([] ++ [y])
      rw [e1, e2] at e
      obtain rfl : y = x := hy rfl
      exact ⟨r2, (congrArg Prod.snd e).symm⟩
  · exact ⟨sl, t.cells, t.badCells, s.jnb.outQ, s.jnb.seq, rfl, hl, fun x rest hc => ⟨rest, hc⟩⟩

/-- The end of a cycle changes what was received and, once, counts it and renews grants (R345, R348). -/
theorem cycleDone_eq (t : Train) (s : State) : ∃ m r k g, cycleDone t s =
      { s with jnb := { s.jnb with ended := true, rxNext := m, rx := r, cycles := k, grants := g } } ∧
    (s.jnb.ended = false → k = s.jnb.cycles + 1) := by
  have hset : ∃ r m, joinSettle s = { s with jnb := { s.jnb with rxNext := m, rx := r } } := by
    unfold joinSettle
    split
    · exact ⟨_, _, rfl⟩
    · exact ⟨_, _, rfl⟩
  obtain ⟨r, m, e⟩ := hset
  unfold cycleDone
  dsimp only
  rw [e]
  dsimp only
  by_cases h : s.jnb.ended = true
  · rw [if_pos h]
    exact ⟨_, r, s.jnb.cycles, s.jnb.grants, by rw [← h], fun h' => absurd (h.symm.trans h') (by decide)⟩
  · rw [if_neg h]
    exact ⟨_, r, _, _, rfl, fun _ => rfl⟩

/-- RING as SYNC tells it. -/
theorem ringSeen_jnb (ring : Bool) (s : State) : ∃ e, (ringSeen ring s).jnb = { s.jnb with ring := ring, evt := e } ∧
    JoinOnly s (ringSeen ring s) := by
  unfold ringSeen
  dsimp only
  split
  · exact ⟨_, jnb_joinRaise _ _, (JoinOnly.unit s _).trans (joinOnly_joinRaise _ (jnbEvt 1 { s with jnb := { s.jnb with ring := ring } }))⟩
  · exact ⟨_, rfl, .unit s _⟩

/-! The train that J0 starts (R342). -/

theorem joinReserve_eq (src : JAddr) (n : Nat) (s : State) :
    ∃ g q, joinReserve src n s = { s with jnb := { s.jnb with grants := g, grantQ := q } } := by
  unfold joinReserve
  split
  · exact ⟨_, _, rfl⟩
  · dsimp only
    split
    · exact ⟨_, s.jnb.grantQ, rfl⟩
    · split
      · exact ⟨_, _, rfl⟩
      · exact ⟨s.jnb.grants, _, rfl⟩

theorem joinGrant_eq (a b : Nat) (refused : Bool) (s : State) :
    ∃ e f c, joinGrant a b refused s = { s with jnb := { s.jnb with reserve := none, evt := e, first := f, count := c } } := by
  cases refused with
  | true => exact ⟨_, s.jnb.first, s.jnb.count, rfl⟩
  | false => exact ⟨s.jnb.evt, _, _, rfl⟩

/-- J0's own reservation changes grants and what goes out, nothing else. -/
theorem ownReserve_eq (s : State) : ∃ o g q r e f c, ownReserve s =
    { s with jnb := { s.jnb with outQ := o, grants := g, grantQ := q, reserve := r, evt := e, first := f, count := c } } := by
  have hfold : ∀ (l : List (JAddr × W × W)) (v : State), ∃ r e f c,
      l.foldl (fun s g => joinGrant (g.2.1.bits 25 16) (g.2.1.bits 9 0) (g.2.2.bit 0) s) v =
        { v with jnb := { v.jnb with reserve := r, evt := e, first := f, count := c } } := fun l => by
    induction l with
    | nil => exact fun v => ⟨_, _, _, _, rfl⟩
    | cons x l ih =>
      intro v
      obtain ⟨e, f, c, h⟩ := joinGrant_eq (x.2.1.bits 25 16) (x.2.1.bits 9 0) (x.2.2.bit 0) v
      obtain ⟨r', e', f', c', h'⟩ := ih { v with jnb := { v.jnb with reserve := none, evt := e, first := f, count := c } }
      exact ⟨r', e', f', c', by rw [List.foldl_cons, h, h']⟩
  unfold ownReserve
  split
  · exact ⟨_, _, _, _, _, _, _, rfl⟩
  next m _ =>
    dsimp only
    obtain ⟨g, q, h⟩ := joinReserve_eq 0 ((lat m.2.2 0 0).bits 9 0)
      { s with jnb := { s.jnb with outQ := s.jnb.outQ.filter (·.1 != 0x03) } }
    rw [h]
    obtain ⟨r, e, f, c, h'⟩ := hfold (q.filter (·.1 == 0)) { s with jnb := { s.jnb with
      outQ := s.jnb.outQ.filter (·.1 != 0x03), grants := g, grantQ := q.filter (·.1 != 0) } }
    exact ⟨_, _, _, _, _, _, _, h'⟩

theorem cellZero_eq (s : State) : ∃ c q n, cellZero s = (c, { s with jnb := { s.jnb with seq := n, grantQ := q } }) := by
  unfold cellZero
  dsimp only
  split
  · exact ⟨_, _, _, rfl⟩
  · exact ⟨_, s.jnb.grantQ, _, rfl⟩

/-- J0 before it builds a train: a first train enumerates with G of one device. -/
def startFrom (s : State) : State :=
  ownReserve (slotLatch (if s.jnb.st != 3
    then { s with jnb := { s.jnb with st := 2, addr := some 0, g := groupsOf 1, c := cellsOf (groupsOf 1), ndev := 0 } } else s))

/-- The train that J0 builds on the state `v` before it writes its own slot and cells. -/
def builtTrain (s v : State) (c0 : Sys2Proof.Cell) : Train :=
  ⟨v.clk.tc - BitVec.ofNat 48 (v.tcMod 200), v.jnb.ring, s.jnb.st != 3, !s.jnb.jb.usable, v.jnb.g, v.jnb.ndev, 0, mySerial v, true,
    c0 :: ((List.range v.jnb.c).drop 1).map fun i => lat ((v.jnb.back.elim [] (·.cells)).map carryCell) i Cell.empty, [],
    (List.range (8 * v.jnb.g)).map fun i => lat ((v.jnb.back.elim [] (·.slots)).map carrySlot) i ⟨false, false, 0, 0, 0⟩, []⟩

/-- A train on its way. -/
def sentOn (x : Train × State) : State :=
  { x.2 with jnb := { x.2.jnb with sent := some x.1, back := none, passed := true, ended := false } }

/-- A train is due (R342). -/
def startDue (s : State) : Bool :=
  joinRuns s && isMaster s && (s.jnb.ja.usable || s.jnb.jb.usable) && s.tcMod 200 = 0 && !s.jnb.passed

theorem trainStart_eq (h : startDue s = true) : trainStart s = followRef (syncSeen (if s.jnb.jb.usable then .jb else .ja)
    (sentOn (trainWrite (builtTrain s (cellZero (startFrom s)).2 (cellZero (startFrom s)).1) (cellZero (startFrom s)).2))) := by
  unfold trainStart
  exact if_pos h

theorem trainStart_idle (h : startDue s = false) : trainStart s = s := by
  unfold trainStart
  exact if_neg (by rw [Bool.not_eq_true]; exact h)

/-- The state on which J0 builds. -/
theorem startFrom_eq (s : State) : ∃ j, startFrom s = { s with jnb := j } ∧
    (s.jnb.st ≠ 3 → j.addr = some 0 ∧ j.st = 2 ∧ j.ndev = 0) := by
  unfold startFrom
  by_cases h : s.jnb.st = 3
  · rw [if_neg (by simp [h])]
    obtain ⟨o, g, q, r, e, f, c, hx⟩ := ownReserve_eq (slotLatch s)
    exact ⟨_, hx, fun h' => absurd h h'⟩
  · rw [if_pos (by rw [bne_iff_ne]; exact h)]
    obtain ⟨o, g, q, r, e, f, c, hx⟩ := ownReserve_eq (slotLatch
      { s with jnb := { s.jnb with st := 2, addr := some 0, g := groupsOf 1, c := cellsOf (groupsOf 1), ndev := 0 } })
    exact ⟨_, hx, fun _ => ⟨rfl, rfl, rfl⟩⟩

theorem syncSeen_eq (p : JPort) (s : State) : ∃ a b, syncSeen p s = { s with jnb := { s.jnb with ja := a, jb := b } } :=
  modPort_eq p _ s

theorem train_start (s : State) (hr : joinRuns s = true) :
    (isMaster s = true → s.jnb.ja.usable = true ∨ s.jnb.jb.usable = true → s.clk.tc.toNat % 200 = 0 → s.jnb.passed = false →
      ∃ u t, Does .trainStart s u ∧ u.jnb.sent = some t ∧
      t.cycleTc = s.clk.tc ∧ t.syncOk = true ∧ t.slots.length = 8 * t.g ∧ t.enumF = (s.jnb.st != 3) ∧
      u.jnb.passed = true ∧ u.jnb.ended = false ∧ u.jnb.back = none ∧ u.chan = s.chan ∧ (s.jnb.st ≠ 3 → u.jnb.addr = some 0 ∧ u.jnb.st = 2 ∧ u.jnb.ndev = 0)) ∧
    (isMaster s = false ∨ (s.jnb.ja.usable = false ∧ s.jnb.jb.usable = false) ∨ s.clk.tc.toNat % 200 ≠ 0 ∨ s.jnb.passed = true →
      Does .trainStart s s) := by
  have hu : Does .trainStart s _ := rfl
  refine ⟨fun hm hp hc hn => ?_, fun h => ?_⟩
  · have hd : startDue s = true := by
      have : s.tcMod 200 = 0 := hc
      rcases hp with hp | hp <;> simp [startDue, hr, hm, hp, this, hn]
    rw [trainStart_eq hd] at hu
    obtain ⟨j, e1, hj⟩ := startFrom_eq s
    rw [e1] at hu
    obtain ⟨c0, q, n, e2⟩ := cellZero_eq { s with jnb := j }
    rw [e2] at hu
    dsimp only at hu
    obtain ⟨v, hv⟩ : ∃ v, v = ({ s with jnb := { j with seq := n, grantQ := q } } : State) := ⟨_, rfl⟩
    rw [← hv] at hu
    obtain ⟨sl, cs, b, q', n', e3, hl, -⟩ := trainWrite_eq (builtTrain s v c0) v
    rw [e3] at hu
    obtain ⟨w, hw⟩ : ∃ w, w = sentOn ({ builtTrain s v c0 with slots := sl, cells := cs, badCells := b },
      { v with jnb := { v.jnb with outQ := q', seq := n' } }) := ⟨_, rfl⟩
    rw [← hw] at hu
    obtain ⟨a, b', e4⟩ := syncSeen_eq (if s.jnb.jb.usable then .jb else .ja) w
    rw [e4] at hu
    refine ⟨_, { builtTrain s v c0 with slots := sl, cells := cs, badCells := b }, hu, ?_⟩
    rw [jnb_followRef, (joinOnly_followRef _).chan]
    have hz : v.tcMod 200 = 0 := by rw [hv]; exact hc
    refine ⟨by rw [hw]; rfl, ?_, rfl, ?_, rfl, by rw [hw]; rfl, by rw [hw]; rfl, by rw [hw]; rfl, by rw [hw, hv]; rfl, fun h3 => ?_⟩
    · change v.clk.tc - BitVec.ofNat 48 (v.tcMod 200) = s.clk.tc
      rw [hz, hv]
      exact BitVec.sub_zero _
    · refine hl.trans ?_
      simp [builtTrain]
    · obtain ⟨k1, k2, k3⟩ := hj h3
      rw [hw, hv]
      exact ⟨k1, k2, k3⟩
  · have hd : startDue s = false := by
      simp only [startDue, State.tcMod]
      rcases h with h | ⟨h1, h2⟩ | h | h
      · simp [h]
      · simp [h1, h2]
      · simp [h]
      · simp [h]
    rw [trainStart_idle hd] at hu
    exact hu

/-! The passage of a train (R341 to R346, R350, R351). -/

/-- The parts of a train that failed their CRC, counted (R343). -/
def counted (t : Train) (s : State) : State :=
  { s with jnb := { s.jnb with crcErr := s.jnb.crcErr + nw (t.badCells.length + t.badGroups.length + (if t.syncOk then 0 else 1)) } }

theorem trainPassage_eq (hr : joinRuns s = true) (h1 : (s.jnb.port p).hop = .up) (h2 : (s.jnb.port p).role ≠ 3) (t : Train) :
    trainPassage p t s = if !t.syncOk then trainBlind p t (counted t s)
      else if isMaster (counted t s) then trainAtMaster p t (counted t s) else trainAtDevice p t (counted t s) := by
  unfold trainPassage
  exact if_pos (by rw [hr, h1, bne_iff_ne.2 h2]; rfl)

theorem port_counted (t : Train) (s : State) (p : JPort) : (counted t s).jnb.port p = s.jnb.port p := by cases p <;> rfl

theorem passage_closed (s : State) (p : JPort) (t : Train) (h : (s.jnb.port p).hop ≠ .up ∨ (s.jnb.port p).role = 3) :
    Does (.trainPassage p t) s s := by
  have hu : Does (.trainPassage p t) s (trainPassage p t s) := rfl
  have e : trainPassage p t s = s := by
    unfold trainPassage
    refine if_neg fun hn => ?_
    simp only [Bool.and_eq_true, beq_iff_eq, bne_iff_ne] at hn
    obtain ⟨⟨-, h1⟩, h2⟩ := hn
    rcases h with h | h
    · exact h h1
    · exact h2 h
  rw [e] at hu
  exact hu

/-- A train whose SYNC fails its CRC, without messages (R343). -/
theorem blind_effect (hc : ∀ x ∈ t.cells, x.full = false) (s : State) (p : JPort) :
    let u := trainBlind p t s
    (isMaster s = true ∨ s.jnb.passed = true → u.jnb.sent = some t) ∧ (isMaster s = false → u.jnb.passed = true) ∧
      u.jnb.crcErr = s.jnb.crcErr ∧ u.jnb.master = s.jnb.master ∧ u.jnb.g = s.jnb.g ∧ u.jnb.ndev = s.jnb.ndev := by
  dsimp only
  unfold trainBlind
  dsimp only
  rw [cellsIn_empty hc s]
  by_cases hm : isMaster s = true
  · rw [if_pos hm]
    exact ⟨fun _ => rfl, fun h => absurd (hm.symm.trans h) (by decide), rfl, rfl, rfl, rfl⟩
  · rw [if_neg hm]
    by_cases hp : s.jnb.passed = true
    · rw [if_pos hp]
      obtain ⟨m, r, k, g, e, -⟩ := cycleDone_eq t { s with jnb := { s.jnb with sent := some t } }
      rw [e]
      exact ⟨fun _ => rfl, fun _ => hp, rfl, rfl, rfl, rfl⟩
    · rw [if_neg hp]
      obtain ⟨sl, cs, b, q, n, e, -, -⟩ := trainWrite_eq t s
      rw [e]
      dsimp only
      split
      · obtain ⟨m, r, k, g, e', -⟩ := cycleDone_eq { t with slots := sl, cells := cs, badCells := b }
          { s with jnb := { s.jnb with
              outQ := q, seq := n, sent := some { t with slots := sl, cells := cs, badCells := b }
              passed := true, ended := false } }
        rw [e']
        exact ⟨fun h => absurd h (by simp [hm, hp]), fun _ => rfl, rfl, rfl, rfl, rfl⟩
      · exact ⟨fun h => absurd h (by simp [hm, hp]), fun _ => rfl, rfl, rfl, rfl, rfl⟩

/-- A second master (R351). -/
theorem dualMaster_effect (h : (s.jnb.port p).role ≠ 3) : ∃ code, ((dualMaster p s).jnb.port p).role = 3 ∧
    ((dualMaster p s).jnb.port p).usable = false ∧ (dualMaster p s).jnb.evt.getLsbD 3 = true ∧
    raised (dualMaster p s) 959 .uc code := by
  unfold dualMaster
  rw [if_neg h]
  obtain ⟨v, hv⟩ : ∃ v, v = jnbEvt 3 (modPort p (fun x => { x with role := 3, usable := false }) s) := ⟨_, rfl⟩
  have hport : v.jnb.port p = { s.jnb.port p with role := 3, usable := false } := by
    rw [hv, ← port_modPort p (fun x => { x with role := 3, usable := false })]
    cases p <;> rfl
  rw [← hv, jnb_joinRaise, hport]
  obtain ⟨code, hc⟩ := raised_joinRaise v
  refine ⟨code, rfl, rfl, ?_, hc⟩
  rw [hv]
  exact bitPut_getLsbD_self _ (by decide) true

/-- The train comes back to J0 over a ring, with the enumeration it carried (R341, R350). -/
theorem atMaster_enum {x : Sys2Proof.Cell} {rest : List Sys2Proof.Cell} (hb : t.badCells = []) (hc : t.cells = x :: rest)
    (hrest : ∀ y ∈ rest, y.full = false) (hf : x.full = true) (hk : x.kind = 1) (hm : t.mserial = mySerial s)
    (hst : s.jnb.st = 2) (he : s.jnb.ended = false) :
    let u := trainAtMaster .ja t s
    let next := (lat x.pay 0 0).bits 10 0
    u.jnb.st = 3 ∧ u.jnb.ndev = max 1 next ∧ u.jnb.g = groupsOf (max 1 next) ∧ u.jnb.ring = !t.lineJa ∧
      u.jnb.cycles = s.jnb.cycles + 1 ∧ u.jnb.back.isSome = true := by
  dsimp only
  unfold trainAtMaster
  rw [if_neg (by simp [hm])]
  dsimp only
  obtain ⟨a, b, e1⟩ := syncSeen_eq .ja s
  rw [e1]
  obtain ⟨l, e2⟩ := cellsIn_enum hb hc hrest hf hk { s with jnb := { s.jnb with ja := a, jb := b } }
  rw [e2]
  unfold trainEnd
  rw [hc, hb]
  dsimp only [List.getElem?_cons_zero]
  rw [if_pos (show (x.full && decide (x.kind = 1) && !(([] : List Nat).contains 0)) = true by rw [hf, hk]; rfl)]
  obtain ⟨e, e3, -⟩ := ringSeen_jnb (!t.lineJa) { s with jnb := { s.jnb with ja := a, jb := b, seen := l } }
  generalize ringSeen (!t.lineJa) { s with jnb := { s.jnb with ja := a, jb := b, seen := l } } = v at e3 ⊢
  generalize hw : some _ = w
  obtain ⟨m, r, k, g, e4, hk4⟩ := cycleDone_eq t { v with jnb := { v.jnb with back := w } }
  rw [e4]
  dsimp only at hk4 ⊢
  rw [e3] at hk4
  rw [e3]
  dsimp only at hk4 ⊢
  rw [if_pos hst, hk4 he]
  refine ⟨rfl, rfl, rfl, rfl, rfl, ?_⟩
  rw [← hw]
  rfl

/-! The first passage at a device (R341, R343, R344, R346, R350). -/

/-- An enumerating train that reaches a device in RUN takes its address back. -/
def readdressed (t : Train) (s : State) : State :=
  if t.enumF && s.jnb.st = 3 then { s with jnb := { s.jnb with addr := none, late := false, st := 2 } } else s

/-- The upstream port. -/
def firstFrom (p : JPort) (t : Train) (s : State) : State :=
  followRef (modPort (otherPort p) (fun x => { x with role := if x.role = 3 then 3 else if x.hop = .up then 2 else 0 })
    (modPort p (fun x => { x with role := 1 }) (readdressed t s)))

/-- What SYNC tells. -/
def synced (t : Train) (s : State) : State :=
  { s with jnb := { s.jnb with
    delay := nw t.delayAcc, g := t.g, ndev := t.ndev, c := cellsOf t.g, master := some t.mserial
    st := if s.jnb.addr.isSome then 3 else if s.jnb.st = 4 then 4 else 2 } }

/-- What SYNC tells, RING included. -/
def firstKnown (p : JPort) (t : Train) (s : State) : State := ringSeen t.ring (synced t (firstFrom p t s))

/-- The train goes on from the state `v`, its delay counted by the port's `d`. -/
def firstWrite (t : Train) (d : Nat) (v : State) : State :=
  let w := { v with jnb := { v.jnb with pairAddr := joinSrc v } }
  let x := trainWrite { t with delayAcc := t.delayAcc + d + min (w.draw 0 24000).1 24000 } (cellsIn t (w.draw 0 24000).2)
  { x.2 with jnb := { x.2.jnb with sent := some x.1, passed := true, ended := false } }

/-- ENUM waits in cell 0 for a device without an address. -/
def enumWaits (t : Train) (v : State) : Bool :=
  (lat t.cells 0 Cell.empty).full && (lat t.cells 0 Cell.empty).kind = 1 && !(t.badCells.contains 0) && v.jnb.addr.isNone

/-- NEXT of the message in cell 0. -/
def enumNext (t : Train) : Nat := (lat (lat t.cells 0 Cell.empty).pay 0 0).bits 10 0

/-- The device has taken the address that waits for it. -/
def enumTaken (t : Train) (v : State) : State := if enumWaits t v then joinEnum (!t.enumF) (enumNext t) v else v

/-- The train with the next address, where the device has taken one. -/
def enumPassed (t : Train) (v u : State) : Train :=
  if enumWaits t v && u.jnb.addr.isSome then
    { t with cells := { lat t.cells 0 Cell.empty with pay := [fld (enumNext t + 1) 0] } :: t.cells.drop 1 }
  else t

theorem trainFirst_eq (p : JPort) (t : Train) (s : State) : trainFirst p t s =
    firstWrite (enumPassed t (firstKnown p t s) (enumTaken t (firstKnown p t s))) ((firstFrom p t s).jnb.port p).delay
      (enumTaken t (firstKnown p t s)) := rfl

/-- A device without a master and a train to compare with: the passage is its first, and its cycle may complete with it. -/
theorem atDevice_first (hm : s.jnb.master = none) (hs : s.jnb.sent = none) (p : JPort) (t : Train) :
    ∃ v m r k g e, v.jnb.st = s.jnb.st ∧ v.jnb.addr = s.jnb.addr ∧ isMaster v = isMaster s ∧
      (trainAtDevice p t s).jnb = { (trainFirst p t v).jnb with ended := e, rxNext := m, rx := r, cycles := k, grants := g } := by
  obtain ⟨v, hv, h1, h2, h3, h4⟩ : ∃ v, v = syncSeen (leavesOn p s) (syncSeen p s) ∧ v.jnb.st = s.jnb.st ∧ v.jnb.addr = s.jnb.addr ∧
      isMaster v = isMaster s ∧ v.jnb.sent = none := by
    obtain ⟨a, b, e1⟩ := syncSeen_eq p s
    obtain ⟨a', b', e2⟩ := syncSeen_eq (leavesOn p s) { s with jnb := { s.jnb with ja := a, jb := b } }
    refine ⟨_, rfl, ?_⟩
    rw [e1, e2]
    exact ⟨rfl, rfl, rfl, hs⟩
  have hr : ringLate t.ring v = v := by unfold ringLate; rw [h4]
  unfold trainAtDevice
  rw [hm, if_neg (show ¬ Option.any (fun x => x != t.mserial) none = true from Bool.false_ne_true)]
  dsimp only
  rw [← hv, h4, if_neg (show ¬ Option.any (fun (x : Train) => x.syncOk && x.cycleTc == t.cycleTc) none = true from Bool.false_ne_true), hr]
  generalize hw : trainFirst p t v = w
  split
  · obtain ⟨m, r, k, g, e, -⟩ := cycleDone_eq (w.jnb.sent.getD t) w
    exact ⟨v, m, r, k, g, true, h1, h2, h3, by rw [e, hw]⟩
  · exact ⟨v, w.jnb.rxNext, w.jnb.rx, w.jnb.cycles, w.jnb.grants, w.jnb.ended, h1, h2, h3, by rw [hw]⟩

/-- The upstream port, and nothing else of the unit but the ports (R341). -/
theorem firstFrom_eq (p : JPort) (t : Train) (s : State) : ∃ a b,
    (firstFrom p t s).jnb = { (readdressed t s).jnb with ja := a, jb := b } ∧ ((firstFrom p t s).jnb.port p).role = 1 ∧
      JoinOnly s (firstFrom p t s) := by
  have h0 : JoinOnly s (readdressed t s) := by
    unfold readdressed
    split
    · exact .unit s _
    · exact .refl s
  unfold firstFrom
  generalize readdressed t s = v at h0 ⊢
  generalize hf : (fun x : JPortSt => ({ x with role := if x.role = 3 then 3 else if x.hop = .up then 2 else 0 } : JPortSt)) = f
  rw [jnb_followRef]
  obtain ⟨a, b, e⟩ := modPort_eq p (fun x => { x with role := 1 }) v
  have hp : ((modPort (otherPort p) f (modPort p (fun x => { x with role := 1 }) v)).jnb.port p).role = 1 := by
    rw [port_modPort_of_other, port_modPort]
  obtain ⟨a', b', e'⟩ := modPort_eq (otherPort p) f (modPort p (fun x => { x with role := 1 }) v)
  refine ⟨a', b', ?_, hp, ((h0.trans (joinOnly_modPort p _ v)).trans (joinOnly_modPort _ f _)).trans (joinOnly_followRef _)⟩
  rw [e', e]

/-- What is known of the bus after SYNC (R350). -/
theorem firstKnown_eq (p : JPort) (t : Train) (s : State) : ∃ a b e,
    (firstKnown p t s).jnb = { (readdressed t s).jnb with
      ja := a, jb := b, evt := e, ring := t.ring, delay := nw t.delayAcc, g := t.g, ndev := t.ndev, c := cellsOf t.g
      master := some t.mserial
      st := if (readdressed t s).jnb.addr.isSome then 3 else if (readdressed t s).jnb.st = 4 then 4 else 2 } ∧
    ((firstKnown p t s).jnb.port p).role = 1 ∧ isMaster (firstKnown p t s) = isMaster s := by
  obtain ⟨a, b, e1, h1, h2⟩ := firstFrom_eq p t s
  have h3 : ((synced t (firstFrom p t s)).jnb.port p).role = 1 := by
    rw [← h1]
    cases p <;> rfl
  obtain ⟨e, e2, h4⟩ := ringSeen_jnb t.ring (synced t (firstFrom p t s))
  refine ⟨a, b, e, ?_, ?_, (h4.master.trans rfl).trans h2.master⟩
  · rw [firstKnown, e2, synced, e1]
  · rw [firstKnown, e2, ← h3]
    cases p <;> rfl

/-- The train goes on: the unit afterwards, and the train as it was sent (R341, R344). -/
theorem firstWrite_eq (hc : ∀ v, ∃ l, cellsIn t v = { v with jnb := { v.jnb with seen := l } }) (d : Nat) (v : State) :
    ∃ pa l q n t', (firstWrite t d v).jnb = { v.jnb with
        pairAddr := pa, seen := l, outQ := q, seq := n, sent := some t', passed := true, ended := false } ∧
      t'.slots.length = t.slots.length ∧ t.delayAcc ≤ t'.delayAcc ∧ (∀ x rest, t.cells = x :: rest → lat t'.cells 0 Cell.empty = x) := by
  unfold firstWrite
  dsimp only
  generalize joinSrc v = pa
  obtain ⟨w, hw⟩ : ∃ w, w = ({ v with jnb := { v.jnb with pairAddr := pa } } : State) := ⟨_, rfl⟩
  rw [← hw]
  generalize (w.draw 0 24000).1 = k
  obtain ⟨l, e⟩ := hc (w.draw 0 24000).2
  rw [e]
  obtain ⟨sl, cs, b, q, n, e', hl, hx⟩ := trainWrite_eq { t with delayAcc := t.delayAcc + d + min k 24000 }
    { (w.draw 0 24000).2 with jnb := { (w.draw 0 24000).2.jnb with seen := l } }
  rw [e']
  refine ⟨pa, l, q, n, { t with delayAcc := t.delayAcc + d + min k 24000, slots := sl, cells := cs, badCells := b }, ?_, hl, ?_, ?_⟩
  · rw [hw]; rfl
  · change t.delayAcc ≤ t.delayAcc + d + min k 24000
    omega
  · intro x rest hcells
    obtain ⟨r, hr⟩ := hx x rest hcells
    change lat cs 0 _ = x
    rw [hr]
    rfl

theorem readdressed_same (h : t.enumF = false ∨ s.jnb.st ≠ 3) : readdressed t s = s := by
  unfold readdressed
  refine if_neg fun hn => ?_
  simp only [Bool.and_eq_true, decide_eq_true_eq] at hn
  rcases h with h | h
  · exact absurd (h.symm.trans hn.1) (by decide)
  · exact h hn.2

theorem readdressed_none (h : s.jnb.addr = none) (t : Train) : (readdressed t s).jnb.addr = none := by
  unfold readdressed
  split
  · rfl
  · exact h

/-- A first passage without messages (R341, R343, R344). -/
theorem first_plain (hm : s.jnb.master = none) (hs : s.jnb.sent = none) (hc : ∀ x ∈ t.cells, x.full = false)
    (he : t.enumF = false ∨ s.jnb.st ≠ 3) (p : JPort) :
    let u := trainAtDevice p t s
    ∃ t', u.jnb.master = some t.mserial ∧ (u.jnb.port p).role = 1 ∧ u.jnb.g = t.g ∧
        u.jnb.c = cellsOf t.g ∧ u.jnb.ndev = t.ndev ∧ u.jnb.delay = BitVec.ofNat 32 t.delayAcc ∧ u.jnb.ring = t.ring ∧
        u.jnb.sent = some t' ∧ t'.slots.length = t.slots.length ∧ t.delayAcc ≤ t'.delayAcc ∧ u.jnb.addr = s.jnb.addr ∧
        (s.jnb.addr = none → s.jnb.st ≠ 4 → u.jnb.st = 2) := by
  dsimp only
  obtain ⟨v, m, r, k, g, e, h1, h2, -, h4⟩ := atDevice_first hm hs p t
  have hv : readdressed t v = v := readdressed_same (by rw [h1]; exact he)
  have hw : enumWaits t (firstKnown p t v) = false := by
    have : (lat t.cells 0 Cell.empty).full = false := by
      cases hcells : t.cells with
      | nil => rfl
      | cons x l => exact hc x (by rw [hcells]; exact List.mem_cons_self)
    simp [enumWaits, this]
  have e1 : enumTaken t (firstKnown p t v) = firstKnown p t v := if_neg (by rw [hw]; exact Bool.false_ne_true)
  have e2 : enumPassed t (firstKnown p t v) (firstKnown p t v) = t := if_neg (by rw [hw]; exact Bool.false_ne_true)
  rw [trainFirst_eq, e1, e2] at h4
  obtain ⟨a, b, ev, e3, h5, -⟩ := firstKnown_eq p t v
  generalize firstKnown p t v = f at h4 e3 h5
  obtain ⟨pa, l, q, n, t', e4, h6, h7, -⟩ := firstWrite_eq (t := t) (fun v => ⟨v.jnb.seen, cellsIn_empty hc v⟩)
    ((firstFrom p t v).jnb.port p).delay f
  rw [e4] at h4
  rw [h4]
  have hrole : (({ f.jnb with
      pairAddr := pa, seen := l, outQ := q, seq := n, sent := some t', passed := true, ended := e, rxNext := m, rx := r, cycles := k
      grants := g } : Jnb).port p).role = 1 := by
    rw [← h5]
    cases p <;> rfl
  refine ⟨t', ?_, hrole, ?_, ?_, ?_, ?_, ?_, rfl, h6, h7, ?_, ?_⟩ <;> dsimp only <;> rw [e3]
  · rfl
  · rw [hv]; exact h2
  · rw [hv, h1, h2]
    intro ha h4
    rw [ha]
    exact if_neg h4

/-- A first passage with an address for this device (R350). -/
theorem first_enum {x : Sys2Proof.Cell} {rest : List Sys2Proof.Cell} (hb : t.badCells = []) (hc : t.cells = x :: rest)
    (hrest : ∀ y ∈ rest, y.full = false) (hf : x.full = true) (hk : x.kind = 1) (hM : isMaster s = false)
    (hm : s.jnb.master = none) (hs : s.jnb.sent = none) (ha : s.jnb.addr = none) (p : JPort)
    (hn : if t.enumF then (lat x.pay 0 0).bits 10 0 < 1024 else (lat x.pay 0 0).bits 10 0 < 8 * t.g) :
    let u := trainAtDevice p t s
    let next := (lat x.pay 0 0).bits 10 0
    ∃ t', u.jnb.addr = some (BitVec.ofNat 10 next) ∧ u.jnb.st = 3 ∧
          u.jnb.late = !t.enumF ∧ u.jnb.sent = some t' ∧ (lat t'.cells 0 Cell.empty).pay = [BitVec.ofNat 32 (next + 1)] := by
  dsimp only
  obtain ⟨v, m, r, k, g, e, -, h2, h3, h4⟩ := atDevice_first hm hs p t
  obtain ⟨a, b, ev, e3, -, h5⟩ := firstKnown_eq p t v
  have hlat : lat t.cells 0 Cell.empty = x := by rw [hc]; rfl
  have hnext : enumNext t = (lat x.pay 0 0).bits 10 0 := by rw [enumNext, hlat]
  rw [trainFirst_eq] at h4
  generalize (firstFrom p t v).jnb.port p = pv at h4
  generalize firstKnown p t v = f at h4 e3 h5
  have haddr : f.jnb.addr = none := by rw [e3]; exact readdressed_none (h2.trans ha) t
  have hg : f.jnb.g = t.g := by rw [e3]
  have hw : enumWaits t f = true := by simp [enumWaits, hlat, hf, hk, hb, haddr]
  obtain ⟨w, hwt, hwj⟩ : ∃ w, enumTaken t f = w ∧
      w.jnb = { f.jnb with addr := some (BitVec.ofNat 10 (enumNext t)), st := 3, late := !t.enumF } := by
    refine ⟨_, rfl, ?_⟩
    unfold enumTaken joinEnum
    rw [if_pos hw, if_neg (by rw [haddr, h5, h3, hM]; decide), if_pos, jnb_followRef]
    rw [hnext, hg]
    cases h : t.enumF <;> rw [h] at hn <;> exact hn
  rw [hwt] at h4
  have hp : enumPassed t f w = { t with cells := { x with pay := [fld (enumNext t + 1) 0] } :: rest } := by
    unfold enumPassed
    rw [if_pos (by rw [hw, hwj]; rfl), hlat, hc]
    rfl
  rw [hp] at h4
  obtain ⟨pa, l, q, n, t', e4, -, -, h7⟩ := firstWrite_eq
    (t := { t with cells := { x with pay := [fld (enumNext t + 1) 0] } :: rest })
    (fun v => cellsIn_enum (t := { t with cells := { x with pay := [fld (enumNext t + 1) 0] } :: rest })
      (x := { x with pay := [fld (enumNext t + 1) 0] }) hb rfl hrest hf hk v) pv.delay w
  rw [e4, hwj] at h4
  rw [h4]
  refine ⟨t', ?_, rfl, rfl, rfl, ?_⟩
  · dsimp only
    rw [hnext]
  · rw [h7 _ _ rfl, ← hnext]
    rfl

end

/-- Settles O55. -/
theorem joinTrain : Obligations.JoinTrain := by
  intro s hr
  obtain ⟨hs1, hs2⟩ := train_start s hr
  refine ⟨fun p vmax vmin serial role hp => hop_hello hr hp vmax vmin serial role, fun p => ?_, hs1, hs2,
    fun p t h => passage_closed s p t h, fun p t h1 h2 => ?_, fun next => enum_effect hr next⟩
  · obtain ⟨a1, a2⟩ := hop_usable s p
    obtain ⟨b1, b2⟩ := hop_down hr p
    exact ⟨a1, a2, b1, b2⟩
  have hu : Does (.trainPassage p t) s (trainPassage p t s) := rfl
  rw [trainPassage_eq hr h1 h2] at hu
  have hM : isMaster (counted t s) = isMaster s := rfl
  refine ⟨fun hy hc => ?_, fun hy hd => ?_, fun hy hm h3 h4 hb hc he => ?_, fun x rest hy hb hc hrest hf hk => ⟨fun hm h3 h4 h5 hn => ?_, fun hm h3 hp h4 h5 => ?_⟩⟩
  · rw [if_pos (by rw [hy]; rfl)] at hu
    obtain ⟨k1, k2, k3, k4⟩ := blind_effect hc (counted t s) p
    refine ⟨_, hu, k1, k2, k3.trans ?_, k4⟩
    rw [counted, hy]
    rfl
  · rw [if_neg (by rw [hy]; decide), hM] at hu
    obtain ⟨code, k⟩ := dualMaster_effect (s := counted t s) (p := p) (by rw [port_counted]; exact h2)
    rcases hd with ⟨hm, hd⟩ | ⟨hm, hd⟩
    · rw [if_pos hm, trainAtMaster, if_pos (show (t.mserial != mySerial (counted t s)) = true from bne_iff_ne.2 hd)] at hu
      exact ⟨_, code, hu, k⟩
    · rw [if_neg (by rw [hm]; decide), trainAtDevice, if_pos (show (counted t s).jnb.master.any (· != t.mserial) = true from hd)] at hu
      exact ⟨_, code, hu, k⟩
  · rw [if_neg (by rw [hy]; decide), hM, if_neg (by rw [hm]; decide)] at hu
    obtain ⟨t', k⟩ := first_plain (s := counted t s) h3 h4 hc he p
    exact ⟨_, t', hu, k⟩
  · rw [if_neg (by rw [hy]; decide), hM, if_neg (by rw [hm]; decide)] at hu
    obtain ⟨t', k⟩ := first_enum (s := counted t s) hb hc hrest hf hk hm h3 h4 h5 p hn
    exact ⟨_, t', hu, k⟩
  · subst hp
    rw [if_neg (by rw [hy]; decide), hM, if_pos hm] at hu
    exact ⟨_, hu, atMaster_enum (s := counted t s) hb hc hrest hf hk h3 h4 h5⟩

end Sys2Proof.Claims
end

section
/-!
PROOF. Reservations and grants of cells, the messages of sequences, and system triggers (R175, R176, R240, R348).
-/
namespace Sys2Proof.Claims
open Sys2Proof Sys2Proof.Machine

section
variable {s u v : State}

/-! Reservations and grants (R348). -/

/-- A run that is granted lies in the free cells and apart from the other grants. -/
theorem grantRun_spec {c n a : Nat} {gs : List (JAddr × Nat × Nat × Nat)} (h : grantRun c gs n = some a) :
    5 ≤ a ∧ a + n ≤ c ∧ ∀ g ∈ gs, a + n ≤ g.2.1 ∨ g.2.1 + g.2.2.1 ≤ a := by
  have := List.find?_some h
  simp only [Bool.and_eq_true, decide_eq_true_eq, List.all_eq_true, Bool.or_eq_true] at this
  obtain ⟨⟨h1, h2⟩, h3⟩ := this
  exact ⟨h1, h2, h3⟩

theorem reserve_effect (hr : joinRuns s = true) (src : JAddr) (cells : Nat) :
    let n := cells % 1024
    let rest := s.jnb.grants.filter (·.1 != src)
    (isMaster s = false → Does (.reserve src cells) s s) ∧
    (isMaster s = true → n = 0 → Does (.reserve src cells) s { s with jnb := { s.jnb with grants := rest } }) ∧
    (isMaster s = true → 0 < n → ∀ a, grantRun s.jnb.c rest n = some a → 5 ≤ a ∧ a + n ≤ s.jnb.c ∧
      (∀ g ∈ rest, a + n ≤ g.2.1 ∨ g.2.1 + g.2.2.1 ≤ a) ∧
      Does (.reserve src cells) s { s with jnb := { s.jnb with
        grants := rest ++ [(src, a, n, s.jnb.cycles)], grantQ := s.jnb.grantQ ++ [(src, fld a 16 ||| fld n 0, 0)] } }) ∧
    (isMaster s = true → 0 < n → grantRun s.jnb.c rest n = none → ∃ w, Does (.reserve src cells) s { s with jnb := { s.jnb with
        grantQ := s.jnb.grantQ ++ [(src, 0, w)] } } ∧ w.bit 0 = true) := by
  dsimp only
  generalize hn : cells % 1024 = n
  have hu : Does (.reserve src cells) s (if joinRuns s then joinReserve src (cells % 1024) s else s) := rfl
  rw [if_pos hr, hn, joinReserve] at hu
  dsimp only at hu
  refine ⟨fun hm => ?_, fun hm h0 => ?_, fun hm h0 a ha => ?_, fun hm h0 ha => ?_⟩
  · rw [if_pos (by rw [hm]; rfl)] at hu
    exact hu
  · rw [if_neg (by rw [hm]; decide), if_pos h0] at hu
    exact hu
  · rw [if_neg (by rw [hm]; decide), if_neg (Nat.ne_of_gt h0), ha] at hu
    obtain ⟨h1, h2, h3⟩ := grantRun_spec ha
    exact ⟨h1, h2, h3, hu⟩
  · rw [if_neg (by rw [hm]; decide), if_neg (Nat.ne_of_gt h0), ha] at hu
    refine ⟨_, hu, ?_⟩
    rw [or_bit, fld_bit]
    rfl

theorem grant_effect (hr : joinRuns s = true) (first count : Nat) (refused : Bool) :
    (onJoin s = false → Does (.joinGrant first count refused) s s) ∧
    (onJoin s = true → refused = true → ∃ u, Does (.joinGrant first count refused) s u ∧ u.jnb.evt.getLsbD 4 = true ∧
      u.jnb.reserve = none ∧ u.jnb.first = s.jnb.first ∧ u.jnb.count = s.jnb.count) ∧
    (onJoin s = true → refused = false → Does (.joinGrant first count refused) s { s with jnb := { s.jnb with
      reserve := none, first := first % 1024, count := count % 1024 } }) := by
  have hu : Does (.joinGrant first count refused) s
    (if joinRuns s && onJoin s then joinGrant (first % 1024) (count % 1024) refused s else s) := rfl
  rw [hr, Bool.true_and] at hu
  refine ⟨fun h => does_kept hu (by rw [h]; decide), fun h hf => ?_, fun h hf => ?_⟩
  · subst hf
    rw [if_pos h] at hu
    exact ⟨_, hu, bitPut_getLsbD_self _ (by decide) true, rfl, rfl, rfl⟩
  · subst hf
    rw [if_pos h] at hu
    exact hu

/-! The messages of sequences (R175, R176). -/

/-- The sources of the engines' tasks record their own class. -/
theorem srcKind_taskSrc {c : Nat} (hc : c < 512) : srcKind (taskSrc (engOfCtx c)) ≠ 2 := by
  have h : taskSrc (engOfCtx c) < 992 := by
    have he : engOfCtx c < 0x50 := by
      unfold engOfCtx
      split
      · omega
      · split <;> omega
    unfold taskSrc
    split
    · omega
    · split <;> omega
  unfold srcKind
  rw [if_neg (by omega)]
  split <;> decide

theorem seqReq_effect (src : JAddr) (task : BitVec 16) (off : Bool) (s : State) :
    (ctxOf s task.toNat = none → Does (.seqReq src task off) s s) ∧
    (∀ c t, ctxOf s task.toNat = some c → taskNo s task.toNat = some t → t.profile = .s → c < 512 →
      ((parm s t 3).bit 30 = true → (parm s t 3).bits 25 16 = src.toNat → Memory.wf s.shared = true →
        ∃ u, Does (.seqReq src task off) s u ∧ seqReqOn u t = !off ∧ seqSupOk u t = seqSupOk s t ∧ u.ctx = s.ctx ∧
          u.chan = s.chan ∧ u.fcr = s.fcr) ∧
      ((parm s t 3).bit 30 = false ∨ (parm s t 3).bits 25 16 ≠ src.toNat →
        ∃ u code, Does (.seqReq src task off) s u ∧ raised u (taskSrc (engOfCtx c)) (promoted s (taskSrc (engOfCtx c)) .ce) code ∧
          u.shared = s.shared ∧ u.ctx = s.ctx)) := by
  have hu : Does (.seqReq src task off) s _ := rfl
  refine ⟨fun h => ?_, fun c t hc ht hp hlt => ⟨fun h1 h2 hw => ?_, fun h => ?_⟩⟩
  · rw [h] at hu
    exact hu
  · rw [hc, ht] at hu
    dsimp only at hu
    rw [if_pos hp, if_pos (by rw [h1, h2]; exact beq_self_eq_true _)] at hu
    obtain ⟨k1, k2, -⟩ := seqWord0_bits hw c t (!off) (seqSupOk s t) (seqSupPres s t)
    exact ⟨_, hu, k1, k2, rfl, rfl, rfl⟩
  · rw [hc, ht] at hu
    dsimp only at hu
    rw [if_pos hp, if_neg] at hu
    · obtain ⟨code, hr⟩ := raised_raiseC_promoted (srcKind_taskSrc hlt) s .ce c t.num
      exact ⟨_, code, hu, hr, State.raiseC_shared .., State.raiseC_ctx ..⟩
    · rw [Bool.and_eq_true, beq_iff_eq]
      rintro ⟨h1, h2⟩
      rcases h with h | h
      · exact absurd (h1.symm.trans h) (by decide)
      · exact h h2

/-- What a state that a slave sends does to one context (R175). -/
def slaveSeen (src : JAddr) (task : BitVec 16) (st : SeqSt) (s : State) (c : Nat) : State :=
  match seqTask s c with
  | none => s
  | some t =>
    let s1 := modSeq c (fun q => { q with
      slaves := q.slaves.filter (fun x => !(x.1 == src && x.2.1 == task)) ++ [(src, task, st)] }) s
    match (seqOf s1 c).wait with
    | .await _ dev tk _ _ _ =>
      if st = .locked && dev == src && tk == task.toNat && canFault (seqOf s1 c).st then faultReact c t 5 none src.toNat s1 else s1
    | _ => s1

/-- The record of a sequence that has heard a slave. -/
def heardSlave (src : JAddr) (task : BitVec 16) (st : SeqSt) (q : SeqRec) : SeqRec :=
  { q with slaves := q.slaves.filter (fun x => !(x.1 == src && x.2.1 == task)) ++ [(src, task, st)] }

theorem cx_modSeq_ne {c d : Nat} (h : c ≠ d) (f : SeqRec → SeqRec) (s : State) : (modSeq c f s).cx d = s.cx d :=
  State.modCx_cx_ne s h _

theorem cx_seqSet_ne {c d : Nat} (h : c ≠ d) (t : Task) (st : SeqSt) (mark : Nat) (s : State) :
    (seqSet c t st mark s).cx d = s.cx d := by
  obtain ⟨b, j, e⟩ := seqSet_eq c t st mark s
  rw [e]
  exact cx_modSeq_ne h (entered st) s

/-- A fault reaction, up to its occurrence. -/
theorem faultReact_eq (c : Nat) (t : Task) (cause : Nat) (rail : Option Nat) (jaddr : Nat) (s : State) :
    ∃ v, v.ctx = s.ctx ∧ v.adm = s.adm ∧ faultReact c t cause rail jaddr s =
      (modSeq c (fun q => { q with
        unwFault := true, runs := false, unwLeft := 0, rails := q.rails.map fun x => { x with ramp := none } })
        (seqSet c t .unwind 0xFF v)).modCx c fun x => { x with rel := none } := by
  obtain ⟨w, hw⟩ : ∃ w, w = snapshot c t (parmPut t 1 (faultWord cause (seqCode (seqOf s c).st) (rail.getD 0xFF) jaddr) s) := ⟨_, rfl⟩
  have h1 : w.ctx = s.ctx := by rw [hw]; rfl
  have h2 : w.adm = s.adm := by rw [hw]; rfl
  obtain ⟨-, k1, -⟩ := faultRaise_frame rail c t w
  refine ⟨faultRaise rail c t w, k1.trans h1, Eq.trans ?_ h2, ?_⟩
  · cases rail with
    | none => exact State.raiseC_adm ..
    | some i =>
      obtain ⟨n, e⟩ := counterAsk_eq (railCounter w t i 0) w
      rw [faultRaise, e]
      exact State.raiseC_adm ..
  · rw [hw]
    cases rail <;> rfl

/-- A fault reaction changes its own context alone (R165). -/
theorem faultReact_other {c d : Nat} (h : c ≠ d) (t : Task) (cause : Nat) (rail : Option Nat) (jaddr : Nat) (s : State) :
    (faultReact c t cause rail jaddr s).cx d = s.cx d ∧ (faultReact c t cause rail jaddr s).adm = s.adm := by
  obtain ⟨v, h1, h2, e⟩ := faultReact_eq c t cause rail jaddr s
  have h3 : (seqSet c t .unwind 0xFF v).adm = v.adm := by
    obtain ⟨b, j, e'⟩ := seqSet_eq c t .unwind 0xFF v
    rw [e']
    rfl
  rw [e]
  refine ⟨?_, h3.trans h2⟩
  rw [State.modCx_cx_ne _ h, cx_modSeq_ne h, cx_seqSet_ne h, State.cx, State.cx, h1]

/-- A fault reaction unwinds its sequence and ends its release (R165). -/
theorem faultReact_unwinds (c : Ctx) (t : Task) (cause : Nat) (rail : Option Nat) (jaddr : Nat) (s : State) :
    (seqOf (faultReact c.val t cause rail jaddr s) c.val).st = .unwind ∧
      (seqOf (faultReact c.val t cause rail jaddr s) c.val).unwFault = true ∧
      ((faultReact c.val t cause rail jaddr s).cx c.val).rel = none := by
  obtain ⟨v, -, -, e⟩ := faultReact_eq c.val t cause rail jaddr s
  rw [e, seqOf, State.modCx_cx_val]
  have h := seqOf_modSeq (seqSet c.val t .unwind 0xFF v) c (fun q => { q with
        unwFault := true, runs := false, unwLeft := 0, rails := q.rails.map fun x => { x with ramp := none } })
  rw [seqOf] at h
  rw [h, seqOf_seqSet]
  exact ⟨rfl, rfl, rfl⟩

/-- A context's record of its slaves touches no other context. -/
theorem slaveSeen_other (src : JAddr) (task : BitVec 16) (st : SeqSt) {c d : Nat} (h : c ≠ d) (s : State) :
    (slaveSeen src task st s c).cx d = s.cx d ∧ (slaveSeen src task st s c).adm = s.adm := by
  unfold slaveSeen
  split
  · exact ⟨rfl, rfl⟩
  next t _ =>
    dsimp only
    have h1 := cx_modSeq_ne h (heardSlave src task st) s
    split
    · split
      · obtain ⟨k1, k2⟩ := faultReact_other h t 5 none src.toNat (modSeq c (heardSlave src task st) s)
        exact ⟨k1.trans h1, k2⟩
      · exact ⟨h1, rfl⟩
    · exact ⟨h1, rfl⟩

theorem slaveSeen_open {src : JAddr} {task : BitVec 16} {st : SeqSt} (h : st ≠ .locked) (s : State) (c : Nat) :
    slaveSeen src task st s c = s ∨ slaveSeen src task st s c = modSeq c (heardSlave src task st) s := by
  unfold slaveSeen
  split
  · exact .inl rfl
  · dsimp only
    split
    · rw [if_neg (by simp [h])]
      exact .inr rfl
    · exact .inr rfl

/-- A slave that is not LOCKED is noted. -/
theorem slaveSeen_noted {src : JAddr} {task : BitVec 16} {st : SeqSt} (h : st ≠ .locked) {c : Nat} {t : Task}
    (ht : seqTask s c = some t) : slaveSeen src task st s c = modSeq c (heardSlave src task st) s := by
  unfold slaveSeen
  rw [ht]
  dsimp only
  split
  · rw [if_neg (by simp [h])]
    rfl
  · rfl

/-- A slave that is LOCKED while the sequence waits for it (R175). -/
theorem slaveSeen_fault {src : JAddr} {task : BitVec 16} {c : Ctx} {t : Task} {want : SeqSt} {d n : Nat} {tf : Bool}
    (ht : seqTask s c.val = some t) (hw : (seqOf s c.val).wait = .await want src task.toNat d tf n)
    (hf : canFault (seqOf s c.val).st = true) :
    slaveSeen src task .locked s c.val = faultReact c.val t 5 none src.toNat (modSeq c.val (heardSlave src task .locked) s) := by
  have e := seqOf_modSeq s c (heardSlave src task .locked)
  unfold slaveSeen
  rw [ht]
  change (match (seqOf (modSeq c.val (heardSlave src task .locked) s) c.val).wait with
    | .await _ dev tk _ _ _ => if SeqSt.locked = SeqSt.locked && dev == src && tk == task.toNat &&
        canFault (seqOf (modSeq c.val (heardSlave src task .locked) s) c.val).st
      then faultReact c.val t 5 none src.toNat (modSeq c.val (heardSlave src task .locked) s)
      else modSeq c.val (heardSlave src task .locked) s
    | _ => modSeq c.val (heardSlave src task .locked) s) = _
  rw [show (seqOf (modSeq c.val (heardSlave src task .locked) s) c.val).wait = _ from (congrArg SeqRec.wait e).trans hw]
  dsimp only
  rw [if_pos]
  rw [show (seqOf (modSeq c.val (heardSlave src task .locked) s) c.val).st = _ from congrArg SeqRec.st e]
  simpa [heardSlave] using hf

/-- Steps over the contexts, each on its own: the context `c` is as its one step leaves it. -/
theorem contexts_apart {f : State → Nat → State} (hf : ∀ s c d, c ≠ d → (f s c).cx d = s.cx d ∧ (f s c).adm = s.adm)
    (s : State) (k : Nat) (m : Nat) : let u := (List.range m).foldl (fun s k => f s (384 + k)) s
    u.adm = s.adm ∧ (m ≤ k → u.cx (384 + k) = s.cx (384 + k)) ∧
    (k < m → ∃ v, v.cx (384 + k) = s.cx (384 + k) ∧ v.adm = s.adm ∧ u.cx (384 + k) = (f v (384 + k)).cx (384 + k)) := by
  induction m with
  | zero => exact ⟨rfl, fun _ => rfl, fun h => absurd h (Nat.not_lt_zero k)⟩
  | succ m ih =>
    obtain ⟨h1, h2, h3⟩ := ih
    rw [List.range_succ, List.foldl_append, List.foldl_cons, List.foldl_nil]
    generalize (List.range m).foldl (fun s k => f s (384 + k)) s = w at h1 h2 h3 ⊢
    refine ⟨((hf w (384 + m) 0 (by omega)).2).trans h1, fun h => ?_, fun h => ?_⟩
    · rw [(hf w (384 + m) (384 + k) (by omega)).1]
      exact h2 (by omega)
    · by_cases hk : k = m
      · subst hk
        exact ⟨w, h2 (Nat.le_refl k), h1, rfl⟩
      · obtain ⟨v, k1, k2, k3⟩ := h3 (by omega)
        exact ⟨v, k1, k2, (hf w (384 + m) (384 + k) (by omega)).1.trans k3⟩

theorem seqTask_congr {c : Nat} (h1 : u.cx c = s.cx c) (h2 : u.adm = s.adm) : seqTask u c = seqTask s c := by
  unfold seqTask taskAt taskNo
  rw [h1, h2]

/-- What a fold keeps, each step of it keeping it. -/
theorem foldl_keeps {α β γ : Type} {f : β → α → β} (g : β → γ) (h : ∀ b a, g (f b a) = g b) (l : List α) (b : β) :
    g (l.foldl f b) = g b := by
  induction l generalizing b with
  | nil => rfl
  | cons a l ih => exact (ih (f b a)).trans (h b a)

theorem seqState_effect (src : JAddr) (task : BitVec 16) (st : SeqSt) (s : State) (k : Fin 64) (t : Task)
    (ht : seqTask s (384 + k.val) = some t) :
    (st ≠ .locked → ∃ u, Does (.seqState src task st) s u ∧ u.chan = s.chan ∧ u.shared = s.shared ∧
      (seqOf u (384 + k.val)).slaves =
        (seqOf s (384 + k.val)).slaves.filter (fun x => !(x.1 == src && x.2.1 == task)) ++ [(src, task, st)] ∧
      (seqOf u (384 + k.val)).st = (seqOf s (384 + k.val)).st) ∧
    (∀ want d tf n, st = .locked → (seqOf s (384 + k.val)).wait = .await want src task.toNat d tf n →
      canFault (seqOf s (384 + k.val)).st = true →
      ∃ u, Does (.seqState src task st) s u ∧ (seqOf u (384 + k.val)).st = .unwind ∧
        (seqOf u (384 + k.val)).unwFault = true ∧ (u.cx (384 + k.val)).rel = none) := by
  have hu : Does (.seqState src task st) s ((List.range 64).foldl (fun s k => slaveSeen src task st s (384 + k)) s) := rfl
  obtain ⟨-, -, h⟩ := contexts_apart (fun s c d h => slaveSeen_other src task st h s) s k.val 64
  obtain ⟨v, h1, h2, h3⟩ := h k.isLt
  have hv : seqTask v (384 + k.val) = some t := (seqTask_congr h1 h2).trans ht
  have hq : seqOf v (384 + k.val) = seqOf s (384 + k.val) := congrArg Context.seq h1
  generalize hc : (⟨384 + k.val, by omega⟩ : Ctx) = c
  have hcv : 384 + k.val = c.val := by rw [← hc]
  rw [hcv] at h3 hv hq ⊢
  refine ⟨fun hl => ⟨_, hu, ?_, ?_, ?_⟩, fun want d tf n hl hw hf => ⟨_, hu, ?_⟩⟩
  · refine foldl_keeps State.chan (fun b a => ?_) _ _
    rcases slaveSeen_open hl b (384 + a) with e | e
    · rw [e]
    · rw [e]; rfl
  · refine foldl_keeps State.shared (fun b a => ?_) _ _
    rcases slaveSeen_open hl b (384 + a) with e | e
    · rw [e]
    · rw [e]; rfl
  · have e : seqOf _ c.val = heardSlave src task st (seqOf v c.val) :=
      (congrArg Context.seq (h3.trans (by rw [slaveSeen_noted hl hv]))).trans (seqOf_modSeq v c _)
    rw [e, hq]
    exact ⟨rfl, rfl⟩
  · subst hl
    rw [slaveSeen_fault hv (by rw [hq]; exact hw) (by rw [hq]; exact hf)] at h3
    obtain ⟨k1, k2, k3⟩ := faultReact_unwinds c t 5 none src.toNat (modSeq c.val (heardSlave src task .locked) v)
    exact ⟨(congrArg (fun x => x.seq.st) h3).trans k1, (congrArg (fun x => x.seq.unwFault) h3).trans k2,
      (congrArg Context.rel h3).trans k3⟩

/-! System triggers (R240). -/

/-- A fold over indices of which one acts. -/
theorem foldl_range_single {f : State → Nat → State} {n i : Nat} {s u : State} (hb : ∀ j, j ≠ i → j < n → f s j = s) (hi : f s i = u)
    (ha : ∀ j, j ≠ i → j < n → f u j = u) : ∀ m ≤ n, (List.range m).foldl f s = if i < m then u else s := by
  intro m
  induction m with
  | zero => exact fun _ => rfl
  | succ m ih =>
    intro hm
    rw [List.range_succ, List.foldl_append, List.foldl_cons, List.foldl_nil, ih (by omega)]
    rcases Nat.lt_trichotomy i m with h | h | h
    · rw [if_pos h, if_pos (by omega), ha m (by omega) (by omega)]
    · rw [if_neg (by omega), if_pos (by omega), ← h, hi]
    · rw [if_neg (by omega), if_neg (by omega), hb m (by omega) (by omega)]

/-- A trigger is declared for a system trigger (R240). -/
def joinMatch (s : State) (n : BitVec 8) (i : Nat) : Bool :=
  (vat s.bbr.trig i Trig.init).decl && trigSource (vat s.bbr.trig i Trig.init) == 3 && trigSys (vat s.bbr.trig i Trig.init) == n.toNat

/-- A trigger that a system trigger alone concerns. -/
theorem joinTrig_single {src : JAddr} {n : BitVec 8} {f : BitVec 48} {i : Fin 32} {u : State} (hi : joinMatch s n i.val = true)
    (ho : ∀ j : Fin 32, j ≠ i → joinMatch s n j.val = false) (hu : trigHit i.val (tickOf48 s.now f) src s = u)
    (hk : ∀ j : Fin 32, j ≠ i → trg u j = trg s j) : joinTrig src n f s = u := by
  have hne : ∀ v : State, (∀ j : Fin 32, j ≠ i → joinMatch v n j.val = false) → ∀ j, j ≠ i.val → j < 32 →
      (if joinMatch v n j then trigHit j (tickOf48 v.now f) src v else v) = v := fun v hv j h1 h2 =>
    if_neg (by rw [hv ⟨j, h2⟩ (fun h => h1 (congrArg Fin.val h))]; exact Bool.false_ne_true)
  refine (foldl_range_single (n := 32) (i := i.val) (u := u) (hne s ho) ((if_pos hi).trans hu) (hne u fun j hj => ?_) 32 (Nat.le_refl _)).trans
    (if_pos i.isLt)
  have e : vat u.bbr.trig j.val Trig.init = vat s.bbr.trig j.val Trig.init := hk j hj
  rw [joinMatch, e]
  exact ho j hj

theorem freezeTier_trig (i t : Nat) (lo hi : Int) (b : Bbr) : (freezeTier i t lo hi b).trig = b.trig :=
  foldl_keeps Bbr.trig (fun _ _ => (hdrSync_trig ..).trans (modBlk_trig ..)) _ b

/-- A JOIN trigger that fires sends nothing on the join bus, and leaves the other triggers (R240). -/
theorem fireTrig_join (i : Fin 32) (h : trigSource (trg s i) = 3) (f : Nat) (src : JAddr) :
    (fireTrig i.val f src s).jnb = s.jnb ∧ ∀ j : Fin 32, j ≠ i → trg (fireTrig i.val f src s) j = trg s j := by
  obtain ⟨b, l, sh, kind, low, data, tiers, hb, hj⟩ : ∃ (b : Bbr) (l : List Nat) (sh : Bool) (kind low : Nat) (data : List W)
      (tiers : List Nat), b.trig = s.bbr.trig ∧
      fireTrig i.val f src s = note kind low data tiers { s with bbr := { b with trig := vmod b.trig i.val fun g =>
        { g with st := .fired, f := f, left := l, preShort := sh, damaged := false, exported := 0 } } } := by
    have h3 : (trigSource (vat s.bbr.trig i.val Trig.init) != 3) = false := bne_eq_false_iff_eq.2 h
    unfold fireTrig
    dsimp only
    rw [h3, Bool.false_and, Bool.false_and, if_neg Bool.false_ne_true]
    refine ⟨_, _, _, _, _, _, _, ?_, rfl⟩
    exact foldl_keeps Bbr.trig (fun b a => freezeTier_trig ..) _ _
  rw [hj]
  refine ⟨rfl, fun j hji => ?_⟩
  rw [trg, note_trig]
  change vat (vmod b.trig i.val _) j.val Trig.init = _
  rw [vat_vmod_ne _ (fun e => hji (Fin.ext e.symm)), hb, trg]

theorem joinTrigger_effect (hr : joinRuns s = true) (src : JAddr) (sysnum : BitVec 8) (f : BitVec 48) (i : Fin 32)
    (h1 : (trg s i).decl = true) (h2 : trigSource (trg s i) = 3) (h3 : trigSys (trg s i) = sysnum.toNat)
    (ho : ∀ j : Fin 32, j ≠ i → (trg s j).decl = false ∨ trigSource (trg s j) ≠ 3 ∨ trigSys (trg s j) ≠ sysnum.toNat) :
    ((trg s i).st = .armed → (trg s i).armTick ≤ s.now → ∃ u, Does (.joinTrigger src sysnum f) s u ∧ (trg u i).st = .fired ∧
      (trg u i).f = tickOf48 s.now f ∧ u.jnb = s.jnb) ∧
    ((trg s i).st ≠ .armed → (trg s i).pend = none → ∃ u, Does (.joinTrigger src sysnum f) s u ∧
      trg u i = { trg s i with missed := (trg s i).missed + 1 } ∧ u.jnb = s.jnb) := by
  have hu : Does (.joinTrigger src sysnum f) s (if joinRuns s then joinTrig src sysnum f s else s) := rfl
  rw [if_pos hr] at hu
  have hm : joinMatch s sysnum i.val = true := by
    change ((trg s i).decl && trigSource (trg s i) == 3 && trigSys (trg s i) == sysnum.toNat) = true
    rw [h1, h2, h3]
    simp
  have hn : ∀ j : Fin 32, j ≠ i → joinMatch s sysnum j.val = false := fun j hj => by
    change ((trg s j).decl && trigSource (trg s j) == 3 && trigSys (trg s j) == sysnum.toNat) = false
    rcases ho j hj with h | h | h
    · rw [h]; rfl
    · rw [beq_false_of_ne h]; simp
    · rw [beq_false_of_ne h]; simp
  refine ⟨fun hs ha => ?_, fun hs hp => ?_⟩
  · obtain ⟨k1, k2⟩ := fireTrig_join i h2 (tickOf48 s.now f) src
    have hhit : trigHit i.val (tickOf48 s.now f) src s = fireTrig i.val (tickOf48 s.now f) src s := by
      unfold trigHit
      dsimp only
      rw [if_pos (show (vat s.bbr.trig i.val Trig.init).st = .armed from hs),
        if_pos (show (vat s.bbr.trig i.val Trig.init).armTick ≤ s.now from ha)]
    rw [joinTrig_single hm hn hhit k2] at hu
    obtain ⟨e1, e2, -⟩ := trg_fireTrig i (tickOf48 s.now f) src s
    exact ⟨_, hu, e1, e2, k1⟩
  · have hhit : trigHit i.val (tickOf48 s.now f) src s =
        { s with bbr := { s.bbr with trig := vmod s.bbr.trig i.val fun g => { g with missed := g.missed + 1 } } } := by
      unfold trigHit
      dsimp only
      rw [if_neg (show ¬ (vat s.bbr.trig i.val Trig.init).st = .armed from hs), show (vat s.bbr.trig i.val Trig.init).pend = none from hp, if_neg (by decide)]
    rw [joinTrig_single hm hn hhit fun j hj => vat_vmod_ne _ (fun e => hj (Fin.ext e.symm)) _ _] at hu
    exact ⟨_, hu, trg_modTrig i _ s.bbr s, rfl⟩

theorem grantExpiry_effect (holder : JAddr) (s : State) :
    (isMaster s = true → Does (.grantExpiry holder) s
      { s with jnb := { s.jnb with grants := s.jnb.grants.filter fun g => g.1 != holder || s.jnb.cycles < g.2.2.2 + 10000 } }) ∧
    (isMaster s = false → Does (.grantExpiry holder) s s) := by
  have hu : Does (.grantExpiry holder) s (if isMaster s then { s with jnb := { s.jnb with
      grants := s.jnb.grants.filter fun g => g.1 != holder || s.jnb.cycles < g.2.2.2 + 10000 } } else s) := rfl
  refine ⟨fun h => ?_, fun h => ?_⟩
  · rw [if_pos h] at hu
    exact hu
  · exact does_kept hu (by rw [h]; exact Bool.false_ne_true)

end

/-- Settles O56. -/
theorem joinMessages : Obligations.JoinMessages := fun s hr =>
  ⟨fun src cells => reserve_effect hr src cells, fun first count refused => grant_effect hr first count refused,
    fun holder => grantExpiry_effect holder s, fun src task off => seqReq_effect src task off s,
    fun src task st k t ht => seqState_effect src task st s k t ht,
    fun src sysnum f i h1 h2 h3 ho => joinTrigger_effect hr src sysnum f i h1 h2 h3 ho⟩

end Sys2Proof.Claims
end

section
/-!
PROOF. Verification, local preparation, votes, and the messages of another coordinator (R419, R421 to R423, R425, R428, R429).
-/
namespace Sys2Proof.Claims
open Sys2Proof Sys2Proof.Machine

section
variable {s u v : State} {k : KCmd} {mid mseq : W}

/-! What the operations of an update change. -/

theorem updPage_eq (s : State) : ∃ n, updPage s = { s with nvs := n } := ⟨_, rfl⟩
theorem updLog_eq (code orig : Nat) (s : State) : ∃ n, updLog code orig s = { s with nvs := n } := ⟨_, rfl⟩
theorem setPhase_eq (p : UpdPhase) (s : State) : ∃ n, setPhase p s = { s with nvs := n, upe := { s.upe with phase := p } } := ⟨_, rfl⟩

theorem voteSend_eq (kind : Nat) (rest : List W) (s : State) : ∃ q, voteSend kind rest s = { s with jnb := { s.jnb with outQ := q } } := by
  unfold voteSend
  split
  · exact ⟨_, rfl⟩
  · exact ⟨_, rfl⟩

/-- Steps that change links alone. -/
theorem foldl_link {α : Type} {f : State → α → State} (h : ∀ s a, ∃ x, f s a = { s with link := x }) (l : List α) (s : State) :
    ∃ x, l.foldl f s = { s with link := x } := by
  induction l generalizing s with
  | nil => exact ⟨_, rfl⟩
  | cons a l ih =>
    obtain ⟨x, e⟩ := h s a
    obtain ⟨y, e'⟩ := ih { s with link := x }
    exact ⟨y, by rw [List.foldl_cons, e, e']⟩

theorem moduleCtrl_eq (v : Nat) (s : State) : ∃ x, moduleCtrl v s = { s with link := x } := by
  unfold moduleCtrl
  refine foldl_link (fun s p => foldl_link (fun s l => ?_) _ s) _ s
  dsimp only
  split
  · exact ⟨_, rfl⟩
  · exact ⟨_, rfl⟩

theorem modData_eq (l n : Nat) (ws : List W) (s : State) : ∃ x, modData l n ws s = { s with link := x } := by
  induction n generalizing ws s with
  | zero => exact ⟨_, rfl⟩
  | succ n ih =>
    unfold modData
    split
    · exact ⟨_, rfl⟩
    · obtain ⟨x, e⟩ := ih (ws.drop 254) (svcSend l false 0x01 0 (nw 0x0043 :: ws.take 254) none s)
      exact ⟨x, e⟩

theorem modLoad_eq (l : Nat) (ws : List W) (s : State) : ∃ x, modLoad l ws s = { s with link := x } := by
  obtain ⟨x, e⟩ := modData_eq l ws.length ws (svcSend l false 0x01 0 [nw 0x0041, nw ws.length, crc32cW ws] none s)
  unfold modLoad
  dsimp only
  rw [e]
  exact ⟨_, rfl⟩

/-- The module parts go out over links; a link that is not UP is noted (R424). -/
theorem prepModules_eq (s : State) : ∃ x k, prepModules s = { s with link := x, upe := { s.upe with skipped := k } } := by
  have hfold : ∀ {α : Type} {f : State → α → State}, (∀ s a, ∃ x k, f s a = { s with link := x, upe := { s.upe with skipped := k } }) →
      ∀ (l : List α) (s : State), ∃ x k, l.foldl f s = { s with link := x, upe := { s.upe with skipped := k } } := by
    intro α f h l
    induction l with
    | nil => exact fun s => ⟨_, _, rfl⟩
    | cons a l ih =>
      intro s
      obtain ⟨x, k, e⟩ := h s a
      obtain ⟨y, j, e'⟩ := ih { s with link := x, upe := { s.upe with skipped := k } }
      exact ⟨y, j, by rw [List.foldl_cons, e, e']⟩
  unfold prepModules
  dsimp only
  refine hfold (fun s x => hfold (fun s l => ?_) _ s) _ s
  split
  · obtain ⟨y, e⟩ := modLoad_eq l (flashWords s (partFlash s x.1) (x.2.len / 4)) s
    exact ⟨y, s.upe.skipped, e⟩
  · exact ⟨s.link, _, rfl⟩

/-- An update under local preparation. -/
def preparing (now : Nat) (k : List Nat) (u : Upe) : Upe :=
  { u with phase := .preparing, preparing := true, openTick := now, yes := [], no := [], skipped := k }

theorem prepBegin_eq (s : State) : ∃ n x k, prepBegin s = { s with nvs := n, link := x, upe := preparing s.now k s.upe } := by
  obtain ⟨n, e⟩ := setPhase_eq .preparing s
  obtain ⟨x, k, e'⟩ := prepModules_eq { s with nvs := n, upe := { s.upe with
    phase := .preparing, preparing := true, openTick := s.now, yes := [], no := [], skipped := [] } }
  refine ⟨n, x, k, ?_⟩
  unfold prepBegin
  rw [e]
  exact e'

theorem PairOnly.upe (h : PairOnly s u) : u.upe = s.upe := (Occurs.upe h :)
theorem PairOnly.adm (h : PairOnly s u) : u.adm = s.adm := (Occurs.adm h :)
theorem PairOnly.raised {src : Nat} {cls : EvClass} {code : Nat} (h : PairOnly s u) (hr : raised s src cls code) : raised u src cls code :=
  Occurs.raised h hr

/-- The command that waits for the update completes (R419). -/
theorem updDone_some {cmd : Nat} (h : v.kio.accepted.find? (fun k => k.cmd == cmd && k.begun) = some k) (code part r2 : Nat) :
    updDone cmd code part r2 v = kEnd k 0 (nw code) (nw part) (nw r2) v := by
  unfold updDone
  rw [h]
  rfl

theorem pairOnly_updDone (cmd code part r2 : Nat) (s : State) : PairOnly s (updDone cmd code part r2 s) := by
  unfold updDone
  split
  · exact pairOnly_kEnd ..
  · exact .refl s

/-- An update that has been undone. -/
def undone (code part : Nat) (u : Upe) : Upe :=
  { u with
    phase := .verified, preparing := false, newPlan := none, newFw := none, commitTick := 0, coord := false, skipped := []
    lastCode := BitVec.ofNat 8 code, lastPart := BitVec.ofNat 8 part, evt := bitPut u.evt 3 true }

theorem updUndo_effect (code part r2 logc orig : Nat) (s : State) : (updUndo code part r2 logc orig s).upe = undone code part s.upe ∧
    raised (updUndo code part r2 logc orig s) 982 .uc (0x0A00 + code) := by
  obtain ⟨x, e⟩ := moduleCtrl_eq 3 s
  obtain ⟨n, e1⟩ := setPhase_eq .verified { s with link := x, upe := { s.upe with
    preparing := false, newPlan := none, newFw := none, commitTick := 0, coord := false, skipped := [] } }
  obtain ⟨n', e2⟩ := updLog_eq logc orig { s with link := x, nvs := n, upe := undone code part s.upe }
  obtain ⟨v, hv⟩ : ∃ v, v = State.raiseP { s with link := x, nvs := n', upe := undone code part s.upe } 982 .uc (0x0A00 + code) := ⟨_, rfl⟩
  have h1 : v.upe = undone code part s.upe := by rw [hv]; exact (occurs_raiseP ..).upe
  have h2 : raised v 982 .uc (0x0A00 + code) := by rw [hv]; exact raised_raise (by decide) _ .uc _ _ _ _
  have e3 : updUndo code part r2 logc orig s = updDone 0x0704 code part r2 (updDone 0x0703 code part r2 v) := by
    unfold updUndo
    dsimp only
    rw [e, e1, hv]
    exact congrArg (fun w => updDone 0x0704 code part r2 (updDone 0x0703 code part r2 (State.raiseP w 982 .uc (0x0A00 + code)))) e2
  have hp := (pairOnly_updDone 0x0703 code part r2 v).trans (pairOnly_updDone 0x0704 code part r2 _)
  rw [e3]
  exact ⟨hp.upe.trans h1, hp.raised h2⟩

theorem updAbortR_effect (h : updOpen s.upe.phase = true) (code part r2 : Nat) : (updAbortR code part r2 s).upe = undone code part s.upe ∧
    raised (updAbortR code part r2 s) 982 .uc (0x0A00 + code) := by
  unfold updAbortR
  rw [if_pos h]
  obtain ⟨q, e⟩ := voteSend_eq 0x33 [nw code, nw (updAddr s)] s
  rw [e]
  exact updUndo_effect ..

/-! Confirmation (R429). -/

theorem settingPut_eq (s : State) (x : BitVec 16 × List W) : ∃ n, settingPut s x = { s with nvs := n } := by
  unfold settingPut
  obtain ⟨b, n, e⟩ := recUpdate_eq x.1 ((lat x.2 0 0).extractLsb' 0 16)
    ((List.range (((recFind s x.1).map (·.len)).getD (x.2.length - 1))).map fun i => lat x.2 (1 + i) 0) s
  exact ⟨n, congrArg Prod.snd e⟩

theorem settingPuts_eq (l : List (BitVec 16 × List W)) (s : State) : ∃ n, l.foldl settingPut s = { s with nvs := n } := by
  induction l generalizing s with
  | nil => exact ⟨_, rfl⟩
  | cons x l ih =>
    obtain ⟨n, e⟩ := settingPut_eq s x
    obtain ⟨n', e'⟩ := ih { s with nvs := n }
    exact ⟨n', by rw [List.foldl_cons, e, e']⟩

theorem confStore_upe (s : State) : ∃ k, (confStore s).upe = { s.upe with confStep := k } := by
  unfold confStore
  split
  · exact ⟨_, rfl⟩
  · exact ⟨_, (storeBegin_frame s.nvs.dirty none false { s with upe := { s.upe with confStep := 2 } }).upe⟩

/-- An update that is being confirmed: the directory names its slots and MSEQ. -/
theorem confirm_upe (s : State) : (confirm s).upe.phase = .confirming ∧ (confirm s).upe.mseqConf = s.upe.mseqNew ∧
    (confirm s).upe.manSlot = (!s.upe.manSlot) ∧ (confirm s).upe.fallTick = none := by
  obtain ⟨n, e⟩ := setPhase_eq .confirming { s with upe := { s.upe with fallTick := none } }
  unfold confirm
  dsimp only
  rw [e]
  generalize (heldParts s).any (fun x => x.2.kind == 1) = a
  generalize (heldParts s).any (fun x => x.2.kind == 2) = b
  obtain ⟨v, hv⟩ : ∃ v, v = dirWrite { s with nvs := n, upe := { s.upe with
      fallTick := none, phase := .confirming, manSlot := !s.upe.manSlot, fwSlot := s.upe.fwSlot != a, imgSlot := s.upe.imgSlot != b
      mseqConf := s.upe.mseqNew } } := ⟨_, rfl⟩
  obtain ⟨n', e'⟩ := settingPuts_eq s.upe.settings v
  obtain ⟨k, e''⟩ := confStore_upe { v with nvs := n' }
  have hv' : v.upe.phase = .confirming ∧ v.upe.mseqConf = s.upe.mseqNew ∧ v.upe.manSlot = (!s.upe.manSlot) ∧ v.upe.fallTick = none := by
    rw [hv]; exact ⟨rfl, rfl, rfl, rfl⟩
  change (confStore (List.foldl settingPut (dirWrite { s with nvs := n, upe := { s.upe with
      fallTick := none, phase := .confirming, manSlot := !s.upe.manSlot, fwSlot := s.upe.fwSlot != a, imgSlot := s.upe.imgSlot != b
      mseqConf := s.upe.mseqNew } }) s.upe.settings)).upe.phase = _ ∧ _
  rw [← hv, e', e'']
  exact hv'

/-! Votes (R422, R425). -/

/-- Messages of another update do nothing. -/
theorem other_update (h : ofUpdate s mid mseq = false) : Does (.voteOpen mid mseq) s s ∧ Does (.voteConfirm mid mseq) s s ∧
    (∀ no code voter, Does (.vote mid mseq no code voter) s s) ∧ (∀ t, Does (.voteCommit mid mseq t) s s) ∧
    (∀ code orig, Does (.voteAbort mid mseq code orig) s s) ∧ ∀ t code orig, Does (.voteFallback mid mseq t code orig) s s :=
  ⟨does_kept (i := .voteOpen mid mseq) rfl (by simp [h]), does_kept (i := .voteConfirm mid mseq) rfl (by simp [h]),
    fun no code voter => does_kept (i := .vote mid mseq no code voter) rfl (by simp [h]),
    fun t => does_kept (i := .voteCommit mid mseq t) rfl (by simp [h]),
    fun code orig => does_kept (i := .voteAbort mid mseq code orig) rfl (by simp [h]),
    fun t code orig => does_kept (i := .voteFallback mid mseq t code orig) rfl (by simp [h])⟩

theorem voteJudge_open (h : s.upe.phase ≠ .ready) : voteJudge s = s := by
  unfold voteJudge
  exact if_neg (by simp [h])

theorem vote_open (ho : ofUpdate s mid mseq = true) (h : s.upe.phase = .verified) : ∃ u, Does (.voteOpen mid mseq) s u ∧
    u.upe.phase = .preparing ∧ u.upe.preparing = true ∧ u.upe.yes = [] ∧ u.upe.no = [] ∧ u.upe.openTick = s.now := by
  have hu : Does (.voteOpen mid mseq) s _ := rfl
  rw [ho, h, if_pos (by decide)] at hu
  obtain ⟨n, x, k, e⟩ := prepBegin_eq s
  rw [e] at hu
  exact ⟨_, hu, rfl, rfl, rfl, rfl, rfl⟩

/-- The conditions under which a vote counts. -/
theorem vote_counts (ho : ofUpdate s mid mseq = true) (hc : s.upe.coord = true) (hp : s.upe.phase = .preparing ∨ s.upe.phase = .ready)
    (no : Bool) (code : BitVec 8) (voter : JAddr) : Does (.vote mid mseq no code voter) s
      (if no then updAbort code.toNat 0 { s with upe := { s.upe with no := s.upe.no ++ [voter] } }
       else if s.upe.yes.contains voter then s
       else voteJudge { s with upe := { s.upe with yes := s.upe.yes ++ [voter] } }) := by
  have hu : Does (.vote mid mseq no code voter) s (if s.upe.coord && (s.upe.phase == .preparing || s.upe.phase == .ready) && ofUpdate s mid mseq then
      (if no then updAbort code.toNat 0 { s with upe := { s.upe with no := s.upe.no ++ [voter] } }
       else if s.upe.yes.contains voter then s
       else voteJudge { s with upe := { s.upe with yes := s.upe.yes ++ [voter] } })
    else s) := rfl
  rw [if_pos] at hu
  · exact hu
  · rw [hc, ho]
    rcases hp with hp | hp <;> rw [hp] <;> rfl

theorem vote_yes (ho : ofUpdate s mid mseq = true) (code : BitVec 8) (voter : JAddr) (hc : s.upe.coord = true)
    (hp : s.upe.phase = .preparing) :
    (s.upe.yes.contains voter = false → Does (.vote mid mseq false code voter) s
        { s with upe := { s.upe with yes := s.upe.yes ++ [voter] } }) ∧
    (s.upe.yes.contains voter = true → Does (.vote mid mseq false code voter) s s) := by
  have hu := vote_counts ho hc (.inl hp) false code voter
  rw [if_neg Bool.false_ne_true] at hu
  refine ⟨fun h => ?_, fun h => ?_⟩
  · rw [if_neg (by rw [h]; exact Bool.false_ne_true), voteJudge_open (by rw [hp]; decide)] at hu
    exact hu
  · rw [if_pos h] at hu
    exact hu

/-- The last vote completes UPD_PREPARE (R422). -/
theorem vote_last (ho : ofUpdate s mid mseq = true) (code : BitVec 8) (voter : JAddr) (hc : s.upe.coord = true)
    (hp : s.upe.phase = .ready) (hv : s.upe.yes.contains voter = false)
    (hall : (s.upe.expected.all fun a => (s.upe.yes ++ [voter]).contains a) = true)
    (h4 : s.kio.accepted.find? (fun x => x.cmd == 0x0704 && x.begun) = none)
    (h3 : s.kio.accepted.find? (fun x => x.cmd == 0x0703 && x.begun) = some k) (hm : k.mseq = none) (hq : k.mute = false)
    (hopen : s.kio.isOpen = true) (hw : Memory.wf s.host = true) :
    ∃ u, Does (.vote mid mseq false code voter) s u ∧ Completed s u k 0 0 0 0 ∧ u.upe.phase = .ready := by
  have hu := vote_counts ho hc (.inr hp) false code voter
  rw [if_neg Bool.false_ne_true, if_neg (by rw [hv]; exact Bool.false_ne_true)] at hu
  obtain ⟨v, hv⟩ : ∃ v, v = updCode 0 0 { s with upe := { s.upe with yes := s.upe.yes ++ [voter] } } := ⟨_, rfl⟩
  have e : voteJudge { s with upe := { s.upe with yes := s.upe.yes ++ [voter] } } = kEnd k 0 0 0 0 v := by
    unfold voteJudge
    dsimp only
    rw [if_pos (by rw [hc, hp, hall]; rfl), h4]
    have h3' : v.kio.accepted.find? (fun x => x.cmd == 0x0703 && x.begun) = some k := by rw [hv]; exact h3
    have e3 := updDone_some h3' 0 0 0
    rw [hv] at e3 ⊢
    exact e3
  rw [e] at hu
  refine ⟨_, hu, completed_kEnd hm hq hopen ?_ ?_ ?_ ?_ 0 0 0 0, ?_⟩
  · rw [hv]; exact hw
  · rw [hv]; rfl
  · rw [hv]; rfl
  · rw [hv]; rfl
  · rw [(pairOnly_kEnd k 0 0 0 0 v).upe, hv]
    exact hp

theorem vote_no (ho : ofUpdate s mid mseq = true) (code : BitVec 8) (voter : JAddr) (hc : s.upe.coord = true)
    (hp : s.upe.phase = .preparing ∨ s.upe.phase = .ready) :
    ∃ u, Does (.vote mid mseq true code voter) s u ∧ u.upe.phase = .verified ∧ u.upe.coord = false ∧ u.upe.lastCode = code ∧
        u.upe.evt.getLsbD 3 = true ∧ raised u 982 .uc (0x0A00 + code.toNat) := by
  have hu := vote_counts ho hc hp true code voter
  rw [if_pos rfl] at hu
  obtain ⟨e, hr⟩ := updAbortR_effect (s := { s with upe := { s.upe with no := s.upe.no ++ [voter] } })
    (by rcases hp with hp | hp <;> rw [hp] <;> rfl) code.toNat 0 0
  refine ⟨_, hu, ?_⟩
  change (updAbortR code.toNat 0 0 _).upe.phase = _ ∧ _
  rw [updAbort, e]
  exact ⟨rfl, rfl, BitVec.ofNat_toNat .., bitPut_getLsbD_self _ (by decide) true, hr⟩

/-! Messages of another coordinator. -/

theorem vote_commit (ho : ofUpdate s mid mseq = true) (t : BitVec 48) (hp : s.upe.phase = .ready) (hc : s.upe.coord = false) :
    ∃ u, Does (.voteCommit mid mseq t) s u ∧ u.upe.phase = .armed ∧ u.upe.commitTick = t ∧ u.fcr = s.fcr := by
  have hu : Does (.voteCommit mid mseq t) s _ := rfl
  rw [ho, hp, hc, if_pos (by decide)] at hu
  obtain ⟨n, e⟩ := setPhase_eq .armed { s with upe := { s.upe with commitTick := t } }
  exact ⟨_, hu, by rw [e], by rw [e], by rw [e]⟩

theorem vote_abort (ho : ofUpdate s mid mseq = true) (code : BitVec 8) (orig : JAddr) (hp : updOpen s.upe.phase = true) :
    ∃ u, Does (.voteAbort mid mseq code orig) s u ∧ u.upe.phase = .verified ∧
      u.upe.coord = false ∧ u.upe.lastCode = 0x10 ∧ u.upe.evt.getLsbD 3 = true ∧ u.upe.newPlan = none ∧ raised u 982 .uc 0x0A10 := by
  have hu : Does (.voteAbort mid mseq code orig) s _ := rfl
  rw [ho, hp, if_pos (by decide)] at hu
  obtain ⟨e, hr⟩ := updUndo_effect 0x10 0 0 code.toNat orig.toNat s
  refine ⟨_, hu, ?_⟩
  rw [e]
  exact ⟨rfl, rfl, rfl, bitPut_getLsbD_self _ (by decide) true, rfl, hr⟩

theorem vote_fallback (ho : ofUpdate s mid mseq = true) (t : BitVec 48) (code : BitVec 8) (orig : JAddr)
    (hp : s.upe.phase = .trial ∨ s.upe.phase = .armed) : ∃ u, Does (.voteFallback mid mseq t code orig) s u ∧
      u.upe.phase = s.upe.phase ∧
      (s.upe.fallTick = none → u.upe.fallTick = some t ∧ u.upe.lastCode = 0x10 ∧
        u.upe.fallLog = (code.toNat, orig.toNat)) ∧
      (∀ g, s.upe.fallTick = some g → u.upe.fallTick = some (if tickOf48 s.now g ≤ tickOf48 s.now t then g else t)) := by
  obtain ⟨v, hv⟩ : ∃ v, v = updPage (updCode 0x10 0 { s with upe := { s.upe with
    fallTick := some t, fallLog := (code.toNat, orig.toNat) } }) := ⟨_, rfl⟩
  have hupe : v.upe = { s.upe with fallTick := some t, fallLog := (code.toNat, orig.toNat), lastCode := 0x10, lastPart := 0 } := by
    obtain ⟨n, e⟩ := updPage_eq (updCode 0x10 0 { s with upe := { s.upe with fallTick := some t, fallLog := (code.toNat, orig.toNat) } })
    rw [hv, e]
    rfl
  have hu : Does (.voteFallback mid mseq t code orig) s (if (s.upe.phase == .trial || s.upe.phase == .armed) && ofUpdate s mid mseq then
      if s.upe.fallTick.any fun g => tickOf48 s.now g ≤ tickOf48 s.now t then s else v else s) := by rw [hv]; rfl
  rw [if_pos (by rw [ho]; rcases hp with hp | hp <;> rw [hp] <;> rfl)] at hu
  cases hf : s.upe.fallTick with
  | none =>
    rw [hf, if_neg (show ¬ Option.any (fun g => decide (tickOf48 s.now g ≤ tickOf48 s.now t)) none = true from Bool.false_ne_true)] at hu
    refine ⟨_, hu, ?_, ?_, fun g hg => by contradiction⟩
    · rw [hupe]
    · rw [hupe]
      exact fun _ => ⟨rfl, rfl, rfl⟩
  | some g =>
    rw [hf, Option.any_some] at hu
    by_cases hle : tickOf48 s.now g ≤ tickOf48 s.now t
    · rw [if_pos (decide_eq_true hle)] at hu
      refine ⟨_, hu, rfl, fun h => by contradiction, fun g' hg => ?_⟩
      obtain rfl := Option.some.inj hg
      rw [if_pos hle]
      exact hf
    · rw [if_neg (by rw [decide_eq_false hle]; exact Bool.false_ne_true)] at hu
      refine ⟨_, hu, by rw [hupe], fun h => by contradiction, fun g' hg => ?_⟩
      obtain rfl := Option.some.inj hg
      rw [if_neg hle, hupe]

theorem vote_confirm (ho : ofUpdate s mid mseq = true) (hp : s.upe.phase = .trial) (hc : s.upe.coord = false) :
    ∃ u, Does (.voteConfirm mid mseq) s u ∧ u.upe.phase = .confirming ∧
      u.upe.mseqConf = s.upe.mseqNew ∧ u.upe.manSlot = !s.upe.manSlot ∧ u.upe.fallTick = none := by
  have hu : Does (.voteConfirm mid mseq) s _ := rfl
  rw [ho, hp, hc, if_pos (by decide)] at hu
  exact ⟨_, hu, confirm_upe s⟩

theorem vote_timeout (s : State) :
    (s.upe.coord = true → (s.upe.phase = .preparing ∨ s.upe.phase = .ready) →
      (s.upe.expected.all fun a => s.upe.yes.contains a) = false → s.upe.openTick + 20000000 ≤ s.now →
      ∃ u, Does .voteTimeout s u ∧ u.upe.phase = .verified ∧ u.upe.lastCode = 0x0A ∧ raised u 982 .uc 0x0A0A) ∧
    (s.upe.coord = false ∨ s.now < s.upe.openTick + 20000000 → Does .voteTimeout s s) := by
  have hu : Does .voteTimeout s _ := rfl
  refine ⟨fun hc hp ha ht => ?_, fun h => does_kept hu fun hn => ?_⟩
  · rw [if_pos (by rw [hc, ha, decide_eq_true ht]; rcases hp with hp | hp <;> rw [hp] <;> rfl)] at hu
    obtain ⟨e, hr⟩ := updAbortR_effect (s := s) (by rcases hp with hp | hp <;> rw [hp] <;> rfl) 0x0A 0 0
    refine ⟨_, hu, ?_⟩
    rw [updAbort, e]
    exact ⟨rfl, rfl, hr⟩
  · simp only [Bool.and_eq_true, decide_eq_true_eq] at hn
    obtain ⟨⟨⟨h1, h2⟩, -⟩, -⟩ := hn
    rcases h with h | h
    · exact absurd (h1.symm.trans h) (by decide)
    · omega

/-! Verification (R421). -/

theorem verify_idle (h : s.upe.phase ≠ .verifying) : Does .updVerifyEnd s s := does_kept (i := .updVerifyEnd) rfl h

theorem verify_end (h : s.upe.phase = .verifying) :
    ((verifyCode s).1 = 0 → ∃ u, Does .updVerifyEnd s u ∧ u.upe.phase = .verified ∧ u.upe.mseqNew = manWord s 4 ∧
      u.upe.trialS = (manWord s 5).toNat ∧ u.upe.lastCode = 0) ∧
    ((verifyCode s).1 ≠ 0 → ∃ u, Does .updVerifyEnd s u ∧ u.upe.phase = .staging ∧ u.upe.evt.getLsbD 1 = true ∧
      u.upe.lastCode = BitVec.ofNat 8 (verifyCode s).1 ∧ raised u 982 (promoted s 982 .ce) (0x0A00 + (verifyCode s).1)) := by
  have hu : Does .updVerifyEnd s (verifyEnd s) := rfl
  rw [verifyEnd, if_pos h] at hu
  dsimp only at hu
  generalize verifyCode s = x at hu ⊢
  obtain ⟨code, part⟩ := x
  dsimp only at hu ⊢
  refine ⟨fun hc => ?_, fun hc => ?_⟩
  · rw [if_pos hc] at hu
    refine ⟨_, hu, ?_⟩
    rw [(pairOnly_updDone ..).upe]
    exact ⟨rfl, rfl, rfl, rfl⟩
  · rw [if_neg hc] at hu
    obtain ⟨n, e⟩ := setPhase_eq .staging s
    rw [e] at hu
    refine ⟨_, hu, ?_⟩
    have hp := pairOnly_updDone 0x0702 code part 0 ((updEvt 1 (updCode code part
      { s with nvs := n, upe := { s.upe with phase := .staging } })).raiseP 982 .ce (0x0A00 + code))
    rw [hp.upe, (occurs_raiseP ..).upe]
    exact ⟨rfl, bitPut_getLsbD_self _ (by decide) true, rfl, hp.raised (raised_raise (by decide) _ .ce _ _ _ _)⟩

/-! The end of the local preparation (R423). -/

/-- What a preparation loads changes the banks and the boot halves alone. -/
theorem prepLoad_eq (plan : Option (Image × List Place)) (fw : Option W) (s : State) :
    ∃ l b, prepLoad plan fw s = { s with le := l, boot := b } := by
  unfold prepLoad
  cases plan with
  | none => cases fw with
    | none => exact ⟨_, _, rfl⟩
    | some v => exact ⟨_, _, rfl⟩
  | some x =>
    obtain ⟨l, e⟩ : ∃ l, loadCode true x.1 x.2 s = { s with le := l } := ⟨_, rfl⟩
    dsimp only
    rw [e]
    cases fw with
    | none => exact ⟨_, _, rfl⟩
    | some v => exact ⟨_, _, rfl⟩

/-- The votes that a device sends change the queue of its messages. -/
theorem foldl_join {α : Type} {f : State → α → State} (h : ∀ s a, ∃ q, f s a = { s with jnb := { s.jnb with outQ := q } }) (l : List α)
    (s : State) : ∃ q, l.foldl f s = { s with jnb := { s.jnb with outQ := q } } := by
  induction l generalizing s with
  | nil => exact ⟨_, rfl⟩
  | cons a l ih =>
    obtain ⟨q, e⟩ := h s a
    obtain ⟨q', e'⟩ := ih { s with jnb := { s.jnb with outQ := q } }
    exact ⟨q', by rw [List.foldl_cons, e, e']⟩

/-- A vote YES keeps the update READY, with what it has prepared. -/
theorem castVote_yes (hp : s.upe.phase = .ready) (h4 : s.kio.accepted.find? (fun x => x.cmd == 0x0704 && x.begun) = none)
    (part r2 : Nat) : (castVote 0 part r2 s).upe.phase = .ready ∧ (castVote 0 part r2 s).upe.preparing = s.upe.preparing ∧
      (castVote 0 part r2 s).upe.newPlan = s.upe.newPlan ∧ (castVote 0 part r2 s).upe.newFw = s.upe.newFw ∧
      (castVote 0 part r2 s).adm = s.adm := by
  unfold castVote
  dsimp only
  split
  · rw [if_pos rfl]
    unfold voteJudge
    split
    · dsimp only
      rw [h4]
      dsimp only
      have h := pairOnly_updDone 0x0703 0 0 0 (updCode 0 0 { s with upe := { s.upe with yes := s.upe.yes ++ voteFor s } })
      rw [h.upe, h.adm]
      exact ⟨hp, rfl, rfl, rfl, rfl⟩
    · exact ⟨hp, rfl, rfl, rfl, rfl⟩
  · split
    · exact ⟨hp, rfl, rfl, rfl, rfl⟩
    · obtain ⟨q, e⟩ := foldl_join (fun s a => voteSend_eq 0x31 [flag (0 != 0) 0 ||| fld 0 8 ||| fld (BitVec.toNat a) 16] s) (voteFor s) s
      rw [e]
      exact ⟨hp, rfl, rfl, rfl, rfl⟩

theorem prepare_idle (h : s.upe.preparing = false) (j : Option (BitVec 8)) : Does (.prepareDone j) s s :=
  does_kept (i := .prepareDone j) rfl (by simp [h])

theorem prepare_yes (hp : s.upe.phase = .preparing) (h : s.upe.preparing = true) (hd : dripBefore s = false)
    (hc : (prepResult s).1 = 0) (h4 : s.kio.accepted.find? (fun x => x.cmd == 0x0704 && x.begun) = none) :
    ∃ u, Does (.prepareDone none) s u ∧ u.upe.phase = .ready ∧ u.upe.preparing = false ∧
        u.upe.newPlan = (prepResult s).2.2.2.1 ∧ u.upe.newFw = (prepResult s).2.2.2.2 ∧ u.adm.img = s.adm.img := by
  have hu : Does (.prepareDone none) s (prepDone none s) := rfl
  rw [prepDone, if_pos (by rw [hp, h, hd]; rfl)] at hu
  dsimp only at hu
  generalize prepResult s = x at hc hu ⊢
  obtain ⟨code, part, r2, plan, fw⟩ := x
  obtain rfl : code = 0 := hc
  dsimp only at hu ⊢
  rw [if_pos rfl, if_pos rfl] at hu
  obtain ⟨n, e⟩ := setPhase_eq .ready { s with upe := { s.upe with preparing := false, newPlan := plan, newFw := fw } }
  rw [e] at hu
  obtain ⟨l, b, e'⟩ := prepLoad_eq plan fw { s with nvs := n, upe := { s.upe with
    preparing := false, newPlan := plan, newFw := fw, phase := .ready } }
  rw [e'] at hu
  obtain ⟨k1, k2, k3, k4, k5⟩ := castVote_yes (s := { s with nvs := n, le := l, boot := b, upe := { s.upe with
    preparing := false, newPlan := plan, newFw := fw, phase := .ready } }) rfl h4 part r2
  generalize castVote 0 part r2 _ = v at hu k1 k2 k3 k4 k5
  obtain ⟨w, hw, hv⟩ : ∃ w, (if v.prl.role = .standby then updDone 0x0703 0 0 0 v else v) = w ∧ PairOnly v w := by
    refine ⟨_, rfl, ?_⟩
    split
    · exact pairOnly_updDone ..
    · exact .refl v
  rw [hw] at hu
  refine ⟨w, hu, ?_⟩
  rw [hv.upe, hv.adm]
  exact ⟨k1, k2, k3, k4, congrArg Adm.img k5⟩

theorem prepare_no (hp : s.upe.phase = .preparing) (h : s.upe.preparing = true) (hd : dripBefore s = false) (j : BitVec 8)
    (hc : s.upe.coord = true) : ∃ u, Does (.prepareDone (some j)) s u ∧ u.upe.phase = .verified ∧ u.upe.lastCode = 9 ∧
      u.upe.lastPart = j ∧ raised u 982 .uc 0x0A09 := by
  have hu : Does (.prepareDone (some j)) s (prepDone (some j) s) := rfl
  rw [prepDone, if_pos (by rw [hp, h, hd]; rfl)] at hu
  dsimp only at hu
  simp only [show ¬ (0x09 : Nat) = 0 by decide, if_false] at hu
  obtain ⟨w, hw⟩ : ∃ w, w = ({ s with upe := { s.upe with preparing := false } } : State) := ⟨_, rfl⟩
  have hwp : w.upe.phase = .preparing := by rw [hw]; exact hp
  have hwc : w.upe.coord = true := by rw [hw]; exact hc
  rw [← hw] at hu
  obtain ⟨e, hr⟩ := updAbortR_effect (s := { w with upe := { w.upe with no := w.upe.no ++ voteFor w } })
    (show updOpen w.upe.phase = true by rw [hwp]; rfl) 9 j.toNat 0
  have hv : castVote 0x09 j.toNat 0 w = updAbortR 9 j.toNat 0 { w with upe := { w.upe with no := w.upe.no ++ voteFor w } } := by
    unfold castVote
    dsimp only
    rw [if_pos hwc, if_neg (by decide)]
  rw [hv] at hu
  generalize updAbortR 9 j.toNat 0 _ = v at hu e hr
  have hstay : updAbortR 0x09 j.toNat 0 v = v := by
    unfold updAbortR
    exact if_neg (by rw [e]; exact (Bool.false_ne_true : ¬ updOpen .verified = true))
  rw [hstay, ite_self] at hu
  refine ⟨v, hu, ?_⟩
  rw [e]
  exact ⟨rfl, rfl, BitVec.ofNat_toNat .., hr⟩

end

/-- Settles O57. -/
theorem updateVotes : Obligations.UpdateVotes := fun s =>
  ⟨fun _ _ h => other_update h, fun _ _ ho =>
    ⟨vote_open ho, fun code voter hc hp => vote_yes ho code voter hc hp,
      fun code voter _ hc hp hv ha h4 h3 hm hq hi hw => vote_last ho code voter hc hp hv ha h4 h3 hm hq hi hw,
      fun code voter hc hp => vote_no ho code voter hc hp, fun t hp hc => vote_commit ho t hp hc,
      fun code orig hp => vote_abort ho code orig hp, fun t code orig hp => vote_fallback ho t code orig hp,
      fun hp hc => vote_confirm ho hp hc⟩,
    vote_timeout s, verify_idle, verify_end, fun h j => prepare_idle h j, fun hp h hd =>
      ⟨fun hc h4 => prepare_yes hp h hd hc h4, fun j hc => prepare_no hp h hd j hc⟩⟩

end Sys2Proof.Claims
end

section
/-!
PROOF. What an image swap leaves as it is: the time, the update unit, the boot unit and the kiosk's handover (R155, R426).
-/
namespace Sys2Proof.Claims
open Sys2Proof Sys2Proof.Machine

section
variable {s u v : State} {k : KCmd}

/-- From `s` to `u` the time, the update unit, the boot unit, the kiosk's handover, and its error bits stand. -/
structure Steady (s u : State) : Prop where
  now : u.now = s.now
  upe : u.upe = s.upe
  boot : u.boot = s.boot
  handover : u.kio.handover = s.kio.handover
  err : u.kio.err = s.kio.err

theorem Steady.refl (s : State) : Steady s s := ⟨rfl, rfl, rfl, rfl, rfl⟩
theorem Steady.trans (h : Steady s u) (h' : Steady u v) : Steady s v :=
  ⟨h'.now.trans h.now, h'.upe.trans h.upe, h'.boot.trans h.boot, h'.handover.trans h.handover, h'.err.trans h.err⟩
theorem Steady.ite {c : Prop} [Decidable c] (h : Steady s u) (h' : Steady s v) : Steady s (if c then u else v) := by
  split
  · exact h
  · exact h'
theorem Steady.foldl {α : Type} {f : State → α → State} (hf : ∀ s a, Steady s (f s a)) (l : List α) (s : State) :
    Steady s (l.foldl f s) := by
  induction l generalizing s with
  | nil => exact .refl s
  | cons a l ih => exact (hf s a).trans (ih (f s a))

/-! Occurrences and completions. -/

theorem steady_raise (s : State) (src : Nat) (cls : EvClass) (code : Nat) (p : W) (ctx task : Nat) :
    Steady s (s.raise src cls code p ctx task) := by
  obtain ⟨a, b, m, q, n, e⟩ := raise_kio s src cls code p ctx task
  have h := occurs_raise s src cls code p ctx task
  exact ⟨congrArg (fun c : Clk => c.ts.toNat / 50) h.clk, h.upe, h.boot, by rw [e], by rw [e]⟩

theorem steady_raiseP (s : State) (src : Nat) (cls : EvClass) (code ctx task : Nat) : Steady s (s.raiseP src cls code ctx task) :=
  Steady.trans (u := { s with fresh := s.fresh + 1 }) ⟨rfl, rfl, rfl, rfl, rfl⟩ (steady_raise ..)

theorem steady_raiseC (s : State) (src : Nat) (cls : EvClass) (ctx task : Nat) : Steady s (s.raiseC src cls ctx task) :=
  Steady.trans (u := { s with fresh := s.fresh + 1 }) ⟨rfl, rfl, rfl, rfl, rfl⟩ (steady_raiseP ..)

theorem steady_kCpl (k : KCmd) (st : Nat) (r0 r1 r2 : W) (s : State) : Steady s (kCpl k st r0 r1 r2 s) := by
  have h := occurs_kCpl k st r0 r1 r2 s
  have hk : ∃ a p m c, (kCpl k st r0 r1 r2 s).kio = { s.kio with armed := a, msixPend := p, msix := m, cq := c } := by
    have hw : ∀ (q cmd : Nat) (tag : BitVec 16) (un re : Nat), ∃ a p m c, (cplWrite q cmd tag st un re r0 r1 r2 s).kio =
        { s.kio with armed := a, msixPend := p, msix := m, cq := c } := fun q cmd tag un re => by
      unfold cplWrite
      split
      · dsimp only
        obtain ⟨a, p, m, e⟩ := msixSend_kio (1 + q) { s with
          host := Memory.writeWs s.host ((vat s.kio.cq q CplRing.init).base.toNat + 32 * (vat s.kio.cq q CplRing.init).tail)
            (cplWords s q cmd tag st un re r0 r1 r2)
          kio := { s.kio with cq := vput s.kio.cq q (ringNext (vat s.kio.cq q CplRing.init)) } }
        exact ⟨a, p, m, _, e⟩
      · exact ⟨_, _, _, _, rfl⟩
    unfold kCpl
    split
    · exact ⟨_, _, _, _, rfl⟩
    · unfold cplRetry
      split
      exact hw ..
  obtain ⟨a, p, m, c, e⟩ := hk
  exact ⟨congrArg (fun c : Clk => c.ts.toNat / 50) h.clk, h.upe, h.boot, by rw [e], by rw [e]⟩

theorem steady_kDrop (k : KCmd) (s : State) : Steady s (kDrop k s) := ⟨rfl, rfl, rfl, rfl, rfl⟩
theorem steady_adm (s : State) (a : Adm) : Steady s { s with adm := a } := ⟨rfl, rfl, rfl, rfl, rfl⟩
theorem steady_bbr (s : State) (b : Bbr) : Steady s { s with bbr := b } := ⟨rfl, rfl, rfl, rfl, rfl⟩
theorem steady_prl (s : State) (p : Prl) : Steady s { s with prl := p } := ⟨rfl, rfl, rfl, rfl, rfl⟩

theorem steady_startDispute (s : State) : Steady s (startDispute s) := by
  unfold startDispute
  exact .ite (.refl s) ((steady_prl s _).trans (steady_raiseC ..))

theorem steady_pairJudge (k : KCmd) (own : BitVec 16 × W × W × W) (theirs : BitVec 16 × W) (s : State) :
    Steady s (pairJudge k own theirs s) := by
  obtain ⟨st, r0, r1, r2⟩ := own
  obtain ⟨v, hv⟩ : ∃ v, v = kCpl k st.toNat r0 r1 r2 (kDrop k s) := ⟨_, rfl⟩
  have hq : Steady s { v with prl := { v.prl with queue := v.prl.queue.filter fun x => some x.mseq != k.mseq } } := by
    rw [hv]
    exact ((steady_kDrop k s).trans (steady_kCpl k _ _ _ _ _)).trans (steady_prl _ _)
  unfold pairJudge
  dsimp only
  rw [← hv]
  exact .ite hq (hq.trans (steady_startDispute _))

theorem steady_kEnd (k : KCmd) (st : Nat) (r0 r1 r2 : W) (s : State) : Steady s (kEnd k st r0 r1 r2 s) := by
  have hd := steady_kDrop k s
  unfold kEnd
  dsimp only
  split
  · exact hd.trans (steady_kCpl ..)
  · split
    · exact .ite (hd.trans (steady_prl ..)) hd
    · split
      · split
        · exact steady_pairJudge ..
        · exact steady_prl ..
      · exact (hd.trans (steady_prl (kDrop k s) _)).trans (steady_kCpl ..)

theorem steady_updDone (cmd code part r2 : Nat) (s : State) : Steady s (updDone cmd code part r2 s) := by
  unfold updDone
  split
  · exact steady_kEnd ..
  · exact .refl s

/-! Channels. -/

theorem steady_tpSet (p : Nat) (f : Tpc → Tpc) (s : State) : Steady s (tpSet p f s) := by
  obtain ⟨m, e⟩ := tpSet_eq p f s
  rw [e]
  exact ⟨rfl, rfl, rfl, rfl, rfl⟩

theorem steady_tieFollow (n : Nat) (s : State) : Steady s (tieFollow n s) := by
  have hturn : ∀ p s, Steady s (turnSeen p s) := fun p s => by
    obtain ⟨m, e⟩ := turnSeen_eq p s
    rw [e]
    exact ⟨rfl, rfl, rfl, rfl, rfl⟩
  have hraise : ∀ p cls code s, Steady s (tieRaise p cls code s) := fun p cls code s => by
    unfold tieRaise
    split
    · exact steady_raiseP ..
    · exact .refl s
  have hrest : ∀ p s, Steady s (tpRest p s) := fun p s => by
    unfold tpRest
    exact (Steady.ite (hturn p s) (.refl s)).trans (steady_tpSet ..)
  have hsearch : ∀ p s, Steady s (tpSearch p false s) := fun p s => by
    unfold tpSearch
    exact Steady.trans (u := (tieGap p s).2) ⟨rfl, rfl, rfl, rfl, rfl⟩ (steady_tpSet ..)
  have hrestart : ∀ p s, Steady s (tpRestart p s) := fun p s => by
    unfold tpRestart
    refine Steady.trans (Steady.trans ?_ (hrest p _)) (hraise ..)
    exact ⟨rfl, rfl, rfl, rfl, rfl⟩
  have hdis : ∀ p s, Steady s (tpDisable p s) := fun p s => by
    unfold tpDisable
    exact (Steady.ite (hrestart p s) (.refl s)).trans (steady_tpSet ..)
  unfold tieFollow
  split
  · exact .refl s
  · exact .ite (hsearch _ s) (.ite (hdis _ s) (.refl s))

theorem steady_setChan (n : Nat) (st : ChanSt) (f : Chan → Chan) (s : State) : Steady s (setChan n st f s) := by
  unfold setChan
  dsimp only
  obtain ⟨x, e⟩ := coldIfIdle_eq n
    (note 0x05 n [nw (chanCode (s.ch n).st), nw (chanCode st)] [0, 1, 2] (s.modCh n fun c => f { c with st := st }))
  rw [e]
  refine Steady.trans ?_ (steady_tieFollow n _)
  exact ⟨rfl, rfl, rfl, rfl, rfl⟩

theorem steady_enterOff (n : Nat) (s : State) : Steady s (enterOff n s) := by
  unfold enterOff
  dsimp only
  have h := steady_setChan n .off (fun c => { c.stilled with
    mA := 0, mB := 0, mC := 0, mD := 0, mstat := 0, restart := false, restartRun := 0, armLeft := 0, staged := [] }) s
  generalize setChan n .off _ s = v at h ⊢
  exact .ite (h.trans ⟨rfl, rfl, rfl, rfl, rfl⟩) h

theorem steady_rearmChan (n : Nat) (s : State) : Steady s (rearmChan n s) := by
  unfold rearmChan
  refine .ite ?_ (.refl s)
  obtain ⟨v, x, k, hv, e⟩ := enterArming_eq n s
  rw [e]
  have h := steady_setChan n .arming (armFrom ((chanDecl s n).elim 0 (·.armSamples)) s.now) s
  rw [← hv] at h
  exact h.trans ⟨rfl, rfl, rfl, rfl, rfl⟩

/-! An image that comes into force (R155). -/

theorem steady_applyTerms (l : Nat) (s : State) : Steady s (applyTerms l s) := by
  have hlk : ∀ f, Steady s (s.modLk l f) := fun f => ⟨rfl, rfl, rfl, rfl, rfl⟩
  unfold applyTerms
  split
  · exact hlk _
  · refine .ite (hlk _) ?_
    refine Steady.trans (u := slcEvt l 4 (s.modLk l fun x => { x with refused := true })) ⟨rfl, rfl, rfl, rfl, rfl⟩ ?_
    exact .foldl (fun v n => (Steady.ite (.refl v) (steady_enterOff n v)).trans (steady_raiseP ..)) _ _

theorem steady_modCx (c : Nat) (f : Context → Context) (s : State) : Steady s (s.modCx c f) := ⟨rfl, rfl, rfl, rfl, rfl⟩

theorem steady_newTask (t : Task) (q : Place) (s : State) : Steady s (newTask t q s) := by
  have h : Steady s ((newBlocks t s).modCx q.ctx (newContext t)) := ⟨rfl, rfl, rfl, rfl, rfl⟩
  unfold newTask
  exact .ite (h.trans ⟨rfl, rfl, rfl, rfl, rfl⟩) h

theorem steady_dropTask (q : Place) (s : State) : Steady s (dropTask s q) := by
  unfold dropTask
  refine Steady.trans ?_ (steady_modCx ..)
  split
  · exact .foldl (fun v x => .ite (steady_enterOff _ v) (.refl v)) _ s
  · exact .refl s

theorem steady_moveTasks (pl : List Place) (s : State) : Steady s (moveTasks pl s) := by
  unfold moveTasks
  dsimp only
  refine Steady.trans ?_ (.foldl (fun v m => .ite (.foldl (fun w x => .ite (steady_rearmChan _ w) (.refl w)) _ v) (.refl v)) _ _)
  have h1 := fun l v => Steady.foldl (f := fun (s : State) (m : Nat × Nat × Task × Context × Bool) => s.modCx m.1 fun _ => Context.init)
    (fun _ _ => steady_modCx ..) l v
  have h2 := fun l v => Steady.foldl (f := fun (s : State) (m : Nat × Nat × Task × Context × Bool) => s.modCx m.2.1 fun _ => m.2.2.2.1)
    (fun _ _ => steady_modCx ..) l v
  exact ((h1 _ s).trans (h2 _ _)).trans (steady_adm _ _)

theorem steady_link (s : State) (l : Vector Link 64) : Steady s { s with link := l } := ⟨rfl, rfl, rfl, rfl, rfl⟩
theorem steady_bindLinks (g : Image) (s : State) : Steady s (bindLinks g s) := by
  unfold bindLinks
  dsimp only
  exact (steady_link s _).trans (.foldl (fun w l => steady_applyTerms l w) _ _)

theorem steady_clg (s : State) (c : Vector Ledger 64) : Steady s { s with clg := c } := ⟨rfl, rfl, rfl, rfl, rfl⟩
theorem steady_bindLedgers (g : Image) (s : State) : Steady s (bindLedgers g s) := by
  unfold bindLedgers
  exact steady_clg s _
theorem steady_bindShafts (g : Image) (s : State) : Steady s (bindShafts g s) := ⟨rfl, rfl, rfl, rfl, rfl⟩
theorem steady_dropChans (g : Image) (s : State) : Steady s (dropChans g s) := .foldl (fun w n => steady_enterOff n w) _ s

theorem steady_keepCtx (c : Vector Context 512) (s : State) : Steady s { s with ctx := c } := ⟨rfl, rfl, rfl, rfl, rfl⟩

theorem steady_installPlan (full : Bool) (g : Image) (nominal pl : List Place) (keep : Nat → Bool) (s : State) :
    Steady s (installPlan full g nominal pl keep s) := by
  have hdrop : Steady s ((s.adm.place.filter fun q => !keep q.task).foldl dropTask s) := .foldl (fun v q => steady_dropTask q v) _ s
  have hnew : ∀ v : State, Steady v (pl.foldl (fun s q => if keep q.task then s else (g.task? q.task).elim s fun t => newTask t q s) v) :=
    Steady.foldl (fun v q => by
      cases g.task? q.task with
      | none => exact .ite (.refl v) (.refl v)
      | some t => exact .ite (.refl v) (steady_newTask t q v)) pl
  have hbind : ∀ v : State, Steady v (bindShafts g (bindLinks g (bindLedgers g (dropChans g v)))) := fun v =>
    (((steady_dropChans g v).trans (steady_bindLedgers g _)).trans (steady_bindLinks g _)).trans (steady_bindShafts g _)
  unfold installPlan
  dsimp only
  refine Steady.trans ?_ (steady_adm _ _)
  refine Steady.trans ?_ (hbind _)
  refine Steady.trans ?_ (hnew _)
  refine Steady.trans ?_ (steady_moveTasks pl _)
  refine Steady.trans ?_ (steady_adm _ _)
  exact .ite (hdrop.trans (steady_keepCtx _ _)) hdrop

theorem steady_openBlk (t : Nat) (s : State) : Steady s (openBlk t s) := by
  unfold openBlk
  split
  · exact steady_bbr s _
  · dsimp only
    exact .ite ((steady_bbr s _).trans (steady_raiseC ..)) (steady_bbr s _)

theorem steady_rowsAgain (s : State) : Steady s (rowsAgain s) := by
  have hr : Steady s (rowsRestart s) := steady_bbr s _
  unfold rowsAgain
  dsimp only
  exact .ite (((hr.trans (steady_openBlk 0 _)).trans (steady_openBlk 1 _)).trans (steady_openBlk 2 _)) hr

theorem steady_bindRecorder (g : Image) (s : State) : Steady s (bindRecorder g s) := by
  have hclose : Steady s (closeAll false s) := by
    rw [(closeAll_effect s).1]
    exact steady_bbr s _
  unfold bindRecorder
  dsimp only
  exact (hclose.trans (steady_bbr _ _)).trans (steady_rowsAgain _)

theorem moveBlocks_eq (s0 : State) (o t : Task) (s : State) : ∃ m, moveBlocks s0 o t s = { s with shared := m } := by
  unfold moveBlocks
  split
  · exact ⟨_, rfl⟩
  · exact ⟨_, rfl⟩

/-- Blocks that move change shared task memory alone. -/
theorem moveBlocks_all (s0 : State) (g : Image) (l : List Task) (s : State) :
    ∃ m, l.foldl (fun s1 o => (g.task? o.num).elim s1 fun t => moveBlocks s0 o t s1) s = { s with shared := m } := by
  induction l generalizing s with
  | nil => exact ⟨_, rfl⟩
  | cons o l ih =>
    rw [List.foldl_cons]
    cases g.task? o.num with
    | none => exact ih s
    | some t =>
      obtain ⟨m, e⟩ := moveBlocks_eq s0 o t s
      obtain ⟨m', e'⟩ := ih { s with shared := m }
      exact ⟨m', by rw [Option.elim_some, e, e']⟩

/-- A swap of images (R155, R426): what stands, and the image and plan that come into force where the plan can be placed. -/
theorem swapImage_effect (g : Image) (nominal : List Place) (s : State) : Steady s (swapImage g nominal s) ∧
    ((placesNow g nominal (fencedSet s) (fencedSU s)).isSome = true →
      (swapImage g nominal s).adm.img = some g ∧ (swapImage g nominal s).adm.nominal = nominal) := by
  unfold swapImage
  dsimp only
  split
  next h => exact ⟨.refl s, fun h' => absurd h' (by rw [h]; exact Bool.false_ne_true)⟩
  next pl h =>
    obtain ⟨v, hv⟩ : ∃ v, v = bindRecorder g (installPlan true g nominal pl
      (fun n => (s.adm.img.elim [] (·.tasks)).any (·.num == n) && g.tasks.any (·.num == n)) s) := ⟨_, rfl⟩
    have hs : Steady s v := by
      rw [hv]
      exact (steady_installPlan ..).trans (steady_bindRecorder ..)
    have hi : v.adm.img = some g ∧ v.adm.nominal = nominal := by
      rw [hv, bindRecorder_adm]
      exact installPlan_adm ..
    rw [← hv]
    obtain ⟨m, e⟩ := moveBlocks_all s g (s.adm.img.elim [] (·.tasks)) v
    rw [e]
    exact ⟨hs.trans ⟨rfl, rfl, rfl, rfl, rfl⟩, fun _ => hi⟩

end
end Sys2Proof.Claims
end

section
/-!
PROOF. Staging and the other update commands of the kiosk, tick C, the handover, settings, tick F and the end of the trial (R420, R422,
R425 to R429).
-/
namespace Sys2Proof.Claims
open Sys2Proof Sys2Proof.Machine

section
variable {s u v : State} {k : KCmd}

/-! The change at C (R426). -/

/-- The state after the image prepared has come into force. -/
def swapped (s : State) : State :=
  match s.upe.newPlan with
  | some (g, pl) => swapImage g pl s
  | none => s

/-- The state after the kiosk has handed over to the firmware prepared. -/
def handed (fw : Option W) (compat : W) (s : State) : State :=
  match fw with
  | some v => handOver v compat s
  | none => s

/-- The update unit of a state whose image has changed at C. -/
def changed (old : OldParts) (alt : W) (start : Nat) (bank : Option Nat) (u : Upe) : Upe :=
  { u with old := some old, fwAlt := alt, newPlan := none, trialStart := start, back := [], bankTick := bank }

/-- A state in which the trial has begun. -/
def inTrial (n : Nvs) (q : List (Nat × JAddr × List W)) (s : State) : State :=
  { s with nvs := n, jnb := { s.jnb with outQ := q }, upe := { s.upe with phase := .trial } }

theorem swapped_steady (s : State) : Steady s (swapped s) := by
  unfold swapped
  split
  · exact (swapImage_effect ..).1
  · exact .refl s

theorem commitTick_eq (h : s.upe.phase = .armed) : ∃ x n q old alt bank, commitTick s = commitDone (inTrial n q
    (handed s.upe.newFw s.upe.compat { swapped s with link := x, upe := changed old alt (swapped s).now bank (swapped s).upe })) := by
  obtain ⟨old, hold⟩ : ∃ o : OldParts, o = if s.upe.newPlan.isSome then ⟨s.adm.img, s.adm.nominal, s.adm.place, [], s.upe.fwAct, s.prl.compat⟩
      else ⟨none, s.adm.nominal, s.adm.place, [], s.upe.fwAct, s.prl.compat⟩ := ⟨_, rfl⟩
  obtain ⟨alt, halt⟩ : ∃ a, a = if s.upe.newFw.isSome then s.upe.fwAct else 0 := ⟨_, rfl⟩
  obtain ⟨bank, hbank⟩ : ∃ b, b = if s.upe.newPlan.isSome then some ((swapped s).now + 2000) else none := ⟨_, rfl⟩
  obtain ⟨x, ex⟩ := moduleCtrl_eq 2 { swapped s with upe := changed old alt (swapped s).now bank (swapped s).upe }
  obtain ⟨w, hw⟩ : ∃ w, w = handed s.upe.newFw s.upe.compat
    { swapped s with link := x, upe := changed old alt (swapped s).now bank (swapped s).upe } := ⟨_, rfl⟩
  obtain ⟨n, en⟩ := setPhase_eq .trial w
  have e : commitTick s = commitDone (if s.upe.fallTick.isSome then
      voteSend 0x34 [(s.upe.fallTick.getD 0).setWidth 32, ((s.upe.fallTick.getD 0) >>> 32).setWidth 32,
        fld (updAddr s) 16 ||| fld s.upe.lastCode.toNat 0] (setPhase .trial w) else setPhase .trial w) := by
    rw [hw, ← ex, hold, halt, hbank]
    unfold commitTick
    rw [if_pos h]
    rfl
  rw [en] at e
  by_cases hf : s.upe.fallTick.isSome = true
  · rw [if_pos hf] at e
    obtain ⟨q, eq⟩ := voteSend_eq 0x34 [(s.upe.fallTick.getD 0).setWidth 32, ((s.upe.fallTick.getD 0) >>> 32).setWidth 32,
      fld (updAddr s) 16 ||| fld s.upe.lastCode.toNat 0] { w with nvs := n, upe := { w.upe with phase := .trial } }
    refine ⟨x, n, q, old, alt, bank, ?_⟩
    rw [e, eq, ← hw]
    rfl
  · rw [if_neg hf] at e
    refine ⟨x, n, w.jnb.outQ, old, alt, bank, ?_⟩
    rw [e, ← hw]
    rfl

theorem commitDone_kept (s : State) : Steady s (commitDone s) ∧ (commitDone s).adm = s.adm := by
  unfold commitDone
  split
  · exact ⟨.refl s, rfl⟩
  · exact ⟨steady_updDone .., (pairOnly_updDone ..).adm⟩

theorem handed_eq (fw : Option W) (compat : W) (s : State) :
    ∃ f b h p, handed fw compat s = { s with boot := b, upe := { s.upe with fwAct := f }, kio := { s.kio with handover := h }, prl := p } := by
  unfold handed handOver
  split
  · split
    · exact ⟨_, _, _, _, rfl⟩
    · exact ⟨_, _, _, _, rfl⟩
  · exact ⟨_, _, _, _, rfl⟩

theorem commit_early (h : s.upe.phase ≠ .armed ∨ s.now < tickOf48 s.now s.upe.commitTick) : Does .commitTick s s := by
  have hu : Does .commitTick s _ := rfl
  split at hu
  next hle =>
    rw [commitTick, if_neg (h.resolve_right (by omega))] at hu
    exact hu
  · exact hu

theorem commit_due (hp : s.upe.phase = .armed) (ht : tickOf48 s.now s.upe.commitTick ≤ s.now) :
    ∃ u, Does .commitTick s u ∧ u.upe.phase = .trial ∧ u.upe.trialStart = s.now ∧ u.upe.newPlan = none ∧
    u.upe.old.isSome = true ∧
    (s.upe.newPlan = none → u.adm = s.adm) ∧
    (∀ g pl, s.upe.newPlan = some (g, pl) → (placesNow g pl (fencedSet s) (fencedSU s)).isSome = true →
      u.adm.img = some g ∧ u.adm.nominal = pl) ∧
    (∀ v, s.upe.newFw = some v → v ≠ s.upe.fwAct → u.upe.fwAct = v ∧ u.kio.handover = some (s.now + 4000) ∧
      u.boot.half = !s.boot.half ∧ u.boot.hand = some (handArea u) ∧ (handArea u).timers = [s.upe.openTick, s.now]) ∧
    (s.upe.newFw = none → u.upe.fwAct = s.upe.fwAct ∧ u.kio.handover = s.kio.handover) := by
  have hu : Does .commitTick s (if tickOf48 s.now s.upe.commitTick ≤ s.now then commitTick s else s) := rfl
  rw [if_pos ht] at hu
  obtain ⟨x, n, q, old, alt, bank, e⟩ := commitTick_eq hp
  have hs := swapped_steady s
  have hnone : s.upe.newPlan = none → (swapped s).adm = s.adm := fun h => by simp only [swapped, h]
  have hsome : ∀ g pl, s.upe.newPlan = some (g, pl) → (placesNow g pl (fencedSet s) (fencedSU s)).isSome = true →
      (swapped s).adm.img = some g ∧ (swapped s).adm.nominal = pl := fun g pl h h' => by
    have e : swapped s = swapImage g pl s := by simp only [swapped, h]
    rw [e]
    exact (swapImage_effect g pl s).2 h'
  rw [e] at hu
  refine ⟨_, hu, ?_⟩
  clear hu e
  generalize swapped s = w at hs hnone hsome
  obtain ⟨z, hz⟩ : ∃ z : State, z = { w with link := x, upe := changed old alt w.now bank w.upe } := ⟨_, rfl⟩
  have hzu : z.upe = changed old alt s.now bank s.upe := by rw [hz, ← hs.now, ← hs.upe]
  have hza : z.adm = w.adm := by rw [hz]
  have hzn : z.now = s.now := by rw [hz]; exact hs.now
  have hzb : z.boot = s.boot := by rw [hz]; exact hs.boot
  have hzh : z.kio.handover = s.kio.handover := by rw [hz]; exact hs.handover
  rw [← hz]
  obtain ⟨hd, hda⟩ := commitDone_kept (inTrial n q (handed s.upe.newFw s.upe.compat z))
  obtain ⟨f, b, h, p, e⟩ := handed_eq s.upe.newFw s.upe.compat z
  have hgen : (inTrial n q (handed s.upe.newFw s.upe.compat z)).upe =
      { changed old alt s.now bank s.upe with fwAct := f, phase := .trial } := by rw [e, ← hzu]; rfl
  have hadm : (inTrial n q (handed s.upe.newFw s.upe.compat z)).adm = w.adm := by rw [e, ← hza]; rfl
  refine ⟨by rw [hd.upe, hgen], by rw [hd.upe, hgen]; rfl, by rw [hd.upe, hgen]; rfl, by rw [hd.upe, hgen]; rfl,
    fun h => (hda.trans hadm).trans (hnone h), fun g pl h h' => by rw [hda, hadm]; exact hsome g pl h h', fun v hv hne => ?_, fun hv => ?_⟩
  · have eh : handed s.upe.newFw s.upe.compat z = { z with
        boot := { z.boot with half := !z.boot.half, hand := some (handArea z) }, upe := { z.upe with fwAct := v }
        kio := { z.kio with handover := some (z.now + 4000) }, prl := { z.prl with compat := s.upe.compat } } := by
      rw [hv]
      exact if_neg (by rw [hzu]; exact hne)
    have estay : commitDone (inTrial n q (handed s.upe.newFw s.upe.compat z)) = inTrial n q (handed s.upe.newFw s.upe.compat z) := by
      rw [eh]
      exact if_pos rfl
    rw [estay, eh]
    refine ⟨rfl, ?_, ?_, rfl, ?_⟩
    · rw [← hzn]; rfl
    · rw [← hzb]; rfl
    · change [z.upe.openTick, z.upe.trialStart] = _
      rw [hzu]
      rfl
  · have eh : handed s.upe.newFw s.upe.compat z = z := by rw [hv]; rfl
    rw [hd.upe, hd.handover, eh]
    refine ⟨?_, hzh⟩
    change z.upe.fwAct = _
    rw [hzu]
    rfl

/-! The handover, settings and the fallback (R426 to R428). -/

theorem handover_end (h : s.kio.handover.isSome = true) :
    ∃ u, Does .handoverEnd s u ∧ u.kio.handover = none ∧ u.upe = s.upe := by
  have hu : Does .handoverEnd s (handoverEnd s) := rfl
  rw [handoverEnd, if_pos h] at hu
  obtain ⟨hd, -⟩ := commitDone_kept { s with kio := { s.kio with handover := none } }
  have hall : Steady { s with kio := { s.kio with handover := none } } _ := hd.trans (.ite
    (c := (commitDone { s with kio := { s.kio with handover := none } }).upe.phase = .idle) (steady_updDone 0x0706 0 0 0 _) (.refl _))
  exact ⟨_, hu, hall.handover, hall.upe⟩

/-- What a cause of R428 on a device in TRIAL does to its update. -/
theorem updCause_trial (hp : s.upe.phase = .trial) (code part : Nat) : (updCause code part s).kio = s.kio ∧
    (s.upe.fallTick.isSome = true → (updCause code part s).upe = s.upe) ∧
    (s.upe.fallTick = none → (updCause code part s).upe = { s.upe with
      fallTick := some (BitVec.ofNat 48 (nextFall s)), fallLog := (code, updAddr s), lastCode := BitVec.ofNat 8 code
      lastPart := BitVec.ofNat 8 part }) := by
  obtain ⟨z, hz, hk, hzu, hf, ha⟩ : ∃ z, causeStatus code s = z ∧ z.kio = s.kio ∧ z.upe = s.upe ∧ nextFall z = nextFall s ∧
      updAddr z = updAddr s := by
    refine ⟨_, rfl, ?_⟩
    unfold causeStatus
    split
    · exact ⟨rfl, rfl, rfl, rfl⟩
    · exact ⟨rfl, rfl, rfl, rfl⟩
  have hzp : z.upe.phase = .trial := by rw [hzu]; exact hp
  obtain ⟨w, hw⟩ : ∃ w, w = updCode code part { z with upe := { z.upe with
    fallTick := some (BitVec.ofNat 48 (nextFall z)), fallLog := (code, updAddr z) } } := ⟨_, rfl⟩
  obtain ⟨f, hff⟩ : ∃ f, f = BitVec.ofNat 48 (nextFall z) := ⟨_, rfl⟩
  have hc : updCause code part s = if z.upe.fallTick.isSome then z else updPage (if z.prl.role = .standby then w
      else voteSend 0x34 [f.setWidth 32, (f >>> 32).setWidth 32, fld (updAddr z) 16 ||| fld code 0] w) := by
    rw [hw, hff]
    unfold updCause
    rw [hz]
    dsimp only
    split
    · rfl
    next h => exact absurd (hzp.symm.trans h) (by decide)
    next h _ => exact absurd hzp h
  have hwu : w.upe = { s.upe with
      fallTick := some (BitVec.ofNat 48 (nextFall s)), fallLog := (code, updAddr s), lastCode := BitVec.ofNat 8 code
      lastPart := BitVec.ofNat 8 part } := by
    rw [← hzu, ← hf, ← ha, hw]
    rfl
  have hwk : w.kio = s.kio := by rw [hw]; exact hk
  rw [hc, hzu]
  by_cases ht : s.upe.fallTick.isSome = true
  · rw [if_pos ht]
    exact ⟨hk, fun _ => hzu, fun h => absurd ht (by rw [h]; exact Bool.false_ne_true)⟩
  · rw [if_neg ht]
    obtain ⟨q, eq⟩ := voteSend_eq 0x34 [f.setWidth 32, (f >>> 32).setWidth 32, fld (updAddr z) 16 ||| fld code 0] w
    obtain ⟨y, hy, hyk, hyu⟩ : ∃ y, (if z.prl.role = .standby then w
        else voteSend 0x34 [f.setWidth 32, (f >>> 32).setWidth 32, fld (updAddr z) 16 ||| fld code 0] w) = y ∧ y.kio = w.kio ∧
        y.upe = w.upe := by
      refine ⟨_, rfl, ?_⟩
      rw [eq]
      split
      · exact ⟨rfl, rfl⟩
      · exact ⟨rfl, rfl⟩
    obtain ⟨n, en⟩ := updPage_eq y
    rw [hy, en]
    exact ⟨hyk.trans hwk, fun h => absurd h ht, fun _ => hyu.trans hwu⟩

theorem settings_trial (hp : s.upe.phase = .trial) :
    (∀ l, 4 * (stagedWords l).length ≤ 11264 → ∃ u, Does (.settingsMigration (some l)) s u ∧ u.upe.settings = l ∧
      u.upe.fallTick = s.upe.fallTick) ∧
    (∀ l, (l = none ∨ ∃ l', l = some l' ∧ 11264 < 4 * (stagedWords l').length) → ∃ u, Does (.settingsMigration l) s u ∧
      u.upe.fallTick.isSome = true ∧ u.upe.evt.getLsbD 5 = true) := by
  refine ⟨fun l hl => ?_, fun l hl => ?_⟩
  · have hu : Does (.settingsMigration (some l)) s (settingsStage (some l) s) := rfl
    rw [settingsStage.eq_def, if_pos hp] at hu
    dsimp only at hu
    rw [if_pos hl] at hu
    exact ⟨_, hu, rfl, rfl⟩
  · have hu : Does (.settingsMigration l) s (updCause 0x0C 0 (updEvt 5 s)) := by
      have hu : Does (.settingsMigration l) s (settingsStage l s) := rfl
      rw [settingsStage.eq_def, if_pos hp] at hu
      rcases hl with rfl | ⟨l', rfl, hl⟩
      · exact hu
      · dsimp only at hu
        rw [if_neg (by omega)] at hu
        exact hu
    have hbit : (updEvt 5 s).upe.evt.getLsbD 5 = true := bitPut_getLsbD_self _ (by decide) true
    obtain ⟨-, h1, h2⟩ := updCause_trial (s := updEvt 5 s) hp 0x0C 0
    refine ⟨_, hu, ?_⟩
    cases hf : s.upe.fallTick with
    | none =>
      rw [h2 hf]
      exact ⟨rfl, hbit⟩
    | some f =>
      have hf' : (updEvt 5 s).upe.fallTick = some f := hf
      rw [h1 (by rw [hf']; rfl), hf']
      exact ⟨rfl, hbit⟩

theorem settings_idle (h : s.upe.phase ≠ .trial) (h' : s.upe.phase ≠ .confirming) (l : Option (List (BitVec 16 × List W))) :
    Does (.settingsMigration l) s s := by
  have hu : Does (.settingsMigration l) s (settingsStage l s) := rfl
  rw [settingsStage.eq_def, if_neg h, if_neg (by simp [h'])] at hu
  exact hu

theorem fallback_early (h : s.upe.fallTick = none ∨ ∃ f, s.upe.fallTick = some f ∧ s.now < tickOf48 s.now f) : Does .fallbackTick s s := by
  refine does_kept (i := .fallbackTick) rfl ?_
  rcases h with h | ⟨f, h, hlt⟩
  · rw [h]
    exact Bool.false_ne_true
  · rw [h, Option.any_some, decide_eq_true_eq]
    omega

theorem handOver_upe (fw compat : W) (s : State) : (handOver fw compat s).upe = { s.upe with fwAct := fw } := by
  unfold handOver
  split
  next h => rw [h]
  · rfl

theorem flashErase_eq (off n : Nat) (s : State) : ∃ fl, flashErase off n s = { s with upe := { s.upe with flash := fl } } := ⟨_, rfl⟩

/-- The inactive slots of an update that has fallen back are invalid (Table 20.4). -/
theorem idle_invalidateSlots (v : State) : ∃ fl n, setPhase .idle (invalidateSlots v) =
    { v with nvs := n, upe := { v.upe with flash := fl, staged := 0, phase := .idle } } := by
  obtain ⟨fl, e⟩ : ∃ fl, invalidateSlots v = { v with upe := { v.upe with flash := fl, staged := 0 } } := by
    unfold invalidateSlots
    dsimp only
    obtain ⟨f1, e1⟩ := flashErase_eq (flashMan (!v.upe.manSlot)) 0x40000 v
    rw [e1]
    dsimp only
    obtain ⟨f2, e2⟩ := flashErase_eq (flashFw (!v.upe.fwSlot)) 0x400000 { v with upe := { v.upe with flash := f1 } }
    rw [e2]
    dsimp only
    obtain ⟨f3, e3⟩ := flashErase_eq (flashImg (!v.upe.imgSlot)) 0x800000 { v with upe := { v.upe with flash := f2 } }
    exact ⟨f3, by rw [e3]⟩
  obtain ⟨n, e'⟩ := setPhase_eq .idle (invalidateSlots v)
  exact ⟨fl, n, by rw [e', e]⟩

/-- The update unit of a device that has gone back to firmware `fw`. -/
def fellBack (fw : W) (u : Upe) : Upe :=
  { u with
    fwAct := fw, fallTick := none, fwAlt := 0, settings := [], coord := false, commitTick := 0, newFw := none, skipped := []
    evt := bitPut u.evt 4 true }

theorem fallback_effect {o : OldParts} (hp : s.upe.phase = .trial) (ho : s.upe.old = some o) : ∃ p fl,
    (fallback s).upe = { fellBack o.fw p with flash := fl, staged := 0, phase := .idle } ∧
      raised (fallback s) 982 .uc (0x0A00 + s.upe.lastCode.toNat) := by
  obtain ⟨w, hw⟩ : ∃ w, w = handOver o.fw o.compat (oldImage o { s with upe := { s.upe with old := none } }) := ⟨_, rfl⟩
  have hwf : w.upe = { w.upe with fwAct := o.fw } := by rw [hw, handOver_upe]
  obtain ⟨x, ex⟩ := moduleCtrl_eq 3 w
  obtain ⟨z, hz⟩ : ∃ z : State, z = updEvt 4 { w with link := x, upe := { w.upe with
    fallTick := none, fwAlt := 0, settings := [], coord := false, commitTick := 0, newFw := none, skipped := [] } } := ⟨_, rfl⟩
  have hzu : z.upe = fellBack o.fw w.upe := by rw [hz, hwf]; rfl
  obtain ⟨n, en⟩ := updLog_eq s.upe.fallLog.1 s.upe.fallLog.2 z
  obtain ⟨v, hv⟩ : ∃ v, v = State.raiseP { z with nvs := n } 982 .uc (0x0A00 + s.upe.lastCode.toNat) := ⟨_, rfl⟩
  have hvu : v.upe = z.upe := by rw [hv]; exact (occurs_raiseP ..).upe
  have hvr : raised v 982 .uc (0x0A00 + s.upe.lastCode.toNat) := by rw [hv]; exact raised_raise (by decide) _ .uc _ _ _ _
  obtain ⟨fl, n', er⟩ := idle_invalidateSlots v
  obtain ⟨r, hr⟩ : ∃ r, r = setPhase .idle (invalidateSlots v) := ⟨_, rfl⟩
  have e : fallback s = if r.kio.handover.isSome then r else updDone 0x0706 0 0 0 (updDone 0x0704 s.upe.lastCode.toNat 0 0 r) := by
    unfold fallback
    rw [hp, ho, hr, hv, ← en, hz, hw]
    dsimp only
    rw [← hw, ex]
  have hrr : PairOnly r (fallback s) := by
    rw [e]
    split
    · exact .refl r
    · exact (pairOnly_updDone ..).trans (pairOnly_updDone ..)
  have hru : r.upe = { fellBack o.fw w.upe with flash := fl, staged := 0, phase := .idle } := by rw [hr, er, hvu, hzu]
  have hrf : r.fcr = v.fcr := by rw [hr, er]
  refine ⟨w.upe, fl, hrr.upe.trans hru, hrr.raised ?_⟩
  unfold raised at hvr ⊢
  rw [hrf]
  exact hvr

theorem fallback_due {o : OldParts} {f : BitVec 48} (hf : s.upe.fallTick = some f) (ht : tickOf48 s.now f ≤ s.now)
    (hp : s.upe.phase = .trial) (ho : s.upe.old = some o) : ∃ u, Does .fallbackTick s u ∧
    u.upe.phase = .idle ∧ u.upe.fwAct = o.fw ∧ u.upe.evt.getLsbD 4 = true ∧ u.upe.staged = 0 ∧
    raised u 982 .uc (0x0A00 + s.upe.lastCode.toNat) := by
  have hu : Does .fallbackTick s (if s.upe.fallTick.any (fun f => tickOf48 s.now f ≤ s.now) then fallback s else s) := rfl
  rw [if_pos (by rw [hf]; exact decide_eq_true ht)] at hu
  obtain ⟨p, fl, e, hr⟩ := fallback_effect hp ho
  refine ⟨_, hu, ?_⟩
  rw [e]
  exact ⟨rfl, rfl, bitPut_getLsbD_self _ (by decide) true, rfl, hr⟩

/-! The end of the trial (R429). -/

theorem trial_early (h : s.upe.phase ≠ .trial ∨ s.now < s.upe.trialStart + 2000000 * s.upe.trialS) : Does .trialEnd s s := by
  have hu : Does .trialEnd s (if trialOver s then trialEnd s else s) := rfl
  split at hu
  next ho =>
    have ho' := of_decide_eq_true ho
    rw [trialEnd, if_neg (h.resolve_right (by omega))] at hu
    exact hu
  · exact hu

theorem trial_end (hp : s.upe.phase = .trial) (ht : s.upe.trialStart + 2000000 * s.upe.trialS ≤ s.now) :
    (s.upe.coord = false → Does .trialEnd s { s with upe := { s.upe with trialS := 0 } }) ∧
    (s.upe.coord = true → s.upe.auto = true → s.upe.fallTick = none → ∃ u, Does .trialEnd s u ∧
      u.upe.phase = .confirming ∧ u.upe.mseqConf = s.upe.mseqNew) := by
  have hu : Does .trialEnd s (if trialOver s then trialEnd s else s) := rfl
  rw [if_pos (show trialOver s = true from decide_eq_true ht), trialEnd, if_pos hp] at hu
  refine ⟨fun hc => ?_, fun hc ha hf => ?_⟩
  · dsimp only at hu
    rw [if_neg (by rw [hc, Bool.and_false]; exact Bool.false_ne_true)] at hu
    exact hu
  · dsimp only at hu
    rw [if_pos (by rw [hc, ha, hf]; rfl)] at hu
    obtain ⟨q, e⟩ := voteSend_eq 0x35 [] { s with upe := { s.upe with trialS := 0 } }
    rw [e] at hu
    obtain ⟨h1, h2, -⟩ := confirm_upe { s with upe := { s.upe with trialS := 0 }, jnb := { s.jnb with outQ := q } }
    exact ⟨_, hu, h1, h2⟩

/-! Staging (R420). -/

theorem stage_written {tag : BitVec 16} (h : Ready s 0x0701 tag k) (hp : s.upe.phase = .staging) (bs : List Byte) {at_ len : Nat}
    (hd : stageDest s ((k.arg 3).bits 1 0) ((k.arg 3).bits 31 16) = some (at_, len))
    (hl : (k.arg 4).toNat + sumNat ((stageBlocks bs.length bs).map (·.1.length)) ≤ len) :
    let w := stageWrite (stageBlocks bs.length bs) 0 (at_ + (k.arg 4).toNat) s.upe.flash
    ∃ u, Does (.updStage tag (some bs)) s u ∧ u.upe.flash = w.2.2 ∧
      u.upe.staged = bitPut s.upe.staged ((k.arg 3).bits 1 0) true ∧
      Completed s u k 0 (if w.2.1 then 0 else 0x11) (if w.2.1 then 0 else BitVec.ofNat 32 w.1) (BitVec.ofNat 32 w.1) := by
  have hu : Does (.updStage tag (some bs)) s (kiosk 0x0701 tag (kUpdStage (some bs)) s) := rfl
  rw [kiosk_ready h] at hu
  rcases hw : stageWrite (stageBlocks bs.length bs) 0 (at_ + (k.arg 4).toNat) s.upe.flash with ⟨n, ok, fl⟩
  have e : kUpdStage (some bs) k s =
      if ok then kEnd k stOk 0 0 (nw n) (updCode 0 0 { s with upe := { s.upe with
        flash := fl, staged := bitPut s.upe.staged ((k.arg 3).bits 1 0) true } })
      else kEnd k stOk 0x11 (nw n) (nw n) (updEvt 0 (updCode 0x11 n { s with upe := { s.upe with
        flash := fl, staged := bitPut s.upe.staged ((k.arg 3).bits 1 0) true } })) := by
    unfold kUpdStage
    dsimp only
    rw [if_neg (by simp [hp]), if_neg (by simp [hp]), hd]
    dsimp only
    rw [if_neg (by omega), hw]
  rw [e] at hu
  dsimp only
  have hdone : ∀ (c n : Nat) (b : Bool) (r0 r1 r2 : W), let v := updCode c n { s with upe := { s.upe with
      flash := fl, staged := bitPut s.upe.staged ((k.arg 3).bits 1 0) true } }
      let u := kEnd k stOk r0 r1 r2 (if b then updEvt 0 v else v)
      u.upe.flash = fl ∧ u.upe.staged = bitPut s.upe.staged ((k.arg 3).bits 1 0) true ∧ Completed s u k 0 r0 r1 r2 := by
    intro c n b r0 r1 r2
    dsimp only
    obtain ⟨v, hv, hvf, hvs, hvk, hvh⟩ : ∃ v, (if b then updEvt 0 (updCode c n { s with upe := { s.upe with
        flash := fl, staged := bitPut s.upe.staged ((k.arg 3).bits 1 0) true } }) else updCode c n { s with upe := { s.upe with
        flash := fl, staged := bitPut s.upe.staged ((k.arg 3).bits 1 0) true } }) = v ∧ v.upe.flash = fl ∧
        v.upe.staged = bitPut s.upe.staged ((k.arg 3).bits 1 0) true ∧ v.kio = s.kio ∧ v.host = s.host := by
      refine ⟨_, rfl, ?_⟩
      cases b with
      | true => exact ⟨rfl, rfl, rfl, rfl⟩
      | false => exact ⟨rfl, rfl, rfl, rfl⟩
    rw [hv]
    have hc := completed_of_ready (v := v) h (by rw [hvk]) (by rw [hvk]) hvh (by rw [hvk]) stOk r0 r1 r2
    obtain ⟨o, m, ek⟩ := kEnd_eq h.2.2.1 stOk r0 r1 r2 v
    exact ⟨by rw [ek]; exact hvf, by rw [ek]; exact hvs, hc⟩
  cases ok with
  | true => exact ⟨_, hu, hdone 0 0 false ..⟩
  | false => exact ⟨_, hu, hdone 0x11 n true ..⟩

/-- A row whose phase does not take its command completes it with NOT_STATE. -/
theorem row_refused {cmd : Nat} {tag : BitVec 16} (h : Ready s cmd tag k) :
    Completed s (kStatus k stState s) k 0x0024 0 0 0 ∧ (kStatus k stState s).upe = s.upe :=
  ⟨completed_of_ready h rfl rfl rfl rfl stState 0 0 0, (steady_kEnd k stState 0 0 0 s).upe⟩

theorem stage_noData {tag : BitVec 16} (h : Ready s 0x0701 tag k) (hp : s.upe.phase = .staging) :
    ∃ u, Does (.updStage tag none) s u ∧ Completed s u k 0x0025 0 0 0 ∧ u.kio.err.getLsbD 0 = true := by
  have hu : Does (.updStage tag none) s (kiosk 0x0701 tag (kUpdStage none) s) := rfl
  have e : kUpdStage none k s = kDma k s := by
    unfold kUpdStage
    dsimp only
    rw [if_neg (by simp [hp])]
  rw [kiosk_ready h, e] at hu
  refine ⟨_, hu, (kDma_effect h).1, ?_⟩
  have hs := steady_kEnd k stDma 0 0 0 { s with kio := { s.kio with err := bitPut s.kio.err 0 true } }
  change (kEnd k stDma 0 0 0 _).kio.err.getLsbD 0 = true
  rw [hs.err]
  exact bitPut_getLsbD_self _ (by decide) true

theorem stage_wrongPhase {tag : BitVec 16} (b : Option (List Byte)) (h : Ready s 0x0701 tag k)
    (hp : s.upe.phase = .ready ∨ s.upe.phase = .trial) : ∃ u, Does (.updStage tag b) s u ∧ Completed s u k 0x0024 0 0 0 ∧ u.upe = s.upe := by
  have hu : Does (.updStage tag b) s (kiosk 0x0701 tag (kUpdStage b) s) := rfl
  have e : kUpdStage b k s = kStatus k stState s := by
    unfold kUpdStage
    dsimp only
    rw [if_pos]
    rcases hp with hp | hp
    · simp [hp]
    · simp [hp]
  rw [kiosk_ready h, e] at hu
  exact ⟨_, hu, row_refused h⟩

/-! Verification and preparation (R419, R421, R422). -/

theorem verify_row {tag : BitVec 16} (h : Ready s 0x0702 tag k) :
    (s.upe.phase = .staging → ∃ u, Does (.updVerify tag) s u ∧ u.upe.phase = .verifying ∧ u.kio.cq = s.kio.cq) ∧
    (s.upe.phase ≠ .staging → ∃ u, Does (.updVerify tag) s u ∧ Completed s u k 0x0024 0 0 0 ∧ u.upe = s.upe) := by
  have hu : Does (.updVerify tag) s (kiosk 0x0702 tag kUpdVerify s) := rfl
  rw [kiosk_ready h, kUpdVerify] at hu
  refine ⟨fun hp => ?_, fun hp => ?_⟩
  · rw [if_pos hp] at hu
    obtain ⟨n, e⟩ := setPhase_eq .verifying (kBegin k s)
    rw [e] at hu
    exact ⟨_, hu, rfl, rfl⟩
  · rw [if_neg hp] at hu
    exact ⟨_, hu, row_refused h⟩

theorem voteSend_sent (hr : s.prl.role ≠ .standby) (kind : Nat) (rest : List W) :
    ∃ p, voteSend kind rest s = { s with jnb := { s.jnb with outQ := s.jnb.outQ ++ [(kind, 0x3FF, p)] } } := by
  unfold voteSend
  rw [if_neg hr]
  exact ⟨_, rfl⟩

theorem prepare_row {tag : BitVec 16} (h : Ready s 0x0703 tag k) :
    (s.upe.phase = .verified → k.foreign = false → ∃ u, Does (.updPrepare tag) s u ∧
      u.upe.phase = .preparing ∧ u.upe.coord = true ∧ u.upe.preparing = true ∧ u.kio.cq = s.kio.cq ∧
      (s.prl.role ≠ .standby → ∃ p, u.jnb.outQ = s.jnb.outQ ++ [(0x30, 0x3FF, p)])) ∧
    (s.upe.phase ≠ .verified → ∃ u, Does (.updPrepare tag) s u ∧ Completed s u k 0x0024 0 0 0 ∧ u.upe = s.upe) := by
  have hu : Does (.updPrepare tag) s (kiosk 0x0703 tag kUpdPrepare s) := rfl
  rw [kiosk_ready h, kUpdPrepare] at hu
  refine ⟨fun hp hf => ?_, fun hp => ?_⟩
  · rw [if_neg (Classical.not_not.2 hp), hf, if_neg Bool.false_ne_true] at hu
    obtain ⟨n, x, j, e⟩ := prepBegin_eq (kBegin k s)
    obtain ⟨z, hz⟩ : ∃ z : State, z = { kBegin k s with nvs := n, link := x, upe := { preparing (kBegin k s).now j (kBegin k s).upe with
      coord := true, expected := ((updDevices (kBegin k s)).filter (targeted (kBegin k s))).map (BitVec.ofNat 10) } } := ⟨_, rfl⟩
    have ec : coordinate (kBegin k s) = voteSend 0x30 [] z := by
      rw [hz]
      unfold coordinate
      rw [e]
    have hzr : z.prl.role = s.prl.role := by rw [hz]; rfl
    have hzq : z.jnb.outQ = s.jnb.outQ := by rw [hz]; rfl
    obtain ⟨q, eq⟩ := voteSend_eq 0x30 [] z
    rw [ec] at hu
    refine ⟨_, hu, ?_, ?_, ?_, ?_, fun hr => ?_⟩
    · rw [eq, hz]; rfl
    · rw [eq, hz]
    · rw [eq, hz]; rfl
    · rw [eq, hz]; rfl
    · obtain ⟨p, ep⟩ := voteSend_sent (s := z) (by rw [hzr]; exact hr) 0x30 []
      exact ⟨p, by rw [ep, ← hzq]⟩
  · rw [if_pos hp] at hu
    exact ⟨_, hu, row_refused h⟩

/-! The commit (R422, R425). -/

theorem le_nextTc (s : State) (n d : Nat) : s.now + d ≤ s.nextTc n d := by
  unfold State.nextTc
  dsimp only
  split
  · exact Nat.le_refl _
  · omega

theorem commit_row {tag : BitVec 16} (h : Ready s 0x0704 tag k) :
    (s.upe.phase = .ready → s.upe.coord = true →
      (s.upe.expected.all fun a => s.upe.yes.contains a) = true → k.arg 3 = 0 → (k.arg 4).extractLsb' 0 16 = 0 →
      ∃ u, Does (.updCommit tag) s u ∧ u.upe.phase = .armed ∧ u.upe.commitTick = BitVec.ofNat 48 (earliestC s) ∧
        s.now + 100000 ≤ earliestC s ∧ u.kio.cq = s.kio.cq ∧
        (s.prl.role ≠ .standby → ∃ p, u.jnb.outQ = s.jnb.outQ ++ [(0x32, 0x3FF, p)])) ∧
    (s.upe.phase ≠ .ready → s.upe.phase ≠ .verified → ∃ u, Does (.updCommit tag) s u ∧
      Completed s u k 0x0024 0 0 0 ∧ u.upe = s.upe) := by
  have hu : Does (.updCommit tag) s (kiosk 0x0704 tag kUpdCommit s) := rfl
  rw [kiosk_ready h, kUpdCommit] at hu
  refine ⟨fun hp hc ha h3 h4 => ?_, fun hp hv => ?_⟩
  · rw [if_pos ⟨hp, .inr (by rw [hc, ha]; rfl)⟩] at hu
    have hzero : ((k.arg 4).extractLsb' 0 16 ++ k.arg 3 : BitVec 48) = 0 := by rw [h3, h4]; decide
    obtain ⟨n, en⟩ := setPhase_eq .armed { kBegin k s with upe := { s.upe with commitTick := BitVec.ofNat 48 (earliestC s) } }
    obtain ⟨z, hz⟩ : ∃ z : State, z = { kBegin k s with nvs := n, upe := { s.upe with
      commitTick := BitVec.ofNat 48 (earliestC s), phase := .armed } } := ⟨_, rfl⟩
    obtain ⟨rest, er⟩ : ∃ rest, commitAt k s = voteSend 0x32 rest z := by
      unfold commitAt
      dsimp only
      rw [hzero, if_neg (fun hn => hn.1 rfl), if_pos rfl, if_pos hc, en, hz]
      exact ⟨_, rfl⟩
    have hzr : z.prl.role = s.prl.role := by rw [hz]; rfl
    have hzq : z.jnb.outQ = s.jnb.outQ := by rw [hz]; rfl
    obtain ⟨q, eq⟩ := voteSend_eq 0x32 rest z
    rw [er] at hu
    refine ⟨_, hu, ?_, ?_, le_nextTc .., ?_, fun hr => ?_⟩
    · rw [eq, hz]
    · rw [eq, hz]
    · rw [eq, hz]; rfl
    · obtain ⟨p, ep⟩ := voteSend_sent (s := z) (by rw [hzr]; exact hr) 0x32 rest
      exact ⟨p, by rw [ep, ← hzq]⟩
  · rw [if_neg (fun hn => hp hn.1), if_neg (fun hn => hv hn.2.2.1)] at hu
    exact ⟨_, hu, row_refused h⟩

/-! Confirmation by the host (R429). -/

/-- From `s` to `u` the door of the kiosk stands: completion rings, accepted commands, the session, and host memory canonical. -/
structure SameDoor (s u : State) : Prop where
  cq : u.kio.cq = s.kio.cq
  accepted : u.kio.accepted = s.kio.accepted
  isOpen : u.kio.isOpen = s.kio.isOpen
  wf : Memory.wf s.host = true → Memory.wf u.host = true

theorem SameDoor.refl (s : State) : SameDoor s s := ⟨rfl, rfl, rfl, id⟩
theorem SameDoor.trans (h : SameDoor s u) (h' : SameDoor u v) : SameDoor s v :=
  ⟨h'.cq.trans h.cq, h'.accepted.trans h.accepted, h'.isOpen.trans h.isOpen, fun hw => h'.wf (h.wf hw)⟩
theorem sameDoor_nvs (s : State) (n : Nvs) : SameDoor s { s with nvs := n } := ⟨rfl, rfl, rfl, id⟩
theorem sameDoor_upe (s : State) (n : Nvs) (p : Upe) : SameDoor s { s with nvs := n, upe := p } := ⟨rfl, rfl, rfl, id⟩

theorem sameDoor_raise (s : State) (src : Nat) (cls : EvClass) (code : Nat) (p : W) (ctx task : Nat) :
    SameDoor s (s.raise src cls code p ctx task) := by
  obtain ⟨a, b, m, q, n, e⟩ := raise_kio s src cls code p ctx task
  exact ⟨by rw [e], by rw [e], by rw [e], fun h => wf_raise h ..⟩

theorem sameDoor_counterInc (id : BitVec 16) (s : State) : SameDoor s (counterInc id s) := by
  obtain ⟨d, w, c, e, h⟩ := recAlloc_eq id 12 true s
  unfold counterInc
  rw [h]
  cases d with
  | none => exact (sameDoor_nvs s _).trans (sameDoor_raise ..)
  | some d => exact sameDoor_nvs s _

theorem sameDoor_storeBegin (pages : List Nat) (tag : Option (BitVec 16)) (pf : Bool) (s : State) :
    SameDoor s (storeBegin pages tag pf s) := by
  have hfold : ∀ (l : List (BitVec 16)) (v : State), SameDoor v (l.foldl (fun s id => counterInc id s) v) := fun l => by
    induction l with
    | nil => exact .refl
    | cons id l ih => exact fun v => (sameDoor_counterInc id v).trans (ih _)
  have hall : ∀ v, SameDoor v (counterAll v) := fun v => (sameDoor_nvs v _).trans (hfold ..)
  unfold storeBegin
  dsimp only
  obtain ⟨w1, c1, e1⟩ := nvThroughW_eq journalAt [lo32 s.clk.ts] s
  obtain ⟨w2, c2, e2⟩ := nvThroughW_eq (journalAt + 12) [0] (nvThroughW journalAt [lo32 s.clk.ts] s)
  rw [e2, e1]
  exact ((sameDoor_nvs s _).trans (hall _)).trans (sameDoor_nvs _ _)

theorem sameDoor_confirm (s : State) : SameDoor s (confirm s) := by
  obtain ⟨n, e⟩ := setPhase_eq .confirming { s with upe := { s.upe with fallTick := none } }
  have hdir : ∀ v : State, SameDoor v (dirWrite v) := fun v => sameDoor_upe v _ _
  have hput : ∀ v : State, SameDoor v (s.upe.settings.foldl settingPut v) := fun v => by
    obtain ⟨n, e⟩ := settingPuts_eq s.upe.settings v
    rw [e]
    exact sameDoor_nvs ..
  have hstore : ∀ v : State, SameDoor v (confStore v) := fun v => by
    unfold confStore
    split
    · exact sameDoor_upe v _ _
    · exact (sameDoor_upe v _ _).trans (sameDoor_storeBegin ..)
  unfold confirm
  dsimp only
  rw [e]
  exact (((sameDoor_upe s _ _).trans (hdir _)).trans (hput _)).trans (hstore _)

theorem confirm_row {tag : BitVec 16} (h : Ready s 0x0705 tag k) :
    (s.upe.phase = .trial → trialOver s = true → s.upe.fallTick = none → s.upe.coord = true →
      ∃ u, Does (.updConfirm tag) s u ∧ Completed s u k 0 0 0 0 ∧ u.upe.phase = .confirming ∧ u.upe.mseqConf = s.upe.mseqNew) ∧
    (s.upe.phase ≠ .trial ∨ trialOver s = false → ∃ u, Does (.updConfirm tag) s u ∧
      Completed s u k 0x0024 0 0 0 ∧ u.upe = s.upe) := by
  have hu : Does (.updConfirm tag) s (kiosk 0x0705 tag kUpdConfirm s) := rfl
  rw [kiosk_ready h, kUpdConfirm] at hu
  refine ⟨fun hp ho hf hc => ?_, fun hn => ?_⟩
  · rw [if_pos ⟨hp, ho, by rw [hf]; rfl, .inl hc⟩, if_pos hc] at hu
    obtain ⟨q, e⟩ := voteSend_eq 0x35 [] s
    rw [e] at hu
    have hd := sameDoor_confirm { s with jnb := { s.jnb with outQ := q } }
    obtain ⟨h1, h2, -⟩ := confirm_upe { s with jnb := { s.jnb with outQ := q } }
    generalize confirm _ = v at hu hd h1 h2
    obtain ⟨-, -, hm, hmute, -, ho', hw⟩ := h
    obtain ⟨o, m, ek⟩ := kEnd_eq hm stOk 0 0 0 v
    refine ⟨_, hu, completed_kEnd hm hmute ho' (hd.wf hw) hd.isOpen hd.cq (by rw [hd.accepted]) stOk 0 0 0, ?_, ?_⟩
    · rw [ek]; exact h1
    · rw [ek]; exact h2
  · rw [if_neg (fun hc => by
      rcases hn with hn | hn
      · exact hn hc.1
      · exact Bool.false_ne_true (hn.symm.trans hc.2.1))] at hu
    exact ⟨_, hu, row_refused h⟩

theorem fallback_row {tag : BitVec 16} (h : Ready s 0x0706 tag k) :
    (s.upe.phase = .trial → s.upe.fallTick = none → ∃ u, Does (.updFallback tag) s u ∧
      u.upe.fallTick = some (BitVec.ofNat 48 (nextFall s)) ∧ u.upe.lastCode = 0x0E ∧ u.upe.phase = .trial ∧ u.kio.cq = s.kio.cq) ∧
    (s.upe.phase ≠ .trial → ∃ u, Does (.updFallback tag) s u ∧ Completed s u k 0x0024 0 0 0 ∧ u.upe = s.upe) := by
  have hu : Does (.updFallback tag) s (kiosk 0x0706 tag kUpdFallback s) := rfl
  rw [kiosk_ready h, kUpdFallback] at hu
  refine ⟨fun hp hf => ?_, fun hp => ?_⟩
  · rw [if_pos hp] at hu
    obtain ⟨hk, -, hupe⟩ := updCause_trial (s := kBegin k s) hp 0x0E 0
    have hupe := hupe hf
    refine ⟨_, hu, ?_, ?_, ?_, by rw [hk]; rfl⟩
    · rw [hupe]; rfl
    · rw [hupe]; rfl
    · rw [hupe]; exact hp
  · rw [if_neg hp] at hu
    exact ⟨_, hu, row_refused h⟩

end

/-- Settles O58. -/
theorem updateSteps : Obligations.UpdateSteps := fun s =>
  ⟨commit_early, commit_due, fun h => does_kept (i := .handoverEnd) rfl (by rw [h]; exact Bool.false_ne_true), handover_end, settings_trial,
    fun h h' l => settings_idle h h' l, fallback_early, fun _ _ hf ht hp ho => fallback_due hf ht hp ho, trial_early,
    fun hp ht => (trial_end hp ht).1, fun hp ht => (trial_end hp ht).2, fun tag k =>
      ⟨fun bs h hp _ at_ len hd hl => stage_written h hp bs hd hl, fun h => stage_noData h, fun b h => stage_wrongPhase b h,
        fun h => (verify_row h).1, fun h => (verify_row h).2, fun h => (prepare_row h).1, fun h => (prepare_row h).2,
        fun h => (commit_row h).1, fun h => (commit_row h).2, fun h => (confirm_row h).1, fun h => (confirm_row h).2,
        fun h => (fallback_row h).1, fun h => (fallback_row h).2⟩⟩

end Sys2Proof.Claims
end

section
/-!
PROOF. A device that has a HELLO of other firmware and stands on side 1 becomes STANDBY and takes its channels to OFF (R357): the
statement on the pair link has them as they are.
-/
namespace Sys2Proof.Claims
open Sys2Proof Sys2Proof.Machine

section
variable {s : State}

theorem enterOff_first (n : Nat) (s : State) : ((enterOff n s).ch 0).st = if n = 0 then .off else (s.ch 0).st := by
  have e : (enterOff n s).ch 0 = (setChan n .off (fun c => { c.stilled with
      mA := 0, mB := 0, mC := 0, mD := 0, mstat := 0, restart := false, restartRun := 0, armLeft := 0, staged := [] }) s).ch 0 := by
    rw [State.ch, enterOff_chan]
    rfl
  rw [e]
  split
  next h =>
    rw [h, setChan_self (by decide)]
    rfl
  next h => rw [setChan_ne (Ne.symm h)]

/-- Channel `n` of a device that stands down (R357). -/
def offOne (s : State) (n : Nat) : State := if (s.ch n).st = .off || (s.ch n).st = .fenced then s else enterOff n s

theorem offOne_first (h : (s.ch 0).st ≠ .fenced) (n : Nat) :
    ((offOne s n).ch 0).st = if n = 0 then .off else (s.ch 0).st := by
  unfold offOne
  split
  next hs =>
    split
    next hn =>
      rw [hn, Bool.or_eq_true, decide_eq_true_eq, decide_eq_true_eq] at hs
      exact hs.resolve_right h
    · rfl
  · exact enterOff_first n s

theorem foldl_offOne_first (l : List Nat) (h : (s.ch 0).st ≠ .fenced) :
    ((l.foldl offOne s).ch 0).st = if 0 ∈ l then .off else (s.ch 0).st := by
  induction l generalizing s with
  | nil => rfl
  | cons n l ih =>
    have hn := offOne_first h n
    have hf : ((offOne s n).ch 0).st ≠ .fenced := by
      rw [hn]
      split
      · decide
      · exact h
    rw [List.foldl_cons, ih hf, hn]
    by_cases h0 : n = 0
    · simp [h0]
    · simp [h0, Ne.symm h0]

/-- A device that stands down has its first channel OFF or FENCED. -/
theorem standDown_first (h : (s.ch 0).st ≠ .fenced) : ((standDown s).ch 0).st = .off := by
  obtain ⟨v, hv, hfirst⟩ : ∃ v, standDown s = (List.range 192).foldl offOne v ∧ (v.ch 0).st = (s.ch 0).st := by
    obtain ⟨w, hw, hst⟩ : ∃ w, w = (if s.clk.released then { s with prl := { s.prl with halted := true } } else s) ∧
        (w.ch 0).st = (s.ch 0).st := by
      refine ⟨_, rfl, ?_⟩
      split
      · rfl
      · rfl
    refine ⟨if s.prl.role = .lead then relAll w else w, ?_, ?_⟩
    · rw [hw]
      unfold standDown
      rfl
    · split
      · exact hst
      · exact hst
  rw [hv, foldl_offOne_first _ (by rw [hfirst]; exact h), if_pos (List.mem_range.2 (by decide))]

theorem formStandby_first (st : PState) (h : (s.ch 0).st ≠ .fenced) : ((formStandby st s).ch 0).st = .off := by
  have hs := standDown_first (s := { s with boot := { s.boot with imageKept := false } }) h
  unfold formStandby setRole
  generalize standDown _ = w at hs
  obtain ⟨-, hf⟩ := followRef_frame { w with prl := { w.prl with role := .standby, pst := st } }
  have hc : (followRef { w with prl := { w.prl with role := .standby, pst := st } }).chan = w.chan := hf.chan
  rw [State.ch, hc]
  exact hs

theorem prlEvt_ch (b : Nat) (s : State) (n : Nat) : (prlEvt b s).ch n = s.ch n := rfl

theorem watched_first {u v : State} (e : watched u = watched v) : (u.ch 0).st = (v.ch 0).st := congrArg (fun x => x.2.2) e

/-- A device on side 1 in RUN, whose first channel is in CONTROL. -/
def running : State :=
  { State.reset with
    clk := { State.reset.clk with chip := .run, tickRun := true }
    kio := { State.reset.kio with fwReady := true }
    prl := { State.reset.prl with strapped := true, side := true }
    chan := vmod State.reset.chan 0 fun c => { c with st := .control } }

end

/-- A HELLO of no version makes the device on side 1 STANDBY. -/
theorem pairHello_running : ∃ w, pairHello [] 0 running = prlEvt 4 (formStandby .mismatch w) ∧ (w.ch 0).st = .control := by
  unfold pairHello
  dsimp only
  rw [if_neg (by decide), if_neg (by decide), if_pos (by decide), if_pos (by decide)]
  exact ⟨_, rfl, by decide⟩

/-- Refutes O59: a device on side 1 that has a HELLO of an unknown version becomes STANDBY, which takes its channels to OFF (R357). -/
theorem not_pairLink : ¬ Obligations.PairLink := by
  unfold Obligations.PairLink
  intro h
  obtain ⟨hhello, -⟩ := h running
  obtain ⟨-, hrun⟩ := hhello [] 0
  obtain ⟨-, -, hmis, -⟩ := hrun (by decide) (by decide)
  obtain ⟨u, hu, -, -, -, hchan⟩ := hmis (by decide) (by decide) (.inl (by decide))
  have e := watched_of_does (v := if pairRuns running && running.prl.link != .up then pairHello [] 0 running else running) rfl hu
  rw [if_pos (by decide)] at e
  obtain ⟨w, hw, hst⟩ := pairHello_running
  have hoff : ((pairHello [] 0 running).ch 0).st = .off := by
    rw [hw, prlEvt_ch]
    exact formStandby_first .mismatch (by rw [hst]; decide)
  have hu' : (u.ch 0).st = .control := by
    rw [State.ch, hchan]
    decide
  have e' := watched_first e
  rw [hu', hoff] at e'
  exact absurd e' (by decide)

end Sys2Proof.Claims
end

section
/-!
PROOF. The messages of the pair link on the device that receives them (R131, R356, R358 to R362, R371).
-/
namespace Sys2Proof.Claims
open Sys2Proof Sys2Proof.Machine

section
variable {s u v : State} {k : KCmd}

/-! What a STANDBY takes (R356, R358, R359). -/

/-- A message of the mirror queue that a STANDBY has: RESYNC begins where one before it is missed. -/
theorem mirrorGot_eq (h : mirrorTakes s = true) (m : Nat) : ∃ p, mirrorGot m s = { s with prl := p } ∧ p.rxMseq = some (m + 1) ∧
    p.queue = s.prl.queue ∧ mirrorTakes { s with prl := p } = true ∧
    p.pst = if s.prl.pst = .inSync && s.prl.rxMseq.any (· != m) then .resync else s.prl.pst := by
  unfold mirrorGot
  rw [if_pos h]
  dsimp only
  by_cases hc : (decide (s.prl.pst = .inSync) && s.prl.rxMseq.any (· != m)) = true
  · rw [if_pos hc, if_pos hc]
    refine ⟨_, rfl, rfl, rfl, ?_, rfl⟩
    simp only [mirrorTakes, pairFormed, Bool.and_eq_true, beq_iff_eq] at h ⊢
    obtain ⟨⟨h1, h2, -⟩, h3⟩ := h
    exact ⟨⟨h1, h2, rfl⟩, h3⟩
  · rw [if_neg hc, if_neg hc]
    exact ⟨_, rfl, rfl, rfl, h, rfl⟩

theorem mirror_refused (h : mirrorTakes s = false) : (∀ m e, Does (.pairCmd m e) s s) ∧ ∀ a ws, Does (.regw a ws) s s := by
  have hn : ¬ mirrorTakes s = true := by rw [h]; exact Bool.false_ne_true
  refine ⟨fun m e => ?_, fun a ws => does_kept (i := .regw a ws) rfl hn⟩
  have hg : mirrorGot m s = s := if_neg hn
  have hu : exec (.pairCmd m e) s = execPairCmd m e s := rfl
  rw [execPairCmd, hg] at hu
  dsimp only at hu
  rw [if_neg hn] at hu
  exact hu

/-- The command of a CMD message, as the STANDBY accepts it (R359). -/
def mirrored (m : Nat) (e : List W) (s : State) : KCmd :=
  ⟨(lat e 0 0).bits 31 16, (lat e 0 0).extractLsb' 0 16, Fin.ofNat 4 ((lat e 1 0).bits 31 30),
    (List.range 16).map fun i => lat e i 0, s.clk.ts, 0,
    if 2 ≤ (Fin.ofNat 4 ((lat e 1 0).bits 31 30)).val then s.kio.nextHandle else 0, false, false, [], some m, false, true, false, 0⟩

theorem pairCmd_taken (h : mirrorTakes s = true) (m : Nat) (e : List W) : ∃ u p h, Does (.pairCmd m e) s u ∧
    mirrorGot m s = { s with prl := p } ∧
    u = { s with
      kio := { s.kio with accepted := s.kio.accepted ++ [mirrored m e s], nextHandle := h }
      prl := { p with queue := p.queue ++ [⟨m, false, (List.range 16).map fun i => lat e i 0, s.now + 2, none, false, none, none⟩] } } := by
  obtain ⟨p, hg, -, -, ht, -⟩ := mirrorGot_eq h m
  have hu : exec (.pairCmd m e) s = execPairCmd m e s := rfl
  rw [execPairCmd, hg] at hu
  dsimp only at hu
  rw [if_pos ht] at hu
  exact ⟨_, p, _, hu, hg, rfl⟩

theorem pairCmd_seq (h : mirrorTakes s = true) (m : Nat) (e : List W) :
    (∀ n, s.prl.pst = .inSync → s.prl.rxMseq = some n → n ≠ m → ∃ u, Does (.pairCmd m e) s u ∧ u.prl.pst = .resync ∧
      u.prl.rxMseq = some (m + 1)) ∧
    (s.prl.rxMseq = none ∨ s.prl.rxMseq = some m → ∃ u, Does (.pairCmd m e) s u ∧ u.prl.pst = s.prl.pst ∧
      u.prl.rxMseq = some (m + 1)) := by
  obtain ⟨p, hg, hrx, -, -, hpst⟩ := mirrorGot_eq h m
  obtain ⟨u, p', hd, hu, hg', e'⟩ := pairCmd_taken h m e
  have hp : p' = p := congrArg State.prl (hg'.symm.trans hg)
  rw [hp] at e'
  refine ⟨fun n hi hr hn => ⟨u, hu, ?_, by rw [e']; exact hrx⟩, fun hr => ⟨u, hu, ?_, by rw [e']; exact hrx⟩⟩
  · rw [e']
    refine hpst.trans (if_pos ?_)
    rw [hi, hr, Option.any_some, bne_iff_ne.2 hn]
    rfl
  · rw [e']
    refine hpst.trans (if_neg ?_)
    rcases hr with hr | hr
    · rw [hr, Option.any_none, Bool.and_false]
      exact Bool.false_ne_true
    · rw [hr, Option.any_some, bne_self_eq_false, Bool.and_false]
      exact Bool.false_ne_true

theorem lat_map_range (f : Nat → W) {i n : Nat} (h : i < n) : lat ((List.range n).map f) i 0 = f i := by
  rw [lat, List.getElem?_map, List.getElem?_range h]
  rfl

theorem pairCmd_queued (h : mirrorTakes s = true) (m : Nat) (e : List W) : ∃ u k x, Does (.pairCmd m e) s u ∧
    u.kio.accepted = s.kio.accepted ++ [k] ∧ k.cmd = (lat e 0 0).bits 31 16 ∧
      k.tag = (lat e 0 0).extractLsb' 0 16 ∧ k.ring.val = (lat e 1 0).bits 31 30 ∧ k.mseq = some m ∧ k.applied = false ∧
      k.foreign = true ∧ u.prl.queue = s.prl.queue ++ [x] ∧ x.mseq = m ∧ x.apply = s.now + 2 ∧ x.applied = false ∧
      (∀ i, i < 16 → k.arg i = lat e i 0) ∧ u.kio.cq = s.kio.cq := by
  obtain ⟨p, hg, -, hq, -, -⟩ := mirrorGot_eq h m
  obtain ⟨u, p', hd, hu, hg', e'⟩ := pairCmd_taken h m e
  have hp : p' = p := congrArg State.prl (hg'.symm.trans hg)
  rw [hp] at e'
  refine ⟨u, mirrored m e s, ⟨m, false, (List.range 16).map fun i => lat e i 0, s.now + 2, none, false, none, none⟩, hu,
    by rw [e'], rfl, rfl, ?_, rfl, rfl, rfl, by rw [e', hq], rfl, rfl, rfl, fun i hi => lat_map_range _ hi, by rw [e']⟩
  exact Nat.mod_eq_of_lt (Nat.mod_lt _ (by decide))

theorem regw_queued (h : mirrorTakes s = true) (a : Nat) (ws : List W) : ∃ u x, Does (.regw a ws) s u ∧
    u.prl.queue = s.prl.queue ++ [x] ∧ x.isReg = true ∧ x.apply = s.now + 2 ∧
      x.words = BitVec.ofNat 32 a :: BitVec.ofNat 32 (4 * ws.length) :: ws ∧ u.kio = s.kio := by
  have hu : exec (.regw a ws) s = execRegw a ws s := rfl
  rw [execRegw, if_pos h] at hu
  exact ⟨_, _, hu, rfl, rfl, rfl, rfl, rfl⟩

/-! A mirrored item takes effect (R358, R359). -/

theorem mirror_early (h : s.prl.queue.find? (!·.applied) = none ∨ ∃ x, s.prl.queue.find? (!·.applied) = some x ∧ s.now < x.apply) :
    Does .mirrorApply s s := by
  have hn : mirrorNext s = s := by
    unfold mirrorNext
    rcases h with h | ⟨x, h, hlt⟩
    · rw [h]
    · rw [h]
      exact if_neg (by omega)
  have hu : Does .mirrorApply s (if mgpRuns s then mirrorNext s else s) := rfl
  rw [hn, ite_self] at hu
  exact hu

theorem mirror_due {x : Mirrored} (hr : mgpRuns s = true) (h : s.prl.queue.find? (!·.applied) = some x) (ht : x.apply ≤ s.now) :
    Does .mirrorApply s (mirrorOne x s) := by
  have hn : mirrorNext s = mirrorOne x s := by
    unfold mirrorNext
    rw [h]
    exact if_pos ht
  have hu : Does .mirrorApply s (if mgpRuns s then mirrorNext s else s) := rfl
  rw [hn, if_pos hr] at hu
  exact hu

theorem mirror_reg {x : Mirrored} (hr : mgpRuns s = true) (h : s.prl.queue.find? (!·.applied) = some x) (ht : x.apply ≤ s.now)
    (hx : x.isReg = true) : Does .mirrorApply s (regApply (lat x.words 0 0).toNat (lat x.words 1 0).toNat (x.words.drop 2)
      { s with prl := { s.prl with queue := s.prl.queue.filter (·.mseq != x.mseq) } }) := by
  have hu := mirror_due hr h ht
  rw [mirrorOne, if_pos hx] at hu
  exact hu

theorem mirror_gone {x : Mirrored} (hr : mgpRuns s = true) (h : s.prl.queue.find? (!·.applied) = some x) (ht : x.apply ≤ s.now)
    (hx : x.isReg = false) (hk : s.kio.accepted.find? (fun k => k.mseq == some x.mseq) = none) :
    Does .mirrorApply s { s with prl := { s.prl with queue := s.prl.queue.filter (·.mseq != x.mseq) } } := by
  have hu := mirror_due hr h ht
  rw [mirrorOne, if_neg (by rw [hx]; exact Bool.false_ne_true), hk] at hu
  exact hu

theorem mirror_nop {x : Mirrored} (hr : mgpRuns s = true) (h : s.prl.queue.find? (!·.applied) = some x) (ht : x.apply ≤ s.now)
    (hx : x.isReg = false) (hk : s.kio.accepted.find? (fun k => k.mseq == some x.mseq) = some k) (hf : k.foreign = true)
    (hc : k.cmd = 0x0001) : ∃ u, Does .mirrorApply s u ∧ u.prl.queue = s.prl.queue.filter (·.mseq != x.mseq) ∧
        ∃ k', k' ∈ u.kio.accepted ∧ k' = { k with applied := true } := by
  have hu := mirror_due hr h ht
  have hrun : ∀ v, runCmd { k with applied := true } v = v := fun v => by
    unfold runCmd
    dsimp only
    rw [hc]
    rfl
  rw [mirrorOne, if_neg (by rw [hx]; exact Bool.false_ne_true), hk] at hu
  dsimp only at hu
  rw [hrun, if_pos hf] at hu
  refine ⟨_, hu, rfl, _, ?_, rfl⟩
  refine List.mem_map.2 ⟨k, List.mem_of_find?_eq_some hk, if_pos ?_⟩
  simp only [sameCmd, beq_self_eq_true, Bool.and_self]

/-! The STATUS of a mirrored command (R359, R361). -/

/-- The completion of an accepted command of the LEAD. -/
theorem completed_kCpl (hq : k.mute = false) (ho : s.kio.isOpen = true) (hw : Memory.wf s.host = true) (st : Nat) (r0 r1 r2 : W) :
    Completed s (kCpl k st r0 r1 r2 (kDrop k s)) k st r0 r1 r2 :=
  completed_kEnd (k := { k with mseq := none }) (v := s) rfl hq ho hw rfl rfl rfl st r0 r1 r2

/-- Both devices have one status: the command completes with it. -/
theorem pairJudge_same (hq : k.mute = false) (ho : s.kio.isOpen = true) (hw : Memory.wf s.host = true) (st : BitVec 16) (r0 r1 r2 : W) :
    Completed s (pairJudge k (st, r0, r1, r2) (st, r0) s) k st.toNat r0 r1 r2 ∧
      (pairJudge k (st, r0, r1, r2) (st, r0) s).prl.pst = s.prl.pst := by
  have hc := completed_kCpl hq ho hw st.toNat r0 r1 r2
  have hp : (kCpl k st.toNat r0 r1 r2 (kDrop k s)).prl = s.prl := (occurs_kCpl ..).prl
  generalize hv : kCpl k st.toNat r0 r1 r2 (kDrop k s) = v at hc hp
  have e : pairJudge k (st, r0, r1, r2) (st, r0) s =
      { v with prl := { v.prl with queue := v.prl.queue.filter fun x => some x.mseq != k.mseq } } := by
    unfold pairJudge
    dsimp only
    rw [if_pos (by rw [decide_eq_true rfl, decide_eq_true rfl]; rfl), hv]
  rw [e]
  exact ⟨hc, (congrArg Prl.pst hp :)⟩

theorem startDispute_effect (h : s.prl.pst ≠ .dispute) : ∃ code, (startDispute s).prl.pst = .dispute ∧
    (startDispute s).prl.check = .running ∧ raised (startDispute s) 960 .uc code := by
  unfold startDispute
  rw [if_neg h]
  dsimp only
  generalize hw : prlEvt 3 _ = w
  obtain ⟨code, hr⟩ := raised_raiseC_uc (src := 960) (by decide) w 0x1FF 0xFFFF
  have hp : (pairRaise .uc w).prl = w.prl := State.raiseC_prl ..
  rw [hp]
  exact ⟨code, by rw [← hw]; rfl, by rw [← hw]; rfl, hr⟩

/-- The devices differ: a dispute starts (R361). -/
theorem pairJudge_differ {st st' : BitVec 16} {r0 q r1 r2 : W} (h : st' ≠ st ∨ q ≠ r0) (hp : s.prl.pst ≠ .dispute) :
    ∃ code, (pairJudge k (st', q, r1, r2) (st, r0) s).prl.pst = .dispute ∧
      (pairJudge k (st', q, r1, r2) (st, r0) s).prl.check = .running ∧
      raised (pairJudge k (st', q, r1, r2) (st, r0) s) 960 .uc code := by
  have hprl : (kCpl k st'.toNat q r1 r2 (kDrop k s)).prl = s.prl := (occurs_kCpl ..).prl
  generalize hv : kCpl k st'.toNat q r1 r2 (kDrop k s) = v at hprl
  have e : pairJudge k (st', q, r1, r2) (st, r0) s =
      startDispute { v with prl := { v.prl with queue := v.prl.queue.filter fun x => some x.mseq != k.mseq } } := by
    unfold pairJudge
    dsimp only
    rw [if_neg (by
      rw [Bool.and_eq_true, decide_eq_true_eq, decide_eq_true_eq]
      exact fun hn => h.elim (fun hs => hs hn.1) fun hr => hr hn.2), hv]
  rw [e]
  exact startDispute_effect (by rw [hprl]; exact hp)

/-- A STATUS of a mirrored command that stands in the queue and is the LEAD's own. -/
theorem pairStatus_found {m : Nat} {x : Mirrored} (hr : s.prl.role = .lead) (hf : pairFormed s = true)
    (hx : s.prl.queue.find? (·.mseq == m) = some x) (hk : s.kio.accepted.find? (fun k => k.mseq == some m && !k.foreign) = some k)
    (st : BitVec 16) (r0 : W) : Does (.pairStatus m st r0) s
      (if k.cmd = 0x0501 && (k.arg 3).bit 12 then pairJudge k (st, r0, 0, 0) (st, r0) s
      else match x.own with
        | some own => pairJudge k own (st, r0) s
        | none =>
          let s1 := { s with prl := { s.prl with queue := s.prl.queue.map fun y =>
            if y.mseq == m then { y with partner := some (st, r0) } else y } }
          if k.cmd = 0x0703 && s1.upe.coord then
            (if r0 = 0 then voteJudge { s1 with upe := { s1.upe with yes := s1.upe.yes ++ [partnerAddr s1] } }
             else updAbort r0.toNat 0 { s1 with upe := { s1.upe with no := s1.upe.no ++ [partnerAddr s1] } })
          else s1) := by
  have hu : exec (.pairStatus m st r0) s = done (if s.prl.role = .lead && pairFormed s then pairStatus m st r0 s else s) := rfl
  rw [if_pos (by rw [hr, hf]; rfl), pairStatus, hx, hk] at hu
  exact hu

section
variable {m : Nat} {x : Mirrored} {st : BitVec 16} {r0 : W}

theorem status_readmit (hr : s.prl.role = .lead) (hf : pairFormed s = true)
    (hx : s.prl.queue.find? (·.mseq == m) = some x) (hk : s.kio.accepted.find? (fun k => k.mseq == some m && !k.foreign) = some k)
    (hq : k.mute = false) (hc : k.cmd = 0x0501) (hb : (k.arg 3).bit 12 = true) (ho : s.kio.isOpen = true) (hw : Memory.wf s.host = true) :
    ∃ u, Does (.pairStatus m st r0) s u ∧ Completed s u k st.toNat r0 0 0 ∧ u.prl.pst = s.prl.pst := by
  have hu := pairStatus_found hr hf hx hk st r0
  rw [if_pos (by rw [hc, hb]; rfl)] at hu
  exact ⟨_, hu, pairJudge_same hq ho hw st r0 0 0⟩

/-- The STATUS of another command, by what the LEAD's own status is. -/
theorem status_other (hr : s.prl.role = .lead) (hf : pairFormed s = true)
    (hx : s.prl.queue.find? (·.mseq == m) = some x) (hk : s.kio.accepted.find? (fun k => k.mseq == some m && !k.foreign) = some k)
    (hq : k.mute = false) (hc : k.cmd ≠ 0x0501 ∨ (k.arg 3).bit 12 = false) :
    (∀ r1 r2, x.own = some (st, r0, r1, r2) → s.kio.isOpen = true → Memory.wf s.host = true →
      ∃ u, Does (.pairStatus m st r0) s u ∧ Completed s u k st.toNat r0 r1 r2 ∧ u.prl.pst = s.prl.pst) ∧
    (∀ st' q r1 r2, x.own = some (st', q, r1, r2) → st' ≠ st ∨ q ≠ r0 → s.prl.pst ≠ .dispute →
      ∃ u code, Does (.pairStatus m st r0) s u ∧ u.prl.pst = .dispute ∧ u.prl.check = .running ∧ raised u 960 .uc code) ∧
    (x.own = none → k.cmd ≠ 0x0703 ∨ s.upe.coord = false → ∃ u, Does (.pairStatus m st r0) s u ∧ u.kio = s.kio ∧ u.fcr = s.fcr ∧
      u.prl.queue = s.prl.queue.map fun y => if y.mseq == m then { y with partner := some (st, r0) } else y) ∧
    (x.own = none → k.cmd = 0x0703 → s.upe.coord = true → updOpen s.upe.phase = true → r0 ≠ 0 → ∃ u,
      Does (.pairStatus m st r0) s u ∧ u.upe.phase = .verified ∧ raised u 982 .uc (0x0A00 + r0.toNat)) := by
  have hu := pairStatus_found hr hf hx hk st r0
  rw [if_neg (by
    rw [Bool.and_eq_true, decide_eq_true_eq]
    exact fun hn => hc.elim (fun h => h hn.1) fun h => Bool.false_ne_true (h.symm.trans hn.2))] at hu
  refine ⟨fun r1 r2 how ho hw => ?_, fun st' q r1 r2 how hne hp => ?_, fun how hn => ?_, fun how h3 hcoord hop hne => ?_⟩
  · rw [how] at hu
    exact ⟨_, hu, pairJudge_same hq ho hw st r0 r1 r2⟩
  · rw [how] at hu
    obtain ⟨code, h⟩ := pairJudge_differ (k := k) (r1 := r1) (r2 := r2) hne hp
    exact ⟨_, code, hu, h⟩
  · rw [how] at hu
    dsimp only at hu
    rw [if_neg (by
      rw [Bool.and_eq_true, decide_eq_true_eq]
      exact fun h => hn.elim (fun hn => hn h.1) fun hn => Bool.false_ne_true (hn.symm.trans h.2))] at hu
    exact ⟨_, hu, rfl, rfl, rfl⟩
  · rw [how] at hu
    dsimp only at hu
    rw [if_pos (by rw [h3, hcoord]; rfl), if_neg hne] at hu
    obtain ⟨v, hv, hvp⟩ : ∃ v : State, v = { s with
        prl := { s.prl with queue := s.prl.queue.map fun y => if y.mseq == m then { y with partner := some (st, r0) } else y }
        upe := { s.upe with no := s.upe.no ++ [partnerAddr { s with prl := { s.prl with queue := s.prl.queue.map fun y =>
          if y.mseq == m then { y with partner := some (st, r0) } else y } }] } } ∧ updOpen v.upe.phase = true := ⟨_, rfl, hop⟩
    rw [← hv] at hu
    obtain ⟨e, hr⟩ := updAbortR_effect hvp r0.toNat 0 0
    exact ⟨_, hu, by rw [updAbort, e]; rfl, hr⟩

end

/-! PLAN, NAK and NVVAL (R131, R356, R362). -/

theorem plan_taken (e : Nat) : (pairFormed s = true → Does (.plan e) s { s with prl := { s.prl with planEpoch := some e } }) ∧
    (pairFormed s = false → Does (.plan e) s s) := by
  have hu : Does (.plan e) s (if pairFormed s then { s with prl := { s.prl with planEpoch := some e } } else s) := rfl
  refine ⟨fun h => ?_, fun h => ?_⟩
  · rw [if_pos h] at hu
    exact hu
  · rw [if_neg (by rw [h]; exact Bool.false_ne_true)] at hu
    exact hu

theorem nak_taken (kind seq : BitVec 8) :
    (s.prl.link = .up → kind ≠ 0x02 → kind ≠ 0x03 → Does (.pairNak kind seq) s
      { s with prl := { s.prl with resend := s.prl.resend ++ [(kind, seq)] } }) ∧
    (s.prl.link ≠ .up ∨ kind = 0x02 ∨ kind = 0x03 → Does (.pairNak kind seq) s s) := by
  have hu : Does (.pairNak kind seq) s (if s.prl.link = .up && kind != 0x02 && kind != 0x03
    then { s with prl := { s.prl with resend := s.prl.resend ++ [(kind, seq)] } } else s) := rfl
  refine ⟨fun hl h2 h3 => ?_, fun h => ?_⟩
  · rw [if_pos (by rw [decide_eq_true hl, bne_iff_ne.2 h2, bne_iff_ne.2 h3]; rfl)] at hu
    exact hu
  · rw [if_neg (by
      rw [Bool.and_eq_true, Bool.and_eq_true, decide_eq_true_eq, bne_iff_ne, bne_iff_ne]
      rintro ⟨⟨hl, h2⟩, h3⟩
      exact h.elim (fun h => h hl) fun h => h.elim h2 h3)] at hu
    exact hu

theorem nvval_taken (id : BitVec 16) (ws : List W) :
    (s.prl.role = .standby → pairFormed s = true → Does (.nvval id ws) s
      { s with prl := { s.prl with nvval := s.prl.nvval.filter (·.1 != id) ++ [(id, ws)] } }) ∧
    (s.prl.role ≠ .standby ∨ pairFormed s = false → Does (.nvval id ws) s s) := by
  have hu : Does (.nvval id ws) s (if s.prl.role = .standby && pairFormed s then
    { s with prl := { s.prl with nvval := s.prl.nvval.filter (·.1 != id) ++ [(id, ws)] } } else s) := rfl
  refine ⟨fun hr hf => ?_, fun h => ?_⟩
  · rw [if_pos (by rw [decide_eq_true hr, hf]; rfl)] at hu
    exact hu
  · rw [if_neg (by
      rw [Bool.and_eq_true, decide_eq_true_eq]
      exact fun hn => h.elim (fun h => h hn.1) fun h => Bool.false_ne_true (h.symm.trans hn.2))] at hu
    exact hu

/-! The image, the copy and the handoff of a RESYNC (R371). -/

theorem not_resync (h : inResync s = false) : (∀ ws, Does (.image ws) s s) ∧ (∀ it, Does (.copy it) s s ∧ Does (.pairLog it) s s) ∧
    ∀ t r ws cs rs, Does (.handoff t r ws cs rs) s s := by
  have hn : ¬ inResync s = true := by rw [h]; exact Bool.false_ne_true
  refine ⟨fun ws => does_kept (i := .image ws) rfl (by rw [h]; exact Bool.false_ne_true), fun it =>
    ⟨does_kept (i := .copy it) rfl hn, does_kept (i := .pairLog it) rfl hn⟩, fun t r ws cs rs => does_kept (i := .handoff t r ws cs rs) rfl hn⟩

theorem image_starts (h : inResync s = true) (ws : List W) (ha : s.adm.run = none) :
    ∃ u run, Does (.image ws) s u ∧ u.adm.run = some run ∧ run.start = s.now ∧ u.adm.st = 1 := by
  have hu : Does (.image ws) s (if inResync s && s.adm.run.isNone then admStart none ws s else s) := rfl
  rw [if_pos (by rw [h, ha]; rfl)] at hu
  have hask : ∀ g v, (askGrant g v).adm = v.adm := fun g v => by
    unfold askGrant
    split
    · rfl
    · rfl
  have hheld : ∀ crc, (partnerHolds crc s).now = s.now := fun crc => by
    unfold partnerHolds
    split
    · rfl
    · rfl
  obtain ⟨run, h1, h2, h3⟩ : ∃ run, (admStart none ws s).adm.run = some run ∧
      run.start = (partnerHolds (candOf ws s.adm.img).img.crc s).now ∧ (admStart none ws s).adm.st = 1 := by
    unfold admStart
    dsimp only
    rw [hask]
    exact ⟨_, rfl, rfl, rfl⟩
  exact ⟨_, run, hu, h1, h2.trans (hheld _), h3⟩

theorem copy_taken (h : inResync s = true) (it : CopyItem) : Does (.copy it) s (copyItem it s) ∧ Does (.pairLog it) s (copyItem it s) := by
  have hu : Does (.copy it) s (if inResync s then copyItem it s else s) := rfl
  have hu' : Does (.pairLog it) s (if inResync s then copyItem it s else s) := rfl
  rw [if_pos h] at hu hu'
  exact ⟨hu, hu'⟩

theorem copy_shared (h : inResync s = true) (a : Nat) (ws : List W) (hw : Memory.wf s.shared = true) :
    ∃ u, Does (.copy (.shared a ws)) s u ∧ Memory.readWs u.shared (4 * a) ws.length = ws ∧
      ∀ b, b < 4 * a ∨ 4 * (a + ws.length) ≤ b → Memory.read u.shared b = Memory.read s.shared b :=
  ⟨_, (copy_taken h _).1, Memory.readWs_writeWs _ _ hw, fun b hb => Memory.read_writeWs_ne _ _ _ hw (by omega)⟩

theorem copy_check (h : inResync s = true) (c : Ctx) (i : Fin 4) (n : Nat) :
    ∃ u, Does (.pairLog (.check c i n)) s u ∧ vat (u.cx c.val).chk i.val 0 = n ∧ u.shared = s.shared := by
  refine ⟨_, (copy_taken h _).2, ?_, rfl⟩
  unfold copyItem
  dsimp only
  rw [State.modCx_cx_val]
  exact vat_vput_self _ i.isLt _ _

/-- A state in which CONVERGE runs, after a handoff. -/
def converging (s : State) : State :=
  if s.prl.converge then s else { s with prl := { s.prl with converge := true, halted := false, copyEnd := s.now, equalRun := 0 } }

theorem converging_effect (s : State) : (converging s).ctx = s.ctx ∧ (converging s).chan = s.chan ∧ (converging s).prl.converge = true := by
  unfold converging
  split
  next h => exact ⟨rfl, rfl, h⟩
  · exact ⟨rfl, rfl, rfl⟩

/-- A context loaded from a handoff (R371). -/
def handedIn (t : Task) (ws : List W) (cs rs : List Nat) (x : Context) : Context :=
  { loadMirror t ws x with
    chk := Vector.ofFn fun i => lat cs i.val 0
    t0 := { (loadMirror t ws x).t0 with n := lat rs 0 (loadMirror t ws x).t0.n }
    t1 := { (loadMirror t ws x).t1 with n := lat rs 1 (loadMirror t ws x).t1.n } }

theorem handoff_eq {t : BitVec 16} {c : Nat} {tk : Task} (h : inResync s = true) (hc : ctxOf s t.toNat = some c)
    (ht : taskNo s t.toNat = some tk) (r : BitVec 48) (ws : List W) (cs rs : List Nat) : Does (.handoff t r ws cs rs) s
      (if (s.cx c).rel.isSome || (s.cx c).wait.isSome || tickOf48 s.now r + relPeriod tk < s.now ||
          (s.cx c).lastTick = some (tickOf48 s.now r + relPeriod tk) then converging s
       else { (converging s).modCx c (handedIn tk ws cs rs) with prl := { (converging s).prl with handNext := t.toNat + 1 } }) := by
  have hu : exec (.handoff t r ws cs rs) s = done (if inResync s then handoff t r ws cs rs s else s) := rfl
  rw [if_pos h, handoff, hc, ht] at hu
  exact hu

theorem handoff_late {t : BitVec 16} {c : Nat} {tk : Task} (h : inResync s = true) (hc : ctxOf s t.toNat = some c)
    (ht : taskNo s t.toNat = some tk) (r : BitVec 48) (ws : List W) (cs rs : List Nat)
    (hl : (s.cx c).rel.isSome = true ∨ tickOf48 s.now r + relPeriod tk < s.now) :
    ∃ u, Does (.handoff t r ws cs rs) s u ∧ u.ctx = s.ctx ∧ u.prl.converge = true := by
  have hu := handoff_eq h hc ht r ws cs rs
  rw [if_pos (by rcases hl with hl | hl <;> simp [hl])] at hu
  obtain ⟨h1, -, h3⟩ := converging_effect s
  exact ⟨_, hu, h1, h3⟩

theorem handoff_loaded {t : BitVec 16} {c : Nat} {tk : Task} (h : inResync s = true) (hc : ctxOf s t.toNat = some c) (hlt : c < 512)
    (ht : taskNo s t.toNat = some tk) (r : BitVec 48) (ws : List W) (cs rs : List Nat)
    (hr : (s.cx c).rel = none) (hwt : (s.cx c).wait = none) (hn : s.now ≤ tickOf48 s.now r + relPeriod tk)
    (hl : (s.cx c).lastTick ≠ some (tickOf48 s.now r + relPeriod tk)) :
    ∃ u, Does (.handoff t r ws cs rs) s u ∧ u.prl.converge = true ∧ u.prl.handNext = t.toNat + 1 ∧
      (∀ i, 0 < i → i < 32 → vat (u.cx c).regs i 0 = lat ws (i - 1) 0) ∧
      (∀ i, i < 4 → vat (u.cx c).chk i 0 = lat cs i 0) ∧ u.chan = s.chan := by
  have hu := handoff_eq h hc ht r ws cs rs
  rw [if_neg (by simp [hr, hwt, hl, Nat.not_lt.2 hn])] at hu
  obtain ⟨-, h2, h3⟩ := converging_effect s
  have hcx := State.modCx_cx_self (converging s) hlt (handedIn tk ws cs rs)
  refine ⟨_, hu, h3, rfl, fun i h0 hi => ?_, fun i hi => ?_, h2⟩
  · change vat (((converging s).modCx c (handedIn tk ws cs rs)).cx c).regs i 0 = _
    rw [hcx]
    simp [handedIn, loadMirror, vat, hi, Nat.ne_of_gt h0]
  · change vat (((converging s).modCx c (handedIn tk ws cs rs)).cx c).chk i 0 = _
    rw [hcx]
    simp [handedIn, vat, hi]

end

/-- Settles O60. -/
theorem pairMessages : Obligations.PairMessages := fun s =>
  ⟨mirror_refused, fun h =>
    ⟨fun m e n hp hr hn => (pairCmd_seq h m e).1 n hp hr hn, fun m e hr => (pairCmd_seq h m e).2 hr, fun m e => pairCmd_queued h m e,
      fun a ws => regw_queued h a ws⟩,
    fun hr => ⟨mirror_early, fun _ h ht hx => mirror_reg hr h ht hx, fun _ h ht hx hk => mirror_gone hr h ht hx hk,
      fun _ _ h ht hx hk hf hc => mirror_nop hr h ht hx hk hf hc⟩,
    fun h m st r0 => does_kept (i := .pairStatus m st r0) rfl (by
      rw [Bool.and_eq_true, decide_eq_true_eq]
      exact fun hn => h.elim (fun h => h hn.1) fun h => Bool.false_ne_true (h.symm.trans hn.2)),
    fun m st r0 x k hr hf hx hk hq =>
      ⟨fun hc hb ho hw => status_readmit hr hf hx hk hq hc hb ho hw, fun hc => status_other hr hf hx hk hq hc⟩,
    plan_taken, nak_taken, nvval_taken, not_resync, fun h =>
      ⟨fun ws ha => image_starts h ws ha, fun ws ha => does_kept (i := .image ws) rfl (by
          obtain ⟨run, hrun⟩ := Option.isSome_iff_exists.1 ha
          rw [hrun, Option.isNone_some, Bool.and_false]
          exact Bool.false_ne_true),
        fun it => copy_taken h it, fun a ws hw => copy_shared h a ws hw, fun c i n => copy_check h c i n,
        fun t r ws cs rs c tk hc hlt ht =>
          ⟨fun hr => handoff_late h hc ht r ws cs rs (.inl hr), fun hn => handoff_late h hc ht r ws cs rs (.inr hn),
            fun hr hw hn hl => handoff_loaded h hc hlt ht r ws cs rs hr hw hn hl⟩⟩⟩

end Sys2Proof.Claims
end

section
/-!
PROOF. The service of a sequence (R141, R160, R161): what the phases of a service leave, and what the transitions of Table 7.4 make of
the states OFF, UP, ON and LOCKED.
-/
namespace Sys2Proof.Claims
open Sys2Proof Sys2Proof.Machine

section
variable {s u v : State} {c : Ctx} {t : Task}

/-- From `s` to `u` the clock stands, the sequence of context `c` counts as served as before, and no release begins there. -/
structure Serves (c : Ctx) (s u : State) : Prop where
  clk : u.clk = s.clk
  served : (seqOf u c.val).served = (seqOf s c.val).served
  idle : (s.cx c.val).rel = none → (u.cx c.val).rel = none

theorem Serves.refl (s : State) : Serves c s s := ⟨rfl, rfl, id⟩
theorem Serves.trans (h : Serves c s u) (h' : Serves c u v) : Serves c s v :=
  ⟨h'.clk.trans h.clk, h'.served.trans h.served, fun hi => h'.idle (h.idle hi)⟩
theorem Serves.ite {p : Prop} [Decidable p] (h : Serves c s u) (h' : Serves c s v) : Serves c s (if p then u else v) := by
  split
  · exact h
  · exact h'
theorem Serves.foldl {α : Type} {f : State → α → State} (hf : ∀ s a, Serves c s (f s a)) (l : List α) (s : State) :
    Serves c s (l.foldl f s) := by
  induction l generalizing s with
  | nil => exact .refl s
  | cons a l ih => exact (hf s a).trans (ih (f s a))

theorem serves_of (hk : u.clk = s.clk) (hx : u.ctx = s.ctx) : Serves c s u := by
  refine ⟨hk, ?_, ?_⟩
  · rw [seqOf, seqOf, State.cx, State.cx, hx]
  · rw [State.cx, State.cx, hx]
    exact id

theorem serves_modSeq (f : SeqRec → SeqRec) (s : State) (hf : ∀ q, (f q).served = q.served) : Serves c s (modSeq c.val f s) := by
  refine ⟨rfl, ?_, ?_⟩
  · rw [seqOf_modSeq, hf]
  · rw [modSeq, State.modCx_cx_val]
    exact id

theorem serves_parmPut (a : Nat) (x : W) (s : State) : Serves c s (parmPut t a x s) := serves_of rfl rfl
theorem serves_seqSync (s : State) : Serves c s (seqSync c.val t s) := serves_of rfl rfl
theorem serves_seqWord0 (req ok pres : Bool) (s : State) : Serves c s (seqWord0 c.val t req ok pres s) := serves_of rfl rfl
theorem serves_modRail (i : Nat) (f : Rail → Rail) (s : State) : Serves c s (modRail c.val i f s) := serves_modSeq _ s fun _ => rfl
theorem serves_raiseC (src : Nat) (cls : EvClass) (x n : Nat) (s : State) : Serves c s (s.raiseC src cls x n) :=
  serves_of (State.raiseC_clk ..) (State.raiseC_ctx ..)

theorem serves_counterAsk (id : BitVec 16) (s : State) : Serves c s (counterAsk id s) := by
  obtain ⟨n, e⟩ := counterAsk_eq id s
  rw [e]
  exact serves_of rfl rfl

theorem serves_refPut (i : Nat) (x : W) (s : State) : Serves c s (refPut t i x s) := by
  unfold refPut
  split
  · exact serves_of rfl rfl
  · exact .refl s

theorem serves_seqSet (st : SeqSt) (mark : Nat) (s : State) : Serves c s (seqSet c.val t st mark s) := by
  obtain ⟨b, j, e⟩ := seqSet_eq c.val t st mark s
  rw [e]
  exact (serves_modSeq (entered st) s fun _ => rfl).trans (serves_of rfl rfl)

theorem serves_faultReact (cause : Nat) (rail : Option Nat) (jaddr : Nat) (s : State) :
    Serves c s (faultReact c.val t cause rail jaddr s) := by
  have hend : ∀ v : State, Serves c v ((modSeq c.val (fun q => { q with
      unwFault := true, runs := false, unwLeft := 0, rails := q.rails.map fun x => { x with ramp := none } })
        (seqSet c.val t .unwind 0xFF v)).modCx c.val fun x => { x with rel := none }) := fun v => by
    have h := (serves_seqSet (c := c) (t := t) .unwind 0xFF v).trans (serves_modSeq (fun q => { q with
      unwFault := true, runs := false, unwLeft := 0, rails := q.rails.map fun x => { x with ramp := none } }) _ fun _ => rfl)
    refine ⟨h.clk, ?_, fun _ => ?_⟩
    · rw [← h.served, seqOf, State.modCx_cx_val]
      rfl
    · rw [State.modCx_cx_val]
  have hsnap : ∀ v : State, Serves c v (snapshot c.val t v) := fun v => serves_of rfl rfl
  unfold faultReact
  dsimp only
  refine Serves.trans ?_ (hend _)
  refine (serves_parmPut (t := t) 1 (faultWord cause (seqCode (seqOf s c.val).st) (rail.getD 0xFF) jaddr) s).trans ((hsnap _).trans ?_)
  cases rail with
  | some i => exact (serves_counterAsk ..).trans (serves_raiseC ..)
  | none => exact serves_raiseC ..

/-! Device work (R160). -/

theorem serves_railFilter (s : State) (i : Nat) : Serves c s (railFilter c.val t s i) := by
  unfold railFilter
  exact .ite (serves_modRail ..) (.refl s)

theorem serves_railRamp (s : State) (i : Nat) : Serves c s (railRamp c.val t s i) := by
  unfold railRamp
  split
  · exact .refl s
  · exact .ite ((serves_refPut ..).trans (serves_modRail ..)) (serves_refPut ..)

theorem serves_supplyWork (s : State) : Serves c s (supplyWork c.val t s) := by
  unfold supplyWork
  refine .ite ?_ (serves_seqWord0 ..)
  extract_lets w4 w5 w6 v pres s1 q ok
  have h1 : Serves c s s1 := serves_modSeq _ s fun _ => rfl
  exact h1.trans (serves_seqWord0 ..)

theorem serves_unwindWork (s : State) : Serves c s (unwindWork c.val t s) := by
  have hdis : ∀ i v, Serves c v (railDisable c.val t i v) := fun i v => by
    unfold railDisable
    extract_lets s1 s2
    have h2 : Serves c v s2 := serves_of rfl rfl
    exact h2.trans ((serves_modRail ..).trans (serves_refPut ..))
  have h1 := serves_modSeq (c := c) (fun q => { q with unwLeft := q.unwLeft - 1 }) s fun _ => rfl
  unfold unwindWork
  refine .ite ?_ (.refl s)
  dsimp only
  refine .ite ?_ h1
  split
  · exact h1.trans ((hdis _ _).trans (serves_modSeq _ _ fun _ => rfl))
  · exact h1

theorem serves_railWarn (i : Nat) (s : State) : Serves c s (railWarn c.val t i s) := by
  unfold railWarn
  exact .ite (.refl s) ((serves_modRail ..).trans ((serves_counterAsk ..).trans (serves_raiseC ..)))

theorem serves_superviseWork (s : State) : Serves c s (superviseWork c.val t s) := by
  unfold superviseWork
  refine .foldl (fun v i => .ite ?_ (.refl v)) _ s
  split
  · exact serves_faultReact ..
  · exact serves_railWarn ..
  · exact .refl v

theorem serves_countWork (s : State) : Serves c s (countWork c.val t s) := by
  unfold countWork
  extract_lets s1
  have h1 : Serves c s s1 := serves_modSeq _ s fun _ => rfl
  exact h1.trans (serves_seqSync s1)

theorem serves_deviceWork (s : State) : Serves c s (deviceWork c.val t s) := by
  have h1 := serves_supplyWork (c := c) (t := t) s
  unfold deviceWork
  dsimp only
  exact (((h1.trans (.ite (.refl _) (.foldl serves_railFilter _ _))).trans (.foldl serves_railRamp _ _)).trans
    (serves_unwindWork _)).trans ((serves_countWork _).trans (serves_superviseWork _))

/-! The rows of Table 7.4 (R161). -/

theorem serves_seqEntry (e : Nat) (s : State) : Serves c s (seqEntry c.val e s) := serves_modSeq _ s fun _ => rfl
theorem serves_seqUp (s : State) : Serves c s (seqUp c.val t s) := (serves_seqSet ..).trans (serves_seqEntry ..)
theorem serves_seqOffClear (s : State) : Serves c s (seqOffClear c.val t s) := by
  have h := serves_modSeq (c := c) (fun q => { q with retries := 0, runs := false }) (seqSet c.val t .off 0xFF s) fun _ => rfl
  exact (serves_seqSet ..).trans (h.trans (serves_seqSync _))

theorem serves_unwindEnd (s : State) : Serves c s (unwindEnd c.val t s) := by
  unfold unwindEnd
  exact .ite (.ite ((serves_seqSet ..).trans (serves_seqEntry ..)) (serves_seqOffClear s)) (.refl s)

theorem serves_seqRows (s : State) : Serves c s (seqRows c.val t s) := by
  have then_ : ∀ {p : Prop} [Decidable p] {v w : State}, Serves c s v → Serves c v w → Serves c s (if p then w else v) :=
    fun h h' => .ite (h.trans h') h
  unfold seqRows
  extract_lets st tgt s2 s3 s5 s6 s9 s12 s13 s14
  have h2 : Serves c s s2 := then_ (.refl s) ((serves_seqSet ..).trans (serves_modSeq _ _ fun _ => rfl))
  have h3 : Serves c s s3 := then_ h2 ((serves_seqSet ..).trans (serves_seqEntry ..))
  have h5 : Serves c s s5 := then_ h3 ((serves_seqSet ..).trans (serves_modSeq _ _ fun _ => rfl))
  have h6 : Serves c s s6 := then_ h5 (serves_seqUp _)
  have h9 : Serves c s s9 := h6.trans (serves_unwindEnd _)
  have h12 : Serves c s s12 := then_ h9 (serves_seqOffClear _)
  have h13 : Serves c s s13 := then_ h12 (serves_seqUp _)
  have h14 : Serves c s s14 := then_ h13 (serves_seqOffClear _)
  exact then_ h14 (serves_seqUp _)

theorem serves_changeOver (s : State) : Serves c s (changeOver c.val t s) := by
  have hover : ∀ (v : State) (b : Bool) (q : SeqRec), (overSeq v t b q).served = q.served := fun v b q => by
    unfold overSeq
    split
    · rfl
    · rfl
    · rfl
    · rfl
  have hput : ∀ (v : State) (f : Context → Context), (∀ x, (f x).seq.served = x.seq.served) → (∀ x, (f x).rel = x.rel) →
      Serves c v (v.modCx c.val f) := fun v f h1 h2 => by
    refine ⟨rfl, ?_, fun hi => ?_⟩
    · rw [seqOf, State.modCx_cx_val, h1]
      rfl
    · rw [State.modCx_cx_val, h2]
      exact hi
  unfold changeOver
  dsimp only
  split
  · refine Serves.trans ?_ (hput _ _ (fun x => hover _ _ _) fun _ => rfl)
    exact serves_of rfl rfl
  · split
    · refine .ite (.refl s) ?_
      refine Serves.trans ?_ (hput _ _ (fun x => hover _ _ _) fun _ => rfl)
      exact serves_of rfl rfl
    · exact .refl s
  · exact .refl s

/-! The service as a whole (R141, R160). -/

/-- A program that had not finished its step yields. -/
theorem seqYield_serves (pc : Nat) (s : State) : Serves c s (seqYield c.val pc s) ∧ ((seqYield c.val pc s).cx c.val).rel = none := by
  unfold seqYield
  split
  next h => exact ⟨.refl s, h⟩
  next r h =>
    extract_lets e ws s0 p s1
    have h0 : s0.clk = s.clk ∧ s0.ctx = s.ctx := by
      refine ⟨(State.modStat_clk ..).trans (State.modEng_clk ..), ?_⟩
      exact (State.modStat_ctx ..).trans (State.modEng_ctx ..)
    have hcx := State.modCx_cx_val s1 c fun x => { x with rel := none, seq := { x.seq with resume := pc, calls := r.calls } }
    have h1 : s1.cx c.val = s.cx c.val := by rw [State.cx, State.cx, ← h0.2]
    refine ⟨⟨h0.1, ?_, fun _ => by rw [hcx]⟩, by rw [hcx]⟩
    rw [seqOf, seqOf, hcx, h1]

/-- The state of a service before the program resumes. -/
def servedState (c : Nat) (t : Task) (s : State) : State :=
  seqRows c t (deviceWork c t (changeOver c t (match (s.cx c).rel with
    | some r => seqYield c r.pc s
    | none => s)))

theorem seqService_eq (c : Nat) (t : Task) (s : State) : seqService c t s =
    if seqRuns (seqOf (servedState c t s) c).st && (seqOf (servedState c t s) c).runs then seqStart c t (servedState c t s)
    else servedState c t s := rfl

theorem serves_servedState (s : State) : Serves c s (servedState c.val t s) ∧ ((servedState c.val t s).cx c.val).rel = none := by
  obtain ⟨v, hv, hs, hi⟩ : ∃ v, servedState c.val t s = seqRows c.val t (deviceWork c.val t (changeOver c.val t v)) ∧ Serves c s v ∧
      (v.cx c.val).rel = none := by
    refine ⟨_, rfl, ?_⟩
    split
    · exact seqYield_serves _ s
    next h => exact ⟨.refl s, h⟩
  have h := ((serves_changeOver (c := c) (t := t) v).trans (serves_deviceWork (t := t) _)).trans (serves_seqRows (t := t) _)
  rw [hv]
  exact ⟨hs.trans h, h.idle hi⟩

theorem seqService_effect (s : State) : let u := seqService c.val t s
    u.clk = s.clk ∧ (seqOf u c.val).served = (seqOf s c.val).served ∧
      (u.cx c.val).rel.isSome = (seqRuns (seqOf u c.val).st && (seqOf u c.val).runs) ∧
      ∀ r, (u.cx c.val).rel = some r → r.pc = (seqOf u c.val).resume ∧ r.calls = (seqOf u c.val).calls ∧ r.tick = s.now ∧
        r.cyc = 0 ∧ (u.cx c.val).reason = 0 := by
  obtain ⟨hs, hi⟩ := serves_servedState (c := c) (t := t) s
  have hnow : (servedState c.val t s).now = s.now := congrArg (fun k : Clk => k.ts.toNat / 50) hs.clk
  rw [seqService_eq]
  generalize servedState c.val t s = w at hs hi hnow
  dsimp only
  by_cases hr : (seqRuns (seqOf w c.val).st && (seqOf w c.val).runs) = true
  · rw [if_pos hr]
    have hcx : (seqStart c.val t w).cx c.val = { w.cx c.val with stat := seqStat w c.val t, reason := 0, rel := some (seqRel w c.val t) } :=
      State.modCx_cx_val w c _
    have hseq : seqOf (seqStart c.val t w) c.val = seqOf w c.val := by rw [seqOf, hcx]; rfl
    rw [hseq, hcx, hr]
    refine ⟨hs.clk, hs.served, rfl, fun r h => ?_⟩
    obtain rfl := Option.some.inj h
    exact ⟨rfl, rfl, hnow, rfl, rfl⟩
  · rw [if_neg hr, hi]
    exact ⟨hs.clk, hs.served, (Bool.eq_false_iff.2 hr).symm, fun r h => by contradiction⟩

end
end Sys2Proof.Claims
end

section
/-!
PROOF. What a service makes of the states OFF, UP, ON and LOCKED (Table 7.4) when no supply is used, no rail ramps and none is
supervised: the device work leaves the request, and the row that the request asks for is taken.
-/
namespace Sys2Proof.Claims
open Sys2Proof Sys2Proof.Machine

section
variable {s u v : State} {c : Ctx} {t : Task}

theorem vat_vmod_kept {α β : Type} {n : Nat} (x : Vector α n) (i j : Nat) {f : α → α} (d : α) (g : α → β) (hf : ∀ a, g (f a) = g a) :
    g (vat (vmod x i f) j d) = g (vat x j d) := by
  by_cases hij : i = j
  · subst hij
    by_cases hi : i < n
    · rw [vat_vmod_self _ hi, hf]
    · rw [vmod, dif_neg hi]
  · rw [vat_vmod_ne _ hij]

/-! The device work (R160). -/

/-- From `s` to `u` the shared memory and the sequence's record stand but for the rails, whose ramps stand. -/
structure Filtered (c : Ctx) (s u : State) : Prop where
  shared : u.shared = s.shared
  seq : seqOf u c.val = { seqOf s c.val with rails := (seqOf u c.val).rails }
  ramp : ∀ i, (railOf u c.val i).ramp = (railOf s c.val i).ramp

theorem Filtered.refl (s : State) : Filtered c s s := ⟨rfl, rfl, fun _ => rfl⟩
theorem Filtered.trans (h : Filtered c s u) (h' : Filtered c u v) : Filtered c s v := by
  refine ⟨h'.shared.trans h.shared, ?_, fun i => (h'.ramp i).trans (h.ramp i)⟩
  rw [h'.seq, h.seq]

theorem filtered_railFilter (s : State) (i : Nat) : Filtered c s (railFilter c.val t s i) := by
  unfold railFilter
  split
  · refine ⟨rfl, ?_, fun j => ?_⟩
    · rw [modRail, seqOf_modSeq]
    · rw [modRail, railOf, seqOf_modSeq]
      refine vat_vmod_kept _ i j Rail.init Rail.ramp fun x => ?_
      dsimp only
      split
      · split
        · rfl
        · rfl
      · split
        · rfl
        · rfl
  · exact .refl s

theorem filtered_rails (l : List Nat) (s : State) : Filtered c s (l.foldl (railFilter c.val t) s) := by
  induction l generalizing s with
  | nil => exact .refl s
  | cons i l ih => exact (filtered_railFilter s i).trans (ih _)

theorem railRamp_none (h : ∀ i, (railOf s c.val i).ramp = none) (i : Nat) : railRamp c.val t s i = s := by
  rw [railRamp, h i]

/-- The counters of a step (R160). -/
def stepCounts (q : SeqRec) : SeqRec := { q with
  onSteps := if q.st = .on then q.onSteps + 1 else 0
  retryLeft := if q.st = .retryWait then q.retryLeft - 1 else q.retryLeft
  timer := if q.wait = .none then q.timer else q.timer + 1
  retries := if q.st = .on && q.onSteps + 1 ≥ 100000 then 0 else q.retries }

theorem countWork_eq (s : State) : countWork c.val t s = seqSync c.val t (modSeq c.val stepCounts s) := rfl

/-- Nothing is supervised where no rail asks for it. -/
theorem superviseWork_none (h : ∀ i, i < t.chans.length → (railWord s t i 0).bit 0 = false) : superviseWork c.val t s = s := by
  refine foldl_fixed _ fun i hi => if_neg ?_
  rw [h i (List.mem_range.1 hi), Bool.and_false, Bool.false_and]
  exact Bool.false_ne_true

/-- What device work leaves when no supply is used, no rail ramps, none is supervised and nothing unwinds. -/
structure Worked (c : Ctx) (t : Task) (s u : State) : Prop where
  wf : Memory.wf u.shared = true
  seq : ∃ x, seqOf u c.val = { stepCounts (seqOf s c.val) with rails := x }
  req : seqReqOn u t = seqReqOn s t
  ok : seqSupOk u t = true
  parm : ∀ a, a ≠ 0 → parm u t a = parm s t a

theorem deviceWork_worked (hm : Memory.wf s.shared = true) (hsup : seqSupUsed s t = false)
    (hramp : ∀ i, (railOf s c.val i).ramp = none) (hsee : ∀ i, i < t.chans.length → (railWord s t i 0).bit 0 = false)
    (hst : (seqOf s c.val).st ≠ .unwind) : Worked c t s (deviceWork c.val t s) := by
  obtain ⟨s1, e1⟩ : ∃ v, v = seqWord0 c.val t (seqReqOn s t) true true s := ⟨_, rfl⟩
  have hw1 : supplyWork c.val t s = s1 := by rw [supplyWork, hsup, e1]; rfl
  have hq1 : seqOf s1 c.val = seqOf s c.val := by rw [e1]; rfl
  have hm1 : Memory.wf s1.shared = true := by rw [e1]; exact wf_parmPut hm t 0 _
  have hp1 : ∀ a, a ≠ 0 → Machine.parm s1 t a = Machine.parm s t a := fun a ha => by
    rw [e1]
    exact parm_parmPut_ne hm t ha _
  obtain ⟨hr1, hk1, _⟩ := seqWord0_bits hm c.val t (seqReqOn s t) true true
  rw [← e1] at hr1 hk1
  obtain ⟨s2, e2⟩ : ∃ v, v = if (seqOf s1 c.val).st = .off || (seqOf s1 c.val).st = .locked then s1 else
    (List.range t.chans.length).foldl (railFilter c.val t) s1 := ⟨_, rfl⟩
  have h2 : Filtered c s1 s2 := by
    rw [e2]
    split
    · exact .refl s1
    · exact filtered_rails _ s1
  have hramp2 : ∀ i, (railOf s2 c.val i).ramp = none := fun i => by
    rw [h2.ramp, railOf, hq1]
    exact hramp i
  have hst2 : (seqOf s2 c.val).st ≠ .unwind := by rw [h2.seq, hq1]; exact hst
  have hm2 : Memory.wf s2.shared = true := by rw [h2.shared]; exact hm1
  obtain ⟨s3, e3⟩ : ∃ v, v = countWork c.val t s2 := ⟨_, rfl⟩
  have hp3 : ∀ a, a ≠ 0 → Machine.parm s3 t a = Machine.parm s t a := fun a ha => by
    rw [e3, countWork_eq, seqSync, seqWord0_eq, parm_parmPut_ne (s := modSeq c.val stepCounts s2) hm2 t ha]
    exact (parm_congr h2.shared t a).trans (hp1 a ha)
  obtain ⟨hr3, hk3, _⟩ := seqWord0_bits (s := modSeq c.val stepCounts s2) hm2 c.val t (seqReqOn (modSeq c.val stepCounts s2) t)
    (seqSupOk (modSeq c.val stepCounts s2) t) (seqSupPres (modSeq c.val stepCounts s2) t)
  have hp0 : Machine.parm (modSeq c.val stepCounts s2) t 0 = Machine.parm s1 t 0 := parm_congr h2.shared t 0
  have hsee3 : ∀ i, i < t.chans.length → (railWord s3 t i 0).bit 0 = false := fun i hi => by
    rw [railWord, hp3 _ (by omega)]
    exact hsee i hi
  have hd : deviceWork c.val t s = s3 := by
    rw [deviceWork]
    rw [hw1, ← e2, foldl_fixed _ fun i _ => railRamp_none hramp2 i, show unwindWork c.val t s2 = s2 from if_neg hst2, ← e3,
      superviseWork_none hsee3]
  rw [hd]
  refine ⟨?_, ⟨(stepCounts (seqOf s2 c.val)).rails, ?_⟩, ?_, ?_, hp3⟩
  · rw [e3]
    exact wf_parmPut (s := modSeq c.val stepCounts s2) hm2 t 0 _
  · have h3 : seqOf s3 c.val = stepCounts (seqOf s2 c.val) := by
      rw [e3]
      exact seqOf_modSeq s2 c stepCounts
    rw [h3, h2.seq, hq1]
    rfl
  · rw [e3, countWork_eq, seqSync, hr3, seqReqOn, hp0]
    exact hr1
  · rw [e3, countWork_eq, seqSync, hk3, seqSupOk, hp0]
    exact hk1

/-! The rows (R161). -/

theorem seqOf_seqEntry (e : Nat) (s : State) : seqOf (seqEntry c.val e s) c.val =
    { seqOf s c.val with resume := e, runs := true, calls := [], wait := .none, timer := 0 } := seqOf_modSeq ..

theorem seqOf_seqUp (s : State) : seqOf (seqUp c.val t s) c.val =
    { entered .up (seqOf s c.val) with resume := (parm s t 2).bits 15 0, runs := true, calls := [] } := by
  rw [seqUp, seqOf_seqEntry, seqOf_seqSet]
  rfl

theorem unwindEnd_none (h : (seqOf s c.val).st ≠ .unwind) : unwindEnd c.val t s = s := by
  refine if_neg ?_
  simp [unwound, h]

/-- ON and no request: DOWN. -/
theorem seqRows_down (hst : (seqOf s c.val).st = .on) (hreq : seqTarget s t = false) : seqRows c.val t s =
    seqEntry c.val ((parm s t 2).bits 31 16) (seqSet c.val t .down 0xFF s) := by
  obtain ⟨w, ew⟩ : ∃ w, w = seqEntry c.val ((parm s t 2).bits 31 16) (seqSet c.val t .down 0xFF s) := ⟨_, rfl⟩
  have hw : (seqOf w c.val).st = .down := by rw [ew, seqOf_seqEntry, seqOf_seqSet]; rfl
  unfold seqRows
  extract_lets st tgt s2 s3 s5 s6 s9 s12 s13 s14
  have h2 : s2 = s := if_neg (by simp [st, hst])
  have h3 : s3 = w := by
    rw [ew, ← h2]
    exact if_pos (by simp [st, h2, hst, tgt, hreq])
  have h5 : s5 = w := by rw [← h3]; exact if_neg (by simp [st, h3, hw])
  have h6 : s6 = w := by rw [← h5]; exact if_neg (by simp [st, h5, hw])
  have h9 : s9 = w := by rw [← h6]; exact unwindEnd_none (by simp [h6, hw])
  have h12 : s12 = w := by rw [← h9]; exact if_neg (by simp [st, h9, hw])
  have h13 : s13 = w := by rw [← h12]; exact if_neg (by simp [st, h12, hw])
  have h14 : s14 = w := by rw [← h13]; exact if_neg (by simp [st, h13, hw])
  rw [h14, if_neg (by simp [st, hw]), ew]

/-- The states that Table 7.4 leaves by its last two rows alone. -/
def restRows (c : Nat) (t : Task) (s : State) : State :=
  let s14 := if (seqOf s c).st = .locked && !seqReqOn s t then seqOffClear c t s else s
  if (seqOf s14 c).st = .off && seqTarget s t then seqUp c t s14 else s14

theorem seqRows_rest (hp : (seqOf s c.val).st ≠ .paused) (hu : (seqOf s c.val).st ≠ .unwind) (hr : (seqOf s c.val).st ≠ .retryWait)
    (hup : (seqOf s c.val).st = .up → seqTarget s t = true) (hon : (seqOf s c.val).st = .on → seqTarget s t = true) :
    seqRows c.val t s = restRows c.val t s := by
  unfold seqRows restRows
  extract_lets st tgt s2 s3 s5 s6 s9 s12 s13 s14 r14
  have h2 : s2 = s := if_neg (by simpa [st, tgt] using hup)
  have h3 : s3 = s := by
    rw [← h2]
    exact if_neg (by simpa [st, tgt, h2] using hon)
  have h5 : s5 = s := by rw [← h3]; exact if_neg (by simp [st, h3, hp])
  have h6 : s6 = s := by rw [← h5]; exact if_neg (by simp [st, h5, hp])
  have h9 : s9 = s := by rw [← h6]; exact unwindEnd_none (by simp [h6, hu])
  have h12 : s12 = s := by rw [← h9]; exact if_neg (by simp [st, h9, hr])
  have h13 : s13 = s := by rw [← h12]; exact if_neg (by simp [st, h12, hr])
  simp only [s14, r14, h13, st, tgt]

theorem restRows_up (hst : (seqOf s c.val).st = .off) (hreq : seqTarget s t = true) : restRows c.val t s = seqUp c.val t s := by
  simp [restRows, hst, hreq]

theorem restRows_clear (hst : (seqOf s c.val).st = .locked) (hreq : seqReqOn s t = false) :
    restRows c.val t s = seqOffClear c.val t s := by
  simp [restRows, hst, hreq, seqTarget]

theorem restRows_none (hl : (seqOf s c.val).st ≠ .locked) (ho : (seqOf s c.val).st = .off → seqTarget s t = false) :
    restRows c.val t s = s := by
  simp [restRows, hl]
  intro h1 h2
  rw [ho h1] at h2
  contradiction

end
end Sys2Proof.Claims
end

section
/-!
PROOF. A service of a sequence as it is asked for (R141, R160): the step it belongs to, and the transitions of Table 7.4 it makes.
-/
namespace Sys2Proof.Claims
open Sys2Proof Sys2Proof.Machine

section
variable {s u v : State} {c : Ctx} {t : Task}

theorem seqOf_seqStart (s : State) : seqOf (seqStart c.val t s) c.val = seqOf s c.val := by
  rw [seqOf, seqStart, State.modCx_cx_val]
  rfl

theorem seqOf_seqService (s : State) : seqOf (seqService c.val t s) c.val = seqOf (servedState c.val t s) c.val := by
  rw [seqService_eq]
  split
  · exact seqOf_seqStart _
  · rfl

/-- No image has changed and no release is left over, so that a service begins with the device work. -/
theorem servedState_plain (hback : s.upe.back = []) (hold : s.upe.old = none) (hrel : (s.cx c.val).rel = none) :
    servedState c.val t s = seqRows c.val t (deviceWork c.val t s) := by
  have hover : changeOver c.val t s = s := by
    unfold changeOver
    rw [hback, hold]
    rfl
  rw [servedState, hrel]
  dsimp only
  rw [hover]

/-! The record after a service of a state that runs no rail. -/

section
variable (w : Worked c t s v)
include w

theorem worked_target : seqTarget v t = seqReqOn s t := by rw [seqTarget, w.req, w.ok, Bool.and_true]

theorem worked_st : (seqOf v c.val).st = (seqOf s c.val).st := by
  obtain ⟨x, e⟩ := w.seq
  rw [e]
  rfl

theorem rows_off_up (hst : (seqOf s c.val).st = .off) (hreq : seqReqOn s t = true) :
    (seqOf (seqRows c.val t v) c.val).st = .up ∧ (seqOf (seqRows c.val t v) c.val).runs = true ∧
      (seqOf (seqRows c.val t v) c.val).resume = (parm s t 2).bits 15 0 := by
  have hv : (seqOf v c.val).st = .off := (worked_st w).trans hst
  rw [seqRows_rest (by simp [hv]) (by simp [hv]) (by simp [hv]) (by simp [hv]) (by simp [hv]),
    restRows_up hv ((worked_target w).trans hreq), seqOf_seqUp]
  exact ⟨rfl, rfl, by rw [w.parm 2 (by decide)]⟩

theorem rows_off_stay (hst : (seqOf s c.val).st = .off) (hreq : seqReqOn s t = false) :
    (seqOf (seqRows c.val t v) c.val).st = .off := by
  have hv : (seqOf v c.val).st = .off := (worked_st w).trans hst
  rw [seqRows_rest (by simp [hv]) (by simp [hv]) (by simp [hv]) (by simp [hv]) (by simp [hv]),
    restRows_none (by simp [hv]) fun _ => (worked_target w).trans hreq, hv]

/-- UP and ON stay while the request stands. -/
theorem rows_requested (hst : (seqOf s c.val).st = .up ∨ (seqOf s c.val).st = .on) (hreq : seqReqOn s t = true) :
    seqRows c.val t v = v := by
  have ht := (worked_target w).trans hreq
  rw [← worked_st w] at hst
  obtain ⟨hp, hu, hr, hl, ho⟩ : (seqOf v c.val).st ≠ .paused ∧ (seqOf v c.val).st ≠ .unwind ∧ (seqOf v c.val).st ≠ .retryWait ∧
      (seqOf v c.val).st ≠ .locked ∧ (seqOf v c.val).st ≠ .off := by
    rcases hst with h | h
    · rw [h]; decide
    · rw [h]; decide
  rw [seqRows_rest hp hu hr (fun _ => ht) fun _ => ht, restRows_none hl fun h => absurd h ho]

theorem rows_on_down (hst : (seqOf s c.val).st = .on) (hreq : seqReqOn s t = false) :
    (seqOf (seqRows c.val t v) c.val).st = .down ∧ (seqOf (seqRows c.val t v) c.val).runs = true ∧
      (seqOf (seqRows c.val t v) c.val).resume = (parm s t 2).bits 31 16 := by
  rw [seqRows_down ((worked_st w).trans hst) ((worked_target w).trans hreq), seqOf_seqEntry, seqOf_seqSet]
  exact ⟨rfl, rfl, by rw [w.parm 2 (by decide)]⟩

theorem rows_locked_off (hst : (seqOf s c.val).st = .locked) (hreq : seqReqOn s t = false) :
    (seqOf (seqRows c.val t v) c.val).st = .off ∧ (seqOf (seqRows c.val t v) c.val).retries = 0 := by
  have hv : (seqOf v c.val).st = .locked := (worked_st w).trans hst
  rw [seqRows_rest (by simp [hv]) (by simp [hv]) (by simp [hv]) (by simp [hv]) (by simp [hv]),
    restRows_clear hv (w.req.trans hreq), seqOf_seqOffClear]
  exact ⟨rfl, rfl⟩

end

/-- The transitions of a service of a sequence with no supply, no ramp and no supervised rail. -/
theorem seqService_rows (hback : s.upe.back = []) (hold : s.upe.old = none) (hm : Memory.wf s.shared = true)
    (hsup : seqSupUsed s t = false) (hrel : (s.cx c.val).rel = none) (hramp : ∀ i, (railOf s c.val i).ramp = none)
    (hsee : ∀ i, i < t.chans.length → (railWord s t i 0).bit 0 = false) : let u := seqService c.val t s
    let q := seqOf s c.val
    (q.st = .off → seqReqOn s t = true → (seqOf u c.val).st = .up ∧ (u.cx c.val).rel.isSome = true ∧
      (seqOf u c.val).resume = (parm s t 2).bits 15 0) ∧
    (q.st = .off → seqReqOn s t = false → (seqOf u c.val).st = .off ∧ (u.cx c.val).rel = none) ∧
    (q.st = .up → seqReqOn s t = true → q.runs = true → (seqOf u c.val).st = .up ∧ (seqOf u c.val).resume = q.resume ∧
      (u.cx c.val).rel.isSome = true) ∧
    (q.st = .on → seqReqOn s t = true → (seqOf u c.val).st = .on ∧ (seqOf u c.val).onSteps = q.onSteps + 1) ∧
    (q.st = .on → seqReqOn s t = false → (seqOf u c.val).st = .down ∧ (u.cx c.val).rel.isSome = true ∧
      (seqOf u c.val).resume = (parm s t 2).bits 31 16) ∧
    (q.st = .locked → seqReqOn s t = false → (seqOf u c.val).st = .off ∧ (seqOf u c.val).retries = 0) := by
  intro u q
  obtain ⟨_, _, hsome, _⟩ := seqService_effect (c := c) (t := t) s
  have hu : seqOf u c.val = seqOf (seqRows c.val t (deviceWork c.val t s)) c.val := by
    rw [← servedState_plain hback hold hrel]
    exact seqOf_seqService s
  have hw : ∀ {st : SeqSt}, (seqOf s c.val).st = st → st ≠ .unwind → Worked c t s (deviceWork c.val t s) := fun h hne =>
    deviceWork_worked hm hsup hramp hsee (by rwa [h])
  have runs : seqRuns (seqOf u c.val).st = true → (seqOf u c.val).runs = true → (u.cx c.val).rel.isSome = true := fun h h' => by
    rw [hsome, h, h']
    rfl
  refine ⟨fun hst hreq => ?_, fun hst hreq => ?_, fun hst hreq hrun => ?_, fun hst hreq => ?_, fun hst hreq => ?_,
    fun hst hreq => ?_⟩
  · obtain ⟨h1, h2, h3⟩ := rows_off_up (hw hst (by decide)) hst hreq
    rw [← hu] at h1 h2 h3
    exact ⟨h1, runs (by rw [h1]; rfl) h2, h3⟩
  · have h1 := rows_off_stay (hw hst (by decide)) hst hreq
    rw [← hu] at h1
    refine ⟨h1, Option.not_isSome_iff_eq_none.1 ?_⟩
    rw [hsome, h1]
    exact Bool.false_ne_true
  · have w := hw hst (by decide)
    obtain ⟨x, e⟩ := w.seq
    rw [rows_requested w (.inl hst) hreq, e] at hu
    have h1 : (seqOf u c.val).st = .up := by rw [hu]; exact hst
    exact ⟨h1, by rw [hu]; rfl, runs (by rw [h1]; rfl) (by rw [hu]; exact hrun)⟩
  · have w := hw hst (by decide)
    obtain ⟨x, e⟩ := w.seq
    rw [rows_requested w (.inr hst) hreq, e] at hu
    rw [hu]
    exact ⟨hst, if_pos hst⟩
  · obtain ⟨h1, h2, h3⟩ := rows_on_down (hw hst (by decide)) hst hreq
    rw [← hu] at h1 h2 h3
    exact ⟨h1, runs (by rw [h1]; rfl) h2, h3⟩
  · obtain ⟨h1, h2⟩ := rows_locked_off (hw hst (by decide)) hst hreq
    rw [← hu] at h1 h2
    exact ⟨h1, h2⟩

/-! When a service is due (R160). -/

theorem seqService_does (h : seqTask s c.val = some t) (hd : serviceDue s c.val = true) :
    Does (.seqService c) s (seqService c.val t (modSeq c.val (fun q => { q with served := some (stepStart s) }) s)) := by
  have hu : Does (.seqService c) s (match seqTask s c.val with
    | some t =>
      if serviceDue s c.val then seqService c.val t (modSeq c.val (fun q => { q with served := some (stepStart s) }) s) else s
    | none => s) := rfl
  rw [h] at hu
  dsimp only at hu
  rwa [if_pos hd] at hu

theorem seqService_idle (h : seqTask s c.val = some t) (hd : serviceDue s c.val = false) : Does (.seqService c) s s := by
  have hu : Does (.seqService c) s (match seqTask s c.val with
    | some t =>
      if serviceDue s c.val then seqService c.val t (modSeq c.val (fun q => { q with served := some (stepStart s) }) s) else s
    | none => s) := rfl
  rw [h] at hu
  dsimp only at hu
  rwa [if_neg (by rw [hd]; exact Bool.false_ne_true)] at hu

theorem serviceDue_of (hrun : s.clk.chip = .run) (hf : (s.engine (engOfCtx c.val)).fenced = false)
    (hq : (seqOf s c.val).served ≠ some (stepStart s))
    (hall : ∀ k, k < c.val → engOfCtx k = engOfCtx c.val → seqTask s k ≠ none → (seqOf s k).served = some (stepStart s)) :
    serviceDue s c.val = true := by
  have h1 : isRun s = true := by simp [isRun, hrun]
  have h2 : stepServed s c.val = false := by simpa [stepServed] using hq
  rw [serviceDue, h1, hf, h2, Bool.not_false, Bool.and_true, Bool.and_true, Bool.true_and, List.all_eq_true]
  intro k _
  by_cases hk : (decide (k < c.val) && engOfCtx k == engOfCtx c.val && (seqTask s k).isSome) = true
  · rw [Bool.and_eq_true, Bool.and_eq_true, decide_eq_true_eq, beq_iff_eq, Option.isSome_iff_ne_none] at hk
    obtain ⟨⟨hlt, he⟩, hs⟩ := hk
    rw [stepServed, hall k hlt he hs, beq_self_eq_true, Bool.or_true]
  · rw [Bool.eq_false_iff.2 hk]
    rfl

theorem serviceDue_not (h : s.clk.chip ≠ .run ∨ (s.engine (engOfCtx c.val)).fenced = true ∨
    (seqOf s c.val).served = some (stepStart s)) : serviceDue s c.val = false := by
  rcases h with h | h | h
  · have h1 : isRun s = false := by simp [isRun, h]
    rw [serviceDue, h1, Bool.false_and, Bool.false_and, Bool.false_and]
  · rw [serviceDue, h, Bool.not_true, Bool.and_false, Bool.false_and, Bool.false_and]
  · rw [serviceDue, stepServed, h, beq_self_eq_true, Bool.not_true, Bool.and_false, Bool.false_and]

/-- One service (R141, R160, R161). -/
theorem seqService_serves (h : seqTask s c.val = some t) (hd : serviceDue s c.val = true) :
    let q := seqOf s c.val
    ∃ u, Does (.seqService c) s u ∧ (seqOf u c.val).served = some (stepStart s) ∧ u.clk = s.clk ∧
      ((u.cx c.val).rel.isSome = (seqRuns (seqOf u c.val).st && (seqOf u c.val).runs)) ∧
      (∀ r, (u.cx c.val).rel = some r → r.pc = (seqOf u c.val).resume ∧ r.calls = (seqOf u c.val).calls ∧ r.tick = s.now ∧
        r.cyc = 0 ∧ (u.cx c.val).reason = 0) ∧
      (s.upe.back = [] → s.upe.old = none → Memory.wf s.shared = true → seqSupUsed s t = false → (s.cx c.val).rel = none →
        (∀ i, (railOf s c.val i).ramp = none) → (∀ i, i < t.chans.length → (railWord s t i 0).bit 0 = false) →
        (q.st = .off → seqReqOn s t = true → (seqOf u c.val).st = .up ∧ (u.cx c.val).rel.isSome = true ∧
          (seqOf u c.val).resume = (parm s t 2).bits 15 0) ∧
        (q.st = .off → seqReqOn s t = false → (seqOf u c.val).st = .off ∧ (u.cx c.val).rel = none) ∧
        (q.st = .up → seqReqOn s t = true → q.runs = true → (seqOf u c.val).st = .up ∧ (seqOf u c.val).resume = q.resume ∧
          (u.cx c.val).rel.isSome = true) ∧
        (q.st = .on → seqReqOn s t = true → (seqOf u c.val).st = .on ∧ (seqOf u c.val).onSteps = q.onSteps + 1) ∧
        (q.st = .on → seqReqOn s t = false → (seqOf u c.val).st = .down ∧ (u.cx c.val).rel.isSome = true ∧
          (seqOf u c.val).resume = (parm s t 2).bits 31 16) ∧
        (q.st = .locked → seqReqOn s t = false → (seqOf u c.val).st = .off ∧ (seqOf u c.val).retries = 0)) := by
  intro q
  have hu := seqService_does h hd
  obtain ⟨v, hv⟩ : ∃ v, v = modSeq c.val (fun q => { q with served := some (stepStart s) }) s := ⟨_, rfl⟩
  rw [← hv] at hu
  have hq : seqOf v c.val = { q with served := some (stepStart s) } := by rw [hv, seqOf_modSeq]
  have hclk : v.clk = s.clk := by rw [hv]; rfl
  have hupe : v.upe = s.upe := by rw [hv]; rfl
  have hsh : v.shared = s.shared := by rw [hv]; rfl
  have hrelv : (v.cx c.val).rel = (s.cx c.val).rel := by rw [hv, modSeq, State.modCx_cx_val]
  have hp := parm_congr hsh t
  have hreq : seqReqOn v t = seqReqOn s t := by rw [seqReqOn, hp]; rfl
  obtain ⟨h1, h2, h3, h4⟩ := seqService_effect (c := c) (t := t) v
  have hnow : v.now = s.now := congrArg (fun k : Clk => k.ts.toNat / 50) hclk
  refine ⟨_, hu, ?_, h1.trans hclk, h3, fun r hr => ?_, fun hback hold hm hsup hrel hramp hsee => ?_⟩
  · rw [h2, hq]
  · rw [← hnow]
    exact h4 r hr
  · have h := seqService_rows (c := c) (t := t) (s := v) (hupe ▸ hback) (hupe ▸ hold) (hsh ▸ hm) (by rw [seqSupUsed, hp]; exact hsup)
      (hrelv.trans hrel) (fun i => by rw [railOf, hq]; exact hramp i) fun i hi => by rw [railWord, hp]; exact hsee i hi
    simp only [hq, hreq, hp] at h
    exact h

end
end Sys2Proof.Claims
end

section
/-!
PROOF. The preparation of a release (R36, R85, R90): the shaft sources judged, an image changed over, a cold start and a bank swap leave the
clock, the channels and the release of the context; the release they end in is the task's, at word 0, with its port words.
-/
namespace Sys2Proof.Claims
open Sys2Proof Sys2Proof.Machine

section
variable {s u v : State} {c : Ctx} {t : Task}

/-- From `s` to `u` the clock stands, and what runs and what waits in context `c`. -/
structure Still (c : Ctx) (s u : State) : Prop where
  clk : u.clk = s.clk
  wait : (u.cx c.val).wait = (s.cx c.val).wait
  rel : (u.cx c.val).rel = (s.cx c.val).rel

/-- The channels stand as well. -/
structure Readies (c : Ctx) (s u : State) : Prop extends Still c s u where
  chan : u.chan = s.chan

theorem Readies.refl (s : State) : Readies c s s := ⟨⟨rfl, rfl, rfl⟩, rfl⟩
theorem Readies.trans (h : Readies c s u) (h' : Readies c u v) : Readies c s v :=
  ⟨⟨h'.clk.trans h.clk, h'.wait.trans h.wait, h'.rel.trans h.rel⟩, h'.chan.trans h.chan⟩
theorem Readies.ite {p : Prop} [Decidable p] (h : Readies c s u) (h' : Readies c s v) : Readies c s (if p then u else v) := by
  split
  · exact h
  · exact h'
theorem Readies.foldl {α : Type} {f : State → α → State} (hf : ∀ s a, Readies c s (f s a)) (l : List α) (s : State) :
    Readies c s (l.foldl f s) := by
  induction l generalizing s with
  | nil => exact .refl s
  | cons a l ih => exact (hf s a).trans (ih (f s a))

theorem readies_of (hk : u.clk = s.clk) (hx : u.ctx = s.ctx) (hc : u.chan = s.chan) : Readies c s u := by
  refine ⟨⟨hk, ?_, ?_⟩, hc⟩
  · rw [State.cx, hx]
    rfl
  · rw [State.cx, hx]
    rfl

theorem readies_modCx (s : State) (f : Context → Context) (hw : ∀ x, (f x).wait = x.wait) (hr : ∀ x, (f x).rel = x.rel) :
    Readies c s (s.modCx c.val f) := by
  refine ⟨⟨rfl, ?_, ?_⟩, rfl⟩
  · rw [State.modCx_cx_val, hw]
  · rw [State.modCx_cx_val, hr]

theorem readies_raise (src : Nat) (cls : EvClass) (code : Nat) (x : W) (n m : Nat) (s : State) :
    Readies c s (s.raise src cls code x n m) := readies_of (State.raise_clk ..) (State.raise_ctx ..) (State.raise_chan ..)
theorem readies_raiseP (src : Nat) (cls : EvClass) (code n m : Nat) (s : State) : Readies c s (s.raiseP src cls code n m) :=
  readies_of (State.raiseP_clk ..) (State.raiseP_ctx ..) (State.raiseP_chan ..)

/-! The shaft sources (R109, R110). -/

theorem readies_shaftLose (i : Nat) (ts : TS) (code : Nat) (s : State) : Readies c s (shaftLose i ts code s) := by
  unfold shaftLose
  extract_lets s1
  have h1 : Readies c s s1 := readies_of rfl rfl rfl
  exact h1.trans (readies_raise ..)

theorem readies_shaftCount (i : Nat) (ts : TS) (s : State) : Readies c s (shaftCount i ts s) := by
  unfold shaftCount
  extract_lets x
  split
  · exact readies_of rfl rfl rfl
  · extract_lets d fits s1
    have h1 : Readies c s s1 := by
      simp only [s1]
      split
      · exact readies_shaftLose ..
      · exact .refl s
    exact h1.trans (readies_of rfl rfl rfl)

theorem readies_shaftIndex (i : Nat) (ts : TS) (s : State) : Readies c s (shaftIndex i ts s) := by
  unfold shaftIndex
  extract_lets x same n s1
  have h1 : Readies c s s1 := .ite (readies_shaftLose ..) (.refl s)
  exact h1.trans (readies_of rfl rfl rfl)

theorem readies_shaftAccept (i : Nat) (ts : TS) (rising : Bool) (s : State) : Readies c s (shaftAccept i ts rising s) := by
  unfold shaftAccept
  extract_lets x s1 y
  have h1 : Readies c s s1 := .ite (readies_shaftCount ..) (.refl s)
  exact .ite (h1.trans (readies_shaftIndex ..)) h1

theorem readies_shaftTimeout (i : Nat) (s : State) : Readies c s (shaftTimeout i s) := by
  unfold shaftTimeout
  exact .ite ((readies_shaftLose ..).trans (readies_of rfl rfl rfl)) (.refl s)

theorem readies_shaftJudge (s : State) : Readies c s (shaftJudge s) := by
  have hs : Readies c s (shaftSettle s.clk.ts s) := by
    unfold shaftSettle
    refine .foldl (fun v x => ?_) _ s
    have h1 : Readies c v { v with shaft := vmod v.shaft x.2.1 fun y => { y with pulse := none } } := readies_of rfl rfl rfl
    exact h1.trans (readies_shaftAccept ..)
  unfold shaftJudge
  exact hs.trans (.foldl (fun v i => .ite (readies_shaftTimeout ..) (.refl v)) _ _)

/-! An image changed over (R433), a cold start (R39) and the bank swap (R104). -/

theorem readies_changeOver (s : State) : Readies c s (changeOver c.val t s) := by
  unfold changeOver
  dsimp only
  split
  · refine Readies.trans ?_ (readies_modCx _ _ (fun _ => rfl) fun _ => rfl)
    exact readies_of rfl rfl rfl
  · split
    · refine .ite (.refl s) (Readies.trans ?_ (readies_modCx _ _ (fun _ => rfl) fun _ => rfl))
      exact readies_of rfl rfl rfl
    · exact .refl s
  · exact .refl s

theorem readies_recChoose (id : BitVec 16) (s : State) : Readies c s (recChoose id s).2.2.2 := by
  have hflag : ∀ b code, Readies c s (nvFlag b (s.raiseP 981 .ce code)) := fun b code =>
    (readies_raiseP 981 .ce code _ _ s).trans (readies_of rfl rfl rfl)
  unfold recChoose
  split
  · exact .refl s
  · dsimp only
    split
    · split
      · split
        · exact .refl s
        · exact .refl s
      · split
        · exact .refl s
        · exact hflag ..
    · split
      · exact hflag ..
      · split
        · exact hflag ..
        · exact .refl s

theorem readies_tablePayload (id : Nat) (s : State) : Readies c s (tablePayload id s).2 := by
  unfold tablePayload
  split
  · exact .refl s
  · exact readies_recChoose ..

theorem readies_tableFail (k ramp : Nat) (put : (RptTable → RptTable) → State → State) (hput : ∀ f v, Readies c v (put f v))
    (s : State) : Readies c s (coldTable.tableFail c.val t k ramp put s) := by
  unfold coldTable.tableFail
  exact (hput _ s).trans (readies_raiseP ..)

theorem readies_coldTable (k : Nat) (s : State) : Readies c s (coldTable c.val t k s) := by
  unfold coldTable
  extract_lets lg ramp put
  have hput : ∀ f v, Readies c v (put f v) := fun f v => by
    refine readies_modCx v _ (fun x => ?_) fun x => ?_
    · split
      · rfl
      · rfl
    · split
      · rfl
      · rfl
  clear_value put
  refine .ite (.refl s) ?_
  split
  · exact hput ..
  next id _ =>
    have h1 := readies_tablePayload (c := c) id s
    split
    next p s1 he =>
      rw [he] at h1
      replace h1 : Readies c s s1 := h1
      split
      · exact .ite (h1.trans (hput _ s1)) (h1.trans (readies_tableFail _ _ _ hput _))
      · exact h1.trans (readies_tableFail _ _ _ hput _)

theorem readies_coldStart (s : State) : Readies c s (coldStart c.val t s) := by
  unfold coldStart
  extract_lets s1 s2
  have h1 : Readies c s s1 := readies_modCx s _ (fun _ => rfl) fun _ => rfl
  have h2 : Readies c s s2 := .ite (h1.trans (readies_of rfl rfl rfl)) h1
  exact h2.trans ((readies_coldTable ..).trans (readies_coldTable ..))

theorem applySwap_kept (rt : Nat) (x : Context) : (applySwap rt x).wait = x.wait ∧ (applySwap rt x).rel = x.rel := by
  unfold applySwap
  split
  · split
    · exact ⟨rfl, rfl⟩
    · exact ⟨rfl, rfl⟩
  · exact ⟨rfl, rfl⟩

/-! The release itself. -/

/-- A release is prepared: its words wait, and all else of its context that is counted here stands. -/
theorem prepare_effect (s : State) : let u := prepare c.val t s
    u.clk = s.clk ∧ u.chan = s.chan ∧ (u.cx c.val).rel = (s.cx c.val).rel ∧ (u.cx c.val).lastTick = some s.now ∧
      (u.cx c.val).reason = 0 ∧ ∃ (v : State) (ph : W) (st : Vector W 16), v.now = s.now ∧ (u.cx c.val).wait = some (relOf (v.modCx c.val fun x =>
        { x with ph := ph, stat := st, reason := 0 }) c.val t) := by
  obtain ⟨s1, e1⟩ : ∃ v, v = changeOver c.val t (shaftJudge s) := ⟨_, rfl⟩
  obtain ⟨s2, e2⟩ : ∃ v, v = if (s1.cx c.val).cold then coldStart c.val t s1 else s1 := ⟨_, rfl⟩
  have h1 : Readies c s s1 := by
    rw [e1]
    exact (readies_shaftJudge s).trans (readies_changeOver _)
  have h2 : Readies c s s2 := by
    rw [e2]
    exact .ite (h1.trans (readies_coldStart _)) h1
  have h3 := h2.trans (readies_modCx s2 (fun x => applySwap s2.now x) (fun x => (applySwap_kept _ x).1) fun x => (applySwap_kept _ x).2)
  obtain ⟨v, ev⟩ : ∃ v, v = s2.modCx c.val fun x => applySwap s2.now x := ⟨_, rfl⟩
  rw [← ev] at h3
  have hnow : v.now = s.now := congrArg (fun k : Clk => k.ts.toNat / 50) h3.clk
  obtain ⟨ph, st, hp⟩ : ∃ (ph : W) (st : Vector W 16), prepare c.val t s = (v.modCx c.val fun x => { x with ph := ph, stat := st, reason := 0 }).modCx c.val fun x =>
      { x with wait := some (relOf (v.modCx c.val fun x => { x with ph := ph, stat := st, reason := 0 }) c.val t), lastTick := some v.now } := by
    rw [ev, e2, e1]
    exact ⟨_, _, rfl⟩
  rw [hp]
  refine ⟨h3.clk, h3.chan, ?_, ?_, ?_, v, ph, st, hnow, ?_⟩
  · rw [State.modCx_cx_val, State.modCx_cx_val]
    exact h3.rel
  · rw [State.modCx_cx_val, hnow]
  · rw [State.modCx_cx_val, State.modCx_cx_val]
  · rw [State.modCx_cx_val]

theorem relOf_ports_length (s : State) : (relOf s c.val t).ports.length = 16 * t.chans.length := by
  have h : ∀ l : List (Bool × Nat), (l.flatMap fun x => portWords s t x.2).length = 16 * l.length := fun l => by
    induction l with
    | nil => rfl
    | cons x l ih =>
      rw [List.flatMap_cons, List.length_append, ih, List.length_cons, Nat.mul_succ, Nat.add_comm]
      rfl
  exact h t.chans

end
end Sys2Proof.Claims
end

section
/-!
PROOF. The dispatch of a release (R97, R134, R135, R140): when an engine may start one, and what it starts.
-/
namespace Sys2Proof.Claims
open Sys2Proof Sys2Proof.Machine

section
variable {s u v : State} {c : Ctx} {t : Task}

theorem dispatch_does (h : taskAt s c.val = some t) (hm : mayDispatch s c.val = true) :
    Does (.releaseDispatch c) s (dispatch c.val t s) := by
  have hu : Does (.releaseDispatch c) s (match taskAt s c.val with
    | some t => if mayDispatch s c.val then dispatch c.val t s else s
    | none => s) := rfl
  rw [h] at hu
  dsimp only at hu
  rwa [if_pos hm] at hu

theorem dispatch_idle (hm : mayDispatch s c.val = false) : Does (.releaseDispatch c) s s := by
  have hu : Does (.releaseDispatch c) s (match taskAt s c.val with
    | some t => if mayDispatch s c.val then dispatch c.val t s else s
    | none => s) := rfl
  split at hu
  · rwa [if_neg (by rw [hm]; exact Bool.false_ne_true)] at hu
  · exact hu

/-! When a release may start (R135, R140). -/

theorem mem_ctxBase {k e : Nat} (hk : k < 512) (h : engOfCtx k = e) : (ctxBase e).1 ≤ k ∧ k < (ctxBase e).1 + (ctxBase e).2 := by
  subst h
  unfold engOfCtx ctxBase
  split
  · rw [if_pos (by omega)]
    dsimp only
    omega
  · split
    · rw [if_neg (by omega), if_pos (by omega)]
      dsimp only
      omega
    · rw [if_neg (by omega), if_neg (by omega)]
      dsimp only
      omega

theorem ctxBase_mem {e k : Nat} (he : ∃ j, j < 512 ∧ engOfCtx j = e) (hk : k < (ctxBase e).2) :
    (ctxBase e).1 + k < 512 ∧ engOfCtx ((ctxBase e).1 + k) = e := by
  obtain ⟨j, hj, rfl⟩ := he
  revert hk
  unfold engOfCtx ctxBase
  split
  · rw [if_pos (by omega)]
    dsimp only
    intro hk
    rw [if_pos (by omega)]
    omega
  · split
    · rw [if_neg (by omega), if_pos (by omega)]
      dsimp only
      intro hk
      rw [if_neg (by omega), if_pos (by omega)]
      omega
    · rw [if_neg (by omega), if_neg (by omega)]
      dsimp only
      intro hk
      rw [if_neg (by omega), if_neg (by omega)]
      omega

theorem engineIdle_iff (s : State) (e : Nat) :
    engineIdle s e = true ↔ ∀ k, k < (ctxBase e).2 → (s.cx ((ctxBase e).1 + k)).rel = none := by
  have h : engineIdle s e = (List.range (ctxBase e).2).all fun k => (s.cx ((ctxBase e).1 + k)).rel.isNone := rfl
  simp only [h, List.all_eq_true, List.mem_range, Option.isNone_iff_eq_none]

theorem engineIdle_of (c : Ctx) (h : ∀ k, k < 512 → engOfCtx k = engOfCtx c.val → (s.cx k).rel = none) :
    engineIdle s (engOfCtx c.val) = true := by
  refine (engineIdle_iff s _).2 fun k hk => ?_
  obtain ⟨h1, h2⟩ := ctxBase_mem ⟨c.val, c.isLt, rfl⟩ hk
  exact h _ h1 h2

theorem engineIdle_rel (c : Ctx) (h : engineIdle s (engOfCtx c.val) = true) {k : Nat} (hk : k < 512)
    (he : engOfCtx k = engOfCtx c.val) : (s.cx k).rel = none := by
  obtain ⟨h1, h2⟩ := mem_ctxBase hk he
  have hk' := (engineIdle_iff s _).1 h (k - (ctxBase (engOfCtx c.val)).1) (by omega)
  rwa [Nat.add_sub_cancel' h1] at hk'

theorem keyLt_irrefl (l : List Nat) : keyLt l l = false := by
  induction l with
  | nil => rfl
  | cons a l ih => simp [keyLt, ih]

/-- What a dispatch asks of the device and the engine. -/
theorem mayDispatch_needs (h : mayDispatch s c.val = true) :
    s.clk.chip = .run ∧ (s.engine (engOfCtx c.val)).fenced = false ∧ engineIdle s (engOfCtx c.val) = true := by
  unfold mayDispatch at h
  dsimp only at h
  split at h
  · contradiction
  · simp only [Bool.and_eq_true, Bool.not_eq_true', isRun, beq_iff_eq] at h
    obtain ⟨⟨⟨⟨⟨hr, _⟩, hf⟩, hi⟩, _⟩, _⟩ := h
    exact ⟨hr, hf, hi⟩

theorem mayDispatch_not (h : s.clk.chip ≠ .run ∨ (s.engine (engOfCtx c.val)).fenced = true ∨
    (∃ k, k < 512 ∧ engOfCtx k = engOfCtx c.val ∧ (s.cx k).rel ≠ none)) : mayDispatch s c.val = false := by
  refine Bool.eq_false_iff.2 fun hm => ?_
  obtain ⟨hr, hf, hi⟩ := mayDispatch_needs hm
  rcases h with h | h | ⟨k, hk, he, hrel⟩
  · exact h hr
  · rw [hf] at h
    contradiction
  · exact hrel (engineIdle_rel c hi hk he)

/-- An idle engine with one task placed on it may start that task's release when it is due. -/
theorem mayDispatch_single {q : Place} (hrun : s.clk.chip = .run) (hh : s.prl.halted = false)
    (hf : (s.engine (engOfCtx c.val)).fenced = false)
    (hb : (s.engine (engOfCtx c.val)).busy ≤ tickCycles (engOfCtx c.val) * s.now)
    (hrel : ∀ k, k < 512 → engOfCtx k = engOfCtx c.val → (s.cx k).rel = none)
    (hp : (placesOf s).filter (·.eng == engOfCtx c.val) = [q]) (hq : q.ctx = c.val) (hw : (s.cx c.val).wait = none)
    (ht : taskAt s c.val = some t) (hd : dueNow s q = true) : mayDispatch s c.val = true := by
  have hkey : ∃ k, readyKey s q = some k := by
    rw [readyKey, readyTick, hq, hw, ht]
    dsimp only
    rw [if_pos hd]
    exact ⟨_, rfl⟩
  obtain ⟨k, hk⟩ := hkey
  have hfind : [q].find? (·.ctx == c.val) = some q := by
    rw [List.find?_cons_of_pos]
    exact beq_iff_eq.2 hq
  have htick : 0 < tickCycles (engOfCtx c.val) := by
    unfold tickCycles
    split
    · decide
    · decide
  unfold mayDispatch
  dsimp only
  rw [hp, hfind]
  dsimp only
  rw [hk, show isRun s = true from beq_iff_eq.2 hrun, hh, hf, engineIdle_of c hrel,
    decide_eq_true (show _ < tickCycles (engOfCtx c.val) * (s.now + 1) by rw [Nat.mul_succ]; omega)]
  simp [hk, keyLt_irrefl]

theorem dueNow_of {q : Place} (hq : q.ctx = c.val) (hn : q.task = t.num) (ht : taskAt s c.val = some t) (hp : t.profile ≠ .s)
    (hr : relTick s t q = true) (hl : (s.cx c.val).lastTick ≠ some s.now) (hrel : (s.cx c.val).rel = none)
    (hd : dispatchable s t = true) : dueNow s q = true := by
  rw [dueNow, hq, ht]
  simp [hn, hp, hr, hl, hrel, hd]

/-- The release ticks of L and U tasks (R90, R134). -/
theorem relTick_l {q : Place} (hp : t.profile = .l) (h0 : 0 < t.period)
    (h : s.clk.tc.toNat % t.period = (q.phase + 1) % t.period) : relTick s t q = true := by
  rw [relTick, if_pos hp, Nat.max_eq_right h0]
  exact beq_iff_eq.2 h
theorem relTick_u_zero {q : Place} (hp : t.profile = .u) (h0 : t.period = 0) (h : s.clk.tc.toNat % 200 = 0) : relTick s t q = true := by
  rw [relTick, if_neg (by rw [hp]; decide), if_pos h0]
  exact beq_iff_eq.2 h
theorem relTick_u {q : Place} (hp : t.profile = .u) (h0 : 0 < t.period) (h : s.clk.tc.toNat % 2000 = 200 * q.phase)
    (he : s.epoch % t.period = 0) : relTick s t q = true := by
  rw [relTick, if_neg (by rw [hp]; decide), if_neg (by omega), Bool.and_eq_true]
  exact ⟨beq_iff_eq.2 h, beq_iff_eq.2 he⟩

/-! What starts (R85, R97). -/

theorem startRel_task {r : Rel} (hw : (s.cx c.val).wait = some r) (hl : r.prog.lib = none) : startRel c.val s =
    { s.modCx c.val (fun x => { x with wait := none, rel := some { r with start := startOf s (engOfCtx c.val) r.tick } }) with
      clk := { s.clk with released := true } } := by
  unfold startRel
  rw [hw]
  dsimp only
  rw [if_neg (by rw [hl]; exact Bool.false_ne_true)]
  have hctx : vmod (vmod s.ctx c.val fun x => { x with wait := none }) c.val (fun x => { x with rel := some { r with
      start := startOf s (engOfCtx c.val) r.tick } }) = vmod s.ctx c.val fun x => { x with wait := none, rel := some { r with
      start := startOf s (engOfCtx c.val) r.tick } } := vmod_vmod ..
  rw [State.modCx, State.modCx, State.modCx]
  dsimp only
  rw [hctx]

/-- A release of a task that is not of the library starts. -/
theorem dispatch_starts (h : taskAt s c.val = some t) (hl : t.lib = none) (hm : mayDispatch s c.val = true)
    (hw : (s.cx c.val).wait = none) : ∃ u, Does (.releaseDispatch c) s u ∧ u.clk.released = true ∧ (u.cx c.val).reason = 0 ∧
      u.chan = s.chan ∧ (u.cx c.val).wait = none ∧ (u.cx c.val).lastTick = some s.now ∧
      ∃ r, (u.cx c.val).rel = some r ∧ r.pc = 0 ∧ r.tick = s.now ∧ r.cyc = 0 ∧ r.calls = [] ∧ r.staged = [] ∧
        r.prog.num = t.num ∧ r.ports.length = 16 * t.chans.length := by
  obtain ⟨_, hchan, _, hlast, hreason, v, ph, st, hnow, hwait⟩ := prepare_effect (c := c) (t := t) s
  have hd : dispatch c.val t s = startRel c.val (prepare c.val t s) := by
    rw [dispatch, hw]
    rfl
  obtain ⟨w, hwv⟩ : ∃ w, w = prepare c.val t s := ⟨_, rfl⟩
  have hu := dispatch_does h hm
  rw [hd, ← hwv, startRel_task (hwv ▸ hwait) hl] at hu
  rw [← hwv] at hchan hlast hreason
  refine ⟨_, hu, rfl, ?_, hchan, ?_, ?_, _, congrArg Context.rel (State.modCx_cx_val ..), rfl, hnow, rfl, rfl, rfl, rfl,
    relOf_ports_length (c := c) _⟩
  · exact (congrArg Context.reason (State.modCx_cx_val ..)).trans hreason
  · exact congrArg Context.wait (State.modCx_cx_val ..)
  · exact (congrArg Context.lastTick (State.modCx_cx_val ..)).trans hlast

/-- A release that waits starts with the words fixed for it. -/
theorem dispatch_waiting {r : Rel} (h : taskAt s c.val = some t) (hm : mayDispatch s c.val = true)
    (hw : (s.cx c.val).wait = some r) (hl : r.prog.lib = none) : Does (.releaseDispatch c) s
    { s.modCx c.val (fun x => { x with wait := none, rel := some { r with start := startOf s (engOfCtx c.val) r.tick } }) with
      clk := { s.clk with released := true } } := by
  have hd : dispatch c.val t s = startRel c.val s := by
    rw [dispatch, hw]
    rfl
  have hu := dispatch_does h hm
  rwa [hd, startRel_task hw hl] at hu

end
end Sys2Proof.Claims
end

section
/-!
PROOF. What the release of a library task leaves (R63, R65): the clock, and the release and the waiting words of its context. The state
operations of the library, and the Rectifier, Battery string, Feed and Tie templates.
-/
namespace Sys2Proof.Claims
open Sys2Proof Sys2Proof.Machine

section
variable {s u v : State} {c : Ctx} {t : Task}

theorem Still.refl (s : State) : Still c s s := ⟨rfl, rfl, rfl⟩
theorem Still.trans (h : Still c s u) (h' : Still c u v) : Still c s v :=
  ⟨h'.clk.trans h.clk, h'.wait.trans h.wait, h'.rel.trans h.rel⟩
theorem Still.ite {p : Prop} [Decidable p] (h : Still c s u) (h' : Still c s v) : Still c s (if p then u else v) := by
  split
  · exact h
  · exact h'
theorem Still.foldl {α : Type} {f : State → α → State} (hf : ∀ s a, Still c s (f s a)) (l : List α) (s : State) :
    Still c s (l.foldl f s) := by
  induction l generalizing s with
  | nil => exact .refl s
  | cons a l ih => exact (hf s a).trans (ih (f s a))

theorem still_of (hk : u.clk = s.clk) (hx : u.ctx = s.ctx) : Still c s u := by
  refine ⟨hk, ?_, ?_⟩
  · rw [State.cx, hx]
    rfl
  · rw [State.cx, hx]
    rfl

theorem Occurs.still (h : Occurs s u) : Still c s u := still_of h.clk h.ctx
theorem PortsOnly.still (h : PortsOnly s u) : Still c s u := still_of h.clk h.ctx

/-! The operations of the library (R63 to R65, R254 to R256). -/

theorem still_modCx (s : State) (f : Context → Context) (hw : ∀ x, (f x).wait = x.wait) (hr : ∀ x, (f x).rel = x.rel) :
    Still c s (s.modCx c.val f) := (readies_modCx s f hw hr).toStill

theorem still_modLib (f : LibSt → LibSt) (s : State) : Still c s (modLib c.val f s) := still_modCx s _ (fun _ => rfl) fun _ => rfl
theorem still_parmPut (a : Nat) (x : W) (s : State) : Still c s (parmPut t a x s) := still_of rfl rfl
theorem still_libHead (st reason : Nat) (b : Bool) (s : State) : Still c s (libHead t st reason b s) := still_of rfl rfl
theorem still_joinPut (k : Nat) (x : W) (s : State) : Still c s (joinPut k x s) := still_of rfl rfl
theorem still_libStage (rt : Nat) (cmd : W) (mode : Nat) (s : State) : Still c s (libStage t rt cmd mode s) := still_of rfl rfl
theorem still_memberPut (id n a : Nat) (x : W) (s : State) : Still c s (memberPut id n a x s) := by
  unfold memberPut
  split
  · exact still_parmPut ..
  · exact .refl s
theorem still_raisePP (n : Nat) (cls : EvClass) (code k : Nat) (s : State) : Still c s (raisePP n cls code k t s) :=
  (occurs_raiseP ..).still
theorem still_orFree (x : Option W) (s : State) : Still c s (orFree x s).2 := by
  unfold orFree
  split
  · exact .refl s
  · exact still_of rfl rfl

theorem still_libSample (r : Rel) (s : State) : Still c s (libSample c.val r s) := by
  unfold libSample
  exact still_modLib ..
theorem still_libMean (a : Nat) (b : Bool) (s : State) : Still c s (libMean c.val t a b s) := by
  unfold libMean
  exact .ite (.refl s) (still_parmPut ..)
theorem still_libLoss (r : Rel) (s : State) : Still c s (libLoss t r s) := by
  unfold libLoss
  exact (still_orFree (lossOf s (libCh t) (libPort r 1).toInt (libPort r 2).toInt) s).trans (still_parmPut ..)

/-! Feed (R257 to R262). -/

theorem still_feedStore (f : FeedW) (st rt : Nat) (b : Bool) (s : State) : Still c s (feedStore c.val t f st rt b s) := by
  unfold feedStore
  extract_lets cool s1 s2 o s3
  have h1 : Still c s s1 := (still_libHead (t := t) f.st f.reason b s).trans
    ((still_parmPut ..).trans ((still_parmPut ..).trans (still_parmPut ..)))
  have h2 : Still c s1 s2 := still_modLib ..
  have h3 : Still c s2 s3 := still_libStage ..
  refine (h1.trans (h2.trans h3)).trans (Still.foldl ?_ f.ev s3)
  exact fun v e => still_raisePP ..

theorem still_feedRun (r : Rel) (s : State) : Still c s (feedRun c.val t r s) := by
  unfold feedRun
  extract_lets st s1 s2 f0 f1 f2 trip f3 f4 f5 f6 f7 f8
  have h1 : Still c s s1 := (still_libSample r s).trans (still_libMean ..)
  have h2 : Still c s1 s2 := still_parmPut ..
  exact (h1.trans h2).trans ((still_feedStore ..).trans (still_libLoss ..))

/-! Rectifier (R263). -/

theorem still_rectRun (r : Rel) (s : State) : Still c s (rectRun c.val t r s) := by
  have hm : Still c s (libMean c.val t 17 true (libMean c.val t 16 false (libSample c.val r s))) :=
    (still_libSample r s).trans ((still_libMean ..).trans (still_libMean ..))
  unfold rectRun
  generalize libMean c.val t 17 true (libMean c.val t 16 false (libSample c.val r s)) = w at hm
  dsimp only
  refine hm.trans (.trans (.trans (.ite ?_ (.ite ?_ ?_)) (still_libHead ..)) (still_libLoss ..))
  · exact (still_parmPut ..).trans ((still_modLib ..).trans (still_libStage ..))
  · exact (still_parmPut ..).trans ((still_modLib ..).trans (still_libStage ..))
  · exact (still_parmPut ..).trans (still_modLib ..)

/-! Battery string (R264, R265). -/

theorem still_ledgerAbsent (n : Nat) (b : Bool) (s : State) : Still c s (ledgerAbsent n b s) := by
  unfold ledgerAbsent
  split
  · exact still_of rfl rfl
  · exact .refl s

theorem still_stringAbsent (s : State) : Still c s (stringAbsent c.val t s) := by
  unfold stringAbsent
  exact (still_ledgerAbsent ..).trans ((still_modLib ..).trans (occurs_raiseC ..).still)

theorem still_stringRest (s : State) : Still c s (stringRest c.val t s) := by
  unfold stringRest
  exact (still_ledgerAbsent ..).trans ((still_modLib ..).trans (still_libHead ..))

theorem still_stringCheck (r : Rel) (s : State) : Still c s (stringCheck c.val t r s).2 := by
  unfold stringCheck
  split
  · exact .refl s
  · split
    next bound s1 he =>
      have h1 : Still c s s1 := by
        have he2 : (s.draw 0 0xFFFFFFFF).2 = s1 := congrArg Prod.snd he
        rw [← he2]
        exact still_of rfl rfl
      extract_lets bad cnt s2
      have h2 : Still c s s2 := h1.trans (still_modCx _ _ (fun _ => rfl) fun _ => rfl)
      split
      · exact h2.trans (occurs_raise ..).still
      · exact h2

theorem still_battRun (r : Rel) (s : State) : Still c s (battRun c.val t r s) := by
  unfold battRun
  extract_lets n st fresh w cs fin
  have hw : Still c s w := (still_libSample r s).trans ((still_libMean ..).trans (still_parmPut ..))
  have hfin : ∀ w : State, Still c w (fin w) := fun w => still_libLoss ..
  clear_value w fin
  have hstage : ∀ (w : State) (cmd : W) (m k reason : Nat) (b : Bool),
      Still c w (fin (libStage t r.tick cmd m (libHead t k reason b w))) := fun w cmd m k reason b =>
    (still_libHead ..).trans ((still_libStage ..).trans (hfin _))
  split
  next chk v he =>
  have hc : Still c s v := by
    have he2 : (stringCheck c.val t r w).2 = v := congrArg Prod.snd he
    rw [← he2]
    exact hw.trans (still_stringCheck ..)
  extract_lets gone valid st0 inside s1 need1 s2 x kp ki
  have h1 : Still c v s1 := .ite (still_modLib ..) (.refl v)
  have h2 : Still c s1 s2 := .ite (still_stringRest _) (still_libHead ..)
  clear_value s1 s2
  split
  · exact (hc.trans (still_stringAbsent _)).trans (hstage ..)
  · split
    · exact (hc.trans (h1.trans h2)).trans ((still_libStage ..).trans (hfin _))
    · split
      · exact hc.trans (hstage ..)
      · split
        · exact hc.trans ((still_libHead ..).trans (hfin _))
        · exact (hc.trans (still_modLib ..)).trans (hstage ..)

/-! Tie (R317, R318, R324). -/

theorem portsOnly_tiePrefStep (p : Nat) (s : State) : PortsOnly s (tiePrefStep p s) := by
  unfold tiePrefStep
  exact .ite (portsOnly_modTp ..) (.refl s)

theorem portsOnly_tpAsk (p op : Nat) (pay : List Byte) (s : State) : PortsOnly s (tpAsk p op pay s) :=
  (portsOnly_tpSend ..).trans (portsOnly_modTp ..)

theorem portsOnly_tieTerms (p : Nat) (s : State) : PortsOnly s (tieTerms p s) := by
  unfold tieTerms
  extract_lets l s1 s2
  have h1 : PortsOnly s s1 := .ite (portsOnly_tpSend ..) (portsOnly_tpAsk ..)
  have h2 : PortsOnly s s2 := h1.trans (portsOnly_modTp ..)
  have h3 : PortsOnly s2 (s2.modTp p fun x => { x with turning := false }) := portsOnly_modTp ..
  exact .ite (h2.trans (h3.trans ((portsOnly_turnSeen ..).trans (occurs_tieRaise ..).ports))) h2

theorem portsOnly_tieOfferStep (p : Nat) (rest : Bool) (s : State) : PortsOnly s (tieOfferStep p rest s) := by
  unfold tieOfferStep
  extract_lets x l keep
  refine .ite (.ite (.ite (portsOnly_modTp ..) (.refl s)) (.ite (portsOnly_modTp ..) ?_)) (.refl s)
  have h1 : PortsOnly s (if keep then s else tieEndLease p s) := .ite (.refl s) (portsOnly_tpSet ..)
  exact h1.trans (portsOnly_tieTerms ..)

theorem portsOnly_tieTurnStep (p : Nat) (s : State) : PortsOnly s (tieTurnStep p s) := by
  unfold tieTurnStep
  refine .ite ?_ (.refl s)
  unfold tieTurnSend
  exact (occurs_fresh s (s.fresh + 1)).ports.trans ((portsOnly_tpAsk ..).trans (portsOnly_modTp ..))

theorem still_tieRun (r : Rel) (s : State) : Still c s (tieRun c.val t r s) := by
  unfold tieRun
  extract_lets n port rest sOff p w x slew lim0 lim feeder closed err x0
  have ho : Still c s sOff := ((portsOnly_tiePrefStep port s).still.trans (portsOnly_tieOfferStep ..).still).trans
    (portsOnly_tieTurnStep ..).still
  have hw : Still c sOff w := (still_libSample r sOff).trans (still_libMean ..)
  clear_value w
  split
  split
  extract_lets s1 s2 s3
  have h1 : Still c w s1 := still_modLib ..
  have h2 : Still c s1 s2 := still_libHead ..
  have h3 : Still c s2 s3 := .ite (still_libStage ..) (.ite (still_libStage ..) (.refl s2))
  exact (ho.trans hw).trans ((h1.trans (h2.trans h3)).trans (still_libLoss ..))

end
end Sys2Proof.Claims
end

section
/-!
PROOF. The same of the supervisory tasks Share, Hold-up, Cap and Charge (R266 to R275).
-/
namespace Sys2Proof.Claims
open Sys2Proof Sys2Proof.Machine

section
variable {s u v : State} {c : Ctx} {t : Task}

theorem still_memberPuts (id a : Nat) (x : State → Nat → W) (l : List Nat) (s : State) :
    Still c s (l.foldl (fun s n => memberPut id n a (x s n) s) s) := by
  refine Still.foldl ?_ l s
  exact fun v n => still_memberPut ..

/-! Share (R266, R267). -/

theorem still_shareRun (r : Rel) (s : State) : Still c s (shareRun c.val t r s) := by
  unfold shareRun
  extract_lets ms live peers amps nUsed avg x lim trim trims s1 s2 err s3 w20 m q s4
  have h1 : Still c s s1 := still_modLib ..
  have h2 : Still c s1 s2 := by
    refine Still.foldl ?_ trims s1
    exact fun v n => still_memberPut ..
  have h3 : Still c s2 s3 := .ite (still_parmPut ..) ((still_parmPut ..).trans ((still_parmPut ..).trans (still_parmPut ..)))
  have h4 : Still c s3 s4 := .ite (still_joinPut ..) (.refl s3)
  exact (h1.trans h2).trans (h3.trans (h4.trans (still_libHead ..)))

/-! Hold-up (R269). -/

theorem still_holdRaise (s : State) : Still c s (holdRaise c.val t s) := (occurs_raiseC ..).still

theorem still_holdLimit (x : W) (s : State) : Still c s (holdLimit c.val t x s) := by
  unfold holdLimit
  exact (still_modLib ..).trans (still_memberPuts ..)

theorem still_holdRun (on : Bool) (s : State) : Still c s (holdRun t on s) := still_memberPuts libRect 7 (fun _ _ => flag on 0) _ s

theorem still_holdSet (st : Nat) (s : State) : Still c s (holdSet c.val t st s) := by
  unfold holdSet
  extract_lets s1
  have h1 : Still c s s1 := (still_modLib ..).trans (still_libHead ..)
  clear_value s1
  split
  · exact h1.trans (still_holdRaise _)
  · exact h1.trans ((still_holdRun ..).trans ((still_holdLimit ..).trans (still_holdRaise _)))
  · exact h1.trans (still_parmPut ..)
  · exact h1.trans ((still_parmPut ..).trans ((still_holdRun ..).trans (still_holdLimit ..)))
  · exact h1

theorem still_holdTask (s : State) : Still c s (holdTask c.val t s) := by
  unfold holdTask
  extract_lets s0 rect batt s1 ib load s2 st ms none_ all s3 v s4
  have h0 : Still c s s0 := .ite (still_modLib ..) (.refl s)
  have h1 : Still c s0 s1 := still_memberPuts libBatt 4 (fun s n => iw (toCounts s n 0 (fsub (parm s t 4) (parm s t 5)))) batt s0
  have h2 : Still c s1 s2 := still_parmPut ..
  have h3 : Still c s s3 := .trans ((h0.trans h1).trans h2) (.ite (still_parmPut ..) (.refl s2))
  have h4 : Still c s s4 := h3.trans (still_holdLimit ..)
  refine .ite (h3.trans (still_holdSet ..)) (.ite (h3.trans (still_holdSet ..)) (.ite (h3.trans (still_holdSet ..))
    (.ite (h3.trans (still_holdSet ..)) (.ite (h3.trans (still_holdSet ..)) (.ite (.ite ?_ ?_) ?_)))))
  · exact h4.trans (still_holdSet ..)
  · exact h4.trans (still_libHead ..)
  · exact h3.trans (still_libHead ..)

/-! Cap (R270 to R272). -/

theorem still_capStart (s : State) : Still c s (capStart c.val t s) := by
  unfold capStart
  exact (still_parmPut ..).trans (still_modLib ..)

theorem still_capSettle (lim : W) (s : State) : Still c s (capSettle c.val t lim s) := by
  unfold capSettle
  extract_lets s1
  have h1 : Still c s s1 := still_parmPut ..
  exact h1.trans ((still_modLib ..).trans (still_libHead ..))

theorem still_capRaise (s : State) : Still c s (capRaise c.val t s) := by
  unfold capRaise
  extract_lets old new
  exact .ite (still_capSettle ..) ((still_parmPut ..).trans (still_modLib ..))

theorem still_capClassL (x : W) (s : State) : Still c s (capClassL c.val t x s) := by
  unfold capClassL
  extract_lets y vs low n s1
  have h1 : Still c s s1 := still_modLib ..
  refine .ite ?_ (.ite (.ite ?_ ?_) (.ite (.ite ?_ (.ite ?_ h1)) (.ite ?_ (.ite ?_ h1))))
  · exact (still_parmPut ..).trans (still_capStart _)
  · exact (still_parmPut ..).trans (still_modLib ..)
  · exact still_modLib ..
  · exact h1.trans (still_capSettle ..)
  · exact h1.trans (still_capRaise _)
  · exact h1.trans ((still_parmPut ..).trans (still_modLib ..))
  · exact h1.trans (still_capStart _)

theorem still_capClassV (x : W) (s : State) : Still c s (capClassV t x s) := by
  unfold capClassV
  exact still_parmPut ..

theorem still_capRestore (s : State) : Still c s (capRestore c.val s) := by
  unfold capRestore
  split
  · exact .ite ((still_memberPut ..).trans (still_modLib ..)) (.refl s)
  · exact .refl s

theorem still_capShed (s : State) : Still c s (capShed c.val t s) := by
  unfold capShed
  extract_lets allow sys s1 cut
  have h1 : Still c s s1 := still_modLib ..
  clear_value s1
  split
  · split
    · exact h1.trans ((still_memberPut ..).trans (still_modLib ..))
    · exact h1
  · exact h1.trans (still_capRestore _)

theorem still_capRun (r : Rel) (s : State) : Still c s (capRun c.val t r s) := by
  unfold capRun
  extract_lets cls vin s1 s2 ms run v load sys input allow s3 pa spare s4 s5 s6
  have h1 : Still c s s1 := .ite (still_capClassL ..) (.ite (still_capClassV ..) (.refl s))
  have h2 : Still c s1 s2 := still_modLib ..
  have h3 : Still c s2 s3 := by
    simp only [s3]
    generalize allow = a
    split
    · exact still_memberPuts libRect 5 (fun s n => memberWord s libRect n 9) run s2
    next _ p => exact still_memberPuts libRect 5 (fun s n => iw (toCounts s n 1 (fdiv p (fmul v (fnat run.length))))) run s2
  have h4 : Still c s3 s4 := (still_parmPut ..).trans ((still_parmPut ..).trans (still_parmPut ..))
  have h5 : Still c s4 s5 := .ite (still_joinPut ..) (.refl s4)
  have h6 : Still c s5 s6 := still_capShed s5
  exact (h1.trans (h2.trans h3)).trans ((h4.trans (h5.trans h6)).trans (still_libHead ..))

/-! Charge (R273 to R275). -/

theorem still_chargeLamps (ms : List (Nat × Nat)) (s : State) : Still c s (chargeLamps t ms s) := by
  unfold chargeLamps
  refine Still.foldl ?_ ms s
  intro v x
  extract_lets code pt s1
  have h1 : Still c v s1 := still_parmPut ..
  exact .ite h1 (h1.trans (still_of rfl rfl))

theorem still_chargeOffer (ms : List (Nat × Nat)) (s : State) : Still c s (chargeOffer t ms s) := by
  unfold chargeOffer
  extract_lets w ests valid mean ok
  refine .ite ?_ (.refl s)
  split
  · exact still_memberPut ..
  · exact .refl s

theorem still_chargeRun (s : State) : Still c s (chargeRun t s) := by
  unfold chargeRun
  extract_lets ms cap v total ok supply maxI share s1 st s2
  have h1 : Still c s s1 := by
    refine Still.foldl ?_ ms s
    exact fun v x => still_memberPut ..
  have h2 : Still c s1 s2 := (still_parmPut ..).trans ((still_chargeOffer ms _).trans (still_chargeLamps ms _))
  exact (h1.trans h2).trans (still_libHead ..)

end
end Sys2Proof.Claims
end

section
/-!
PROOF. The same of the Estimate task (R280 to R293).
-/
namespace Sys2Proof.Claims
open Sys2Proof Sys2Proof.Machine

section
variable {s u v : State} {c : Ctx} {t : Task}

theorem still_recDevice (id : BitVec 16) (pay : List W) (s : State) : Still c s (recDevice id pay s) := by
  obtain ⟨b, n, e⟩ := recUpdate_eq id 0 pay s
  have h1 : Still c s { s with nvs := n } := still_of rfl rfl
  unfold recDevice
  rw [e]
  cases b with
  | true => exact h1
  | false => exact h1.trans (occurs_raise ..).still

theorem still_estFlag (b : Nat) (x : Bool) (s : State) : Still c s (estFlag t b x s) := still_parmPut ..
theorem still_estRaise (cls : EvClass) (code : Nat) (s : State) : Still c s (estRaise c.val t cls code s) := still_raisePP ..
theorem still_estSave (s : State) : Still c s (estSave t s) := still_recDevice ..
theorem still_estSet (st reason : Nat) (s : State) : Still c s (estSet t st reason s) := (still_libHead ..).trans (still_estSave _)
theorem still_estUnblend (s : State) : Still c s (estUnblend c.val t s) := (still_modLib ..).trans (still_estFlag ..)
theorem still_estOcv (s : State) : Still c s (estOcv t s).2 := still_orFree ..
theorem still_estArm (s : State) : Still c s (estArm c.val t s) := by
  unfold estArm
  exact ((still_estFlag ..).trans (still_parmPut ..)).trans (still_modLib ..)

/-! What a step does (R281 to R292). -/

theorem still_estBlend (s : State) : Still c s (estBlend c.val t s) := by
  unfold estBlend
  refine .ite ?_ (.refl s)
  have h1 : Still c s (estOcv t s).2 := still_estOcv s
  generalize estOcv t s = x at h1
  obtain ⟨z, s1⟩ := x
  exact h1.trans ((still_modLib ..).trans (still_estFlag ..))

theorem still_estBlendDone (s : State) : Still c s (estBlendDone c.val t s) := by
  unfold estBlendDone
  extract_lets s1
  have h1 : Still c s s1 := still_estUnblend s
  exact .ite (.ite (h1.trans (still_estSet ..)) h1) (.refl s)

theorem still_estReturn (s : State) : Still c s (estReturn t s) := by
  unfold estReturn
  have h1 : Still c s (estOcv t s).2 := still_estOcv s
  generalize estOcv t s = x at h1
  obtain ⟨z, s1⟩ := x
  exact h1.trans ((still_parmPut ..).trans (still_estSet ..))

theorem still_estEmpty (x : W) (s : State) : Still c s (estEmpty c.val t x s).2 := by
  unfold estEmpty
  extract_lets v z was s1 s2
  have h1 : Still c s s1 := (still_parmPut ..).trans ((still_parmPut ..).trans (still_estFlag ..))
  have h2 : Still c s s2 := .ite h1 (h1.trans (still_estRaise ..))
  split
  · exact .ite (h2.trans ((still_estFlag ..).trans (still_estRaise ..))) h2
  · split
    · exact (still_parmPut ..).trans ((still_parmPut ..).trans (still_estFlag ..))
    · exact (still_estFlag ..).trans (still_estFlag ..)

theorem still_estWarn (s : State) : Still c s (estWarn c.val t s) := by
  unfold estWarn
  refine Still.foldl ?_ _ s
  intro v k
  extract_lets lv soc w
  exact .ite ((still_modLib ..).trans (still_estRaise ..)) (.ite (still_modLib ..) (.refl v))

theorem still_estCandidate (x : W) (b : Bool) (s : State) : Still c s (estCandidate c.val t x b s) := by
  unfold estCandidate
  extract_lets old n s1
  have h1 : Still c s s1 := (still_parmPut ..).trans ((still_parmPut ..).trans (still_recDevice ..))
  exact .ite (.refl s) (.ite (h1.trans (still_estRaise ..)) ((still_estFlag ..).trans (still_estRaise ..)))

theorem still_estLearn (dq : W) (full empty : Bool) (s : State) : Still c s (estLearn c.val t dq full empty s) := by
  unfold estLearn
  extract_lets valid band s0 s1 s2 main mainC s3 x point bandOk
  have h0 : Still c s s0 := still_modLib ..
  have h1 : Still c s0 s1 := still_parmPut ..
  have h2 : Still c s0 s2 := .ite (.ite (h1.trans (still_estFlag ..)) h1) (.ite (still_estFlag ..) (.refl s0))
  have h3 : Still c s2 s3 := .ite (still_estFlag ..) (.refl s2)
  have hs3 : Still c s s3 := (h0.trans h2).trans h3
  have hocv : Still c s (estOcv t s3).2 := hs3.trans (still_estOcv s3)
  clear_value s3 point
  split
  · generalize estOcv t s3 = y at hocv
    split
    next z v =>
    extract_lets g q dz cand new s4 s5
    have h4 : Still c v s4 := still_modLib ..
    have h5 : Still c s4 s5 := (still_parmPut ..).trans ((still_parmPut ..).trans (still_modLib ..))
    refine Still.trans (u := v) hocv (h4.trans ?_)
    exact .ite (still_estCandidate ..) (h5.trans (.ite (still_estCandidate ..) (.ite (still_estCandidate ..) (.refl s5))))
  · exact hs3.trans (.ite (still_estCandidate ..) (.refl s3))

theorem still_estCount (dq : W) (dt : Nat) (s : State) : Still c s (estCount c.val t dq dt s).2 := by
  unfold estCount
  extract_lets raw all
  split
  · exact still_parmPut ..
  · extract_lets d s1
    have h1 : Still c s s1 := still_parmPut ..
    refine h1.trans ?_
    dsimp only
    exact still_modLib ..

theorem still_estMeasure (dq : W) (dt : Nat) (slow : Bool) (s : State) : Still c s (estMeasure c.val t dq dt slow s) := by
  unfold estMeasure
  extract_lets i s1 s2 taper rest
  have h1 : Still c s s1 := (still_parmPut ..).trans (still_estFlag ..)
  have h2 : Still c s1 s2 := (still_parmPut ..).trans (still_parmPut ..)
  exact (h1.trans h2).trans ((still_modLib ..).trans (still_estFlag ..))

theorem still_estSoc (s : State) : Still c s (estSoc t s) := by
  unfold estSoc
  have h1 : Still c s (orFree (ocvSoc (estTable s t) (parm s t 7) (parm s t 38)) s).2 := still_orFree ..
  generalize orFree (ocvSoc (estTable s t) (parm s t 7) (parm s t 38)) s = x at h1
  obtain ⟨z, s1⟩ := x
  exact h1.trans ((still_parmPut ..).trans ((still_parmPut ..).trans (still_parmPut ..)))

theorem still_estStep (slow : Bool) (s : State) : Still c s (estStep c.val t slow s) := by
  unfold estStep
  extract_lets x g dq dt before newGap stale2
  have h1 : Still c s (estCount c.val t dq dt (estMeasure c.val t dq dt slow s)).2 := (still_estMeasure ..).trans (still_estCount ..)
  generalize estCount c.val t dq dt (estMeasure c.val t dq dt slow s) = y at h1
  split
  next blended s1 =>
  extract_lets s2 check ok st s3 s4 s5
  have h2 : Still c s1 s2 := still_modLib ..
  have h3 : Still c s s3 := Still.trans (u := s1) h1 (h2.trans (still_modLib ..))
  have h4 : Still c s3 s4 := ((still_parmPut ..).trans ((still_estUnblend _).trans (still_estFlag ..))).trans (still_modLib ..)
  have h5 : Still c s3 s5 := still_parmPut ..
  have h7 : Still c s3 (estEmpty c.val t before (estSoc t s3)).2 := (still_estSoc s3).trans (still_estEmpty ..)
  clear_value s3 s4 s5
  refine h3.trans (.ite (.ite (.refl s3) ?_) (.ite (.ite (still_estSet ..) (.refl s3)) (.ite (.ite h4 (h4.trans (still_estSet ..)))
    (.ite (.ite (h5.trans ((still_estReturn _).trans (still_estSoc _))) h5) ?_))))
  · exact (still_estUnblend s3).trans ((still_estFlag ..).trans (still_estSet ..))
  · generalize estEmpty c.val t before (estSoc t s3) = y at h7
    split
    next empty s7 =>
    extract_lets held full s8 s9 s10 s11 s12
    have h8 : Still c s7 s8 := .ite ((still_estFlag ..).trans ((still_parmPut ..).trans (still_parmPut ..)))
      (.ite (still_estFlag ..) (.refl s7))
    have h9 : Still c s8 s9 := still_estWarn s8
    have h10 : Still c s9 s10 := .ite (.ite (still_estSet ..) (.refl s9)) (.ite ((still_estUnblend s9).trans (still_estSet ..))
      (.ite ((still_estUnblend s9).trans (still_estSet ..)) (.ite (still_estBlendDone s9) (.refl s9))))
    have h11 : Still c s10 s11 := .ite (still_estArm s10) (.refl s10)
    have h12 : Still c s11 s12 := still_estLearn ..
    refine Still.trans (u := s7) h7 ((h8.trans (h9.trans h10)).trans ((h11.trans h12).trans ?_))
    exact .ite (still_estBlend s12) (.refl s12)

theorem still_recRecall (id : BitVec 16) (s : State) : Still c s (recRecall id s).2.2 := by
  unfold recRecall
  split
  · split
    · exact .refl s
    · exact .refl s
  · exact (readies_recChoose id s).toStill

theorem still_estCold (s : State) : Still c s (estCold c.val t s) := by
  unfold estCold
  extract_lets g
  have h1 : Still c s (recRecall ((parm s t 20).extractLsb' 0 16) s).2.2 := still_recRecall ..
  generalize recRecall ((parm s t 20).extractLsb' 0 16) s = y at h1
  split
  next rc cap s1 =>
  have h2 : Still c s (recRecall ((parm s t 20).extractLsb' 16 16) s1).2.2 := .trans (u := s1) h1 (still_recRecall ..)
  generalize recRecall ((parm s t 20).extractLsb' 16 16) s1 = y at h2
  split
  next rs rec s2 =>
  extract_lets s3 s4 s5
  have h3 : Still c s2 s3 := .ite (still_parmPut ..) ((still_parmPut ..).trans (still_parmPut ..))
  have h4 : Still c s3 s4 := .ite ((still_estFlag ..).trans (still_estRaise ..)) (.refl s3)
  have h5 : Still c s4 s5 := (still_parmPut ..).trans ((still_parmPut ..).trans (still_parmPut ..))
  have hs5 : Still c s s5 := Still.trans (u := s2) h2 ((h3.trans h4).trans h5)
  clear_value s5
  have h6 : Still c s (if (rs != 3 && lat rec 0 0 == nw (estLedger s t)) = true then (lat rec 1 0, s5) else estOcv t s5).2 := by
    split
    · exact hs5
    · exact hs5.trans (still_estOcv s5)
  generalize (if (rs != 3 && lat rec 0 0 == nw (estLedger s t)) = true then (lat rec 1 0, s5) else estOcv t s5) = y at h6
  split
  next z s6 =>
  extract_lets s7 s8
  have h7 : Still c s6 s7 := (still_parmPut ..).trans ((still_estFlag ..).trans (still_estFlag ..))
  have h8 : Still c s7 s8 := still_modLib ..
  refine Still.trans (u := s6) h6 ((h7.trans h8).trans ?_)
  exact .ite (still_estSet ..) (.ite ((still_parmPut ..).trans (still_estSet ..)) ((still_estSoc s8).trans (still_estSet ..)))

theorem still_estRun (s : State) : Still c s (estRun c.val t s) := by
  unfold estRun
  extract_lets s0 x i fast s1 s2
  have h0 : Still c s s0 := still_modLib ..
  have h1 : Still c s0 s1 := .ite (still_estCold _) (.ite (still_estStep ..) (.ite (still_estStep ..) (.refl s0)))
  have h2 : Still c s1 s2 := .ite (still_estSave _) (.refl s1)
  exact ((h0.trans h1).trans h2).trans (still_libHead ..)

end
end Sys2Proof.Claims
end

section
/-!
PROOF. The release of a library task runs whole in the command that starts it (R63), and `Obligations.ServiceAndDispatch`.
-/
namespace Sys2Proof.Claims
open Sys2Proof Sys2Proof.Machine

section
variable {s u v : State} {c : Ctx} {t : Task}

theorem still_libRun (r : Rel) (s : State) : Still c s (libRun c.val t r s) := by
  unfold libRun
  exact .ite (still_rectRun ..) (.ite (still_battRun ..) (.ite (still_feedRun ..) (.ite (still_tieRun ..) (.ite (still_shareRun ..)
    (.ite (still_capRun ..) (.ite (still_holdTask _) (.ite (still_chargeRun _) (still_estRun _))))))))

/-! The end of a release (R38, R42, R135, R139). -/

theorem still_armCounts (r : Rel) (s : State) : Still c s (armCounts r s) := by
  unfold armCounts
  refine .ite (.refl s) (Still.foldl ?_ _ s)
  intro v i
  split
  · exact .ite (still_of rfl rfl) (.refl v)
  · exact .refl v

theorem still_engDone (e start cost : Nat) (s : State) : Still c s (engDone e start cost s) :=
  still_of ((State.modStat_clk ..).trans (State.modEng_clk ..)) ((State.modStat_ctx ..).trans (State.modEng_ctx ..))

/-- A relayed task's context moves and leaves an empty one behind. -/
theorem moveCtx_idle (b : Nat) (s : State) : (moveCtx c.val b s).clk = s.clk ∧ ((moveCtx c.val b s).cx c.val).rel = none ∧
    ((moveCtx c.val b s).cx c.val).wait = none := by
  obtain ⟨w, hw⟩ : ∃ w, w = s.modCx c.val fun _ => { Context.init with task := none } := ⟨_, rfl⟩
  have hcx : w.cx c.val = { Context.init with task := none } := by rw [hw, State.modCx_cx_val]
  have hmove : moveCtx c.val b s = w.modCx b fun _ => { s.cx c.val with rel := none, wait := none } := by rw [hw]; rfl
  rw [hmove]
  refine ⟨by rw [hw]; rfl, ?_⟩
  by_cases hb : b = c.val
  · subst hb
    rw [State.modCx_cx_val]
    exact ⟨rfl, rfl⟩
  · rw [State.modCx_cx_ne _ hb, hcx]
    exact ⟨rfl, rfl⟩

theorem relayMove_idle (s : State) (hr : (s.cx c.val).rel = none) (hw : (s.cx c.val).wait = none) :
    (relayMove c.val s).clk = s.clk ∧ ((relayMove c.val s).cx c.val).rel = none ∧ ((relayMove c.val s).cx c.val).wait = none := by
  unfold relayMove
  split
  · exact ⟨rfl, hr, hw⟩
  · split
    · exact ⟨rfl, hr, hw⟩
    · exact moveCtx_idle _ s

theorem endRelease_idle (k : Nat) (r : Rel) (s : State) (hw : (s.cx c.val).wait = none) :
    (endRelease c.val k r s).clk = s.clk ∧ ((endRelease c.val k r s).cx c.val).rel = none ∧
      ((endRelease c.val k r s).cx c.val).wait = none := by
  unfold endRelease
  extract_lets e ws s1 s2 s3 s4
  have h1 : Still c s s1 := .ite (still_of (State.modEng_clk ..) (State.modEng_ctx ..)) (still_modCx s _ (fun _ => rfl) fun _ => rfl)
  have h2 : Still c s1 s2 := still_armCounts r s1
  have h3 : Still c s2 s3 := still_engDone ..
  have h := (h1.trans h2).trans h3
  have h4 : s4.clk = s.clk ∧ (s4.cx c.val).rel = none ∧ (s4.cx c.val).wait = none := by
    have hcx : s4.cx c.val = { s3.cx c.val with rel := none } := State.modCx_cx_val ..
    rw [hcx]
    exact ⟨h.clk, rfl, h.wait.trans hw⟩
  clear_value s4
  obtain ⟨hk, hrel, hwait⟩ := h4
  split
  · exact ⟨hk, hrel, hwait⟩
  · obtain ⟨v, hv⟩ : ∃ v : State, v = { s4 with prl := { s4.prl with sdigSets := s4.prl.sdigSets ++ [(e, (s4.engine e).busy, ws.take 41)] } } :=
      ⟨_, rfl⟩
    have hcx : v.cx c.val = s4.cx c.val := by rw [hv]; rfl
    have hclk : v.clk = s4.clk := by rw [hv]
    rw [← hv]
    obtain ⟨h1, h2, h3⟩ := relayMove_idle v (by rw [hcx]; exact hrel) (by rw [hcx]; exact hwait)
    exact ⟨h1.trans (hclk.trans hk), h2, h3⟩

/-- A release of a library task is one run of the library and its end; a shadow runs nothing. -/
theorem startRel_runs {r : Rel} (hw : (s.cx c.val).wait = some r) (hl : r.prog.lib ≠ none) : ∃ k n r1, k.released = true ∧
    let s1 : State := { s.modCx c.val (fun x => { x with wait := none }) with clk := k }
    startRel c.val s = if r.shadow then s1 else endRelease c.val n r1 (libRun c.val r.prog r1 s1) := by
  unfold startRel
  rw [hw]
  dsimp only
  rw [if_pos (Option.isSome_iff_ne_none.2 hl)]
  exact ⟨{ s.clk with released := true }, _, _, rfl, rfl⟩

/-- A library task's release starts, runs and ends. -/
theorem startRel_library {r : Rel} (hw : (s.cx c.val).wait = some r) (hl : r.prog.lib ≠ none) (hr : (s.cx c.val).rel = none) :
    (startRel c.val s).clk.released = true ∧ ((startRel c.val s).cx c.val).rel = none ∧
      ((startRel c.val s).cx c.val).wait = none := by
  obtain ⟨k, n, r1, hk, e⟩ := startRel_runs hw hl
  obtain ⟨s1, hs1⟩ : ∃ v : State, v = { s.modCx c.val (fun x => { x with wait := none }) with clk := k } := ⟨_, rfl⟩
  have hcx : s1.cx c.val = { s.cx c.val with wait := none } := by
    rw [hs1]
    exact State.modCx_cx_val s c fun x => { x with wait := none }
  have h1 : s1.clk.released = true := by rw [hs1]; exact hk
  rw [e]
  dsimp only
  rw [← hs1]
  split
  · rw [hcx]
    exact ⟨h1, hr, rfl⟩
  · have h2 : Still c s1 (libRun c.val r.prog r1 s1) := still_libRun ..
    obtain ⟨h3, hrel, hwait⟩ := endRelease_idle (c := c) n r1 _ (h2.wait.trans (by rw [hcx]))
    refine ⟨?_, hrel, hwait⟩
    rw [h3, h2.clk]
    exact h1

theorem dispatch_library (h : taskAt s c.val = some t) (hl : t.lib ≠ none) (hm : mayDispatch s c.val = true)
    (hw : (s.cx c.val).wait = none) : ∃ u, Does (.releaseDispatch c) s u ∧ u.clk.released = true ∧ (u.cx c.val).rel = none ∧
      (u.cx c.val).wait = none := by
  obtain ⟨_, _, hrel, _, _, v, ph, st, _, hwait⟩ := prepare_effect (c := c) (t := t) s
  have hd : dispatch c.val t s = startRel c.val (prepare c.val t s) := by
    rw [dispatch, hw]
    rfl
  obtain ⟨_, _, hi⟩ := mayDispatch_needs hm
  have hu := dispatch_does h hm
  rw [hd] at hu
  exact ⟨_, hu, startRel_library hwait hl (hrel.trans (engineIdle_rel c hi c.isLt rfl))⟩

end

/-- Settles O26: a service is the device work and the rows of Table 7.4 on the state marked as served, and leaves the clock
(`seqService_effect`, `seqService_rows`); a dispatch prepares the release and starts it, and a library task's release runs whole
(`dispatch_starts`, `dispatch_library`). -/
theorem serviceAndDispatch : Obligations.ServiceAndDispatch := by
  unfold Obligations.ServiceAndDispatch
  refine ⟨fun s c t h => ⟨fun hrun hf hq hall => ?_, fun hn => ?_⟩, fun s c t q h hp hl => ⟨?single, ?starts, ?waiting⟩,
    fun s c t h hl hm hw => dispatch_library h hl hm hw, fun s c hm => dispatch_idle hm, fun s c hn => mayDispatch_not hn⟩
  · exact seqService_serves h (serviceDue_of hrun hf hq hall)
  · exact seqService_idle h (serviceDue_not hn)
  case single =>
    intro hrun hh hf hb hrel hplace hctx htask hwait hlast hdisp
    have may : relTick s t q = true → mayDispatch s c.val = true := fun htick =>
      mayDispatch_single hrun hh hf hb hrel hplace hctx hwait h
        (dueNow_of hctx htask h hp htick hlast (hrel c.val c.isLt rfl) hdisp)
    exact ⟨fun hprof h0 htc => dispatch_starts h hl (may (relTick_l hprof h0 htc)) hwait,
      fun hprof h0 htc => dispatch_starts h hl (may (relTick_u_zero hprof h0 htc)) hwait,
      fun hprof h0 htc he => dispatch_starts h hl (may (relTick_u hprof h0 htc he)) hwait⟩
  case starts => exact fun hm hw => dispatch_starts h hl hm hw
  case waiting => exact fun r hm hw hlr => dispatch_waiting h hm hw hlr

end Sys2Proof.Claims
end
